-- ==== Sys2Proof/Word.lean ====
section
/-! DEFINITION. The word types of the Pentium processor (spec 20_memory.md R202) and the
operand/address size attribute (00_scope.md R21). -/

namespace Sys2Proof

/-- Bits 7 to 0 (R202). -/
abbrev Byte := BitVec 8
/-- A word of the source: 16 bits (R202). -/
abbrev Half := BitVec 16
/-- A doubleword of the source: 32 bits (R202). -/
abbrev Word := BitVec 32

/-- A size attribute: `os`, `as` or `ss`, 16 or 32 (R21). -/
inductive Size where
  | s16
  | s32
  deriving DecidableEq, Repr

/-- The number of bits of a size attribute. -/
def Size.bits : Size → Nat
  | .s16 => 16
  | .s32 => 32

/-- The number of bytes of a size attribute. -/
def Size.bytes : Size → Nat
  | .s16 => 2
  | .s32 => 4

/-- The other size: what a 66H or 67H prefix selects (30_encoding.md R405). -/
def Size.flip : Size → Size
  | .s16 => .s32
  | .s32 => .s16

end Sys2Proof
end

