-- ==== Sys2Proof/Config.lean ====
section
/-! DEFINITION. What the spec leaves to the implementation (00_scope.md R10) and the free values
(R27: a "draw" is any value of the stated width). Every constant here is opaque: it has no body, so no
proof can learn its value, and a theorem holds whatever it is. -/

namespace Sys2Proof

/-- The k-th draw of width `w` (R27, decision D1): the value an undefined result, flag or field takes.
`State.draws` counts the draws consumed, so two draws of a run are unrelated. -/
opaque Config.draw (w k : Nat) : BitVec w

/-- `stepping_id`: DL after RESET (R10, 70_reset_and_hazards.md R1601). -/
opaque Config.steppingId : Byte
/-- `cpuid_stepping`: CPUID EAX[3:0] (R10, 45_flag_segment_misc.md R850). -/
opaque Config.cpuidStepping : BitVec 4
/-- `cpuid_model`: CPUID EAX[7:4] (R10, R850). -/
opaque Config.cpuidModel : BitVec 4
/-- `cpuid_features`: EDX after CPUID with EAX = 1 (R10, R850). -/
opaque Config.cpuidFeatures : Word
/-- `bist_result`: EAX after a RESET that requested the built-in self test (R10, R1615). -/
opaque Config.bistResult : Word
/-- `smm_revision`: bits 15:0 of the SMM revision identifier (R10, 63_smm.md R1459). -/
opaque Config.smmRevision : Half
/-- `tsc_step` less one: how far the time stamp counter moves at step `k` beyond the one count that makes
the amount positive (R10, 11_state_system.md R166, decision D54). -/
opaque Config.tscExtra (k : Nat) : Nat

/-- The exact-result functions of the transcendental instructions (47_fpu_numerics.md R1034). -/
inductive Transcendental where
  | f2xm1 | fsin | fcos | fptan | fpatan | fyl2x | fyl2xp1
  deriving DecidableEq, Repr

/-- A rounded real with an exponent not yet limited to a format: the value is
`(-1)^neg * sig * 2^(exp - 63)` with `sig` a 64-bit significand (bit 63 the integer bit), and `up` says that
rounding moved the magnitude upward (R1005 "roundup"). -/
structure RoundedReal where
  neg : Bool
  exp : Int
  sig : BitVec 64
  inexact : Bool
  up : Bool
  deriving DecidableEq, Repr, Inhabited

/-- No result. -/
def RoundedReal.zero : RoundedReal := { neg := false, exp := 0, sig := 0, inexact := false, up := false }

/-- `transcendental_result`: what a transcendental instruction computes from its one or two 80-bit operands under a
rounding control (R10, R1034, 93_implementation_defined.md U33). It is used as far as it meets the error bound and the
monotonicity of R1034: see `Machine.unitResult`. -/
opaque Config.transcendental (f : Transcendental) (rc : BitVec 2) (x y : BitVec 80) : RoundedReal

/-- How many exponent bits one FPREM execution removes when the quotient is too large for one execution
(48_fpu_instructions.md R1133 leaves a number between 32 and 63). -/
opaque Config.fpremStep (x y : BitVec 80) : Nat

/-- `ferr_routing` (R10, 92_eei_decisions.md D31): the platform has wired FERR# to an input of its interrupt
controller. -/
opaque Config.ferrRouting : Bool

namespace Machine

/-- What the spec says of a model-specific register beyond its index (R165): which of the named ones it is. -/
inductive MsrRole where
  | tsc | cesr | tr12 | mcType | mcAddr | other
  deriving DecidableEq, Repr

/-- One register of the MSR file (R165, `msr_set` of 00_scope.md R10): index, value, the bits WRMSR can write. -/
structure Msr where
  index : Word
  role : MsrRole
  value : BitVec 64
  mask : BitVec 64
  deriving DecidableEq, Repr

end Machine

/-- `msr_set`: the model-specific registers of the part, with the bits of each that WRMSR can write (R10, 11_state_system.md R165,
decision D55: nothing is assumed of it). -/
opaque Config.msrSet : List Machine.Msr

end Sys2Proof
end

