-- ==== Sys2Proof/Syntax.lean ====
section
/-! DEFINITION. The instructions as syntax: ONE constructor per row of spec/opcode_table.json, with the operands that
the row's encoding carries (30_encoding.md R410). Sizes that come from prefixes (`os`, `as`) are not operands: they are in
the state's prefix latch (R405). -/

namespace Sys2Proof

/-- General registers by encoding number 0 to 7 (10_state.md R101). With a byte operand the same numbers
name AL, CL, DL, BL, AH, CH, DH, BH. -/
inductive Reg where
  | eax | ecx | edx | ebx | esp | ebp | esi | edi
  deriving DecidableEq, Repr

/-- The three-bit number of a general register (R101). -/
def Reg.num : Reg → BitVec 3
  | .eax => 0 | .ecx => 1 | .edx => 2 | .ebx => 3 | .esp => 4 | .ebp => 5 | .esi => 6 | .edi => 7

/-- The general register of a number (R101). -/
def Reg.ofNum (n : BitVec 3) : Reg :=
  match n.toNat with
  | 0 => .eax | 1 => .ecx | 2 => .edx | 3 => .ebx | 4 => .esp | 5 => .ebp | 6 => .esi | _ => .edi

/-- Segment registers (10_state.md R103), numbers 0 to 5 in this order. -/
inductive SReg where
  | es | cs | ss | ds | fs | gs
  deriving DecidableEq, Repr

/-- The three-bit number of a segment register (R103). -/
def SReg.num : SReg → BitVec 3
  | .es => 0 | .cs => 1 | .ss => 2 | .ds => 3 | .fs => 4 | .gs => 5

/-- The segment register of a number; 6 and 7 name none (30_encoding.md R450). -/
def SReg.ofNum? (n : BitVec 3) : Option SReg :=
  match n.toNat with
  | 0 => some .es | 1 => some .cs | 2 => some .ss | 3 => some .ds | 4 => some .fs | 5 => some .gs | _ => none

/-- The sixteen conditions, in the order of their numbers (43_control_transfer.md R710). -/
inductive Cond where
  | o | no | b | ae | e | ne | be | a | s | ns | p | np | l | ge | le | g
  deriving DecidableEq, Repr

/-- The four-bit number of a condition (R710). -/
def Cond.num : Cond → BitVec 4
  | .o => 0 | .no => 1 | .b => 2 | .ae => 3 | .e => 4 | .ne => 5 | .be => 6 | .a => 7
  | .s => 8 | .ns => 9 | .p => 10 | .np => 11 | .l => 12 | .ge => 13 | .le => 14 | .g => 15

/-- The condition of a number (R710). -/
def Cond.ofNum (n : BitVec 4) : Cond :=
  match n.toNat with
  | 0 => .o | 1 => .no | 2 => .b | 3 => .ae | 4 => .e | 5 => .ne | 6 => .be | 7 => .a
  | 8 => .s | 9 => .ns | 10 => .p | 11 => .np | 12 => .l | 13 => .ge | 14 => .le | _ => .g

/-- A displacement as encoded: absent, one byte (sign-extended by the address computation), or `as`/8
bytes (30_encoding.md R426). -/
inductive Disp where
  | none
  | d8 (v : BitVec 8)
  | d16 (v : BitVec 16)
  | d32 (v : BitVec 32)
  deriving DecidableEq, Repr

/-- The register sums of the 16-bit addressing table, in the order of `rm` (30_encoding.md R423). -/
inductive Base16 where
  | bxsi | bxdi | bpsi | bpdi | si | di | bp | bx
  deriving DecidableEq, Repr

/-- The `rm` number of a 16-bit addressing form (R423). -/
def Base16.num : Base16 → BitVec 3
  | .bxsi => 0 | .bxdi => 1 | .bpsi => 2 | .bpdi => 3 | .si => 4 | .di => 5 | .bp => 6 | .bx => 7

/-- The 16-bit addressing form of an `rm` number (R423). -/
def Base16.ofNum (n : BitVec 3) : Base16 :=
  match n.toNat with
  | 0 => .bxsi | 1 => .bxdi | 2 => .bpsi | 3 => .bpdi | 4 => .si | 5 => .di | 6 => .bp | _ => .bx

/-- A memory operand as ModR/M, SIB and displacement encode it (30_encoding.md R421 to R423). No bit of the
encoding is dropped: `index = esp` is "no index" and keeps its scale bits. -/
inductive MemOp where
  /-- `as` = 16, mod = 00, rm = 110: a 16-bit displacement alone. -/
  | direct16 (d : BitVec 16)
  /-- `as` = 16: a register sum and a displacement. -/
  | base16 (b : Base16) (d : Disp)
  /-- `as` = 32, mod = 00, rm = 101: a 32-bit displacement alone. -/
  | direct32 (d : BitVec 32)
  /-- `as` = 32: a base register (never ESP, which needs a SIB byte) and a displacement. -/
  | base32 (b : Reg) (d : Disp)
  /-- SIB with a base register. -/
  | sib (scale : BitVec 2) (index base : Reg) (d : Disp)
  /-- SIB with base = 101 and mod = 00: no base, a 32-bit displacement. -/
  | sibNoBase (scale : BitVec 2) (index : Reg) (d : BitVec 32)
  deriving DecidableEq, Repr

/-- An r/m operand: a register (mod = 11) or memory (30_encoding.md R420). -/
inductive RM where
  | reg (r : Reg)
  | mem (m : MemOp)
  deriving DecidableEq, Repr

/-- The instruction set: one constructor per row of the opcode table; the docstring gives the row's format, its encoding
and its rule. Immediates of width `iv`, offsets of width `cv`, `cp` and `moffs` are held in 32 bits, zero-extended from the
size they are encoded in. -/
inductive Instr where
  /-- ADD r/m8, r8 — `00 /r`, R551. -/
  | addRm8R8 (rm : RM) (r : Reg)
  /-- ADD r/m, r — `01 /r`, R551. -/
  | addRmR (rm : RM) (r : Reg)
  /-- ADD r8, r/m8 — `02 /r`, R551. -/
  | addR8Rm8 (rm : RM) (r : Reg)
  /-- ADD r, r/m — `03 /r`, R551. -/
  | addRRm (rm : RM) (r : Reg)
  /-- ADD AL, imm8 — `04 ib`, R551. -/
  | addAlImm8 (imm : BitVec 8)
  /-- ADD eAX, imm — `05 iv`, R551. -/
  | addEaxImm (imm : BitVec 32)
  /-- ADD r/m8, imm8 — `80 /0 ib`, R551. -/
  | addRm8Imm8 (rm : RM) (imm : BitVec 8)
  /-- ADD r/m, imm — `81 /0 iv`, R551. -/
  | addRmImm (rm : RM) (imm : BitVec 32)
  /-- ADD r/m, sext(imm8) — `83 /0 ib`, R551. -/
  | addRmSImm8 (rm : RM) (imm : BitVec 8)
  /-- OR r/m8, r8 — `08 /r`, R622. -/
  | orRm8R8 (rm : RM) (r : Reg)
  /-- OR r/m, r — `09 /r`, R622. -/
  | orRmR (rm : RM) (r : Reg)
  /-- OR r8, r/m8 — `0A /r`, R622. -/
  | orR8Rm8 (rm : RM) (r : Reg)
  /-- OR r, r/m — `0B /r`, R622. -/
  | orRRm (rm : RM) (r : Reg)
  /-- OR AL, imm8 — `0C ib`, R622. -/
  | orAlImm8 (imm : BitVec 8)
  /-- OR eAX, imm — `0D iv`, R622. -/
  | orEaxImm (imm : BitVec 32)
  /-- OR r/m8, imm8 — `80 /1 ib`, R622. -/
  | orRm8Imm8 (rm : RM) (imm : BitVec 8)
  /-- OR r/m, imm — `81 /1 iv`, R622. -/
  | orRmImm (rm : RM) (imm : BitVec 32)
  /-- OR r/m, sext(imm8) — `83 /1 ib`, R622. -/
  | orRmSImm8 (rm : RM) (imm : BitVec 8)
  /-- ADC r/m8, r8 — `10 /r`, R552. -/
  | adcRm8R8 (rm : RM) (r : Reg)
  /-- ADC r/m, r — `11 /r`, R552. -/
  | adcRmR (rm : RM) (r : Reg)
  /-- ADC r8, r/m8 — `12 /r`, R552. -/
  | adcR8Rm8 (rm : RM) (r : Reg)
  /-- ADC r, r/m — `13 /r`, R552. -/
  | adcRRm (rm : RM) (r : Reg)
  /-- ADC AL, imm8 — `14 ib`, R552. -/
  | adcAlImm8 (imm : BitVec 8)
  /-- ADC eAX, imm — `15 iv`, R552. -/
  | adcEaxImm (imm : BitVec 32)
  /-- ADC r/m8, imm8 — `80 /2 ib`, R552. -/
  | adcRm8Imm8 (rm : RM) (imm : BitVec 8)
  /-- ADC r/m, imm — `81 /2 iv`, R552. -/
  | adcRmImm (rm : RM) (imm : BitVec 32)
  /-- ADC r/m, sext(imm8) — `83 /2 ib`, R552. -/
  | adcRmSImm8 (rm : RM) (imm : BitVec 8)
  /-- SBB r/m8, r8 — `18 /r`, R553. -/
  | sbbRm8R8 (rm : RM) (r : Reg)
  /-- SBB r/m, r — `19 /r`, R553. -/
  | sbbRmR (rm : RM) (r : Reg)
  /-- SBB r8, r/m8 — `1A /r`, R553. -/
  | sbbR8Rm8 (rm : RM) (r : Reg)
  /-- SBB r, r/m — `1B /r`, R553. -/
  | sbbRRm (rm : RM) (r : Reg)
  /-- SBB AL, imm8 — `1C ib`, R553. -/
  | sbbAlImm8 (imm : BitVec 8)
  /-- SBB eAX, imm — `1D iv`, R553. -/
  | sbbEaxImm (imm : BitVec 32)
  /-- SBB r/m8, imm8 — `80 /3 ib`, R553. -/
  | sbbRm8Imm8 (rm : RM) (imm : BitVec 8)
  /-- SBB r/m, imm — `81 /3 iv`, R553. -/
  | sbbRmImm (rm : RM) (imm : BitVec 32)
  /-- SBB r/m, sext(imm8) — `83 /3 ib`, R553. -/
  | sbbRmSImm8 (rm : RM) (imm : BitVec 8)
  /-- AND r/m8, r8 — `20 /r`, R621. -/
  | andRm8R8 (rm : RM) (r : Reg)
  /-- AND r/m, r — `21 /r`, R621. -/
  | andRmR (rm : RM) (r : Reg)
  /-- AND r8, r/m8 — `22 /r`, R621. -/
  | andR8Rm8 (rm : RM) (r : Reg)
  /-- AND r, r/m — `23 /r`, R621. -/
  | andRRm (rm : RM) (r : Reg)
  /-- AND AL, imm8 — `24 ib`, R621. -/
  | andAlImm8 (imm : BitVec 8)
  /-- AND eAX, imm — `25 iv`, R621. -/
  | andEaxImm (imm : BitVec 32)
  /-- AND r/m8, imm8 — `80 /4 ib`, R621. -/
  | andRm8Imm8 (rm : RM) (imm : BitVec 8)
  /-- AND r/m, imm — `81 /4 iv`, R621. -/
  | andRmImm (rm : RM) (imm : BitVec 32)
  /-- AND r/m, sext(imm8) — `83 /4 ib`, R621. -/
  | andRmSImm8 (rm : RM) (imm : BitVec 8)
  /-- SUB r/m8, r8 — `28 /r`, R555. -/
  | subRm8R8 (rm : RM) (r : Reg)
  /-- SUB r/m, r — `29 /r`, R555. -/
  | subRmR (rm : RM) (r : Reg)
  /-- SUB r8, r/m8 — `2A /r`, R555. -/
  | subR8Rm8 (rm : RM) (r : Reg)
  /-- SUB r, r/m — `2B /r`, R555. -/
  | subRRm (rm : RM) (r : Reg)
  /-- SUB AL, imm8 — `2C ib`, R555. -/
  | subAlImm8 (imm : BitVec 8)
  /-- SUB eAX, imm — `2D iv`, R555. -/
  | subEaxImm (imm : BitVec 32)
  /-- SUB r/m8, imm8 — `80 /5 ib`, R555. -/
  | subRm8Imm8 (rm : RM) (imm : BitVec 8)
  /-- SUB r/m, imm — `81 /5 iv`, R555. -/
  | subRmImm (rm : RM) (imm : BitVec 32)
  /-- SUB r/m, sext(imm8) — `83 /5 ib`, R555. -/
  | subRmSImm8 (rm : RM) (imm : BitVec 8)
  /-- XOR r/m8, r8 — `30 /r`, R623. -/
  | xorRm8R8 (rm : RM) (r : Reg)
  /-- XOR r/m, r — `31 /r`, R623. -/
  | xorRmR (rm : RM) (r : Reg)
  /-- XOR r8, r/m8 — `32 /r`, R623. -/
  | xorR8Rm8 (rm : RM) (r : Reg)
  /-- XOR r, r/m — `33 /r`, R623. -/
  | xorRRm (rm : RM) (r : Reg)
  /-- XOR AL, imm8 — `34 ib`, R623. -/
  | xorAlImm8 (imm : BitVec 8)
  /-- XOR eAX, imm — `35 iv`, R623. -/
  | xorEaxImm (imm : BitVec 32)
  /-- XOR r/m8, imm8 — `80 /6 ib`, R623. -/
  | xorRm8Imm8 (rm : RM) (imm : BitVec 8)
  /-- XOR r/m, imm — `81 /6 iv`, R623. -/
  | xorRmImm (rm : RM) (imm : BitVec 32)
  /-- XOR r/m, sext(imm8) — `83 /6 ib`, R623. -/
  | xorRmSImm8 (rm : RM) (imm : BitVec 8)
  /-- CMP r/m8, r8 — `38 /r`, R557. -/
  | cmpRm8R8 (rm : RM) (r : Reg)
  /-- CMP r/m, r — `39 /r`, R557. -/
  | cmpRmR (rm : RM) (r : Reg)
  /-- CMP r8, r/m8 — `3A /r`, R557. -/
  | cmpR8Rm8 (rm : RM) (r : Reg)
  /-- CMP r, r/m — `3B /r`, R557. -/
  | cmpRRm (rm : RM) (r : Reg)
  /-- CMP AL, imm8 — `3C ib`, R557. -/
  | cmpAlImm8 (imm : BitVec 8)
  /-- CMP eAX, imm — `3D iv`, R557. -/
  | cmpEaxImm (imm : BitVec 32)
  /-- CMP r/m8, imm8 — `80 /7 ib`, R557. -/
  | cmpRm8Imm8 (rm : RM) (imm : BitVec 8)
  /-- CMP r/m, imm — `81 /7 iv`, R557. -/
  | cmpRmImm (rm : RM) (imm : BitVec 32)
  /-- CMP r/m, sext(imm8) — `83 /7 ib`, R557. -/
  | cmpRmSImm8 (rm : RM) (imm : BitVec 8)
  /-- MOV r/m8, r8 — `88 /r`, R509. -/
  | movRm8R8 (rm : RM) (r : Reg)
  /-- MOV r/m, r — `89 /r`, R509. -/
  | movRmR (rm : RM) (r : Reg)
  /-- MOV r8, r/m8 — `8A /r`, R509. -/
  | movR8Rm8 (rm : RM) (r : Reg)
  /-- MOV r, r/m — `8B /r`, R509. -/
  | movRRm (rm : RM) (r : Reg)
  /-- MOV r/m16, Sreg — `8C /r`, R502. -/
  | movRm16Sreg (rm : RM) (sr : SReg)
  /-- MOV Sreg, r/m16 — `8E /r`, R501. -/
  | movSregRm16 (rm : RM) (sr : SReg)
  /-- MOV AL, moffs8 — `A0 moffs`, R510. -/
  | movAlMoffs8 (off : BitVec 32)
  /-- MOV eAX, moffs — `A1 moffs`, R510. -/
  | movEaxMoffs (off : BitVec 32)
  /-- MOV moffs8, AL — `A2 moffs`, R510. -/
  | movMoffs8Al (off : BitVec 32)
  /-- MOV moffs, eAX — `A3 moffs`, R510. -/
  | movMoffsEax (off : BitVec 32)
  /-- MOV r8, imm8 — `B0+r ib`, R509. -/
  | movR8Imm8 (r : Reg) (imm : BitVec 8)
  /-- MOV r, imm — `B8+r iv`, R509. -/
  | movRImm (r : Reg) (imm : BitVec 32)
  /-- MOV r/m8, imm8 — `C6 /0 ib`, R509. -/
  | movRm8Imm8 (rm : RM) (imm : BitVec 8)
  /-- MOV r/m, imm — `C7 /0 iv`, R509. -/
  | movRmImm (rm : RM) (imm : BitVec 32)
  /-- XCHG r/m8, r8 — `86 /r`, R513. -/
  | xchgRm8R8 (rm : RM) (r : Reg)
  /-- XCHG r/m, r — `87 /r`, R513. -/
  | xchgRmR (rm : RM) (r : Reg)
  /-- XCHG eAX, r — `90+r`, R513. -/
  | xchgEaxR (r : Reg)
  /-- NOP — `90`, R860. -/
  | nop
  /-- PUSH r — `50+r`, R504. -/
  | pushR (r : Reg)
  /-- PUSH r/m — `FF /6`, R504. -/
  | pushRm (rm : RM)
  /-- PUSH imm — `68 iv`, R504. -/
  | pushImm (imm : BitVec 32)
  /-- PUSH sext(imm8) — `6A ib`, R504. -/
  | pushSImm8 (imm : BitVec 8)
  /-- PUSH ES — `06`, R503. -/
  | pushEs
  /-- PUSH CS — `0E`, R503. -/
  | pushCs
  /-- PUSH SS — `16`, R503. -/
  | pushSs
  /-- PUSH DS — `1E`, R503. -/
  | pushDs
  /-- PUSH FS — `0F A0`, R503. -/
  | pushFs
  /-- PUSH GS — `0F A8`, R503. -/
  | pushGs
  /-- POP r — `58+r`, R505. -/
  | popR (r : Reg)
  /-- POP r/m — `8F /0`, R505. -/
  | popRm (rm : RM)
  /-- POP ES — `07`, R508. -/
  | popEs
  /-- POP SS — `17`, R508. -/
  | popSs
  /-- POP DS — `1F`, R508. -/
  | popDs
  /-- POP FS — `0F A1`, R508. -/
  | popFs
  /-- POP GS — `0F A9`, R508. -/
  | popGs
  /-- PUSHA/PUSHAD — `60`, R506. -/
  | pusha
  /-- POPA/POPAD — `61`, R507. -/
  | popa
  /-- CBW/CWDE — `98`, R519. -/
  | cbw
  /-- CWD/CDQ — `99`, R522. -/
  | cwd
  /-- MOVSX r, r/m8 — `0F BE /r`, R517. -/
  | movsxRRm8 (rm : RM) (r : Reg)
  /-- MOVSX r32, r/m16 — `0F BF /r`, R517. -/
  | movsxR32Rm16 (rm : RM) (r : Reg)
  /-- MOVZX r, r/m8 — `0F B6 /r`, R518. -/
  | movzxRRm8 (rm : RM) (r : Reg)
  /-- MOVZX r32, r/m16 — `0F B7 /r`, R518. -/
  | movzxR32Rm16 (rm : RM) (r : Reg)
  /-- BSWAP r32 — `0F C8+r`, R512. -/
  | bswapR32 (r : Reg)
  /-- XADD r/m8, r8 — `0F C0 /r`, R514. -/
  | xaddRm8R8 (rm : RM) (r : Reg)
  /-- XADD r/m, r — `0F C1 /r`, R514. -/
  | xaddRmR (rm : RM) (r : Reg)
  /-- CMPXCHG r/m8, r8 — `0F B0 /r`, R515. -/
  | cmpxchgRm8R8 (rm : RM) (r : Reg)
  /-- CMPXCHG r/m, r — `0F B1 /r`, R515. -/
  | cmpxchgRmR (rm : RM) (r : Reg)
  /-- CMPXCHG8B m64 — `0F C7 /1`, R516. -/
  | cmpxchg8bM64 (m : MemOp)
  /-- LDS r, m16:16/32 — `C5 /r`, R520. -/
  | ldsRFar (m : MemOp) (r : Reg)
  /-- LES r, m16:16/32 — `C4 /r`, R520. -/
  | lesRFar (m : MemOp) (r : Reg)
  /-- LSS r, m16:16/32 — `0F B2 /r`, R520. -/
  | lssRFar (m : MemOp) (r : Reg)
  /-- LFS r, m16:16/32 — `0F B4 /r`, R520. -/
  | lfsRFar (m : MemOp) (r : Reg)
  /-- LGS r, m16:16/32 — `0F B5 /r`, R520. -/
  | lgsRFar (m : MemOp) (r : Reg)
  /-- LEA r, m — `8D /r`, R521. -/
  | leaRM (m : MemOp) (r : Reg)
  /-- XLAT/XLATB — `D7`, R861. -/
  | xlat
  /-- INC r — `40+r`, R554. -/
  | incR (r : Reg)
  /-- INC r/m8 — `FE /0`, R554. -/
  | incRm8 (rm : RM)
  /-- INC r/m — `FF /0`, R554. -/
  | incRm (rm : RM)
  /-- DEC r — `48+r`, R556. -/
  | decR (r : Reg)
  /-- DEC r/m8 — `FE /1`, R556. -/
  | decRm8 (rm : RM)
  /-- DEC r/m — `FF /1`, R556. -/
  | decRm (rm : RM)
  /-- NEG r/m8 — `F6 /3`, R558. -/
  | negRm8 (rm : RM)
  /-- NEG r/m — `F7 /3`, R558. -/
  | negRm (rm : RM)
  /-- MUL r/m8 — `F6 /4`, R559. -/
  | mulRm8 (rm : RM)
  /-- MUL r/m — `F7 /4`, R559. -/
  | mulRm (rm : RM)
  /-- IMUL r/m8 — `F6 /5`, R562. -/
  | imulRm8 (rm : RM)
  /-- IMUL r/m — `F7 /5`, R562. -/
  | imulRm (rm : RM)
  /-- IMUL r, r/m — `0F AF /r`, R562. -/
  | imulRRm (rm : RM) (r : Reg)
  /-- IMUL r, r/m, imm — `69 /r iv`, R562. -/
  | imulRRmImm (rm : RM) (r : Reg) (imm : BitVec 32)
  /-- IMUL r, r/m, sext(imm8) — `6B /r ib`, R562. -/
  | imulRRmSImm8 (rm : RM) (r : Reg) (imm : BitVec 8)
  /-- DIV r/m8 — `F6 /6`, R560. -/
  | divRm8 (rm : RM)
  /-- DIV r/m — `F7 /6`, R560. -/
  | divRm (rm : RM)
  /-- IDIV r/m8 — `F6 /7`, R561. -/
  | idivRm8 (rm : RM)
  /-- IDIV r/m — `F7 /7`, R561. -/
  | idivRm (rm : RM)
  /-- DAA — `27`, R570. -/
  | daa
  /-- DAS — `2F`, R571. -/
  | das
  /-- AAA — `37`, R572. -/
  | aaa
  /-- AAS — `3F`, R573. -/
  | aas
  /-- AAM imm8 — `D4 ib`, R574. -/
  | aamImm8 (imm : BitVec 8)
  /-- AAD imm8 — `D5 ib`, R575. -/
  | aadImm8 (imm : BitVec 8)
  /-- NOT r/m8 — `F6 /2`, R624. -/
  | notRm8 (rm : RM)
  /-- NOT r/m — `F7 /2`, R624. -/
  | notRm (rm : RM)
  /-- TEST r/m8, r8 — `84 /r`, R625. -/
  | testRm8R8 (rm : RM) (r : Reg)
  /-- TEST r/m, r — `85 /r`, R625. -/
  | testRmR (rm : RM) (r : Reg)
  /-- TEST AL, imm8 — `A8 ib`, R625. -/
  | testAlImm8 (imm : BitVec 8)
  /-- TEST eAX, imm — `A9 iv`, R625. -/
  | testEaxImm (imm : BitVec 32)
  /-- TEST r/m8, imm8 — `F6 /0 ib`, R625. -/
  | testRm8Imm8 (rm : RM) (imm : BitVec 8)
  /-- TEST r/m, imm — `F7 /0 iv`, R625. -/
  | testRmImm (rm : RM) (imm : BitVec 32)
  /-- ROL r/m8, 1 — `D0 /0`, R636. -/
  | rolRm8One (rm : RM)
  /-- ROL r/m, 1 — `D1 /0`, R636. -/
  | rolRmOne (rm : RM)
  /-- ROL r/m8, CL — `D2 /0`, R636. -/
  | rolRm8Cl (rm : RM)
  /-- ROL r/m, CL — `D3 /0`, R636. -/
  | rolRmCl (rm : RM)
  /-- ROL r/m8, imm8 — `C0 /0 ib`, R636. -/
  | rolRm8Imm8 (rm : RM) (imm : BitVec 8)
  /-- ROL r/m, imm8 — `C1 /0 ib`, R636. -/
  | rolRmImm8 (rm : RM) (imm : BitVec 8)
  /-- ROR r/m8, 1 — `D0 /1`, R637. -/
  | rorRm8One (rm : RM)
  /-- ROR r/m, 1 — `D1 /1`, R637. -/
  | rorRmOne (rm : RM)
  /-- ROR r/m8, CL — `D2 /1`, R637. -/
  | rorRm8Cl (rm : RM)
  /-- ROR r/m, CL — `D3 /1`, R637. -/
  | rorRmCl (rm : RM)
  /-- ROR r/m8, imm8 — `C0 /1 ib`, R637. -/
  | rorRm8Imm8 (rm : RM) (imm : BitVec 8)
  /-- ROR r/m, imm8 — `C1 /1 ib`, R637. -/
  | rorRmImm8 (rm : RM) (imm : BitVec 8)
  /-- RCL r/m8, 1 — `D0 /2`, R638. -/
  | rclRm8One (rm : RM)
  /-- RCL r/m, 1 — `D1 /2`, R638. -/
  | rclRmOne (rm : RM)
  /-- RCL r/m8, CL — `D2 /2`, R638. -/
  | rclRm8Cl (rm : RM)
  /-- RCL r/m, CL — `D3 /2`, R638. -/
  | rclRmCl (rm : RM)
  /-- RCL r/m8, imm8 — `C0 /2 ib`, R638. -/
  | rclRm8Imm8 (rm : RM) (imm : BitVec 8)
  /-- RCL r/m, imm8 — `C1 /2 ib`, R638. -/
  | rclRmImm8 (rm : RM) (imm : BitVec 8)
  /-- RCR r/m8, 1 — `D0 /3`, R639. -/
  | rcrRm8One (rm : RM)
  /-- RCR r/m, 1 — `D1 /3`, R639. -/
  | rcrRmOne (rm : RM)
  /-- RCR r/m8, CL — `D2 /3`, R639. -/
  | rcrRm8Cl (rm : RM)
  /-- RCR r/m, CL — `D3 /3`, R639. -/
  | rcrRmCl (rm : RM)
  /-- RCR r/m8, imm8 — `C0 /3 ib`, R639. -/
  | rcrRm8Imm8 (rm : RM) (imm : BitVec 8)
  /-- RCR r/m, imm8 — `C1 /3 ib`, R639. -/
  | rcrRmImm8 (rm : RM) (imm : BitVec 8)
  /-- SHL/SAL r/m8, 1 — `D0 /4`, R631. -/
  | shlRm8One (rm : RM)
  /-- SHL/SAL r/m, 1 — `D1 /4`, R631. -/
  | shlRmOne (rm : RM)
  /-- SHL/SAL r/m8, CL — `D2 /4`, R631. -/
  | shlRm8Cl (rm : RM)
  /-- SHL/SAL r/m, CL — `D3 /4`, R631. -/
  | shlRmCl (rm : RM)
  /-- SHL/SAL r/m8, imm8 — `C0 /4 ib`, R631. -/
  | shlRm8Imm8 (rm : RM) (imm : BitVec 8)
  /-- SHL/SAL r/m, imm8 — `C1 /4 ib`, R631. -/
  | shlRmImm8 (rm : RM) (imm : BitVec 8)
  /-- SHR r/m8, 1 — `D0 /5`, R632. -/
  | shrRm8One (rm : RM)
  /-- SHR r/m, 1 — `D1 /5`, R632. -/
  | shrRmOne (rm : RM)
  /-- SHR r/m8, CL — `D2 /5`, R632. -/
  | shrRm8Cl (rm : RM)
  /-- SHR r/m, CL — `D3 /5`, R632. -/
  | shrRmCl (rm : RM)
  /-- SHR r/m8, imm8 — `C0 /5 ib`, R632. -/
  | shrRm8Imm8 (rm : RM) (imm : BitVec 8)
  /-- SHR r/m, imm8 — `C1 /5 ib`, R632. -/
  | shrRmImm8 (rm : RM) (imm : BitVec 8)
  /-- SAR r/m8, 1 — `D0 /7`, R633. -/
  | sarRm8One (rm : RM)
  /-- SAR r/m, 1 — `D1 /7`, R633. -/
  | sarRmOne (rm : RM)
  /-- SAR r/m8, CL — `D2 /7`, R633. -/
  | sarRm8Cl (rm : RM)
  /-- SAR r/m, CL — `D3 /7`, R633. -/
  | sarRmCl (rm : RM)
  /-- SAR r/m8, imm8 — `C0 /7 ib`, R633. -/
  | sarRm8Imm8 (rm : RM) (imm : BitVec 8)
  /-- SAR r/m, imm8 — `C1 /7 ib`, R633. -/
  | sarRmImm8 (rm : RM) (imm : BitVec 8)
  /-- SHLD r/m, r, imm8 — `0F A4 /r ib`, R634. -/
  | shldRmRImm8 (rm : RM) (r : Reg) (imm : BitVec 8)
  /-- SHLD r/m, r, CL — `0F A5 /r`, R634. -/
  | shldRmRCl (rm : RM) (r : Reg)
  /-- SHRD r/m, r, imm8 — `0F AC /r ib`, R635. -/
  | shrdRmRImm8 (rm : RM) (r : Reg) (imm : BitVec 8)
  /-- SHRD r/m, r, CL — `0F AD /r`, R635. -/
  | shrdRmRCl (rm : RM) (r : Reg)
  /-- BT r/m, r — `0F A3 /r`, R661. -/
  | btRmR (rm : RM) (r : Reg)
  /-- BT r/m, imm8 — `0F BA /4 ib`, R661. -/
  | btRmImm8 (rm : RM) (imm : BitVec 8)
  /-- BTS r/m, r — `0F AB /r`, R662. -/
  | btsRmR (rm : RM) (r : Reg)
  /-- BTS r/m, imm8 — `0F BA /5 ib`, R662. -/
  | btsRmImm8 (rm : RM) (imm : BitVec 8)
  /-- BTR r/m, r — `0F B3 /r`, R663. -/
  | btrRmR (rm : RM) (r : Reg)
  /-- BTR r/m, imm8 — `0F BA /6 ib`, R663. -/
  | btrRmImm8 (rm : RM) (imm : BitVec 8)
  /-- BTC r/m, r — `0F BB /r`, R664. -/
  | btcRmR (rm : RM) (r : Reg)
  /-- BTC r/m, imm8 — `0F BA /7 ib`, R664. -/
  | btcRmImm8 (rm : RM) (imm : BitVec 8)
  /-- BSF r, r/m — `0F BC /r`, R665. -/
  | bsfRRm (rm : RM) (r : Reg)
  /-- BSR r, r/m — `0F BD /r`, R666. -/
  | bsrRRm (rm : RM) (r : Reg)
  /-- SETcc r/m8 — `0F 90+cc /r`, R670. -/
  | setccRm8 (cc : Cond) (rm : RM)
  /-- JMP rel8 — `EB cb`, R701. -/
  | jmpRel8 (rel : BitVec 8)
  /-- JMP rel16/32 — `E9 cv`, R701. -/
  | jmpRel (rel : BitVec 32)
  /-- JMP r/m — `FF /4`, R701. -/
  | jmpRm (rm : RM)
  /-- JMP ptr16:16/32 — `EA cp`, R704. -/
  | jmpPtr (off : BitVec 32) (sel : BitVec 16)
  /-- JMP m16:16/32 — `FF /5`, R704. -/
  | jmpFar (m : MemOp)
  /-- CALL rel16/32 — `E8 cv`, R702. -/
  | callRel (rel : BitVec 32)
  /-- CALL r/m — `FF /2`, R702. -/
  | callRm (rm : RM)
  /-- CALL ptr16:16/32 — `9A cp`, R705. -/
  | callPtr (off : BitVec 32) (sel : BitVec 16)
  /-- CALL m16:16/32 — `FF /3`, R705. -/
  | callFar (m : MemOp)
  /-- RET — `C3`, R703. -/
  | ret
  /-- RET imm16 — `C2 iw`, R703. -/
  | retImm16 (imm : BitVec 16)
  /-- RETF — `CB`, R706. -/
  | retf
  /-- RETF imm16 — `CA iw`, R706. -/
  | retfImm16 (imm : BitVec 16)
  /-- Jcc rel8 — `70+cc cb`, R711. -/
  | jccRel8 (cc : Cond) (rel : BitVec 8)
  /-- Jcc rel16/32 — `0F 80+cc cv`, R711. -/
  | jccRel (cc : Cond) (rel : BitVec 32)
  /-- JCXZ/JECXZ rel8 — `E3 cb`, R712. -/
  | jcxzRel8 (rel : BitVec 8)
  /-- LOOP rel8 — `E2 cb`, R713. -/
  | loopRel8 (rel : BitVec 8)
  /-- LOOPE/LOOPZ rel8 — `E1 cb`, R714. -/
  | loopeRel8 (rel : BitVec 8)
  /-- LOOPNE/LOOPNZ rel8 — `E0 cb`, R715. -/
  | loopneRel8 (rel : BitVec 8)
  /-- IRET/IRETD — `CF`, R730. -/
  | iret
  /-- INT imm8 — `CD ib`, R735. -/
  | intImm8 (imm : BitVec 8)
  /-- INT 3 — `CC`, R735. -/
  | int3
  /-- INTO — `CE`, R735. -/
  | into
  /-- BOUND r, m16&16/m32&32 — `62 /r`, R745. -/
  | boundRM (m : MemOp) (r : Reg)
  /-- ENTER imm16, imm8 — `C8 iw ib`, R750. -/
  | enterImm16Imm8 (imm : BitVec 16) (lvl : BitVec 8)
  /-- LEAVE — `C9`, R751. -/
  | leave
  /-- MOVSB — `A4`, R763. -/
  | movsb
  /-- MOVSW/MOVSD — `A5`, R763. -/
  | movsw
  /-- CMPSB — `A6`, R764. -/
  | cmpsb
  /-- CMPSW/CMPSD — `A7`, R764. -/
  | cmpsw
  /-- STOSB — `AA`, R767. -/
  | stosb
  /-- STOSW/STOSD — `AB`, R767. -/
  | stosw
  /-- LODSB — `AC`, R766. -/
  | lodsb
  /-- LODSW/LODSD — `AD`, R766. -/
  | lodsw
  /-- SCASB — `AE`, R765. -/
  | scasb
  /-- SCASW/SCASD — `AF`, R765. -/
  | scasw
  /-- INSB — `6C`, R944. -/
  | insb
  /-- INSW/INSD — `6D`, R944. -/
  | insw
  /-- OUTSB — `6E`, R945. -/
  | outsb
  /-- OUTSW/OUTSD — `6F`, R945. -/
  | outsw
  /-- STC — `F9`, R800. -/
  | stc
  /-- CLC — `F8`, R801. -/
  | clc
  /-- CMC — `F5`, R802. -/
  | cmc
  /-- CLD — `FC`, R803. -/
  | cld
  /-- STD — `FD`, R804. -/
  | std
  /-- CLI — `FA`, R810. -/
  | cli
  /-- STI — `FB`, R811. -/
  | sti
  /-- LAHF — `9F`, R815. -/
  | lahf
  /-- SAHF — `9E`, R816. -/
  | sahf
  /-- PUSHF/PUSHFD — `9C`, R817. -/
  | pushf
  /-- POPF/POPFD — `9D`, R820. -/
  | popf
  /-- CPUID — `0F A2`, R850. -/
  | cpuid
  /-- SLDT r/m16 — `0F 00 /0`, R905. -/
  | sldtRm16 (rm : RM)
  /-- STR r/m16 — `0F 00 /1`, R907. -/
  | strRm16 (rm : RM)
  /-- LLDT r/m16 — `0F 00 /2`, R904. -/
  | lldtRm16 (rm : RM)
  /-- LTR r/m16 — `0F 00 /3`, R906. -/
  | ltrRm16 (rm : RM)
  /-- VERR r/m16 — `0F 00 /4`, R923. -/
  | verrRm16 (rm : RM)
  /-- VERW r/m16 — `0F 00 /5`, R924. -/
  | verwRm16 (rm : RM)
  /-- SGDT m16&32 — `0F 01 /0`, R901. -/
  | sgdtM (m : MemOp)
  /-- SIDT m16&32 — `0F 01 /1`, R903. -/
  | sidtM (m : MemOp)
  /-- LGDT m16&32 — `0F 01 /2`, R900. -/
  | lgdtM (m : MemOp)
  /-- LIDT m16&32 — `0F 01 /3`, R902. -/
  | lidtM (m : MemOp)
  /-- SMSW r/m16 — `0F 01 /4`, R911. -/
  | smswRm16 (rm : RM)
  /-- LMSW r/m16 — `0F 01 /6`, R912. -/
  | lmswRm16 (rm : RM)
  /-- INVLPG m — `0F 01 /7`, R915. -/
  | invlpgM (m : MemOp)
  /-- LAR r, r/m16 — `0F 02 /r`, R921. -/
  | larRRm16 (rm : RM) (r : Reg)
  /-- LSL r, r/m16 — `0F 03 /r`, R922. -/
  | lslRRm16 (rm : RM) (r : Reg)
  /-- CLTS — `0F 06`, R910. -/
  | clts
  /-- INVD — `0F 08`, R916. -/
  | invd
  /-- WBINVD — `0F 09`, R917. -/
  | wbinvd
  /-- MOV r32, CRn — `0F 20 /r`, R913. -/
  | movR32Cr (n : BitVec 3) (r : Reg)
  /-- MOV CRn, r32 — `0F 22 /r`, R913. -/
  | movCrR32 (n : BitVec 3) (r : Reg)
  /-- MOV r32, DRn — `0F 21 /r`, R914. -/
  | movR32Dr (n : BitVec 3) (r : Reg)
  /-- MOV DRn, r32 — `0F 23 /r`, R914. -/
  | movDrR32 (n : BitVec 3) (r : Reg)
  /-- MOV r32, TRn — `0F 24 /r`, R919. -/
  | movR32Tr (n : BitVec 3) (r : Reg)
  /-- MOV TRn, r32 — `0F 26 /r`, R919. -/
  | movTrR32 (n : BitVec 3) (r : Reg)
  /-- WRMSR — `0F 30`, R931. -/
  | wrmsr
  /-- RDTSC — `0F 31`, R932. -/
  | rdtsc
  /-- RDMSR — `0F 32`, R930. -/
  | rdmsr
  /-- RSM — `0F AA`, R1460. -/
  | rsm
  /-- HLT — `F4`, R918. -/
  | hlt
  /-- ARPL r/m16, r16 — `63 /r`, R920. -/
  | arplRm16R16 (rm : RM) (r : Reg)
  /-- IN AL, imm8 — `E4 ib`, R942. -/
  | inAlImm8 (imm : BitVec 8)
  /-- IN eAX, imm8 — `E5 ib`, R942. -/
  | inEaxImm8 (imm : BitVec 8)
  /-- IN AL, DX — `EC`, R942. -/
  | inAlDx
  /-- IN eAX, DX — `ED`, R942. -/
  | inEaxDx
  /-- OUT imm8, AL — `E6 ib`, R943. -/
  | outImm8Al (imm : BitVec 8)
  /-- OUT imm8, eAX — `E7 ib`, R943. -/
  | outImm8Eax (imm : BitVec 8)
  /-- OUT DX, AL — `EE`, R943. -/
  | outDxAl
  /-- OUT DX, eAX — `EF`, R943. -/
  | outDxEax
  /-- WAIT/FWAIT — `9B`, R1172. -/
  | wait
  /-- FLD m32real — `D9 /0`, R1102. -/
  | fldM32 (m : MemOp)
  /-- FLD m64real — `DD /0`, R1102. -/
  | fldM64 (m : MemOp)
  /-- FLD m80real — `DB /5`, R1102. -/
  | fldM80 (m : MemOp)
  /-- FLD ST(i) — `D9 C0+i`, R1102. -/
  | fldSti (i : BitVec 3)
  /-- FST m32real — `D9 /2`, R1103. -/
  | fstM32 (m : MemOp)
  /-- FST m64real — `DD /2`, R1103. -/
  | fstM64 (m : MemOp)
  /-- FST ST(i) — `DD D0+i`, R1103. -/
  | fstSti (i : BitVec 3)
  /-- FSTP m32real — `D9 /3`, R1104. -/
  | fstpM32 (m : MemOp)
  /-- FSTP m64real — `DD /3`, R1104. -/
  | fstpM64 (m : MemOp)
  /-- FSTP m80real — `DB /7`, R1104. -/
  | fstpM80 (m : MemOp)
  /-- FSTP ST(i) — `DD D8+i`, R1104. -/
  | fstpSti (i : BitVec 3)
  /-- FXCH ST(i) — `D9 C8+i`, R1105. -/
  | fxchSti (i : BitVec 3)
  /-- FILD m16int — `DF /0`, R1106. -/
  | fildM16 (m : MemOp)
  /-- FILD m32int — `DB /0`, R1106. -/
  | fildM32 (m : MemOp)
  /-- FILD m64int — `DF /5`, R1106. -/
  | fildM64 (m : MemOp)
  /-- FIST m16int — `DF /2`, R1107. -/
  | fistM16 (m : MemOp)
  /-- FIST m32int — `DB /2`, R1107. -/
  | fistM32 (m : MemOp)
  /-- FISTP m16int — `DF /3`, R1108. -/
  | fistpM16 (m : MemOp)
  /-- FISTP m32int — `DB /3`, R1108. -/
  | fistpM32 (m : MemOp)
  /-- FISTP m64int — `DF /7`, R1108. -/
  | fistpM64 (m : MemOp)
  /-- FBLD m80dec — `DF /4`, R1109. -/
  | fbldM80 (m : MemOp)
  /-- FBSTP m80dec — `DF /6`, R1110. -/
  | fbstpM80 (m : MemOp)
  /-- FADD m32real — `D8 /0`, R1113. -/
  | faddM32 (m : MemOp)
  /-- FADD m64real — `DC /0`, R1113. -/
  | faddM64 (m : MemOp)
  /-- FADD ST, ST(i) — `D8 C0+i`, R1113. -/
  | faddStSti (i : BitVec 3)
  /-- FADD ST(i), ST — `DC C0+i`, R1113. -/
  | faddStiSt (i : BitVec 3)
  /-- FADDP ST(i), ST — `DE C0+i`, R1113. -/
  | faddpStiSt (i : BitVec 3)
  /-- FIADD m32int — `DA /0`, R1113. -/
  | fiaddM32 (m : MemOp)
  /-- FIADD m16int — `DE /0`, R1113. -/
  | fiaddM16 (m : MemOp)
  /-- FMUL m32real — `D8 /1`, R1116. -/
  | fmulM32 (m : MemOp)
  /-- FMUL m64real — `DC /1`, R1116. -/
  | fmulM64 (m : MemOp)
  /-- FMUL ST, ST(i) — `D8 C8+i`, R1116. -/
  | fmulStSti (i : BitVec 3)
  /-- FMUL ST(i), ST — `DC C8+i`, R1116. -/
  | fmulStiSt (i : BitVec 3)
  /-- FMULP ST(i), ST — `DE C8+i`, R1116. -/
  | fmulpStiSt (i : BitVec 3)
  /-- FIMUL m32int — `DA /1`, R1116. -/
  | fimulM32 (m : MemOp)
  /-- FIMUL m16int — `DE /1`, R1116. -/
  | fimulM16 (m : MemOp)
  /-- FSUB m32real — `D8 /4`, R1114. -/
  | fsubM32 (m : MemOp)
  /-- FSUB m64real — `DC /4`, R1114. -/
  | fsubM64 (m : MemOp)
  /-- FSUB ST, ST(i) — `D8 E0+i`, R1114. -/
  | fsubStSti (i : BitVec 3)
  /-- FSUB ST(i), ST — `DC E8+i`, R1114. -/
  | fsubStiSt (i : BitVec 3)
  /-- FSUBP ST(i), ST — `DE E8+i`, R1114. -/
  | fsubpStiSt (i : BitVec 3)
  /-- FISUB m32int — `DA /4`, R1114. -/
  | fisubM32 (m : MemOp)
  /-- FISUB m16int — `DE /4`, R1114. -/
  | fisubM16 (m : MemOp)
  /-- FSUBR m32real — `D8 /5`, R1115. -/
  | fsubrM32 (m : MemOp)
  /-- FSUBR m64real — `DC /5`, R1115. -/
  | fsubrM64 (m : MemOp)
  /-- FSUBR ST, ST(i) — `D8 E8+i`, R1115. -/
  | fsubrStSti (i : BitVec 3)
  /-- FSUBR ST(i), ST — `DC E0+i`, R1115. -/
  | fsubrStiSt (i : BitVec 3)
  /-- FSUBRP ST(i), ST — `DE E0+i`, R1115. -/
  | fsubrpStiSt (i : BitVec 3)
  /-- FISUBR m32int — `DA /5`, R1115. -/
  | fisubrM32 (m : MemOp)
  /-- FISUBR m16int — `DE /5`, R1115. -/
  | fisubrM16 (m : MemOp)
  /-- FDIV m32real — `D8 /6`, R1117. -/
  | fdivM32 (m : MemOp)
  /-- FDIV m64real — `DC /6`, R1117. -/
  | fdivM64 (m : MemOp)
  /-- FDIV ST, ST(i) — `D8 F0+i`, R1117. -/
  | fdivStSti (i : BitVec 3)
  /-- FDIV ST(i), ST — `DC F8+i`, R1117. -/
  | fdivStiSt (i : BitVec 3)
  /-- FDIVP ST(i), ST — `DE F8+i`, R1117. -/
  | fdivpStiSt (i : BitVec 3)
  /-- FIDIV m32int — `DA /6`, R1117. -/
  | fidivM32 (m : MemOp)
  /-- FIDIV m16int — `DE /6`, R1117. -/
  | fidivM16 (m : MemOp)
  /-- FDIVR m32real — `D8 /7`, R1118. -/
  | fdivrM32 (m : MemOp)
  /-- FDIVR m64real — `DC /7`, R1118. -/
  | fdivrM64 (m : MemOp)
  /-- FDIVR ST, ST(i) — `D8 F8+i`, R1118. -/
  | fdivrStSti (i : BitVec 3)
  /-- FDIVR ST(i), ST — `DC F0+i`, R1118. -/
  | fdivrStiSt (i : BitVec 3)
  /-- FDIVRP ST(i), ST — `DE F0+i`, R1118. -/
  | fdivrpStiSt (i : BitVec 3)
  /-- FIDIVR m32int — `DA /7`, R1118. -/
  | fidivrM32 (m : MemOp)
  /-- FIDIVR m16int — `DE /7`, R1118. -/
  | fidivrM16 (m : MemOp)
  /-- FCOM m32real — `D8 /2`, R1120. -/
  | fcomM32 (m : MemOp)
  /-- FCOM m64real — `DC /2`, R1120. -/
  | fcomM64 (m : MemOp)
  /-- FCOM ST(i) — `D8 D0+i`, R1120. -/
  | fcomSti (i : BitVec 3)
  /-- FCOMP m32real — `D8 /3`, R1120. -/
  | fcompM32 (m : MemOp)
  /-- FCOMP m64real — `DC /3`, R1120. -/
  | fcompM64 (m : MemOp)
  /-- FCOMP ST(i) — `D8 D8+i`, R1120. -/
  | fcompSti (i : BitVec 3)
  /-- FCOMPP — `DE D9`, R1120. -/
  | fcompp
  /-- FUCOM ST(i) — `DD E0+i`, R1121. -/
  | fucomSti (i : BitVec 3)
  /-- FUCOMP ST(i) — `DD E8+i`, R1121. -/
  | fucompSti (i : BitVec 3)
  /-- FUCOMPP — `DA E9`, R1121. -/
  | fucompp
  /-- FICOM m16int — `DE /2`, R1122. -/
  | ficomM16 (m : MemOp)
  /-- FICOM m32int — `DA /2`, R1122. -/
  | ficomM32 (m : MemOp)
  /-- FICOMP m16int — `DE /3`, R1122. -/
  | ficompM16 (m : MemOp)
  /-- FICOMP m32int — `DA /3`, R1122. -/
  | ficompM32 (m : MemOp)
  /-- FTST — `D9 E4`, R1123. -/
  | ftst
  /-- FXAM — `D9 E5`, R1126. -/
  | fxam
  /-- FSQRT — `D9 FA`, R1130. -/
  | fsqrt
  /-- FSCALE — `D9 FD`, R1131. -/
  | fscale
  /-- FXTRACT — `D9 F4`, R1132. -/
  | fxtract
  /-- FPREM — `D9 F8`, R1133. -/
  | fprem
  /-- FPREM1 — `D9 F5`, R1134. -/
  | fprem1
  /-- FRNDINT — `D9 FC`, R1135. -/
  | frndint
  /-- FABS — `D9 E1`, R1136. -/
  | fabs
  /-- FCHS — `D9 E0`, R1137. -/
  | fchs
  /-- FLD1 — `D9 E8`, R1140. -/
  | fld1
  /-- FLDL2T — `D9 E9`, R1140. -/
  | fldl2t
  /-- FLDL2E — `D9 EA`, R1140. -/
  | fldl2e
  /-- FLDPI — `D9 EB`, R1140. -/
  | fldpi
  /-- FLDLG2 — `D9 EC`, R1140. -/
  | fldlg2
  /-- FLDLN2 — `D9 ED`, R1140. -/
  | fldln2
  /-- FLDZ — `D9 EE`, R1140. -/
  | fldz
  /-- FSIN — `D9 FE`, R1145. -/
  | fsin
  /-- FCOS — `D9 FF`, R1145. -/
  | fcos
  /-- FSINCOS — `D9 FB`, R1146. -/
  | fsincos
  /-- FPTAN — `D9 F2`, R1147. -/
  | fptan
  /-- FPATAN — `D9 F3`, R1148. -/
  | fpatan
  /-- F2XM1 — `D9 F0`, R1149. -/
  | f2xm1
  /-- FYL2X — `D9 F1`, R1150. -/
  | fyl2x
  /-- FYL2XP1 — `D9 F9`, R1151. -/
  | fyl2xp1
  /-- FNINIT — `DB E3`, R1160. -/
  | fninit
  /-- FNCLEX — `DB E2`, R1164. -/
  | fnclex
  /-- FNSTSW AX — `DF E0`, R1163. -/
  | fnstswAx
  /-- FINCSTP — `D9 F7`, R1169. -/
  | fincstp
  /-- FDECSTP — `D9 F6`, R1169. -/
  | fdecstp
  /-- FNOP — `D9 D0`, R1171. -/
  | fnop
  /-- FENI — `DB E0`, R1173. -/
  | feni
  /-- FDISI — `DB E1`, R1173. -/
  | fdisi
  /-- FSETPM — `DB E4`, R1173. -/
  | fsetpm
  /-- FLDCW m16 — `D9 /5`, R1161. -/
  | fldcwM16 (m : MemOp)
  /-- FNSTCW m16 — `D9 /7`, R1162. -/
  | fnstcwM16 (m : MemOp)
  /-- FNSTSW m16 — `DD /7`, R1163. -/
  | fnstswM16 (m : MemOp)
  /-- FNSTENV m14/28byte — `D9 /6`, R1165. -/
  | fnstenvM (m : MemOp)
  /-- FLDENV m14/28byte — `D9 /4`, R1166. -/
  | fldenvM (m : MemOp)
  /-- FNSAVE m94/108byte — `DD /6`, R1167. -/
  | fnsaveM (m : MemOp)
  /-- FRSTOR m94/108byte — `DD /4`, R1168. -/
  | frstorM (m : MemOp)
  /-- FFREE ST(i) — `DD C0+i`, R1170. -/
  | ffreeSti (i : BitVec 3)
  /-- FINIT — `9B DB E3`, R1160. -/
  | finit
  /-- FCLEX — `9B DB E2`, R1164. -/
  | fclex
  /-- FSTSW AX — `9B DF E0`, R1163. -/
  | fstswAx
  /-- FSTCW m16 — `9B D9 /7`, R1162. -/
  | fstcwM16 (m : MemOp)
  /-- FSTSW m16 — `9B DD /7`, R1163. -/
  | fstswM16 (m : MemOp)
  /-- FSTENV m14/28byte — `9B D9 /6`, R1165. -/
  | fstenvM (m : MemOp)
  /-- FSAVE m94/108byte — `9B DD /6`, R1167. -/
  | fsaveM (m : MemOp)
  /-- prefix ES: — `26`, R401. -/
  | prefixEs
  /-- prefix CS: — `2E`, R401. -/
  | prefixCs
  /-- prefix SS: — `36`, R401. -/
  | prefixSs
  /-- prefix DS: — `3E`, R401. -/
  | prefixDs
  /-- prefix FS: — `64`, R401. -/
  | prefixFs
  /-- prefix GS: — `65`, R401. -/
  | prefixGs
  /-- prefix operand-size — `66`, R401. -/
  | prefixOpSize
  /-- prefix address-size — `67`, R401. -/
  | prefixAdSize
  /-- prefix LOCK — `F0`, R401. -/
  | prefixLock
  /-- prefix REPNE/REPNZ — `F2`, R401. -/
  | prefixRepne
  /-- prefix REP/REPE/REPZ — `F3`, R401. -/
  | prefixRep
  deriving DecidableEq, Repr

end Sys2Proof
end

