-- ==== Sys2Proof/Machine/State.lean ====
section
/-! DEFINITION. The state of the processor as plain data (10_state.md R140, 11_state_system.md R170, 12_state_fpu.md), the
reasons a step can stop, and the state after RESET (70_reset_and_hazards.md R1601 to R1606, R1620). -/

namespace Sys2Proof.Machine

open Sys2Proof

/-- The eight general registers (R101). -/
structure GRegs where
  eax : Word
  ecx : Word
  edx : Word
  ebx : Word
  esp : Word
  ebp : Word
  esi : Word
  edi : Word
  deriving DecidableEq, Repr

/-- The defined bits of EFLAGS (10_state.md R104, 11_state_system.md R150); reserved positions are not state (D2). -/
structure Flags where
  cf : Bool
  pf : Bool
  af : Bool
  zf : Bool
  sf : Bool
  tf : Bool
  ifl : Bool
  df : Bool
  of : Bool
  iopl : BitVec 2
  nt : Bool
  rf : Bool
  vm : Bool
  ac : Bool
  vif : Bool
  vip : Bool
  id : Bool
  deriving DecidableEq, Repr

/-- The access information of a descriptor (21_segmentation.md R237): TYPE, S, DPL, P, AVL, D/B, G. -/
structure Attr where
  typ : BitVec 4
  s : Bool
  dpl : BitVec 2
  p : Bool
  avl : Bool
  db : Bool
  g : Bool
  deriving DecidableEq, Repr

/-- A segment register, LDTR or TR: the visible selector and the invisible part (R233, R243). `limit` is byte granular.
`usable` is false after a null selector was loaded in protected mode (R236, R310). -/
structure Seg where
  sel : Half
  base : Word
  limit : Word
  attr : Attr
  usable : Bool
  deriving DecidableEq, Repr

/-- The six segment registers (R103). -/
structure Segs where
  es : Seg
  cs : Seg
  ss : Seg
  ds : Seg
  fs : Seg
  gs : Seg
  deriving DecidableEq, Repr

/-- GDTR or IDTR: linear base and 16-bit limit (R151). -/
structure TableReg where
  base : Word
  limit : Half
  deriving DecidableEq, Repr

/-- The control registers that exist (R152 to R156). -/
structure CtlRegs where
  cr0 : Word
  cr2 : Word
  cr3 : Word
  cr4 : Word
  deriving DecidableEq, Repr

/-- The debug registers (R160). -/
structure DbgRegs where
  dr0 : Word
  dr1 : Word
  dr2 : Word
  dr3 : Word
  dr6 : Word
  dr7 : Word
  deriving DecidableEq, Repr

/-- The FPU status word as fields (12_state_fpu.md R1003); B mirrors ES. -/
structure Fsw where
  ie : Bool
  de : Bool
  ze : Bool
  oe : Bool
  ue : Bool
  pe : Bool
  sf : Bool
  es : Bool
  c0 : Bool
  c1 : Bool
  c2 : Bool
  c3 : Bool
  top : BitVec 3
  deriving DecidableEq, Repr

/-- The FPU (12_state_fpu.md R1000 to R1010): R0 to R7, an "empty" bit each (R1009), status, control, error pointers and opcode. -/
structure Fpu where
  regs : Vector (BitVec 80) 8
  empty : Vector Bool 8
  sw : Fsw
  cw : Half
  fcs : Half
  fip : Word
  fds : Half
  fdp : Word
  fop : BitVec 11
  deriving DecidableEq, Repr

/-- `run_state` (10_state.md R130). -/
inductive RunState where
  | running | halted | shutdown
  deriving DecidableEq, Repr

/-- A cached translation (22_paging.md R271): the linear page and the entries it was read from. A 4-megabyte page has its directory
entry in both places. -/
structure TlbEntry where
  page : BitVec 20
  pde : Word
  pte : Word
  deriving DecidableEq, Repr

/-- What the host has at a range of physical addresses (R12, 20_memory.md R210, decision D3). -/
inductive RegionKind where
  /-- Reads like memory, drops writes. -/
  | rom
  /-- A device whose behaviour the spec leaves to the platform: a read is a draw, a write goes to the bus. -/
  | device
  /-- Nothing: a read is a draw, a write is dropped (D3). -/
  | absent
  deriving DecidableEq, Repr

/-- A range of the host's memory map; addresses in no region are RAM. -/
structure Region where
  lo : Nat
  hi : Nat
  kind : RegionKind
  deriving DecidableEq, Repr

/-- What leaves the chip besides RAM traffic (R12): port accesses, reads and writes of device memory, special bus cycles, and the
changes of the FERR# output (47_fpu_numerics.md R1061). -/
inductive BusEvent where
  | ioRead (port : Half) (n : Nat) (v : Nat)
  | ioWrite (port : Half) (n : Nat) (v : Nat)
  | devRead (addr : Word) (v : Byte)
  | devWrite (addr : Word) (v : Byte)
  | intAck (v : Byte)
  | ferr (asserted : Bool)
  | halt | shutdown | flush | writeBack
  deriving DecidableEq, Repr

/-- A repeat prefix (30_encoding.md R406). -/
inductive Rep where
  | repne | rep
  deriving DecidableEq, Repr

/-- The debug conditions of DR6 (64_debug.md R1484): B0 to B3, BD, BS, BT; and, of a trap, whether one of the breakpoints matched was enabled by Ln
or Gn when it matched (R1486). -/
structure DbgCause where
  b : BitVec 4
  bd : Bool
  bs : Bool
  bt : Bool
  armed : Bool := false
  deriving DecidableEq, Repr

/-- No debug condition. -/
def DbgCause.none : DbgCause := { b := 0, bd := false, bs := false, bt := false }

/-- The conditions of two traps that are reported together (R1491). -/
def DbgCause.also (c d : DbgCause) : DbgCause :=
  { b := c.b ||| d.b, bd := c.bd || d.bd, bs := c.bs || d.bs, bt := c.bt || d.bt, armed := c.armed || d.armed }

/-- A debug trap whose delivery is under way or met another exception, which is served first (60_exceptions.md R1232, Table 14-4, "serial"): the
linear address of the instruction the trap came before, where it recurs, and its conditions. -/
structure HeldTrap where
  lin : Word
  cause : DbgCause
  deriving DecidableEq, Repr

/-- Breakpoints that an iteration of REP MOVS or REP STOS matched (64_debug.md R1489): the linear address of the instruction, the registers that
matched, and whether one of them is enabled. -/
structure LateMatch where
  lin : Word
  hits : BitVec 4
  trap : Bool
  deriving DecidableEq, Repr

/-- The latch of the instruction under way: what its prefixes said (R401), how many bytes it has, and what it has done
that the boundary after it must know. Empty at every instruction boundary. -/
structure Latch where
  /-- Segment override (R404). -/
  seg : Option SReg
  /-- 66H present (R405). -/
  opsz : Bool
  /-- 67H present (R405). -/
  adsz : Bool
  /-- F0H present (R408). -/
  lock : Bool
  /-- F2H or F3H present (R406). -/
  rep : Option Rep
  /-- A second prefix of one group was seen (R403). -/
  redundant : Bool
  /-- Bytes of the instruction decoded so far, prefixes included (R402). -/
  len : Nat
  /-- ModR/M and first byte of an ESC instruction, for the FPU opcode register (R1011). -/
  fop : BitVec 11
  /-- Breakpoints whose condition held, enabled or not (R1484), and whether an enabled one did (R1486). -/
  hits : BitVec 4
  trap : Bool
  /-- Data breakpoints of this iteration are reported one iteration late: REP MOVS and REP STOS (R1489). -/
  defer : Bool
  /-- The instruction keeps the RF it loaded (R1488). -/
  keepRf : Bool
  /-- A task switch has committed: a fault no longer restores the state (61_tasks.md R1332). -/
  committed : Bool
  /-- The task switched to has its T bit set (R1485). -/
  bt : Bool
  /-- MOV SS or POP SS has just loaded SS (60_exceptions.md R1206). -/
  setSsShadow : Bool
  /-- STI has just set IF (45_flag_segment_misc.md R811). -/
  setStiShadow : Bool
  /-- MOV CR0 has just changed PG (70_reset_and_hazards.md R1640). -/
  pgSwitch : Bool
  /-- What the FPU's transcendental unit makes of the operands of the instruction under way, and of the second function of FSINCOS
  (47_fpu_numerics.md R1034). The step supplies them: see `withUnit`. -/
  unit : RoundedReal
  unit2 : RoundedReal
  deriving DecidableEq, Repr

/-- The latch at an instruction boundary. -/
def Latch.empty : Latch :=
  { seg := none, opsz := false, adsz := false, lock := false, rep := none, redundant := false, len := 0, fop := 0, hits := 0,
    trap := false, defer := false, keepRf := false, committed := false, bt := false, setSsShadow := false, setStiShadow := false, pgSwitch := false,
    unit := .zero, unit2 := .zero }

/-- `smm_shadow` and what the model keeps beside it while in SMM (63_smm.md R1458, R1460, R1461). -/
structure SmmShadow where
  /-- The saved state without a slot in the dump. -/
  cr2 : Word
  cr4 : Word
  gdtr : TableReg
  idtr : TableReg
  segs : Segs
  ldtr : Seg
  tr : Seg
  cpl : BitVec 2
  /-- `smbase` at entry: where the dump was written. -/
  base : Word
  /-- The dump as written, offsets FE00H to FFFFH, to recognise a handler that changed what it may not (U46). -/
  dump : List Byte
  /-- The handler has executed LIDT (R1455). -/
  idtLoaded : Bool
  /-- The machine was halted when SMI# came (R1465). -/
  halted : Bool
  /-- `smm_io_restart_eip`: the I/O instruction that completed just before the SMI# boundary, if it was one (R1461). -/
  ioRestart : Option Word
  deriving DecidableEq, Repr

/-- A RESET request; `bist` asks for the built-in self test (70_reset_and_hazards.md R1600, R1615). -/
structure ResetReq where
  bist : Bool
  deriving DecidableEq, Repr

/-- What the host drives (00_scope.md R12). -/
structure Inputs where
  reset : Option ResetReq
  init : Bool
  /-- A machine-check report (D41). -/
  mc : Bool
  /-- INTR is active and this vector will be supplied at acknowledge (60_exceptions.md R1205). -/
  intr : Option Byte
  a20m : Bool
  ignne : Bool
  /-- The values of the next port reads; when the list is exhausted a read is a draw (46_system_io.md R949). -/
  ports : List Word
  deriving DecidableEq, Repr

/-- The processor, the memory on its bus, and the host's inputs and outputs. -/
structure State where
  regs : GRegs
  flags : Flags
  eip : Word
  segs : Segs
  cpl : BitVec 2
  gdtr : TableReg
  idtr : TableReg
  ldtr : Seg
  tr : Seg
  cr : CtlRegs
  dr : DbgRegs
  tsc : BitVec 64
  msrs : List Msr
  fpu : Fpu
  run : RunState
  nmiBlocked : Bool
  nmiPending : Bool
  smiPending : Bool
  inhibitSs : Bool
  inhibitSti : Bool
  /-- A MOV CR0 has changed PG: the instructions after it, through the JMP that follows a setting of PG, must come from identity-mapped pages
  (the model's own; 70_reset_and_hazards.md R1640, D71). -/
  pgSwitched : Bool
  inSmm : Bool
  smbase : Word
  smm : SmmShadow
  /-- The I/O instruction that the last step completed, for `smm_io_restart_eip` (63_smm.md R1461). -/
  lastIo : Option Word
  /-- Physical memory (20_memory.md R210), canonical: see `Memory.wf`. -/
  mem : List Host.Cell
  memMap : List Region
  itlb : List TlbEntry
  dtlb : List TlbEntry
  /-- A debug trap left by the last instruction (64_debug.md R1489, R1492, R1485). -/
  pendingDb : Option DbgCause
  /-- Breakpoints matched by iterations of REP MOVS or REP STOS, each to be reported after the next iteration of its instruction (R1489). -/
  late : List LateMatch
  /-- Debug traps that recur when the handler of another exception has returned (60_exceptions.md R1232). -/
  recurs : List HeldTrap
  inp : Inputs
  bus : List BusEvent
  /-- Draws consumed so far (the model's own; R27). -/
  draws : Nat
  /-- Steps taken (the model's own; indexes `Config.tscExtra`). -/
  ticks : Nat
  cur : Latch
  deriving DecidableEq, Repr

/-- A machine stop that is not a refusal. The spec gives the processor none: every exception is delivered and every failed
delivery ends in shutdown, which is a state. -/
inductive Fault where
  /-- Would be raised by `step` if fetching an instruction ended otherwise than with an instruction, an exception or a refusal.
  Fetching never does (`Sys2Proof.Laws.fetchInstr_stops`), so no state reaches it; safe: nothing is claimed of a step that
  stops. -/
  | fetchStuck
  deriving DecidableEq, Repr

/-- The refusals (00_scope.md R27: "the model gives the program no meaning from that point"). Each is safe: a claim about a
next state says nothing of a refused step. -/
inductive Refusal where
  /-- Raised by `exec` for an instruction that has no meaning yet. -/
  | notModelled (mnemonic : String)
  /-- Raised by the decode gate: two prefixes of one group (R403, D4, U2). -/
  | redundantPrefix
  /-- Raised by the decode gate: a repeat prefix that the spec gives no meaning (R406, D5, U3). -/
  | repeatPrefixMisuse
  /-- Raised by the decode gate: D6H or F1H (R450, U15). -/
  | reservedOpcode
  /-- Raised by the decode gate: 82H, group 2 /6, group 3 /1 (R450, D6). -/
  | aliasOpcode
  /-- Raised by MOV CR4: it would set VME or PVI (R156, D58). -/
  | virtualModeExtensions
  /-- Raised by FPU arithmetic with precision control 01 (47_fpu_numerics.md R1033, U32). -/
  | reservedPrecision
  /-- Raised by exception delivery: in SMM before the handler executed LIDT (R1455, D69). -/
  | smmNoIdt
  /-- Raised by RSM: the I/O restart slot is neither 00H nor FFH, or FFH after no I/O instruction (R1461, D57). -/
  | smmIoRestart
  /-- Raised by RSM: Halt Auto Restart changed from 0 to 1 (R1465: "unpredictable (refusal in the model)"). -/
  | smmHaltRestart
  /-- Raised by RSM: the handler changed a read-only or reserved part of the dump (R1458, U46). -/
  | smmDumpChanged
  /-- Raised by MOV CR0 that changes PG and by the fetch of the instruction after it: a byte of the two is not identity mapped (R1640,
  D71). -/
  | pagingNotIdentity
  deriving DecidableEq, Repr

/-- Attributes of a segment after RESET: byte 93H, present, DPL 0, read/write, accessed, 16-bit (R1605). -/
def Attr.reset : Attr := { typ := 3, s := true, dpl := 0, p := true, avl := false, db := false, g := false }

/-- SS, DS, ES, FS, GS after RESET (R1605). -/
def Seg.reset : Seg := { sel := 0, base := 0, limit := 0xFFFF, attr := .reset, usable := true }

/-- The segment registers after RESET: CS is F000H with base FFFF0000H (R1603, R1605). -/
def Segs.reset : Segs :=
  { es := .reset, cs := { Seg.reset with sel := 0xF000, base := 0xFFFF0000 }, ss := .reset, ds := .reset, fs := .reset, gs := .reset }

/-- LDTR after RESET: byte 82H, an LDT (R1605). -/
def Seg.resetLdtr : Seg :=
  { Seg.reset with attr := { Attr.reset with typ := 2, s := false } }

/-- TR after RESET: a busy 32-bit TSS (R1605, D50). -/
def Seg.resetTr : Seg :=
  { Seg.reset with attr := { Attr.reset with typ := 11, s := false } }

/-- EFLAGS = 00000002H (R1601). -/
def Flags.reset : Flags :=
  { cf := false, pf := false, af := false, zf := false, sf := false, tf := false, ifl := false, df := false, of := false, iopl := 0,
    nt := false, rf := false, vm := false, ac := false, vif := false, vip := false, id := false }

/-- General registers after RESET without the self test: EDX identifies the processor (R1601). -/
def GRegs.reset : GRegs :=
  { eax := 0, ecx := 0, edx := (0x05#8 ++ Config.steppingId).setWidth 32, ebx := 0, esp := 0, ebp := 0, esi := 0, edi := 0 }

/-- The status word 0000H. -/
def Fsw.zero : Fsw :=
  { ie := false, de := false, ze := false, oe := false, ue := false, pe := false, sf := false, es := false, c0 := false, c1 := false,
    c2 := false, c3 := false, top := 0 }

/-- The FPU after RESET: control word 0040H, tags 01, registers +0 (R1620). -/
def Fpu.reset : Fpu :=
  { regs := .replicate 8 0, empty := .replicate 8 false, sw := .zero, cw := 0x0040, fcs := 0, fip := 0, fds := 0, fdp := 0, fop := 0 }

/-- The debug registers after RESET and INIT (R1604). -/
def DbgRegs.reset : DbgRegs := { dr0 := 0, dr1 := 0, dr2 := 0, dr3 := 0, dr6 := 0xFFFF0FF0, dr7 := 0x00000400 }

/-- GDTR and IDTR after RESET (R1605). -/
def TableReg.reset : TableReg := { base := 0, limit := 0xFFFF }

/-- `smm_shadow` outside SMM: not meaningful (R140). -/
def SmmShadow.empty : SmmShadow :=
  { cr2 := 0, cr4 := 0, gdtr := .reset, idtr := .reset, segs := .reset, ldtr := .resetLdtr, tr := .resetTr, cpl := 0, base := 0,
    dump := [], idtLoaded := false, halted := false, ioRestart := none }

/-- A register of the MSR file after RESET: TSC, CESR and TR12 are 0 (D54), the others as `msr_set` gives them (R1604). -/
def Msr.atReset (m : Msr) : Msr :=
  match m.role with
  | .tsc | .cesr | .tr12 => { m with value := 0 }
  | .mcType | .mcAddr | .other => m

/-- No input active. -/
def Inputs.idle : Inputs :=
  { reset := none, init := false, mc := false, intr := none, a20m := false, ignne := false, ports := [] }

/-- The machine right after RESET (R1600 to R1606, R1620), with memory that lists nothing. -/
def State.reset : State :=
  { regs := .reset, flags := .reset, eip := 0x0000FFF0, segs := .reset, cpl := 0, gdtr := .reset, idtr := .reset, ldtr := .resetLdtr,
    tr := .resetTr, cr := { cr0 := 0x60000010, cr2 := 0, cr3 := 0, cr4 := 0 }, dr := .reset, tsc := 0, msrs := Config.msrSet.map Msr.atReset, fpu := .reset,
    run := .running, nmiBlocked := false, nmiPending := false, smiPending := false, inhibitSs := false, inhibitSti := false,
    pgSwitched := false, inSmm := false, smbase := 0x00030000, smm := .empty, lastIo := none, mem := [], memMap := [], itlb := [], dtlb := [], pendingDb := none,
    late := [], recurs := [], inp := .idle, bus := [], draws := 0, ticks := 0, cur := .empty }

/-- The value of a general register as 32 bits. -/
def GRegs.get (g : GRegs) : Reg → Word
  | .eax => g.eax | .ecx => g.ecx | .edx => g.edx | .ebx => g.ebx | .esp => g.esp | .ebp => g.ebp | .esi => g.esi | .edi => g.edi

/-- Replace a general register. -/
def GRegs.set (g : GRegs) (r : Reg) (v : Word) : GRegs :=
  match r with
  | .eax => { g with eax := v } | .ecx => { g with ecx := v } | .edx => { g with edx := v } | .ebx => { g with ebx := v }
  | .esp => { g with esp := v } | .ebp => { g with ebp := v } | .esi => { g with esi := v } | .edi => { g with edi := v }

/-- A segment register by name. -/
def Segs.get (s : Segs) : SReg → Seg
  | .es => s.es | .cs => s.cs | .ss => s.ss | .ds => s.ds | .fs => s.fs | .gs => s.gs

/-- Replace a segment register. -/
def Segs.set (s : Segs) (r : SReg) (v : Seg) : Segs :=
  match r with
  | .es => { s with es := v } | .cs => { s with cs := v } | .ss => { s with ss := v }
  | .ds => { s with ds := v } | .fs => { s with fs := v } | .gs => { s with gs := v }

end Sys2Proof.Machine
end

