-- ==== Sys2Proof/Machine/Monad.lean ====
section
/-! DEFINITION. The computation an instruction's meaning is written in: it reads and writes the state, and may stop early by
raising an exception (00_scope.md R26), by asking for a software interrupt, by refusing, or by waiting. -/

namespace Sys2Proof.Machine

open Sys2Proof

/-- An exception raised by an instruction or by the delivery of an event: vector, error code if the exception has one (R1201),
and the debug conditions a #DB reports (R1491). -/
structure Exc where
  vec : Nat
  code : Option Word
  dbg : Option DbgCause
  deriving DecidableEq, Repr

/-- How a computation stops short of its end. -/
inductive Stop where
  /-- A fault: the instruction's start state is restored and the exception delivered (R26, R1203). -/
  | exc (e : Exc)
  /-- INT n, INT 3 or INTO: delivered as a trap after the instruction (R735, R1241). -/
  | soft (vec : Nat)
  /-- The model gives the program no meaning from here (R27). -/
  | refuse (r : Refusal)
  /-- The processor does not execute the instruction yet and waits for an external interrupt (R1236, CR0.NE = 0). -/
  | stall
  /-- The processor enters shutdown (R1460, R1232). -/
  | shutdown
  deriving DecidableEq, Repr

/-- Computations over the state. On a stop the state reached so far is kept beside the reason. -/
abbrev M := EStateM Stop State

/-- `raise #XX(code)` (R26). -/
def raise {α : Type} (vec : Nat) (code : Option Word) : M α := throw (.exc { vec := vec, code := code, dbg := none })

/-- `#GP(code)` (R1237). -/
def gp {α : Type} (code : Word) : M α := raise 13 (some code)
/-- `#SS(code)` (R1235). -/
def sf {α : Type} (code : Word) : M α := raise 12 (some code)
/-- `#NP(code)` (R1234). -/
def np {α : Type} (code : Word) : M α := raise 11 (some code)
/-- `#TS(code)` (R1233). -/
def ts {α : Type} (code : Word) : M α := raise 10 (some code)
/-- `#UD` (R1230). -/
def ud {α : Type} : M α := raise 6 none
/-- `#NM` (R1231). -/
def nm {α : Type} : M α := raise 7 none
/-- `#DE` (R1225). -/
def de {α : Type} : M α := raise 0 none
/-- Stop with a refusal (R27). -/
def refuse {α : Type} (r : Refusal) : M α := throw (.refuse r)

/-- Go on only if `ok`; otherwise run `els` (which raises). -/
def require (ok : Bool) (els : M Unit) : M Unit := if ok then pure () else els

/-- The next draw: a value of `w` bits that nothing constrains (R27). -/
def draw (w : Nat) : M (BitVec w) := do
  let s ← get
  set { s with draws := s.draws + 1 }
  pure (Config.draw w s.draws)

/-- A draw of one bit. -/
def drawBool : M Bool := do
  let b ← draw 1
  pure (b == 1)

/-- Bit `i` of a word. -/
def bit {w : Nat} (v : BitVec w) (i : Nat) : Bool := v.getLsbD i

/-- CR0.PE (R152). -/
def State.pe (s : State) : Bool := bit s.cr.cr0 0
/-- CR0.MP. -/
def State.mp (s : State) : Bool := bit s.cr.cr0 1
/-- CR0.EM. -/
def State.em (s : State) : Bool := bit s.cr.cr0 2
/-- CR0.TS. -/
def State.tsFlag (s : State) : Bool := bit s.cr.cr0 3
/-- CR0.NE. -/
def State.ne (s : State) : Bool := bit s.cr.cr0 5
/-- CR0.WP. -/
def State.wp (s : State) : Bool := bit s.cr.cr0 16
/-- CR0.AM. -/
def State.am (s : State) : Bool := bit s.cr.cr0 18
/-- CR0.PG. -/
def State.pg (s : State) : Bool := bit s.cr.cr0 31
/-- CR4.TSD (R156). -/
def State.tsd (s : State) : Bool := bit s.cr.cr4 2
/-- CR4.DE. -/
def State.de4 (s : State) : Bool := bit s.cr.cr4 3
/-- CR4.PSE. -/
def State.pse (s : State) : Bool := bit s.cr.cr4 4
/-- CR4.MCE. -/
def State.mce (s : State) : Bool := bit s.cr.cr4 6
/-- Virtual-8086 mode (62_v86.md R1400). -/
def State.v86 (s : State) : Bool := s.pe && s.flags.vm
/-- Protected mode with VM = 0: the mode in which selectors name descriptors (R234). -/
def State.prot (s : State) : Bool := s.pe && !s.flags.vm

/-- EFLAGS as 32 bits (10_state.md R104): bit 1 reads 1, the other reserved positions 0. -/
def Flags.word (f : Flags) : Word :=
  let b (x : Bool) (i : Nat) : Word := if x then 1#32 <<< i else 0
  0x2 ||| b f.cf 0 ||| b f.pf 2 ||| b f.af 4 ||| b f.zf 6 ||| b f.sf 7 ||| b f.tf 8 ||| b f.ifl 9 ||| b f.df 10 ||| b f.of 11
    ||| (f.iopl.setWidth 32 <<< 12) ||| b f.nt 14 ||| b f.rf 16 ||| b f.vm 17 ||| b f.ac 18 ||| b f.vif 19 ||| b f.vip 20 ||| b f.id 21

/-- The defined bits of a 32-bit image of EFLAGS (R104, D2). -/
def Flags.ofWord (v : Word) : Flags :=
  { cf := bit v 0, pf := bit v 2, af := bit v 4, zf := bit v 6, sf := bit v 7, tf := bit v 8, ifl := bit v 9, df := bit v 10,
    of := bit v 11, iopl := v.extractLsb' 12 2, nt := bit v 14, rf := bit v 16, vm := bit v 17, ac := bit v 18, vif := bit v 19,
    vip := bit v 20, id := bit v 21 }

/-- The operand size `os` of the instruction under way (30_encoding.md R405). -/
def State.os (s : State) : Size :=
  let d : Size := if s.segs.cs.attr.db then .s32 else .s16
  if s.cur.opsz then d.flip else d

/-- The address size `as` of the instruction under way (R405). -/
def State.as (s : State) : Size :=
  let d : Size := if s.segs.cs.attr.db then .s32 else .s16
  if s.cur.adsz then d.flip else d

/-- The stack address size `ss` (10_state.md R108). -/
def State.ss (s : State) : Size := if s.segs.ss.attr.db then .s32 else .s16

/-- The byte register of a number: AL, CL, DL, BL, AH, CH, DH, BH (R101). -/
def GRegs.get8 (g : GRegs) (r : Reg) : Byte :=
  match r with
  | .eax => g.eax.extractLsb' 0 8 | .ecx => g.ecx.extractLsb' 0 8 | .edx => g.edx.extractLsb' 0 8 | .ebx => g.ebx.extractLsb' 0 8
  | .esp => g.eax.extractLsb' 8 8 | .ebp => g.ecx.extractLsb' 8 8 | .esi => g.edx.extractLsb' 8 8 | .edi => g.ebx.extractLsb' 8 8

/-- Bits 7 to 0 replaced (R101). -/
def mergeLow8 (old : Word) (v : Byte) : Word := old.extractLsb' 8 24 ++ v
/-- Bits 15 to 8 replaced (R101). -/
def mergeHigh8 (old : Word) (v : Byte) : Word := (old.extractLsb' 16 16 ++ v) ++ old.extractLsb' 0 8
/-- Bits 15 to 0 replaced (R101). -/
def mergeLow16 (old : Word) (v : Half) : Word := old.extractLsb' 16 16 ++ v

/-- Write a byte register; the other bits of its long register stay (R101). -/
def GRegs.set8 (g : GRegs) (r : Reg) (v : Byte) : GRegs :=
  match r with
  | .eax => { g with eax := mergeLow8 g.eax v } | .ecx => { g with ecx := mergeLow8 g.ecx v }
  | .edx => { g with edx := mergeLow8 g.edx v } | .ebx => { g with ebx := mergeLow8 g.ebx v }
  | .esp => { g with eax := mergeHigh8 g.eax v } | .ebp => { g with ecx := mergeHigh8 g.ecx v }
  | .esi => { g with edx := mergeHigh8 g.edx v } | .edi => { g with ebx := mergeHigh8 g.ebx v }

/-- Read a register at a width of 8, 16 or 32 bits (R101). -/
def GRegs.read (g : GRegs) (w : Nat) (r : Reg) : BitVec w :=
  if w = 8 then (g.get8 r).setWidth w else (g.get r).setWidth w

/-- Write a register at a width of 8, 16 or 32 bits; a 16-bit write leaves bits 31 to 16 (R101). -/
def GRegs.write (g : GRegs) (w : Nat) (r : Reg) (v : BitVec w) : GRegs :=
  if w = 8 then g.set8 r (v.setWidth 8)
  else if w = 16 then g.set r (mergeLow16 (g.get r) (v.setWidth 16))
  else g.set r (v.setWidth 32)

/-- Read a register of the state. -/
def readReg (w : Nat) (r : Reg) : M (BitVec w) := do
  let s ← get
  pure (s.regs.read w r)

/-- Write a register of the state. -/
def writeReg (w : Nat) (r : Reg) (v : BitVec w) : M Unit :=
  modify fun s => { s with regs := s.regs.write w r v }

/-- Replace the flags by a function of them. -/
def modifyFlags (f : Flags → Flags) : M Unit := modify fun s => { s with flags := f s.flags }

/-- Replace the latch of the instruction under way. -/
def modifyCur (f : Latch → Latch) : M Unit := modify fun s => { s with cur := f s.cur }

/-- The model's own look at memory: what `m` reads leaves no trace on the bus. -/
def quietly {α : Type} (m : M α) : M α := do
  let s ← get
  let v ← m
  modify fun t => { t with bus := s.bus }
  pure v

/-- Put an event on the bus log (R12). -/
def emit (e : BusEvent) : M Unit := modify fun s => { s with bus := e :: s.bus }

end Sys2Proof.Machine
end

