-- ==== Sys2Proof/Machine/Memory.lean ====
section
/-! DEFINITION. Physical memory: the canonical list of cells, the host's map, and the physical access primitives
(20_memory.md R200, R201, R210, 65_cache_mp.md R1560). -/

namespace Sys2Proof.Machine

open Sys2Proof

/-- What an unlisted byte reads as: 0 (DESIGN CHOICE, notes/assumptions/1.md; R210 leaves memory to the host). -/
def Memory.fill : Byte := 0

/-- The byte at a physical address. -/
def Memory.read : List Host.Cell → Nat → Byte
  | [], _ => Memory.fill
  | (k, v) :: m, a => if k = a then v else Memory.read m a

/-- Write a byte, keeping the canonical form: a byte equal to the fill is not listed. -/
def Memory.write : List Host.Cell → Nat → Byte → List Host.Cell
  | [], a, v => if v = Memory.fill then [] else [(a, v)]
  | (k, w) :: m, a, v =>
    if a < k then (if v = Memory.fill then (k, w) :: m else (a, v) :: (k, w) :: m)
    else if a = k then (if v = Memory.fill then m else (a, v) :: m)
    else (k, w) :: Memory.write m a v

/-- Every listed address is at least `lo` and below 2^32, the addresses rise strictly, and no entry holds the fill. -/
def Memory.wfFrom (lo : Nat) : List Host.Cell → Bool
  | [] => true
  | (k, v) :: m => decide (lo ≤ k) && decide (k < 2 ^ 32) && decide (v ≠ Memory.fill) && Memory.wfFrom (k + 1) m

/-- The canonical form of memory. -/
def Memory.wf (m : List Host.Cell) : Bool := Memory.wfFrom 0 m

/-- A20M# masks bit 20 of physical addresses, in real-address mode only (65_cache_mp.md R1560, D67). -/
def State.a20 (s : State) (a : Word) : Word := if s.inp.a20m && !s.pe then a &&& 0xFFEFFFFF else a

/-- The region of the host's map that holds an address, if any (R210). -/
def regionAt : List Region → Nat → Option RegionKind
  | [], _ => none
  | r :: rs, a => if decide (r.lo ≤ a) && decide (a ≤ r.hi) then some r.kind else regionAt rs a

/-- PhysRead of one byte (R23, R210, D3): a device or nothing answers with a draw, and a device sees the read on the bus
(46_system_io.md R948). -/
def physReadByte (a : Word) : M Byte := do
  let s ← get
  let pa := s.a20 a
  match regionAt s.memMap pa.toNat with
  | none => pure (Memory.read s.mem pa.toNat)
  | some .rom => pure (Memory.read s.mem pa.toNat)
  | some .device => do
    let v ← draw 8
    emit (.devRead pa v)
    pure v
  | some .absent => draw 8

/-- PhysWrite of one byte (R23, R210, D3): ROM and nothing drop it, a device sees it on the bus. -/
def physWriteByte (a : Word) (v : Byte) : M Unit := do
  let s ← get
  let pa := s.a20 a
  match regionAt s.memMap pa.toNat with
  | none => set { s with mem := Memory.write s.mem pa.toNat v }
  | some .rom => pure ()
  | some .device => emit (.devWrite pa v)
  | some .absent => pure ()

/-- Read the bytes at a list of physical addresses as one little-endian number (R201). The order of the partial cycles is open (65_cache_mp.md R1546):
one byte after the other, the first of the list first, is the model's choice (notes/assumptions/47.md). -/
def load : List Word → M Nat
  | [] => pure 0
  | a :: as => do
    let b ← physReadByte a
    let hi ← load as
    pure (b.toNat + 256 * hi)

/-- The bytes at a list of physical addresses, one by one. -/
def physBytes : List Word → M (List Byte)
  | [] => pure []
  | a :: as => do
    let b ← physReadByte a
    let rest ← physBytes as
    pure (b :: rest)

/-- A list of bytes as a little-endian number (R201). -/
def leNat : List Byte → Nat
  | [] => 0
  | b :: bs => b.toNat + 256 * leNat bs

/-- Write the low bytes of a number at a list of physical addresses, little endian (R201), in the order of `load`, the model's choice
(65_cache_mp.md R1546, notes/assumptions/47.md). -/
def store : List Word → Nat → M Unit
  | [], _ => pure ()
  | a :: as, v => do
    physWriteByte a (BitVec.ofNat 8 v)
    store as (v / 256)

/-- `n` consecutive addresses from `a` (R201). -/
def consecutive (a : Word) : Nat → List Word
  | 0 => []
  | n + 1 => a :: consecutive (a + 1) n

/-- PhysRead (R23). -/
def physRead (a : Word) (n : Nat) : M Nat := load (consecutive a n)

/-- PhysWrite (R23). -/
def physWrite (a : Word) (n : Nat) (v : Nat) : M Unit := store (consecutive a n) v

end Sys2Proof.Machine
end

