-- ==== Sys2Proof/Machine/Paging.lean ====
section
/-! DEFINITION. Linear to physical addresses (22_paging.md) with the translation lookaside buffers as state, and the linear
access primitives (00_scope.md R23). -/

namespace Sys2Proof.Machine

open Sys2Proof

/-- What an access is for, as paging sees it: a write, a user-level access (R268), an instruction fetch (R271). -/
structure Access where
  write : Bool
  user : Bool
  fetch : Bool
  deriving DecidableEq, Repr

/-- The processor's own accesses to descriptor tables, TSS and IDT: supervisor level (R23, R268). -/
def Access.system (write : Bool) : Access := { write := write, user := false, fetch := false }

/-- `#PF` with the error code of R1221; CR2 holds the linear address (R154). -/
def pageFault {α : Type} (lin : Word) (a : Access) (present rsv : Bool) : M α := do
  modify fun s => { s with cr := { s.cr with cr2 := lin } }
  let b (x : Bool) (v : Word) : Word := if x then v else 0
  raise 14 (some (b present 1 ||| b a.write 2 ||| b a.user 4 ||| b rsv 8))

/-- Access rights (R269, Table 12-4, D13). -/
def permitted (wp : Bool) (pde pte : Word) (a : Access) : Bool :=
  let userPage := bit pde 2 && bit pte 2
  let writable := bit pde 1 && bit pte 1
  if a.user then userPage && (!a.write || writable)
  else !a.write || !wp || writable

/-- The physical address of the directory entry of a linear address (R262). -/
def pdeAddr (cr3 lin : Word) : Word := (cr3 &&& 0xFFFFF000) + ((lin >>> 22) <<< 2)

/-- The physical address of the table entry (R262). -/
def pteAddr (pde lin : Word) : Word := (pde &&& 0xFFFFF000) + (((lin >>> 12) &&& 0x3FF) <<< 2)

/-- PhysRead32 as a word. -/
def physRead32 (a : Word) : M Word := do
  let v ← physRead a 4
  pure (BitVec.ofNat 32 v)

/-- Keep a translation in the buffer of its kind, replacing what that page had (R271). An entry covers 4 kilobytes, of a 4-megabyte page too, the
model's choice (notes/assumptions/8.md). -/
def tlbInsert (fetch : Bool) (e : TlbEntry) : M Unit :=
  modify fun s =>
    if fetch then { s with itlb := e :: s.itlb.filter fun x => x.page != e.page }
    else { s with dtlb := e :: s.dtlb.filter fun x => x.page != e.page }

/-- Flush both buffers (R272). -/
def tlbFlush : M Unit := modify fun s => { s with itlb := [], dtlb := [] }

/-- The directory entry maps a 4-megabyte page (R275). -/
def bigPage (s : State) (pde : Word) : Bool := s.pse && bit pde 7

/-- The physical address a pair of entries gives (R262, R275). -/
def frameAddr (big : Bool) (pde pte lin : Word) : Word :=
  if big then (pde &&& 0xFFC00000) ||| (lin &&& 0x003FFFFF) else (pte &&& 0xFFFFF000) ||| (lin &&& 0xFFF)

/-- Set bits of a page entry in memory if they are not all set (R264). -/
def setEntryBits (addr old bits : Word) : M Word :=
  if old &&& bits = bits then pure old
  else do
    physWrite addr 4 (old ||| bits).toNat
    pure (old ||| bits)

/-- The table walk of R262 (4-kilobyte pages) and R275 (4-megabyte pages). A reserved bit faults with P = 1 and before the rights are checked, the
model's choice (notes/assumptions/57.md). -/
def walk (lin : Word) (a : Access) : M Word := do
  let s ← get
  let pa := pdeAddr s.cr.cr3 lin
  let pde ← physRead32 pa
  require (bit pde 0) (pageFault lin a false false)
  if bigPage s pde then
    require (pde &&& 0x003FF000 = 0) (pageFault lin a true true)
    require (permitted s.wp pde pde a) (pageFault lin a true false)
    let pde ← setEntryBits pa pde (if a.write then 0x60 else 0x20)
    tlbInsert a.fetch { page := lin.extractLsb' 12 20, pde := pde, pte := pde }
    pure (frameAddr true pde pde lin)
  else
    let ta := pteAddr pde lin
    let pte ← physRead32 ta
    require (bit pte 0) (pageFault lin a false false)
    if permitted s.wp pde pte a then
      let pde ← setEntryBits pa pde 0x20
      let pte ← setEntryBits ta pte (if a.write then 0x60 else 0x20)
      tlbInsert a.fetch { page := lin.extractLsb' 12 20, pde := pde, pte := pte }
      pure (frameAddr false pde pte lin)
    else
      -- the directory's Accessed bit is set before the protection fault (R262)
      let _ ← setEntryBits pa pde 0x20
      pageFault lin a true false

/-- The bits of an entry on which a cached and a fresh translation can disagree: all but AVAIL, and D unless the access would set
it (R263, R264). -/
def entryMask (dirty : Bool) : Word := if dirty then 0xFFFFF1FF else 0xFFFFF1BF

/-- A cached translation agrees with the tables in memory on all that this access reads or would set there (R271). The comparison is
the model's: the processor makes no bus cycle for it. -/
def tlbCurrent (e : TlbEntry) (lin : Word) (write : Bool) : M Bool := quietly do
  let s ← get
  let pde ← physRead32 (pdeAddr s.cr.cr3 lin)
  let dirty (leaf : Bool) : Word := entryMask (leaf && write)
  let big := bigPage s pde
  if !(pde &&& dirty big == e.pde &&& dirty big) then pure false
  else if big then pure true
  else
    let pte ← physRead32 (pteAddr pde lin)
    pure (pte &&& dirty true == e.pte &&& dirty true)

/-- Translate (R262) with the buffers of R271: a buffered translation that the tables no longer support may or may not be used, which
is a free choice, until it is invalidated. A buffered translation that would need its Dirty bit set is not used for a write. -/
def translate (lin : Word) (a : Access) : M Word := do
  let s ← get
  if !s.pg then pure lin
  else
    let page := lin.extractLsb' 12 20
    match (if a.fetch then s.itlb else s.dtlb).find? fun e => e.page == page with
    | none => walk lin a
    | some e =>
      let current ← tlbCurrent e lin a.write
      if current then walk lin a
      else
        let stale ← drawBool
        if stale && (!a.write || bit e.pte 6) then
          require (permitted s.wp e.pde e.pte a) (pageFault lin a true false)
          pure (frameAddr (bigPage s e.pde) e.pde e.pte lin)
        else walk lin a

/-- The bytes from a linear address to the end of its page. -/
def pageRoom (lin : Word) : Nat := 4096 - (lin &&& 0xFFF).toNat

/-- The physical addresses of `n` bytes that cross into a second page: `p0` and `p1` are those of the first byte and of the second page. -/
def acrossPages (lin : Word) (n : Nat) (p0 p1 : Word) : List Word :=
  consecutive p0 (pageRoom lin) ++ consecutive p1 (n - pageRoom lin)

/-- The physical addresses of `n` bytes (at most one page long) at a linear address, translated once per page touched (R262). That the lower page is
translated first, and that a fault in the upper page puts the address of that page's first byte into CR2, is the model's choice
(notes/assumptions/64.md). -/
def linAddrs (lin : Word) (n : Nat) (a : Access) : M (List Word) := do
  let p0 ← translate lin a
  if n ≤ pageRoom lin then pure (consecutive p0 n)
  else
    let p1 ← translate (lin + BitVec.ofNat 32 (pageRoom lin)) a
    pure (acrossPages lin n p0 p1)

/-- `linAddrs` inside a task-state segment: when the bytes cross a page boundary, a draw says which page is translated first
(61_tasks.md R1311, 93_implementation_defined.md U13). -/
def tssAddrs (lin : Word) (n : Nat) (a : Access) : M (List Word) := do
  if n ≤ pageRoom lin then linAddrs lin n a
  else
    let upper ← drawBool
    if upper then
      let p1 ← translate (lin + BitVec.ofNat 32 (pageRoom lin)) a
      let p0 ← translate lin a
      pure (acrossPages lin n p0 p1)
    else linAddrs lin n a

/-- LinRead at supervisor level (R23). -/
def sysRead (lin : Word) (n : Nat) : M Nat := do
  let ps ← linAddrs lin n (.system false)
  load ps

/-- LinWrite at supervisor level (R23). -/
def sysWrite (lin : Word) (n v : Nat) : M Unit := do
  let ps ← linAddrs lin n (.system true)
  store ps v

/-- LinRead16 (R23). -/
def sysRead16 (lin : Word) : M Half := do
  let v ← sysRead lin 2
  pure (BitVec.ofNat 16 v)

/-- LinRead32 (R23). -/
def sysRead32 (lin : Word) : M Word := do
  let v ← sysRead lin 4
  pure (BitVec.ofNat 32 v)

/-- LinRead inside a task-state segment: the order of the pages is free (61_tasks.md R1311, U13). -/
def tssRead (lin : Word) (n : Nat) : M Nat := do
  let ps ← tssAddrs lin n (.system false)
  load ps

/-- A word of a task-state segment. -/
def tssRead16 (lin : Word) : M Half := do
  let v ← tssRead lin 2
  pure (BitVec.ofNat 16 v)

/-- The translation of a linear address by the tables is the address itself; nothing is kept of the walk. -/
def identityMapped (lin : Word) (s : State) : Bool :=
  match walk lin { write := false, user := false, fetch := true } s with
  | .ok p _ => p == lin
  | .error _ _ => false

end Sys2Proof.Machine
end

