-- ==== Sys2Proof/Machine/Segments.lean ====
section
/-! DEFINITION. Access through a segment register with every check of 23_protection.md R330, the stack primitives
(20_memory.md R220), descriptors (21_segmentation.md R235 to R239) and the loads of segment registers (R310, R311, 62_v86.md R1402,
21_segmentation.md R232). -/

namespace Sys2Proof.Machine

open Sys2Proof

/-- What an access through a segment register does; `rw` is a read-modify-write, checked as a write (R330). -/
inductive Kind where
  | r | w | rw | x
  deriving DecidableEq, Repr

/-- The access writes. -/
def Kind.writes : Kind → Bool
  | .w => true
  | .rw => true
  | _ => false

/-- The access reads data. -/
def Kind.reads : Kind → Bool
  | .r => true
  | .rw => true
  | _ => false

/-- A code segment: bit 11 of the TYPE (R239). -/
def Attr.isCode (a : Attr) : Bool := bit a.typ 3
/-- Bit 10: conforming code, or an expand-down data segment (R239). -/
def Attr.bitC (a : Attr) : Bool := bit a.typ 2
/-- Bit 9: readable code, or a writable data segment (R239). -/
def Attr.bitR (a : Attr) : Bool := bit a.typ 1
/-- An expand-down data segment (R238). -/
def Attr.expandDown (a : Attr) : Bool := !a.isCode && a.bitC

/-- The limit check of R330 step 3 for `n` bytes at `off`, computed without wrap (D16). -/
def inLimit (g : Seg) (off n : Nat) : Bool :=
  if g.attr.expandDown then
    decide (g.limit.toNat < off) && decide (off + n - 1 ≤ (if g.attr.db then 0xFFFFFFFF else 0xFFFF))
  else decide (off + n - 1 ≤ g.limit.toNat)

/-- The limit check of real-address mode (60_exceptions.md R1262). -/
def inLimitReal (g : Seg) (off n : Nat) : Bool := decide (off + n - 1 ≤ g.limit.toNat)

/-- `n` bytes at `off` do not run past the last offset of the address size, FFFFH with 16-bit addressing: a wrap exceeds the limit
(R330, D16). Offset FFFFFFFFH needs no word here: no limit lies above it. -/
def noWrap (sz : Size) (off n : Nat) : Bool :=
  match sz with
  | .s16 => decide (off + n ≤ 0x10000)
  | .s32 => true

/-- The limit check of R330 step 3 for an access with addresses of size `sz`. -/
def inReach (sz : Size) (g : Seg) (off n : Nat) : Bool := noWrap sz off n && inLimit g off n

/-- The type check of R330 step 2: data accesses through a code or a read-only segment; a fetch goes through CS, executable by
construction. -/
def typeAllows (a : Attr) (k : Kind) : Bool :=
  match k with
  | .r => !a.isCode || a.bitR
  | .w => !a.isCode && a.bitR
  | .rw => !a.isCode && a.bitR
  | .x => true

/-- `#SS(0)` through SS, `#GP(0)` through the other registers (R330). -/
def segFault {α : Type} (sr : SReg) : M α := if sr = .ss then sf 0 else gp 0

/-- Steps 1 to 4 of R330: the linear address of `n` bytes at `sr:off`, or the fault. `sz` is the size of the addresses the access is made
with: the address size, or the stack address size. In real-address mode the limit alone is checked (60_exceptions.md R1262); that this holds for a
register that still has a null selector of protected mode, whose base and limit are used, is the model's choice (notes/assumptions/57.md), and so is
that an offset above FFFFH does not fault where the limit kept from protected mode lies above it (R1262, notes/assumptions/85.md). -/
def segLinear (sz : Size) (sr : SReg) (off : Word) (n : Nat) (k : Kind) : M Word := do
  let s ← get
  let g := s.segs.get sr
  if s.pe then
    require g.usable (gp 0)
    require (typeAllows g.attr k) (gp 0)
    require (inReach sz g off.toNat n) (segFault sr)
    pure (g.base + off)
  else
    require (noWrap sz off.toNat n && inLimitReal g off.toNat n) (segFault sr)
    pure (g.base + off)

/-- Alignment checking is on (R335): CR0.AM, EFLAGS.AC and CPL 3. -/
def State.alignOn (s : State) : Bool := s.am && s.flags.ac && s.cpl == 3

/-- The R/W field of breakpoint `n` (64_debug.md R1483). -/
def drRw (dr7 : Word) (n : Nat) : BitVec 2 := dr7.extractLsb' (16 + 4 * n) 2
/-- The LEN field of breakpoint `n` (R1483). -/
def drLen (dr7 : Word) (n : Nat) : BitVec 2 := dr7.extractLsb' (18 + 4 * n) 2
/-- Breakpoint `n` is enabled: Ln or Gn (R1483). -/
def drEnabled (dr7 : Word) (n : Nat) : Bool := bit dr7 (2 * n) || bit dr7 (2 * n + 1)
/-- The address register of breakpoint `n` (R1481). -/
def DbgRegs.addr (d : DbgRegs) (n : Nat) : Word :=
  match n with
  | 0 => d.dr0 | 1 => d.dr1 | 2 => d.dr2 | _ => d.dr3

/-- The number of bytes LEN stands for; 10 is undefined and never matches (R1483, U43). -/
def drBytes (len : BitVec 2) : Option Nat :=
  match len.toNat with
  | 0 => some 1 | 1 => some 2 | 3 => some 4 | _ => none

/-- Breakpoint `n` matches an access of `k` bytes at `a` whose type its R/W field `ok`s (R1486). -/
def rangeMatch (d : DbgRegs) (n : Nat) (a k : Nat) (ok : BitVec 2 → Bool) : Bool :=
  match drBytes (drLen d.dr7 n) with
  | none => false
  | some b =>
    let lo := (d.addr n).toNat / b * b
    ok (drRw d.dr7 n) && decide (lo < a + k) && decide (a < lo + b)

/-- Record in the latch what breakpoints an access matches: Bn whether enabled or not (R1484, D51), a trap if one is enabled. -/
def noteBreaks (a k : Nat) (ok : BitVec 2 → Bool) : M Unit := do
  let s ← get
  let m (n : Nat) : Bool := rangeMatch s.dr n a k ok
  let b (n : Nat) : BitVec 4 := if m n then 1#4 <<< n else 0
  let hits := b 0 ||| b 1 ||| b 2 ||| b 3
  if hits = 0 then pure ()
  else
    let trap := (m 0 && drEnabled s.dr.dr7 0) || (m 1 && drEnabled s.dr.dr7 1) || (m 2 && drEnabled s.dr.dr7 2)
      || (m 3 && drEnabled s.dr.dr7 3)
    set { s with cur := { s.cur with hits := s.cur.hits ||| hits, trap := s.cur.trap || trap } }

/-- The same for `n` units from `a` in a space of `size` units, where an access past the last one goes on at 0 (R1486; D63 for ports). -/
def noteRange (size a n : Nat) (ok : BitVec 2 → Bool) : M Unit := do
  let first := min n (size - a)
  noteBreaks a first ok
  if first = n then pure () else noteBreaks 0 (n - first) ok

/-- The R/W types a data access satisfies: 01 writes, 11 reads and writes (R1486). -/
def dataBreak (k : Kind) (rw : BitVec 2) : Bool := (rw == 1 && k.writes) || rw == 3

/-- The checks of MemRead and MemWrite (R23): segment checks, translation of every page touched, then the alignment check (D17, R335), which
`ok` passes on the linear address. The answer is the linear address and the physical addresses of the bytes. -/
def checkIf (sz : Size) (sr : SReg) (off : Word) (n : Nat) (ok : Nat → Bool) (k : Kind) : M (Word × List Word) := do
  let lin ← segLinear sz sr off n k
  let s ← get
  let ps ← linAddrs lin n { write := k.writes, user := s.cpl == 3, fetch := false }
  require (!s.alignOn || ok lin.toNat) (raise 17 (some 0))
  pure (lin, ps)

/-- MemRead and MemWrite up to the transfer itself (R23): the checks, and the data breakpoints (R1486). The answer is the physical addresses
of the bytes. -/
def accessIf (sz : Size) (sr : SReg) (off : Word) (n : Nat) (ok : Nat → Bool) (k : Kind) : M (List Word) := do
  let (lin, ps) ← checkIf sz sr off n ok k
  noteRange (2 ^ 32) lin.toNat n (dataBreak k)
  pure ps

/-- An access that alignment checking wants at a multiple of `al` (R335, Table 14-6). -/
def access (sz : Size) (sr : SReg) (off : Word) (n al : Nat) (k : Kind) : M (List Word) :=
  accessIf sz sr off n (fun lin => lin % al == 0) k

/-- MemRead (R23) of a naturally aligned datum of `n` bytes. -/
def memRead (sz : Size) (sr : SReg) (off : Word) (n : Nat) : M Nat := do
  let ps ← access sz sr off n n .r
  load ps

/-- MemWrite (R23). -/
def memWrite (sz : Size) (sr : SReg) (off : Word) (n v : Nat) : M Unit := do
  let ps ← access sz sr off n n .w
  store ps v

/-- The stack offset (E)SP (10_state.md R108). -/
def State.spOff (s : State) : Word :=
  match s.ss with
  | .s32 => s.regs.esp
  | .s16 => s.regs.esp &&& 0xFFFF

/-- An offset kept to the stack address size: modulo 2^ss (R220). -/
def wrapSp (sz : Size) (v : Word) : Word :=
  match sz with
  | .s32 => v
  | .s16 => v &&& 0xFFFF

/-- (E)SP <- v; with a 16-bit stack ESP[31:16] stays (R108). -/
def setSp (v : Word) : M Unit :=
  modify fun s =>
    match s.ss with
    | .s32 => { s with regs := { s.regs with esp := v } }
    | .s16 => { s with regs := { s.regs with esp := mergeLow16 s.regs.esp (v.setWidth 16) } }

/-- The slots that pushing `count` items of `n` bytes from stack offset `sp` will write, each checked before the first write (R220, D72). The rules
give the checks inside the range no order: that they are made slot by slot, the first push first, each slot's segment check before its
translation, is the model's choice (notes/assumptions/37.md). -/
def pushSlots (sz : Size) (n : Nat) (sp : Word) : Nat → M (List (List Word))
  | 0 => pure []
  | c + 1 => do
    let t := wrapSp sz (sp - BitVec.ofNat 32 n)
    let ps ← access sz .ss t n n .w
    let rest ← pushSlots sz n t c
    pure (ps :: rest)

/-- Write values into checked slots. -/
def storeAll : List (List Word) → List Nat → M Unit
  | ps :: pss, v :: vs => do
    store ps v
    storeAll pss vs
  | _, _ => pure ()

/-- Push several items of `n` bytes, the first of the list first: all slots are checked, then all are written, then (E)SP is committed
once (R220, D72). -/
def pushList (n : Nat) (vs : List Nat) : M Unit := do
  let s ← get
  let slots ← pushSlots s.ss n s.spOff vs.length
  storeAll slots vs
  setSp (wrapSp s.ss (s.spOff - BitVec.ofNat 32 (n * vs.length)))

/-- push_n (R220). -/
def push (n v : Nat) : M Unit := pushList n [v]

/-- Read the stack slot `k` bytes above (E)SP without popping (R221). -/
def peek (k : Word) (n : Nat) : M Nat := do
  let s ← get
  memRead s.ss .ss (wrapSp s.ss (s.spOff + k)) n

/-- A frame of `n` bytes from (E)SP up lies within the stack segment: `#SS(0)` otherwise, before any of it is read (R325, R326,
62_v86.md R1416). -/
def stackFrame (n : Nat) : M Unit := do
  let s ← get
  require (inReach s.ss s.segs.ss s.spOff.toNat n) (sf 0)

/-- Add to (E)SP modulo 2^ss. -/
def addSp (k : Word) : M Unit := do
  let s ← get
  setSp (wrapSp s.ss (s.spOff + k))

/-- pop_n (R220). -/
def pop (n : Nat) : M Nat := do
  let v ← peek 0 n
  addSp (BitVec.ofNat 32 n)
  pure v

/-- A descriptor: its two doublewords and the linear address it was read from (R237). -/
structure Desc where
  lo : Word
  hi : Word
  addr : Word
  deriving DecidableEq, Repr

/-- TYPE (R237). -/
def Desc.typ (d : Desc) : BitVec 4 := d.hi.extractLsb' 8 4
/-- S: an application (code or data) segment. -/
def Desc.s (d : Desc) : Bool := bit d.hi 12
/-- DPL. -/
def Desc.dpl (d : Desc) : BitVec 2 := d.hi.extractLsb' 13 2
/-- P. -/
def Desc.p (d : Desc) : Bool := bit d.hi 15
/-- G. -/
def Desc.g (d : Desc) : Bool := bit d.hi 23
/-- Base address (R237). -/
def Desc.base (d : Desc) : Word := (d.hi.extractLsb' 24 8 ++ d.hi.extractLsb' 0 8 : BitVec 16) ++ d.lo.extractLsb' 16 16
/-- The 20-bit limit field (R237). -/
def Desc.rawLimit (d : Desc) : BitVec 20 := d.hi.extractLsb' 16 4 ++ d.lo.extractLsb' 0 16
/-- The byte-granular limit (R237). -/
def Desc.limit (d : Desc) : Word :=
  if d.g then d.rawLimit ++ 0xFFF#12 else d.rawLimit.setWidth 32
/-- The access information (R237). -/
def Desc.attr (d : Desc) : Attr :=
  { typ := d.typ, s := d.s, dpl := d.dpl, p := d.p, avl := bit d.hi 20, db := bit d.hi 22, g := d.g }
/-- A code segment (R239). -/
def Desc.isCode (d : Desc) : Bool := d.s && d.attr.isCode
/-- A data segment (R239). -/
def Desc.isData (d : Desc) : Bool := d.s && !d.attr.isCode
/-- A conforming code segment. -/
def Desc.conforming (d : Desc) : Bool := d.isCode && d.attr.bitC
/-- A writable data segment. -/
def Desc.writable (d : Desc) : Bool := d.isData && d.attr.bitR
/-- A data segment or a readable code segment. -/
def Desc.readable (d : Desc) : Bool := d.s && (!d.attr.isCode || d.attr.bitR)
/-- A system descriptor of the given TYPE (R303). -/
def Desc.isSystem (d : Desc) (t : BitVec 4) : Bool := !d.s && d.typ == t
/-- A gate's selector (R304). -/
def Desc.gateSel (d : Desc) : Half := d.lo.extractLsb' 16 16
/-- A 32-bit gate's offset, a 16-bit gate's offset zero-extended (R304). -/
def Desc.gateOffset (d : Desc) : Word :=
  if bit d.typ 3 then d.hi.extractLsb' 16 16 ++ d.lo.extractLsb' 0 16 else (d.lo.extractLsb' 0 16).setWidth 32
/-- A call gate's parameter count (R304). -/
def Desc.gateCount (d : Desc) : BitVec 5 := d.hi.extractLsb' 0 5

/-- RPL of a selector (R235). -/
def rpl (sel : Half) : BitVec 2 := sel.extractLsb' 0 2
/-- TI of a selector: 1 = LDT (R235). -/
def selTi (sel : Half) : Bool := bit sel 2
/-- A null selector: index 0 in the GDT (R236). -/
def isNull (sel : Half) : Bool := sel.extractLsb' 2 14 == 0
/-- Replace the RPL of a selector. -/
def withRpl (sel : Half) (r : BitVec 2) : Half := sel.extractLsb' 2 14 ++ r
/-- The error code a selector gives: bits 1:0 cleared (R1220). -/
def selCode (sel : Half) : Word := (sel &&& 0xFFFC).setWidth 32
/-- `sel[15:3] * 8`. -/
def selOffset (sel : Half) : Word := (sel &&& 0xFFF8).setWidth 32

/-- `in_table(sel)` (R235, R244): all eight bytes lie within the table; an unusable LDT holds none (R243). -/
def inTable (s : State) (sel : Half) : Bool :=
  if selTi sel then s.ldtr.usable && decide ((selOffset sel).toNat + 7 ≤ s.ldtr.limit.toNat)
  else decide ((selOffset sel).toNat + 7 ≤ s.gdtr.limit.toNat)

/-- `desc_linear(sel)` (R235). -/
def descLinear (s : State) (sel : Half) : Word :=
  (if selTi sel then s.ldtr.base else s.gdtr.base) + selOffset sel

/-- Read the 8 bytes of a descriptor (R25). -/
def readDescAt (lin : Word) : M Desc := do
  let lo ← sysRead32 lin
  let hi ← sysRead32 (lin + 4)
  pure { lo := lo, hi := hi, addr := lin }

/-- `descriptor(sel)`, the table limit checked first: `bad` raises for a selector outside the table (R244). -/
def readDesc (sel : Half) (bad : M Unit) : M Desc := do
  let s ← get
  require (inTable s sel) bad
  readDescAt (descLinear s sel)

/-- Where the Accessed bit of a code or data descriptor has to be written, translated for the write: nowhere if it is set (R241). -/
def accessedPlace (d : Desc) : M (List Word) :=
  if bit d.hi 8 then pure [] else linAddrs (d.addr + 4) 4 (.system true)

/-- The same for the descriptors of one load. -/
def accessedPlaces : List Desc → M (List (List Word))
  | [] => pure []
  | d :: ds => do
    let p ← accessedPlace d
    let ps ← accessedPlaces ds
    pure (p :: ps)

/-- Set bits of the doubleword at `ps`, a locked read-modify-write (R241, 65_cache_mp.md R1545): nothing comes between the read and the write. -/
def setBits (ps : List Word) (m : Word) : M Unit := do
  let v ← load ps
  store ps (BitVec.ofNat 32 v ||| m).toNat

/-- Clear bits of the doubleword at `ps`, a locked read-modify-write (61_tasks.md R1328, R1329). -/
def clearBits (ps : List Word) (m : Word) : M Unit := do
  let v ← load ps
  store ps (BitVec.ofNat 32 v &&& ~~~m).toNat

/-- Set the Accessed bits of the descriptors of a load at the places found for them (R241). -/
def markAccessed : List (List Word) → M Unit
  | [] => pure ()
  | ps :: rest => do
    setBits ps 0x100
    markAccessed rest

/-- Set the Accessed bits of the descriptors of a load, each if it is clear (R241); none is set unless all can be. -/
def setAccessedAll (ds : List Desc) : M Unit := do
  let ps ← accessedPlaces ds
  markAccessed ps

/-- Set the Accessed bit of one descriptor if it is clear (R241). -/
def setAccessed (d : Desc) : M Unit := setAccessedAll [d]

/-- `count` pushes of `n` bytes between the loads of segment registers: all slots are checked, `check` is made and the places of the Accessed
bits are found before anything is written (R220, D72); then the writes follow each other as in the rules' pseudocode (65_cache_mp.md R1531): the
Accessed bits of `before`, what `write` puts into the slots, the Accessed bits of `after`. (E)SP is committed once. -/
def pushLoading (n count : Nat) (before after : List Desc) (check : M Unit) (write : List (List Word) → M Unit) : M Unit := do
  let s ← get
  let slots ← pushSlots s.ss n s.spOff count
  check
  let ps ← accessedPlaces before
  let qs ← accessedPlaces after
  markAccessed ps
  write slots
  markAccessed qs
  setSp (wrapSp s.ss (s.spOff - BitVec.ofNat 32 (n * count)))

/-- The descriptor as it stands after `setAccessed`. -/
def Desc.accessed (d : Desc) : Desc := { d with hi := d.hi ||| 0x100 }

/-- The register contents a descriptor gives (R234). -/
def Desc.toSeg (d : Desc) (sel : Half) : Seg :=
  { sel := sel, base := d.base, limit := d.limit, attr := d.attr, usable := true }

/-- Replace a segment register. -/
def setSeg (sr : SReg) (g : Seg) : M Unit := modify fun s => { s with segs := s.segs.set sr g }

/-- A segment register holding a null selector (R236). -/
def Seg.null (g : Seg) (sel : Half) : Seg := { g with sel := sel, usable := false }

/-- Numeric maximum of two privilege levels. -/
def maxPl (a b : BitVec 2) : BitVec 2 := if a.ult b then b else a

/-- Load DS, ES, FS or GS in protected mode (R310). -/
def loadData (sr : SReg) (sel : Half) : M Unit := do
  let s ← get
  if isNull sel then setSeg sr ((s.segs.get sr).null sel)
  else
    let d ← readDesc sel (gp (selCode sel))
    require d.readable (gp (selCode sel))
    require (d.conforming || !d.dpl.ult (maxPl s.cpl (rpl sel))) (gp (selCode sel))
    require d.p (np (selCode sel))
    setAccessed d
    setSeg sr (d.accessed.toSeg sel)

/-- Load SS in protected mode (R311). -/
def loadSs (sel : Half) : M Unit := do
  let s ← get
  require (!isNull sel) (gp 0)
  let d ← readDesc sel (gp (selCode sel))
  require (rpl sel == s.cpl) (gp (selCode sel))
  require d.writable (gp (selCode sel))
  require (d.dpl == s.cpl) (gp (selCode sel))
  require d.p (sf (selCode sel))
  setAccessed d
  setSeg .ss (d.accessed.toSeg sel)

/-- The base of a real-address or virtual-8086 selector (R232, R1402). -/
def realBase (sel : Half) : Word := sel.setWidth 32 <<< 4

/-- A segment register loaded while VM = 1: base, limit and attributes of an 8086 segment (62_v86.md R1402). -/
def Seg.ofV86 (sel : Half) : Seg :=
  { sel := sel, base := realBase sel, limit := 0xFFFF,
    attr := { typ := 3, s := true, dpl := 3, p := true, avl := false, db := false, g := false }, usable := true }

/-- A segment register loaded in real-address mode or SMM: selector and base, nothing else (R232, R1456). That the load ends the unusable
mark of an earlier null selector is the model's choice (notes/assumptions/57.md). -/
def Seg.ofReal (g : Seg) (sel : Half) : Seg := { g with sel := sel, base := realBase sel, usable := true }

/-- Load a segment register other than CS in the mode the processor is in (R232, R310, R311, R1402). -/
def loadSeg (sr : SReg) (sel : Half) : M Unit := do
  let s ← get
  if s.v86 then setSeg sr (.ofV86 sel)
  else if s.pe then
    if sr = .ss then loadSs sel else loadData sr sel
  else setSeg sr ((s.segs.get sr).ofReal sel)

end Sys2Proof.Machine
end

