-- ==== Sys2Proof/Machine/Tasks.lean ====
section
/-! DEFINITION. The task switch (61_tasks.md R1325 to R1334): one operation for its four causes. -/

namespace Sys2Proof.Machine

open Sys2Proof

/-- What causes a task switch (R1325, Table 13-2). -/
inductive Switch where
  | jmp | call | intr | iret
  deriving DecidableEq, Repr

/-- The switch nests: LINK is written and NT set in the new task (R1331). -/
def Switch.nests : Switch → Bool
  | .call => true
  | .intr => true
  | _ => false

/-- Store values of `n` bytes one after the other at the addresses `ps`. -/
def storeFields (n : Nat) : List Word → List Nat → M Unit
  | _, [] => pure ()
  | ps, v :: vs => do
    store (ps.take n) v
    storeFields n (ps.drop n) vs

/-- The checks on the new TSS descriptor, in the old task's context (R1327). -/
def checkTss (sel : Half) (k : Switch) : M Desc := do
  let code := selCode sel
  let bad : M Unit := if k = .iret then ts code else gp code
  require (!selTi sel && !isNull sel) bad
  let d ← readDesc sel bad
  require (!d.s && (d.typ &&& 5) == 1) bad
  require d.p (np code)
  require (bit d.typ 1 == (k == .iret)) bad
  require (decide ((if bit d.typ 3 then 0x67 else 0x2B) ≤ d.limit.toNat)) (ts code)
  pure d

/-- What the old task's TSS receives, first field first (R1328, R1310, R1312). -/
def oldTaskImage (s : State) (wide : Bool) (k : Switch) (retEip : Word) : List Nat :=
  let f := if k = .iret then { s.flags with nt := false } else s.flags
  let g := s.regs
  let gr : List Nat := [g.eax.toNat, g.ecx.toNat, g.edx.toNat, g.ebx.toNat, g.esp.toNat, g.ebp.toNat, g.esi.toNat, g.edi.toNat]
  let c := s.segs
  let sr : List Nat := [c.es.sel.toNat, c.cs.sel.toNat, c.ss.sel.toNat, c.ds.sel.toNat]
  [retEip.toNat, f.word.toNat] ++ gr ++ sr ++ (if wide then [c.fs.sel.toNat, c.gs.sel.toNat] else [])

/-- What the new task's TSS holds, as the switch reads it (R1330). -/
structure TaskImage where
  cr3 : Word
  eip : Word
  eflags : Word
  regs : GRegs
  es : Half
  cs : Half
  ss : Half
  ds : Half
  fs : Half
  gs : Half
  ldt : Half
  t : Bool
  deriving DecidableEq, Repr

/-- A field of `n` bytes at an offset of a structure. -/
def fieldAt (bs : List Byte) (off n : Nat) : Nat := leNat ((bs.drop off).take n)

/-- The fields of the new task's TSS: the 104 bytes of a 32-bit TSS (R1310), the 44 of a 16-bit one (R1312), where the upper halves of the
general registers, FS, GS, CR3 and the T bit have no place: they keep their values, the selectors are null, T is 0. That the upper halves of
the general registers stay is the model's choice (notes/assumptions/59.md). -/
def taskImage (s : State) (wide : Bool) (bs : List Byte) : TaskImage :=
  let w (o : Nat) : Word := BitVec.ofNat 32 (fieldAt bs o (if wide then 4 else 2))
  let h (o : Nat) : Half := BitVec.ofNat 16 (fieldAt bs o 2)
  let g := s.regs
  if wide then
    { cr3 := w 0x1C, eip := w 0x20, eflags := w 0x24
      regs := ⟨w 0x28, w 0x2C, w 0x30, w 0x34, w 0x38, w 0x3C, w 0x40, w 0x44⟩
      es := h 0x48, cs := h 0x4C, ss := h 0x50, ds := h 0x54, fs := h 0x58, gs := h 0x5C, ldt := h 0x60, t := bit (h 0x64) 0 }
  else
    { cr3 := s.cr.cr3, eip := w 0x0E, eflags := w 0x10
      regs := ⟨mergeLow16 g.eax (h 0x12), mergeLow16 g.ecx (h 0x14), mergeLow16 g.edx (h 0x16), mergeLow16 g.ebx (h 0x18),
        mergeLow16 g.esp (h 0x1A), mergeLow16 g.ebp (h 0x1C), mergeLow16 g.esi (h 0x1E), mergeLow16 g.edi (h 0x20)⟩
      es := h 0x22, cs := h 0x24, ss := h 0x26, ds := h 0x28, fs := 0, gs := 0, ldt := h 0x2A, t := false }

/-- An access to the new TSS whose page fault is kept as an answer: of two faults the first stands, with its address in CR2 (R1334). `failed` is
the fault there has been. -/
def attempt {α : Type} (failed : Option Stop) (m : M α) : M (Option α × Option Stop) := fun s =>
  match m s, failed with
  | .ok v t, _ => .ok (some v, failed) t
  | .error e t, none => .ok (none, some e) t
  | .error _ t, some _ => .ok (none, failed) { t with cr := { t.cr with cr2 := s.cr.cr2 } }

/-- Bytes that could not be read: draws. -/
def drawBytes : Nat → M (List Byte)
  | 0 => pure []
  | n + 1 => do
    let b ← draw 8
    let rest ← drawBytes n
    pure (b :: rest)

/-- The bytes of one page of the new TSS; those of a page that cannot be read are draws (R1334). -/
def tssPart (failed : Option Stop) (lin : Word) (n : Nat) : M (List Byte × Option Stop) := do
  let (p, e) ← attempt failed (translate lin (.system false))
  let bs ← match p with
    | some p => physBytes (consecutive p n)
    | none => drawBytes n
  pure (bs, e)

/-- Read the new task's TSS. A page fault is not raised yet: it belongs to the new task's context (R1334 case 3). When the TSS crosses a page
boundary, a draw says which page is read first (R1311, U13). -/
def readTss (failed : Option Stop) (lin : Word) (n : Nat) : M (List Byte × Option Stop) := do
  if n ≤ pageRoom lin then tssPart failed lin n
  else
    let r := pageRoom lin
    let lin1 := lin + BitVec.ofNat 32 r
    let upper ← drawBool
    if upper then
      let (hi, e) ← tssPart failed lin1 (n - r)
      let (lo, e) ← tssPart e lin r
      pure (lo ++ hi, e)
    else
      let (lo, e) ← tssPart failed lin r
      let (hi, e) ← tssPart e lin1 (n - r)
      pure (lo ++ hi, e)

/-- LINK of the new TSS takes the old task's selector (R1331); a page fault is kept as that of a read is (R1334). -/
def writeLink (lin : Word) (old : Half) : M (Option Stop) := do
  let (ps, e) ← attempt none (tssAddrs lin 2 (.system true))
  match ps with
  | some ps => store ps old.toNat
  | none => pure ()
  pure e

/-- What a nested switch does to the new TSS: it is read and its LINK written, unless the reads have failed. When the TSS crosses a page boundary,
a draw says which comes first (R1311, U13). -/
def readNested (lin : Word) (n : Nat) (old : Half) : M (List Byte × Option Stop) := do
  let early ← if n ≤ pageRoom lin then pure false else drawBool
  if early then
    let e ← writeLink lin old
    readTss e lin n
  else
    let (bs, e) ← readTss none lin n
    match e with
    | some e => pure (bs, some e)
    | none => do
      let e ← writeLink lin old
      pure (bs, e)

/-- A selector loaded whose descriptor has not been checked yet (R1330). After a fault in steps 5 to 17 the use of such a register "may fault"
(R1332): that every use does, of SS too, is the model's choice (notes/assumptions/68.md). -/
def Seg.pending (g : Seg) (sel : Half) : Seg := { g with sel := sel, usable := false }

/-- The descriptor a selector names, if it lies in its table and is not null (R1332). -/
def lookDesc (sel : Half) : M (Option Desc) := do
  let s ← get
  if isNull sel || !inTable s sel then pure none
  else do
    let d ← readDescAt (descLinear s sel)
    pure (some d)

/-- Step 5 of R1332: the new LDT selector; its descriptor is kept, not yet known to be present (step 10). That a CS or SS selector with TI = 1 is
looked up in an LDT that is not present before that step finds so is the model's choice (R1332, R238, notes/assumptions/57.md), and so is that LDTR
stays loaded from that descriptor, and usable, after the fault (notes/assumptions/75.md). -/
def taskLdt (sel : Half) : M Unit := do
  let s ← get
  if isNull sel then set { s with ldtr := { s.ldtr with sel := sel, usable := false } }
  else
    set { s with ldtr := { s.ldtr with sel := sel, usable := false } }
    require (!selTi sel) (ts (selCode sel))
    let d ← readDesc sel (ts (selCode sel))
    require (d.isSystem 2) (ts (selCode sel))
    modify fun s => { s with ldtr := d.toSeg sel }

/-- A check of R1332 over the data segment registers that hold a selector: `ok` of the descriptor (none outside the table). -/
def checkEach (ds : List (SReg × Half × Option Desc)) (ok : Half → Option Desc → Bool) (els : Half → M Unit) : M Unit :=
  match ds with
  | [] => pure ()
  | (_, sel, d) :: rest => do
    require (isNull sel || ok sel d) (els sel)
    checkEach rest ok els

/-- Load the data segment registers after their checks. -/
def loadEach : List (SReg × Half × Option Desc) → M Unit
  | [] => pure ()
  | (sr, sel, d) :: rest => do
    let s ← get
    match d with
    | some d =>
      setAccessed d
      setSeg sr (d.accessed.toSeg sel)
    | none => setSeg sr ((s.segs.get sr).null sel)
    loadEach rest

/-- Steps 6 to 17 of R1332: the segment registers of a task that is not a virtual-8086 task. When a register counts as loaded is the model's
choice (notes/assumptions/76.md): CS after step 12, SS after step 13, and DS, ES, FS, GS, with their Accessed bits, after all four have passed
step 17; and so is that their four descriptors are read before step 14 and that each of the steps 14 to 17 takes DS, ES, FS, GS in this order. -/
def taskSegs (t : TaskImage) : M Unit := do
  let pl := rpl t.cs
  let csd ← lookDesc t.cs
  -- 6: code segment DPL against its RPL
  match csd with
  | some d => require (!d.isCode || (if d.conforming then !pl.ult d.dpl else d.dpl == pl)) (ts (selCode t.cs))
  | none => pure ()
  -- 7, 8, 9: stack segment
  let ssd ← lookDesc t.ss
  match ssd with
  | none => ts (selCode t.ss)
  | some d =>
    require d.writable (ts (selCode t.ss))
    require d.p (sf (selCode t.ss))
    require (d.dpl == pl) (ts (selCode t.ss))
  -- 10: LDT present
  let s ← get
  require (!s.ldtr.usable || s.ldtr.attr.p) (ts (selCode t.ldt))
  -- 11, 12: code segment
  match csd with
  | none => ts (selCode t.cs)
  | some d =>
    require d.isCode (ts (selCode t.cs))
    require d.p (np (selCode t.cs))
    setAccessed d
    setSeg .cs (d.accessed.toSeg t.cs)
  -- 13: stack segment RPL
  require (rpl t.ss == pl) (ts (selCode t.ss))
  match ssd with
  | none => pure ()
  | some d =>
    setAccessed d
    setSeg .ss (d.accessed.toSeg t.ss)
  -- 14 to 17: data segments
  let dsd ← lookDesc t.ds
  let esd ← lookDesc t.es
  let fsd ← lookDesc t.fs
  let gsd ← lookDesc t.gs
  let l : List (SReg × Half × Option Desc) := [(.ds, t.ds, dsd), (.es, t.es, esd), (.fs, t.fs, fsd), (.gs, t.gs, gsd)]
  -- 14: in the table, a data or readable code segment; 15: readable, which that says already
  checkEach l (fun _ d => d.any fun d => d.readable) (fun sel => ts (selCode sel))
  checkEach l (fun _ d => d.any fun d => d.p) (fun sel => np (selCode sel))
  checkEach l (fun sel d => d.any fun d => d.conforming || !d.dpl.ult (maxPl pl (rpl sel))) (fun sel => ts (selCode sel))
  loadEach l

/-- The task switch (R1325 to R1333). `retEip` is what the old TSS records; `err` is pushed on the new task's stack (R1215). Three points that the
rules leave open are the model's choice (notes/assumptions/57.md): while TR holds a null selector there is no old descriptor to mark not busy,
since entry 0 of the GDT is not used (21_segmentation.md R240), and one that lies beyond the GDT limit is `#GP` (R244). An IRET whose LINK names
the current task leaves that descriptor not busy. That LDTR is still that of the old task after a page fault on the new TSS (R1334) is the
model's choice too (notes/assumptions/75.md), and so is that the save into the old TSS is not tested against TR.limit
(21_segmentation.md R238, notes/assumptions/81.md). -/
def taskSwitch (sel : Half) (k : Switch) (retEip : Word) (err : Option Word) : M Unit := do
  let d ← checkTss sel k
  let s ← get
  -- every address the switch writes in the old task's context is translated before the first write (R1334, D72)
  let oldWide := bit s.tr.attr.typ 3
  let image := oldTaskImage s oldWide k retEip
  let n := if oldWide then 4 else 2
  let oldPs ← tssAddrs (s.tr.base + (if oldWide then 0x20 else 0x0E)) (n * image.length) (.system true)
  let oldDesc := s.gdtr.base + selOffset s.tr.sel
  let clears := (k == .jmp || k == .iret) && !isNull s.tr.sel
  -- the old task's descriptor is referenced like any other (21_segmentation.md R244)
  require (!clears || decide ((selOffset s.tr.sel).toNat + 7 ≤ s.gdtr.limit.toNat)) (gp (selCode s.tr.sel))
  let oldHiPs ← if clears then linAddrs (oldDesc + 4) 4 (.system true) else pure []
  let newHiPs ← if k == .iret then pure [] else linAddrs (d.addr + 4) 4 (.system true)
  -- step 3: save the old task (R1328)
  storeFields n oldPs image
  clearBits oldHiPs 0x200
  -- step 4: commit (R1329); the Busy bits change by locked read-modify-writes
  setBits newHiPs 0x200
  let busy : Desc := { d with hi := d.hi ||| 0x200 }
  let wide := bit d.typ 3
  modify fun s => { s with tr := busy.toSeg sel, cr := { s.cr with cr0 := s.cr.cr0 ||| 8 },
                           cur := { s.cur with committed := true, keepRf := true } }
  -- step 5: load the new task (R1330); a page fault on its TSS is taken in its own context (R1334)
  let size := if wide then 0x68 else 0x2C
  let (bytes, failed) ← if k.nests then readNested busy.base size s.tr.sel else readTss none busy.base size
  let t := taskImage s wide bytes
  let fl := Flags.ofWord t.eflags
  let fl := if k.nests then { fl with nt := true } else fl
  modify fun s => { s with
    cr := { s.cr with cr3 := if wide && s.pg then t.cr3 else s.cr.cr3 }
    flags := fl, eip := t.eip, regs := t.regs, cpl := if fl.vm then 3 else rpl t.cs
    dr := { s.dr with dr7 := s.dr.dr7 &&& 0xFFFFFFAA }
    segs := { es := s.segs.es.pending t.es, cs := s.segs.cs.pending t.cs, ss := s.segs.ss.pending t.ss,
              ds := s.segs.ds.pending t.ds, fs := s.segs.fs.pending t.fs, gs := s.segs.gs.pending t.gs }
    cur := { s.cur with bt := t.t } }
  if wide && s.pg then tlbFlush else pure ()
  match failed with
  | some e => throw e
  | none => pure ()
  taskLdt t.ldt
  if fl.vm then
    let s ← get
    require (!s.ldtr.usable || s.ldtr.attr.p) (ts (selCode t.ldt))
    modify fun s => { s with segs := { es := .ofV86 t.es, cs := .ofV86 t.cs, ss := .ofV86 t.ss,
                                       ds := .ofV86 t.ds, fs := .ofV86 t.fs, gs := .ofV86 t.gs } }
  else taskSegs t
  match err with
  | some c => push (if wide then 4 else 2) c.toNat
  | none => pure ()
  let s ← get
  require (decide (s.eip.toNat ≤ s.segs.cs.limit.toNat)) (gp 0)

end Sys2Proof.Machine
end

