-- ==== Sys2Proof/Machine/Ops.lean ====
section
/-! DEFINITION. TAKING AN EXCEPTION OR INTERRUPT as one shared operation (60_exceptions.md R1210 to R1216, R1232, R1261,
62_v86.md R1420, 64_debug.md R1491), the inner stack switch it shares with call gates (23_protection.md R316), and `runInstr`, which
turns an instruction's computation into a step: completion, fault with restart, software interrupt, refusal. The return from an exception (IRET)
stands in Machine/Control.lean beside the other transfers, over the same operations. -/

namespace Sys2Proof.Machine

open Sys2Proof

/-- What kind of event is delivered (R1200, R1211, R1232). -/
inductive EventKind where
  /-- A processor-detected exception. -/
  | exc
  /-- INT n, INT 3, INTO: gate privilege is checked (R1212) and EXT is 0 (R1211). -/
  | soft
  /-- INTR. -/
  | intr
  /-- NMI: further NMIs are blocked (R1204). -/
  | nmi
  deriving DecidableEq, Repr

/-- An event to deliver. `retEip` is the saved EIP (R1202); `faultEip` is the saved EIP of a fault met during the delivery: the
instruction that was being executed or interrupted. -/
structure Event where
  kind : EventKind
  vec : Nat
  code : Option Word
  retEip : Word
  faultEip : Word
  dbg : Option DbgCause
  deriving DecidableEq, Repr

/-- The breakpoint registers that hold an instruction breakpoint at CS:EIP, enabled or not: R/W = 00, LEN = 00 (R1487). -/
def State.codeHits (s : State) : BitVec 4 :=
  let m (n : Nat) : BitVec 4 :=
    if drRw s.dr.dr7 n == 0 && drLen s.dr.dr7 n == 0 && s.dr.addr n == s.segs.cs.base + s.eip then 1#4 <<< n else 0
  m 0 ||| m 1 ||| m 2 ||| m 3

/-- The processor stands where the trap came: it recurs here (R1232). -/
def State.isBack (s : State) (h : HeldTrap) : Bool := s.segs.cs.base + s.eip == h.lin

/-- DR6 and DR7 on delivery of a debug exception: every condition that holds sets its bit, an instruction breakpoint at CS:EIP
among them; no bit is cleared but GD (R1491, R1494, D51). BD is set by the general-detect fault alone, the model's choice: a debug exception of
another cause just before a MOV of a debug register does not set it (R1484, R1490, notes/assumptions/88.md). The trap delivered does not recur any
more. -/
def State.noteDebug (s : State) (c : DbgCause) : State :=
  let b (x : Bool) (v : Word) : Word := if x then v else 0
  { s with
    recurs := s.recurs.filter fun h => !(s.isBack h && h.cause == c)
    dr := { s.dr with
      dr6 := s.dr.dr6 ||| (c.b ||| s.codeHits).setWidth 32 ||| b c.bd 0x2000 ||| b c.bs 0x4000 ||| b c.bt 0x8000
      dr7 := s.dr.dr7 &&& 0xFFFFDFFF } }

/-- SS:ESP for privilege level `pl` from the current TSS, validated (R316): the descriptor, the selector, the pointer. The SP of a 16-bit
TSS is zero-extended into ESP, the model's choice (notes/assumptions/57.md). -/
def innerStack (pl : BitVec 2) : M (Desc × Half × Word) := do
  let s ← get
  let wide := bit s.tr.attr.typ 3
  let off := if wide then 4 + 8 * pl.toNat else 2 + 4 * pl.toNat
  let n := if wide then 4 else 2
  require (decide (off + n + 1 ≤ s.tr.limit.toNat)) (ts (selCode s.tr.sel))
  let at_ := s.tr.base + BitVec.ofNat 32 off
  let ps ← tssAddrs at_ (n + 2) (.system false)
  let sp ← load (ps.take n)
  let v ← load (ps.drop n)
  let sel : Half := BitVec.ofNat 16 v
  let code := selCode sel
  require (!isNull sel) (ts code)
  let d ← readDesc sel (ts code)
  require (rpl sel == pl) (ts code)
  require (d.dpl == pl) (ts code)
  require d.writable (ts code)
  require d.p (sf code)
  pure (d, sel, BitVec.ofNat 32 sp)

/-- `count` items of `n` bytes fit below the pointer `sp` of a stack segment (R316 "space check"). -/
def stackRoom (g : Seg) (n : Nat) (sp : Word) : Nat → Bool
  | 0 => true
  | c + 1 =>
    let sz : Size := if g.attr.db then .s32 else .s16
    let t := wrapSp sz (sp - BitVec.ofNat 32 n)
    inReach sz g t.toNat n && stackRoom g n t c

/-- The inner stack of level `pl`, with room for `count` items of `n` bytes: descriptor, selector and pointer (R316). Without room
the error code names the new stack segment; from virtual-8086 mode it is 0 (R1420). -/
def checkInner (pl : BitVec 2) (n count : Nat) : M (Desc × Half × Word) := do
  let s ← get
  let (d, sel, sp) ← innerStack pl
  require (stackRoom (d.accessed.toSeg sel) n sp count) (sf (if s.v86 then 0 else selCode sel))
  pure (d, sel, sp)

/-- SS, ESP and CPL become those of an inner stack (R316). The Accessed bit of its descriptor is set before the first push on it, when
nothing of the transfer can fail any more (R241, `pushLoading`). -/
def switchInner (pl : BitVec 2) (d : Desc) (sel : Half) (sp : Word) : M Unit :=
  modify fun s => { s with segs := { s.segs with ss := d.accessed.toSeg sel }, regs := { s.regs with esp := sp }, cpl := pl }

/-- Switch to an inner stack of level `pl` with room for `count` items of `n` bytes, and to CPL `pl` (R1214 b). The answer is the stack
segment's descriptor. -/
def enterInner (pl : BitVec 2) (n count : Nat) : M Desc := do
  let (d, sel, sp) ← checkInner pl n count
  switchInner pl d sel sp
  pure d

/-- A data segment register cleared on leaving virtual-8086 mode (R1420). -/
def Seg.cleared (g : Seg) : Seg := { g with sel := 0, usable := false }

/-- The flags after entry through a gate: TF, NT, RF, VM clear, and IF through an interrupt gate (R1214). -/
def Flags.onEntry (f : Flags) (intGate : Bool) : Flags :=
  { f with tf := false, nt := false, rf := false, vm := false, ifl := f.ifl && !intGate }

/-- Delivery through an interrupt or trap gate `g` (R1213, R1214, R1420). That all 32 bits of EIP are pushed in virtual-8086 mode, where R1420 says
both `push32(old EIP)` and "the 16-bit IP zero-extended", is the model's choice (notes/assumptions/77.md). -/
def enterGate (g : Desc) (ev : Event) : M Unit := do
  let s ← get
  let csel := g.gateSel
  let code := selCode csel
  let wide := bit g.typ 3
  let n := if wide then 4 else 2
  require (!isNull csel) (gp 0)
  let cd ← readDesc csel (gp code)
  require cd.isCode (gp code)
  require (!s.cpl.ult cd.dpl) (gp code)
  require cd.p (np code)
  let inner := !cd.conforming && cd.dpl.ult s.cpl
  let pl := if inner then cd.dpl else s.cpl
  require (!s.v86 || (pl == 0 && wide)) (gp code)
  let off := g.gateOffset
  let frame : List Nat := [s.flags.word.toNat, s.segs.cs.sel.toNat, ev.retEip.toNat] ++ ev.code.toList.map fun c => c.toNat
  let outer : List Nat := if inner then [s.segs.ss.sel.toNat, s.regs.esp.toNat] else []
  let v86 : List Nat :=
    if s.v86 then [s.segs.gs.sel.toNat, s.segs.fs.sel.toNat, s.segs.ds.sel.toNat, s.segs.es.sel.toNat] else []
  let items := v86 ++ outer ++ frame
  let stack ← if inner then (do
      let d ← enterInner pl n items.length
      pure [d])
    else (do
      require (stackRoom s.segs.ss n s.spOff items.length) (sf 0)
      pure [])
  pushLoading n items.length stack [cd] (require (decide (off.toNat ≤ cd.limit.toNat)) (gp 0)) fun slots => storeAll slots items
  if s.v86 then
    modify fun s => { s with segs := { s.segs with gs := s.segs.gs.cleared, fs := s.segs.fs.cleared, ds := s.segs.ds.cleared,
                                                   es := s.segs.es.cleared } }
  else pure ()
  modify fun s => { s with flags := s.flags.onEntry (!bit g.typ 0), eip := off, cpl := pl,
                           segs := { s.segs with cs := cd.accessed.toSeg (withRpl csel pl) } }

/-- Protected-mode delivery through the IDT (R1210 to R1215). -/
def deliverProtected (ev : Event) : M Unit := do
  let s ← get
  let code : Word := BitVec.ofNat 32 (8 * ev.vec + 2)
  require (decide (8 * ev.vec + 7 ≤ s.idtr.limit.toNat)) (gp code)
  let g ← readDescAt (s.idtr.base + BitVec.ofNat 32 (8 * ev.vec))
  require (!g.s && (g.typ == 5 || (g.typ &&& 6) == 6)) (gp code)
  require (ev.kind != .soft || !g.dpl.ult s.cpl) (gp code)
  require g.p (np code)
  if g.typ == 5 then taskSwitch g.gateSel .intr ev.retEip ev.code
  else enterGate g ev

/-- Real-address-mode delivery, in SMM too (R1260, R1261, R1457): the pushes, then the vector's CS, then its IP. INT n, INT 3 and INTO complete here, and RF becomes 0 (64_debug.md R1488). -/
def deliverReal (ev : Event) : M Unit := do
  let s ← get
  require (decide (4 * ev.vec + 3 ≤ s.idtr.limit.toNat)) (raise 8 none)
  let v := s.idtr.base + BitVec.ofNat 32 (4 * ev.vec)
  pushList 2 [s.flags.word.toNat, s.segs.cs.sel.toNat, ev.retEip.toNat]
  let cs ← sysRead16 (v + 2)
  let ip ← sysRead16 v
  modify fun s => { s with flags := { s.flags with ifl := false, tf := false, ac := false, rf := s.flags.rf && ev.kind != .soft },
                           segs := { s.segs with cs := s.segs.cs.ofReal cs }, eip := ip.setWidth 32 }

/-- An error code raised while an external event or an exception is delivered carries EXT (R1211, R1220). -/
def withExt (ext : Bool) (m : M Unit) : M Unit := fun s =>
  match m s with
  | .error (.exc e) t =>
    let marks := ext && decide (10 ≤ e.vec) && decide (e.vec ≤ 13)
    .error (.exc (if marks then { e with code := e.code.map fun c => c ||| 1 } else e)) t
  | r => r

/-- One attempt to deliver an event, by CR0.PE (00_scope.md R2). That an SMM handler which has set PE gets the delivery of protected mode too is
the model's choice (63_smm.md R1457, notes/assumptions/78.md), and so is that INT 1, and an INTR with vector 1, leave DR7.GD as it is: only a debug
exception clears it (64_debug.md R1483, R1491, R1494, notes/assumptions/83.md). -/
def deliverOnce (ev : Event) : M Unit := do
  let s ← get
  if s.inSmm && !s.smm.idtLoaded then refuse .smmNoIdt else pure ()
  modify fun s => { s with run := .running }
  if ev.vec = 1 && ev.kind == .exc then modify fun s => s.noteDebug (ev.dbg.getD .none) else pure ()
  if ev.kind == .nmi then modify fun s => { s with nmiBlocked := true } else pure ()
  withExt (ev.kind != .soft) (if s.pe then deliverProtected ev else deliverReal ev)

/-- The registers of `s` with everything that a fault does not undo taken from `t` (R1650 item 6, R1203). -/
def rollback (s t : State) : State :=
  { s with mem := t.mem, itlb := t.itlb, dtlb := t.dtlb, draws := t.draws, bus := t.bus, cr := { s.cr with cr2 := t.cr.cr2 },
           dr := { s.dr with dr6 := t.dr.dr6 }, inp := t.inp }

/-- Enter shutdown (10_state.md R130, R1232). A debug trap that is still pending (a breakpoint held over a load of SS) or would recur is dropped, the
model's choice (notes/assumptions/57.md), and so is the offset that stands in EIP, which an NMI that ends the shutdown saves
(63_smm.md R1466, notes/assumptions/87.md). -/
def State.shutdown (s : State) : State :=
  { s with run := .shutdown, bus := .shutdown :: s.bus, cur := .empty, pendingDb := none, recurs := [] }

/-- Exception classes for double faults (R1232, Table 14-3, D19): 0 benign, 1 contributory, 2 page fault. -/
def faultClass (vec : Nat) : Nat :=
  if vec = 0 ∨ (10 ≤ vec ∧ vec ≤ 13) then 1 else if vec = 14 then 2 else 0

/-- A second exception met while delivering a first becomes #DF (R1232, Table 14-4). -/
def isDouble (first : Event) (second : Nat) : Bool :=
  let c1 := if first.kind == .exc then faultClass first.vec else 0
  let c2 := faultClass second
  (c1 == 1 && c2 == 1) || (c1 == 2 && (c2 == 1 || c2 == 2))

/-- The event that follows when delivering `ev` raised `e`. That the saved CS:EIP of #DF, undefined for restart purposes (R1232), is that of the
instruction under way is the model's choice (notes/assumptions/66.md). -/
def nextEvent (ev : Event) (e : Exc) (eip : Word) : Event :=
  if isDouble ev e.vec || e.vec == 8 then
    { kind := .exc, vec := 8, code := some 0, retEip := eip, faultEip := eip, dbg := none }
  else { kind := .exc, vec := e.vec, code := e.code, retEip := eip, faultEip := eip, dbg := e.dbg }

/-- The trap that is pending after an event was delivered: the T bit of the task entered (R1333), and what a load of SS left when an enabled
breakpoint matched it and the event came over the one-instruction shadow (R1489, R1206, notes/assumptions/50.md). Enabled it was when it matched: a
task switch of the delivery clears L0 to L3 (R1483). A single step does not outlive the delivery, which clears TF (R1492). -/
def State.heldTrap (s : State) : Option DbgCause :=
  let p := s.pendingDb.getD .none
  let kept := p.armed || p.bt
  if kept || s.cur.bt then some { b := if kept then p.b else 0, bd := false, bs := false, bt := p.bt || s.cur.bt, armed := p.armed } else none

/-- The state after an event was delivered: an instruction boundary. That `inhibit_after_sti` does not outlive the delivery is the model's choice
(45_flag_segment_misc.md R811 speaks of the next instruction only; notes/assumptions/57.md). -/
def State.delivered (s : State) : State :=
  { s with cur := .empty, inhibitSs := false, inhibitSti := false, pgSwitched := false, lastIo := none, pendingDb := s.heldTrap }

/-- The boundary after a chain of exceptions that are serial by Table 14-4 and has no end, such as `#AC` on `#AC`: no handler is reached, and the
instruction raises its exception again at the next step, the model's choice (notes/assumptions/60.md). -/
def State.undelivered (s : State) : State :=
  { s with cur := .empty, run := .running, inhibitSs := false, inhibitSti := false, lastIo := none }

/-- TAKE AN EXCEPTION OR INTERRUPT: deliver `ev`; an exception met on the way is delivered in its turn, becomes a double
fault, or shuts the processor down (R1232). The number bounds the attempts. That the trap of a T bit (61_tasks.md R1333) is not raised when the
task switch of a delivery faults after its commit is the model's choice (notes/assumptions/67.md). -/
def deliver : Nat → Event → State → Host.Outcome State Fault Refusal
  | 0, _, s => .next s.undelivered
  | fuel + 1, ev, s =>
    match deliverOnce ev s with
    | .ok _ t => .next t.delivered
    | .error (.refuse r) _ => .refused r
    | .error (.exc e) t =>
      let base := if t.cur.committed then { t with cur := { t.cur with committed := false, bt := false } } else rollback s t
      let eip := if t.cur.committed then t.eip else ev.faultEip
      if ev.kind == .exc && ev.vec == 8 then .next base.shutdown
      else deliver fuel (nextEvent ev e eip) base
    | .error _ t => .next (rollback s t).shutdown

/-- How many attempts a delivery takes in one step. A chain that Table 14-4 ends is shorter: benign, contributory, page fault, double fault. -/
def deliverFuel : Nat := 8

/-- The entry belongs to the instruction at CS:EIP, the repeated string instruction whose iteration matched these breakpoints (R1489). -/
def State.isDue (s : State) (m : LateMatch) : Bool := s.segs.cs.base + s.eip == m.lin

/-- The breakpoints that an earlier iteration of the instruction at CS:EIP matched and that are still to be reported, and whether one of them is
enabled (R1489). -/
def State.lateHits (s : State) : BitVec 4 := (s.late.filter s.isDue).foldl (fun b m => b ||| m.hits) 0
def State.lateTrap (s : State) : Bool := s.late.any fun m => s.isDue m && m.trap

/-- What is still to be reported late after an instruction that began in `s` and ended with the latch `c`: its own entry has been reported, and an
iteration of REP MOVS or REP STOS that matched leaves a new one; the entries of other instructions stay (R1489, notes/assumptions/40.md). -/
def State.lateAfter (s : State) (c : Latch) : List LateMatch :=
  let others := s.late.filter fun m => !s.isDue m
  if c.defer && c.hits != 0 then { lin := s.segs.cs.base + s.eip, hits := c.hits, trap := c.trap } :: others else others

/-- The condition codes of DR6 and the pending trap after an instruction that began in `s` and ended in `t` (R1489, R1492,
R1485): breakpoints matched now or, late, by the iteration before; single step if TF was set when it began. A trap held over a load of SS is
reported with them, matches of breakpoints that are not enabled included (R1491, D51). Without a trap such matches are not remembered: that an
instruction breakpoint or a trap that recurs at the boundary does not report them is the model's choice (notes/assumptions/79.md). -/
def State.trapAfter (s t : State) : Option DbgCause :=
  let now := if t.cur.defer then 0 else t.cur.hits
  let armed := (t.cur.trap && !t.cur.defer) || s.lateTrap
  let c : DbgCause := { b := now ||| s.lateHits, bd := false, bs := s.flags.tf, bt := t.cur.bt, armed := armed }
  match armed || s.flags.tf || t.cur.bt, s.pendingDb with
  | _, some p => some (c.also p)
  | true, none => some c
  | false, none => none

/-- FERR# follows ES (47_fpu_numerics.md R1061): what the bus sees when the status word has become that of `t`. -/
def State.ferrEdge (s t : State) : List BusEvent := if s.fpu.sw.es = t.fpu.sw.es then [] else [.ferr t.fpu.sw.es]

/-- The request that FERR# makes at the platform's interrupt controller (R1061, `ferr_routing`, D31); the vector it comes back with is the
host's, through INTR. -/
def State.numericRequest (s : State) : Bool := Config.ferrRouting && s.fpu.sw.es

/-- The instruction boundary after an instruction that completed: RF is cleared unless it was loaded (R1488), the one-instruction shadows
start or end (R1206, R811), a debug trap is left pending. What an iteration of REP MOVS or REP STOS matched waits for the next iteration of
the same instruction, whatever comes between (R1489, notes/assumptions/40.md). The stretch that must be identity mapped lasts while PG is set, the
model's choice (70_reset_and_hazards.md R1640, notes/assumptions/19.md); RSM has ended it (`resume`). -/
def State.complete (s t : State) : State :=
  { t with
    flags := if t.cur.keepRf then t.flags else { t.flags with rf := false }
    pendingDb := s.trapAfter t
    bus := s.ferrEdge t ++ t.bus
    late := s.lateAfter t.cur
    inhibitSs := t.cur.setSsShadow
    inhibitSti := t.cur.setStiShadow
    pgSwitched := t.cur.pgSwitch || (t.pgSwitched && t.pg)
    cur := .empty }

/-- The clock of a step: the time stamp counter moves by a positive amount (11_state_system.md R166, D54). -/
def State.tick (s : State) : State :=
  { s with ticks := s.ticks + 1, tsc := s.tsc + 1 + BitVec.ofNat 64 (Config.tscExtra s.ticks) }

/-- Nothing but the next instruction can happen at this boundary: no event is pending and no instruction breakpoint is armed. -/
def State.quiet (s : State) : Bool :=
  s.inp.reset.isNone && !s.inp.init && !s.inp.mc && s.inp.intr.isNone && !s.smiPending && !s.nmiPending && s.pendingDb.isNone
    && s.recurs.isEmpty && !s.flags.tf && s.dr.dr7 &&& 0xFF == 0

/-- The state in which an instruction's computation starts: EIP is the offset of the byte after the instruction (00_scope.md R22). -/
def State.enter (s : State) : State := { s with eip := s.eip + BitVec.ofNat 32 s.cur.len, lastIo := none }

/-- The event of a fault of the instruction at `s.eip`. -/
def faultEvent (e : Exc) (eip : Word) : Event :=
  { kind := .exc, vec := e.vec, code := e.code, retEip := eip, faultEip := eip, dbg := e.dbg }

/-- RUN AN INSTRUCTION: its computation on the state with EIP advanced; a fault restores the start state and is delivered (R26, R1203); a
software interrupt is delivered as a trap (R1241); a processor that freezes before it lets an external interrupt end the wait: no shadow
holds one off (65_cache_mp.md R1561). That a JMP, CALL or IRET whose task switch faults after its commit (61_tasks.md R1332) raises no trap of a T
bit (R1333), of a breakpoint it matched or of a single step (64_debug.md R1489, R1492) is the model's choice (notes/assumptions/67.md), and so is
that an INT n, INT 3 or INTO raises no single step even where a task gate gives the new task's TF (R1492, notes/assumptions/84.md). -/
def runInstr (body : M Unit) (s : State) : Host.Outcome State Fault Refusal :=
  match body s.enter with
  | .ok _ t => .next (s.complete t)
  | .error (.exc e) t =>
    if t.cur.committed then deliver deliverFuel (faultEvent e t.eip) { t with cur := .empty }
    else deliver deliverFuel (faultEvent e s.eip) (rollback s t)
  | .error (.soft v) t =>
    deliver deliverFuel
      { kind := .soft, vec := v, code := none, retEip := s.enter.eip, faultEip := s.eip, dbg := none } (rollback s t)
  | .error (.refuse r) _ => .refused r
  | .error .stall t => .next { rollback s t with cur := .empty, inhibitSs := false, inhibitSti := false }
  | .error .shutdown t => .next t.shutdown

end Sys2Proof.Machine
end

