-- ==== Sys2Proof/Machine/Operands.lean ====
section
/-! DEFINITION. Operands: effective addresses (30_encoding.md R421 to R425), and reading, writing and
read-modify-writing an r/m operand (40_data_movement.md R500). -/

namespace Sys2Proof.Machine

open Sys2Proof

/-- The value a displacement adds: 8-bit displacements are sign-extended (R426). -/
def Disp.value : Disp → Word
  | .none => 0
  | .d8 v => v.signExtend 32
  | .d16 v => v.signExtend 32
  | .d32 v => v

/-- The register sum of a 16-bit addressing form (R423). -/
def Base16.sum (g : GRegs) : Base16 → Word
  | .bxsi => g.ebx + g.esi
  | .bxdi => g.ebx + g.edi
  | .bpsi => g.ebp + g.esi
  | .bpdi => g.ebp + g.edi
  | .si => g.esi
  | .di => g.edi
  | .bp => g.ebp
  | .bx => g.ebx

/-- The scaled index of a SIB form; index number 100 is "no index" (R422). -/
def sibIndex (g : GRegs) (scale : BitVec 2) (index : Reg) : Word :=
  if index = .esp then 0 else g.get index <<< scale.toNat

/-- The offset part of an effective address, modulo 2^as and zero-extended (R425). -/
def MemOp.offset (g : GRegs) : MemOp → Word
  | .direct16 d => d.setWidth 32
  | .base16 b d => (Base16.sum g b + Disp.value d) &&& 0xFFFF
  | .direct32 d => d
  | .base32 b d => g.get b + Disp.value d
  | .sib sc i b d => g.get b + sibIndex g sc i + Disp.value d
  | .sibNoBase sc i d => sibIndex g sc i + d

/-- The default segment: SS when the base register is (E)SP or (E)BP, otherwise DS (R425, Table 3-3). -/
def MemOp.defaultSeg : MemOp → SReg
  | .base16 .bpsi _ => .ss
  | .base16 .bpdi _ => .ss
  | .base16 .bp _ => .ss
  | .base32 .ebp _ => .ss
  | .base32 .esp _ => .ss
  | .sib _ _ .ebp _ => .ss
  | .sib _ _ .esp _ => .ss
  | _ => .ds

/-- The segment of a reference: the override prefix if present, else the default (R404, R425). -/
def State.segOr (s : State) (d : SReg) : SReg := s.cur.seg.getD d

/-- The segment of a memory operand (R425). -/
def State.eaSeg (s : State) (m : MemOp) : SReg := s.segOr (MemOp.defaultSeg m)

/-- The offset of a memory operand (R425). -/
def State.eaOff (s : State) (m : MemOp) : Word := MemOp.offset s.regs m

/-- All checks of an access of `n` bytes, alignment `al`, to a memory operand; the physical addresses of its bytes (R23). -/
def memAccess (m : MemOp) (n al : Nat) (k : Kind) : M (List Word) := do
  let s ← get
  access s.as (s.eaSeg m) (s.eaOff m) n al k

/-- MemRead of a memory operand (R23). -/
def readMem (m : MemOp) (n al : Nat) : M Nat := do
  let ps ← memAccess m n al .r
  load ps

/-- MemWrite of a memory operand (R23). -/
def writeMem (m : MemOp) (n al v : Nat) : M Unit := do
  let ps ← memAccess m n al .w
  store ps v

/-- Where an r/m operand lives once its checks are done: a register, or bytes of physical memory. -/
inductive Place where
  | reg (r : Reg)
  | mem (ps : List Word)
  deriving DecidableEq, Repr

/-- Locate an r/m operand of `w` bits for an access of kind `k`; a memory operand is checked here (R500, D72). -/
def locate (w : Nat) (rm : RM) (k : Kind) : M Place :=
  match rm with
  | .reg r => pure (.reg r)
  | .mem m => do
    let ps ← memAccess m (w / 8) (w / 8) k
    pure (.mem ps)

/-- The value at a place. -/
def Place.get (p : Place) (w : Nat) : M (BitVec w) :=
  match p with
  | .reg r => readReg w r
  | .mem ps => do
    let v ← load ps
    pure (BitVec.ofNat w v)

/-- Write a value to a place. -/
def Place.put (p : Place) (w : Nat) (v : BitVec w) : M Unit :=
  match p with
  | .reg r => writeReg w r v
  | .mem ps => store ps v.toNat

/-- "read E" (R500). -/
def readRM (w : Nat) (rm : RM) : M (BitVec w) := do
  let p ← locate w rm .r
  p.get w

/-- "write E, v" (R500). -/
def writeRM (w : Nat) (rm : RM) (v : BitVec w) : M Unit := do
  let p ← locate w rm .w
  p.put w v

/-- "rmw E, f" (R500): the destination is checked for writing before it is read. -/
def modifyRM (w : Nat) (rm : RM) (f : BitVec w → M (BitVec w)) : M Unit := do
  let p ← locate w rm .rw
  let d ← p.get w
  let r ← f d
  p.put w r

/-- A computation at the operand size of the instruction (R405). -/
def atOs (f : Nat → M Unit) : M Unit := do
  let s ← get
  f s.os.bits

/-- The accumulator: AL, AX or EAX (R500). -/
def acc : Reg := .eax

/-- CX or ECX by the address size, as 32 bits (44_string.md R760, 43_control_transfer.md R715). -/
def State.counter (s : State) : Word :=
  match s.as with
  | .s16 => s.regs.ecx &&& 0xFFFF
  | .s32 => s.regs.ecx

/-- Write CX or ECX by the address size. -/
def setCounter (v : Word) : M Unit := do
  let s ← get
  writeReg s.as.bits .ecx (v.setWidth s.as.bits)

/-- An offset in SI, DI or BX at the address size. -/
def State.asReg (s : State) (r : Reg) : Word :=
  match s.as with
  | .s16 => s.regs.get r &&& 0xFFFF
  | .s32 => s.regs.get r

/-- Protected mode only: `#UD` in real-address and virtual-8086 mode (R450 item 8). -/
def protOnly : M Unit := do
  let s ← get
  require s.prot ud

/-- The privilege level in force: 0 in real-address mode, 3 in virtual-8086 mode, otherwise CPL (45_flag_segment_misc.md R820). -/
def State.level (s : State) : BitVec 2 := if !s.pe then 0 else if s.flags.vm then 3 else s.cpl

/-- Privileged: `#GP(0)` unless the level in force is 0 (23_protection.md R340). -/
def privileged : M Unit := do
  let s ← get
  require (s.level == 0) (gp 0)

/-- The level in force is at least as privileged as IOPL: CLI, STI, and what IOPL guards in virtual-8086 mode (R341,
62_v86.md R1410). -/
def State.iopOk (s : State) : Bool := !s.flags.iopl.ult s.level

end Sys2Proof.Machine
end

