-- ==== Sys2Proof/Machine/Flags.lean ====
section
/-! DEFINITION. Flag computations (10_state.md R105), the conditions (43_control_transfer.md R710), and the
undefined flags as draws (93_implementation_defined.md U1). -/

namespace Sys2Proof.Machine

open Sys2Proof

/-- PF: the byte has an even number of 1 bits (R105). -/
def evenParity (b : Byte) : Bool :=
  !(bit b 0 ^^ bit b 1 ^^ bit b 2 ^^ bit b 3 ^^ bit b 4 ^^ bit b 5 ^^ bit b 6 ^^ bit b 7)

/-- flags_szp (R105). -/
def Flags.szp {w : Nat} (f : Flags) (r : BitVec w) : Flags :=
  { f with sf := r.msb, zf := r == 0, pf := evenParity (r.setWidth 8) }

/-- OF, SF, ZF, AF and PF of an addition, CF as it was (R105; INC, R554). -/
def Flags.addNoCarry {w : Nat} (f : Flags) (a b : BitVec w) (c : Bool) : Flags :=
  let r := a + b + BitVec.ofNat w c.toNat
  { f.szp r with
    af := decide (16 ≤ a.toNat % 16 + b.toNat % 16 + c.toNat)
    of := a.msb == b.msb && r.msb != a.msb }

/-- flags_add (R105). -/
def Flags.add {w : Nat} (f : Flags) (a b : BitVec w) (c : Bool) : Flags :=
  { f.addNoCarry a b c with cf := decide (2 ^ w ≤ a.toNat + b.toNat + c.toNat) }

/-- OF, SF, ZF, AF and PF of a subtraction, CF as it was (R105; DEC, R556). -/
def Flags.subNoCarry {w : Nat} (f : Flags) (a b : BitVec w) (c : Bool) : Flags :=
  let r := a - b - BitVec.ofNat w c.toNat
  { f.szp r with
    af := decide (a.toNat % 16 < b.toNat % 16 + c.toNat)
    of := a.msb != b.msb && r.msb != a.msb }

/-- flags_sub (R105). -/
def Flags.sub {w : Nat} (f : Flags) (a b : BitVec w) (c : Bool) : Flags :=
  { f.subNoCarry a b c with cf := decide (a.toNat < b.toNat + c.toNat) }

/-- A condition on the flags (R710, Table 4-3). -/
def Cond.holds (f : Flags) : Cond → Bool
  | .o => f.of
  | .no => !f.of
  | .b => f.cf
  | .ae => !f.cf
  | .e => f.zf
  | .ne => !f.zf
  | .be => f.cf || f.zf
  | .a => !(f.cf || f.zf)
  | .s => f.sf
  | .ns => !f.sf
  | .p => f.pf
  | .np => !f.pf
  | .l => f.sf ^^ f.of
  | .ge => !(f.sf ^^ f.of)
  | .le => (f.sf ^^ f.of) || f.zf
  | .g => !((f.sf ^^ f.of) || f.zf)

/-- CF becomes a draw (U1). -/
def drawCf : M Unit := do
  let b ← drawBool
  modifyFlags fun f => { f with cf := b }
/-- PF becomes a draw (U1). -/
def drawPf : M Unit := do
  let b ← drawBool
  modifyFlags fun f => { f with pf := b }
/-- AF becomes a draw (U1). -/
def drawAf : M Unit := do
  let b ← drawBool
  modifyFlags fun f => { f with af := b }
/-- ZF becomes a draw (U1). -/
def drawZf : M Unit := do
  let b ← drawBool
  modifyFlags fun f => { f with zf := b }
/-- SF becomes a draw (U1). -/
def drawSf : M Unit := do
  let b ← drawBool
  modifyFlags fun f => { f with sf := b }
/-- OF becomes a draw (U1). -/
def drawOf : M Unit := do
  let b ← drawBool
  modifyFlags fun f => { f with of := b }

end Sys2Proof.Machine
end

