-- ==== Sys2Proof/Machine/Arith.lean ====
section
/-! DEFINITION. Binary and decimal arithmetic (41_arithmetic.md). -/

namespace Sys2Proof.Machine

open Sys2Proof

/-- An operation of two operands of `w` bits that sets flags and gives a result (R550). -/
abbrev Alu := (w : Nat) → BitVec w → BitVec w → M (BitVec w)

/-- ADD (R551). -/
def aluAdd : Alu := fun _ d s => do
  modifyFlags fun f => f.add d s false
  pure (d + s)

/-- ADC (R552). -/
def aluAdc : Alu := fun w d s => do
  let st ← get
  let c := st.flags.cf
  modifyFlags fun f => f.add d s c
  pure (d + s + BitVec.ofNat w c.toNat)

/-- SUB (R555). -/
def aluSub : Alu := fun _ d s => do
  modifyFlags fun f => f.sub d s false
  pure (d - s)

/-- SBB (R553). -/
def aluSbb : Alu := fun w d s => do
  let st ← get
  let c := st.flags.cf
  modifyFlags fun f => f.sub d s c
  pure (d - s - BitVec.ofNat w c.toNat)

/-- The flags of a logical operation: CF and OF clear, SF, ZF, PF from the result, AF a draw (42_logical_shift_bit.md R620). -/
def logicFlags {w : Nat} (r : BitVec w) : M Unit := do
  modifyFlags fun f => { f.szp r with cf := false, of := false }
  drawAf

/-- AND (42_logical_shift_bit.md R621). -/
def aluAnd : Alu := fun _ d s => do
  logicFlags (d &&& s)
  pure (d &&& s)

/-- OR (R622). -/
def aluOr : Alu := fun _ d s => do
  logicFlags (d ||| s)
  pure (d ||| s)

/-- XOR (R623). -/
def aluXor : Alu := fun _ d s => do
  logicFlags (d ^^^ s)
  pure (d ^^^ s)

/-- An operation that only sets flags. -/
abbrev Cmp := (w : Nat) → BitVec w → BitVec w → M Unit

/-- CMP (R557). -/
def aluCmp : Cmp := fun _ d s => modifyFlags fun f => f.sub d s false

/-- TEST (R625). -/
def aluTest : Cmp := fun _ d s => logicFlags (d &&& s)

/-- `op E, G` (R550). -/
def aluRmR (op : Alu) (rm : RM) (r : Reg) (w : Nat) : M Unit :=
  modifyRM w rm fun d => do
    let v ← readReg w r
    op w d v

/-- `op G, E` (R550). -/
def aluRRm (op : Alu) (rm : RM) (r : Reg) (w : Nat) : M Unit := do
  let v ← readRM w rm
  let d ← readReg w r
  let t ← op w d v
  writeReg w r t

/-- An immediate at the operand width: an 8-bit one of a byte form (R427). -/
def zimm8 (imm : BitVec 8) (w : Nat) : BitVec w := imm.setWidth w
/-- An immediate of `os` bits (R427). -/
def zimm (imm : BitVec 32) (w : Nat) : BitVec w := imm.setWidth w
/-- A sign-extended 8-bit immediate (R427). -/
def simm8 (imm : BitVec 8) (w : Nat) : BitVec w := imm.signExtend w

/-- `op acc, imm` (R550). -/
def aluAcc (op : Alu) (imm : (w : Nat) → BitVec w) (w : Nat) : M Unit := do
  let d ← readReg w acc
  let t ← op w d (imm w)
  writeReg w acc t

/-- `op E, imm` (R550). -/
def aluRmImm (op : Alu) (rm : RM) (imm : (w : Nat) → BitVec w) (w : Nat) : M Unit :=
  modifyRM w rm fun d => op w d (imm w)

/-- `cmp E, G`: both are read (R550, R557). -/
def cmpRmR (op : Cmp) (rm : RM) (r : Reg) (w : Nat) : M Unit := do
  let d ← readRM w rm
  let v ← readReg w r
  op w d v

/-- `cmp G, E`. -/
def cmpRRm (op : Cmp) (rm : RM) (r : Reg) (w : Nat) : M Unit := do
  let v ← readRM w rm
  let d ← readReg w r
  op w d v

/-- `cmp acc, imm`. -/
def cmpAcc (op : Cmp) (imm : (w : Nat) → BitVec w) (w : Nat) : M Unit := do
  let d ← readReg w acc
  op w d (imm w)

/-- `cmp E, imm`. -/
def cmpRmImm (op : Cmp) (rm : RM) (imm : (w : Nat) → BitVec w) (w : Nat) : M Unit := do
  let d ← readRM w rm
  op w d (imm w)

/-- INC (R554): CF unchanged. -/
def incr (rm : RM) (w : Nat) : M Unit :=
  modifyRM w rm fun d => do
    modifyFlags fun f => f.addNoCarry d 1 false
    pure (d + 1)

/-- DEC (R556): CF unchanged. -/
def decr (rm : RM) (w : Nat) : M Unit :=
  modifyRM w rm fun d => do
    modifyFlags fun f => f.subNoCarry d 1 false
    pure (d - 1)

/-- NEG (R558). -/
def negate (rm : RM) (w : Nat) : M Unit :=
  modifyRM w rm fun d => do
    modifyFlags fun f => f.sub 0 d false
    pure (0 - d)

/-- The double-length accumulator: AX, DX:AX or EDX:EAX (R559, R560). -/
def wideGet (w : Nat) (g : GRegs) : Nat :=
  if w = 8 then (g.read 16 .eax).toNat else (g.read w .edx).toNat * 2 ^ w + (g.read w .eax).toNat

/-- Write the double-length accumulator. -/
def wideSet (w : Nat) (p : Nat) : M Unit :=
  if w = 8 then writeReg 16 .eax (BitVec.ofNat 16 p)
  else do
    writeReg w .eax (BitVec.ofNat w p)
    writeReg w .edx (BitVec.ofNat w (p / 2 ^ w))

/-- The flags of a multiplication: CF = OF, and SF, ZF, AF, PF draws (R559, R562). -/
def mulFlags (c : Bool) : M Unit := do
  modifyFlags fun f => { f with cf := c, of := c }
  drawSf
  drawZf
  drawAf
  drawPf

/-- MUL (R559). -/
def mulOp (rm : RM) (w : Nat) : M Unit := do
  let v ← readRM w rm
  let a ← readReg w acc
  let p := a.toNat * v.toNat
  wideSet w p
  mulFlags (decide (p / 2 ^ w ≠ 0))

/-- The low `w` bits of an exact product as an integer (R562). -/
def lowSigned (w : Nat) (p : Int) : Int := (BitVec.ofInt w p).toInt

/-- One-operand IMUL (R562). -/
def imulAcc (rm : RM) (w : Nat) : M Unit := do
  let v ← readRM w rm
  let a ← readReg w acc
  let p := a.toInt * v.toInt
  wideSet w (BitVec.ofInt (2 * w) p).toNat
  mulFlags (decide (p ≠ lowSigned w p))

/-- IMUL with a register destination: the truncated product (R562). -/
def imulTo (w : Nat) (r : Reg) (a b : BitVec w) : M Unit := do
  let p := a.toInt * b.toInt
  writeReg w r (BitVec.ofInt w p)
  mulFlags (decide (p ≠ lowSigned w p))

/-- All six status flags become draws (R560). -/
def drawStatus : M Unit := do
  drawOf
  drawSf
  drawZf
  drawAf
  drawPf
  drawCf

/-- Quotient to AL, AX or EAX, remainder to AH, DX or EDX (R560, Table 4-1). -/
def divSet (w : Nat) (q r : BitVec w) : M Unit := do
  writeReg w .eax q
  writeReg w (if w = 8 then .esp else .edx) r

/-- DIV (R560). -/
def divOp (rm : RM) (w : Nat) : M Unit := do
  let d ← readRM w rm
  let s ← get
  let n := wideGet w s.regs
  require (d.toNat != 0) de
  let q := n / d.toNat
  require (decide (q < 2 ^ w)) de
  divSet w (BitVec.ofNat w q) (BitVec.ofNat w (n % d.toNat))
  drawStatus

/-- IDIV (R561). -/
def idivOp (rm : RM) (w : Nat) : M Unit := do
  let d ← readRM w rm
  let s ← get
  let n := (BitVec.ofNat (2 * w) (wideGet w s.regs)).toInt
  require (d.toNat != 0) de
  let q := n.tdiv d.toInt
  require (decide (-(2 ^ (w - 1) : Int) ≤ q) && decide (q < (2 ^ (w - 1) : Int))) de
  divSet w (BitVec.ofInt w q) (BitVec.ofInt w (n - q * d.toInt))
  drawStatus

/-- AL. -/
def State.al (s : State) : Byte := s.regs.get8 .eax
/-- AH. -/
def State.ah (s : State) : Byte := s.regs.get8 .esp

/-- AAA and AAS (R572, R573): `adj` adds or subtracts; `wild` says that the carry into AH is not known (U6). -/
def asciiAdjust (adj : Byte → Byte → Byte) (wild : Byte → Bool) : M Unit := do
  let s ← get
  let al := s.al
  if decide (9 < al.toNat % 16) || s.flags.af then
    let free ← draw 8
    writeReg 8 .eax (adj al 6 &&& 0x0F)
    writeReg 8 .esp (if wild al then free else adj s.ah 1)
    modifyFlags fun f => { f with af := true, cf := true }
  else
    writeReg 8 .eax (al &&& 0x0F)
    modifyFlags fun f => { f with af := false, cf := false }
  drawOf
  drawSf
  drawZf
  drawPf

/-- The flags of AAM and AAD: SF, ZF, PF from AL, the others draws (R574, R575). -/
def decimalFlags (al : Byte) : M Unit := do
  modifyFlags fun f => f.szp al
  drawAf
  drawOf
  drawCf

/-- DAA (R570). -/
def daaOp : M Unit := do
  let s ← get
  let a := s.al
  let low := decide (9 < a.toNat % 16) || s.flags.af
  let high := decide (0x99 < a.toNat) || s.flags.cf
  let r := a + (if low then 6 else 0) + (if high then 0x60 else 0)
  writeReg 8 .eax r
  modifyFlags fun f => { f.szp r with af := low, cf := high }
  drawOf

/-- DAS (R571). -/
def dasOp : M Unit := do
  let s ← get
  let a := s.al
  let low := decide (9 < a.toNat % 16) || s.flags.af
  let high := decide (0x99 < a.toNat) || s.flags.cf
  let r := a - (if low then 6 else 0) - (if high then 0x60 else 0)
  writeReg 8 .eax r
  modifyFlags fun f => { f.szp r with af := low, cf := high || (low && decide (a.toNat < 6)) }
  drawOf

/-- ADD r/m8, r8 (R551). -/
def execAddRm8R8 (rm : RM) (r : Reg) (s : State) : Host.Outcome State Fault Refusal :=
  runInstr (aluRmR aluAdd rm r 8) s

/-- ADD r/m, r (R551). -/
def execAddRmR (rm : RM) (r : Reg) (s : State) : Host.Outcome State Fault Refusal :=
  runInstr (atOs (aluRmR aluAdd rm r)) s

/-- ADD r8, r/m8 (R551). -/
def execAddR8Rm8 (rm : RM) (r : Reg) (s : State) : Host.Outcome State Fault Refusal :=
  runInstr (aluRRm aluAdd rm r 8) s

/-- ADD r, r/m (R551). -/
def execAddRRm (rm : RM) (r : Reg) (s : State) : Host.Outcome State Fault Refusal :=
  runInstr (atOs (aluRRm aluAdd rm r)) s

/-- ADD AL, imm8 (R551). -/
def execAddAlImm8 (imm : BitVec 8) (s : State) : Host.Outcome State Fault Refusal :=
  runInstr (aluAcc aluAdd (zimm8 imm) 8) s

/-- ADD eAX, imm (R551). -/
def execAddEaxImm (imm : BitVec 32) (s : State) : Host.Outcome State Fault Refusal :=
  runInstr (atOs (aluAcc aluAdd (zimm imm))) s

/-- ADD r/m8, imm8 (R551). -/
def execAddRm8Imm8 (rm : RM) (imm : BitVec 8) (s : State) : Host.Outcome State Fault Refusal :=
  runInstr (aluRmImm aluAdd rm (zimm8 imm) 8) s

/-- ADD r/m, imm (R551). -/
def execAddRmImm (rm : RM) (imm : BitVec 32) (s : State) : Host.Outcome State Fault Refusal :=
  runInstr (atOs (aluRmImm aluAdd rm (zimm imm))) s

/-- ADD r/m, sext(imm8) (R551). -/
def execAddRmSImm8 (rm : RM) (imm : BitVec 8) (s : State) : Host.Outcome State Fault Refusal :=
  runInstr (atOs (aluRmImm aluAdd rm (simm8 imm))) s

/-- ADC r/m8, r8 (R552). -/
def execAdcRm8R8 (rm : RM) (r : Reg) (s : State) : Host.Outcome State Fault Refusal :=
  runInstr (aluRmR aluAdc rm r 8) s

/-- ADC r/m, r (R552). -/
def execAdcRmR (rm : RM) (r : Reg) (s : State) : Host.Outcome State Fault Refusal :=
  runInstr (atOs (aluRmR aluAdc rm r)) s

/-- ADC r8, r/m8 (R552). -/
def execAdcR8Rm8 (rm : RM) (r : Reg) (s : State) : Host.Outcome State Fault Refusal :=
  runInstr (aluRRm aluAdc rm r 8) s

/-- ADC r, r/m (R552). -/
def execAdcRRm (rm : RM) (r : Reg) (s : State) : Host.Outcome State Fault Refusal :=
  runInstr (atOs (aluRRm aluAdc rm r)) s

/-- ADC AL, imm8 (R552). -/
def execAdcAlImm8 (imm : BitVec 8) (s : State) : Host.Outcome State Fault Refusal :=
  runInstr (aluAcc aluAdc (zimm8 imm) 8) s

/-- ADC eAX, imm (R552). -/
def execAdcEaxImm (imm : BitVec 32) (s : State) : Host.Outcome State Fault Refusal :=
  runInstr (atOs (aluAcc aluAdc (zimm imm))) s

/-- ADC r/m8, imm8 (R552). -/
def execAdcRm8Imm8 (rm : RM) (imm : BitVec 8) (s : State) : Host.Outcome State Fault Refusal :=
  runInstr (aluRmImm aluAdc rm (zimm8 imm) 8) s

/-- ADC r/m, imm (R552). -/
def execAdcRmImm (rm : RM) (imm : BitVec 32) (s : State) : Host.Outcome State Fault Refusal :=
  runInstr (atOs (aluRmImm aluAdc rm (zimm imm))) s

/-- ADC r/m, sext(imm8) (R552). -/
def execAdcRmSImm8 (rm : RM) (imm : BitVec 8) (s : State) : Host.Outcome State Fault Refusal :=
  runInstr (atOs (aluRmImm aluAdc rm (simm8 imm))) s

/-- SUB r/m8, r8 (R555). -/
def execSubRm8R8 (rm : RM) (r : Reg) (s : State) : Host.Outcome State Fault Refusal :=
  runInstr (aluRmR aluSub rm r 8) s

/-- SUB r/m, r (R555). -/
def execSubRmR (rm : RM) (r : Reg) (s : State) : Host.Outcome State Fault Refusal :=
  runInstr (atOs (aluRmR aluSub rm r)) s

/-- SUB r8, r/m8 (R555). -/
def execSubR8Rm8 (rm : RM) (r : Reg) (s : State) : Host.Outcome State Fault Refusal :=
  runInstr (aluRRm aluSub rm r 8) s

/-- SUB r, r/m (R555). -/
def execSubRRm (rm : RM) (r : Reg) (s : State) : Host.Outcome State Fault Refusal :=
  runInstr (atOs (aluRRm aluSub rm r)) s

/-- SUB AL, imm8 (R555). -/
def execSubAlImm8 (imm : BitVec 8) (s : State) : Host.Outcome State Fault Refusal :=
  runInstr (aluAcc aluSub (zimm8 imm) 8) s

/-- SUB eAX, imm (R555). -/
def execSubEaxImm (imm : BitVec 32) (s : State) : Host.Outcome State Fault Refusal :=
  runInstr (atOs (aluAcc aluSub (zimm imm))) s

/-- SUB r/m8, imm8 (R555). -/
def execSubRm8Imm8 (rm : RM) (imm : BitVec 8) (s : State) : Host.Outcome State Fault Refusal :=
  runInstr (aluRmImm aluSub rm (zimm8 imm) 8) s

/-- SUB r/m, imm (R555). -/
def execSubRmImm (rm : RM) (imm : BitVec 32) (s : State) : Host.Outcome State Fault Refusal :=
  runInstr (atOs (aluRmImm aluSub rm (zimm imm))) s

/-- SUB r/m, sext(imm8) (R555). -/
def execSubRmSImm8 (rm : RM) (imm : BitVec 8) (s : State) : Host.Outcome State Fault Refusal :=
  runInstr (atOs (aluRmImm aluSub rm (simm8 imm))) s

/-- SBB r/m8, r8 (R553). -/
def execSbbRm8R8 (rm : RM) (r : Reg) (s : State) : Host.Outcome State Fault Refusal :=
  runInstr (aluRmR aluSbb rm r 8) s

/-- SBB r/m, r (R553). -/
def execSbbRmR (rm : RM) (r : Reg) (s : State) : Host.Outcome State Fault Refusal :=
  runInstr (atOs (aluRmR aluSbb rm r)) s

/-- SBB r8, r/m8 (R553). -/
def execSbbR8Rm8 (rm : RM) (r : Reg) (s : State) : Host.Outcome State Fault Refusal :=
  runInstr (aluRRm aluSbb rm r 8) s

/-- SBB r, r/m (R553). -/
def execSbbRRm (rm : RM) (r : Reg) (s : State) : Host.Outcome State Fault Refusal :=
  runInstr (atOs (aluRRm aluSbb rm r)) s

/-- SBB AL, imm8 (R553). -/
def execSbbAlImm8 (imm : BitVec 8) (s : State) : Host.Outcome State Fault Refusal :=
  runInstr (aluAcc aluSbb (zimm8 imm) 8) s

/-- SBB eAX, imm (R553). -/
def execSbbEaxImm (imm : BitVec 32) (s : State) : Host.Outcome State Fault Refusal :=
  runInstr (atOs (aluAcc aluSbb (zimm imm))) s

/-- SBB r/m8, imm8 (R553). -/
def execSbbRm8Imm8 (rm : RM) (imm : BitVec 8) (s : State) : Host.Outcome State Fault Refusal :=
  runInstr (aluRmImm aluSbb rm (zimm8 imm) 8) s

/-- SBB r/m, imm (R553). -/
def execSbbRmImm (rm : RM) (imm : BitVec 32) (s : State) : Host.Outcome State Fault Refusal :=
  runInstr (atOs (aluRmImm aluSbb rm (zimm imm))) s

/-- SBB r/m, sext(imm8) (R553). -/
def execSbbRmSImm8 (rm : RM) (imm : BitVec 8) (s : State) : Host.Outcome State Fault Refusal :=
  runInstr (atOs (aluRmImm aluSbb rm (simm8 imm))) s

/-- CMP r/m8, r8 (R557). -/
def execCmpRm8R8 (rm : RM) (r : Reg) (s : State) : Host.Outcome State Fault Refusal :=
  runInstr (cmpRmR aluCmp rm r 8) s

/-- CMP r/m, r (R557). -/
def execCmpRmR (rm : RM) (r : Reg) (s : State) : Host.Outcome State Fault Refusal :=
  runInstr (atOs (cmpRmR aluCmp rm r)) s

/-- CMP r8, r/m8 (R557). -/
def execCmpR8Rm8 (rm : RM) (r : Reg) (s : State) : Host.Outcome State Fault Refusal :=
  runInstr (cmpRRm aluCmp rm r 8) s

/-- CMP r, r/m (R557). -/
def execCmpRRm (rm : RM) (r : Reg) (s : State) : Host.Outcome State Fault Refusal :=
  runInstr (atOs (cmpRRm aluCmp rm r)) s

/-- CMP AL, imm8 (R557). -/
def execCmpAlImm8 (imm : BitVec 8) (s : State) : Host.Outcome State Fault Refusal :=
  runInstr (cmpAcc aluCmp (zimm8 imm) 8) s

/-- CMP eAX, imm (R557). -/
def execCmpEaxImm (imm : BitVec 32) (s : State) : Host.Outcome State Fault Refusal :=
  runInstr (atOs (cmpAcc aluCmp (zimm imm))) s

/-- CMP r/m8, imm8 (R557). -/
def execCmpRm8Imm8 (rm : RM) (imm : BitVec 8) (s : State) : Host.Outcome State Fault Refusal :=
  runInstr (cmpRmImm aluCmp rm (zimm8 imm) 8) s

/-- CMP r/m, imm (R557). -/
def execCmpRmImm (rm : RM) (imm : BitVec 32) (s : State) : Host.Outcome State Fault Refusal :=
  runInstr (atOs (cmpRmImm aluCmp rm (zimm imm))) s

/-- CMP r/m, sext(imm8) (R557). -/
def execCmpRmSImm8 (rm : RM) (imm : BitVec 8) (s : State) : Host.Outcome State Fault Refusal :=
  runInstr (atOs (cmpRmImm aluCmp rm (simm8 imm))) s

/-- INC r (R554). -/
def execIncR (r : Reg) (s : State) : Host.Outcome State Fault Refusal :=
  runInstr (atOs (incr (.reg r))) s

/-- INC r/m8 (R554). -/
def execIncRm8 (rm : RM) (s : State) : Host.Outcome State Fault Refusal :=
  runInstr (incr rm 8) s

/-- INC r/m (R554). -/
def execIncRm (rm : RM) (s : State) : Host.Outcome State Fault Refusal :=
  runInstr (atOs (incr rm)) s

/-- DEC r (R556). -/
def execDecR (r : Reg) (s : State) : Host.Outcome State Fault Refusal :=
  runInstr (atOs (decr (.reg r))) s

/-- DEC r/m8 (R556). -/
def execDecRm8 (rm : RM) (s : State) : Host.Outcome State Fault Refusal :=
  runInstr (decr rm 8) s

/-- DEC r/m (R556). -/
def execDecRm (rm : RM) (s : State) : Host.Outcome State Fault Refusal :=
  runInstr (atOs (decr rm)) s

/-- NEG r/m8 (R558). -/
def execNegRm8 (rm : RM) (s : State) : Host.Outcome State Fault Refusal :=
  runInstr (negate rm 8) s

/-- NEG r/m (R558). -/
def execNegRm (rm : RM) (s : State) : Host.Outcome State Fault Refusal :=
  runInstr (atOs (negate rm)) s

/-- MUL r/m8 (R559). -/
def execMulRm8 (rm : RM) (s : State) : Host.Outcome State Fault Refusal :=
  runInstr (mulOp rm 8) s

/-- MUL r/m (R559). -/
def execMulRm (rm : RM) (s : State) : Host.Outcome State Fault Refusal :=
  runInstr (atOs (mulOp rm)) s

/-- IMUL r/m8 (R562). -/
def execImulRm8 (rm : RM) (s : State) : Host.Outcome State Fault Refusal :=
  runInstr (imulAcc rm 8) s

/-- IMUL r/m (R562). -/
def execImulRm (rm : RM) (s : State) : Host.Outcome State Fault Refusal :=
  runInstr (atOs (imulAcc rm)) s

/-- DIV r/m8 (R560). -/
def execDivRm8 (rm : RM) (s : State) : Host.Outcome State Fault Refusal :=
  runInstr (divOp rm 8) s

/-- DIV r/m (R560). -/
def execDivRm (rm : RM) (s : State) : Host.Outcome State Fault Refusal :=
  runInstr (atOs (divOp rm)) s

/-- IDIV r/m8 (R561). -/
def execIdivRm8 (rm : RM) (s : State) : Host.Outcome State Fault Refusal :=
  runInstr (idivOp rm 8) s

/-- IDIV r/m (R561). -/
def execIdivRm (rm : RM) (s : State) : Host.Outcome State Fault Refusal :=
  runInstr (atOs (idivOp rm)) s

/-- IMUL r, r/m (R562). -/
def execImulRRm (rm : RM) (r : Reg) (s : State) : Host.Outcome State Fault Refusal :=
  runInstr (atOs fun w => do
    let v ← readRM w rm
    let d ← readReg w r
    imulTo w r d v) s

/-- IMUL r, r/m, imm (R562). -/
def execImulRRmImm (rm : RM) (r : Reg) (imm : BitVec 32) (s : State) : Host.Outcome State Fault Refusal :=
  runInstr (atOs fun w => do
    let v ← readRM w rm
    imulTo w r v (zimm imm w)) s

/-- IMUL r, r/m, sext(imm8) (R562). -/
def execImulRRmSImm8 (rm : RM) (r : Reg) (imm : BitVec 8) (s : State) : Host.Outcome State Fault Refusal :=
  runInstr (atOs fun w => do
    let v ← readRM w rm
    imulTo w r v (simm8 imm w)) s

/-- DAA (R570). -/
def execDaa (s : State) : Host.Outcome State Fault Refusal :=
  runInstr (daaOp) s

/-- DAS (R571). -/
def execDas (s : State) : Host.Outcome State Fault Refusal :=
  runInstr (dasOp) s

/-- AAA (R572). -/
def execAaa (s : State) : Host.Outcome State Fault Refusal :=
  runInstr (asciiAdjust (fun a b => a + b) (fun al => decide (0xF9 < al.toNat))) s

/-- AAS (R573). -/
def execAas (s : State) : Host.Outcome State Fault Refusal :=
  runInstr (asciiAdjust (fun a b => a - b) (fun al => decide (al.toNat < 6))) s

/-- AAM imm8 (R574). -/
def execAamImm8 (imm : BitVec 8) (s : State) : Host.Outcome State Fault Refusal :=
  runInstr (do
    let s ← get
    require (imm.toNat != 0) de
    let al := BitVec.ofNat 8 (s.al.toNat % imm.toNat)
    writeReg 8 .esp (BitVec.ofNat 8 (s.al.toNat / imm.toNat))
    writeReg 8 .eax al
    decimalFlags al) s

/-- AAD imm8 (R575). -/
def execAadImm8 (imm : BitVec 8) (s : State) : Host.Outcome State Fault Refusal :=
  runInstr (do
    let s ← get
    let al := s.al + s.ah * imm
    writeReg 16 .eax (al.setWidth 16)
    decimalFlags al) s

end Sys2Proof.Machine
end

