-- ==== Sys2Proof/Machine/Logic.lean ====
section
/-! DEFINITION. Logical, shift, rotate, bit and byte instructions (42_logical_shift_bit.md). -/

namespace Sys2Proof.Machine

open Sys2Proof

/-- NOT (R624): no flag is changed. -/
def invert (rm : RM) (w : Nat) : M Unit := modifyRM w rm fun d => pure (~~~d)

/-- Where a shift takes its count from (R630). -/
inductive Count where
  | one
  | cl
  | imm (v : BitVec 8)
  deriving DecidableEq, Repr

/-- The count, masked to five bits (R630). -/
def Count.value (k : Count) (s : State) : Nat :=
  match k with
  | .one => 1
  | .cl => (s.regs.get8 .ecx).toNat % 32
  | .imm v => v.toNat % 32

/-- An operation on `d` with count `c`, `0 < c < 32`, that sets flags. -/
abbrev Shift := (w : Nat) → BitVec w → Nat → M (BitVec w)

/-- A shift or rotate of an r/m operand: checked as a read-modify-write even when the count is 0, which writes nothing and
changes no flag (R630). That the check matches write breakpoints too is the model's choice (notes/assumptions/51.md). -/
def shiftRM (op : Shift) (rm : RM) (k : Count) (w : Nat) : M Unit := do
  let p ← locate w rm .rw
  let d ← p.get w
  let s ← get
  let c := k.value s
  if c = 0 then pure ()
  else
    let r ← op w d c
    p.put w r

/-- OF is `v` after a count of 1, a draw after more (R631 to R639). -/
def setOfOnce (c : Nat) (v : Bool) : M Unit := do
  let free ← drawBool
  modifyFlags fun f => { f with of := if c = 1 then v else free }

/-- The flags of a shift (R631 to R633): CF is a draw when the count reaches the width, AF is a draw. -/
def shiftFlags {w : Nat} (r : BitVec w) (c : Nat) (cf ov : Bool) : M Unit := do
  let free ← drawBool
  modifyFlags fun f => { f.szp r with cf := if c < w then cf else free }
  setOfOnce c ov
  drawAf

/-- SHL, SAL (R631). For `c = 1` the bit shifted out exists at every width, so OF compares with it. -/
def shlOp : Shift := fun w d c => do
  let r := d <<< c
  shiftFlags r c (bit d (w - c)) (r.msb ^^ bit d (w - c))
  pure r

/-- SHR (R632). -/
def shrOp : Shift := fun _ d c => do
  let r := d >>> c
  shiftFlags r c (bit d (c - 1)) d.msb
  pure r

/-- SAR (R633). -/
def sarOp : Shift := fun _ d c => do
  let r := d.sshiftRight c
  shiftFlags r c (bit d (c - 1)) false
  pure r

/-- CF and OF of a rotate; the other flags stay (R636). -/
def rotateFlags (c : Nat) (cf ov : Bool) : M Unit := do
  modifyFlags fun f => { f with cf := cf }
  setOfOnce c ov

/-- ROL (R636). -/
def rolOp : Shift := fun _ d c => do
  let r := d.rotateLeft c
  rotateFlags c (bit r 0) (r.msb ^^ bit r 0)
  pure r

/-- ROR (R637). -/
def rorOp : Shift := fun w d c => do
  let r := d.rotateRight c
  rotateFlags c r.msb (r.msb ^^ bit r (w - 2))
  pure r

/-- RCL (R638): a rotate of the `w + 1` bits CF : d. -/
def rclOp : Shift := fun w d c => do
  let s ← get
  let x := (BitVec.cons s.flags.cf d).rotateLeft (c % (w + 1))
  let r : BitVec w := x.setWidth w
  rotateFlags c x.msb (r.msb ^^ x.msb)
  pure r

/-- RCR (R639): a rotate of the `w + 1` bits d : CF. -/
def rcrOp : Shift := fun w d c => do
  let s ← get
  let x := (BitVec.concat d s.flags.cf).rotateRight (c % (w + 1))
  let r : BitVec w := x.extractLsb' 1 w
  rotateFlags c (bit x 0) (r.msb ^^ bit r (w - 2))
  pure r

/-- A double shift: result and CF from destination, source and count (R634, R635); past the width everything is a
draw (U7). -/
def doubleShift (f : (w : Nat) → BitVec w → BitVec w → Nat → BitVec w × Bool) (rm : RM) (r : Reg) (k : Count) (w : Nat) :
    M Unit := do
  let p ← locate w rm .rw
  let d ← p.get w
  let v ← readReg w r
  let s ← get
  let c := k.value s
  if c = 0 then pure ()
  else if w < c then
    let free ← draw w
    drawStatus
    p.put w free
  else
    let (t, cf) := f w d v c
    modifyFlags fun g => { g.szp t with cf := cf }
    setOfOnce c (t.msb ^^ d.msb)
    drawAf
    p.put w t

/-- SHLD (R634). -/
def shldFn (w : Nat) (d s : BitVec w) (c : Nat) : BitVec w × Bool :=
  (((d ++ s) <<< c).extractLsb' w w, bit d (w - c))

/-- SHRD (R635). -/
def shrdFn (w : Nat) (d s : BitVec w) (c : Nat) : BitVec w × Bool :=
  (((s ++ d) >>> c).extractLsb' 0 w, bit d (c - 1))

/-- What a bit instruction makes of the selected bit (Table 4-2); `none`: nothing is written (BT). -/
abbrev BitOp := Option (Bool → Bool)

/-- The effect on flags of BT, BTS, BTR, BTC (R661): CF is the bit, the other status flags are draws. -/
def bitFlags (b : Bool) : M Unit := do
  modifyFlags fun f => { f with cf := b }
  drawOf
  drawSf
  drawZf
  drawAf
  drawPf

/-- A word with bit `i` replaced. -/
def withBit {w : Nat} (d : BitVec w) (i : Nat) (b : Bool) : BitVec w :=
  if b then d ||| (1#w <<< i) else d &&& ~~~(1#w <<< i)

/-- Test bit `i` of the operand at a place and write what `op` makes of it (R661 to R664). -/
def bitAt (op : BitOp) (p : Place) (i w : Nat) : M Unit := do
  let d ← p.get w
  let b := bit d i
  bitFlags b
  match op with
  | none => pure ()
  | some f => p.put w (withBit d i (f b))

/-- The access kind of a bit instruction. -/
def BitOp.kind (op : BitOp) : Kind := if op.isSome then .rw else .r

/-- The offset modulo 2^as of the operand that holds bit `o` of the bit string at offset `base` (R660). -/
def bitStringOff (as : Size) (base : Word) (w : Nat) (o : Int) : Word :=
  let v := base + BitVec.ofInt 32 ((w / 8 : Nat) * (o.fdiv w))
  match as with
  | .s16 => v &&& 0xFFFF
  | .s32 => v

/-- BT, BTS, BTR, BTC with a register offset: a memory operand is a bit string, signed offset, alignment 4 (R660, R335). -/
def bitByReg (op : BitOp) (rm : RM) (r : Reg) (w : Nat) : M Unit := do
  let o ← readReg w r
  match rm with
  | .reg d => bitAt op (.reg d) (o.toNat % w) w
  | .mem m => do
    let s ← get
    let ps ← access s.as (s.eaSeg m) (bitStringOff s.as (s.eaOff m) w o.toInt) (w / 8) 4 op.kind
    bitAt op (.mem ps) (o.toNat % w) w

/-- BT, BTS, BTR, BTC with an immediate offset modulo the width (R660). -/
def bitByImm (op : BitOp) (rm : RM) (imm : BitVec 8) (w : Nat) : M Unit := do
  let p ← locate w rm op.kind
  bitAt op p (imm.toNat % w) w

/-- BT leaves the bit. -/
def btOp : BitOp := none
/-- BTS sets the bit. -/
def btsOp : BitOp := some fun _ => true
/-- BTR resets the bit. -/
def btrOp : BitOp := some fun _ => false
/-- BTC complements the bit. -/
def btcOp : BitOp := some fun b => !b

/-- The least `i` below `n` with `p (k + i)`, as `k + i`, if there is one. -/
def firstFrom (p : Nat → Bool) : Nat → Nat → Option Nat
  | 0, _ => none
  | n + 1, k => if p k then some k else firstFrom p n (k + 1)

/-- BSF and BSR (R665, R666): `find` gives the index; a zero source leaves the destination a draw (U8). -/
def bitScan (find : (w : Nat) → BitVec w → Option Nat) (rm : RM) (r : Reg) (w : Nat) : M Unit := do
  let v ← readRM w rm
  drawOf
  drawSf
  drawAf
  drawPf
  drawCf
  match find w v with
  | none => do
    let free ← draw w
    modifyFlags fun f => { f with zf := true }
    writeReg w r free
  | some i => do
    modifyFlags fun f => { f with zf := false }
    writeReg w r (BitVec.ofNat w i)

/-- The least set bit (R665). -/
def scanForward (w : Nat) (v : BitVec w) : Option Nat := firstFrom (bit v) w 0
/-- The greatest set bit (R666). -/
def scanReverse (w : Nat) (v : BitVec w) : Option Nat := (firstFrom (fun i => bit v (w - 1 - i)) w 0).map fun i => w - 1 - i

/-- AND r/m8, r8 (R621). -/
def execAndRm8R8 (rm : RM) (r : Reg) (s : State) : Host.Outcome State Fault Refusal :=
  runInstr (aluRmR aluAnd rm r 8) s

/-- AND r/m, r (R621). -/
def execAndRmR (rm : RM) (r : Reg) (s : State) : Host.Outcome State Fault Refusal :=
  runInstr (atOs (aluRmR aluAnd rm r)) s

/-- AND r8, r/m8 (R621). -/
def execAndR8Rm8 (rm : RM) (r : Reg) (s : State) : Host.Outcome State Fault Refusal :=
  runInstr (aluRRm aluAnd rm r 8) s

/-- AND r, r/m (R621). -/
def execAndRRm (rm : RM) (r : Reg) (s : State) : Host.Outcome State Fault Refusal :=
  runInstr (atOs (aluRRm aluAnd rm r)) s

/-- AND AL, imm8 (R621). -/
def execAndAlImm8 (imm : BitVec 8) (s : State) : Host.Outcome State Fault Refusal :=
  runInstr (aluAcc aluAnd (zimm8 imm) 8) s

/-- AND eAX, imm (R621). -/
def execAndEaxImm (imm : BitVec 32) (s : State) : Host.Outcome State Fault Refusal :=
  runInstr (atOs (aluAcc aluAnd (zimm imm))) s

/-- AND r/m8, imm8 (R621). -/
def execAndRm8Imm8 (rm : RM) (imm : BitVec 8) (s : State) : Host.Outcome State Fault Refusal :=
  runInstr (aluRmImm aluAnd rm (zimm8 imm) 8) s

/-- AND r/m, imm (R621). -/
def execAndRmImm (rm : RM) (imm : BitVec 32) (s : State) : Host.Outcome State Fault Refusal :=
  runInstr (atOs (aluRmImm aluAnd rm (zimm imm))) s

/-- AND r/m, sext(imm8) (R621). -/
def execAndRmSImm8 (rm : RM) (imm : BitVec 8) (s : State) : Host.Outcome State Fault Refusal :=
  runInstr (atOs (aluRmImm aluAnd rm (simm8 imm))) s

/-- OR r/m8, r8 (R622). -/
def execOrRm8R8 (rm : RM) (r : Reg) (s : State) : Host.Outcome State Fault Refusal :=
  runInstr (aluRmR aluOr rm r 8) s

/-- OR r/m, r (R622). -/
def execOrRmR (rm : RM) (r : Reg) (s : State) : Host.Outcome State Fault Refusal :=
  runInstr (atOs (aluRmR aluOr rm r)) s

/-- OR r8, r/m8 (R622). -/
def execOrR8Rm8 (rm : RM) (r : Reg) (s : State) : Host.Outcome State Fault Refusal :=
  runInstr (aluRRm aluOr rm r 8) s

/-- OR r, r/m (R622). -/
def execOrRRm (rm : RM) (r : Reg) (s : State) : Host.Outcome State Fault Refusal :=
  runInstr (atOs (aluRRm aluOr rm r)) s

/-- OR AL, imm8 (R622). -/
def execOrAlImm8 (imm : BitVec 8) (s : State) : Host.Outcome State Fault Refusal :=
  runInstr (aluAcc aluOr (zimm8 imm) 8) s

/-- OR eAX, imm (R622). -/
def execOrEaxImm (imm : BitVec 32) (s : State) : Host.Outcome State Fault Refusal :=
  runInstr (atOs (aluAcc aluOr (zimm imm))) s

/-- OR r/m8, imm8 (R622). -/
def execOrRm8Imm8 (rm : RM) (imm : BitVec 8) (s : State) : Host.Outcome State Fault Refusal :=
  runInstr (aluRmImm aluOr rm (zimm8 imm) 8) s

/-- OR r/m, imm (R622). -/
def execOrRmImm (rm : RM) (imm : BitVec 32) (s : State) : Host.Outcome State Fault Refusal :=
  runInstr (atOs (aluRmImm aluOr rm (zimm imm))) s

/-- OR r/m, sext(imm8) (R622). -/
def execOrRmSImm8 (rm : RM) (imm : BitVec 8) (s : State) : Host.Outcome State Fault Refusal :=
  runInstr (atOs (aluRmImm aluOr rm (simm8 imm))) s

/-- XOR r/m8, r8 (R623). -/
def execXorRm8R8 (rm : RM) (r : Reg) (s : State) : Host.Outcome State Fault Refusal :=
  runInstr (aluRmR aluXor rm r 8) s

/-- XOR r/m, r (R623). -/
def execXorRmR (rm : RM) (r : Reg) (s : State) : Host.Outcome State Fault Refusal :=
  runInstr (atOs (aluRmR aluXor rm r)) s

/-- XOR r8, r/m8 (R623). -/
def execXorR8Rm8 (rm : RM) (r : Reg) (s : State) : Host.Outcome State Fault Refusal :=
  runInstr (aluRRm aluXor rm r 8) s

/-- XOR r, r/m (R623). -/
def execXorRRm (rm : RM) (r : Reg) (s : State) : Host.Outcome State Fault Refusal :=
  runInstr (atOs (aluRRm aluXor rm r)) s

/-- XOR AL, imm8 (R623). -/
def execXorAlImm8 (imm : BitVec 8) (s : State) : Host.Outcome State Fault Refusal :=
  runInstr (aluAcc aluXor (zimm8 imm) 8) s

/-- XOR eAX, imm (R623). -/
def execXorEaxImm (imm : BitVec 32) (s : State) : Host.Outcome State Fault Refusal :=
  runInstr (atOs (aluAcc aluXor (zimm imm))) s

/-- XOR r/m8, imm8 (R623). -/
def execXorRm8Imm8 (rm : RM) (imm : BitVec 8) (s : State) : Host.Outcome State Fault Refusal :=
  runInstr (aluRmImm aluXor rm (zimm8 imm) 8) s

/-- XOR r/m, imm (R623). -/
def execXorRmImm (rm : RM) (imm : BitVec 32) (s : State) : Host.Outcome State Fault Refusal :=
  runInstr (atOs (aluRmImm aluXor rm (zimm imm))) s

/-- XOR r/m, sext(imm8) (R623). -/
def execXorRmSImm8 (rm : RM) (imm : BitVec 8) (s : State) : Host.Outcome State Fault Refusal :=
  runInstr (atOs (aluRmImm aluXor rm (simm8 imm))) s

/-- NOT r/m8 (R624). -/
def execNotRm8 (rm : RM) (s : State) : Host.Outcome State Fault Refusal :=
  runInstr (invert rm 8) s

/-- NOT r/m (R624). -/
def execNotRm (rm : RM) (s : State) : Host.Outcome State Fault Refusal :=
  runInstr (atOs (invert rm)) s

/-- TEST r/m8, r8 (R625). -/
def execTestRm8R8 (rm : RM) (r : Reg) (s : State) : Host.Outcome State Fault Refusal :=
  runInstr (cmpRmR aluTest rm r 8) s

/-- TEST r/m, r (R625). -/
def execTestRmR (rm : RM) (r : Reg) (s : State) : Host.Outcome State Fault Refusal :=
  runInstr (atOs (cmpRmR aluTest rm r)) s

/-- TEST AL, imm8 (R625). -/
def execTestAlImm8 (imm : BitVec 8) (s : State) : Host.Outcome State Fault Refusal :=
  runInstr (cmpAcc aluTest (zimm8 imm) 8) s

/-- TEST eAX, imm (R625). -/
def execTestEaxImm (imm : BitVec 32) (s : State) : Host.Outcome State Fault Refusal :=
  runInstr (atOs (cmpAcc aluTest (zimm imm))) s

/-- TEST r/m8, imm8 (R625). -/
def execTestRm8Imm8 (rm : RM) (imm : BitVec 8) (s : State) : Host.Outcome State Fault Refusal :=
  runInstr (cmpRmImm aluTest rm (zimm8 imm) 8) s

/-- TEST r/m, imm (R625). -/
def execTestRmImm (rm : RM) (imm : BitVec 32) (s : State) : Host.Outcome State Fault Refusal :=
  runInstr (atOs (cmpRmImm aluTest rm (zimm imm))) s

/-- ROL r/m8, 1 (R636). -/
def execRolRm8One (rm : RM) (s : State) : Host.Outcome State Fault Refusal :=
  runInstr (shiftRM rolOp rm .one 8) s

/-- ROL r/m, 1 (R636). -/
def execRolRmOne (rm : RM) (s : State) : Host.Outcome State Fault Refusal :=
  runInstr (atOs (shiftRM rolOp rm .one)) s

/-- ROL r/m8, CL (R636). -/
def execRolRm8Cl (rm : RM) (s : State) : Host.Outcome State Fault Refusal :=
  runInstr (shiftRM rolOp rm .cl 8) s

/-- ROL r/m, CL (R636). -/
def execRolRmCl (rm : RM) (s : State) : Host.Outcome State Fault Refusal :=
  runInstr (atOs (shiftRM rolOp rm .cl)) s

/-- ROL r/m8, imm8 (R636). -/
def execRolRm8Imm8 (rm : RM) (imm : BitVec 8) (s : State) : Host.Outcome State Fault Refusal :=
  runInstr (shiftRM rolOp rm (.imm imm) 8) s

/-- ROL r/m, imm8 (R636). -/
def execRolRmImm8 (rm : RM) (imm : BitVec 8) (s : State) : Host.Outcome State Fault Refusal :=
  runInstr (atOs (shiftRM rolOp rm (.imm imm))) s

/-- ROR r/m8, 1 (R637). -/
def execRorRm8One (rm : RM) (s : State) : Host.Outcome State Fault Refusal :=
  runInstr (shiftRM rorOp rm .one 8) s

/-- ROR r/m, 1 (R637). -/
def execRorRmOne (rm : RM) (s : State) : Host.Outcome State Fault Refusal :=
  runInstr (atOs (shiftRM rorOp rm .one)) s

/-- ROR r/m8, CL (R637). -/
def execRorRm8Cl (rm : RM) (s : State) : Host.Outcome State Fault Refusal :=
  runInstr (shiftRM rorOp rm .cl 8) s

/-- ROR r/m, CL (R637). -/
def execRorRmCl (rm : RM) (s : State) : Host.Outcome State Fault Refusal :=
  runInstr (atOs (shiftRM rorOp rm .cl)) s

/-- ROR r/m8, imm8 (R637). -/
def execRorRm8Imm8 (rm : RM) (imm : BitVec 8) (s : State) : Host.Outcome State Fault Refusal :=
  runInstr (shiftRM rorOp rm (.imm imm) 8) s

/-- ROR r/m, imm8 (R637). -/
def execRorRmImm8 (rm : RM) (imm : BitVec 8) (s : State) : Host.Outcome State Fault Refusal :=
  runInstr (atOs (shiftRM rorOp rm (.imm imm))) s

/-- RCL r/m8, 1 (R638). -/
def execRclRm8One (rm : RM) (s : State) : Host.Outcome State Fault Refusal :=
  runInstr (shiftRM rclOp rm .one 8) s

/-- RCL r/m, 1 (R638). -/
def execRclRmOne (rm : RM) (s : State) : Host.Outcome State Fault Refusal :=
  runInstr (atOs (shiftRM rclOp rm .one)) s

/-- RCL r/m8, CL (R638). -/
def execRclRm8Cl (rm : RM) (s : State) : Host.Outcome State Fault Refusal :=
  runInstr (shiftRM rclOp rm .cl 8) s

/-- RCL r/m, CL (R638). -/
def execRclRmCl (rm : RM) (s : State) : Host.Outcome State Fault Refusal :=
  runInstr (atOs (shiftRM rclOp rm .cl)) s

/-- RCL r/m8, imm8 (R638). -/
def execRclRm8Imm8 (rm : RM) (imm : BitVec 8) (s : State) : Host.Outcome State Fault Refusal :=
  runInstr (shiftRM rclOp rm (.imm imm) 8) s

/-- RCL r/m, imm8 (R638). -/
def execRclRmImm8 (rm : RM) (imm : BitVec 8) (s : State) : Host.Outcome State Fault Refusal :=
  runInstr (atOs (shiftRM rclOp rm (.imm imm))) s

/-- RCR r/m8, 1 (R639). -/
def execRcrRm8One (rm : RM) (s : State) : Host.Outcome State Fault Refusal :=
  runInstr (shiftRM rcrOp rm .one 8) s

/-- RCR r/m, 1 (R639). -/
def execRcrRmOne (rm : RM) (s : State) : Host.Outcome State Fault Refusal :=
  runInstr (atOs (shiftRM rcrOp rm .one)) s

/-- RCR r/m8, CL (R639). -/
def execRcrRm8Cl (rm : RM) (s : State) : Host.Outcome State Fault Refusal :=
  runInstr (shiftRM rcrOp rm .cl 8) s

/-- RCR r/m, CL (R639). -/
def execRcrRmCl (rm : RM) (s : State) : Host.Outcome State Fault Refusal :=
  runInstr (atOs (shiftRM rcrOp rm .cl)) s

/-- RCR r/m8, imm8 (R639). -/
def execRcrRm8Imm8 (rm : RM) (imm : BitVec 8) (s : State) : Host.Outcome State Fault Refusal :=
  runInstr (shiftRM rcrOp rm (.imm imm) 8) s

/-- RCR r/m, imm8 (R639). -/
def execRcrRmImm8 (rm : RM) (imm : BitVec 8) (s : State) : Host.Outcome State Fault Refusal :=
  runInstr (atOs (shiftRM rcrOp rm (.imm imm))) s

/-- SHL/SAL r/m8, 1 (R631). -/
def execShlRm8One (rm : RM) (s : State) : Host.Outcome State Fault Refusal :=
  runInstr (shiftRM shlOp rm .one 8) s

/-- SHL/SAL r/m, 1 (R631). -/
def execShlRmOne (rm : RM) (s : State) : Host.Outcome State Fault Refusal :=
  runInstr (atOs (shiftRM shlOp rm .one)) s

/-- SHL/SAL r/m8, CL (R631). -/
def execShlRm8Cl (rm : RM) (s : State) : Host.Outcome State Fault Refusal :=
  runInstr (shiftRM shlOp rm .cl 8) s

/-- SHL/SAL r/m, CL (R631). -/
def execShlRmCl (rm : RM) (s : State) : Host.Outcome State Fault Refusal :=
  runInstr (atOs (shiftRM shlOp rm .cl)) s

/-- SHL/SAL r/m8, imm8 (R631). -/
def execShlRm8Imm8 (rm : RM) (imm : BitVec 8) (s : State) : Host.Outcome State Fault Refusal :=
  runInstr (shiftRM shlOp rm (.imm imm) 8) s

/-- SHL/SAL r/m, imm8 (R631). -/
def execShlRmImm8 (rm : RM) (imm : BitVec 8) (s : State) : Host.Outcome State Fault Refusal :=
  runInstr (atOs (shiftRM shlOp rm (.imm imm))) s

/-- SHR r/m8, 1 (R632). -/
def execShrRm8One (rm : RM) (s : State) : Host.Outcome State Fault Refusal :=
  runInstr (shiftRM shrOp rm .one 8) s

/-- SHR r/m, 1 (R632). -/
def execShrRmOne (rm : RM) (s : State) : Host.Outcome State Fault Refusal :=
  runInstr (atOs (shiftRM shrOp rm .one)) s

/-- SHR r/m8, CL (R632). -/
def execShrRm8Cl (rm : RM) (s : State) : Host.Outcome State Fault Refusal :=
  runInstr (shiftRM shrOp rm .cl 8) s

/-- SHR r/m, CL (R632). -/
def execShrRmCl (rm : RM) (s : State) : Host.Outcome State Fault Refusal :=
  runInstr (atOs (shiftRM shrOp rm .cl)) s

/-- SHR r/m8, imm8 (R632). -/
def execShrRm8Imm8 (rm : RM) (imm : BitVec 8) (s : State) : Host.Outcome State Fault Refusal :=
  runInstr (shiftRM shrOp rm (.imm imm) 8) s

/-- SHR r/m, imm8 (R632). -/
def execShrRmImm8 (rm : RM) (imm : BitVec 8) (s : State) : Host.Outcome State Fault Refusal :=
  runInstr (atOs (shiftRM shrOp rm (.imm imm))) s

/-- SAR r/m8, 1 (R633). -/
def execSarRm8One (rm : RM) (s : State) : Host.Outcome State Fault Refusal :=
  runInstr (shiftRM sarOp rm .one 8) s

/-- SAR r/m, 1 (R633). -/
def execSarRmOne (rm : RM) (s : State) : Host.Outcome State Fault Refusal :=
  runInstr (atOs (shiftRM sarOp rm .one)) s

/-- SAR r/m8, CL (R633). -/
def execSarRm8Cl (rm : RM) (s : State) : Host.Outcome State Fault Refusal :=
  runInstr (shiftRM sarOp rm .cl 8) s

/-- SAR r/m, CL (R633). -/
def execSarRmCl (rm : RM) (s : State) : Host.Outcome State Fault Refusal :=
  runInstr (atOs (shiftRM sarOp rm .cl)) s

/-- SAR r/m8, imm8 (R633). -/
def execSarRm8Imm8 (rm : RM) (imm : BitVec 8) (s : State) : Host.Outcome State Fault Refusal :=
  runInstr (shiftRM sarOp rm (.imm imm) 8) s

/-- SAR r/m, imm8 (R633). -/
def execSarRmImm8 (rm : RM) (imm : BitVec 8) (s : State) : Host.Outcome State Fault Refusal :=
  runInstr (atOs (shiftRM sarOp rm (.imm imm))) s

/-- SHLD r/m, r, imm8 (R634). -/
def execShldRmRImm8 (rm : RM) (r : Reg) (imm : BitVec 8) (s : State) : Host.Outcome State Fault Refusal :=
  runInstr (atOs (doubleShift shldFn rm r (.imm imm))) s

/-- SHLD r/m, r, CL (R634). -/
def execShldRmRCl (rm : RM) (r : Reg) (s : State) : Host.Outcome State Fault Refusal :=
  runInstr (atOs (doubleShift shldFn rm r .cl)) s

/-- SHRD r/m, r, imm8 (R635). -/
def execShrdRmRImm8 (rm : RM) (r : Reg) (imm : BitVec 8) (s : State) : Host.Outcome State Fault Refusal :=
  runInstr (atOs (doubleShift shrdFn rm r (.imm imm))) s

/-- SHRD r/m, r, CL (R635). -/
def execShrdRmRCl (rm : RM) (r : Reg) (s : State) : Host.Outcome State Fault Refusal :=
  runInstr (atOs (doubleShift shrdFn rm r .cl)) s

/-- BT r/m, r (R661). -/
def execBtRmR (rm : RM) (r : Reg) (s : State) : Host.Outcome State Fault Refusal :=
  runInstr (atOs (bitByReg btOp rm r)) s

/-- BT r/m, imm8 (R661). -/
def execBtRmImm8 (rm : RM) (imm : BitVec 8) (s : State) : Host.Outcome State Fault Refusal :=
  runInstr (atOs (bitByImm btOp rm imm)) s

/-- BTS r/m, r (R662). -/
def execBtsRmR (rm : RM) (r : Reg) (s : State) : Host.Outcome State Fault Refusal :=
  runInstr (atOs (bitByReg btsOp rm r)) s

/-- BTS r/m, imm8 (R662). -/
def execBtsRmImm8 (rm : RM) (imm : BitVec 8) (s : State) : Host.Outcome State Fault Refusal :=
  runInstr (atOs (bitByImm btsOp rm imm)) s

/-- BTR r/m, r (R663). -/
def execBtrRmR (rm : RM) (r : Reg) (s : State) : Host.Outcome State Fault Refusal :=
  runInstr (atOs (bitByReg btrOp rm r)) s

/-- BTR r/m, imm8 (R663). -/
def execBtrRmImm8 (rm : RM) (imm : BitVec 8) (s : State) : Host.Outcome State Fault Refusal :=
  runInstr (atOs (bitByImm btrOp rm imm)) s

/-- BTC r/m, r (R664). -/
def execBtcRmR (rm : RM) (r : Reg) (s : State) : Host.Outcome State Fault Refusal :=
  runInstr (atOs (bitByReg btcOp rm r)) s

/-- BTC r/m, imm8 (R664). -/
def execBtcRmImm8 (rm : RM) (imm : BitVec 8) (s : State) : Host.Outcome State Fault Refusal :=
  runInstr (atOs (bitByImm btcOp rm imm)) s

/-- BSF r, r/m (R665). -/
def execBsfRRm (rm : RM) (r : Reg) (s : State) : Host.Outcome State Fault Refusal :=
  runInstr (atOs (bitScan scanForward rm r)) s

/-- BSR r, r/m (R666). -/
def execBsrRRm (rm : RM) (r : Reg) (s : State) : Host.Outcome State Fault Refusal :=
  runInstr (atOs (bitScan scanReverse rm r)) s

/-- SETcc r/m8 (R670). -/
def execSetccRm8 (cc : Cond) (rm : RM) (s : State) : Host.Outcome State Fault Refusal :=
  runInstr (do
    let s ← get
    writeRM 8 rm (if Cond.holds s.flags cc then 1 else 0)) s

end Sys2Proof.Machine
end

