-- ==== Sys2Proof/Machine/Data.lean ====
section
/-! DEFINITION. Data movement (40_data_movement.md). -/

namespace Sys2Proof.Machine

open Sys2Proof

/-- MOV to an r/m operand (R509). -/
def movTo (rm : RM) (v : (w : Nat) → M (BitVec w)) (w : Nat) : M Unit := do
  let x ← v w
  writeRM w rm x

/-- MOV to a register (R509). -/
def movFrom (rm : RM) (r : Reg) (w : Nat) : M Unit := do
  let v ← readRM w rm
  writeReg w r v

/-- MOV from a memory offset to the accumulator (R510). -/
def loadAcc (off : Word) (w : Nat) : M Unit := do
  let s ← get
  let v ← memRead s.as (s.segOr .ds) off (w / 8)
  writeReg w acc (BitVec.ofNat w v)

/-- MOV from the accumulator to a memory offset (R510). -/
def storeAcc (off : Word) (w : Nat) : M Unit := do
  let s ← get
  let v ← readReg w acc
  memWrite s.as (s.segOr .ds) off (w / 8) v.toNat

/-- After a load of SS by MOV or POP, events wait for one instruction (60_exceptions.md R1206). -/
def shadowSs (sr : SReg) : M Unit :=
  if sr = .ss then modifyCur fun c => { c with setSsShadow := true } else pure ()

/-- XCHG of an r/m operand with a register (R513). -/
def exchange (rm : RM) (r : Reg) (w : Nat) : M Unit := do
  let p ← locate w rm .rw
  let t ← p.get w
  let v ← readReg w r
  p.put w v
  writeReg w r t

/-- XCHG of the accumulator with a register (R513). -/
def exchangeAcc (r : Reg) (w : Nat) : M Unit := do
  let t ← readReg w acc
  let v ← readReg w r
  writeReg w acc v
  writeReg w r t

/-- PUSH of a value of `w` bits (R504). -/
def pushVal (v : (w : Nat) → M (BitVec w)) (w : Nat) : M Unit := do
  let x ← v w
  push (w / 8) x.toNat

/-- PUSH of a segment register, zero-extended to the operand size (R503). -/
def pushSeg (sr : SReg) (w : Nat) : M Unit := do
  let s ← get
  push (w / 8) (s.segs.get sr).sel.toNat

/-- POP to an r/m operand: its address is computed after the increment (R505). -/
def popTo (rm : RM) (w : Nat) : M Unit := do
  let v ← pop (w / 8)
  writeRM w rm (BitVec.ofNat w v)

/-- Set (E)SP at a given stack address size (10_state.md R108). -/
def setSpAs (sz : Size) (v : Word) : M Unit :=
  modify fun s =>
    match sz with
    | .s32 => { s with regs := { s.regs with esp := v } }
    | .s16 => { s with regs := { s.regs with esp := mergeLow16 s.regs.esp (v.setWidth 16) } }

/-- POP of a segment register: the increment uses the stack size in force before the load (R508). -/
def popSeg (sr : SReg) (w : Nat) : M Unit := do
  let s ← get
  let v ← peek 0 (w / 8)
  loadSeg sr (BitVec.ofNat 16 v)
  setSpAs s.ss (wrapSp s.ss (s.spOff + BitVec.ofNat 32 (w / 8)))
  shadowSs sr

/-- PUSHA (R506): the whole range is checked before the first write (D72). -/
def pushAll (w : Nat) : M Unit := do
  let s ← get
  let v (r : Reg) : Nat := (s.regs.read w r).toNat
  pushList (w / 8) [v .eax, v .ecx, v .edx, v .ebx, v .esp, v .ebp, v .esi, v .edi]

/-- Stack slots from slot `i` up, lowest first, read without popping (R507, D72). -/
def peekSlots (w : Nat) : Nat → Nat → M (List (BitVec w))
  | 0, _ => pure []
  | n + 1, i => do
    let v ← peek (BitVec.ofNat 32 (w / 8 * i)) (w / 8)
    let rest ← peekSlots w n (i + 1)
    pure (BitVec.ofNat w v :: rest)

/-- Write a list of values to a list of registers. -/
def writeRegs (w : Nat) : List Reg → List (BitVec w) → M Unit
  | r :: rs, v :: vs => do
    writeReg w r v
    writeRegs w rs vs
  | _, _ => pure ()

/-- A stack slot that is checked and not read: `n` bytes, `k` bytes above (E)SP (R507). -/
def checkSlot (k : Word) (n : Nat) : M Unit := do
  let s ← get
  let _ ← checkIf s.ss .ss (wrapSp s.ss (s.spOff + k)) n (fun lin => lin % n == 0) .r
  pure ()

/-- POPA (R507): the slot of the saved (E)SP is checked with the others and ignored. -/
def popAll (w : Nat) : M Unit := do
  let low ← peekSlots w 3 0
  checkSlot (BitVec.ofNat 32 (w / 8 * 3)) (w / 8)
  let high ← peekSlots w 4 4
  writeRegs w [.edi, .esi, .ebp] low
  writeRegs w [.ebx, .edx, .ecx, .eax] high
  addSp (BitVec.ofNat 32 (w / 8 * 8))

/-- MOVSX and MOVZX from `n` bits (R517, R518). -/
def extend (f : (w : Nat) → {n : Nat} → BitVec n → BitVec w) (n : Nat) (rm : RM) (r : Reg) (w : Nat) : M Unit := do
  let v ← readRM n rm
  writeReg w r (f w v)

/-- Sign extension (R517). -/
def signExt (w : Nat) {n : Nat} (v : BitVec n) : BitVec w := v.signExtend w
/-- Zero extension (R518). -/
def zeroExt (w : Nat) {n : Nat} (v : BitVec n) : BitVec w := v.setWidth w

/-- The bytes of a doubleword reversed (R512). -/
def swapBytes (v : Word) : Word :=
  ((v.extractLsb' 0 8 ++ v.extractLsb' 8 8 : BitVec 16) ++ v.extractLsb' 16 8 : BitVec 24) ++ v.extractLsb' 24 8

/-- XADD (R514): the destination is written last, so it wins when both operands are one register. -/
def exchangeAdd (rm : RM) (r : Reg) (w : Nat) : M Unit := do
  let p ← locate w rm .rw
  let d ← p.get w
  let v ← readReg w r
  modifyFlags fun f => f.add d v false
  writeReg w r d
  p.put w (d + v)

/-- CMPXCHG (R515): on a mismatch a memory destination is written back. -/
def compareExchange (rm : RM) (r : Reg) (w : Nat) : M Unit := do
  let p ← locate w rm .rw
  let d ← p.get w
  let a ← readReg w acc
  let v ← readReg w r
  modifyFlags fun f => f.sub a d false
  if a = d then p.put w v
  else
    p.put w d
    writeReg w acc d

/-- CMPXCHG8B (R516). -/
def compareExchange8 (m : MemOp) : M Unit := do
  let ps ← memAccess m 8 8 .rw
  let v ← load ps
  let d : BitVec 64 := BitVec.ofNat 64 v
  let s ← get
  let hit := d == s.regs.edx ++ s.regs.eax
  modifyFlags fun f => { f with zf := hit }
  if hit then store ps (s.regs.ecx ++ s.regs.ebx).toNat
  else
    store ps d.toNat
    writeReg 32 .edx (d.extractLsb' 32 32)
    writeReg 32 .eax (d.extractLsb' 0 32)

/-- The alignment of a far pointer in memory: a 32-bit segmented pointer 2, a 48-bit one 4 (23_protection.md R335). -/
def farAlign (w : Nat) : Nat := if w = 16 then 2 else 4

/-- MemRead of the `n` bytes that lie `k` bytes above a memory operand. An operand that runs past the last offset of the address size is beyond
the limit: offsets do not wrap inside an operand (20_memory.md R211, 23_protection.md R330, D16). -/
def readAbove (m : MemOp) (k n : Nat) : M Nat := do
  let s ← get
  require (decide ((s.eaOff m).toNat + k + n ≤ 2 ^ s.as.bits)) (segFault (s.eaSeg m))
  memRead s.as (s.eaSeg m) (s.eaOff m + BitVec.ofNat 32 k) n

/-- A far pointer in memory: the offset is read first, then the selector above it (R520, 20_memory.md R203). -/
def readFar (m : MemOp) (w : Nat) : M (Half × Word) := do
  let off ← readMem m (w / 8) (farAlign w)
  let sel ← readAbove m (w / 8) 2
  pure (BitVec.ofNat 16 sel, BitVec.ofNat 32 off)

/-- LDS, LES, LFS, LGS, LSS (R520). -/
def loadFar (sr : SReg) (m : MemOp) (r : Reg) (w : Nat) : M Unit := do
  let (sel, off) ← readFar m w
  loadSeg sr sel
  writeReg w r (off.setWidth w)

/-- LEA (R521): no access is made. -/
def loadAddress (m : MemOp) (r : Reg) (w : Nat) : M Unit := do
  let s ← get
  writeReg w r ((s.eaOff m).setWidth w)

/-- MOV r/m8, r8 (R509). -/
def execMovRm8R8 (rm : RM) (r : Reg) (s : State) : Host.Outcome State Fault Refusal :=
  runInstr (movTo rm (fun w => readReg w r) 8) s

/-- MOV r/m, r (R509). -/
def execMovRmR (rm : RM) (r : Reg) (s : State) : Host.Outcome State Fault Refusal :=
  runInstr (atOs (movTo rm fun w => readReg w r)) s

/-- MOV r8, r/m8 (R509). -/
def execMovR8Rm8 (rm : RM) (r : Reg) (s : State) : Host.Outcome State Fault Refusal :=
  runInstr (movFrom rm r 8) s

/-- MOV r, r/m (R509). -/
def execMovRRm (rm : RM) (r : Reg) (s : State) : Host.Outcome State Fault Refusal :=
  runInstr (atOs (movFrom rm r)) s

/-- MOV r/m16, Sreg (R502). -/
def execMovRm16Sreg (rm : RM) (sr : SReg) (s : State) : Host.Outcome State Fault Refusal :=
  runInstr (do
    let s ← get
    let sel := (s.segs.get sr).sel
    match rm, s.os with
    | .reg r, .s32 => do
      let free ← draw 16
      writeReg 32 r (free ++ sel)
    | _, _ => writeRM 16 rm sel) s

/-- MOV Sreg, r/m16 (R501). -/
def execMovSregRm16 (rm : RM) (sr : SReg) (s : State) : Host.Outcome State Fault Refusal :=
  runInstr (do
    require (sr != .cs) ud
    let sel ← readRM 16 rm
    loadSeg sr sel
    shadowSs sr) s

/-- MOV AL, moffs8 (R510). -/
def execMovAlMoffs8 (off : BitVec 32) (s : State) : Host.Outcome State Fault Refusal :=
  runInstr (loadAcc off 8) s

/-- MOV eAX, moffs (R510). -/
def execMovEaxMoffs (off : BitVec 32) (s : State) : Host.Outcome State Fault Refusal :=
  runInstr (atOs (loadAcc off)) s

/-- MOV moffs8, AL (R510). -/
def execMovMoffs8Al (off : BitVec 32) (s : State) : Host.Outcome State Fault Refusal :=
  runInstr (storeAcc off 8) s

/-- MOV moffs, eAX (R510). -/
def execMovMoffsEax (off : BitVec 32) (s : State) : Host.Outcome State Fault Refusal :=
  runInstr (atOs (storeAcc off)) s

/-- MOV r8, imm8 (R509). -/
def execMovR8Imm8 (r : Reg) (imm : BitVec 8) (s : State) : Host.Outcome State Fault Refusal :=
  runInstr (writeReg 8 r imm) s

/-- MOV r, imm (R509). -/
def execMovRImm (r : Reg) (imm : BitVec 32) (s : State) : Host.Outcome State Fault Refusal :=
  runInstr (atOs fun w => writeReg w r (imm.setWidth w)) s

/-- MOV r/m8, imm8 (R509). -/
def execMovRm8Imm8 (rm : RM) (imm : BitVec 8) (s : State) : Host.Outcome State Fault Refusal :=
  runInstr (movTo rm (fun w => pure (imm.setWidth w)) 8) s

/-- MOV r/m, imm (R509). -/
def execMovRmImm (rm : RM) (imm : BitVec 32) (s : State) : Host.Outcome State Fault Refusal :=
  runInstr (atOs (movTo rm fun w => pure (imm.setWidth w))) s

/-- XCHG r/m8, r8 (R513). -/
def execXchgRm8R8 (rm : RM) (r : Reg) (s : State) : Host.Outcome State Fault Refusal :=
  runInstr (exchange rm r 8) s

/-- XCHG r/m, r (R513). -/
def execXchgRmR (rm : RM) (r : Reg) (s : State) : Host.Outcome State Fault Refusal :=
  runInstr (atOs (exchange rm r)) s

/-- XCHG eAX, r (R513). -/
def execXchgEaxR (r : Reg) (s : State) : Host.Outcome State Fault Refusal :=
  runInstr (atOs (exchangeAcc r)) s

/-- NOP (R860). -/
def execNop (s : State) : Host.Outcome State Fault Refusal :=
  runInstr (pure ()) s

/-- PUSH r (R504). -/
def execPushR (r : Reg) (s : State) : Host.Outcome State Fault Refusal :=
  runInstr (atOs (pushVal fun w => readReg w r)) s

/-- PUSH r/m (R504). -/
def execPushRm (rm : RM) (s : State) : Host.Outcome State Fault Refusal :=
  runInstr (atOs (pushVal fun w => readRM w rm)) s

/-- PUSH imm (R504). -/
def execPushImm (imm : BitVec 32) (s : State) : Host.Outcome State Fault Refusal :=
  runInstr (atOs (pushVal fun w => pure (imm.setWidth w))) s

/-- PUSH sext(imm8) (R504). -/
def execPushSImm8 (imm : BitVec 8) (s : State) : Host.Outcome State Fault Refusal :=
  runInstr (atOs (pushVal fun w => pure (imm.signExtend w))) s

/-- PUSH ES (R503). -/
def execPushEs (s : State) : Host.Outcome State Fault Refusal :=
  runInstr (atOs (pushSeg .es)) s

/-- PUSH CS (R503). -/
def execPushCs (s : State) : Host.Outcome State Fault Refusal :=
  runInstr (atOs (pushSeg .cs)) s

/-- PUSH SS (R503). -/
def execPushSs (s : State) : Host.Outcome State Fault Refusal :=
  runInstr (atOs (pushSeg .ss)) s

/-- PUSH DS (R503). -/
def execPushDs (s : State) : Host.Outcome State Fault Refusal :=
  runInstr (atOs (pushSeg .ds)) s

/-- PUSH FS (R503). -/
def execPushFs (s : State) : Host.Outcome State Fault Refusal :=
  runInstr (atOs (pushSeg .fs)) s

/-- PUSH GS (R503). -/
def execPushGs (s : State) : Host.Outcome State Fault Refusal :=
  runInstr (atOs (pushSeg .gs)) s

/-- POP r (R505). -/
def execPopR (r : Reg) (s : State) : Host.Outcome State Fault Refusal :=
  runInstr (atOs (popTo (.reg r))) s

/-- POP r/m (R505). -/
def execPopRm (rm : RM) (s : State) : Host.Outcome State Fault Refusal :=
  runInstr (atOs (popTo rm)) s

/-- POP ES (R508). -/
def execPopEs (s : State) : Host.Outcome State Fault Refusal :=
  runInstr (atOs (popSeg .es)) s

/-- POP SS (R508). -/
def execPopSs (s : State) : Host.Outcome State Fault Refusal :=
  runInstr (atOs (popSeg .ss)) s

/-- POP DS (R508). -/
def execPopDs (s : State) : Host.Outcome State Fault Refusal :=
  runInstr (atOs (popSeg .ds)) s

/-- POP FS (R508). -/
def execPopFs (s : State) : Host.Outcome State Fault Refusal :=
  runInstr (atOs (popSeg .fs)) s

/-- POP GS (R508). -/
def execPopGs (s : State) : Host.Outcome State Fault Refusal :=
  runInstr (atOs (popSeg .gs)) s

/-- PUSHA/PUSHAD (R506). -/
def execPusha (s : State) : Host.Outcome State Fault Refusal :=
  runInstr (atOs pushAll) s

/-- POPA/POPAD (R507). -/
def execPopa (s : State) : Host.Outcome State Fault Refusal :=
  runInstr (atOs popAll) s

/-- CBW/CWDE (R519). -/
def execCbw (s : State) : Host.Outcome State Fault Refusal :=
  runInstr (atOs fun w => do
    let v ← readReg (w / 2) acc
    writeReg w acc (v.signExtend w)) s

/-- CWD/CDQ (R522). -/
def execCwd (s : State) : Host.Outcome State Fault Refusal :=
  runInstr (atOs fun w => do
    let v ← readReg w acc
    writeReg w .edx (if v.msb then BitVec.allOnes w else 0)) s

/-- MOVSX r, r/m8 (R517). -/
def execMovsxRRm8 (rm : RM) (r : Reg) (s : State) : Host.Outcome State Fault Refusal :=
  runInstr (atOs (extend signExt 8 rm r)) s

/-- MOVSX r32, r/m16 (R517). -/
def execMovsxR32Rm16 (rm : RM) (r : Reg) (s : State) : Host.Outcome State Fault Refusal :=
  runInstr (atOs (extend signExt 16 rm r)) s

/-- MOVZX r, r/m8 (R518). -/
def execMovzxRRm8 (rm : RM) (r : Reg) (s : State) : Host.Outcome State Fault Refusal :=
  runInstr (atOs (extend zeroExt 8 rm r)) s

/-- MOVZX r32, r/m16 (R518). -/
def execMovzxR32Rm16 (rm : RM) (r : Reg) (s : State) : Host.Outcome State Fault Refusal :=
  runInstr (atOs (extend zeroExt 16 rm r)) s

/-- BSWAP r32 (R512). -/
def execBswapR32 (r : Reg) (s : State) : Host.Outcome State Fault Refusal :=
  runInstr (do
    let s ← get
    match s.os with
    | .s32 => writeReg 32 r (swapBytes (s.regs.get r))
    | .s16 => do
      let free ← draw 16
      writeReg 16 r free) s

/-- XADD r/m8, r8 (R514). -/
def execXaddRm8R8 (rm : RM) (r : Reg) (s : State) : Host.Outcome State Fault Refusal :=
  runInstr (exchangeAdd rm r 8) s

/-- XADD r/m, r (R514). -/
def execXaddRmR (rm : RM) (r : Reg) (s : State) : Host.Outcome State Fault Refusal :=
  runInstr (atOs (exchangeAdd rm r)) s

/-- CMPXCHG r/m8, r8 (R515). -/
def execCmpxchgRm8R8 (rm : RM) (r : Reg) (s : State) : Host.Outcome State Fault Refusal :=
  runInstr (compareExchange rm r 8) s

/-- CMPXCHG r/m, r (R515). -/
def execCmpxchgRmR (rm : RM) (r : Reg) (s : State) : Host.Outcome State Fault Refusal :=
  runInstr (atOs (compareExchange rm r)) s

/-- CMPXCHG8B m64 (R516). -/
def execCmpxchg8bM64 (m : MemOp) (s : State) : Host.Outcome State Fault Refusal :=
  runInstr (compareExchange8 m) s

/-- LDS r, m16:16/32 (R520). -/
def execLdsRFar (m : MemOp) (r : Reg) (s : State) : Host.Outcome State Fault Refusal :=
  runInstr (atOs (loadFar .ds m r)) s

/-- LES r, m16:16/32 (R520). -/
def execLesRFar (m : MemOp) (r : Reg) (s : State) : Host.Outcome State Fault Refusal :=
  runInstr (atOs (loadFar .es m r)) s

/-- LSS r, m16:16/32 (R520). -/
def execLssRFar (m : MemOp) (r : Reg) (s : State) : Host.Outcome State Fault Refusal :=
  runInstr (atOs (loadFar .ss m r)) s

/-- LFS r, m16:16/32 (R520). -/
def execLfsRFar (m : MemOp) (r : Reg) (s : State) : Host.Outcome State Fault Refusal :=
  runInstr (atOs (loadFar .fs m r)) s

/-- LGS r, m16:16/32 (R520). -/
def execLgsRFar (m : MemOp) (r : Reg) (s : State) : Host.Outcome State Fault Refusal :=
  runInstr (atOs (loadFar .gs m r)) s

/-- LEA r, m (R521). -/
def execLeaRM (m : MemOp) (r : Reg) (s : State) : Host.Outcome State Fault Refusal :=
  runInstr (atOs (loadAddress m r)) s

/-- XLAT/XLATB (R861). -/
def execXlat (s : State) : Host.Outcome State Fault Refusal :=
  runInstr (do
    let s ← get
    let base := s.regs.ebx + (s.al).setWidth 32
    let off := match s.as with
      | .s16 => base &&& 0xFFFF
      | .s32 => base
    let v ← memRead s.as (s.segOr .ds) off 1
    writeReg 8 .eax (BitVec.ofNat 8 v)) s

end Sys2Proof.Machine
end

