-- ==== Sys2Proof/Machine/FlagOps.lean ====
section
/-! DEFINITION. Flag control, flag transfer and CPUID (45_flag_segment_misc.md). -/

namespace Sys2Proof.Machine

open Sys2Proof

/-- IF, as far as CLI and STI may change it: `#GP(0)` without the privilege (R810, R811). -/
def setIf (v : Bool) : M Unit := do
  let s ← get
  require s.iopOk (gp 0)
  modifyFlags fun f => { f with ifl := v }

/-- PUSHF, POPF, INT n and IRET in virtual-8086 mode need IOPL 3 (62_v86.md R1410). -/
def v86Iopl : M Unit := do
  let s ← get
  require (!s.v86 || s.flags.iopl == 3) (gp 0)

/-- What POPF makes of the flags (R820): `lvl` is the level in force, `v86` and `wide` the mode and operand size. -/
def popfFlags (lvl : BitVec 2) (v86 wide : Bool) (old new : Flags) : Flags :=
  { old with
    cf := new.cf, pf := new.pf, af := new.af, zf := new.zf, sf := new.sf, tf := new.tf, df := new.df, of := new.of, nt := new.nt
    iopl := if lvl == 0 && !v86 then new.iopl else old.iopl
    ifl := if !old.iopl.ult lvl then new.ifl else old.ifl
    ac := if wide then new.ac else old.ac
    id := if wide then new.id else old.id }

/-- The byte LAHF makes: bits 5, 3, 1 read 0, 0, 1 (R815, D75). -/
def Flags.ah (f : Flags) : Byte := (f.word.extractLsb' 0 8) &&& 0xD7

/-- STC (R800). -/
def execStc (s : State) : Host.Outcome State Fault Refusal :=
  runInstr (modifyFlags fun f => { f with cf := true }) s

/-- CLC (R801). -/
def execClc (s : State) : Host.Outcome State Fault Refusal :=
  runInstr (modifyFlags fun f => { f with cf := false }) s

/-- CMC (R802). -/
def execCmc (s : State) : Host.Outcome State Fault Refusal :=
  runInstr (modifyFlags fun f => { f with cf := !f.cf }) s

/-- CLD (R803). -/
def execCld (s : State) : Host.Outcome State Fault Refusal :=
  runInstr (modifyFlags fun f => { f with df := false }) s

/-- STD (R804). -/
def execStd (s : State) : Host.Outcome State Fault Refusal :=
  runInstr (modifyFlags fun f => { f with df := true }) s

/-- CLI (R810). -/
def execCli (s : State) : Host.Outcome State Fault Refusal :=
  runInstr (setIf false) s

/-- STI (R811). -/
def execSti (s : State) : Host.Outcome State Fault Refusal :=
  runInstr (do
    let s ← get
    setIf true
    modifyCur fun c => { c with setStiShadow := !s.flags.ifl }) s

/-- LAHF (R815). -/
def execLahf (s : State) : Host.Outcome State Fault Refusal :=
  runInstr (do
    let s ← get
    writeReg 8 .esp s.flags.ah) s

/-- SAHF (R816). -/
def execSahf (s : State) : Host.Outcome State Fault Refusal :=
  runInstr (do
    let s ← get
    let a := s.ah
    modifyFlags fun f => { f with sf := bit a 7, zf := bit a 6, af := bit a 4, pf := bit a 2, cf := bit a 0 }) s

/-- PUSHF/PUSHFD (R817). -/
def execPushf (s : State) : Host.Outcome State Fault Refusal :=
  runInstr (do
    v86Iopl
    let s ← get
    push s.os.bytes (s.flags.word &&& (match s.os with
      | .s16 => 0x0000FFFF
      | .s32 => 0x00FCFFFF)).toNat) s

/-- POPF/POPFD (R820). -/
def execPopf (s : State) : Host.Outcome State Fault Refusal :=
  runInstr (do
    v86Iopl
    let s ← get
    let v ← pop s.os.bytes
    modifyFlags fun f => popfFlags s.level s.v86 (s.os == .s32) f (Flags.ofWord (BitVec.ofNat 32 v))) s

/-- CPUID (R850). -/
def execCpuid (s : State) : Host.Outcome State Fault Refusal :=
  runInstr (do
    let s ← get
    if s.regs.eax = 0 then
      modify fun s => { s with regs := { s.regs with eax := 1, ebx := 0x756E6547, edx := 0x49656E69, ecx := 0x6C65746E } }
    else if s.regs.eax = 1 then
      let b ← draw 32
      let c ← draw 32
      modify fun s => { s with regs := { s.regs with
        eax := 0x500 ||| (Config.cpuidModel.setWidth 32 <<< 4) ||| Config.cpuidStepping.setWidth 32
        ebx := b, ecx := c, edx := Config.cpuidFeatures } }
    else
      let a ← draw 32
      let b ← draw 32
      let c ← draw 32
      let d ← draw 32
      modify fun s => { s with regs := { s.regs with eax := a, ebx := b, ecx := c, edx := d } }) s

end Sys2Proof.Machine
end

