-- ==== Sys2Proof/Machine/Control.lean ====
section
/-! DEFINITION. Control transfer (43_control_transfer.md), the far transfers of protected mode (23_protection.md R312 to R326) and
the return from an exception or interrupt, IRET (R730, 62_v86.md R1416). -/

namespace Sys2Proof.Machine

open Sys2Proof

/-- A transfer target cut to the operand size (R700). -/
def cutTarget (w : Nat) (t : Word) : Word := if w = 16 then t &&& 0xFFFF else t

/-- The limit check on a near target (R700). -/
def checkNear (t : Word) : M Unit := do
  let s ← get
  require (decide (t.toNat ≤ s.segs.cs.limit.toNat)) (gp 0)

/-- Set EIP. -/
def setEip (t : Word) : M Unit := modify fun s => { s with eip := t }

/-- `pc <- t` (R700). -/
def jumpNear (t : Word) (w : Nat) : M Unit := do
  checkNear (cutTarget w t)
  setEip (cutTarget w t)

/-- A relative target: the next instruction plus the displacement (R701). -/
def relTarget (d : Word) : M Word := do
  let s ← get
  pure (s.eip + d)

/-- A displacement of `os` bits, sign-extended (R701). -/
def relDisp (rel : BitVec 32) (w : Nat) : Word := if w = 16 then (rel.setWidth 16).signExtend 32 else rel

/-- Jump by a displacement (R701). -/
def jumpRel (d : Word) (w : Nat) : M Unit := do
  let t ← relTarget d
  jumpNear t w

/-- Jump by a displacement if a condition holds (R711). -/
def jumpRelIf (c : Bool) (d : Word) (w : Nat) : M Unit := if c then jumpRel d w else pure ()

/-- CALL near (R702): the target is checked before the push. -/
def callNear (t : Word) (w : Nat) : M Unit := do
  let s ← get
  checkNear (cutTarget w t)
  push (w / 8) s.eip.toNat
  setEip (cutTarget w t)

/-- RET near (R703). -/
def retNear (n : BitVec 16) (w : Nat) : M Unit := do
  let t ← peek 0 (w / 8)
  checkNear (BitVec.ofNat 32 t)
  addSp (BitVec.ofNat 32 (w / 8) + n.setWidth 32)
  setEip (BitVec.ofNat 32 t)

/-- Load CS in real-address or virtual-8086 mode (21_segmentation.md R232, 62_v86.md R1402). -/
def setCsReal (sel : Half) : M Unit := do
  let s ← get
  setSeg .cs (if s.v86 then .ofV86 sel else s.segs.cs.ofReal sel)

/-- The offset check of real-address and virtual-8086 mode (R704). In SMM offsets up to the CS limit are legal (63_smm.md R1456). -/
def checkOffset16 (off : Word) : M Unit := do
  let s ← get
  require (decide (off.toNat ≤ if s.inSmm then s.segs.cs.limit.toNat else 0xFFFF)) (gp 0)

/-- The checks of R312 on a code segment that a far JMP or CALL names. -/
def checkCode (sel : Half) (d : Desc) : M Unit := do
  let s ← get
  require (if d.conforming then !s.cpl.ult d.dpl else d.dpl == s.cpl && !s.cpl.ult (rpl sel)) (gp (selCode sel))
  require d.p (np (selCode sel))

/-- CS from a code descriptor at the current privilege level, its Accessed bit set (R312). -/
def setCodeSeg (sel : Half) (d : Desc) : M Unit := do
  let s ← get
  setSeg .cs (d.accessed.toSeg (withRpl sel s.cpl))

/-- The load of CS from a code descriptor at the current privilege level (R312). -/
def setCode (sel : Half) (d : Desc) : M Unit := do
  setAccessed d
  setCodeSeg sel d

/-- The end of a far transfer without a change of level: limit check, the pushes of a CALL, then the load of CS:EIP (R312 from the limit
check, R315). `n` is the size of a pushed item in bytes. -/
def farSame (call : Bool) (sel : Half) (d : Desc) (off : Word) (n : Nat) : M Unit := do
  let s ← get
  require (decide (off.toNat ≤ d.limit.toNat)) (gp 0)
  if call then do
    pushLoading n 2 [] [d] (pure ()) fun slots => storeAll slots [s.segs.cs.sel.toNat, s.eip.toNat]
    setCodeSeg sel d
  else setCode sel d
  setEip off

/-- Where the parameters of a call gate are read on the old stack, the one farthest from its top first, which is copied first (R316). -/
def paramSlots (n : Nat) : Nat → M (List (List Word))
  | 0 => pure []
  | c + 1 => do
    let s ← get
    let ps ← access s.ss .ss (wrapSp s.ss (s.spOff + BitVec.ofNat 32 (n * c))) n n .r
    let rest ← paramSlots n c
    pure (ps :: rest)

/-- Copy from place to place, one item after the other. -/
def copyAll : List (List Word × List Word) → M Unit
  | [] => pure ()
  | (src, dst) :: rest => do
    let v ← load src
    store dst v
    copyAll rest

/-- CALL through a call gate to a more privileged segment (R316): the old SS and (E)SP are pushed, the parameters copied one by one, then CS and
(E)IP pushed, all after the load of the new SS and before that of CS. -/
def callInner (g : Desc) (cd : Desc) : M Unit := do
  let s ← get
  let n := if bit g.typ 3 then 4 else 2
  let pl := cd.dpl
  let (d, sel, sp) ← checkInner pl n (4 + g.gateCount.toNat)
  require (decide (g.gateOffset.toNat ≤ cd.limit.toNat)) (gp 0)
  let params ← paramSlots n g.gateCount.toNat
  switchInner pl d sel sp
  pushLoading n (4 + g.gateCount.toNat) [d] [cd] (pure ()) fun slots => do
    storeAll slots [s.segs.ss.sel.toNat, s.regs.esp.toNat]
    copyAll (params.zip (slots.drop 2))
    storeAll (slots.drop (2 + g.gateCount.toNat)) [s.segs.cs.sel.toNat, s.eip.toNat]
  setSeg .cs (cd.accessed.toSeg (withRpl g.gateSel pl))
  setEip g.gateOffset

/-- A far JMP or CALL through a call gate (R314, R315, R316). -/
def farGate (call : Bool) (gsel : Half) (g : Desc) : M Unit := do
  let s ← get
  require (!g.dpl.ult (maxPl s.cpl (rpl gsel))) (gp (selCode gsel))
  require g.p (np (selCode gsel))
  let csel := g.gateSel
  require (!isNull csel) (gp 0)
  let cd ← readDesc csel (gp (selCode csel))
  require cd.isCode (gp (selCode csel))
  require (if !call && !cd.conforming then cd.dpl == s.cpl else !s.cpl.ult cd.dpl) (gp (selCode csel))
  require cd.p (np (selCode csel))
  if call && !cd.conforming && cd.dpl.ult s.cpl then callInner g cd
  else farSame call csel cd g.gateOffset (if bit g.typ 3 then 4 else 2)

/-- A far JMP or CALL in protected mode (R312, R313, R314, 61_tasks.md R1325, R1326). -/
def farProtected (call : Bool) (sel : Half) (off : Word) (w : Nat) : M Unit := do
  let s ← get
  require (!isNull sel) (gp 0)
  let d ← readDesc sel (gp (selCode sel))
  if d.isCode then
    checkCode sel d
    farSame call sel d (cutTarget w off) (w / 8)
  else if d.s then gp (selCode sel)
  else if d.typ == 4 || d.typ == 12 then farGate call sel d
  else if d.typ == 5 then
    require (!d.dpl.ult (maxPl s.cpl (rpl sel))) (gp (selCode sel))
    require d.p (np (selCode sel))
    taskSwitch d.gateSel (if call then .call else .jmp) s.eip none
  else if (d.typ &&& 5) == 1 then
    require (!d.dpl.ult (maxPl s.cpl (rpl sel))) (gp (selCode sel))
    taskSwitch sel (if call then .call else .jmp) s.eip none
  else gp (selCode sel)

/-- Far JMP and CALL (R704, R705). -/
def farTransfer (call : Bool) (sel : Half) (off : Word) (w : Nat) : M Unit := do
  let s ← get
  if s.prot then farProtected call sel off w
  else
    checkOffset16 (cutTarget w off)
    if call then pushList (w / 8) [s.segs.cs.sel.toNat, s.eip.toNat] else pure ()
    setCsReal sel
    setEip (cutTarget w off)

/-- The checks on the code segment a far RET or IRET returns to (R325). -/
def checkReturn (rsel : Half) : M Desc := do
  let s ← get
  let code := selCode rsel
  require (!isNull rsel) (gp 0)
  let d ← readDesc rsel (gp code)
  require d.isCode (gp code)
  require (!(rpl rsel).ult s.cpl) (gp code)
  require (if d.conforming then !(rpl rsel).ult d.dpl else d.dpl == rpl rsel) (gp code)
  require d.p (np code)
  pure d

/-- The checks on the stack segment of the outer level `pl` (R326). -/
def checkOuterStack (osel : Half) (pl : BitVec 2) : M Desc := do
  let code := selCode osel
  require (!isNull osel) (gp 0)
  let d ← readDesc osel (gp code)
  require d.writable (gp code)
  require d.p (sf code)
  require (d.dpl == pl) (gp code)
  require (rpl osel == pl) (gp code)
  pure d

/-- A data segment register on return to level `pl`: nulled if it names a segment more privileged than that (R326). -/
def Seg.outward (g : Seg) (pl : BitVec 2) : Seg :=
  if g.usable && g.attr.s && !(g.attr.isCode && g.attr.bitC) && g.attr.dpl.ult pl then g.cleared else g

/-- CS:EIP, SS:ESP and CPL become those of the outer level; data segment registers are nulled as needed (R326). -/
def returnOuter (rsel : Half) (d : Desc) (eip : Word) (osel : Half) (od : Desc) (esp : Word) : M Unit := do
  let pl := rpl rsel
  require (decide (eip.toNat ≤ d.limit.toNat)) (gp 0)
  setAccessedAll [d, od]
  modify fun s => { s with
    cpl := pl, eip := eip, regs := { s.regs with esp := esp }
    segs := { cs := d.accessed.toSeg rsel, ss := od.accessed.toSeg osel, ds := s.segs.ds.outward pl, es := s.segs.es.outward pl,
              fs := s.segs.fs.outward pl, gs := s.segs.gs.outward pl } }

/-- A word of the stack slot `k` items of `n` bytes above the top, plus `extra` bytes. -/
def slot (n k : Nat) (extra : Word) : M Word := do
  let v ← peek (BitVec.ofNat 32 (n * k) + extra) n
  pure (BitVec.ofNat 32 v)

/-- RET far (R706, R325, R326). The saved SS is read before the saved ESP, as R326 lists them. -/
def retFar (imm : BitVec 16) (w : Nat) : M Unit := do
  let s ← get
  let n := w / 8
  let extra : Word := imm.setWidth 32
  if s.prot then stackFrame (2 * n) else pure ()
  let eip ← slot n 0 0
  let cs ← slot n 1 0
  let rsel : Half := cs.setWidth 16
  if s.prot then
    let d ← checkReturn rsel
    if rpl rsel == s.cpl then
      require (decide (eip.toNat ≤ d.limit.toNat)) (gp 0)
      addSp (BitVec.ofNat 32 (2 * n) + extra)
      setCode rsel d
      setEip eip
    else
      stackFrame (4 * n + imm.toNat)
      let oss ← slot n 3 extra
      let oesp ← slot n 2 extra
      let od ← checkOuterStack (oss.setWidth 16) (rpl rsel)
      returnOuter rsel d eip (oss.setWidth 16) od (oesp + extra)
  else
    checkOffset16 eip
    addSp (BitVec.ofNat 32 (2 * n) + extra)
    setCsReal rsel
    setEip eip

/-- LOOP, LOOPE, LOOPNE (R713 to R715): `ok` is the test on ZF. -/
def loopIf (ok : Flags → Bool) (rel : BitVec 8) (w : Nat) : M Unit := do
  let s ← get
  let c := s.counter - 1
  let c := match s.as with
    | .s16 => c &&& 0xFFFF
    | .s32 => c
  setCounter c
  jumpRelIf (c != 0 && ok s.flags) (rel.signExtend 32) w

/-- `write_flags` of IRET (R730). -/
def iretFlags (old new : Flags) (lvl : BitVec 2) (ifOk wide pe : Bool) : Flags :=
  { old with
    cf := new.cf, pf := new.pf, af := new.af, zf := new.zf, sf := new.sf, tf := new.tf, df := new.df, of := new.of, nt := new.nt
    ifl := if ifOk then new.ifl else old.ifl
    iopl := if lvl == 0 then new.iopl else old.iopl
    rf := if wide then new.rf else old.rf
    ac := if wide then new.ac else old.ac
    id := if wide then new.id else old.id
    vif := if wide && lvl == 0 && pe then new.vif else old.vif
    vip := if wide && lvl == 0 && pe then new.vip else old.vip }

/-- IRET in real-address and virtual-8086 mode (R730). -/
def iretReal (w : Nat) : M Unit := do
  let s ← get
  let n := w / 8
  let ip ← slot n 0 0
  let cs ← slot n 1 0
  let fl ← slot n 2 0
  checkOffset16 ip
  addSp (BitVec.ofNat 32 (3 * n))
  setCsReal (cs.setWidth 16)
  setEip ip
  modifyFlags fun f => iretFlags f (Flags.ofWord fl) s.level true (w == 32) s.pe

/-- IRET to virtual-8086 mode: the nine doublewords of R1416. -/
def iretToV86 (eip cs fl : Word) : M Unit := do
  stackFrame 36
  let esp ← slot 4 3 0
  let ss ← slot 4 4 0
  let es ← slot 4 5 0
  let ds ← slot 4 6 0
  let fs ← slot 4 7 0
  let gs ← slot 4 8 0
  modify fun s => { s with
    flags := Flags.ofWord fl, eip := eip, cpl := 3, regs := { s.regs with esp := esp }
    segs := { es := .ofV86 (es.setWidth 16), cs := .ofV86 (cs.setWidth 16), ss := .ofV86 (ss.setWidth 16),
              ds := .ofV86 (ds.setWidth 16), fs := .ofV86 (fs.setWidth 16), gs := .ofV86 (gs.setWidth 16) } }

/-- IRET in protected mode with NT = 0 (R730). -/
def iretProtected (w : Nat) : M Unit := do
  let s ← get
  let n := w / 8
  let eip ← slot n 0 0
  let cs ← slot n 1 0
  let fl ← slot n 2 0
  let rsel : Half := cs.setWidth 16
  let new := Flags.ofWord fl
  if w == 32 && new.vm && s.cpl == 0 then iretToV86 eip cs fl
  else
    let d ← checkReturn rsel
    let flags (f : Flags) : Flags := iretFlags f new s.cpl (!s.flags.iopl.ult s.cpl) (w == 32) true
    if rpl rsel == s.cpl then
      require (decide (eip.toNat ≤ d.limit.toNat)) (gp 0)
      addSp (BitVec.ofNat 32 (3 * n))
      setCode rsel d
      setEip eip
      modifyFlags flags
    else
      let oesp ← slot n 3 0
      let oss ← slot n 4 0
      let od ← checkOuterStack (oss.setWidth 16) (rpl rsel)
      modifyFlags flags
      returnOuter rsel d eip (oss.setWidth 16) od oesp

/-- RETURN FROM AN EXCEPTION OR INTERRUPT: IRET in every mode (R730). It ends the NMI-blocked state (60_exceptions.md R1204) and keeps the RF it
loads (64_debug.md R1488). That LINK is read whatever TR.limit is, is the model's choice (21_segmentation.md R238, notes/assumptions/81.md). -/
def iretOp (w : Nat) : M Unit := do
  let s ← get
  v86Iopl
  modify fun s => { s with nmiBlocked := false }
  modifyCur fun c => { c with keepRf := true }
  if s.prot then
    if s.flags.nt then
      let link ← tssRead16 s.tr.base
      taskSwitch link .iret s.eip none
    else iretProtected w
  else iretReal w

/-- Ask for the software interrupt `v` (R735). -/
def softInt (v : Nat) : M Unit := throw (.soft v)

/-- (E)BP as a stack offset (R750). -/
def State.bpOff (s : State) : Word := wrapSp s.ss s.regs.ebp

/-- The places of the frame pointers ENTER copies: for each of `c` items of `n` bytes, where it is read below BPreg `bp` and where it is
pushed below `sp`, both checked in the order of the copies (R750, D72). -/
def copySlots (sz : Size) (n : Nat) : Nat → Word → Word → M (List (List Word × List Word))
  | 0, _, _ => pure []
  | c + 1, bp, sp => do
    let b := wrapSp sz (bp - BitVec.ofNat 32 n)
    let t := wrapSp sz (sp - BitVec.ofNat 32 n)
    let src ← access sz .ss b n n .r
    let dst ← access sz .ss t n n .w
    let rest ← copySlots sz n c b t
    pure ((src, dst) :: rest)

/-- ENTER (R750): the slots of all the pushes, and what the copies read, are checked before anything is written; (E)SP is committed once
(20_memory.md R220, D72). -/
def enterFrame (storage : BitVec 16) (level : BitVec 8) (w : Nat) : M Unit := do
  let s ← get
  let n := w / 8
  let lvl := level.toNat % 32
  let down (a : Word) (k : Nat) : Word := wrapSp s.ss (a - BitVec.ofNat 32 (n * k))
  let frame := down s.spOff 1
  let first ← access s.ss .ss frame n n .w
  let copies ← copySlots s.ss n (lvl - 1) s.bpOff frame
  let last ← pushSlots s.ss n (down frame (lvl - 1)) (min lvl 1)
  store first (s.regs.read w .ebp).toNat
  copyAll copies
  storeAll last [frame.toNat]
  writeReg s.ss.bits .ebp ((down s.bpOff (lvl - 1)).setWidth s.ss.bits)
  writeReg w .ebp (frame.setWidth w)
  setSp (wrapSp s.ss (down frame lvl - storage.setWidth 32))

/-- LEAVE (R751). -/
def leaveFrame (w : Nat) : M Unit := do
  let s ← get
  let n := w / 8
  let t ← memRead s.ss .ss s.bpOff n
  setSp (wrapSp s.ss (s.bpOff + BitVec.ofNat 32 n))
  writeReg w .ebp (BitVec.ofNat w t)

/-- BOUND (R745): the lower limit is read first, then the upper one above it. -/
def boundCheck (m : MemOp) (r : Reg) (w : Nat) : M Unit := do
  let lo ← readMem m (w / 8) (w / 8)
  let hi ← readAbove m (w / 8) (w / 8)
  let x ← readReg w r
  let lo : BitVec w := BitVec.ofNat w lo
  let hi : BitVec w := BitVec.ofNat w hi
  require (decide (lo.toInt ≤ x.toInt) && decide (x.toInt ≤ hi.toInt)) (raise 5 none)

/-- JMP rel8 (R701). -/
def execJmpRel8 (rel : BitVec 8) (s : State) : Host.Outcome State Fault Refusal :=
  runInstr (atOs (jumpRel (rel.signExtend 32))) s

/-- JMP rel16/32 (R701). -/
def execJmpRel (rel : BitVec 32) (s : State) : Host.Outcome State Fault Refusal :=
  runInstr (atOs fun w => jumpRel (relDisp rel w) w) s

/-- JMP r/m (R701). -/
def execJmpRm (rm : RM) (s : State) : Host.Outcome State Fault Refusal :=
  runInstr (atOs fun w => do
    let t ← readRM w rm
    jumpNear (t.setWidth 32) w) s

/-- JMP ptr16:16/32 (R704). -/
def execJmpPtr (off : BitVec 32) (sel : BitVec 16) (s : State) : Host.Outcome State Fault Refusal :=
  runInstr (atOs (farTransfer false sel off)) s

/-- JMP m16:16/32 (R704). -/
def execJmpFar (m : MemOp) (s : State) : Host.Outcome State Fault Refusal :=
  runInstr (atOs fun w => do
    let (sel, off) ← readFar m w
    farTransfer false sel off w) s

/-- CALL rel16/32 (R702). -/
def execCallRel (rel : BitVec 32) (s : State) : Host.Outcome State Fault Refusal :=
  runInstr (atOs fun w => do
    let t ← relTarget (relDisp rel w)
    callNear t w) s

/-- CALL r/m (R702). -/
def execCallRm (rm : RM) (s : State) : Host.Outcome State Fault Refusal :=
  runInstr (atOs fun w => do
    let t ← readRM w rm
    callNear (t.setWidth 32) w) s

/-- CALL ptr16:16/32 (R705). -/
def execCallPtr (off : BitVec 32) (sel : BitVec 16) (s : State) : Host.Outcome State Fault Refusal :=
  runInstr (atOs (farTransfer true sel off)) s

/-- CALL m16:16/32 (R705). -/
def execCallFar (m : MemOp) (s : State) : Host.Outcome State Fault Refusal :=
  runInstr (atOs fun w => do
    let (sel, off) ← readFar m w
    farTransfer true sel off w) s

/-- RET (R703). -/
def execRet (s : State) : Host.Outcome State Fault Refusal :=
  runInstr (atOs (retNear 0)) s

/-- RET imm16 (R703). -/
def execRetImm16 (imm : BitVec 16) (s : State) : Host.Outcome State Fault Refusal :=
  runInstr (atOs (retNear imm)) s

/-- RETF (R706). -/
def execRetf (s : State) : Host.Outcome State Fault Refusal :=
  runInstr (atOs (retFar 0)) s

/-- RETF imm16 (R706). -/
def execRetfImm16 (imm : BitVec 16) (s : State) : Host.Outcome State Fault Refusal :=
  runInstr (atOs (retFar imm)) s

/-- Jcc rel8 (R711). -/
def execJccRel8 (cc : Cond) (rel : BitVec 8) (s : State) : Host.Outcome State Fault Refusal :=
  runInstr (do
    let s ← get
    atOs (jumpRelIf (Cond.holds s.flags cc) (rel.signExtend 32))) s

/-- Jcc rel16/32 (R711). -/
def execJccRel (cc : Cond) (rel : BitVec 32) (s : State) : Host.Outcome State Fault Refusal :=
  runInstr (do
    let s ← get
    atOs fun w => jumpRelIf (Cond.holds s.flags cc) (relDisp rel w) w) s

/-- JCXZ/JECXZ rel8 (R712). -/
def execJcxzRel8 (rel : BitVec 8) (s : State) : Host.Outcome State Fault Refusal :=
  runInstr (do
    let s ← get
    atOs (jumpRelIf (s.counter == 0) (rel.signExtend 32))) s

/-- LOOP rel8 (R713). -/
def execLoopRel8 (rel : BitVec 8) (s : State) : Host.Outcome State Fault Refusal :=
  runInstr (atOs (loopIf (fun _ => true) rel)) s

/-- LOOPE/LOOPZ rel8 (R714). -/
def execLoopeRel8 (rel : BitVec 8) (s : State) : Host.Outcome State Fault Refusal :=
  runInstr (atOs (loopIf (fun f => f.zf) rel)) s

/-- LOOPNE/LOOPNZ rel8 (R715). -/
def execLoopneRel8 (rel : BitVec 8) (s : State) : Host.Outcome State Fault Refusal :=
  runInstr (atOs (loopIf (fun f => !f.zf) rel)) s

/-- IRET/IRETD (R730). -/
def execIret (s : State) : Host.Outcome State Fault Refusal :=
  runInstr (atOs iretOp) s

/-- INT imm8 (R735). -/
def execIntImm8 (imm : BitVec 8) (s : State) : Host.Outcome State Fault Refusal :=
  runInstr (do
    v86Iopl
    softInt imm.toNat) s

/-- INT 3 (R735). -/
def execInt3 (s : State) : Host.Outcome State Fault Refusal :=
  runInstr (softInt 3) s

/-- INTO (R735). -/
def execInto (s : State) : Host.Outcome State Fault Refusal :=
  runInstr (do
    let s ← get
    if s.flags.of then softInt 4 else pure ()) s

/-- BOUND r, m16&16/m32&32 (R745). -/
def execBoundRM (m : MemOp) (r : Reg) (s : State) : Host.Outcome State Fault Refusal :=
  runInstr (atOs (boundCheck m r)) s

/-- ENTER imm16, imm8 (R750). -/
def execEnterImm16Imm8 (imm : BitVec 16) (lvl : BitVec 8) (s : State) : Host.Outcome State Fault Refusal :=
  runInstr (atOs (enterFrame imm lvl)) s

/-- LEAVE (R751). -/
def execLeave (s : State) : Host.Outcome State Fault Refusal :=
  runInstr (atOs leaveFrame) s

end Sys2Proof.Machine
end

