-- ==== Sys2Proof/Machine/Str.lean ====
section
/-! DEFINITION. String instructions and repeat prefixes (44_string.md), and the I/O instructions (46_system_io.md R940 to R949). -/

namespace Sys2Proof.Machine

open Sys2Proof

/-- The offset of the first byte of the instruction under way (its first prefix). -/
def State.startEip (s : State) : Word := s.eip - BitVec.ofNat 32 s.cur.len

/-- How an index register moves (R761). -/
def State.delta (s : State) (n : Nat) : Word := if s.flags.df then 0 - BitVec.ofNat 32 n else BitVec.ofNat 32 n

/-- Advance (E)SI or (E)DI by one element of `n` bytes (R761). -/
def advance (r : Reg) (n : Nat) : M Unit := do
  let s ← get
  writeReg s.as.bits r ((s.asReg r + s.delta n).setWidth s.as.bits)

/-- The condition that ends CMPS and SCAS early: ZF = 0 under REPE, ZF = 1 under REPNE (R760, Table 4-4). -/
def Rep.ends (r : Rep) (f : Flags) : Bool :=
  match r with
  | .rep => !f.zf
  | .repne => f.zf

/-- One step of a string instruction with its repeat prefix, if any (R760): `scan` for CMPS and SCAS, `late` for MOVS and STOS,
whose data breakpoints are reported one iteration late (64_debug.md R1489). An iteration that is not the last leaves EIP on
the instruction and does not complete it, so RF stays (R1488). -/
def repeated (scan late : Bool) (body : M Unit) : M Unit := do
  let s ← get
  match s.cur.rep with
  | none => body
  | some r =>
    if s.counter = 0 then pure ()
    else
      body
      setCounter (s.counter - 1)
      let t ← get
      if t.counter = 0 || (scan && r.ends t.flags) then pure ()
      else
        setEip s.startEip
        modifyCur fun c => { c with keepRf := true, defer := late }

/-- MOVS (R763): the source is read, then the destination checked and written. -/
def movsOnce (w : Nat) : M Unit := do
  let n := w / 8
  let s ← get
  let v ← memRead s.as (s.segOr .ds) (s.asReg .esi) n
  memWrite s.as .es (s.asReg .edi) n v
  advance .esi n
  advance .edi n

/-- CMPS (R764). -/
def cmpsOnce (w : Nat) : M Unit := do
  let n := w / 8
  let s ← get
  let a ← memRead s.as (s.segOr .ds) (s.asReg .esi) n
  let b ← memRead s.as .es (s.asReg .edi) n
  modifyFlags fun f => f.sub (BitVec.ofNat w a) (BitVec.ofNat w b) false
  advance .esi n
  advance .edi n

/-- SCAS (R765). -/
def scasOnce (w : Nat) : M Unit := do
  let n := w / 8
  let s ← get
  let b ← memRead s.as .es (s.asReg .edi) n
  let a ← readReg w acc
  modifyFlags fun f => f.sub a (BitVec.ofNat w b) false
  advance .edi n

/-- LODS (R766). -/
def lodsOnce (w : Nat) : M Unit := do
  let n := w / 8
  let s ← get
  let v ← memRead s.as (s.segOr .ds) (s.asReg .esi) n
  writeReg w acc (BitVec.ofNat w v)
  advance .esi n

/-- STOS (R767). -/
def stosOnce (w : Nat) : M Unit := do
  let n := w / 8
  let s ← get
  let v ← readReg w acc
  memWrite s.as .es (s.asReg .edi) n v.toNat
  advance .edi n

/-- IoPermitted (R940). -/
def ioPermitted (port : Half) (n : Nat) : M Unit := do
  let s ← get
  if !s.pe || (!s.flags.vm && !s.flags.iopl.ult s.cpl) then pure ()
  else
    require (s.tr.attr.typ == 9 || s.tr.attr.typ == 11) (gp 0)
    require (decide (0x67 ≤ s.tr.limit.toNat)) (gp 0)
    let iobase ← tssRead16 (s.tr.base + 0x66)
    let off := iobase.toNat + port.toNat / 8
    require (decide (off + 1 ≤ s.tr.limit.toNat)) (gp 0)
    let m ← tssRead16 (s.tr.base + BitVec.ofNat 32 off)
    require ((m.toNat >>> (port.toNat % 8)) % 2 ^ n == 0) (gp 0)

/-- I/O breakpoints: R/W = 10 with CR4.DE = 1 (64_debug.md R1486). An access past port FFFFH goes on at port 0 (D63). -/
def noteIo (port : Half) (n : Nat) : M Unit := do
  let s ← get
  noteRange 65536 port.toNat n fun rw => rw == 2 && s.de4

/-- IoRead (R949): the host's next value, or a draw when the host gives none. -/
def ioRead (port : Half) (n : Nat) : M Nat := do
  let s ← get
  match s.inp.ports with
  | v :: vs =>
    let x := v.toNat % 2 ^ (8 * n)
    set { s with inp := { s.inp with ports := vs } }
    emit (.ioRead port n x)
    noteIo port n
    pure x
  | [] =>
    let v ← draw 32
    let x := v.toNat % 2 ^ (8 * n)
    emit (.ioRead port n x)
    noteIo port n
    pure x

/-- IoWrite (R949). -/
def ioWrite (port : Half) (n v : Nat) : M Unit := do
  emit (.ioWrite port n v)
  noteIo port n

/-- Remember that this instruction was an I/O instruction (63_smm.md R1461). -/
def noteLastIo : M Unit := modify fun s => { s with lastIo := some s.startEip }

/-- DX (R942). -/
def portDx : M Half := readReg 16 .edx

/-- IN (R942). -/
def inPort (port : M Half) (w : Nat) : M Unit := do
  noteLastIo
  let p ← port
  ioPermitted p (w / 8)
  let v ← ioRead p (w / 8)
  writeReg w acc (BitVec.ofNat w v)

/-- OUT (R943). -/
def outPort (port : M Half) (w : Nat) : M Unit := do
  noteLastIo
  let p ← port
  ioPermitted p (w / 8)
  let v ← readReg w acc
  ioWrite p (w / 8) v.toNat

/-- INS (R944): the destination is checked before the port is read (D64). -/
def insOnce (w : Nat) : M Unit := do
  let n := w / 8
  let p ← portDx
  ioPermitted p n
  let s ← get
  let dst ← access s.as .es (s.asReg .edi) n n .w
  let v ← ioRead p n
  store dst v
  advance .edi n

/-- OUTS (R945). -/
def outsOnce (w : Nat) : M Unit := do
  let n := w / 8
  let p ← portDx
  ioPermitted p n
  let s ← get
  let v ← memRead s.as (s.segOr .ds) (s.asReg .esi) n
  ioWrite p n v
  advance .esi n

/-- MOVSB (R763). -/
def execMovsb (s : State) : Host.Outcome State Fault Refusal :=
  runInstr (repeated false true (movsOnce 8)) s

/-- MOVSW/MOVSD (R763). -/
def execMovsw (s : State) : Host.Outcome State Fault Refusal :=
  runInstr (repeated false true (atOs movsOnce)) s

/-- CMPSB (R764). -/
def execCmpsb (s : State) : Host.Outcome State Fault Refusal :=
  runInstr (repeated true false (cmpsOnce 8)) s

/-- CMPSW/CMPSD (R764). -/
def execCmpsw (s : State) : Host.Outcome State Fault Refusal :=
  runInstr (repeated true false (atOs cmpsOnce)) s

/-- STOSB (R767). -/
def execStosb (s : State) : Host.Outcome State Fault Refusal :=
  runInstr (repeated false true (stosOnce 8)) s

/-- STOSW/STOSD (R767). -/
def execStosw (s : State) : Host.Outcome State Fault Refusal :=
  runInstr (repeated false true (atOs stosOnce)) s

/-- LODSB (R766). -/
def execLodsb (s : State) : Host.Outcome State Fault Refusal :=
  runInstr (repeated false false (lodsOnce 8)) s

/-- LODSW/LODSD (R766). -/
def execLodsw (s : State) : Host.Outcome State Fault Refusal :=
  runInstr (repeated false false (atOs lodsOnce)) s

/-- SCASB (R765). -/
def execScasb (s : State) : Host.Outcome State Fault Refusal :=
  runInstr (repeated true false (scasOnce 8)) s

/-- SCASW/SCASD (R765). -/
def execScasw (s : State) : Host.Outcome State Fault Refusal :=
  runInstr (repeated true false (atOs scasOnce)) s

/-- INSB (R944). -/
def execInsb (s : State) : Host.Outcome State Fault Refusal :=
  runInstr (do
    noteLastIo
    repeated false false (insOnce 8)) s

/-- INSW/INSD (R944). -/
def execInsw (s : State) : Host.Outcome State Fault Refusal :=
  runInstr (do
    noteLastIo
    repeated false false (atOs insOnce)) s

/-- OUTSB (R945). -/
def execOutsb (s : State) : Host.Outcome State Fault Refusal :=
  runInstr (do
    noteLastIo
    repeated false false (outsOnce 8)) s

/-- OUTSW/OUTSD (R945). -/
def execOutsw (s : State) : Host.Outcome State Fault Refusal :=
  runInstr (do
    noteLastIo
    repeated false false (atOs outsOnce)) s

/-- IN AL, imm8 (R942). -/
def execInAlImm8 (imm : BitVec 8) (s : State) : Host.Outcome State Fault Refusal :=
  runInstr (inPort (pure (imm.setWidth 16)) 8) s

/-- IN eAX, imm8 (R942). -/
def execInEaxImm8 (imm : BitVec 8) (s : State) : Host.Outcome State Fault Refusal :=
  runInstr (atOs (inPort (pure (imm.setWidth 16)))) s

/-- IN AL, DX (R942). -/
def execInAlDx (s : State) : Host.Outcome State Fault Refusal :=
  runInstr (inPort portDx 8) s

/-- IN eAX, DX (R942). -/
def execInEaxDx (s : State) : Host.Outcome State Fault Refusal :=
  runInstr (atOs (inPort portDx)) s

/-- OUT imm8, AL (R943). -/
def execOutImm8Al (imm : BitVec 8) (s : State) : Host.Outcome State Fault Refusal :=
  runInstr (outPort (pure (imm.setWidth 16)) 8) s

/-- OUT imm8, eAX (R943). -/
def execOutImm8Eax (imm : BitVec 8) (s : State) : Host.Outcome State Fault Refusal :=
  runInstr (atOs (outPort (pure (imm.setWidth 16)))) s

/-- OUT DX, AL (R943). -/
def execOutDxAl (s : State) : Host.Outcome State Fault Refusal :=
  runInstr (outPort portDx 8) s

/-- OUT DX, eAX (R943). -/
def execOutDxEax (s : State) : Host.Outcome State Fault Refusal :=
  runInstr (atOs (outPort portDx)) s

end Sys2Proof.Machine
end

