-- ==== Sys2Proof/Machine/Smm.lean ====
section
/-! DEFINITION. System management mode: entry on SMI# and the return by RSM (63_smm.md R1450 to R1466). -/

namespace Sys2Proof.Machine

open Sys2Proof

/-- The doublewords of the state dump record from offset FFA8H up (R1454). -/
def dumpImage (s : State) : List Nat :=
  let g := s.regs
  let c := s.segs
  [c.es.sel.toNat, c.cs.sel.toNat, c.ss.sel.toNat, c.ds.sel.toNat, c.fs.sel.toNat, c.gs.sel.toNat, s.ldtr.sel.toNat, s.tr.sel.toNat,
   s.dr.dr7.toNat, s.dr.dr6.toNat, g.eax.toNat, g.ecx.toNat, g.edx.toNat, g.ebx.toNat, g.esp.toNat, g.ebp.toNat, g.esi.toNat,
   g.edi.toNat, s.eip.toNat, s.flags.word.toNat, s.cr.cr3.toNat, s.cr.cr0.toNat]

/-- Write doublewords one after the other at a physical address. -/
def physWriteWords : Word → List Nat → M Unit
  | _, [] => pure ()
  | a, v :: vs => do
    physWrite a 4 v
    physWriteWords (a + 4) vs

/-- The SMM revision identifier (R1459): I/O trap restart and SMRAM relocation are supported. -/
def smmRevisionId : Word := 0x00030000 ||| Config.smmRevision.setWidth 32

/-- The 512 bytes of the dump, offsets FE00H to FFFFH (R1454). -/
def readDump (base : Word) : M (List Byte) := physBytes (consecutive (base + 0xFE00) 512)

/-- The segment registers in SMM (R1455): 4-gigabyte limits, 16-bit, expand up; `typ` is readable code for CS, read/write data for the
others. -/
def Seg.smm (typ : BitVec 4) (sel : Half) (base : Word) : Seg :=
  { sel := sel, base := base, limit := 0xFFFFFFFF, attr := { Attr.reset with typ := typ }, usable := true }

/-- A register whose contents are undefined at SMM entry (R1455): every field a draw. -/
def drawSeg : M Seg := do
  let sel ← draw 16
  let base ← draw 32
  let limit ← draw 32
  let typ ← draw 4
  let dpl ← draw 2
  let s ← drawBool
  let p ← drawBool
  let avl ← drawBool
  let db ← drawBool
  let g ← drawBool
  let u ← drawBool
  pure { sel := sel, base := base, limit := limit, attr := { typ := typ, s := s, dpl := dpl, p := p, avl := avl, db := db, g := g },
         usable := u }

/-- GDTR or IDTR undefined (R1455). -/
def drawTable : M TableReg := do
  let base ← draw 32
  let limit ← draw 16
  pure { base := base, limit := limit }

/-- General registers undefined (R1455, 93_implementation_defined.md U45). -/
def drawRegs : M GRegs := do
  let a ← draw 32
  let c ← draw 32
  let d ← draw 32
  let b ← draw 32
  let sp ← draw 32
  let bp ← draw 32
  let si ← draw 32
  let di ← draw 32
  pure ⟨a, c, d, b, sp, bp, si, di⟩

/-- SMM entry: save (R1453, R1454), then the SMM initial state (R1455). A pending debug trap is dropped (R1452), one that recurs at this boundary too;
breakpoints that wait for an iteration of REP MOVS or REP STOS go on waiting (64_debug.md R1489). The model's choices: `inhibit_after_sti` does not
outlive the entry (45_flag_segment_misc.md R811, notes/assumptions/57.md), nor does `inhibit_after_ss`, which RSM does not bring back
(60_exceptions.md R1206, notes/assumptions/69.md); and the reserved bytes of the dump (FE00H to FEF7H, FF04H to FFA7H) keep what memory held
(R1453, R1454, notes/assumptions/70.md). -/
def smmEntry : M Unit := do
  let s ← get
  let base := s.smbase
  physWriteWords (base + 0xFFA8) (dumpImage s)
  physWrite (base + 0xFEF8) 4 base.toNat
  physWrite (base + 0xFEFC) 4 smmRevisionId.toNat
  physWrite (base + 0xFF00) 2 0
  physWrite (base + 0xFF02) 2 (if s.run = .halted then 1 else 0)
  let dump ← quietly (readDump base)
  let regs ← drawRegs
  let dr6 ← draw 32
  let gdtr ← drawTable
  let idtr ← drawTable
  let ldtr ← drawSeg
  let tr ← drawSeg
  let data := Seg.smm 3 0 0
  modify fun t => { t with
    smm := { cr2 := s.cr.cr2, cr4 := s.cr.cr4, gdtr := s.gdtr, idtr := s.idtr, segs := s.segs, ldtr := s.ldtr, tr := s.tr, cpl := s.cpl,
             base := base, dump := dump, idtLoaded := false, halted := s.run == .halted, ioRestart := s.lastIo }
    regs := regs, flags := .reset, eip := 0x00008000
    segs := { es := data, cs := .smm 0xB 0x3000 base, ss := data, ds := data, fs := data, gs := data }
    cpl := 0, gdtr := gdtr, idtr := idtr, ldtr := ldtr, tr := tr
    cr := { t.cr with cr0 := s.cr.cr0 &&& 0x7FFFFFF2, cr4 := 0 }
    dr := { s.dr with dr6 := dr6, dr7 := 0x00000400 }
    run := .running, inSmm := true, smiPending := false, pendingDb := none, recurs := t.recurs.filter fun h => !s.isBack h
    inhibitSs := false, inhibitSti := false, pgSwitched := false, lastIo := none
    itlb := [], dtlb := [] }

/-- The offset of a byte of the dump (from FE00H) lies in a slot that the handler may change (R1458): the general registers, EIP and
EFLAGS, the two restart slots, the state dump base; and the revision identifier, which RSM does not read. -/
def dumpWritable (i : Nat) : Bool :=
  (decide (0x1D0 ≤ i) && decide (i ≤ 0x1F7)) || (decide (0xF8 ≤ i) && decide (i ≤ 0x103))

/-- The dump as RSM finds it agrees with what was saved wherever the handler may not write (R1458, U46). That a handler which stores the bytes already
there has not written the slot is the model's choice (notes/assumptions/86.md). -/
def dumpKept : Nat → List Byte → List Byte → Bool
  | i, a :: as, b :: bs => (dumpWritable i || a == b) && dumpKept (i + 1) as bs
  | _, _, _ => true

/-- What RSM takes from the dump beside the state dump base, CR0 and the restart slots (R1460). -/
structure Saved where
  cr3 : Word
  eflags : Word
  eip : Word
  regs : GRegs
  dr6 : Word
  dr7 : Word
  tr : Half
  ldtr : Half
  gs : Half
  fs : Half
  ds : Half
  ss : Half
  cs : Half
  es : Half
  deriving DecidableEq, Repr

/-- A doubleword of the dump at an offset from its base (R1454). -/
def dumpWord (base off : Word) : M Word := physRead32 (base + off)

/-- A word of the dump: a restart slot, or a selector, the upper half of whose slot is reserved (R1454). -/
def dumpHalf (base off : Word) : M Half := do
  let v ← physRead (base + off) 2
  pure (BitVec.ofNat 16 v)

/-- Read what RSM restores, in the order of R1460 (65_cache_mp.md R1531). -/
def readSaved (base : Word) : M Saved := do
  let cr3 ← dumpWord base 0xFFF8
  let eflags ← dumpWord base 0xFFF4
  let eip ← dumpWord base 0xFFF0
  let edi ← dumpWord base 0xFFEC
  let esi ← dumpWord base 0xFFE8
  let ebp ← dumpWord base 0xFFE4
  let esp ← dumpWord base 0xFFE0
  let ebx ← dumpWord base 0xFFDC
  let edx ← dumpWord base 0xFFD8
  let ecx ← dumpWord base 0xFFD4
  let eax ← dumpWord base 0xFFD0
  let dr6 ← dumpWord base 0xFFCC
  let dr7 ← dumpWord base 0xFFC8
  let tr ← dumpHalf base 0xFFC4
  let ldtr ← dumpHalf base 0xFFC0
  let gs ← dumpHalf base 0xFFBC
  let fs ← dumpHalf base 0xFFB8
  let ds ← dumpHalf base 0xFFB4
  let ss ← dumpHalf base 0xFFB0
  let cs ← dumpHalf base 0xFFAC
  let es ← dumpHalf base 0xFFA8
  pure { cr3, eflags, eip, regs := { eax, ecx, edx, ebx, esp, ebp, esi, edi }, dr6, dr7, tr, ldtr, gs, fs, ds, ss, cs, es }

/-- The run state RSM goes to, by the value of the Halt Auto Restart slot (R1465, Table 20-5): the pair 0 at entry, 1 at exit is
"unpredictable (refusal in the model)"; of other values than 0 and 1 the table says nothing, and a draw decides
(notes/assumptions/58.md). -/
def haltRestart (halted : Bool) (slot : Half) : M RunState :=
  if slot = 0 then pure .running
  else if slot = 1 then (if halted then pure .halted else refuse .smmHaltRestart)
  else do
    let b ← drawBool
    pure (if b then .halted else .running)

/-- The level that RSM returns to (11_state_system.md R170): 0 in real-address mode, 3 in virtual-8086 mode, else the RPL of the CS selector
restored, but 0 for a program at level 0 whose CS is as it was. That it follows an EFLAGS image which the handler changed (R1458) is the model's
reading (notes/assumptions/14.md). -/
def resumeCpl (s : State) (pe vm : Bool) (cs : Half) : BitVec 2 :=
  if !pe then 0 else if vm then 3 else if s.smm.cpl == 0 && cs == s.smm.segs.cs.sel then 0 else rpl cs

/-- A segment register with the selector of the dump and the hidden part of `smm_shadow` (R1460). -/
def Seg.resumed (g : Seg) (sel : Half) : Seg := { g with sel := sel }

/-- RSM (R1460, R1461, R1465): `#UD` outside SMM, and in it a privileged instruction (23_protection.md R340, 62_v86.md R1401,
notes/assumptions/71.md). CR0.ET stays 1 whatever the dump holds (11_state_system.md R152). That it ends the stretch which must be identity
mapped after a MOV CR0 of the handler (70_reset_and_hazards.md R1640) is the model's choice (notes/assumptions/19.md). -/
def resume : M Unit := do
  let s ← get
  require s.inSmm ud
  privileged
  let base := s.smm.base
  let newbase ← dumpWord base 0xFEF8
  let cr0 ← dumpWord base 0xFFFC
  let bad := newbase &&& 0x7FFF != 0 || s.smm.cr4 &&& 0xFFFFFFA0 != 0 || (bit cr0 31 && !bit cr0 0) || (bit cr0 29 && !bit cr0 30)
  if bad then throw .shutdown else pure ()
  let d ← quietly (readDump base)
  if dumpKept 0 d s.smm.dump then pure () else refuse .smmDumpChanged
  let v ← readSaved base
  let halt ← dumpHalf base 0xFF02
  let slot ← dumpHalf base 0xFF00
  if slot = 0 || (slot = 0xFF && s.smm.ioRestart.isSome) then pure () else refuse .smmIoRestart
  let run ← haltRestart s.smm.halted halt
  let g := s.smm.segs
  modify fun t => { t with
    smbase := newbase
    regs := v.regs, flags := Flags.ofWord v.eflags, eip := if slot = 0xFF then s.smm.ioRestart.getD v.eip else v.eip
    segs := { es := g.es.resumed v.es, cs := g.cs.resumed v.cs, ss := g.ss.resumed v.ss, ds := g.ds.resumed v.ds, fs := g.fs.resumed v.fs,
              gs := g.gs.resumed v.gs }
    cpl := resumeCpl s (bit cr0 0) (bit v.eflags 17) v.cs
    gdtr := s.smm.gdtr, idtr := s.smm.idtr, ldtr := s.smm.ldtr.resumed v.ldtr, tr := s.smm.tr.resumed v.tr
    cr := { cr0 := cr0 ||| 0x10, cr2 := s.smm.cr2, cr3 := v.cr3, cr4 := s.smm.cr4 }
    dr := { s.dr with dr6 := v.dr6, dr7 := v.dr7 }
    run := run
    pgSwitched := false, inSmm := false, itlb := [], dtlb := [] }
  modifyCur fun c => { c with keepRf := true }
  if run = .halted then emit .halt else pure ()

end Sys2Proof.Machine
end

