-- ==== Sys2Proof/Machine/System.lean ====
section
/-! DEFINITION. System instructions (46_system_io.md R900 to R932, 63_smm.md R1460). -/

namespace Sys2Proof.Machine

open Sys2Proof

/-- A pseudo-descriptor is aligned when its 4-byte base is (23_protection.md R335). -/
def pseudoAligned (lin : Nat) : Bool := (lin + 2) % 4 == 0

/-- The six bytes of a pseudo-descriptor (30_encoding.md R410). -/
def pseudoAccess (m : MemOp) (k : Kind) : M (List Word) := do
  let s ← get
  accessIf s.as (s.eaSeg m) (s.eaOff m) 6 pseudoAligned k

/-- LGDT and LIDT operand: limit, then base, cut to 24 bits with a 16-bit operand size (R900). -/
def readTable (m : MemOp) : M TableReg := do
  privileged
  let ps ← pseudoAccess m .r
  let v ← load ps
  let s ← get
  let base : Word := BitVec.ofNat 32 (v / 65536)
  pure { limit := BitVec.ofNat 16 v, base := match s.os with
    | .s16 => base &&& 0x00FFFFFF
    | .s32 => base }

/-- SGDT and SIDT: all 32 bits of the base (R901, D61). -/
def storeTable (m : MemOp) (t : TableReg) : M Unit := do
  let ps ← pseudoAccess m .w
  store ps (t.limit.toNat + 65536 * t.base.toNat)

/-- Write a 16-bit value to an r/m16 operand; a 32-bit destination register is zero-extended (R905, D61). -/
def storeSel (rm : RM) (v : Half) : M Unit := do
  let s ← get
  match rm, s.os with
  | .reg r, .s32 => writeReg 32 r (v.setWidth 32)
  | _, _ => writeRM 16 rm v

/-- LLDT (R904). -/
def loadLdt (sel : Half) : M Unit := do
  if isNull sel then modify fun s => { s with ldtr := s.ldtr.null sel }
  else
    let code := selCode sel
    require (!selTi sel) (gp code)
    let d ← readDesc sel (gp code)
    require (d.isSystem 2) (gp code)
    require d.p (np code)
    modify fun s => { s with ldtr := d.toSeg sel }

/-- LTR (R906): the descriptor becomes busy by a locked read-modify-write, no task switch. -/
def loadTr (sel : Half) : M Unit := do
  let code := selCode sel
  require (!isNull sel && !selTi sel) (gp code)
  let d ← readDesc sel (gp code)
  require (d.isSystem 1 || d.isSystem 9) (gp code)
  require d.p (np code)
  let ps ← linAddrs (d.addr + 4) 4 (.system true)
  setBits ps 0x200
  let busy : Desc := { d with hi := d.hi ||| 0x200 }
  modify fun s => { s with tr := busy.toSeg sel }

/-- All of `n` bytes from a linear address are identity mapped. -/
def allIdentity (s : State) : Word → Nat → Bool
  | _, 0 => true
  | lin, n + 1 => identityMapped lin s && allIdentity s (lin + 1) n

/-- CR0 takes a value. With PE and EFLAGS.VM set the processor runs at level 3 (62_v86.md R1401): the handler of an SMI# in real-address mode may
have set VM in the dump, and PE is set later. -/
def State.withCr0 (s : State) (v : Word) : State :=
  { s with cr := { s.cr with cr0 := v }, cpl := if bit v 0 && s.flags.vm then 3 else s.cpl }

/-- A write of CR0 by MOV (R913, 70_reset_and_hazards.md R1640): when PG changes, this instruction must come from pages that are
identity mapped while PG is 1; a program that does otherwise is refused (D71). The latch tells the fetch of the next instruction to ask the
same of it. -/
def writeCr0 (v : Word) : M Unit := do
  require (!(bit v 31 && !bit v 0) && !(!bit v 30 && bit v 29)) (gp 0)
  let s ← get
  let old := s.cr.cr0
  let t := s.withCr0 (v ||| 0x10)
  set t
  if bit old 31 != bit v 31 || bit old 0 != bit v 0 then tlbFlush else pure ()
  if bit old 31 != bit v 31 then
    require (allIdentity (if bit v 31 then t else s) (s.segs.cs.base + s.startEip) s.cur.len) (refuse .pagingNotIdentity)
    modifyCur fun c => { c with pgSwitch := true }
  else pure ()

/-- A write of CR4 (R913): reserved bits fault, VME and PVI are refused (D58). -/
def writeCr4 (v : Word) : M Unit := do
  require (v &&& 0xFFFFFFA0 == 0) (gp 0)
  if v &&& 3 = 0 then pure () else refuse .virtualModeExtensions
  let s ← get
  set { s with cr := { s.cr with cr4 := v } }
  if bit s.cr.cr4 4 != bit v 4 then tlbFlush else pure ()

/-- CR1 and CR5 to CR7 do not exist (R153, D60). -/
def crExists (n : BitVec 3) : Bool := n == 0 || n == 2 || n == 3 || n == 4

/-- The value of a control register that exists. -/
def CtlRegs.get (c : CtlRegs) (n : BitVec 3) : Word :=
  match n.toNat with
  | 0 => c.cr0 | 2 => c.cr2 | 3 => c.cr3 | _ => c.cr4

/-- MOV r32, CRn (R913). -/
def readCr (n : BitVec 3) (r : Reg) : M Unit := do
  privileged
  require (crExists n) ud
  let s ← get
  writeReg 32 r (s.cr.get n)

/-- MOV CRn, r32 (R913). -/
def writeCr (n : BitVec 3) (r : Reg) : M Unit := do
  privileged
  require (crExists n) ud
  let v ← readReg 32 r
  match n.toNat with
  | 0 => writeCr0 v
  | 2 => modify fun s => { s with cr := { s.cr with cr2 := v } }
  | 3 => do
    modify fun s => { s with cr := { s.cr with cr3 := v } }
    tlbFlush
  | _ => writeCr4 v

/-- The checks before a MOV to or from a debug register, in the order of D65 (64_debug.md R1482, R1490); just after a load of SS no debug
exception is taken (60_exceptions.md R1206). -/
def checkDr (n : BitVec 3) : M Unit := do
  privileged
  let s ← get
  require (!((n == 4 || n == 5) && s.de4)) ud
  require (!bit s.dr.dr7 13 || s.inhibitSs) (throw (.exc { vec := 1, code := none, dbg := some { DbgCause.none with bd := true } }))

/-- A debug register by number; DR4 and DR5 are DR6 and DR7 (R1482). -/
def DbgRegs.get (d : DbgRegs) (n : BitVec 3) : Word :=
  match n.toNat with
  | 0 => d.dr0 | 1 => d.dr1 | 2 => d.dr2 | 3 => d.dr3 | 4 => d.dr6 | 6 => d.dr6 | _ => d.dr7

/-- Write a debug register; hard-wired bits of DR6 and DR7 keep their values (R1483, R1484). -/
def DbgRegs.set (d : DbgRegs) (n : BitVec 3) (v : Word) : DbgRegs :=
  let v6 := (v &&& 0x0000E00F) ||| 0xFFFF0FF0
  let v7 := (v &&& 0xFFFF23FF) ||| 0x00000400
  match n.toNat with
  | 0 => { d with dr0 := v } | 1 => { d with dr1 := v } | 2 => { d with dr2 := v } | 3 => { d with dr3 := v }
  | 4 => { d with dr6 := v6 } | 6 => { d with dr6 := v6 } | _ => { d with dr7 := v7 }

/-- MOV r32, DRn (R914). -/
def readDr (n : BitVec 3) (r : Reg) : M Unit := do
  checkDr n
  let s ← get
  writeReg 32 r (s.dr.get n)

/-- MOV DRn, r32 (R914). -/
def writeDr (n : BitVec 3) (r : Reg) : M Unit := do
  checkDr n
  let v ← readReg 32 r
  modify fun s => { s with dr := s.dr.set n v }

/-- LMSW (R912): PE is set, never cleared; a change of PE flushes the TLBs (22_paging.md R272). -/
def loadMsw (v : Half) : M Unit := do
  let s ← get
  let w : Word := v.setWidth 32
  set (s.withCr0 ((s.cr.cr0 &&& 0xFFFFFFF1) ||| (w &&& 0xF)))
  if bit w 0 && !s.pe then tlbFlush else pure ()

/-- A TLB entry maps the page of a linear address (22_paging.md R272). -/
def TlbEntry.maps (e : TlbEntry) (big : Bool) (lin : Word) : Bool :=
  if big && bit e.pde 7 then e.page.extractLsb' 10 10 == lin.extractLsb' 22 10 else e.page == lin.extractLsb' 12 20

/-- INVLPG (R915). -/
def invalidate (m : MemOp) : M Unit := do
  privileged
  let s ← get
  let lin := (s.segs.get (s.eaSeg m)).base + s.eaOff m
  set { s with itlb := s.itlb.filter fun e => !e.maps s.pse lin, dtlb := s.dtlb.filter fun e => !e.maps s.pse lin }

/-- The descriptor a selector names, for the pointer-validation instructions: none if null or outside its table (R920). -/
def probe (sel : Half) : M (Option Desc) := do
  let s ← get
  if isNull sel || !inTable s sel then pure none
  else
    let d ← readDescAt (descLinear s sel)
    pure (some d)

/-- "Accessible by privilege" (R920, 23_protection.md R345). -/
def Desc.reachable (d : Desc) (cpl : BitVec 2) (sel : Half) : Bool :=
  d.conforming || (!d.dpl.ult cpl && !d.dpl.ult (rpl sel))

/-- ZF becomes `b`. -/
def setZf (b : Bool) : M Unit := modifyFlags fun f => { f with zf := b }

/-- LAR and LSL (R921, R922): `ok` says which descriptors are valid, `val` what is stored; a failure leaves the destination (D62). -/
def validate (ok : Desc → Bool) (val : Desc → M Word) (rm : RM) (r : Reg) (w : Nat) : M Unit := do
  protOnly
  let sel ← readRM 16 rm
  let s ← get
  let d ← probe sel
  match d with
  | none => setZf false
  | some d =>
    if ok d && d.reachable s.cpl sel then
      let v ← val d
      setZf true
      writeReg w r (v.setWidth w)
    else setZf false

/-- The descriptor types LAR accepts (R921). -/
def larValid (d : Desc) : Bool :=
  d.s || d.typ == 1 || d.typ == 2 || d.typ == 3 || d.typ == 4 || d.typ == 5 || d.typ == 9 || d.typ == 11 || d.typ == 12

/-- The value LAR stores: bits 19:16 are a draw (R921, U41). -/
def larValue (d : Desc) : M Word := do
  let free ← draw 4
  pure ((d.hi &&& 0x00F0FF00) ||| (free.setWidth 32 <<< 16))

/-- The descriptor types LSL accepts (R922, Table 12-3). -/
def lslValid (d : Desc) : Bool := d.s || d.typ == 2 || d.typ == 9 || d.typ == 11

/-- VERR and VERW (R923, R924). -/
def verify (ok : Desc → Bool) (rm : RM) : M Unit := do
  protOnly
  let sel ← readRM 16 rm
  let s ← get
  let d ← probe sel
  setZf (d.any fun d => d.s && ok d && d.reachable s.cpl sel)

/-- ARPL (R920). -/
def adjustRpl (rm : RM) (r : Reg) : M Unit := do
  protOnly
  let p ← locate 16 rm .rw
  let d ← p.get 16
  let v ← readReg 16 r
  if (rpl d).ult (rpl v) then
    setZf true
    p.put 16 (withRpl d (rpl v))
  else setZf false

/-- The MSR of an index (R930). -/
def findMsr (l : List Msr) (i : Word) : Option Msr := l.find? fun m => m.index == i

/-- RDMSR (R930): an index outside `msr_set` faults. -/
def readMsr : M Unit := do
  privileged
  let s ← get
  match findMsr s.msrs s.regs.ecx with
  | none => gp 0
  | some m =>
    let v := if m.role = .tsc then s.tsc else m.value
    writeReg 32 .edx (v.extractLsb' 32 32)
    writeReg 32 .eax (v.extractLsb' 0 32)

/-- The writable bits of an old value replaced. -/
def maskWrite (old new mask : BitVec 64) : BitVec 64 := (old &&& ~~~mask) ||| (new &&& mask)

/-- WRMSR (R931). -/
def writeMsr : M Unit := do
  privileged
  let s ← get
  let v : BitVec 64 := s.regs.edx ++ s.regs.eax
  match findMsr s.msrs s.regs.ecx with
  | none => gp 0
  | some m =>
    if m.role = .tsc then set { s with tsc := maskWrite s.tsc v m.mask }
    else set { s with msrs := s.msrs.map fun (x : Msr) => if x.index = m.index then ({ x with value := maskWrite x.value v x.mask } : Msr) else x }

/-- RDTSC (R932). -/
def readTsc : M Unit := do
  let s ← get
  require (!s.tsd || s.level == 0) (gp 0)
  writeReg 32 .edx (s.tsc.extractLsb' 32 32)
  writeReg 32 .eax (s.tsc.extractLsb' 0 32)

/-- HLT (R918). -/
def halt : M Unit := do
  privileged
  modify fun s => { s with run := .halted }
  emit .halt

/-- SLDT r/m16 (R905). -/
def execSldtRm16 (rm : RM) (s : State) : Host.Outcome State Fault Refusal :=
  runInstr (do
    protOnly
    let s ← get
    storeSel rm s.ldtr.sel) s

/-- STR r/m16 (R907). -/
def execStrRm16 (rm : RM) (s : State) : Host.Outcome State Fault Refusal :=
  runInstr (do
    protOnly
    let s ← get
    storeSel rm s.tr.sel) s

/-- LLDT r/m16 (R904). -/
def execLldtRm16 (rm : RM) (s : State) : Host.Outcome State Fault Refusal :=
  runInstr (do
    protOnly
    privileged
    let sel ← readRM 16 rm
    loadLdt sel) s

/-- LTR r/m16 (R906). -/
def execLtrRm16 (rm : RM) (s : State) : Host.Outcome State Fault Refusal :=
  runInstr (do
    protOnly
    privileged
    let sel ← readRM 16 rm
    loadTr sel) s

/-- VERR r/m16 (R923). -/
def execVerrRm16 (rm : RM) (s : State) : Host.Outcome State Fault Refusal :=
  runInstr (verify (fun d => d.readable) rm) s

/-- VERW r/m16 (R924). -/
def execVerwRm16 (rm : RM) (s : State) : Host.Outcome State Fault Refusal :=
  runInstr (verify (fun d => d.writable) rm) s

/-- SGDT m16&32 (R901). -/
def execSgdtM (m : MemOp) (s : State) : Host.Outcome State Fault Refusal :=
  runInstr (do
    let s ← get
    storeTable m s.gdtr) s

/-- SIDT m16&32 (R903). -/
def execSidtM (m : MemOp) (s : State) : Host.Outcome State Fault Refusal :=
  runInstr (do
    let s ← get
    storeTable m s.idtr) s

/-- LGDT m16&32 (R900). -/
def execLgdtM (m : MemOp) (s : State) : Host.Outcome State Fault Refusal :=
  runInstr (do
    let t ← readTable m
    modify fun s => { s with gdtr := t }) s

/-- LIDT m16&32 (R902). -/
def execLidtM (m : MemOp) (s : State) : Host.Outcome State Fault Refusal :=
  runInstr (do
    let t ← readTable m
    modify fun s => { s with idtr := t, smm := { s.smm with idtLoaded := true } }) s

/-- SMSW r/m16 (R911). -/
def execSmswRm16 (rm : RM) (s : State) : Host.Outcome State Fault Refusal :=
  runInstr (do
    let s ← get
    let v : Half := s.cr.cr0.setWidth 16
    match rm, s.os with
    | .reg r, .s32 => do
      let free ← draw 16
      writeReg 32 r (free ++ v)
    | _, _ => writeRM 16 rm v) s

/-- LMSW r/m16 (R912). -/
def execLmswRm16 (rm : RM) (s : State) : Host.Outcome State Fault Refusal :=
  runInstr (do
    privileged
    let v ← readRM 16 rm
    loadMsw v) s

/-- INVLPG m (R915). -/
def execInvlpgM (m : MemOp) (s : State) : Host.Outcome State Fault Refusal :=
  runInstr (invalidate m) s

/-- LAR r, r/m16 (R921). -/
def execLarRRm16 (rm : RM) (r : Reg) (s : State) : Host.Outcome State Fault Refusal :=
  runInstr (atOs (validate larValid larValue rm r)) s

/-- LSL r, r/m16 (R922). -/
def execLslRRm16 (rm : RM) (r : Reg) (s : State) : Host.Outcome State Fault Refusal :=
  runInstr (atOs (validate lslValid (fun d => pure d.limit) rm r)) s

/-- CLTS (R910). -/
def execClts (s : State) : Host.Outcome State Fault Refusal :=
  runInstr (do
    privileged
    modify fun s => { s with cr := { s.cr with cr0 := s.cr.cr0 &&& 0xFFFFFFF7 } }) s

/-- INVD (R916). -/
def execInvd (s : State) : Host.Outcome State Fault Refusal :=
  runInstr (do
    privileged
    emit .flush) s

/-- WBINVD (R917). -/
def execWbinvd (s : State) : Host.Outcome State Fault Refusal :=
  runInstr (do
    privileged
    emit .writeBack
    emit .flush) s

/-- MOV r32, CRn (R913). -/
def execMovR32Cr (n : BitVec 3) (r : Reg) (s : State) : Host.Outcome State Fault Refusal :=
  runInstr (readCr n r) s

/-- MOV CRn, r32 (R913). -/
def execMovCrR32 (n : BitVec 3) (r : Reg) (s : State) : Host.Outcome State Fault Refusal :=
  runInstr (writeCr n r) s

/-- MOV r32, DRn (R914). -/
def execMovR32Dr (n : BitVec 3) (r : Reg) (s : State) : Host.Outcome State Fault Refusal :=
  runInstr (readDr n r) s

/-- MOV DRn, r32 (R914). -/
def execMovDrR32 (n : BitVec 3) (r : Reg) (s : State) : Host.Outcome State Fault Refusal :=
  runInstr (writeDr n r) s

/-- MOV r32, TRn (R919). -/
def execMovR32Tr (_n : BitVec 3) (_r : Reg) (s : State) : Host.Outcome State Fault Refusal :=
  runInstr (ud) s

/-- MOV TRn, r32 (R919). -/
def execMovTrR32 (_n : BitVec 3) (_r : Reg) (s : State) : Host.Outcome State Fault Refusal :=
  runInstr (ud) s

/-- WRMSR (R931). -/
def execWrmsr (s : State) : Host.Outcome State Fault Refusal :=
  runInstr (writeMsr) s

/-- RDTSC (R932). -/
def execRdtsc (s : State) : Host.Outcome State Fault Refusal :=
  runInstr (readTsc) s

/-- RDMSR (R930). -/
def execRdmsr (s : State) : Host.Outcome State Fault Refusal :=
  runInstr (readMsr) s

/-- RSM (R1460). -/
def execRsm (s : State) : Host.Outcome State Fault Refusal :=
  runInstr (resume) s

/-- HLT (R918). -/
def execHlt (s : State) : Host.Outcome State Fault Refusal :=
  runInstr (halt) s

/-- ARPL r/m16, r16 (R920). -/
def execArplRm16R16 (rm : RM) (r : Reg) (s : State) : Host.Outcome State Fault Refusal :=
  runInstr (adjustRpl rm r) s

end Sys2Proof.Machine
end

