-- ==== Sys2Proof/Machine/FpuNum.lean ====
section
/-! DEFINITION. Floating-point numerics as pure functions (12_state_fpu.md R1014 to R1019, 47_fpu_numerics.md R1030 to R1070):
formats, exact values, rounding, overflow and underflow, NaNs, the special-value tables. -/

namespace Sys2Proof.Machine

open Sys2Proof

/-- An extended real (12_state_fpu.md R1015): sign, 15 exponent bits, 64 significand bits with an explicit integer bit. -/
abbrev Ext := BitVec 80

/-- Sign. -/
def Ext.neg (x : Ext) : Bool := BitVec.msb x
/-- Biased exponent. -/
def Ext.be (x : Ext) : Nat := (x.extractLsb' 64 15).toNat
/-- Significand. -/
def Ext.sig (x : Ext) : BitVec 64 := x.extractLsb' 0 64
/-- Assemble an extended real. -/
def Ext.mk (neg : Bool) (be sig : Nat) : Ext := (BitVec.ofBool neg ++ BitVec.ofNat 15 be) ++ BitVec.ofNat 64 sig
/-- The same value with another sign. -/
def Ext.withSign (x : Ext) (neg : Bool) : Ext := BitVec.ofBool neg ++ x.extractLsb' 0 79

/-- Zero (R1017). -/
def Ext.zero (neg : Bool) : Ext := Ext.mk neg 0 0
/-- Infinity (R1017). -/
def Ext.inf (neg : Bool) : Ext := Ext.mk neg 0x7FFF (2 ^ 63)
/-- The real indefinite (R1045). -/
def Ext.indefinite : Ext := 0xFFFFC000000000000000#80
/-- 1.0. -/
def Ext.one (neg : Bool) : Ext := Ext.mk neg 0x3FFF (2 ^ 63)

/-- The encoding classes of an extended real (R1017). A pseudodenormal is a denormal (47_fpu_numerics.md R1055). -/
inductive Cls where
  | zero | denormal | normal | inf | qnan | snan | unsupported
  deriving DecidableEq, Repr

/-- The class of an extended real (R1017). -/
def Ext.cls (x : Ext) : Cls :=
  let j := bit (Ext.sig x) 63
  let f := (Ext.sig x).extractLsb' 0 63
  if Ext.be x = 0 then (if Ext.sig x = 0 then .zero else .denormal)
  else if !j then .unsupported
  else if Ext.be x = 0x7FFF then (if f = 0 then .inf else if bit f 62 then .qnan else .snan)
  else .normal

/-- A NaN. -/
def Cls.isNan (c : Cls) : Bool := c == .qnan || c == .snan

/-- An exact value: `(-1)^neg * sig * 2^exp`, or, with `sticky`, a value strictly between that and the one with `sig + 1`. -/
structure Dy where
  neg : Bool
  sig : Nat
  exp : Int
  sticky : Bool
  deriving DecidableEq, Repr

/-- The value of a finite extended real (R1015). -/
def Ext.dy (x : Ext) : Dy :=
  { neg := Ext.neg x, sig := (Ext.sig x).toNat, exp := (max (Ext.be x) 1 : Nat) - 16446, sticky := false }

/-- The number of bits of a natural number. -/
def bitLen (n : Nat) : Nat := if n = 0 then 0 else Nat.log2 n + 1

/-- The unbiased exponent of a non-zero value: its leading bit has weight `2^e`. -/
def Dy.top (d : Dy) : Int := d.exp + bitLen d.sig - 1

/-- A rounded integer and what happened. -/
structure Rnd where
  sig : Nat
  inexact : Bool
  up : Bool
  deriving DecidableEq, Repr

/-- Drop `k` bits of a magnitude, rounding under RC (R1031). -/
def roundShift (rc : BitVec 2) (neg : Bool) (sig k : Nat) (sticky : Bool) : Rnd :=
  let lo := sig >>> k
  let rem := sig % 2 ^ k
  let half := if k = 0 then 0 else 2 ^ (k - 1)
  let inexact := rem != 0 || sticky
  let above := k != 0 && (decide (half < rem) || (rem == half && sticky))
  let tie := k != 0 && rem == half && !sticky
  let up := inexact && (match rc.toNat with
    | 0 => above || (tie && lo % 2 == 1)
    | 1 => neg
    | 2 => !neg
    | _ => false)
  { sig := if up then lo + 1 else lo, inexact := inexact, up := up }

/-- A value rounded to `p` bits with unbounded exponent: `sig` has `p` bits and its leading bit has weight `2^top` (R1031). -/
structure RndP where
  sig : Nat
  top : Int
  inexact : Bool
  up : Bool
  deriving DecidableEq, Repr

/-- `round_p` (R1031) of a non-zero value. -/
def roundP (rc : BitVec 2) (p : Nat) (d : Dy) : RndP :=
  let l := bitLen d.sig
  if l ≤ p then { sig := d.sig <<< (p - l), top := d.top, inexact := d.sticky, up := false }
  else
    let r := roundShift rc d.neg d.sig (l - p) d.sticky
    if r.sig = 2 ^ p then { sig := 2 ^ (p - 1), top := d.top + 1, inexact := r.inexact, up := r.up }
    else { sig := r.sig, top := d.top, inexact := r.inexact, up := r.up }

/-- A binary format: `p` significand bits, exponent bias, and whether it is a register (R1032, R1033). -/
structure Fmt where
  p : Nat
  bias : Nat
  reg : Bool
  deriving DecidableEq, Repr

/-- Single real (R1015). -/
def Fmt.single : Fmt := { p := 24, bias := 127, reg := false }
/-- Double real (R1015). -/
def Fmt.double : Fmt := { p := 53, bias := 1023, reg := false }
/-- A register at 64 bits of precision. -/
def Fmt.ext : Fmt := { p := 64, bias := 16383, reg := true }

/-- The control word's masks and modes (12_state_fpu.md R1006). -/
def cwIm (cw : Half) : Bool := bit cw 0
/-- DM. -/
def cwDm (cw : Half) : Bool := bit cw 1
/-- ZM. -/
def cwZm (cw : Half) : Bool := bit cw 2
/-- OM. -/
def cwOm (cw : Half) : Bool := bit cw 3
/-- UM. -/
def cwUm (cw : Half) : Bool := bit cw 4
/-- PM. -/
def cwPm (cw : Half) : Bool := bit cw 5
/-- PC. -/
def cwPc (cw : Half) : BitVec 2 := cw.extractLsb' 8 2
/-- RC. -/
def cwRc (cw : Half) : BitVec 2 := cw.extractLsb' 10 2

/-- The register format that precision control selects (R1033); PC = 01 is refused before this is asked. -/
def Fmt.ofPc (cw : Half) : Fmt :=
  { Fmt.ext with p := match (cwPc cw).toNat with
      | 0 => 24
      | 2 => 53
      | _ => 64 }

/-- A number delivered in a format: biased exponent and significand with its integer bit; `stored` is false when an
unmasked overflow or underflow keeps it from memory (R1067, R1068). -/
structure Delivered where
  be : Nat
  sig : Nat
  oe : Bool
  ue : Bool
  pe : Bool
  up : Bool
  stored : Bool
  deriving DecidableEq, Repr

/-- The masked response to overflow (R1067, Table 7-12): infinity, or the largest finite number. -/
def overflowValue (f : Fmt) (rc : BitVec 2) (neg : Bool) : Delivered :=
  let toInf := match rc.toNat with
    | 0 => true
    | 1 => neg
    | 2 => !neg
    | _ => false
  { be := if toInf then 2 * f.bias + 1 else 2 * f.bias, sig := if toInf then 2 ^ (f.p - 1) else 2 ^ f.p - 1, oe := true, ue := false,
    pe := true, up := toInf, stored := true }

/-- Round a non-zero value into a format, with overflow, underflow and precision (R1031, R1067, R1068, R1069); `tiny` says that the exact
value is below the smallest normal number. -/
def finishAs (tiny : Bool) (f : Fmt) (cw : Half) (d : Dy) : Delivered :=
  let rc := cwRc cw
  let r := roundP rc f.p d
  if (f.bias : Int) < r.top then
    if cwOm cw then overflowValue f rc d.neg
    else if f.reg then
      let e := r.top - 24576
      if (f.bias : Int) < e then
        { be := 2 * f.bias + 1, sig := 2 ^ (f.p - 1), oe := true, ue := false, pe := r.inexact, up := r.up, stored := true }
      else { be := (e + f.bias).toNat, sig := r.sig, oe := true, ue := false, pe := r.inexact, up := r.up, stored := true }
    else { be := 0, sig := 0, oe := true, ue := false, pe := false, up := false, stored := false }
  else if tiny then
    if cwUm cw then
      -- the least significant bit of a denormal has weight 2^(Emin - p + 1)
      let lsb : Int := 2 - (f.bias : Int) - f.p
      let t : Rnd := if d.exp < lsb then roundShift rc d.neg d.sig (lsb - d.exp).toNat d.sticky
        else { sig := d.sig <<< (d.exp - lsb).toNat, inexact := false, up := false }
      { be := if 2 ^ (f.p - 1) ≤ t.sig then 1 else 0, sig := t.sig, oe := false, ue := t.inexact, pe := t.inexact, up := t.up,
        stored := true }
    else if f.reg then
      let e := r.top + 24576
      if e < 1 - (f.bias : Int) then { be := 0, sig := 0, oe := false, ue := true, pe := r.inexact, up := r.up, stored := true }
      else { be := (e + f.bias).toNat, sig := r.sig, oe := false, ue := true, pe := r.inexact, up := r.up, stored := true }
    else { be := 0, sig := 0, oe := false, ue := true, pe := false, up := false, stored := false }
  else { be := (r.top + f.bias).toNat, sig := r.sig, oe := false, ue := false, pe := r.inexact, up := r.up, stored := true }

/-- `finishAs` of an exact value. -/
def finish (f : Fmt) (cw : Half) (d : Dy) : Delivered := finishAs (decide (d.top < 1 - (f.bias : Int))) f cw d

/-- What an operation does to the FPU: exception flags raised, C1 where PE fixes it, and its result; `none`: an unmasked exception keeps the
operands as they were (R1060, R1101). -/
structure Num where
  ie : Bool
  de : Bool
  ze : Bool
  oe : Bool
  ue : Bool
  pe : Bool
  c1 : Bool
  res : Option Ext
  deriving DecidableEq, Repr

/-- A result without exceptions. -/
def Num.exact (v : Ext) : Num :=
  { ie := false, de := false, ze := false, oe := false, ue := false, pe := false, c1 := false, res := some v }

/-- Invalid operation with masked response `v` (R1063). -/
def Num.invalid (cw : Half) (v : Ext) : Num := { Num.exact v with ie := true, res := if cwIm cw then some v else none }

/-- Zero divide with masked response `v` (R1064). -/
def Num.zeroDivide (cw : Half) (v : Ext) : Num := { Num.exact v with ze := true, res := if cwZm cw then some v else none }

/-- The denormal-operand exception on top of a result: an unmasked exception of higher priority has decided already (R1065, R1070). -/
def Num.denormal (cw : Half) (den : Bool) (n : Num) : Num :=
  if den && n.res.isSome then
    if cwDm cw then { n with de := true }
    else { n with de := true, oe := false, ue := false, pe := false, c1 := false, res := none }
  else n

/-- A denormal beside an invalid operation counts once the invalid operation is masked; beside a QNaN nothing else does (R1070). -/
def Num.besideDenormal (cw : Half) (den : Bool) (n : Num) : Num := if n.ie then n.denormal cw den else n

/-- A delivered register value as a result; an exact zero has the sign given. -/
def Num.ofDelivered (f : Fmt) (neg : Bool) (r : Delivered) : Num :=
  { ie := false, de := false, ze := false, oe := r.oe, ue := r.ue, pe := r.pe, c1 := r.pe && r.up,
    res := some (Ext.mk neg r.be (r.sig <<< (64 - f.p))) }

/-- Round an exact value into a register; an exact zero gets sign `zneg`. -/
def Num.round (f : Fmt) (cw : Half) (zneg : Bool) (d : Dy) : Num :=
  if d.sig = 0 && !d.sticky then Num.exact (Ext.zero zneg) else Num.ofDelivered f d.neg (finish f cw d)

/-- An SNaN made quiet; other values stay (R1047). -/
def Ext.quiet (x : Ext) : Ext := x ||| 0x00004000000000000000#80

/-- The NaN of two that is delivered (R1047, Table 7-10): the QNaN of a QNaN and an SNaN, else the larger significand. `tie` decides
between equal significands of different signs, which the spec leaves open (U34). -/
def pickNan (tie : Bool) (x y : Ext) : Ext :=
  if !(Ext.cls x).isNan then Ext.quiet y
  else if !(Ext.cls y).isNan then Ext.quiet x
  else if Ext.cls x = .qnan && Ext.cls y = .snan then x
  else if Ext.cls x = .snan && Ext.cls y = .qnan then y
  else if Ext.sig x = Ext.sig y then (if tie then Ext.quiet x else Ext.quiet y)
  else if (Ext.sig y).ult (Ext.sig x) then Ext.quiet x
  else Ext.quiet y

/-- Unsupported operands, SNaNs and QNaNs of a two-operand operation, in the order of R1070; `none` if there are none. -/
def nanCase (cw : Half) (tie : Bool) (x y : Ext) : Option Num :=
  if Ext.cls x = .unsupported || Ext.cls y = .unsupported then some (Num.invalid cw Ext.indefinite)
  else if Ext.cls x = .snan || Ext.cls y = .snan then some (Num.invalid cw (pickNan tie x y))
  else if Ext.cls x = .qnan || Ext.cls y = .qnan then some (Num.exact (pickNan tie x y))
  else none

/-- The same for one operand. -/
def nanCase1 (cw : Half) (x : Ext) : Option Num := nanCase cw true x x

/-- The operations of R1112. -/
inductive FOp where
  | add | sub | subr | mul | div | divr
  deriving DecidableEq, Repr

/-- The exact sum of two values (without sticky parts). -/
def addDy (a b : Dy) : Dy :=
  let e := min a.exp b.exp
  let m (d : Dy) : Int := (if d.neg then -1 else 1) * ((d.sig <<< (d.exp - e).toNat : Nat) : Int)
  let t := m a + m b
  { neg := decide (t < 0), sig := t.natAbs, exp := e, sticky := false }

/-- Addition of two values that are no NaNs (R1040, R1041). -/
def addExt (f : Fmt) (cw : Half) (x y : Ext) : Num :=
  match Ext.cls x, Ext.cls y with
  | .inf, .inf => if Ext.neg x = Ext.neg y then Num.exact x else Num.invalid cw Ext.indefinite
  | .inf, _ => Num.exact x
  | _, .inf => Num.exact y
  | .zero, .zero => Num.exact (Ext.zero (if Ext.neg x = Ext.neg y then Ext.neg x else cwRc cw == 1))
  | _, _ => Num.round f cw (cwRc cw == 1) (addDy (Ext.dy x) (Ext.dy y))

/-- Multiplication (R1040, R1041). -/
def mulExt (f : Fmt) (cw : Half) (x y : Ext) : Num :=
  let n := Ext.neg x != Ext.neg y
  match Ext.cls x, Ext.cls y with
  | .inf, .zero => Num.invalid cw Ext.indefinite
  | .zero, .inf => Num.invalid cw Ext.indefinite
  | .inf, _ => Num.exact (Ext.inf n)
  | _, .inf => Num.exact (Ext.inf n)
  | .zero, _ => Num.exact (Ext.zero n)
  | _, .zero => Num.exact (Ext.zero n)
  | _, _ =>
    let a := Ext.dy x
    let b := Ext.dy y
    Num.round f cw n { neg := n, sig := a.sig * b.sig, exp := a.exp + b.exp, sticky := false }

/-- The exact quotient of two non-zero values to more than 66 bits. -/
def divDy (a b : Dy) : Dy :=
  let num := a.sig <<< 130
  { neg := a.neg != b.neg, sig := num / b.sig, exp := a.exp - b.exp - 130, sticky := num % b.sig != 0 }

/-- Division (R1040, R1041, R1064). -/
def divExt (f : Fmt) (cw : Half) (x y : Ext) : Num :=
  let n := Ext.neg x != Ext.neg y
  match Ext.cls x, Ext.cls y with
  | .inf, .inf => Num.invalid cw Ext.indefinite
  | .zero, .zero => Num.invalid cw Ext.indefinite
  | .inf, _ => Num.exact (Ext.inf n)
  | _, .inf => Num.exact (Ext.zero n)
  | .zero, _ => Num.exact (Ext.zero n)
  | _, .zero => Num.zeroDivide cw (Ext.inf n)
  | _, _ => Num.round f cw n (divDy (Ext.dy x) (Ext.dy y))

/-- A denormal operand (R1065). -/
def Ext.isDen (x : Ext) : Bool := Ext.cls x == .denormal

/-- One of the six operations on destination `d` and source `s` (R1112, R1070); `den` says that the source was a denormal
in memory. -/
def arith (op : FOp) (f : Fmt) (cw : Half) (tie den : Bool) (d s : Ext) : Num :=
  match nanCase cw tie d s with
  | some n => n.besideDenormal cw (Ext.isDen d || Ext.isDen s || den)
  | none =>
    let flip (x : Ext) : Ext := Ext.withSign x (!Ext.neg x)
    let n := match op with
      | .add => addExt f cw d s
      | .sub => addExt f cw d (flip s)
      | .subr => addExt f cw s (flip d)
      | .mul => mulExt f cw d s
      | .div => divExt f cw d s
      | .divr => divExt f cw s d
    n.denormal cw (Ext.isDen d || Ext.isDen s || den)

/-- The integer square root of `n` below `r + 2^b`, bit by bit. -/
def isqrt (n : Nat) : Nat → Nat → Nat
  | 0, r => r
  | b + 1, r => if (r + 2 ^ b) * (r + 2 ^ b) ≤ n then isqrt n b (r + 2 ^ b) else isqrt n b r

/-- The square root of a positive value to more than 66 bits. -/
def sqrtDy (d : Dy) : Dy :=
  let k : Nat := if d.exp % 2 = 0 then 140 else 141
  let n := d.sig <<< k
  let r := isqrt n 104 0
  { neg := false, sig := r, exp := (d.exp - k) / 2, sticky := r * r != n }

/-- FSQRT (48_fpu_instructions.md R1130). -/
def sqrtExt (f : Fmt) (cw : Half) (x : Ext) : Num :=
  match nanCase1 cw x with
  | some n => n
  | none =>
    let n := match Ext.cls x, Ext.neg x with
      | .zero, _ => Num.exact x
      | _, true => Num.invalid cw Ext.indefinite
      | .inf, _ => Num.exact x
      | _, _ => Num.round f cw false (sqrtDy (Ext.dy x))
    n.denormal cw (Ext.isDen x)

/-- A value rounded to an integer under RC (R1037): magnitude, and what happened. -/
def roundInt (rc : BitVec 2) (d : Dy) : Rnd :=
  if d.exp < 0 then roundShift rc d.neg d.sig (-d.exp).toNat d.sticky
  else { sig := d.sig <<< d.exp.toNat, inexact := false, up := false }

/-- FRNDINT (R1135). For 1/2 < |X| < 1 under rounding to nearest the rule says both "rounded under RC", which gives 1, and "RC not up gives +0";
the rounding is followed, the model's choice (notes/assumptions/57.md). -/
def rndintExt (cw : Half) (x : Ext) : Num :=
  match nanCase1 cw x with
  | some n => n
  | none =>
    let n := match Ext.cls x with
      | .zero => Num.exact x
      | .inf => Num.exact x
      | _ =>
        let r := roundInt (cwRc cw) (Ext.dy x)
        let v := Num.round .ext cw (Ext.neg x) { neg := Ext.neg x, sig := r.sig, exp := 0, sticky := false }
        { v with pe := r.inexact, c1 := r.up }
    n.denormal cw (Ext.isDen x)

/-- An integer as an extended real, exact below 2^64 (R1035). -/
def extOfInt (n : Int) : Ext :=
  if n = 0 then Ext.zero false
  else
    let m := n.natAbs
    Ext.mk (decide (n < 0)) (16382 + bitLen m) (m <<< (64 - bitLen m))

/-- The result is not a number that scaling by 2^24576 brought back into range: infinity or zero (R1067, R1068). -/
def Num.beyond (cw : Half) (n : Num) : Bool :=
  ((n.oe && !cwOm cw) || (n.ue && !cwUm cw)) && n.res.any fun v => Ext.cls v == .inf || Ext.cls v == .zero

/-- FSCALE (R1131, R1040, R1041): the scale is chopped to an integer; beyond 65536 it makes no difference. For a scaled result that still
overflows or is still tiny the rules give the value only: PE and C1 are the draws `pe` and `up` (R1067, R1068, notes/assumptions/61.md). -/
def scaleExt (cw : Half) (tie pe up : Bool) (x y : Ext) : Num :=
  match nanCase cw tie x y with
  | some n => n.besideDenormal cw (Ext.isDen x || Ext.isDen y)
  | none =>
    let n := match Ext.cls x, Ext.cls y with
      | .inf, .inf => if Ext.neg y then Num.invalid cw Ext.indefinite else Num.exact x
      | .inf, _ => Num.exact x
      | .zero, .inf => if Ext.neg y then Num.exact x else Num.invalid cw Ext.indefinite
      | .zero, _ => Num.exact x
      | _, .inf => if Ext.neg y then Num.exact (Ext.zero (Ext.neg x)) else Num.exact (Ext.inf (Ext.neg x))
      | _, _ =>
        let m := min (roundInt 3 (Ext.dy y)).sig 65536
        let d := Ext.dy x
        let r := Num.round .ext cw (Ext.neg x) { d with exp := d.exp + (if Ext.neg y then -(m : Int) else m) }
        if r.beyond cw then { r with pe := pe, c1 := pe && up } else r
    n.denormal cw (Ext.isDen x || Ext.isDen y)

/-- A partial remainder: the result, whether the reduction is complete, and the low quotient bits (R1133, R1134). -/
structure Prem where
  num : Num
  done : Bool
  q : Nat
  deriving DecidableEq, Repr

/-- The remainder of two non-zero finite values (R1133); `near` rounds the quotient to nearest (R1134); `step` is the
implementation's choice of how much one execution reduces. The partial quotient of an incomplete FPREM1 is truncated as FPREM's is (the model's
choice: notes/assumptions/74.md). -/
def premFinite (near : Bool) (step : Nat) (cw : Half) (x y : Ext) : Prem :=
  let a := Ext.dy x
  let b := Ext.dy y
  let gap := a.top - b.top
  let e := min a.exp b.exp
  let m := a.sig <<< (a.exp - e).toNat
  let n := b.sig <<< (b.exp - e).toNat
  if gap < 64 then
    let q := m / n
    let r := m % n
    let up := near && (decide (n < 2 * r) || (decide (2 * r = n) && q % 2 == 1))
    let neg := if up then !Ext.neg x else Ext.neg x
    { num := Num.round .ext cw (Ext.neg x) { neg := neg, sig := if up then n - r else r, exp := e, sticky := false }, done := true,
      q := if up then q + 1 else q }
  else
    let keep := 32 + step % 32
    let r := m % (n <<< (gap - keep).toNat)
    { num := Num.round .ext cw (Ext.neg x) { neg := Ext.neg x, sig := r, exp := e, sticky := false }, done := false, q := 0 }

/-- FPREM and FPREM1 (R1133, R1134, R1040, R1041). -/
def premExt (near : Bool) (step : Nat) (cw : Half) (tie : Bool) (x y : Ext) : Prem :=
  match nanCase cw tie x y with
  | some n => { num := n.besideDenormal cw (Ext.isDen x || Ext.isDen y), done := true, q := 0 }
  | none =>
    let r : Prem := match Ext.cls x, Ext.cls y with
      | .inf, _ => { num := Num.invalid cw Ext.indefinite, done := true, q := 0 }
      | _, .zero => { num := Num.invalid cw Ext.indefinite, done := true, q := 0 }
      | _, .inf => { num := Num.exact x, done := true, q := 0 }
      | .zero, _ => { num := Num.exact x, done := true, q := 0 }
      | _, _ => premFinite near step cw x y
    { r with num := r.num.denormal cw (Ext.isDen x || Ext.isDen y) }

/-- The order of two values that are no NaNs (R1120, R1041). -/
def compareExt (x y : Ext) : Ordering :=
  let rank (v : Ext) : Int := if Ext.cls v = .inf then (if Ext.neg v then -1 else 1) else 0
  if rank x = 0 && rank y = 0 then
    let a := Ext.dy x
    let b := Ext.dy y
    let t := addDy a { b with neg := !b.neg }
    if t.sig = 0 then .eq else if t.neg then .lt else .gt
  else compare (rank x) (rank y)

/-- A single or double real widened to extended (R1035, R1016): the value and whether it was a denormal. `e` and `f` are the
numbers of exponent and fraction bits. -/
def widen (e f : Nat) (v : BitVec (1 + e + f)) : Ext × Bool :=
  let neg := v.msb
  let be := (v.extractLsb' f e).toNat
  let fr := (v.extractLsb' 0 f).toNat
  let bias := 2 ^ (e - 1) - 1
  if be = 0 then
    if fr = 0 then (Ext.zero neg, false)
    else
      -- normalised exactly: value fr * 2^(1 - bias - f)
      (Ext.mk neg (16383 + bitLen fr - bias - f) (fr <<< (64 - bitLen fr)), true)
  else if be = 2 ^ e - 1 then (Ext.mk neg 0x7FFF (2 ^ 63 + fr <<< (63 - f)), false)
  else (Ext.mk neg (be + 16383 - bias) (2 ^ 63 + fr <<< (63 - f)), false)

/-- Single real to extended. -/
def widen32 (v : BitVec 32) : Ext × Bool := widen 8 23 (v.setWidth 32)
/-- Double real to extended. -/
def widen64 (v : BitVec 64) : Ext × Bool := widen 11 52 (v.setWidth 64)

/-- What a store to memory does: flags, C1 where PE fixes it, and the value stored, if any. -/
structure Narrow where
  ie : Bool
  de : Bool
  oe : Bool
  ue : Bool
  pe : Bool
  c1 : Bool
  out : Option Nat
  deriving DecidableEq, Repr

/-- A store without exceptions. -/
def Narrow.exact (v : Nat) : Narrow := { ie := false, de := false, oe := false, ue := false, pe := false, c1 := false, out := some v }

/-- A store with invalid operation and masked response `v`. -/
def Narrow.invalid (cw : Half) (v : Nat) : Narrow := { Narrow.exact v with ie := true, out := if cwIm cw then some v else none }

/-- A conversion that takes a denormal operand as one (R1030, R1065): unmasked, nothing is stored. -/
def takesDenormal (f : Half → Ext → Narrow) (cw : Half) (x : Ext) : Narrow :=
  if Ext.isDen x then
    if cwDm cw then { f cw x with de := true } else { Narrow.exact 0 with de := true, out := none }
  else f cw x

/-- The bits of a number in a memory format of `e` exponent and `f` fraction bits. -/
def packReal (e f : Nat) (neg : Bool) (be sig : Nat) : Nat := neg.toNat * 2 ^ (e + f) + be * 2 ^ f + sig % 2 ^ f

/-- The real indefinite of a memory format (R1016). -/
def indefiniteReal (e f : Nat) : Nat := packReal e f true (2 ^ e - 1) (2 ^ (f - 1))

/-- FST and FSTP to single or double (R1036). -/
def narrow (fmt : Fmt) (e f : Nat) (cw : Half) (x : Ext) : Narrow :=
  let nan : Nat := packReal e f (Ext.neg x) (2 ^ e - 1) ((Ext.sig (Ext.quiet x)).toNat >>> (63 - f))
  match Ext.cls x with
  | .unsupported => Narrow.invalid cw (indefiniteReal e f)
  | .snan => Narrow.invalid cw nan
  | .qnan => Narrow.exact nan
  | .inf => Narrow.exact (packReal e f (Ext.neg x) (2 ^ e - 1) 0)
  | .zero => Narrow.exact (packReal e f (Ext.neg x) 0 0)
  | _ =>
    let r := finish fmt cw (Ext.dy x)
    { ie := false, de := false, oe := r.oe, ue := r.ue, pe := r.pe, c1 := r.pe && r.up,
      out := if r.stored then some (packReal e f (Ext.neg x) r.be r.sig) else none }

/-- FIST and FISTP (R1037): `n` bits. For 1/2 < |X| < 1 under rounding to nearest the rule says both "rounds ST to an integer under RC", which gives 1,
and "stores 0": the rounding is followed, the model's choice (notes/assumptions/57.md). -/
def toInteger (n : Nat) (cw : Half) (x : Ext) : Narrow :=
  match Ext.cls x with
  | .zero => Narrow.exact 0
  | .denormal => go (Ext.dy x)
  | .normal => go (Ext.dy x)
  | _ => Narrow.invalid cw (2 ^ (n - 1))
where
  /-- A finite non-zero value. -/
  go (d : Dy) : Narrow :=
    let r := roundInt (cwRc cw) d
    if (if d.neg then r.sig ≤ 2 ^ (n - 1) else r.sig < 2 ^ (n - 1)) then
      { Narrow.exact (if d.neg then (2 ^ n - r.sig) % 2 ^ n else r.sig) with pe := r.inexact, c1 := r.up }
    else Narrow.invalid cw (2 ^ (n - 1))

/-- The digits of a number in packed decimal, `k` digits from the least significant. -/
def toDigits : Nat → Nat → Nat
  | 0, _ => 0
  | k + 1, n => n % 10 + 16 * toDigits k (n / 10)

/-- FBSTP (R1038): `free` fills the bytes of the packed decimal indefinite that are undefined (12_state_fpu.md R1019). -/
def toDecimal (free : BitVec 64) (cw : Half) (x : Ext) : Narrow :=
  match Ext.cls x with
  | .zero => Narrow.exact ((Ext.neg x).toNat * 2 ^ 79)
  | .denormal => go (Ext.dy x)
  | .normal => go (Ext.dy x)
  | _ => Narrow.invalid cw (0xFFFF * 2 ^ 64 + free.toNat)
where
  /-- A finite non-zero value. -/
  go (d : Dy) : Narrow :=
    let r := roundInt (cwRc cw) d
    if r.sig < 10 ^ 18 then
      { Narrow.exact (d.neg.toNat * 2 ^ 79 + toDigits 18 r.sig) with pe := r.inexact, c1 := r.up }
    else Narrow.invalid cw (0xFFFF * 2 ^ 64 + free.toNat)

/-- The value of `k` packed decimal digits; `none` if one is not a digit. -/
def fromDigits : Nat → Nat → Option Nat
  | 0, _ => some 0
  | k + 1, n => if 9 < n % 16 then none else (fromDigits k (n / 16)).map fun h => n % 16 + 10 * h

/-- FBLD (R1109): `none` for a pattern that is no packed decimal number. -/
def fromDecimal (v : Ext) : Option Ext :=
  (fromDigits 18 (v.toNat % 2 ^ 72)).map fun m => Ext.withSign (extOfInt m) (Ext.neg v)

/-- `tagof` (12_state_fpu.md R1009). -/
def tagOf (x : Ext) : Nat :=
  match Ext.cls x with
  | .zero => 1
  | .normal => 0
  | _ => 2

/-- The codes C3, C2, C0 of FXAM (R1126). That a pseudodenormal, which the table does not name, gets the code of a denormal is the model's choice
(47_fpu_numerics.md R1055, notes/assumptions/80.md). -/
def examine (empty : Bool) (x : Ext) : Bool × Bool × Bool :=
  if empty then (true, false, true)
  else match Ext.cls x with
    | .unsupported => (false, false, false)
    | .qnan => (false, false, true)
    | .snan => (false, false, true)
    | .normal => (false, true, false)
    | .inf => (false, true, true)
    | .zero => (true, false, false)
    | .denormal => (true, true, false)

/-- The significands of the constants, chopped to 64 bits, with the biased exponent and whether rounding to nearest goes up (R1140). -/
structure Const where
  be : Nat
  chopped : Nat
  nearUp : Bool
  exact : Bool
  deriving DecidableEq, Repr

/-- A constant under RC (R1140): positive, so only rounding up and to nearest can go up. -/
def Const.value (c : Const) (rc : BitVec 2) : Ext :=
  let up := !c.exact && (match rc.toNat with
    | 0 => c.nearUp
    | 2 => true
    | _ => false)
  Ext.mk false c.be (if up then c.chopped + 1 else c.chopped)

/-- +1.0. -/
def Const.one : Const := { be := 0x3FFF, chopped := 0x8000000000000000, nearUp := false, exact := true }
/-- log2(10). -/
def Const.l2t : Const := { be := 0x4000, chopped := 0xD49A784BCD1B8AFE, nearUp := false, exact := false }
/-- log2(e). -/
def Const.l2e : Const := { be := 0x3FFF, chopped := 0xB8AA3B295C17F0BB, nearUp := true, exact := false }
/-- pi. -/
def Const.pi : Const := { be := 0x4000, chopped := 0xC90FDAA22168C234, nearUp := true, exact := false }
/-- log10(2). -/
def Const.lg2 : Const := { be := 0x3FFD, chopped := 0x9A209A84FBCFF798, nearUp := true, exact := false }
/-- ln(2). -/
def Const.ln2 : Const := { be := 0x3FFE, chopped := 0xB17217F7D1CF79AB, nearUp := true, exact := false }
/-- +0.0. -/
def Const.zero : Const := { be := 0, chopped := 0, nearUp := false, exact := true }

/-- pi to 128 bits; the exact value is a little larger. PRESUMED beyond the 66 bits of R1034 (notes/assumptions/17.md). -/
def piBits : Nat := 0xC90FDAA22168C234C4C6628B80DC1CD1

/-- `k * pi / 4` with a sign, as an exact value (R1040, R1041: FPATAN). -/
def piQuarters (k : Nat) (neg : Bool) : Dy := { neg := neg, sig := k * piBits, exp := -128, sticky := true }

/-- The case a transcendental instruction is in (R1034, R1040, R1041). -/
inductive TCase where
  /-- A value the tables fix exactly. -/
  | exact (v : Ext)
  /-- An exact value that must be rounded. -/
  | rounded (d : Dy)
  | invalid
  | zeroDivide (neg : Bool)
  /-- The operand is out of range: C2 = 1, nothing changes. -/
  | outOfRange
  /-- A value within the error bound (U33). -/
  | general
  /-- A zero whose sign the spec does not state. -/
  | zeroFree
  /-- The spec states no result, or calls it undefined (U35). -/
  | free
  deriving DecidableEq, Repr

/-- |x| is at least 2^63 (R1145). -/
def bigArg (x : Ext) : Bool := decide (63 ≤ (Ext.dy x).top)

/-- FSIN, FCOS, FSINCOS, FPTAN: their special operands (R1145 to R1147). -/
def trigCase (zero : Ext → Ext) (x : Ext) : TCase :=
  match Ext.cls x with
  | .zero => .exact (zero x)
  | .inf => .invalid
  | _ => if bigArg x then .outOfRange else .general

/-- F2XM1 (R1149). -/
def f2xm1Case (x : Ext) : TCase :=
  match Ext.cls x with
  | .zero => .exact x
  | .inf => if Ext.neg x then .exact (Ext.one true) else .exact x
  | _ => if (Ext.dy x).top < 0 then .general else .free

/-- FPATAN of `y / x` (R1148, R1040, R1041). -/
def fpatanCase (y x : Ext) : TCase :=
  let n := Ext.neg y
  match Ext.cls y, Ext.cls x with
  | .inf, .inf => .rounded (piQuarters (if Ext.neg x then 3 else 1) n)
  | .inf, _ => .rounded (piQuarters 2 n)
  | .zero, _ => if Ext.neg x then .rounded (piQuarters 4 n) else .exact (Ext.zero n)
  | _, .inf => if Ext.neg x then .rounded (piQuarters 4 n) else .exact (Ext.zero n)
  | _, .zero => .rounded (piQuarters 2 n)
  | _, _ => .general

/-- FYL2X, `y * log2 x` (R1150, R1040, R1041). Infinity times log2 of zero and of plus infinity is not stated (notes/assumptions/29.md). -/
def fyl2xCase (y x : Ext) : TCase :=
  match Ext.cls x, Ext.cls y with
  | .zero, .zero => .invalid
  | .zero, .inf => .free
  | .zero, _ => .zeroDivide (!Ext.neg y)
  | .inf, .zero => .invalid
  | .inf, .inf => if Ext.neg x then .invalid else .free
  | .inf, _ => if Ext.neg x then .invalid else .exact (Ext.inf (Ext.neg y))
  | _, c =>
    if Ext.neg x then .invalid
    else
      let o := compareExt x (Ext.one false)
      match c, o with
      | .inf, .eq => .invalid
      | .inf, .gt => .exact y
      | .inf, .lt => .exact (Ext.inf (!Ext.neg y))
      | .zero, _ => .zeroFree
      | _, .eq => .zeroFree
      | _, _ => .general

/-- The operand of FYL2XP1 lies in the stated range -(1 - sqrt(2)/2) < x < sqrt(2) - 1 (R1151), tested exactly:
2 (1 + x)^2 > 1 for x < 0, and (1 + x)^2 < 2 for x > 0. -/
def yl2xp1Range (x : Ext) : Bool :=
  let s := addDy (Ext.dy x) (Ext.dy (Ext.one false))
  let sq : Dy := { neg := false, sig := s.sig * s.sig, exp := 2 * s.exp, sticky := false }
  if Ext.neg x then
    !s.neg && (let t := addDy { sq with exp := sq.exp + 1 } { neg := true, sig := 1, exp := 0, sticky := false }
      !t.neg && t.sig != 0)
  else (addDy sq { neg := true, sig := 2, exp := 0, sticky := false }).neg

/-- FYL2XP1, `y * log2 (x + 1)` (R1151, R1040, R1041: the row of an infinite ST(1) takes every ST > 0, plus infinity included). Infinity times
log2 of zero (x = -1) is not stated (notes/assumptions/29.md). -/
def fyl2xp1Case (y x : Ext) : TCase :=
  match Ext.cls x, Ext.cls y with
  | .zero, .inf => .invalid
  | .zero, .zero => .zeroFree
  | .zero, _ => .exact (Ext.zero (Ext.neg x != Ext.neg y))
  | .inf, .zero => .invalid
  | .inf, _ => if Ext.neg x then .invalid else .exact (Ext.inf (Ext.neg y))
  | _, c =>
    match compareExt x (Ext.one true) with
    | .lt => .invalid
    | o =>
      match c, o with
      | .inf, .eq => .free
      | .inf, _ => .exact (Ext.inf (Ext.neg x != Ext.neg y))
      | .zero, _ => if yl2xp1Range x then .zeroFree else .free
      | _, _ => if yl2xp1Range x then .general else .free

/-- The exact value that was rounded to `r` is below the smallest normal number of a register (R1068): its exponent is, or it has been rounded
up to that number. -/
def tinyReal (r : RoundedReal) : Bool :=
  decide (r.exp < -16382) || (decide (r.exp = -16382) && r.sig == 0x8000000000000000#64 && r.inexact && r.up)

/-- A result of the transcendental unit, its significand normalised, delivered in a register (R1034). A tiny one is inexact if either
rounding was (R1068). -/
def Num.ofRounded (cw : Half) (r : RoundedReal) : Num :=
  let sig := (r.sig ||| 0x8000000000000000#64).toNat
  let n := Num.ofDelivered .ext r.neg (finishAs (tinyReal r) .ext cw { neg := r.neg, sig := sig, exp := r.exp - 63, sticky := false })
  { n with ue := n.ue || (tinyReal r && r.inexact), pe := n.pe || r.inexact, c1 := if n.pe then n.c1 else r.inexact && r.up }

/-- What a case gives, apart from an operand out of range: `gen` is the general result, `free`, `fpe` and `fup` are draws. -/
def TCase.num (c : TCase) (cw : Half) (gen : RoundedReal) (free : Ext) (fpe fup : Bool) : Num :=
  match c with
  | .exact v => Num.exact v
  | .rounded d => Num.round .ext cw d.neg d
  | .invalid => Num.invalid cw Ext.indefinite
  | .zeroDivide neg => Num.zeroDivide cw (Ext.inf neg)
  | .outOfRange => Num.exact Ext.indefinite
  | .general => Num.ofRounded cw gen
  | .zeroFree => Num.exact (Ext.zero fup)
  | .free => { Num.exact free with pe := fpe, c1 := fpe && fup }

end Sys2Proof.Machine
end

