-- ==== Sys2Proof/Machine/Fpu.lean ====
section
/-! DEFINITION. Floating-point instructions (48_fpu_instructions.md) over the numerics of Machine/FpuNum.lean. -/

namespace Sys2Proof.Machine

open Sys2Proof

/-- Replace the FPU. -/
def modifyFpu (f : Fpu → Fpu) : M Unit := modify fun s => { s with fpu := f s.fpu }

/-- Replace the status word. -/
def modifySw (f : Fsw → Fsw) : M Unit := modifyFpu fun p => { p with sw := f p.sw }

/-- The physical number of ST(i) (12_state_fpu.md R1001). -/
def Fpu.phys (f : Fpu) (i : BitVec 3) : Fin 8 := ⟨(f.sw.top + i).toNat, (f.sw.top + i).isLt⟩

/-- ST(i) (R1001). -/
def Fpu.st (f : Fpu) (i : BitVec 3) : Ext := f.regs[f.phys i]

/-- empty(i) (R1001). -/
def Fpu.isEmpty (f : Fpu) (i : BitVec 3) : Bool := f.empty[f.phys i]

/-- Write ST(i); its tag becomes non-empty (R1101). -/
def Fpu.setSt (f : Fpu) (i : BitVec 3) (v : Ext) : Fpu :=
  { f with regs := f.regs.set (f.phys i) v, empty := f.empty.set (f.phys i) false }

/-- Mark ST(i) empty (R1170). -/
def Fpu.free (f : Fpu) (i : BitVec 3) : Fpu := { f with empty := f.empty.set (f.phys i) true }

/-- Move TOP. -/
def Fpu.rotate (f : Fpu) (d : BitVec 3) : Fpu := { f with sw := { f.sw with top := f.sw.top + d } }

/-- push, the overflow check made by the caller (R1001). -/
def Fpu.push (f : Fpu) (v : Ext) : Fpu := (f.rotate 7).setSt 0 v

/-- pop (R1001). -/
def Fpu.pop (f : Fpu) : Fpu := (f.free 0).rotate 1

/-- Pop `n` times. -/
def Fpu.pops (f : Fpu) : Nat → Fpu
  | 0 => f
  | n + 1 => f.pop.pops n

/-- The status word as 16 bits (R1003). -/
def Fsw.word (w : Fsw) : Half :=
  let b (x : Bool) (i : Nat) : Half := if x then 1#16 <<< i else 0
  b w.ie 0 ||| b w.de 1 ||| b w.ze 2 ||| b w.oe 3 ||| b w.ue 4 ||| b w.pe 5 ||| b w.sf 6 ||| b w.es 7 ||| b w.c0 8 ||| b w.c1 9
    ||| b w.c2 10 ||| (w.top.setWidth 16 <<< 11) ||| b w.c3 14 ||| b w.es 15

/-- The fields of a status word image; ES is computed afterwards (R1166). -/
def Fsw.ofWord (v : Half) : Fsw :=
  { ie := bit v 0, de := bit v 1, ze := bit v 2, oe := bit v 3, ue := bit v 4, pe := bit v 5, sf := bit v 6, es := bit v 7, c0 := bit v 8,
    c1 := bit v 9, c2 := bit v 10, c3 := bit v 14, top := v.extractLsb' 11 3 }

/-- ES: some exception flag is set whose mask is clear (R1101, R1003). -/
def Fpu.pendingEs (f : Fpu) : Bool :=
  (f.sw.ie && !cwIm f.cw) || (f.sw.de && !cwDm f.cw) || (f.sw.ze && !cwZm f.cw) || (f.sw.oe && !cwOm f.cw) || (f.sw.ue && !cwUm f.cw)
    || (f.sw.pe && !cwPm f.cw)

/-- The end of every instruction that can change flags or masks: ES and B (R1101). -/
def summarise : M Unit := modifyFpu fun f => { f with sw := { f.sw with es := f.pendingEs } }

/-- Report a pending numeric exception (47_fpu_numerics.md R1061). -/
def reportPending : M Unit := do
  let s ← get
  if s.fpu.sw.es then
    if s.ne then raise 16 none
    else if s.inp.ignne then pure ()
    else throw .stall
  else pure ()

/-- The prologue of an ESC instruction; `waiting` is false for the no-wait forms (R1100). -/
def escCheck (waiting : Bool) : M Unit := do
  let s ← get
  require (!(s.em || s.tsFlag)) nm
  if waiting then reportPending else pure ()

/-- The pointers after a non-control instruction without memory operand: the operand pointer is undefined (R1100, 12_state_fpu.md R1010). -/
def pointersReg : M Unit := do
  let fds ← draw 16
  let fdp ← draw 32
  modify fun s => { s with fpu := { s.fpu with fcs := s.segs.cs.sel, fip := s.startEip, fop := s.cur.fop, fds := fds, fdp := fdp } }

/-- The pointers after a non-control instruction with a memory operand (R1100). -/
def pointersMem (m : MemOp) : M Unit :=
  modify fun s => { s with fpu := { s.fpu with fcs := s.segs.cs.sel, fip := s.startEip, fop := s.cur.fop,
                                               fds := (s.segs.get (s.eaSeg m)).sel, fdp := s.eaOff m } }

/-- A non-control instruction on registers. -/
def escReg (body : M Unit) : M Unit := do
  escCheck true
  pointersReg
  body
  summarise

/-- A non-control instruction with a memory operand of `n` bytes; `body` gets the physical addresses of its bytes. -/
def escMem (m : MemOp) (n al : Nat) (k : Kind) (body : List Word → M Unit) : M Unit := do
  escCheck true
  pointersMem m
  let ps ← memAccess m n al k
  body ps
  summarise

/-- C0, C2 and C3 become draws (R1005). -/
def drawC023 : M Unit := do
  let a ← drawBool
  let b ← drawBool
  let c ← drawBool
  modifySw fun w => { w with c0 := a, c2 := b, c3 := c }

/-- All condition bits become draws (R1005). -/
def drawCc : M Unit := do
  drawC023
  let a ← drawBool
  modifySw fun w => { w with c1 := a }

/-- C1. -/
def setC1 (b : Bool) : M Unit := modifySw fun w => { w with c1 := b }

/-- A stack fault (R1062): `k` is the masked response. -/
def stackFault (ovf : Bool) (k : M Unit) : M Unit := do
  modifySw fun w => { w with ie := true, sf := true, c1 := ovf }
  let s ← get
  if cwIm s.fpu.cw then k else pure ()

/-- The exception flags and C1 of an operation (R1060): C1 tells the rounding when PE is raised, and is `c` otherwise (R1005). -/
def noteNum (c : Bool) (n : Num) : M Unit :=
  modifySw fun w => { w with ie := w.ie || n.ie, de := w.de || n.de, ze := w.ze || n.ze, oe := w.oe || n.oe, ue := w.ue || n.ue,
                             pe := w.pe || n.pe, c1 := if n.pe then n.c1 else c }

/-- Deliver the result of an operation, if there is one (R1101), C1 being `c` without PE. -/
def deliverWith (c : Bool) (n : Num) (k : Ext → M Unit) : M Unit := do
  noteNum c n
  match n.res with
  | some v => k v
  | none => pure ()

/-- Deliver the result of an instruction whose C1 is "roundup, or O/U#": without PE it is a draw (R1005). -/
def deliverNum (n : Num) (k : Ext → M Unit) : M Unit := do
  let c ← drawBool
  deliverWith c n k

/-- Write ST(i). -/
def setSt (i : BitVec 3) (v : Ext) : M Unit := modifyFpu fun f => f.setSt i v
/-- Push. -/
def pushSt (v : Ext) : M Unit := modifyFpu fun f => f.push v
/-- Pop `n` registers. -/
def popSt (n : Nat) : M Unit := modifyFpu fun f => f.pops n

/-- Push a value with the overflow check, C1 clear otherwise (R1062, R1102). -/
def loadSt (v : Ext) : M Unit := do
  let s ← get
  if s.fpu.isEmpty 7 then
    pushSt v
    setC1 false
  else stackFault true (pushSt Ext.indefinite)

/-- FLD of a single or double real (R1102): stack overflow first, then SNaN, then the denormal operand. -/
def loadReal (v : Ext × Bool) : M Unit := do
  let s ← get
  if s.fpu.isEmpty 7 then
    let n := (if Ext.cls v.1 = .snan then Num.invalid s.fpu.cw (Ext.quiet v.1) else Num.exact v.1).denormal s.fpu.cw v.2
    deliverWith false n pushSt
  else stackFault true (pushSt Ext.indefinite)
  drawC023

/-- FLD m32real. -/
def fldSingle (ps : List Word) : M Unit := do
  let v ← load ps
  loadReal (widen32 (BitVec.ofNat 32 v))

/-- FLD m64real. -/
def fldDouble (ps : List Word) : M Unit := do
  let v ← load ps
  loadReal (widen64 (BitVec.ofNat 64 v))

/-- Push a value read from memory that no conversion can fault: m80real, integers (R1102, R1106). -/
def fldPlain (f : Nat → Ext) (ps : List Word) : M Unit := do
  let v ← load ps
  loadSt (f v)
  drawC023

/-- The signed value of `n` bits (R1018). -/
def signedOf (n v : Nat) : Int := (BitVec.ofNat n v).toInt

/-- FBLD (R1109): an invalid pattern gives an undefined register and tag (U31). -/
def fbld (ps : List Word) : M Unit := do
  let v ← load ps
  let free ← draw 80
  let gone ← drawBool
  let s ← get
  let x := fromDecimal (BitVec.ofNat 80 v)
  loadSt (x.getD free)
  if x.isNone && s.fpu.isEmpty 7 && gone then modifyFpu fun f => f.free 0 else pure ()
  drawC023

/-- FLD ST(i) (R1102). An empty source while ST(7) is not empty reports the underflow alone, C1 = 0, and writes the new top (the model's choice:
notes/assumptions/72.md). -/
def fldReg (i : BitVec 3) : M Unit := do
  let s ← get
  if s.fpu.isEmpty i then stackFault false (pushSt Ext.indefinite) else loadSt (s.fpu.st i)
  drawC023

/-- A store to memory (R1103, R1107): `f` converts ST(0), `indef` is the masked response to an empty register, `pops` how many
registers are popped if something is stored. `plain` stores the register as it is: C1 is 0; after a conversion without PE C1 is a draw
(R1005). -/
def storeMem (plain : Bool) (f : Half → Ext → Narrow) (indef : Nat) (pops : Nat) (ps : List Word) : M Unit := do
  let c ← drawBool
  let s ← get
  if s.fpu.isEmpty 0 then
    stackFault false do
      store ps indef
      popSt pops
  else
    let n := f s.fpu.cw (s.fpu.st 0)
    modifySw fun w => { w with ie := w.ie || n.ie, de := w.de || n.de, oe := w.oe || n.oe, ue := w.ue || n.ue, pe := w.pe || n.pe,
                               c1 := if n.pe then n.c1 else c && !plain }
    match n.out with
    | some v => do
      store ps v
      popSt pops
    | none => pure ()
  drawC023

/-- To single (R1036). -/
def toSingle : Half → Ext → Narrow := narrow .single 8 23
/-- To double (R1036). -/
def toDouble : Half → Ext → Narrow := narrow .double 11 52
/-- To extended: the 80 bits unchanged (R1104). -/
def toExtended (_ : Half) (x : Ext) : Narrow := Narrow.exact x.toNat

/-- FBSTP (R1110). -/
def fbstp (ps : List Word) : M Unit := do
  let free ← draw 64
  storeMem false (takesDenormal (toDecimal free)) (0xFFFF * 2 ^ 64 + free.toNat) 1 ps

/-- FST and FSTP to a register (R1103, R1104); C1 is a draw, as no PE can be raised (R1005). -/
def storeReg (i : BitVec 3) (pops : Nat) : M Unit := do
  let c ← drawBool
  let s ← get
  if s.fpu.isEmpty 0 then
    stackFault false do
      setSt i Ext.indefinite
      popSt pops
  else
    setSt i (s.fpu.st 0)
    popSt pops
    setC1 c
  drawC023

/-- FXCH (R1105). -/
def fxch (i : BitVec 3) : M Unit := do
  let s ← get
  let a := if s.fpu.isEmpty 0 then Ext.indefinite else s.fpu.st 0
  let b := if s.fpu.isEmpty i then Ext.indefinite else s.fpu.st i
  let swap : M Unit := do
    setSt i a
    setSt 0 b
  if s.fpu.isEmpty 0 || s.fpu.isEmpty i then stackFault false swap
  else
    swap
    setC1 false
  drawC023

/-- PC = 01 is refused for the instructions it affects (R1033, U32). -/
def checkPc : M Unit := do
  let s ← get
  if cwPc s.fpu.cw = 1 then refuse .reservedPrecision else pure ()

/-- An arithmetic operation on destination ST(d) and a source value; `ready` says that the registers it reads are not empty (R1112). Beside a
masked stack underflow a denormal memory operand sets no DE, the model's choice (R1070, notes/assumptions/26.md). -/
def arithWith (op : FOp) (d : BitVec 3) (src : Ext) (den ready : Bool) (pops : Nat) : M Unit := do
  checkPc
  let s ← get
  let tie ← drawBool
  if ready && !s.fpu.isEmpty d then
    deliverNum (arith op (Fmt.ofPc s.fpu.cw) s.fpu.cw tie den (s.fpu.st d) src) fun v => do
      setSt d v
      popSt pops
  else
    stackFault false do
      setSt d Ext.indefinite
      popSt pops
  drawC023

/-- An arithmetic operation on ST(d) and ST(i) (R1111). -/
def arithReg (op : FOp) (d i : BitVec 3) (pops : Nat) : M Unit := do
  let s ← get
  arithWith op d (s.fpu.st i) false (!s.fpu.isEmpty i) pops

/-- An arithmetic operation with a single real operand. -/
def arithSingle (op : FOp) (ps : List Word) : M Unit := do
  let v ← load ps
  arithWith op 0 (widen32 (BitVec.ofNat 32 v)).1 (widen32 (BitVec.ofNat 32 v)).2 true 0

/-- An arithmetic operation with a double real operand. -/
def arithDouble (op : FOp) (ps : List Word) : M Unit := do
  let v ← load ps
  arithWith op 0 (widen64 (BitVec.ofNat 64 v)).1 (widen64 (BitVec.ofNat 64 v)).2 true 0

/-- An arithmetic operation with an integer operand of `n` bits (R1111). It raises underflow as the other forms do, which R1113 to R1116 list and
R1068 leaves out for the integer additions and multiplications: the model's reading (notes/assumptions/62.md). -/
def arithInt (op : FOp) (n : Nat) (ps : List Word) : M Unit := do
  let v ← load ps
  arithWith op 0 (extOfInt (signedOf n v)) false true 0

/-- The comparison result C3, C2, C0 (R1120). -/
def setOrder (c3 c2 c0 : Bool) : M Unit := modifySw fun w => { w with c3 := c3, c2 := c2, c0 := c0, c1 := false }

/-- C3, C2, C0 of an order (R1120). -/
def orderBits : Ordering → Bool × Bool × Bool
  | .gt => (false, false, false)
  | .lt => (false, false, true)
  | .eq => (true, false, false)

/-- A comparison of ST with a source (R1120, R1121); `quiet`: a QNaN raises nothing; `ready`: the source register is not empty. A masked SNaN or
unsupported operand goes on to the denormal check, a QNaN does not (R1070); beside a masked stack underflow a denormal memory operand sets no
DE, the model's choice (notes/assumptions/26.md). An unmasked invalid operand stops it with no change but IE (R1120); that an unmasked denormal one
stops it with C1 clear is the model's choice (notes/assumptions/27.md). -/
def compareWith (quiet : Bool) (src : Ext) (den ready : Bool) (pops : Nat) : M Unit := do
  let s ← get
  let cw := s.fpu.cw
  let a := s.fpu.st 0
  let unordered : M Unit := do
    setOrder true true true
    popSt pops
  if s.fpu.isEmpty 0 || !ready then stackFault false unordered
  else
    let ca := Ext.cls a
    let cb := Ext.cls src
    let invalid := ca == .unsupported || cb == .unsupported || ca == .snan || cb == .snan
    let quietNan := !invalid && (ca == .qnan || cb == .qnan)
    let signals := invalid || (quietNan && !quiet)
    let d := !quietNan && (Ext.isDen a || Ext.isDen src || den)
    modifySw fun w => { w with ie := w.ie || signals }
    if signals && !cwIm cw then pure ()
    else
      modifySw fun w => { w with de := w.de || d }
      if d && !cwDm cw then setC1 false
      else if invalid || quietNan then unordered
      else
        let (c3, c2, c0) := orderBits (compareExt a src)
        setOrder c3 c2 c0
        popSt pops

/-- A comparison with ST(i). -/
def compareReg (quiet : Bool) (i : BitVec 3) (pops : Nat) : M Unit := do
  let s ← get
  compareWith quiet (s.fpu.st i) false (!s.fpu.isEmpty i) pops

/-- A comparison with a single real. -/
def compareSingle (pops : Nat) (ps : List Word) : M Unit := do
  let v ← load ps
  compareWith false (widen32 (BitVec.ofNat 32 v)).1 (widen32 (BitVec.ofNat 32 v)).2 true pops

/-- A comparison with a double real. -/
def compareDouble (pops : Nat) (ps : List Word) : M Unit := do
  let v ← load ps
  compareWith false (widen64 (BitVec.ofNat 64 v)).1 (widen64 (BitVec.ofNat 64 v)).2 true pops

/-- A comparison with an integer of `n` bits (R1122). -/
def compareInt (n pops : Nat) (ps : List Word) : M Unit := do
  let v ← load ps
  compareWith false (extOfInt (signedOf n v)) false true pops

/-- FXAM (R1126). -/
def fxam : M Unit := do
  let s ← get
  let (c3, c2, c0) := examine (s.fpu.isEmpty 0) (s.fpu.st 0)
  modifySw fun w => { w with c3 := c3, c2 := c2, c0 := c0, c1 := Ext.neg (s.fpu.st 0) }

/-- A one-operand operation on ST (R1130, R1135). -/
def unary (f : Half → Ext → Num) : M Unit := do
  let s ← get
  if s.fpu.isEmpty 0 then stackFault false (setSt 0 Ext.indefinite)
  else deliverNum (f s.fpu.cw (s.fpu.st 0)) (setSt 0)
  drawC023

/-- FSQRT rounds to the precision PC selects (R1033). -/
def fsqrt : M Unit := do
  checkPc
  unary fun cw x => sqrtExt (Fmt.ofPc cw) cw x

/-- FSCALE (R1131). -/
def fscale : M Unit := do
  let s ← get
  let tie ← drawBool
  let pe ← drawBool
  let up ← drawBool
  if s.fpu.isEmpty 0 || s.fpu.isEmpty 1 then stackFault false (setSt 0 Ext.indefinite)
  else deliverNum (scaleExt s.fpu.cw tie pe up (s.fpu.st 0) (s.fpu.st 1)) (setSt 0)
  drawC023

/-- FXTRACT (R1132). The masked response to a stack fault or an invalid operand fills both results. An empty ST(0) while ST(7) is not empty
reports the underflow alone (the model's choice: notes/assumptions/72.md). -/
def fxtract : M Unit := do
  let s ← get
  let cw := s.fpu.cw
  let x := s.fpu.st 0
  let both (v : Ext) : M Unit := do
    setSt 0 v
    pushSt v
  if s.fpu.isEmpty 0 then stackFault false (both Ext.indefinite)
  else if !s.fpu.isEmpty 7 then stackFault true (both Ext.indefinite)
  else
    match nanCase1 cw x with
    | some n => deliverWith false n both
    | none =>
      let (e, m, n) : Ext × Ext × Num := match Ext.cls x with
        | .zero => (Ext.inf true, x, Num.zeroDivide cw x)
        | .inf => (Ext.inf false, x, Num.exact x)
        | _ =>
          let d := Ext.dy x
          (extOfInt d.top, Ext.mk d.neg 0x3FFF (d.sig <<< (64 - bitLen d.sig)), (Num.exact x).denormal cw (Ext.isDen x))
      deliverWith false n fun _ => do
        setSt 0 e
        pushSt m
  drawC023

/-- FPREM and FPREM1 (R1133, R1134). After a result that is no remainder the quotient bits are draws, and so is C1 when an unmasked invalid or
denormal operand stops the instruction (notes/assumptions/27.md). -/
def fprem (near : Bool) : M Unit := do
  let s ← get
  let tie ← drawBool
  let a ← drawBool
  let b ← drawBool
  let c ← drawBool
  let x := s.fpu.st 0
  let y := s.fpu.st 1
  if s.fpu.isEmpty 0 || s.fpu.isEmpty 1 then
    stackFault false do
      setSt 0 Ext.indefinite
      modifySw fun w => { w with c0 := a, c3 := b, c2 := false }
  else
    let r := premExt near (Config.fpremStep x y) s.fpu.cw tie x y
    let known := !r.num.ie && !(Ext.cls x).isNan && !(Ext.cls y).isNan
    deliverWith c r.num fun v => do
      setSt 0 v
      modifySw fun w => { w with
        c2 := !r.done
        c0 := if known then r.q / 4 % 2 == 1 else a
        c3 := if known then r.q / 2 % 2 == 1 else b
        c1 := if known then r.q % 2 == 1 else c }

/-- FABS and FCHS (R1136, R1137). -/
def signOp (f : Bool → Bool) : M Unit := do
  let s ← get
  let x := s.fpu.st 0
  if s.fpu.isEmpty 0 then stackFault false (setSt 0 Ext.indefinite)
  else
    setSt 0 (Ext.withSign x (f (Ext.neg x)))
    setC1 false
  drawC023

/-- A constant load (R1140). -/
def fldConst (c : Const) : M Unit := do
  let s ← get
  loadSt (c.value (cwRc s.fpu.cw))
  drawC023

/-- What a transcendental instruction computes, apart from an operand out of range (R1034, R1070): `u` is what the unit makes of its
operands, `den` says that one of them is a denormal. -/
def transNum (u : RoundedReal) (c : TCase) (den : Bool) : M Num := do
  let s ← get
  let free ← draw 80
  let fpe ← drawBool
  let fup ← drawBool
  pure ((c.num s.fpu.cw u free fpe fup).denormal s.fpu.cw den)

/-- C2. -/
def setC2 (b : Bool) : M Unit := modifySw fun w => { w with c2 := b }

/-- C0 and C3 become draws (R1005: FPTAN, FSIN, FCOS, FSINCOS). -/
def drawC03 : M Unit := do
  let a ← drawBool
  let b ← drawBool
  modifySw fun w => { w with c0 := a, c3 := b }

/-- An operand out of range: C2 = 1, C1 a draw, ST unchanged (R1145). -/
def outOfRange : M Unit := do
  let a ← drawBool
  setC1 a
  setC2 true

/-- FSIN and FCOS (R1145). C0 and C3 are undefined after them, a stop included (R1005). C2 = 0 after a NaN or a masked stack fault is the model's
choice (notes/assumptions/27.md). -/
def trig (zero : Ext → Ext) : M Unit := do
  let s ← get
  let x := s.fpu.st 0
  let finish (n : Num) : M Unit := deliverNum n fun v => do
    setSt 0 v
    setC2 false
  if s.fpu.isEmpty 0 then
    stackFault false do
      setSt 0 Ext.indefinite
      setC2 false
  else
    match nanCase1 s.fpu.cw x with
    | some n => finish n
    | none =>
      if trigCase zero x = .outOfRange then outOfRange
      else
        let n ← transNum s.cur.unit (trigCase zero x) (Ext.isDen x)
        finish n
  drawC03

/-- FSINCOS and FPTAN (R1146, R1147): `second` gives what is pushed. A NaN or an invalid operand fills both results, and an unmasked denormal
operand stops both (R1070). That a masked stack overflow makes the old top indefinite beside the new one is the model's choice (R1062 names the new
top; notes/assumptions/28.md); so are the underflow reported alone for an empty ST(0) while ST(7) is not empty (notes/assumptions/72.md) and the
stack overflow of an operand out of range: ST(7) is tested before the range (notes/assumptions/73.md), and C2 = 0 after a NaN or a masked stack fault (notes/assumptions/27.md). C0 and C3 are undefined after them, a
stop included (R1005). -/
def trigPush (second : Ext → M Num) : M Unit := do
  let s ← get
  let x := s.fpu.st 0
  let both (v w : Ext) : M Unit := do
    setSt 0 v
    pushSt w
    setC2 false
  if s.fpu.isEmpty 0 then stackFault false (both Ext.indefinite Ext.indefinite)
  else if !s.fpu.isEmpty 7 then stackFault true (both Ext.indefinite Ext.indefinite)
  else
    match nanCase1 s.fpu.cw x with
    | some n => deliverNum n fun v => both v v
    | none =>
      let c := trigCase (fun z => z) x
      if c = .outOfRange then outOfRange
      else
        let n ← transNum s.cur.unit c (Ext.isDen x)
        let m ← second x
        let all : Num := { n with oe := n.oe || m.oe, ue := n.ue || m.ue, pe := n.pe || m.pe, c1 := if m.pe then m.c1 else n.c1 }
        deliverNum (if n.res.isSome then all else n) fun v => both v (if c = .invalid then v else m.res.getD v)
  drawC03

/-- The cosine of FSINCOS (R1146). -/
def cosOf (x : Ext) : M Num := do
  let s ← get
  transNum s.cur.unit2 (trigCase (fun _ => Ext.one false) x) false

/-- The 1.0 of FPTAN (R1147). -/
def oneOf (_ : Ext) : M Num := pure (Num.exact (Ext.one false))

/-- F2XM1 (R1149). -/
def f2xm1 : M Unit := do
  let s ← get
  let x := s.fpu.st 0
  if s.fpu.isEmpty 0 then stackFault false (setSt 0 Ext.indefinite)
  else
    match nanCase1 s.fpu.cw x with
    | some n => deliverNum n (setSt 0)
    | none =>
      let n ← transNum s.cur.unit (f2xm1Case x) (Ext.isDen x)
      deliverNum n (setSt 0)
  drawC023

/-- FPATAN, FYL2X, FYL2XP1 (R1148, R1150, R1151): the result replaces ST(1), then a pop. -/
def transPop (case : Ext → Ext → TCase) : M Unit := do
  let s ← get
  let x := s.fpu.st 0
  let y := s.fpu.st 1
  let tie ← drawBool
  let put (v : Ext) : M Unit := do
    setSt 1 v
    popSt 1
  if s.fpu.isEmpty 0 || s.fpu.isEmpty 1 then stackFault false (put Ext.indefinite)
  else
    match nanCase s.fpu.cw tie x y with
    | some n => deliverNum (n.besideDenormal s.fpu.cw (Ext.isDen x || Ext.isDen y)) put
    | none =>
      let n ← transNum s.cur.unit (case y x) (Ext.isDen x || Ext.isDen y)
      deliverNum n put
  drawC023

/-- FINIT (R1160): the data registers are not changed. -/
def Fpu.initialised (f : Fpu) : Fpu :=
  { f with sw := .zero, cw := 0x037F, empty := .replicate 8 true, fcs := 0, fip := 0, fds := 0, fdp := 0, fop := 0 }

/-- FNINIT (R1160). -/
def fninitOp : M Unit := do
  escCheck false
  modifyFpu fun f => f.initialised

/-- FNCLEX (R1164). -/
def fnclexOp : M Unit := do
  escCheck false
  modifySw fun w => { w with ie := false, de := false, ze := false, oe := false, ue := false, pe := false, sf := false, es := false }
  drawCc

/-- FNSTSW AX (R1163). -/
def fnstswAxOp : M Unit := do
  escCheck false
  let s ← get
  writeReg 16 .eax s.fpu.sw.word
  drawCc

/-- FNSTSW and FNSTCW to memory (R1162, R1163). -/
def storeWord (m : MemOp) (f : Fpu → Half) : M Unit := do
  escCheck false
  let s ← get
  writeMem m 2 2 (f s.fpu).toNat
  drawCc

/-- FLDCW (R1161). -/
def fldcwOp (m : MemOp) : M Unit := do
  escCheck true
  let v ← readMem m 2 2
  modifyFpu fun f => { f with cw := BitVec.ofNat 16 v }
  drawCc
  summarise

/-- The tag word as stored, from register `i` up (12_state_fpu.md R1008, R1009). -/
def Fpu.tagWord (f : Fpu) : Nat :=
  let t (i : Fin 8) : Nat := (if f.empty[i] then 3 else tagOf f.regs[i]) * 4 ^ i.val
  t 0 + t 1 + t 2 + t 3 + t 4 + t 5 + t 6 + t 7

/-- A pointer as the linear address of real-address and virtual-8086 mode (R1012). -/
def linearPtr (sel : Half) (off : Word) : Nat := (realBase sel + off).toNat

/-- The fields of the environment image, first to last (R1012); `r` gives the reserved upper halves. -/
def Fpu.envFields (f : Fpu) (wide prot : Bool) (r : Nat → Nat) : List Nat :=
  let ip := linearPtr f.fcs f.fip
  let dp := linearPtr f.fds f.fdp
  let head := [f.cw.toNat, f.sw.word.toNat, f.tagWord]
  let up (v i : Nat) : Nat := v + 65536 * r i
  match wide, prot with
  | true, true =>
    [up f.cw.toNat 0, up f.sw.word.toNat 1, up f.tagWord 2, f.fip.toNat, f.fcs.toNat + 65536 * f.fop.toNat, f.fdp.toNat,
     up f.fds.toNat 3]
  | true, false =>
    [up f.cw.toNat 0, up f.sw.word.toNat 1, up f.tagWord 2, up (ip % 65536) 3, ip / 65536 * 4096 + f.fop.toNat, up (dp % 65536) 4,
     dp / 65536 * 4096]
  | false, true => head ++ [f.fip.toNat % 65536, f.fcs.toNat, f.fdp.toNat % 65536, f.fds.toNat]
  | false, false =>
    head ++ [ip % 65536, ip / 65536 % 16 * 4096 + f.fop.toNat, dp % 65536, dp / 65536 % 16 * 4096]

/-- The bytes of an environment image: 14 or 28 (R1012). -/
def envBytes (sz : Size) : Nat := 7 * sz.bytes

/-- Write the environment at checked addresses (R1165). -/
def storeEnv (ps : List Word) : M Unit := do
  let r0 ← draw 16
  let r1 ← draw 16
  let r2 ← draw 16
  let r3 ← draw 16
  let r4 ← draw 16
  let s ← get
  let r (i : Nat) : Nat := ([r0, r1, r2, r3, r4].getD i 0).toNat
  storeFields s.os.bytes ps (s.fpu.envFields (s.os == .s32) s.prot r)

/-- FNSTENV (R1165): afterwards all exceptions are masked. -/
def fnstenvOp (m : MemOp) : M Unit := do
  escCheck false
  let s ← get
  let ps ← memAccess m (envBytes s.os) s.os.bytes .w
  storeEnv ps
  modifyFpu fun f => { f with cw := f.cw ||| 0x3F }
  drawCc
  summarise

/-- The environment from the fields of an image (R1166); `fop` is used where the image holds no opcode. The upper halves of the offsets, which the
16-bit protected-mode image does not hold, become 0: the model's choice (notes/assumptions/57.md). -/
def Fpu.withEnv (f : Fpu) (wide prot : Bool) (g : Nat → Nat) (fop : BitVec 11) : Fpu :=
  let tag := g 2
  let e (i : Nat) : Bool := tag / 4 ^ i % 4 == 3
  let base : Fpu := { f with
    cw := BitVec.ofNat 16 (g 0), sw := Fsw.ofWord (BitVec.ofNat 16 (g 1))
    empty := #v[e 0, e 1, e 2, e 3, e 4, e 5, e 6, e 7] }
  match wide, prot with
  | true, true =>
    { base with fip := BitVec.ofNat 32 (g 3), fcs := BitVec.ofNat 16 (g 4), fop := BitVec.ofNat 11 (g 4 / 65536),
                fdp := BitVec.ofNat 32 (g 5), fds := BitVec.ofNat 16 (g 6) }
  | true, false =>
    { base with fip := BitVec.ofNat 32 (g 3 % 65536 + g 4 / 4096 % 65536 * 65536), fcs := 0, fop := BitVec.ofNat 11 (g 4),
                fdp := BitVec.ofNat 32 (g 5 % 65536 + g 6 / 4096 % 65536 * 65536), fds := 0 }
  | false, true =>
    { base with fip := BitVec.ofNat 32 (g 3), fcs := BitVec.ofNat 16 (g 4), fop := fop, fdp := BitVec.ofNat 32 (g 5),
                fds := BitVec.ofNat 16 (g 6) }
  | false, false =>
    { base with fip := BitVec.ofNat 32 (g 3 + g 4 / 4096 * 65536), fcs := 0, fop := BitVec.ofNat 11 (g 4),
                fdp := BitVec.ofNat 32 (g 5 + g 6 / 4096 * 65536), fds := 0 }

/-- Read the environment from checked addresses (R1166). -/
def loadEnv (ps : List Word) : M Unit := do
  let s ← get
  let n := s.os.bytes
  let v ← load (ps.take (envBytes s.os))
  let fop ← draw 11
  let g (i : Nat) : Nat := v / 2 ^ (8 * n * i) % 2 ^ (8 * n)
  modifyFpu fun f => f.withEnv (s.os == .s32) s.prot g fop

/-- FLDENV (R1166). -/
def fldenvOp (m : MemOp) : M Unit := do
  escCheck true
  let s ← get
  let ps ← memAccess m (envBytes s.os) s.os.bytes .r
  loadEnv ps
  summarise

/-- The eight registers, ST(0) first (12_state_fpu.md R1013). -/
def Fpu.stack (f : Fpu) : List Ext := [f.st 0, f.st 1, f.st 2, f.st 3, f.st 4, f.st 5, f.st 6, f.st 7]

/-- FNSAVE (R1167). Only the start of the image is tested for alignment, not the register slots: the model's choice (notes/assumptions/57.md). -/
def fnsaveOp (m : MemOp) : M Unit := do
  escCheck false
  let s ← get
  let n := envBytes s.os
  let ps ← memAccess m (n + 80) s.os.bytes .w
  storeEnv (ps.take n)
  storeFields 10 (ps.drop n) (s.fpu.stack.map fun x => x.toNat)
  modifyFpu fun f => f.initialised

/-- The data registers from stack order; the tags stay (R1168). -/
def Fpu.withStack (f : Fpu) (v : BitVec 3 → Ext) : Fpu :=
  { f with regs := #v[v (0 - f.sw.top), v (1 - f.sw.top), v (2 - f.sw.top), v (3 - f.sw.top), v (4 - f.sw.top), v (5 - f.sw.top),
                      v (6 - f.sw.top), v (7 - f.sw.top)] }

/-- FRSTOR (R1168); alignment as for FNSAVE. -/
def frstorOp (m : MemOp) : M Unit := do
  escCheck true
  let s ← get
  let n := envBytes s.os
  let ps ← memAccess m (n + 80) s.os.bytes .r
  loadEnv ps
  let v ← load (ps.drop n)
  modifyFpu fun f => f.withStack fun i => BitVec.ofNat 80 (v / 2 ^ (80 * i.toNat))
  summarise

/-- FINCSTP and FDECSTP (R1169). -/
def moveTop (d : BitVec 3) : M Unit := do
  modifyFpu fun f => f.rotate d
  drawC023
  setC1 false

/-- FENI, FDISI, FSETPM (R1173): the common prologue of a non-control ESC instruction, its pointers included (R1010, R1100), and nothing else
(notes/assumptions/33.md). -/
def legacyNop : M Unit := do
  escCheck true
  pointersReg

/-- WAIT (R1172). -/
def waitOp : M Unit := do
  let s ← get
  require (!(s.mp && s.tsFlag)) nm
  reportPending

/-- A waiting form: WAIT, an instruction of one byte, then the no-wait form (R1160; notes/assumptions/7.md). When something can
happen at the boundary between the two, the step ends there. -/
def waitThen (body : M Unit) (s : State) : Host.Outcome State Fault Refusal :=
  let w : State := { s with cur := { s.cur with len := 1 } }
  match waitOp w.enter with
  | .ok _ t =>
    let u := w.complete t
    if u.quiet then runInstr body { u.tick with cur := { s.cur with len := s.cur.len - 1 } } else .next u
  | .error _ _ => runInstr waitOp w

/-- FLD m32real (R1102). -/
def execFldM32 (m : MemOp) (s : State) : Host.Outcome State Fault Refusal :=
  runInstr (escMem m 4 4 .r fldSingle) s

/-- FLD m64real (R1102). -/
def execFldM64 (m : MemOp) (s : State) : Host.Outcome State Fault Refusal :=
  runInstr (escMem m 8 8 .r fldDouble) s

/-- FLD m80real (R1102). -/
def execFldM80 (m : MemOp) (s : State) : Host.Outcome State Fault Refusal :=
  runInstr (escMem m 10 8 .r (fldPlain fun v => BitVec.ofNat 80 v)) s

/-- FLD ST(i) (R1102). -/
def execFldSti (i : BitVec 3) (s : State) : Host.Outcome State Fault Refusal :=
  runInstr (escReg (fldReg i)) s

/-- FST m32real (R1103). -/
def execFstM32 (m : MemOp) (s : State) : Host.Outcome State Fault Refusal :=
  runInstr (escMem m 4 4 .w (storeMem false toSingle (indefiniteReal 8 23) 0)) s

/-- FST m64real (R1103). -/
def execFstM64 (m : MemOp) (s : State) : Host.Outcome State Fault Refusal :=
  runInstr (escMem m 8 8 .w (storeMem false toDouble (indefiniteReal 11 52) 0)) s

/-- FST ST(i) (R1103). -/
def execFstSti (i : BitVec 3) (s : State) : Host.Outcome State Fault Refusal :=
  runInstr (escReg (storeReg i 0)) s

/-- FSTP m32real (R1104). -/
def execFstpM32 (m : MemOp) (s : State) : Host.Outcome State Fault Refusal :=
  runInstr (escMem m 4 4 .w (storeMem false toSingle (indefiniteReal 8 23) 1)) s

/-- FSTP m64real (R1104). -/
def execFstpM64 (m : MemOp) (s : State) : Host.Outcome State Fault Refusal :=
  runInstr (escMem m 8 8 .w (storeMem false toDouble (indefiniteReal 11 52) 1)) s

/-- FSTP m80real (R1104). -/
def execFstpM80 (m : MemOp) (s : State) : Host.Outcome State Fault Refusal :=
  runInstr (escMem m 10 8 .w (storeMem true toExtended Ext.indefinite.toNat 1)) s

/-- FSTP ST(i) (R1104). -/
def execFstpSti (i : BitVec 3) (s : State) : Host.Outcome State Fault Refusal :=
  runInstr (escReg (storeReg i 1)) s

/-- FXCH ST(i) (R1105). -/
def execFxchSti (i : BitVec 3) (s : State) : Host.Outcome State Fault Refusal :=
  runInstr (escReg (fxch i)) s

/-- FILD m16int (R1106). -/
def execFildM16 (m : MemOp) (s : State) : Host.Outcome State Fault Refusal :=
  runInstr (escMem m 2 2 .r (fldPlain fun v => extOfInt (signedOf 16 v))) s

/-- FILD m32int (R1106). -/
def execFildM32 (m : MemOp) (s : State) : Host.Outcome State Fault Refusal :=
  runInstr (escMem m 4 4 .r (fldPlain fun v => extOfInt (signedOf 32 v))) s

/-- FILD m64int (R1106). -/
def execFildM64 (m : MemOp) (s : State) : Host.Outcome State Fault Refusal :=
  runInstr (escMem m 8 8 .r (fldPlain fun v => extOfInt (signedOf 64 v))) s

/-- FIST m16int (R1107). -/
def execFistM16 (m : MemOp) (s : State) : Host.Outcome State Fault Refusal :=
  runInstr (escMem m 2 2 .w (storeMem false (takesDenormal (toInteger 16)) (2 ^ 15) 0)) s

/-- FIST m32int (R1107). -/
def execFistM32 (m : MemOp) (s : State) : Host.Outcome State Fault Refusal :=
  runInstr (escMem m 4 4 .w (storeMem false (takesDenormal (toInteger 32)) (2 ^ 31) 0)) s

/-- FISTP m16int (R1108). -/
def execFistpM16 (m : MemOp) (s : State) : Host.Outcome State Fault Refusal :=
  runInstr (escMem m 2 2 .w (storeMem false (takesDenormal (toInteger 16)) (2 ^ 15) 1)) s

/-- FISTP m32int (R1108). -/
def execFistpM32 (m : MemOp) (s : State) : Host.Outcome State Fault Refusal :=
  runInstr (escMem m 4 4 .w (storeMem false (takesDenormal (toInteger 32)) (2 ^ 31) 1)) s

/-- FISTP m64int (R1108). -/
def execFistpM64 (m : MemOp) (s : State) : Host.Outcome State Fault Refusal :=
  runInstr (escMem m 8 8 .w (storeMem false (takesDenormal (toInteger 64)) (2 ^ 63) 1)) s

/-- FBLD m80dec (R1109). The alignment of a packed decimal operand, 8, is the model's choice (notes/assumptions/57.md). -/
def execFbldM80 (m : MemOp) (s : State) : Host.Outcome State Fault Refusal :=
  runInstr (escMem m 10 8 .r fbld) s

/-- FBSTP m80dec (R1110), aligned as for FBLD. -/
def execFbstpM80 (m : MemOp) (s : State) : Host.Outcome State Fault Refusal :=
  runInstr (escMem m 10 8 .w fbstp) s

/-- FADD m32real (R1113). -/
def execFaddM32 (m : MemOp) (s : State) : Host.Outcome State Fault Refusal :=
  runInstr (escMem m 4 4 .r (arithSingle .add)) s

/-- FADD m64real (R1113). -/
def execFaddM64 (m : MemOp) (s : State) : Host.Outcome State Fault Refusal :=
  runInstr (escMem m 8 8 .r (arithDouble .add)) s

/-- FADD ST, ST(i) (R1113). -/
def execFaddStSti (i : BitVec 3) (s : State) : Host.Outcome State Fault Refusal :=
  runInstr (escReg (arithReg .add 0 i 0)) s

/-- FADD ST(i), ST (R1113). -/
def execFaddStiSt (i : BitVec 3) (s : State) : Host.Outcome State Fault Refusal :=
  runInstr (escReg (arithReg .add i 0 0)) s

/-- FADDP ST(i), ST (R1113). -/
def execFaddpStiSt (i : BitVec 3) (s : State) : Host.Outcome State Fault Refusal :=
  runInstr (escReg (arithReg .add i 0 1)) s

/-- FIADD m32int (R1113). -/
def execFiaddM32 (m : MemOp) (s : State) : Host.Outcome State Fault Refusal :=
  runInstr (escMem m 4 4 .r (arithInt .add 32)) s

/-- FIADD m16int (R1113). -/
def execFiaddM16 (m : MemOp) (s : State) : Host.Outcome State Fault Refusal :=
  runInstr (escMem m 2 2 .r (arithInt .add 16)) s

/-- FMUL m32real (R1116). -/
def execFmulM32 (m : MemOp) (s : State) : Host.Outcome State Fault Refusal :=
  runInstr (escMem m 4 4 .r (arithSingle .mul)) s

/-- FMUL m64real (R1116). -/
def execFmulM64 (m : MemOp) (s : State) : Host.Outcome State Fault Refusal :=
  runInstr (escMem m 8 8 .r (arithDouble .mul)) s

/-- FMUL ST, ST(i) (R1116). -/
def execFmulStSti (i : BitVec 3) (s : State) : Host.Outcome State Fault Refusal :=
  runInstr (escReg (arithReg .mul 0 i 0)) s

/-- FMUL ST(i), ST (R1116). -/
def execFmulStiSt (i : BitVec 3) (s : State) : Host.Outcome State Fault Refusal :=
  runInstr (escReg (arithReg .mul i 0 0)) s

/-- FMULP ST(i), ST (R1116). -/
def execFmulpStiSt (i : BitVec 3) (s : State) : Host.Outcome State Fault Refusal :=
  runInstr (escReg (arithReg .mul i 0 1)) s

/-- FIMUL m32int (R1116). -/
def execFimulM32 (m : MemOp) (s : State) : Host.Outcome State Fault Refusal :=
  runInstr (escMem m 4 4 .r (arithInt .mul 32)) s

/-- FIMUL m16int (R1116). -/
def execFimulM16 (m : MemOp) (s : State) : Host.Outcome State Fault Refusal :=
  runInstr (escMem m 2 2 .r (arithInt .mul 16)) s

/-- FSUB m32real (R1114). -/
def execFsubM32 (m : MemOp) (s : State) : Host.Outcome State Fault Refusal :=
  runInstr (escMem m 4 4 .r (arithSingle .sub)) s

/-- FSUB m64real (R1114). -/
def execFsubM64 (m : MemOp) (s : State) : Host.Outcome State Fault Refusal :=
  runInstr (escMem m 8 8 .r (arithDouble .sub)) s

/-- FSUB ST, ST(i) (R1114). -/
def execFsubStSti (i : BitVec 3) (s : State) : Host.Outcome State Fault Refusal :=
  runInstr (escReg (arithReg .sub 0 i 0)) s

/-- FSUB ST(i), ST (R1114). -/
def execFsubStiSt (i : BitVec 3) (s : State) : Host.Outcome State Fault Refusal :=
  runInstr (escReg (arithReg .sub i 0 0)) s

/-- FSUBP ST(i), ST (R1114). -/
def execFsubpStiSt (i : BitVec 3) (s : State) : Host.Outcome State Fault Refusal :=
  runInstr (escReg (arithReg .sub i 0 1)) s

/-- FISUB m32int (R1114). -/
def execFisubM32 (m : MemOp) (s : State) : Host.Outcome State Fault Refusal :=
  runInstr (escMem m 4 4 .r (arithInt .sub 32)) s

/-- FISUB m16int (R1114). -/
def execFisubM16 (m : MemOp) (s : State) : Host.Outcome State Fault Refusal :=
  runInstr (escMem m 2 2 .r (arithInt .sub 16)) s

/-- FSUBR m32real (R1115). -/
def execFsubrM32 (m : MemOp) (s : State) : Host.Outcome State Fault Refusal :=
  runInstr (escMem m 4 4 .r (arithSingle .subr)) s

/-- FSUBR m64real (R1115). -/
def execFsubrM64 (m : MemOp) (s : State) : Host.Outcome State Fault Refusal :=
  runInstr (escMem m 8 8 .r (arithDouble .subr)) s

/-- FSUBR ST, ST(i) (R1115). -/
def execFsubrStSti (i : BitVec 3) (s : State) : Host.Outcome State Fault Refusal :=
  runInstr (escReg (arithReg .subr 0 i 0)) s

/-- FSUBR ST(i), ST (R1115). -/
def execFsubrStiSt (i : BitVec 3) (s : State) : Host.Outcome State Fault Refusal :=
  runInstr (escReg (arithReg .subr i 0 0)) s

/-- FSUBRP ST(i), ST (R1115). -/
def execFsubrpStiSt (i : BitVec 3) (s : State) : Host.Outcome State Fault Refusal :=
  runInstr (escReg (arithReg .subr i 0 1)) s

/-- FISUBR m32int (R1115). -/
def execFisubrM32 (m : MemOp) (s : State) : Host.Outcome State Fault Refusal :=
  runInstr (escMem m 4 4 .r (arithInt .subr 32)) s

/-- FISUBR m16int (R1115). -/
def execFisubrM16 (m : MemOp) (s : State) : Host.Outcome State Fault Refusal :=
  runInstr (escMem m 2 2 .r (arithInt .subr 16)) s

/-- FDIV m32real (R1117). -/
def execFdivM32 (m : MemOp) (s : State) : Host.Outcome State Fault Refusal :=
  runInstr (escMem m 4 4 .r (arithSingle .div)) s

/-- FDIV m64real (R1117). -/
def execFdivM64 (m : MemOp) (s : State) : Host.Outcome State Fault Refusal :=
  runInstr (escMem m 8 8 .r (arithDouble .div)) s

/-- FDIV ST, ST(i) (R1117). -/
def execFdivStSti (i : BitVec 3) (s : State) : Host.Outcome State Fault Refusal :=
  runInstr (escReg (arithReg .div 0 i 0)) s

/-- FDIV ST(i), ST (R1117). -/
def execFdivStiSt (i : BitVec 3) (s : State) : Host.Outcome State Fault Refusal :=
  runInstr (escReg (arithReg .div i 0 0)) s

/-- FDIVP ST(i), ST (R1117). -/
def execFdivpStiSt (i : BitVec 3) (s : State) : Host.Outcome State Fault Refusal :=
  runInstr (escReg (arithReg .div i 0 1)) s

/-- FIDIV m32int (R1117). -/
def execFidivM32 (m : MemOp) (s : State) : Host.Outcome State Fault Refusal :=
  runInstr (escMem m 4 4 .r (arithInt .div 32)) s

/-- FIDIV m16int (R1117). -/
def execFidivM16 (m : MemOp) (s : State) : Host.Outcome State Fault Refusal :=
  runInstr (escMem m 2 2 .r (arithInt .div 16)) s

/-- FDIVR m32real (R1118). -/
def execFdivrM32 (m : MemOp) (s : State) : Host.Outcome State Fault Refusal :=
  runInstr (escMem m 4 4 .r (arithSingle .divr)) s

/-- FDIVR m64real (R1118). -/
def execFdivrM64 (m : MemOp) (s : State) : Host.Outcome State Fault Refusal :=
  runInstr (escMem m 8 8 .r (arithDouble .divr)) s

/-- FDIVR ST, ST(i) (R1118). -/
def execFdivrStSti (i : BitVec 3) (s : State) : Host.Outcome State Fault Refusal :=
  runInstr (escReg (arithReg .divr 0 i 0)) s

/-- FDIVR ST(i), ST (R1118). -/
def execFdivrStiSt (i : BitVec 3) (s : State) : Host.Outcome State Fault Refusal :=
  runInstr (escReg (arithReg .divr i 0 0)) s

/-- FDIVRP ST(i), ST (R1118). -/
def execFdivrpStiSt (i : BitVec 3) (s : State) : Host.Outcome State Fault Refusal :=
  runInstr (escReg (arithReg .divr i 0 1)) s

/-- FIDIVR m32int (R1118). -/
def execFidivrM32 (m : MemOp) (s : State) : Host.Outcome State Fault Refusal :=
  runInstr (escMem m 4 4 .r (arithInt .divr 32)) s

/-- FIDIVR m16int (R1118). -/
def execFidivrM16 (m : MemOp) (s : State) : Host.Outcome State Fault Refusal :=
  runInstr (escMem m 2 2 .r (arithInt .divr 16)) s

/-- FCOM m32real (R1120). -/
def execFcomM32 (m : MemOp) (s : State) : Host.Outcome State Fault Refusal :=
  runInstr (escMem m 4 4 .r (compareSingle 0)) s

/-- FCOM m64real (R1120). -/
def execFcomM64 (m : MemOp) (s : State) : Host.Outcome State Fault Refusal :=
  runInstr (escMem m 8 8 .r (compareDouble 0)) s

/-- FCOM ST(i) (R1120). -/
def execFcomSti (i : BitVec 3) (s : State) : Host.Outcome State Fault Refusal :=
  runInstr (escReg (compareReg false i 0)) s

/-- FCOMP m32real (R1120). -/
def execFcompM32 (m : MemOp) (s : State) : Host.Outcome State Fault Refusal :=
  runInstr (escMem m 4 4 .r (compareSingle 1)) s

/-- FCOMP m64real (R1120). -/
def execFcompM64 (m : MemOp) (s : State) : Host.Outcome State Fault Refusal :=
  runInstr (escMem m 8 8 .r (compareDouble 1)) s

/-- FCOMP ST(i) (R1120). -/
def execFcompSti (i : BitVec 3) (s : State) : Host.Outcome State Fault Refusal :=
  runInstr (escReg (compareReg false i 1)) s

/-- FCOMPP (R1120). -/
def execFcompp (s : State) : Host.Outcome State Fault Refusal :=
  runInstr (escReg (compareReg false 1 2)) s

/-- FUCOM ST(i) (R1121). -/
def execFucomSti (i : BitVec 3) (s : State) : Host.Outcome State Fault Refusal :=
  runInstr (escReg (compareReg true i 0)) s

/-- FUCOMP ST(i) (R1121). -/
def execFucompSti (i : BitVec 3) (s : State) : Host.Outcome State Fault Refusal :=
  runInstr (escReg (compareReg true i 1)) s

/-- FUCOMPP (R1121). -/
def execFucompp (s : State) : Host.Outcome State Fault Refusal :=
  runInstr (escReg (compareReg true 1 2)) s

/-- FICOM m16int (R1122). -/
def execFicomM16 (m : MemOp) (s : State) : Host.Outcome State Fault Refusal :=
  runInstr (escMem m 2 2 .r (compareInt 16 0)) s

/-- FICOM m32int (R1122). -/
def execFicomM32 (m : MemOp) (s : State) : Host.Outcome State Fault Refusal :=
  runInstr (escMem m 4 4 .r (compareInt 32 0)) s

/-- FICOMP m16int (R1122). -/
def execFicompM16 (m : MemOp) (s : State) : Host.Outcome State Fault Refusal :=
  runInstr (escMem m 2 2 .r (compareInt 16 1)) s

/-- FICOMP m32int (R1122). -/
def execFicompM32 (m : MemOp) (s : State) : Host.Outcome State Fault Refusal :=
  runInstr (escMem m 4 4 .r (compareInt 32 1)) s

/-- FTST (R1123). -/
def execFtst (s : State) : Host.Outcome State Fault Refusal :=
  runInstr (escReg (compareWith false (Ext.zero false) false true 0)) s

/-- FXAM (R1126). -/
def execFxam (s : State) : Host.Outcome State Fault Refusal :=
  runInstr (escReg fxam) s

/-- FSQRT (R1130). -/
def execFsqrt (s : State) : Host.Outcome State Fault Refusal :=
  runInstr (escReg fsqrt) s

/-- FSCALE (R1131). -/
def execFscale (s : State) : Host.Outcome State Fault Refusal :=
  runInstr (escReg fscale) s

/-- FXTRACT (R1132). -/
def execFxtract (s : State) : Host.Outcome State Fault Refusal :=
  runInstr (escReg fxtract) s

/-- FPREM (R1133). -/
def execFprem (s : State) : Host.Outcome State Fault Refusal :=
  runInstr (escReg (fprem false)) s

/-- FPREM1 (R1134). -/
def execFprem1 (s : State) : Host.Outcome State Fault Refusal :=
  runInstr (escReg (fprem true)) s

/-- FRNDINT (R1135). -/
def execFrndint (s : State) : Host.Outcome State Fault Refusal :=
  runInstr (escReg (unary rndintExt)) s

/-- FABS (R1136). -/
def execFabs (s : State) : Host.Outcome State Fault Refusal :=
  runInstr (escReg (signOp fun _ => false)) s

/-- FCHS (R1137). -/
def execFchs (s : State) : Host.Outcome State Fault Refusal :=
  runInstr (escReg (signOp fun b => !b)) s

/-- FLD1 (R1140). -/
def execFld1 (s : State) : Host.Outcome State Fault Refusal :=
  runInstr (escReg (fldConst .one)) s

/-- FLDL2T (R1140). -/
def execFldl2t (s : State) : Host.Outcome State Fault Refusal :=
  runInstr (escReg (fldConst .l2t)) s

/-- FLDL2E (R1140). -/
def execFldl2e (s : State) : Host.Outcome State Fault Refusal :=
  runInstr (escReg (fldConst .l2e)) s

/-- FLDPI (R1140). -/
def execFldpi (s : State) : Host.Outcome State Fault Refusal :=
  runInstr (escReg (fldConst .pi)) s

/-- FLDLG2 (R1140). -/
def execFldlg2 (s : State) : Host.Outcome State Fault Refusal :=
  runInstr (escReg (fldConst .lg2)) s

/-- FLDLN2 (R1140). -/
def execFldln2 (s : State) : Host.Outcome State Fault Refusal :=
  runInstr (escReg (fldConst .ln2)) s

/-- FLDZ (R1140). -/
def execFldz (s : State) : Host.Outcome State Fault Refusal :=
  runInstr (escReg (fldConst .zero)) s

/-- FSIN (R1145). -/
def execFsin (s : State) : Host.Outcome State Fault Refusal :=
  runInstr (escReg (trig fun z => z)) s

/-- FCOS (R1145). -/
def execFcos (s : State) : Host.Outcome State Fault Refusal :=
  runInstr (escReg (trig fun _ => Ext.one false)) s

/-- FSINCOS (R1146). -/
def execFsincos (s : State) : Host.Outcome State Fault Refusal :=
  runInstr (escReg (trigPush cosOf)) s

/-- FPTAN (R1147). -/
def execFptan (s : State) : Host.Outcome State Fault Refusal :=
  runInstr (escReg (trigPush oneOf)) s

/-- FPATAN (R1148). -/
def execFpatan (s : State) : Host.Outcome State Fault Refusal :=
  runInstr (escReg (transPop fpatanCase)) s

/-- F2XM1 (R1149). -/
def execF2xm1 (s : State) : Host.Outcome State Fault Refusal :=
  runInstr (escReg f2xm1) s

/-- FYL2X (R1150). -/
def execFyl2x (s : State) : Host.Outcome State Fault Refusal :=
  runInstr (escReg (transPop fyl2xCase)) s

/-- FYL2XP1 (R1151). -/
def execFyl2xp1 (s : State) : Host.Outcome State Fault Refusal :=
  runInstr (escReg (transPop fyl2xp1Case)) s

/-- FNINIT (R1160). -/
def execFninit (s : State) : Host.Outcome State Fault Refusal :=
  runInstr (fninitOp) s

/-- FNCLEX (R1164). -/
def execFnclex (s : State) : Host.Outcome State Fault Refusal :=
  runInstr (fnclexOp) s

/-- FNSTSW AX (R1163). -/
def execFnstswAx (s : State) : Host.Outcome State Fault Refusal :=
  runInstr (fnstswAxOp) s

/-- FINCSTP (R1169). -/
def execFincstp (s : State) : Host.Outcome State Fault Refusal :=
  runInstr (escReg (moveTop 1)) s

/-- FDECSTP (R1169). -/
def execFdecstp (s : State) : Host.Outcome State Fault Refusal :=
  runInstr (escReg (moveTop 7)) s

/-- FNOP (R1171). -/
def execFnop (s : State) : Host.Outcome State Fault Refusal :=
  runInstr (escReg (pure ())) s

/-- FENI (R1173). -/
def execFeni (s : State) : Host.Outcome State Fault Refusal :=
  runInstr (legacyNop) s

/-- FDISI (R1173). -/
def execFdisi (s : State) : Host.Outcome State Fault Refusal :=
  runInstr (legacyNop) s

/-- FSETPM (R1173). -/
def execFsetpm (s : State) : Host.Outcome State Fault Refusal :=
  runInstr (legacyNop) s

/-- FLDCW m16 (R1161). -/
def execFldcwM16 (m : MemOp) (s : State) : Host.Outcome State Fault Refusal :=
  runInstr (fldcwOp m) s

/-- FNSTCW m16 (R1162). -/
def execFnstcwM16 (m : MemOp) (s : State) : Host.Outcome State Fault Refusal :=
  runInstr (storeWord m fun f => f.cw) s

/-- FNSTSW m16 (R1163). -/
def execFnstswM16 (m : MemOp) (s : State) : Host.Outcome State Fault Refusal :=
  runInstr (storeWord m fun f => f.sw.word) s

/-- FNSTENV m14/28byte (R1165). -/
def execFnstenvM (m : MemOp) (s : State) : Host.Outcome State Fault Refusal :=
  runInstr (fnstenvOp m) s

/-- FLDENV m14/28byte (R1166). -/
def execFldenvM (m : MemOp) (s : State) : Host.Outcome State Fault Refusal :=
  runInstr (fldenvOp m) s

/-- FNSAVE m94/108byte (R1167). -/
def execFnsaveM (m : MemOp) (s : State) : Host.Outcome State Fault Refusal :=
  runInstr (fnsaveOp m) s

/-- FRSTOR m94/108byte (R1168). -/
def execFrstorM (m : MemOp) (s : State) : Host.Outcome State Fault Refusal :=
  runInstr (frstorOp m) s

/-- FFREE ST(i) (R1170). -/
def execFfreeSti (i : BitVec 3) (s : State) : Host.Outcome State Fault Refusal :=
  runInstr (escReg do
    modifyFpu fun f => f.free i
    drawCc) s

/-- WAIT/FWAIT (R1172). -/
def execWait (s : State) : Host.Outcome State Fault Refusal :=
  runInstr (waitOp) s

/-- FINIT (R1160). -/
def execFinit (s : State) : Host.Outcome State Fault Refusal :=
  waitThen (fninitOp) s

/-- FCLEX (R1164). -/
def execFclex (s : State) : Host.Outcome State Fault Refusal :=
  waitThen (fnclexOp) s

/-- FSTSW AX (R1163). -/
def execFstswAx (s : State) : Host.Outcome State Fault Refusal :=
  waitThen (fnstswAxOp) s

/-- FSTCW m16 (R1162). -/
def execFstcwM16 (m : MemOp) (s : State) : Host.Outcome State Fault Refusal :=
  waitThen (storeWord m fun f => f.cw) s

/-- FSTSW m16 (R1163). -/
def execFstswM16 (m : MemOp) (s : State) : Host.Outcome State Fault Refusal :=
  waitThen (storeWord m fun f => f.sw.word) s

/-- FSTENV m14/28byte (R1165). -/
def execFstenvM (m : MemOp) (s : State) : Host.Outcome State Fault Refusal :=
  waitThen (fnstenvOp m) s

/-- FSAVE m94/108byte (R1167). -/
def execFsaveM (m : MemOp) (s : State) : Host.Outcome State Fault Refusal :=
  waitThen (fnsaveOp m) s

end Sys2Proof.Machine
end

