-- ==== Sys2Proof/Machine/Prefix.lean ====
section
/-! DEFINITION. Prefixes (30_encoding.md R401 to R408): what each puts into the latch of the instruction under way, and which
instructions the repeat and LOCK prefixes may stand before. -/

noncomputable section

namespace Sys2Proof.Machine

open Sys2Proof

/-- A segment override; a second one is redundant (R403, R404). -/
def Latch.addSeg (c : Latch) (r : SReg) : Latch := { c with seg := some r, redundant := c.redundant || c.seg.isSome }
/-- 66H (R405). -/
def Latch.addOpSize (c : Latch) : Latch := { c with opsz := true, redundant := c.redundant || c.opsz }
/-- 67H (R405). -/
def Latch.addAdSize (c : Latch) : Latch := { c with adsz := true, redundant := c.redundant || c.adsz }
/-- F0H; LOCK and the repeat prefixes are one group (R401, R403, R408). -/
def Latch.addLock (c : Latch) : Latch := { c with lock := true, redundant := c.redundant || c.lock || c.rep.isSome }
/-- F2H or F3H (R403, R406). -/
def Latch.addRep (c : Latch) (r : Rep) : Latch := { c with rep := some r, redundant := c.redundant || c.lock || c.rep.isSome }

/-- ES segment override (R404): the latch remembers it for the instruction that follows. -/
def execPrefixEs (s : State) : Host.Outcome State Fault Refusal := .next { s with cur := Latch.addSeg s.cur .es }
/-- CS segment override (R404): the latch remembers it for the instruction that follows. -/
def execPrefixCs (s : State) : Host.Outcome State Fault Refusal := .next { s with cur := Latch.addSeg s.cur .cs }
/-- SS segment override (R404): the latch remembers it for the instruction that follows. -/
def execPrefixSs (s : State) : Host.Outcome State Fault Refusal := .next { s with cur := Latch.addSeg s.cur .ss }
/-- DS segment override (R404): the latch remembers it for the instruction that follows. -/
def execPrefixDs (s : State) : Host.Outcome State Fault Refusal := .next { s with cur := Latch.addSeg s.cur .ds }
/-- FS segment override (R404): the latch remembers it for the instruction that follows. -/
def execPrefixFs (s : State) : Host.Outcome State Fault Refusal := .next { s with cur := Latch.addSeg s.cur .fs }
/-- GS segment override (R404): the latch remembers it for the instruction that follows. -/
def execPrefixGs (s : State) : Host.Outcome State Fault Refusal := .next { s with cur := Latch.addSeg s.cur .gs }
/-- Operand-size prefix (R405): the latch remembers it for the instruction that follows. -/
def execPrefixOpSize (s : State) : Host.Outcome State Fault Refusal := .next { s with cur := Latch.addOpSize s.cur }
/-- Address-size prefix (R405): the latch remembers it for the instruction that follows. -/
def execPrefixAdSize (s : State) : Host.Outcome State Fault Refusal := .next { s with cur := Latch.addAdSize s.cur }
/-- LOCK prefix (R408): the latch remembers it for the instruction that follows. -/
def execPrefixLock (s : State) : Host.Outcome State Fault Refusal := .next { s with cur := Latch.addLock s.cur }
/-- REPNE/REPNZ prefix (R406): the latch remembers it for the instruction that follows. -/
def execPrefixRepne (s : State) : Host.Outcome State Fault Refusal := .next { s with cur := Latch.addRep s.cur .repne }
/-- REP/REPE/REPZ prefix (R406): the latch remembers it for the instruction that follows. -/
def execPrefixRep (s : State) : Host.Outcome State Fault Refusal := .next { s with cur := Latch.addRep s.cur .rep }

/-- What a prefix does to the latch; `none` for an instruction. -/
def prefixEffect : Instr → Option (Latch → Latch)
  | .prefixEs => some fun c => c.addSeg .es
  | .prefixCs => some fun c => c.addSeg .cs
  | .prefixSs => some fun c => c.addSeg .ss
  | .prefixDs => some fun c => c.addSeg .ds
  | .prefixFs => some fun c => c.addSeg .fs
  | .prefixGs => some fun c => c.addSeg .gs
  | .prefixOpSize => some fun c => c.addOpSize
  | .prefixAdSize => some fun c => c.addAdSize
  | .prefixLock => some fun c => c.addLock
  | .prefixRepne => some fun c => c.addRep .repne
  | .prefixRep => some fun c => c.addRep .rep
  | _ => none

/-- A repeat prefix has a meaning before this instruction (R406): F3H before any string instruction, F2H before CMPS and SCAS. -/
def repAllowed : Instr → Rep → Bool
  | .movsb, r => r == .rep
  | .movsw, r => r == .rep
  | .stosb, r => r == .rep
  | .stosw, r => r == .rep
  | .lodsb, r => r == .rep
  | .lodsw, r => r == .rep
  | .insb, r => r == .rep
  | .insw, r => r == .rep
  | .outsb, r => r == .rep
  | .outsw, r => r == .rep
  | .cmpsb, _ => true
  | .cmpsw, _ => true
  | .scasb, _ => true
  | .scasw, _ => true
  | _, _ => false

/-- The r/m destination is memory. -/
def RM.isMem : RM → Bool
  | .reg _ => false
  | .mem _ => true

/-- A JMP, or another unconditional transfer: it ends the stretch of code after a setting of PG that must be identity mapped
(70_reset_and_hazards.md R1640 names the JMP; notes/assumptions/19.md). -/
def jumpsAway : Instr → Bool
  | .jmpRel8 _ => true
  | .jmpRel _ => true
  | .jmpRm _ => true
  | .jmpPtr _ _ => true
  | .jmpFar _ => true
  | .callRel _ => true
  | .callRm _ => true
  | .callPtr _ _ => true
  | .callFar _ => true
  | .ret => true
  | .retImm16 _ => true
  | .retf => true
  | .retfImm16 _ => true
  | .iret => true
  | _ => false

/-- LOCK may stand before this instruction: one of the eighteen names with its destination in memory (R408). -/
def lockable : Instr → Bool
  | .addRm8R8 rm _ => RM.isMem rm
  | .addRmR rm _ => RM.isMem rm
  | .addRm8Imm8 rm _ => RM.isMem rm
  | .addRmImm rm _ => RM.isMem rm
  | .addRmSImm8 rm _ => RM.isMem rm
  | .orRm8R8 rm _ => RM.isMem rm
  | .orRmR rm _ => RM.isMem rm
  | .orRm8Imm8 rm _ => RM.isMem rm
  | .orRmImm rm _ => RM.isMem rm
  | .orRmSImm8 rm _ => RM.isMem rm
  | .adcRm8R8 rm _ => RM.isMem rm
  | .adcRmR rm _ => RM.isMem rm
  | .adcRm8Imm8 rm _ => RM.isMem rm
  | .adcRmImm rm _ => RM.isMem rm
  | .adcRmSImm8 rm _ => RM.isMem rm
  | .sbbRm8R8 rm _ => RM.isMem rm
  | .sbbRmR rm _ => RM.isMem rm
  | .sbbRm8Imm8 rm _ => RM.isMem rm
  | .sbbRmImm rm _ => RM.isMem rm
  | .sbbRmSImm8 rm _ => RM.isMem rm
  | .andRm8R8 rm _ => RM.isMem rm
  | .andRmR rm _ => RM.isMem rm
  | .andRm8Imm8 rm _ => RM.isMem rm
  | .andRmImm rm _ => RM.isMem rm
  | .andRmSImm8 rm _ => RM.isMem rm
  | .subRm8R8 rm _ => RM.isMem rm
  | .subRmR rm _ => RM.isMem rm
  | .subRm8Imm8 rm _ => RM.isMem rm
  | .subRmImm rm _ => RM.isMem rm
  | .subRmSImm8 rm _ => RM.isMem rm
  | .xorRm8R8 rm _ => RM.isMem rm
  | .xorRmR rm _ => RM.isMem rm
  | .xorRm8Imm8 rm _ => RM.isMem rm
  | .xorRmImm rm _ => RM.isMem rm
  | .xorRmSImm8 rm _ => RM.isMem rm
  | .xchgRm8R8 rm _ => RM.isMem rm
  | .xchgRmR rm _ => RM.isMem rm
  | .xaddRm8R8 rm _ => RM.isMem rm
  | .xaddRmR rm _ => RM.isMem rm
  | .cmpxchgRm8R8 rm _ => RM.isMem rm
  | .cmpxchgRmR rm _ => RM.isMem rm
  | .cmpxchg8bM64 _ => true
  | .incRm8 rm => RM.isMem rm
  | .incRm rm => RM.isMem rm
  | .decRm8 rm => RM.isMem rm
  | .decRm rm => RM.isMem rm
  | .negRm8 rm => RM.isMem rm
  | .negRm rm => RM.isMem rm
  | .notRm8 rm => RM.isMem rm
  | .notRm rm => RM.isMem rm
  | .btsRmR rm _ => RM.isMem rm
  | .btsRmImm8 rm _ => RM.isMem rm
  | .btrRmR rm _ => RM.isMem rm
  | .btrRmImm8 rm _ => RM.isMem rm
  | .btcRmR rm _ => RM.isMem rm
  | .btcRmImm8 rm _ => RM.isMem rm
  | _ => false

end Sys2Proof.Machine

end
end

