-- ==== Sys2Proof/Machine/Dispatch.lean ====
section
/-! DEFINITION. The dispatch: one arm per instruction, each one call of its meaning. -/

namespace Sys2Proof.Machine

open Sys2Proof

def exec (i : Instr) (s : State) : Host.Outcome State Fault Refusal :=
  match i with
  | .addRm8R8 rm r => Sys2Proof.Machine.execAddRm8R8 rm r s
  | .addRmR rm r => Sys2Proof.Machine.execAddRmR rm r s
  | .addR8Rm8 rm r => Sys2Proof.Machine.execAddR8Rm8 rm r s
  | .addRRm rm r => Sys2Proof.Machine.execAddRRm rm r s
  | .addAlImm8 imm => Sys2Proof.Machine.execAddAlImm8 imm s
  | .addEaxImm imm => Sys2Proof.Machine.execAddEaxImm imm s
  | .addRm8Imm8 rm imm => Sys2Proof.Machine.execAddRm8Imm8 rm imm s
  | .addRmImm rm imm => Sys2Proof.Machine.execAddRmImm rm imm s
  | .addRmSImm8 rm imm => Sys2Proof.Machine.execAddRmSImm8 rm imm s
  | .orRm8R8 rm r => Sys2Proof.Machine.execOrRm8R8 rm r s
  | .orRmR rm r => Sys2Proof.Machine.execOrRmR rm r s
  | .orR8Rm8 rm r => Sys2Proof.Machine.execOrR8Rm8 rm r s
  | .orRRm rm r => Sys2Proof.Machine.execOrRRm rm r s
  | .orAlImm8 imm => Sys2Proof.Machine.execOrAlImm8 imm s
  | .orEaxImm imm => Sys2Proof.Machine.execOrEaxImm imm s
  | .orRm8Imm8 rm imm => Sys2Proof.Machine.execOrRm8Imm8 rm imm s
  | .orRmImm rm imm => Sys2Proof.Machine.execOrRmImm rm imm s
  | .orRmSImm8 rm imm => Sys2Proof.Machine.execOrRmSImm8 rm imm s
  | .adcRm8R8 rm r => Sys2Proof.Machine.execAdcRm8R8 rm r s
  | .adcRmR rm r => Sys2Proof.Machine.execAdcRmR rm r s
  | .adcR8Rm8 rm r => Sys2Proof.Machine.execAdcR8Rm8 rm r s
  | .adcRRm rm r => Sys2Proof.Machine.execAdcRRm rm r s
  | .adcAlImm8 imm => Sys2Proof.Machine.execAdcAlImm8 imm s
  | .adcEaxImm imm => Sys2Proof.Machine.execAdcEaxImm imm s
  | .adcRm8Imm8 rm imm => Sys2Proof.Machine.execAdcRm8Imm8 rm imm s
  | .adcRmImm rm imm => Sys2Proof.Machine.execAdcRmImm rm imm s
  | .adcRmSImm8 rm imm => Sys2Proof.Machine.execAdcRmSImm8 rm imm s
  | .sbbRm8R8 rm r => Sys2Proof.Machine.execSbbRm8R8 rm r s
  | .sbbRmR rm r => Sys2Proof.Machine.execSbbRmR rm r s
  | .sbbR8Rm8 rm r => Sys2Proof.Machine.execSbbR8Rm8 rm r s
  | .sbbRRm rm r => Sys2Proof.Machine.execSbbRRm rm r s
  | .sbbAlImm8 imm => Sys2Proof.Machine.execSbbAlImm8 imm s
  | .sbbEaxImm imm => Sys2Proof.Machine.execSbbEaxImm imm s
  | .sbbRm8Imm8 rm imm => Sys2Proof.Machine.execSbbRm8Imm8 rm imm s
  | .sbbRmImm rm imm => Sys2Proof.Machine.execSbbRmImm rm imm s
  | .sbbRmSImm8 rm imm => Sys2Proof.Machine.execSbbRmSImm8 rm imm s
  | .andRm8R8 rm r => Sys2Proof.Machine.execAndRm8R8 rm r s
  | .andRmR rm r => Sys2Proof.Machine.execAndRmR rm r s
  | .andR8Rm8 rm r => Sys2Proof.Machine.execAndR8Rm8 rm r s
  | .andRRm rm r => Sys2Proof.Machine.execAndRRm rm r s
  | .andAlImm8 imm => Sys2Proof.Machine.execAndAlImm8 imm s
  | .andEaxImm imm => Sys2Proof.Machine.execAndEaxImm imm s
  | .andRm8Imm8 rm imm => Sys2Proof.Machine.execAndRm8Imm8 rm imm s
  | .andRmImm rm imm => Sys2Proof.Machine.execAndRmImm rm imm s
  | .andRmSImm8 rm imm => Sys2Proof.Machine.execAndRmSImm8 rm imm s
  | .subRm8R8 rm r => Sys2Proof.Machine.execSubRm8R8 rm r s
  | .subRmR rm r => Sys2Proof.Machine.execSubRmR rm r s
  | .subR8Rm8 rm r => Sys2Proof.Machine.execSubR8Rm8 rm r s
  | .subRRm rm r => Sys2Proof.Machine.execSubRRm rm r s
  | .subAlImm8 imm => Sys2Proof.Machine.execSubAlImm8 imm s
  | .subEaxImm imm => Sys2Proof.Machine.execSubEaxImm imm s
  | .subRm8Imm8 rm imm => Sys2Proof.Machine.execSubRm8Imm8 rm imm s
  | .subRmImm rm imm => Sys2Proof.Machine.execSubRmImm rm imm s
  | .subRmSImm8 rm imm => Sys2Proof.Machine.execSubRmSImm8 rm imm s
  | .xorRm8R8 rm r => Sys2Proof.Machine.execXorRm8R8 rm r s
  | .xorRmR rm r => Sys2Proof.Machine.execXorRmR rm r s
  | .xorR8Rm8 rm r => Sys2Proof.Machine.execXorR8Rm8 rm r s
  | .xorRRm rm r => Sys2Proof.Machine.execXorRRm rm r s
  | .xorAlImm8 imm => Sys2Proof.Machine.execXorAlImm8 imm s
  | .xorEaxImm imm => Sys2Proof.Machine.execXorEaxImm imm s
  | .xorRm8Imm8 rm imm => Sys2Proof.Machine.execXorRm8Imm8 rm imm s
  | .xorRmImm rm imm => Sys2Proof.Machine.execXorRmImm rm imm s
  | .xorRmSImm8 rm imm => Sys2Proof.Machine.execXorRmSImm8 rm imm s
  | .cmpRm8R8 rm r => Sys2Proof.Machine.execCmpRm8R8 rm r s
  | .cmpRmR rm r => Sys2Proof.Machine.execCmpRmR rm r s
  | .cmpR8Rm8 rm r => Sys2Proof.Machine.execCmpR8Rm8 rm r s
  | .cmpRRm rm r => Sys2Proof.Machine.execCmpRRm rm r s
  | .cmpAlImm8 imm => Sys2Proof.Machine.execCmpAlImm8 imm s
  | .cmpEaxImm imm => Sys2Proof.Machine.execCmpEaxImm imm s
  | .cmpRm8Imm8 rm imm => Sys2Proof.Machine.execCmpRm8Imm8 rm imm s
  | .cmpRmImm rm imm => Sys2Proof.Machine.execCmpRmImm rm imm s
  | .cmpRmSImm8 rm imm => Sys2Proof.Machine.execCmpRmSImm8 rm imm s
  | .movRm8R8 rm r => Sys2Proof.Machine.execMovRm8R8 rm r s
  | .movRmR rm r => Sys2Proof.Machine.execMovRmR rm r s
  | .movR8Rm8 rm r => Sys2Proof.Machine.execMovR8Rm8 rm r s
  | .movRRm rm r => Sys2Proof.Machine.execMovRRm rm r s
  | .movRm16Sreg rm sr => Sys2Proof.Machine.execMovRm16Sreg rm sr s
  | .movSregRm16 rm sr => Sys2Proof.Machine.execMovSregRm16 rm sr s
  | .movAlMoffs8 off => Sys2Proof.Machine.execMovAlMoffs8 off s
  | .movEaxMoffs off => Sys2Proof.Machine.execMovEaxMoffs off s
  | .movMoffs8Al off => Sys2Proof.Machine.execMovMoffs8Al off s
  | .movMoffsEax off => Sys2Proof.Machine.execMovMoffsEax off s
  | .movR8Imm8 r imm => Sys2Proof.Machine.execMovR8Imm8 r imm s
  | .movRImm r imm => Sys2Proof.Machine.execMovRImm r imm s
  | .movRm8Imm8 rm imm => Sys2Proof.Machine.execMovRm8Imm8 rm imm s
  | .movRmImm rm imm => Sys2Proof.Machine.execMovRmImm rm imm s
  | .xchgRm8R8 rm r => Sys2Proof.Machine.execXchgRm8R8 rm r s
  | .xchgRmR rm r => Sys2Proof.Machine.execXchgRmR rm r s
  | .xchgEaxR r => Sys2Proof.Machine.execXchgEaxR r s
  | .nop => Sys2Proof.Machine.execNop s
  | .pushR r => Sys2Proof.Machine.execPushR r s
  | .pushRm rm => Sys2Proof.Machine.execPushRm rm s
  | .pushImm imm => Sys2Proof.Machine.execPushImm imm s
  | .pushSImm8 imm => Sys2Proof.Machine.execPushSImm8 imm s
  | .pushEs => Sys2Proof.Machine.execPushEs s
  | .pushCs => Sys2Proof.Machine.execPushCs s
  | .pushSs => Sys2Proof.Machine.execPushSs s
  | .pushDs => Sys2Proof.Machine.execPushDs s
  | .pushFs => Sys2Proof.Machine.execPushFs s
  | .pushGs => Sys2Proof.Machine.execPushGs s
  | .popR r => Sys2Proof.Machine.execPopR r s
  | .popRm rm => Sys2Proof.Machine.execPopRm rm s
  | .popEs => Sys2Proof.Machine.execPopEs s
  | .popSs => Sys2Proof.Machine.execPopSs s
  | .popDs => Sys2Proof.Machine.execPopDs s
  | .popFs => Sys2Proof.Machine.execPopFs s
  | .popGs => Sys2Proof.Machine.execPopGs s
  | .pusha => Sys2Proof.Machine.execPusha s
  | .popa => Sys2Proof.Machine.execPopa s
  | .cbw => Sys2Proof.Machine.execCbw s
  | .cwd => Sys2Proof.Machine.execCwd s
  | .movsxRRm8 rm r => Sys2Proof.Machine.execMovsxRRm8 rm r s
  | .movsxR32Rm16 rm r => Sys2Proof.Machine.execMovsxR32Rm16 rm r s
  | .movzxRRm8 rm r => Sys2Proof.Machine.execMovzxRRm8 rm r s
  | .movzxR32Rm16 rm r => Sys2Proof.Machine.execMovzxR32Rm16 rm r s
  | .bswapR32 r => Sys2Proof.Machine.execBswapR32 r s
  | .xaddRm8R8 rm r => Sys2Proof.Machine.execXaddRm8R8 rm r s
  | .xaddRmR rm r => Sys2Proof.Machine.execXaddRmR rm r s
  | .cmpxchgRm8R8 rm r => Sys2Proof.Machine.execCmpxchgRm8R8 rm r s
  | .cmpxchgRmR rm r => Sys2Proof.Machine.execCmpxchgRmR rm r s
  | .cmpxchg8bM64 m => Sys2Proof.Machine.execCmpxchg8bM64 m s
  | .ldsRFar m r => Sys2Proof.Machine.execLdsRFar m r s
  | .lesRFar m r => Sys2Proof.Machine.execLesRFar m r s
  | .lssRFar m r => Sys2Proof.Machine.execLssRFar m r s
  | .lfsRFar m r => Sys2Proof.Machine.execLfsRFar m r s
  | .lgsRFar m r => Sys2Proof.Machine.execLgsRFar m r s
  | .leaRM m r => Sys2Proof.Machine.execLeaRM m r s
  | .xlat => Sys2Proof.Machine.execXlat s
  | .incR r => Sys2Proof.Machine.execIncR r s
  | .incRm8 rm => Sys2Proof.Machine.execIncRm8 rm s
  | .incRm rm => Sys2Proof.Machine.execIncRm rm s
  | .decR r => Sys2Proof.Machine.execDecR r s
  | .decRm8 rm => Sys2Proof.Machine.execDecRm8 rm s
  | .decRm rm => Sys2Proof.Machine.execDecRm rm s
  | .negRm8 rm => Sys2Proof.Machine.execNegRm8 rm s
  | .negRm rm => Sys2Proof.Machine.execNegRm rm s
  | .mulRm8 rm => Sys2Proof.Machine.execMulRm8 rm s
  | .mulRm rm => Sys2Proof.Machine.execMulRm rm s
  | .imulRm8 rm => Sys2Proof.Machine.execImulRm8 rm s
  | .imulRm rm => Sys2Proof.Machine.execImulRm rm s
  | .imulRRm rm r => Sys2Proof.Machine.execImulRRm rm r s
  | .imulRRmImm rm r imm => Sys2Proof.Machine.execImulRRmImm rm r imm s
  | .imulRRmSImm8 rm r imm => Sys2Proof.Machine.execImulRRmSImm8 rm r imm s
  | .divRm8 rm => Sys2Proof.Machine.execDivRm8 rm s
  | .divRm rm => Sys2Proof.Machine.execDivRm rm s
  | .idivRm8 rm => Sys2Proof.Machine.execIdivRm8 rm s
  | .idivRm rm => Sys2Proof.Machine.execIdivRm rm s
  | .daa => Sys2Proof.Machine.execDaa s
  | .das => Sys2Proof.Machine.execDas s
  | .aaa => Sys2Proof.Machine.execAaa s
  | .aas => Sys2Proof.Machine.execAas s
  | .aamImm8 imm => Sys2Proof.Machine.execAamImm8 imm s
  | .aadImm8 imm => Sys2Proof.Machine.execAadImm8 imm s
  | .notRm8 rm => Sys2Proof.Machine.execNotRm8 rm s
  | .notRm rm => Sys2Proof.Machine.execNotRm rm s
  | .testRm8R8 rm r => Sys2Proof.Machine.execTestRm8R8 rm r s
  | .testRmR rm r => Sys2Proof.Machine.execTestRmR rm r s
  | .testAlImm8 imm => Sys2Proof.Machine.execTestAlImm8 imm s
  | .testEaxImm imm => Sys2Proof.Machine.execTestEaxImm imm s
  | .testRm8Imm8 rm imm => Sys2Proof.Machine.execTestRm8Imm8 rm imm s
  | .testRmImm rm imm => Sys2Proof.Machine.execTestRmImm rm imm s
  | .rolRm8One rm => Sys2Proof.Machine.execRolRm8One rm s
  | .rolRmOne rm => Sys2Proof.Machine.execRolRmOne rm s
  | .rolRm8Cl rm => Sys2Proof.Machine.execRolRm8Cl rm s
  | .rolRmCl rm => Sys2Proof.Machine.execRolRmCl rm s
  | .rolRm8Imm8 rm imm => Sys2Proof.Machine.execRolRm8Imm8 rm imm s
  | .rolRmImm8 rm imm => Sys2Proof.Machine.execRolRmImm8 rm imm s
  | .rorRm8One rm => Sys2Proof.Machine.execRorRm8One rm s
  | .rorRmOne rm => Sys2Proof.Machine.execRorRmOne rm s
  | .rorRm8Cl rm => Sys2Proof.Machine.execRorRm8Cl rm s
  | .rorRmCl rm => Sys2Proof.Machine.execRorRmCl rm s
  | .rorRm8Imm8 rm imm => Sys2Proof.Machine.execRorRm8Imm8 rm imm s
  | .rorRmImm8 rm imm => Sys2Proof.Machine.execRorRmImm8 rm imm s
  | .rclRm8One rm => Sys2Proof.Machine.execRclRm8One rm s
  | .rclRmOne rm => Sys2Proof.Machine.execRclRmOne rm s
  | .rclRm8Cl rm => Sys2Proof.Machine.execRclRm8Cl rm s
  | .rclRmCl rm => Sys2Proof.Machine.execRclRmCl rm s
  | .rclRm8Imm8 rm imm => Sys2Proof.Machine.execRclRm8Imm8 rm imm s
  | .rclRmImm8 rm imm => Sys2Proof.Machine.execRclRmImm8 rm imm s
  | .rcrRm8One rm => Sys2Proof.Machine.execRcrRm8One rm s
  | .rcrRmOne rm => Sys2Proof.Machine.execRcrRmOne rm s
  | .rcrRm8Cl rm => Sys2Proof.Machine.execRcrRm8Cl rm s
  | .rcrRmCl rm => Sys2Proof.Machine.execRcrRmCl rm s
  | .rcrRm8Imm8 rm imm => Sys2Proof.Machine.execRcrRm8Imm8 rm imm s
  | .rcrRmImm8 rm imm => Sys2Proof.Machine.execRcrRmImm8 rm imm s
  | .shlRm8One rm => Sys2Proof.Machine.execShlRm8One rm s
  | .shlRmOne rm => Sys2Proof.Machine.execShlRmOne rm s
  | .shlRm8Cl rm => Sys2Proof.Machine.execShlRm8Cl rm s
  | .shlRmCl rm => Sys2Proof.Machine.execShlRmCl rm s
  | .shlRm8Imm8 rm imm => Sys2Proof.Machine.execShlRm8Imm8 rm imm s
  | .shlRmImm8 rm imm => Sys2Proof.Machine.execShlRmImm8 rm imm s
  | .shrRm8One rm => Sys2Proof.Machine.execShrRm8One rm s
  | .shrRmOne rm => Sys2Proof.Machine.execShrRmOne rm s
  | .shrRm8Cl rm => Sys2Proof.Machine.execShrRm8Cl rm s
  | .shrRmCl rm => Sys2Proof.Machine.execShrRmCl rm s
  | .shrRm8Imm8 rm imm => Sys2Proof.Machine.execShrRm8Imm8 rm imm s
  | .shrRmImm8 rm imm => Sys2Proof.Machine.execShrRmImm8 rm imm s
  | .sarRm8One rm => Sys2Proof.Machine.execSarRm8One rm s
  | .sarRmOne rm => Sys2Proof.Machine.execSarRmOne rm s
  | .sarRm8Cl rm => Sys2Proof.Machine.execSarRm8Cl rm s
  | .sarRmCl rm => Sys2Proof.Machine.execSarRmCl rm s
  | .sarRm8Imm8 rm imm => Sys2Proof.Machine.execSarRm8Imm8 rm imm s
  | .sarRmImm8 rm imm => Sys2Proof.Machine.execSarRmImm8 rm imm s
  | .shldRmRImm8 rm r imm => Sys2Proof.Machine.execShldRmRImm8 rm r imm s
  | .shldRmRCl rm r => Sys2Proof.Machine.execShldRmRCl rm r s
  | .shrdRmRImm8 rm r imm => Sys2Proof.Machine.execShrdRmRImm8 rm r imm s
  | .shrdRmRCl rm r => Sys2Proof.Machine.execShrdRmRCl rm r s
  | .btRmR rm r => Sys2Proof.Machine.execBtRmR rm r s
  | .btRmImm8 rm imm => Sys2Proof.Machine.execBtRmImm8 rm imm s
  | .btsRmR rm r => Sys2Proof.Machine.execBtsRmR rm r s
  | .btsRmImm8 rm imm => Sys2Proof.Machine.execBtsRmImm8 rm imm s
  | .btrRmR rm r => Sys2Proof.Machine.execBtrRmR rm r s
  | .btrRmImm8 rm imm => Sys2Proof.Machine.execBtrRmImm8 rm imm s
  | .btcRmR rm r => Sys2Proof.Machine.execBtcRmR rm r s
  | .btcRmImm8 rm imm => Sys2Proof.Machine.execBtcRmImm8 rm imm s
  | .bsfRRm rm r => Sys2Proof.Machine.execBsfRRm rm r s
  | .bsrRRm rm r => Sys2Proof.Machine.execBsrRRm rm r s
  | .setccRm8 cc rm => Sys2Proof.Machine.execSetccRm8 cc rm s
  | .jmpRel8 rel => Sys2Proof.Machine.execJmpRel8 rel s
  | .jmpRel rel => Sys2Proof.Machine.execJmpRel rel s
  | .jmpRm rm => Sys2Proof.Machine.execJmpRm rm s
  | .jmpPtr off sel => Sys2Proof.Machine.execJmpPtr off sel s
  | .jmpFar m => Sys2Proof.Machine.execJmpFar m s
  | .callRel rel => Sys2Proof.Machine.execCallRel rel s
  | .callRm rm => Sys2Proof.Machine.execCallRm rm s
  | .callPtr off sel => Sys2Proof.Machine.execCallPtr off sel s
  | .callFar m => Sys2Proof.Machine.execCallFar m s
  | .ret => Sys2Proof.Machine.execRet s
  | .retImm16 imm => Sys2Proof.Machine.execRetImm16 imm s
  | .retf => Sys2Proof.Machine.execRetf s
  | .retfImm16 imm => Sys2Proof.Machine.execRetfImm16 imm s
  | .jccRel8 cc rel => Sys2Proof.Machine.execJccRel8 cc rel s
  | .jccRel cc rel => Sys2Proof.Machine.execJccRel cc rel s
  | .jcxzRel8 rel => Sys2Proof.Machine.execJcxzRel8 rel s
  | .loopRel8 rel => Sys2Proof.Machine.execLoopRel8 rel s
  | .loopeRel8 rel => Sys2Proof.Machine.execLoopeRel8 rel s
  | .loopneRel8 rel => Sys2Proof.Machine.execLoopneRel8 rel s
  | .iret => Sys2Proof.Machine.execIret s
  | .intImm8 imm => Sys2Proof.Machine.execIntImm8 imm s
  | .int3 => Sys2Proof.Machine.execInt3 s
  | .into => Sys2Proof.Machine.execInto s
  | .boundRM m r => Sys2Proof.Machine.execBoundRM m r s
  | .enterImm16Imm8 imm lvl => Sys2Proof.Machine.execEnterImm16Imm8 imm lvl s
  | .leave => Sys2Proof.Machine.execLeave s
  | .movsb => Sys2Proof.Machine.execMovsb s
  | .movsw => Sys2Proof.Machine.execMovsw s
  | .cmpsb => Sys2Proof.Machine.execCmpsb s
  | .cmpsw => Sys2Proof.Machine.execCmpsw s
  | .stosb => Sys2Proof.Machine.execStosb s
  | .stosw => Sys2Proof.Machine.execStosw s
  | .lodsb => Sys2Proof.Machine.execLodsb s
  | .lodsw => Sys2Proof.Machine.execLodsw s
  | .scasb => Sys2Proof.Machine.execScasb s
  | .scasw => Sys2Proof.Machine.execScasw s
  | .insb => Sys2Proof.Machine.execInsb s
  | .insw => Sys2Proof.Machine.execInsw s
  | .outsb => Sys2Proof.Machine.execOutsb s
  | .outsw => Sys2Proof.Machine.execOutsw s
  | .stc => Sys2Proof.Machine.execStc s
  | .clc => Sys2Proof.Machine.execClc s
  | .cmc => Sys2Proof.Machine.execCmc s
  | .cld => Sys2Proof.Machine.execCld s
  | .std => Sys2Proof.Machine.execStd s
  | .cli => Sys2Proof.Machine.execCli s
  | .sti => Sys2Proof.Machine.execSti s
  | .lahf => Sys2Proof.Machine.execLahf s
  | .sahf => Sys2Proof.Machine.execSahf s
  | .pushf => Sys2Proof.Machine.execPushf s
  | .popf => Sys2Proof.Machine.execPopf s
  | .cpuid => Sys2Proof.Machine.execCpuid s
  | .sldtRm16 rm => Sys2Proof.Machine.execSldtRm16 rm s
  | .strRm16 rm => Sys2Proof.Machine.execStrRm16 rm s
  | .lldtRm16 rm => Sys2Proof.Machine.execLldtRm16 rm s
  | .ltrRm16 rm => Sys2Proof.Machine.execLtrRm16 rm s
  | .verrRm16 rm => Sys2Proof.Machine.execVerrRm16 rm s
  | .verwRm16 rm => Sys2Proof.Machine.execVerwRm16 rm s
  | .sgdtM m => Sys2Proof.Machine.execSgdtM m s
  | .sidtM m => Sys2Proof.Machine.execSidtM m s
  | .lgdtM m => Sys2Proof.Machine.execLgdtM m s
  | .lidtM m => Sys2Proof.Machine.execLidtM m s
  | .smswRm16 rm => Sys2Proof.Machine.execSmswRm16 rm s
  | .lmswRm16 rm => Sys2Proof.Machine.execLmswRm16 rm s
  | .invlpgM m => Sys2Proof.Machine.execInvlpgM m s
  | .larRRm16 rm r => Sys2Proof.Machine.execLarRRm16 rm r s
  | .lslRRm16 rm r => Sys2Proof.Machine.execLslRRm16 rm r s
  | .clts => Sys2Proof.Machine.execClts s
  | .invd => Sys2Proof.Machine.execInvd s
  | .wbinvd => Sys2Proof.Machine.execWbinvd s
  | .movR32Cr n r => Sys2Proof.Machine.execMovR32Cr n r s
  | .movCrR32 n r => Sys2Proof.Machine.execMovCrR32 n r s
  | .movR32Dr n r => Sys2Proof.Machine.execMovR32Dr n r s
  | .movDrR32 n r => Sys2Proof.Machine.execMovDrR32 n r s
  | .movR32Tr n r => Sys2Proof.Machine.execMovR32Tr n r s
  | .movTrR32 n r => Sys2Proof.Machine.execMovTrR32 n r s
  | .wrmsr => Sys2Proof.Machine.execWrmsr s
  | .rdtsc => Sys2Proof.Machine.execRdtsc s
  | .rdmsr => Sys2Proof.Machine.execRdmsr s
  | .rsm => Sys2Proof.Machine.execRsm s
  | .hlt => Sys2Proof.Machine.execHlt s
  | .arplRm16R16 rm r => Sys2Proof.Machine.execArplRm16R16 rm r s
  | .inAlImm8 imm => Sys2Proof.Machine.execInAlImm8 imm s
  | .inEaxImm8 imm => Sys2Proof.Machine.execInEaxImm8 imm s
  | .inAlDx => Sys2Proof.Machine.execInAlDx s
  | .inEaxDx => Sys2Proof.Machine.execInEaxDx s
  | .outImm8Al imm => Sys2Proof.Machine.execOutImm8Al imm s
  | .outImm8Eax imm => Sys2Proof.Machine.execOutImm8Eax imm s
  | .outDxAl => Sys2Proof.Machine.execOutDxAl s
  | .outDxEax => Sys2Proof.Machine.execOutDxEax s
  | .wait => Sys2Proof.Machine.execWait s
  | .fldM32 m => Sys2Proof.Machine.execFldM32 m s
  | .fldM64 m => Sys2Proof.Machine.execFldM64 m s
  | .fldM80 m => Sys2Proof.Machine.execFldM80 m s
  | .fldSti k => Sys2Proof.Machine.execFldSti k s
  | .fstM32 m => Sys2Proof.Machine.execFstM32 m s
  | .fstM64 m => Sys2Proof.Machine.execFstM64 m s
  | .fstSti k => Sys2Proof.Machine.execFstSti k s
  | .fstpM32 m => Sys2Proof.Machine.execFstpM32 m s
  | .fstpM64 m => Sys2Proof.Machine.execFstpM64 m s
  | .fstpM80 m => Sys2Proof.Machine.execFstpM80 m s
  | .fstpSti k => Sys2Proof.Machine.execFstpSti k s
  | .fxchSti k => Sys2Proof.Machine.execFxchSti k s
  | .fildM16 m => Sys2Proof.Machine.execFildM16 m s
  | .fildM32 m => Sys2Proof.Machine.execFildM32 m s
  | .fildM64 m => Sys2Proof.Machine.execFildM64 m s
  | .fistM16 m => Sys2Proof.Machine.execFistM16 m s
  | .fistM32 m => Sys2Proof.Machine.execFistM32 m s
  | .fistpM16 m => Sys2Proof.Machine.execFistpM16 m s
  | .fistpM32 m => Sys2Proof.Machine.execFistpM32 m s
  | .fistpM64 m => Sys2Proof.Machine.execFistpM64 m s
  | .fbldM80 m => Sys2Proof.Machine.execFbldM80 m s
  | .fbstpM80 m => Sys2Proof.Machine.execFbstpM80 m s
  | .faddM32 m => Sys2Proof.Machine.execFaddM32 m s
  | .faddM64 m => Sys2Proof.Machine.execFaddM64 m s
  | .faddStSti k => Sys2Proof.Machine.execFaddStSti k s
  | .faddStiSt k => Sys2Proof.Machine.execFaddStiSt k s
  | .faddpStiSt k => Sys2Proof.Machine.execFaddpStiSt k s
  | .fiaddM32 m => Sys2Proof.Machine.execFiaddM32 m s
  | .fiaddM16 m => Sys2Proof.Machine.execFiaddM16 m s
  | .fmulM32 m => Sys2Proof.Machine.execFmulM32 m s
  | .fmulM64 m => Sys2Proof.Machine.execFmulM64 m s
  | .fmulStSti k => Sys2Proof.Machine.execFmulStSti k s
  | .fmulStiSt k => Sys2Proof.Machine.execFmulStiSt k s
  | .fmulpStiSt k => Sys2Proof.Machine.execFmulpStiSt k s
  | .fimulM32 m => Sys2Proof.Machine.execFimulM32 m s
  | .fimulM16 m => Sys2Proof.Machine.execFimulM16 m s
  | .fsubM32 m => Sys2Proof.Machine.execFsubM32 m s
  | .fsubM64 m => Sys2Proof.Machine.execFsubM64 m s
  | .fsubStSti k => Sys2Proof.Machine.execFsubStSti k s
  | .fsubStiSt k => Sys2Proof.Machine.execFsubStiSt k s
  | .fsubpStiSt k => Sys2Proof.Machine.execFsubpStiSt k s
  | .fisubM32 m => Sys2Proof.Machine.execFisubM32 m s
  | .fisubM16 m => Sys2Proof.Machine.execFisubM16 m s
  | .fsubrM32 m => Sys2Proof.Machine.execFsubrM32 m s
  | .fsubrM64 m => Sys2Proof.Machine.execFsubrM64 m s
  | .fsubrStSti k => Sys2Proof.Machine.execFsubrStSti k s
  | .fsubrStiSt k => Sys2Proof.Machine.execFsubrStiSt k s
  | .fsubrpStiSt k => Sys2Proof.Machine.execFsubrpStiSt k s
  | .fisubrM32 m => Sys2Proof.Machine.execFisubrM32 m s
  | .fisubrM16 m => Sys2Proof.Machine.execFisubrM16 m s
  | .fdivM32 m => Sys2Proof.Machine.execFdivM32 m s
  | .fdivM64 m => Sys2Proof.Machine.execFdivM64 m s
  | .fdivStSti k => Sys2Proof.Machine.execFdivStSti k s
  | .fdivStiSt k => Sys2Proof.Machine.execFdivStiSt k s
  | .fdivpStiSt k => Sys2Proof.Machine.execFdivpStiSt k s
  | .fidivM32 m => Sys2Proof.Machine.execFidivM32 m s
  | .fidivM16 m => Sys2Proof.Machine.execFidivM16 m s
  | .fdivrM32 m => Sys2Proof.Machine.execFdivrM32 m s
  | .fdivrM64 m => Sys2Proof.Machine.execFdivrM64 m s
  | .fdivrStSti k => Sys2Proof.Machine.execFdivrStSti k s
  | .fdivrStiSt k => Sys2Proof.Machine.execFdivrStiSt k s
  | .fdivrpStiSt k => Sys2Proof.Machine.execFdivrpStiSt k s
  | .fidivrM32 m => Sys2Proof.Machine.execFidivrM32 m s
  | .fidivrM16 m => Sys2Proof.Machine.execFidivrM16 m s
  | .fcomM32 m => Sys2Proof.Machine.execFcomM32 m s
  | .fcomM64 m => Sys2Proof.Machine.execFcomM64 m s
  | .fcomSti k => Sys2Proof.Machine.execFcomSti k s
  | .fcompM32 m => Sys2Proof.Machine.execFcompM32 m s
  | .fcompM64 m => Sys2Proof.Machine.execFcompM64 m s
  | .fcompSti k => Sys2Proof.Machine.execFcompSti k s
  | .fcompp => Sys2Proof.Machine.execFcompp s
  | .fucomSti k => Sys2Proof.Machine.execFucomSti k s
  | .fucompSti k => Sys2Proof.Machine.execFucompSti k s
  | .fucompp => Sys2Proof.Machine.execFucompp s
  | .ficomM16 m => Sys2Proof.Machine.execFicomM16 m s
  | .ficomM32 m => Sys2Proof.Machine.execFicomM32 m s
  | .ficompM16 m => Sys2Proof.Machine.execFicompM16 m s
  | .ficompM32 m => Sys2Proof.Machine.execFicompM32 m s
  | .ftst => Sys2Proof.Machine.execFtst s
  | .fxam => Sys2Proof.Machine.execFxam s
  | .fsqrt => Sys2Proof.Machine.execFsqrt s
  | .fscale => Sys2Proof.Machine.execFscale s
  | .fxtract => Sys2Proof.Machine.execFxtract s
  | .fprem => Sys2Proof.Machine.execFprem s
  | .fprem1 => Sys2Proof.Machine.execFprem1 s
  | .frndint => Sys2Proof.Machine.execFrndint s
  | .fabs => Sys2Proof.Machine.execFabs s
  | .fchs => Sys2Proof.Machine.execFchs s
  | .fld1 => Sys2Proof.Machine.execFld1 s
  | .fldl2t => Sys2Proof.Machine.execFldl2t s
  | .fldl2e => Sys2Proof.Machine.execFldl2e s
  | .fldpi => Sys2Proof.Machine.execFldpi s
  | .fldlg2 => Sys2Proof.Machine.execFldlg2 s
  | .fldln2 => Sys2Proof.Machine.execFldln2 s
  | .fldz => Sys2Proof.Machine.execFldz s
  | .fsin => Sys2Proof.Machine.execFsin s
  | .fcos => Sys2Proof.Machine.execFcos s
  | .fsincos => Sys2Proof.Machine.execFsincos s
  | .fptan => Sys2Proof.Machine.execFptan s
  | .fpatan => Sys2Proof.Machine.execFpatan s
  | .f2xm1 => Sys2Proof.Machine.execF2xm1 s
  | .fyl2x => Sys2Proof.Machine.execFyl2x s
  | .fyl2xp1 => Sys2Proof.Machine.execFyl2xp1 s
  | .fninit => Sys2Proof.Machine.execFninit s
  | .fnclex => Sys2Proof.Machine.execFnclex s
  | .fnstswAx => Sys2Proof.Machine.execFnstswAx s
  | .fincstp => Sys2Proof.Machine.execFincstp s
  | .fdecstp => Sys2Proof.Machine.execFdecstp s
  | .fnop => Sys2Proof.Machine.execFnop s
  | .feni => Sys2Proof.Machine.execFeni s
  | .fdisi => Sys2Proof.Machine.execFdisi s
  | .fsetpm => Sys2Proof.Machine.execFsetpm s
  | .fldcwM16 m => Sys2Proof.Machine.execFldcwM16 m s
  | .fnstcwM16 m => Sys2Proof.Machine.execFnstcwM16 m s
  | .fnstswM16 m => Sys2Proof.Machine.execFnstswM16 m s
  | .fnstenvM m => Sys2Proof.Machine.execFnstenvM m s
  | .fldenvM m => Sys2Proof.Machine.execFldenvM m s
  | .fnsaveM m => Sys2Proof.Machine.execFnsaveM m s
  | .frstorM m => Sys2Proof.Machine.execFrstorM m s
  | .ffreeSti k => Sys2Proof.Machine.execFfreeSti k s
  | .finit => Sys2Proof.Machine.execFinit s
  | .fclex => Sys2Proof.Machine.execFclex s
  | .fstswAx => Sys2Proof.Machine.execFstswAx s
  | .fstcwM16 m => Sys2Proof.Machine.execFstcwM16 m s
  | .fstswM16 m => Sys2Proof.Machine.execFstswM16 m s
  | .fstenvM m => Sys2Proof.Machine.execFstenvM m s
  | .fsaveM m => Sys2Proof.Machine.execFsaveM m s
  | .prefixEs => Sys2Proof.Machine.execPrefixEs s
  | .prefixCs => Sys2Proof.Machine.execPrefixCs s
  | .prefixSs => Sys2Proof.Machine.execPrefixSs s
  | .prefixDs => Sys2Proof.Machine.execPrefixDs s
  | .prefixFs => Sys2Proof.Machine.execPrefixFs s
  | .prefixGs => Sys2Proof.Machine.execPrefixGs s
  | .prefixOpSize => Sys2Proof.Machine.execPrefixOpSize s
  | .prefixAdSize => Sys2Proof.Machine.execPrefixAdSize s
  | .prefixLock => Sys2Proof.Machine.execPrefixLock s
  | .prefixRepne => Sys2Proof.Machine.execPrefixRepne s
  | .prefixRep => Sys2Proof.Machine.execPrefixRep s

end Sys2Proof.Machine
end

