-- ==== Sys2Proof/Machine/Events.lean ====
section
/-! DEFINITION. What happens at an instruction boundary before an instruction is fetched: RESET and INIT (70_reset_and_hazards.md), SMI#, debug traps,
machine check, NMI, INTR, in the order of 60_exceptions.md R1208 with D17, the Halted and Shutdown states (10_state.md R130), and
instruction breakpoints (64_debug.md R1487). -/

noncomputable section

namespace Sys2Proof.Machine

open Sys2Proof

/-- The model-specific registers after RESET: TSC, CESR and TR12 are 0 (D54), the others draws (R1604, U48). -/
def resetMsrs : List Msr → Nat → List Msr × Nat
  | [], k => ([], k)
  | m :: ms, k =>
    let keep : Bool := m.role == .tsc || m.role == .cesr || m.role == .tr12
    let v : BitVec 64 := if keep then 0 else Config.draw 64 k
    let (rest, k') := resetMsrs ms (if keep then k else k + 1)
    ({ m with value := v } :: rest, k')

/-- RESET (R1600 to R1606, R1615): memory, the host's map and its other inputs are not the processor's. FERR# follows ES to 0
(47_fpu_numerics.md R1061). -/
def State.onReset (s : State) (r : ResetReq) : State :=
  let (msrs, k) := resetMsrs s.msrs s.draws
  { State.reset with
    regs := { GRegs.reset with eax := if r.bist then Config.bistResult else 0 }
    msrs := msrs, draws := k, mem := s.mem, memMap := s.memMap, inp := { s.inp with reset := none }
    bus := (if s.fpu.sw.es then [.ferr false] else []) ++ s.bus, ticks := s.ticks }

/-- INIT (R1610): the FPU, the model-specific registers, the time stamp counter, SMBASE, CR0.CD and CR0.NW stay; SMM is left (D52).
Breakpoint matches of REP MOVS and REP STOS that are still to be reported (64_debug.md R1489) are dropped, the model's choice
(notes/assumptions/40.md). -/
def State.onInit (s : State) : State :=
  { s with
    regs := .reset, flags := .reset, eip := 0x0000FFF0, segs := .reset, cpl := 0, gdtr := .reset, idtr := .reset, ldtr := .resetLdtr
    tr := .resetTr, cr := { cr0 := (s.cr.cr0 &&& 0x60000000) ||| 0x10, cr2 := 0, cr3 := 0, cr4 := 0 }, dr := .reset, run := .running
    nmiBlocked := false, inhibitSs := false, inhibitSti := false, pgSwitched := false, inSmm := false, smm := .empty, lastIo := none, itlb := [], dtlb := []
    pendingDb := none, late := [], recurs := [], inp := { s.inp with init := false }, cur := .empty }

/-- An event that arrives between two instructions: a fault met during its delivery is charged to the instruction at EIP. -/
def boundaryEvent (s : State) (kind : EventKind) (vec : Nat) (dbg : Option DbgCause) : Event :=
  { kind := kind, vec := vec, code := none, retEip := s.eip, faultEip := s.eip, dbg := dbg }

/-- The debug trap that comes at this boundary: what the last instruction left, and traps that recur here after the handler of another exception
returned (R1232, "the first recurs"). -/
def State.trapDue (s : State) : Option DbgCause :=
  (s.recurs.filter s.isBack).foldl (fun p h => some (match p with
    | some c => c.also h.cause
    | none => h.cause)) s.pendingDb

/-- Deliver a debug trap (R1489, R1492, R1485). An exception met on the way is served first and the trap recurs when its handler has returned
(R1232): it is noted until a delivery of it succeeds. That it recurs whenever the processor comes back to the instruction that it came before is
the model's choice (notes/assumptions/65.md). -/
def State.takeTrap (s : State) (c : DbgCause) : Host.Outcome State Fault Refusal :=
  deliver deliverFuel (boundaryEvent s .exc 1 (some c))
    { s with pendingDb := none, recurs := { lin := s.segs.cs.base + s.eip, cause := c } :: s.recurs.filter fun h => !s.isBack h }

/-- Deliver a machine check, vector 18 (R1240, D41). R1201 calls its error code model dependent: that it pushes none is the model's choice
(notes/assumptions/39.md), and so is that one whose delivery meets an exception does not recur (R1240 calls it an abort,
notes/assumptions/63.md). -/
def State.takeMc (s : State) : Host.Outcome State Fault Refusal :=
  deliver deliverFuel (boundaryEvent s .exc 18 none) { s with inp := { s.inp with mc := false } }

/-- Deliver NMI, vector 2 (R1204). That an NMI or INTR whose delivery meets an exception is always lost, and leaves NMI unblocked, is the model's
choice: R1237 says that it may be (notes/assumptions/63.md). -/
def State.takeNmi (s : State) : Host.Outcome State Fault Refusal :=
  deliver deliverFuel (boundaryEvent s .nmi 2 none) { s with nmiPending := false }

/-- Acknowledge INTR and deliver the vector supplied (R1205). -/
def State.takeIntr (s : State) (v : Byte) : Host.Outcome State Fault Refusal :=
  deliver deliverFuel (boundaryEvent s .intr v.toNat none) { s with inp := { s.inp with intr := none }, bus := .intAck v :: s.bus }

/-- Enter system management mode (R1451 to R1455). -/
def State.takeSmi (s : State) : Host.Outcome State Fault Refusal :=
  match smmEntry s with
  | .ok _ t => .next t
  | .error _ t => .next t

/-- The instruction breakpoints at CS:EIP: R/W = 00, LEN = 00, RF = 0, one of them enabled, not just after a load of SS
(R1487, R1206). The cause names every one that matches (R1484), and no data or I/O breakpoint of the instruction before that was not enabled:
the model's choice (R1491, notes/assumptions/79.md). -/
def State.codeBreak (s : State) : Option DbgCause :=
  let m (n : Nat) : Bool := s.codeHits.getLsbD n && drEnabled s.dr.dr7 n
  let fires := m 0 || m 1 || m 2 || m 3
  if fires && !s.flags.rf && !s.inhibitSs then some { DbgCause.none with b := s.codeHits } else none

/-- INTR is open: IF = 1 and neither one-instruction shadow (R1205, R1206, 45_flag_segment_misc.md R811). -/
def State.intrOpen (s : State) : Bool := s.flags.ifl && !s.inhibitSs && !s.inhibitSti

/-- NMI is pending and nothing holds it off: no NMI handler, no load of SS just before, not in SMM (R1204, R1206, 63_smm.md R1452). -/
def State.nmiOpen (s : State) : Bool := s.nmiPending && !s.nmiBlocked && !s.inhibitSs && !s.inSmm

/-- An interrupt that ends the Halted state (10_state.md R130). -/
def State.wakes (s : State) : Bool := s.nmiOpen || (s.inp.intr.isSome && s.intrOpen)

/-- The events below SMI# (R1208): a debug trap, a machine check, NMI, INTR; then an instruction breakpoint faults before the instruction.
`none`: the next instruction runs. A halted processor stays halted until an event of R130 comes (00_scope.md R11): a debug trap of the HLT and a
machine check wait for it and are then taken in their order, the model's reading (notes/assumptions/57.md). -/
def State.interrupts (s : State) : Option (Host.Outcome State Fault Refusal) :=
  if s.run = .halted && !s.wakes then some (.next s)
  else
    match s.trapDue, s.inhibitSs with
    | some c, false => some (s.takeTrap c)
    | _, _ =>
      if s.inp.mc && s.mce then some s.takeMc
      else if s.nmiOpen then some s.takeNmi
      else
        match s.inp.intr, s.intrOpen with
        | some v, true => some (s.takeIntr v)
        | _, _ =>
          match s.codeBreak with
          | some c => some (deliver deliverFuel (boundaryEvent s .exc 1 (some c)) s)
          | none => none

/-- The boundary (R11, R1208, D17): RESET, INIT, then what Shutdown lets through, then SMI#, then `interrupts`. An SMI# that arrives in Shutdown
is not taken (D70) but stays latched, and so does a machine check, the model's choice (notes/assumptions/57.md). -/
def State.boundary (s : State) : Option (Host.Outcome State Fault Refusal) :=
  match s.inp.reset with
  | some r => some (.next (s.onReset r))
  | none =>
    if s.inp.init then some (.next s.onInit)
    else if s.run = .shutdown then
      if s.nmiPending && !s.nmiBlocked then some s.takeNmi else some (.next s)
    else if s.smiPending && !s.inSmm then some s.takeSmi
    else s.interrupts

/-- The clock ticks, and a machine-check report is lost while CR4.MCE = 0 (R1240). -/
def State.begin (s : State) : State :=
  let t := s.tick
  { t with inp := { t.inp with mc := t.inp.mc && t.mce } }

end Sys2Proof.Machine

end
end

