-- ==== Sys2Proof/WellFormed.lean ====
section
/-! DEFINITION. Which terms of the syntax an encoding can stand for, given the operand and address sizes under which they are
encoded (30_encoding.md R405, R421 to R428). -/

namespace Sys2Proof

/-- The displacement has one of the widths of an address size (R426); `needed` says that the form has no encoding
without a displacement. -/
def Disp.wf (as : Size) (needed : Bool) : Disp → Bool
  | .none => !needed
  | .d8 _ => true
  | .d16 _ => as == .s16
  | .d32 _ => as == .s32

/-- The memory operand has an encoding under address size `as` (R421 to R423): [BP] and [EBP] need a displacement, and ESP as
a base needs a SIB byte. -/
def MemOp.wf (as : Size) : MemOp → Bool
  | .direct16 _ => as == .s16
  | .base16 b d => as == .s16 && d.wf as (b == .bp)
  | .direct32 _ => as == .s32
  | .base32 b d => as == .s32 && b != .esp && d.wf as (b == .ebp)
  | .sib _ _ b d => as == .s32 && d.wf as (b == .ebp)
  | .sibNoBase _ _ _ => as == .s32

/-- The r/m operand has an encoding under address size `as`. -/
def RM.wf (as : Size) : RM → Bool
  | .reg _ => true
  | .mem m => m.wf as

/-- A 32-bit field holds a value that `sz` bits encode (R427 to R429). -/
def Size.fits (sz : Size) (v : Word) : Bool :=
  match sz with
  | .s16 => v.toNat < 65536
  | .s32 => true

/-- The instruction has an encoding under operand size `os` and address size `as`. Besides the operands: `XCHG eAX, eAX` is
NOP (R440) and `MOV CS, r/m16` is no instruction (R450). -/
def Instr.wf (os as : Size) : Instr → Bool
  | .addRm8R8 rm _ => rm.wf as
  | .addRmR rm _ => rm.wf as
  | .addR8Rm8 rm _ => rm.wf as
  | .addRRm rm _ => rm.wf as
  | .addAlImm8 _ => true
  | .addEaxImm imm => os.fits imm
  | .addRm8Imm8 rm _ => rm.wf as
  | .addRmImm rm imm => rm.wf as && os.fits imm
  | .addRmSImm8 rm _ => rm.wf as
  | .orRm8R8 rm _ => rm.wf as
  | .orRmR rm _ => rm.wf as
  | .orR8Rm8 rm _ => rm.wf as
  | .orRRm rm _ => rm.wf as
  | .orAlImm8 _ => true
  | .orEaxImm imm => os.fits imm
  | .orRm8Imm8 rm _ => rm.wf as
  | .orRmImm rm imm => rm.wf as && os.fits imm
  | .orRmSImm8 rm _ => rm.wf as
  | .adcRm8R8 rm _ => rm.wf as
  | .adcRmR rm _ => rm.wf as
  | .adcR8Rm8 rm _ => rm.wf as
  | .adcRRm rm _ => rm.wf as
  | .adcAlImm8 _ => true
  | .adcEaxImm imm => os.fits imm
  | .adcRm8Imm8 rm _ => rm.wf as
  | .adcRmImm rm imm => rm.wf as && os.fits imm
  | .adcRmSImm8 rm _ => rm.wf as
  | .sbbRm8R8 rm _ => rm.wf as
  | .sbbRmR rm _ => rm.wf as
  | .sbbR8Rm8 rm _ => rm.wf as
  | .sbbRRm rm _ => rm.wf as
  | .sbbAlImm8 _ => true
  | .sbbEaxImm imm => os.fits imm
  | .sbbRm8Imm8 rm _ => rm.wf as
  | .sbbRmImm rm imm => rm.wf as && os.fits imm
  | .sbbRmSImm8 rm _ => rm.wf as
  | .andRm8R8 rm _ => rm.wf as
  | .andRmR rm _ => rm.wf as
  | .andR8Rm8 rm _ => rm.wf as
  | .andRRm rm _ => rm.wf as
  | .andAlImm8 _ => true
  | .andEaxImm imm => os.fits imm
  | .andRm8Imm8 rm _ => rm.wf as
  | .andRmImm rm imm => rm.wf as && os.fits imm
  | .andRmSImm8 rm _ => rm.wf as
  | .subRm8R8 rm _ => rm.wf as
  | .subRmR rm _ => rm.wf as
  | .subR8Rm8 rm _ => rm.wf as
  | .subRRm rm _ => rm.wf as
  | .subAlImm8 _ => true
  | .subEaxImm imm => os.fits imm
  | .subRm8Imm8 rm _ => rm.wf as
  | .subRmImm rm imm => rm.wf as && os.fits imm
  | .subRmSImm8 rm _ => rm.wf as
  | .xorRm8R8 rm _ => rm.wf as
  | .xorRmR rm _ => rm.wf as
  | .xorR8Rm8 rm _ => rm.wf as
  | .xorRRm rm _ => rm.wf as
  | .xorAlImm8 _ => true
  | .xorEaxImm imm => os.fits imm
  | .xorRm8Imm8 rm _ => rm.wf as
  | .xorRmImm rm imm => rm.wf as && os.fits imm
  | .xorRmSImm8 rm _ => rm.wf as
  | .cmpRm8R8 rm _ => rm.wf as
  | .cmpRmR rm _ => rm.wf as
  | .cmpR8Rm8 rm _ => rm.wf as
  | .cmpRRm rm _ => rm.wf as
  | .cmpAlImm8 _ => true
  | .cmpEaxImm imm => os.fits imm
  | .cmpRm8Imm8 rm _ => rm.wf as
  | .cmpRmImm rm imm => rm.wf as && os.fits imm
  | .cmpRmSImm8 rm _ => rm.wf as
  | .movRm8R8 rm _ => rm.wf as
  | .movRmR rm _ => rm.wf as
  | .movR8Rm8 rm _ => rm.wf as
  | .movRRm rm _ => rm.wf as
  | .movRm16Sreg rm _ => rm.wf as
  | .movSregRm16 rm sr => rm.wf as && sr != .cs
  | .movAlMoffs8 off => as.fits off
  | .movEaxMoffs off => as.fits off
  | .movMoffs8Al off => as.fits off
  | .movMoffsEax off => as.fits off
  | .movR8Imm8 _ _ => true
  | .movRImm _ imm => os.fits imm
  | .movRm8Imm8 rm _ => rm.wf as
  | .movRmImm rm imm => rm.wf as && os.fits imm
  | .xchgRm8R8 rm _ => rm.wf as
  | .xchgRmR rm _ => rm.wf as
  | .xchgEaxR r => r != .eax
  | .nop => true
  | .pushR _ => true
  | .pushRm rm => rm.wf as
  | .pushImm imm => os.fits imm
  | .pushSImm8 _ => true
  | .pushEs => true
  | .pushCs => true
  | .pushSs => true
  | .pushDs => true
  | .pushFs => true
  | .pushGs => true
  | .popR _ => true
  | .popRm rm => rm.wf as
  | .popEs => true
  | .popSs => true
  | .popDs => true
  | .popFs => true
  | .popGs => true
  | .pusha => true
  | .popa => true
  | .cbw => true
  | .cwd => true
  | .movsxRRm8 rm _ => rm.wf as
  | .movsxR32Rm16 rm _ => rm.wf as
  | .movzxRRm8 rm _ => rm.wf as
  | .movzxR32Rm16 rm _ => rm.wf as
  | .bswapR32 _ => true
  | .xaddRm8R8 rm _ => rm.wf as
  | .xaddRmR rm _ => rm.wf as
  | .cmpxchgRm8R8 rm _ => rm.wf as
  | .cmpxchgRmR rm _ => rm.wf as
  | .cmpxchg8bM64 m => m.wf as
  | .ldsRFar m _ => m.wf as
  | .lesRFar m _ => m.wf as
  | .lssRFar m _ => m.wf as
  | .lfsRFar m _ => m.wf as
  | .lgsRFar m _ => m.wf as
  | .leaRM m _ => m.wf as
  | .xlat => true
  | .incR _ => true
  | .incRm8 rm => rm.wf as
  | .incRm rm => rm.wf as
  | .decR _ => true
  | .decRm8 rm => rm.wf as
  | .decRm rm => rm.wf as
  | .negRm8 rm => rm.wf as
  | .negRm rm => rm.wf as
  | .mulRm8 rm => rm.wf as
  | .mulRm rm => rm.wf as
  | .imulRm8 rm => rm.wf as
  | .imulRm rm => rm.wf as
  | .imulRRm rm _ => rm.wf as
  | .imulRRmImm rm _ imm => rm.wf as && os.fits imm
  | .imulRRmSImm8 rm _ _ => rm.wf as
  | .divRm8 rm => rm.wf as
  | .divRm rm => rm.wf as
  | .idivRm8 rm => rm.wf as
  | .idivRm rm => rm.wf as
  | .daa => true
  | .das => true
  | .aaa => true
  | .aas => true
  | .aamImm8 _ => true
  | .aadImm8 _ => true
  | .notRm8 rm => rm.wf as
  | .notRm rm => rm.wf as
  | .testRm8R8 rm _ => rm.wf as
  | .testRmR rm _ => rm.wf as
  | .testAlImm8 _ => true
  | .testEaxImm imm => os.fits imm
  | .testRm8Imm8 rm _ => rm.wf as
  | .testRmImm rm imm => rm.wf as && os.fits imm
  | .rolRm8One rm => rm.wf as
  | .rolRmOne rm => rm.wf as
  | .rolRm8Cl rm => rm.wf as
  | .rolRmCl rm => rm.wf as
  | .rolRm8Imm8 rm _ => rm.wf as
  | .rolRmImm8 rm _ => rm.wf as
  | .rorRm8One rm => rm.wf as
  | .rorRmOne rm => rm.wf as
  | .rorRm8Cl rm => rm.wf as
  | .rorRmCl rm => rm.wf as
  | .rorRm8Imm8 rm _ => rm.wf as
  | .rorRmImm8 rm _ => rm.wf as
  | .rclRm8One rm => rm.wf as
  | .rclRmOne rm => rm.wf as
  | .rclRm8Cl rm => rm.wf as
  | .rclRmCl rm => rm.wf as
  | .rclRm8Imm8 rm _ => rm.wf as
  | .rclRmImm8 rm _ => rm.wf as
  | .rcrRm8One rm => rm.wf as
  | .rcrRmOne rm => rm.wf as
  | .rcrRm8Cl rm => rm.wf as
  | .rcrRmCl rm => rm.wf as
  | .rcrRm8Imm8 rm _ => rm.wf as
  | .rcrRmImm8 rm _ => rm.wf as
  | .shlRm8One rm => rm.wf as
  | .shlRmOne rm => rm.wf as
  | .shlRm8Cl rm => rm.wf as
  | .shlRmCl rm => rm.wf as
  | .shlRm8Imm8 rm _ => rm.wf as
  | .shlRmImm8 rm _ => rm.wf as
  | .shrRm8One rm => rm.wf as
  | .shrRmOne rm => rm.wf as
  | .shrRm8Cl rm => rm.wf as
  | .shrRmCl rm => rm.wf as
  | .shrRm8Imm8 rm _ => rm.wf as
  | .shrRmImm8 rm _ => rm.wf as
  | .sarRm8One rm => rm.wf as
  | .sarRmOne rm => rm.wf as
  | .sarRm8Cl rm => rm.wf as
  | .sarRmCl rm => rm.wf as
  | .sarRm8Imm8 rm _ => rm.wf as
  | .sarRmImm8 rm _ => rm.wf as
  | .shldRmRImm8 rm _ _ => rm.wf as
  | .shldRmRCl rm _ => rm.wf as
  | .shrdRmRImm8 rm _ _ => rm.wf as
  | .shrdRmRCl rm _ => rm.wf as
  | .btRmR rm _ => rm.wf as
  | .btRmImm8 rm _ => rm.wf as
  | .btsRmR rm _ => rm.wf as
  | .btsRmImm8 rm _ => rm.wf as
  | .btrRmR rm _ => rm.wf as
  | .btrRmImm8 rm _ => rm.wf as
  | .btcRmR rm _ => rm.wf as
  | .btcRmImm8 rm _ => rm.wf as
  | .bsfRRm rm _ => rm.wf as
  | .bsrRRm rm _ => rm.wf as
  | .setccRm8 _ rm => rm.wf as
  | .jmpRel8 _ => true
  | .jmpRel rel => os.fits rel
  | .jmpRm rm => rm.wf as
  | .jmpPtr off _ => os.fits off
  | .jmpFar m => m.wf as
  | .callRel rel => os.fits rel
  | .callRm rm => rm.wf as
  | .callPtr off _ => os.fits off
  | .callFar m => m.wf as
  | .ret => true
  | .retImm16 _ => true
  | .retf => true
  | .retfImm16 _ => true
  | .jccRel8 _ _ => true
  | .jccRel _ rel => os.fits rel
  | .jcxzRel8 _ => true
  | .loopRel8 _ => true
  | .loopeRel8 _ => true
  | .loopneRel8 _ => true
  | .iret => true
  | .intImm8 _ => true
  | .int3 => true
  | .into => true
  | .boundRM m _ => m.wf as
  | .enterImm16Imm8 _ _ => true
  | .leave => true
  | .movsb => true
  | .movsw => true
  | .cmpsb => true
  | .cmpsw => true
  | .stosb => true
  | .stosw => true
  | .lodsb => true
  | .lodsw => true
  | .scasb => true
  | .scasw => true
  | .insb => true
  | .insw => true
  | .outsb => true
  | .outsw => true
  | .stc => true
  | .clc => true
  | .cmc => true
  | .cld => true
  | .std => true
  | .cli => true
  | .sti => true
  | .lahf => true
  | .sahf => true
  | .pushf => true
  | .popf => true
  | .cpuid => true
  | .sldtRm16 rm => rm.wf as
  | .strRm16 rm => rm.wf as
  | .lldtRm16 rm => rm.wf as
  | .ltrRm16 rm => rm.wf as
  | .verrRm16 rm => rm.wf as
  | .verwRm16 rm => rm.wf as
  | .sgdtM m => m.wf as
  | .sidtM m => m.wf as
  | .lgdtM m => m.wf as
  | .lidtM m => m.wf as
  | .smswRm16 rm => rm.wf as
  | .lmswRm16 rm => rm.wf as
  | .invlpgM m => m.wf as
  | .larRRm16 rm _ => rm.wf as
  | .lslRRm16 rm _ => rm.wf as
  | .clts => true
  | .invd => true
  | .wbinvd => true
  | .movR32Cr _ _ => true
  | .movCrR32 _ _ => true
  | .movR32Dr _ _ => true
  | .movDrR32 _ _ => true
  | .movR32Tr _ _ => true
  | .movTrR32 _ _ => true
  | .wrmsr => true
  | .rdtsc => true
  | .rdmsr => true
  | .rsm => true
  | .hlt => true
  | .arplRm16R16 rm _ => rm.wf as
  | .inAlImm8 _ => true
  | .inEaxImm8 _ => true
  | .inAlDx => true
  | .inEaxDx => true
  | .outImm8Al _ => true
  | .outImm8Eax _ => true
  | .outDxAl => true
  | .outDxEax => true
  | .wait => true
  | .fldM32 m => m.wf as
  | .fldM64 m => m.wf as
  | .fldM80 m => m.wf as
  | .fldSti _ => true
  | .fstM32 m => m.wf as
  | .fstM64 m => m.wf as
  | .fstSti _ => true
  | .fstpM32 m => m.wf as
  | .fstpM64 m => m.wf as
  | .fstpM80 m => m.wf as
  | .fstpSti _ => true
  | .fxchSti _ => true
  | .fildM16 m => m.wf as
  | .fildM32 m => m.wf as
  | .fildM64 m => m.wf as
  | .fistM16 m => m.wf as
  | .fistM32 m => m.wf as
  | .fistpM16 m => m.wf as
  | .fistpM32 m => m.wf as
  | .fistpM64 m => m.wf as
  | .fbldM80 m => m.wf as
  | .fbstpM80 m => m.wf as
  | .faddM32 m => m.wf as
  | .faddM64 m => m.wf as
  | .faddStSti _ => true
  | .faddStiSt _ => true
  | .faddpStiSt _ => true
  | .fiaddM32 m => m.wf as
  | .fiaddM16 m => m.wf as
  | .fmulM32 m => m.wf as
  | .fmulM64 m => m.wf as
  | .fmulStSti _ => true
  | .fmulStiSt _ => true
  | .fmulpStiSt _ => true
  | .fimulM32 m => m.wf as
  | .fimulM16 m => m.wf as
  | .fsubM32 m => m.wf as
  | .fsubM64 m => m.wf as
  | .fsubStSti _ => true
  | .fsubStiSt _ => true
  | .fsubpStiSt _ => true
  | .fisubM32 m => m.wf as
  | .fisubM16 m => m.wf as
  | .fsubrM32 m => m.wf as
  | .fsubrM64 m => m.wf as
  | .fsubrStSti _ => true
  | .fsubrStiSt _ => true
  | .fsubrpStiSt _ => true
  | .fisubrM32 m => m.wf as
  | .fisubrM16 m => m.wf as
  | .fdivM32 m => m.wf as
  | .fdivM64 m => m.wf as
  | .fdivStSti _ => true
  | .fdivStiSt _ => true
  | .fdivpStiSt _ => true
  | .fidivM32 m => m.wf as
  | .fidivM16 m => m.wf as
  | .fdivrM32 m => m.wf as
  | .fdivrM64 m => m.wf as
  | .fdivrStSti _ => true
  | .fdivrStiSt _ => true
  | .fdivrpStiSt _ => true
  | .fidivrM32 m => m.wf as
  | .fidivrM16 m => m.wf as
  | .fcomM32 m => m.wf as
  | .fcomM64 m => m.wf as
  | .fcomSti _ => true
  | .fcompM32 m => m.wf as
  | .fcompM64 m => m.wf as
  | .fcompSti _ => true
  | .fcompp => true
  | .fucomSti _ => true
  | .fucompSti _ => true
  | .fucompp => true
  | .ficomM16 m => m.wf as
  | .ficomM32 m => m.wf as
  | .ficompM16 m => m.wf as
  | .ficompM32 m => m.wf as
  | .ftst => true
  | .fxam => true
  | .fsqrt => true
  | .fscale => true
  | .fxtract => true
  | .fprem => true
  | .fprem1 => true
  | .frndint => true
  | .fabs => true
  | .fchs => true
  | .fld1 => true
  | .fldl2t => true
  | .fldl2e => true
  | .fldpi => true
  | .fldlg2 => true
  | .fldln2 => true
  | .fldz => true
  | .fsin => true
  | .fcos => true
  | .fsincos => true
  | .fptan => true
  | .fpatan => true
  | .f2xm1 => true
  | .fyl2x => true
  | .fyl2xp1 => true
  | .fninit => true
  | .fnclex => true
  | .fnstswAx => true
  | .fincstp => true
  | .fdecstp => true
  | .fnop => true
  | .feni => true
  | .fdisi => true
  | .fsetpm => true
  | .fldcwM16 m => m.wf as
  | .fnstcwM16 m => m.wf as
  | .fnstswM16 m => m.wf as
  | .fnstenvM m => m.wf as
  | .fldenvM m => m.wf as
  | .fnsaveM m => m.wf as
  | .frstorM m => m.wf as
  | .ffreeSti _ => true
  | .finit => true
  | .fclex => true
  | .fstswAx => true
  | .fstcwM16 m => m.wf as
  | .fstswM16 m => m.wf as
  | .fstenvM m => m.wf as
  | .fsaveM m => m.wf as
  | .prefixEs => true
  | .prefixCs => true
  | .prefixSs => true
  | .prefixDs => true
  | .prefixFs => true
  | .prefixGs => true
  | .prefixOpSize => true
  | .prefixAdSize => true
  | .prefixLock => true
  | .prefixRepne => true
  | .prefixRep => true

end Sys2Proof
end

