-- ==== Sys2Proof/Decode.lean ====
section
/-! DEFINITION. The decoder and the encoder, both from the encoding rules of 30_encoding.md and the ESC encodings of
48_fpu_instructions.md. The decoder is total on any bytes: it answers an instruction and the bytes after it, or asks for
more bytes, or says that the bytes name no instruction (and how the processor treats them). -/

noncomputable section

namespace Sys2Proof

/-- Why the bytes are no instruction of the table (30_encoding.md R450). -/
inductive BadOpcode where
  /-- Unassigned, or a form the opcode does not have: #UD when it reaches execution (R450 items 1, 3, 4, 6). -/
  | undefined
  /-- D6H and F1H: reserved, no interrupt 6, no effect given (R450 item 2). -/
  | reserved
  /-- 82H, group 2 /6, group 3 /1: refused by decision D6 (R450 item 9). -/
  | aliased
  deriving DecidableEq, Repr

/-- What the decoder says of a list of bytes. -/
inductive Decoded where
  | ok (i : Instr) (rest : List Byte)
  | more
  | bad (why : BadOpcode)
  deriving DecidableEq, Repr

/-- What the decoder needs after the bytes it has read: one item of an instruction at a time (R400). -/
inductive Parse where
  | done (i : Instr)
  | bad (why : BadOpcode)
  | byte (k : Byte → Parse)
  | modrm (k : RM → BitVec 3 → Parse)
  | imm8 (k : BitVec 8 → Parse)
  | imm16 (k : BitVec 16 → Parse)
  | immV (k : BitVec 32 → Parse)
  | immA (k : BitVec 32 → Parse)

/-- An invalid opcode (R450 item 1). -/
def parseUd : Parse := .bad .undefined

/-- Two bytes, the low one first (20_memory.md R201). -/
def le16 (a b : Byte) : BitVec 16 := b ++ a

/-- Four bytes, the low one first (R201). -/
def le32 (a b c d : Byte) : BitVec 32 := (d ++ c : BitVec 16) ++ (b ++ a : BitVec 16)

/-- A field of `sz` bits, zero-extended to 32, and the bytes after it (R427). -/
def takeSized : Size → List Byte → Option (Word × List Byte)
  | .s16, a :: b :: bs => some ((le16 a b).setWidth 32, bs)
  | .s32, a :: b :: c :: d :: bs => some (le32 a b c d, bs)
  | _, _ => none

/-- The displacement that `mod` and the address size call for (R426). -/
def takeDisp (as : Size) (mod : BitVec 2) (bs : List Byte) : Option (Disp × List Byte) :=
  match mod.toNat, as, bs with
  | 0, _, bs => some (.none, bs)
  | 1, _, a :: bs => some (.d8 a, bs)
  | 2, .s16, a :: b :: bs => some (.d16 (le16 a b), bs)
  | 2, .s32, a :: b :: c :: d :: bs => some (.d32 (le32 a b c d), bs)
  | _, _, _ => none

/-- The 16-bit addressing form of `mod` and `rm` (R423). -/
def takeMem16 (mod : BitVec 2) (rm : BitVec 3) (bs : List Byte) : Option (MemOp × List Byte) :=
  if mod = 0 ∧ rm = 6 then
    match bs with
    | a :: b :: bs => some (.direct16 (le16 a b), bs)
    | _ => none
  else
    (takeDisp .s16 mod bs).map fun (d, bs) => (.base16 (Base16.ofNum rm) d, bs)

/-- The 32-bit addressing form of `mod` and `rm`, the SIB byte among them (R421, R422). -/
def takeMem32 (mod : BitVec 2) (rm : BitVec 3) (bs : List Byte) : Option (MemOp × List Byte) :=
  if mod = 0 ∧ rm = 5 then
    (takeSized .s32 bs).map fun (d, bs) => (.direct32 d, bs)
  else if rm = 4 then
    match bs with
    | s :: bs =>
      let scale := s.extractLsb' 6 2
      let index := Reg.ofNum (s.extractLsb' 3 3)
      let base := s.extractLsb' 0 3
      if mod = 0 ∧ base = 5 then
        (takeSized .s32 bs).map fun (d, bs) => (.sibNoBase scale index d, bs)
      else
        (takeDisp .s32 mod bs).map fun (d, bs) => (.sib scale index (Reg.ofNum base) d, bs)
    | [] => none
  else
    (takeDisp .s32 mod bs).map fun (d, bs) => (.base32 (Reg.ofNum rm) d, bs)

/-- The ModR/M byte with what follows it: the r/m operand, the `reg` field, the bytes after (R420). -/
def takeModrm (as : Size) : List Byte → Option (RM × BitVec 3 × List Byte)
  | [] => none
  | m :: bs =>
    let mod := m.extractLsb' 6 2
    let reg := m.extractLsb' 3 3
    let rm := m.extractLsb' 0 3
    if mod = 3 then some (.reg (Reg.ofNum rm), reg, bs)
    else
      match as with
      | .s16 => (takeMem16 mod rm bs).map fun (o, bs) => (.mem o, reg, bs)
      | .s32 => (takeMem32 mod rm bs).map fun (o, bs) => (.mem o, reg, bs)

/-- Read the items an instruction asks for, under operand size `os` and address size `as`. -/
def runParse (os as : Size) : Parse → List Byte → Decoded
  | .done i, bs => .ok i bs
  | .bad w, _ => .bad w
  | .byte k, b :: bs => runParse os as (k b) bs
  | .imm8 k, b :: bs => runParse os as (k b) bs
  | .imm16 k, a :: b :: bs => runParse os as (k (le16 a b)) bs
  | .modrm k, bs =>
    match takeModrm as bs with
    | some (rm, reg, bs) => runParse os as (k rm reg) bs
    | none => .more
  | .immV k, bs =>
    match takeSized os bs with
    | some (v, bs) => runParse os as (k v) bs
    | none => .more
  | .immA k, bs =>
    match takeSized as bs with
    | some (v, bs) => runParse os as (k v) bs
    | none => .more
  | _, _ => .more

/-- /r with a general register in `reg`. -/
def parseRmReg (f : RM → Reg → Instr) : Parse := .modrm fun rm n => .done (f rm (Reg.ofNum n))

/-- The memory-only forms: mod = 11 is #UD (R450 item 3). -/
def parseMem (rm : RM) (f : MemOp → Instr) : Parse :=
  match rm with
  | .mem m => .done (f m)
  | .reg _ => parseUd

/-- /r with memory only and a general register in `reg`. -/
def parseMemReg (f : MemOp → Reg → Instr) : Parse := .modrm fun rm n => parseMem rm fun m => f m (Reg.ofNum n)

/-- A trailing `ib` immediate. -/
def parseImm8 (f : BitVec 8 → Instr) : Parse := .imm8 fun v => .done (f v)

/-- A trailing `iv` immediate. -/
def parseImmV (f : BitVec 32 → Instr) : Parse := .immV fun v => .done (f v)

/-- A trailing `moffs` field. -/
def parseImmA (f : BitVec 32 → Instr) : Parse := .immA fun v => .done (f v)

/-- Opcode 80H: the `reg` field selects the instruction (R440, R441). -/
def group80 (rm : RM) (n : BitVec 3) : Parse :=
  match n.toNat with
  | 0 => parseImm8 (.addRm8Imm8 rm)
  | 1 => parseImm8 (.orRm8Imm8 rm)
  | 2 => parseImm8 (.adcRm8Imm8 rm)
  | 3 => parseImm8 (.sbbRm8Imm8 rm)
  | 4 => parseImm8 (.andRm8Imm8 rm)
  | 5 => parseImm8 (.subRm8Imm8 rm)
  | 6 => parseImm8 (.xorRm8Imm8 rm)
  | _ => parseImm8 (.cmpRm8Imm8 rm)

/-- Opcode 81H: the `reg` field selects the instruction (R440, R441). -/
def group81 (rm : RM) (n : BitVec 3) : Parse :=
  match n.toNat with
  | 0 => parseImmV (.addRmImm rm)
  | 1 => parseImmV (.orRmImm rm)
  | 2 => parseImmV (.adcRmImm rm)
  | 3 => parseImmV (.sbbRmImm rm)
  | 4 => parseImmV (.andRmImm rm)
  | 5 => parseImmV (.subRmImm rm)
  | 6 => parseImmV (.xorRmImm rm)
  | _ => parseImmV (.cmpRmImm rm)

/-- Opcode 83H: the `reg` field selects the instruction (R440, R441). -/
def group83 (rm : RM) (n : BitVec 3) : Parse :=
  match n.toNat with
  | 0 => parseImm8 (.addRmSImm8 rm)
  | 1 => parseImm8 (.orRmSImm8 rm)
  | 2 => parseImm8 (.adcRmSImm8 rm)
  | 3 => parseImm8 (.sbbRmSImm8 rm)
  | 4 => parseImm8 (.andRmSImm8 rm)
  | 5 => parseImm8 (.subRmSImm8 rm)
  | 6 => parseImm8 (.xorRmSImm8 rm)
  | _ => parseImm8 (.cmpRmSImm8 rm)

/-- Opcode 8FH: the `reg` field selects the instruction (R440, R441). -/
def group8F (rm : RM) (n : BitVec 3) : Parse :=
  match n.toNat with
  | 0 => .done (.popRm rm)
  | _ => parseUd

/-- Opcode C0H: the `reg` field selects the instruction (R440, R441). -/
def groupC0 (rm : RM) (n : BitVec 3) : Parse :=
  match n.toNat with
  | 0 => parseImm8 (.rolRm8Imm8 rm)
  | 1 => parseImm8 (.rorRm8Imm8 rm)
  | 2 => parseImm8 (.rclRm8Imm8 rm)
  | 3 => parseImm8 (.rcrRm8Imm8 rm)
  | 4 => parseImm8 (.shlRm8Imm8 rm)
  | 5 => parseImm8 (.shrRm8Imm8 rm)
  | 6 => .bad .aliased
  | _ => parseImm8 (.sarRm8Imm8 rm)

/-- Opcode C1H: the `reg` field selects the instruction (R440, R441). -/
def groupC1 (rm : RM) (n : BitVec 3) : Parse :=
  match n.toNat with
  | 0 => parseImm8 (.rolRmImm8 rm)
  | 1 => parseImm8 (.rorRmImm8 rm)
  | 2 => parseImm8 (.rclRmImm8 rm)
  | 3 => parseImm8 (.rcrRmImm8 rm)
  | 4 => parseImm8 (.shlRmImm8 rm)
  | 5 => parseImm8 (.shrRmImm8 rm)
  | 6 => .bad .aliased
  | _ => parseImm8 (.sarRmImm8 rm)

/-- Opcode C6H: the `reg` field selects the instruction (R440, R441). -/
def groupC6 (rm : RM) (n : BitVec 3) : Parse :=
  match n.toNat with
  | 0 => parseImm8 (.movRm8Imm8 rm)
  | _ => parseUd

/-- Opcode C7H: the `reg` field selects the instruction (R440, R441). -/
def groupC7 (rm : RM) (n : BitVec 3) : Parse :=
  match n.toNat with
  | 0 => parseImmV (.movRmImm rm)
  | _ => parseUd

/-- Opcode D0H: the `reg` field selects the instruction (R440, R441). -/
def groupD0 (rm : RM) (n : BitVec 3) : Parse :=
  match n.toNat with
  | 0 => .done (.rolRm8One rm)
  | 1 => .done (.rorRm8One rm)
  | 2 => .done (.rclRm8One rm)
  | 3 => .done (.rcrRm8One rm)
  | 4 => .done (.shlRm8One rm)
  | 5 => .done (.shrRm8One rm)
  | 6 => .bad .aliased
  | _ => .done (.sarRm8One rm)

/-- Opcode D1H: the `reg` field selects the instruction (R440, R441). -/
def groupD1 (rm : RM) (n : BitVec 3) : Parse :=
  match n.toNat with
  | 0 => .done (.rolRmOne rm)
  | 1 => .done (.rorRmOne rm)
  | 2 => .done (.rclRmOne rm)
  | 3 => .done (.rcrRmOne rm)
  | 4 => .done (.shlRmOne rm)
  | 5 => .done (.shrRmOne rm)
  | 6 => .bad .aliased
  | _ => .done (.sarRmOne rm)

/-- Opcode D2H: the `reg` field selects the instruction (R440, R441). -/
def groupD2 (rm : RM) (n : BitVec 3) : Parse :=
  match n.toNat with
  | 0 => .done (.rolRm8Cl rm)
  | 1 => .done (.rorRm8Cl rm)
  | 2 => .done (.rclRm8Cl rm)
  | 3 => .done (.rcrRm8Cl rm)
  | 4 => .done (.shlRm8Cl rm)
  | 5 => .done (.shrRm8Cl rm)
  | 6 => .bad .aliased
  | _ => .done (.sarRm8Cl rm)

/-- Opcode D3H: the `reg` field selects the instruction (R440, R441). -/
def groupD3 (rm : RM) (n : BitVec 3) : Parse :=
  match n.toNat with
  | 0 => .done (.rolRmCl rm)
  | 1 => .done (.rorRmCl rm)
  | 2 => .done (.rclRmCl rm)
  | 3 => .done (.rcrRmCl rm)
  | 4 => .done (.shlRmCl rm)
  | 5 => .done (.shrRmCl rm)
  | 6 => .bad .aliased
  | _ => .done (.sarRmCl rm)

/-- Opcode F6H: the `reg` field selects the instruction (R440, R441). -/
def groupF6 (rm : RM) (n : BitVec 3) : Parse :=
  match n.toNat with
  | 0 => parseImm8 (.testRm8Imm8 rm)
  | 1 => .bad .aliased
  | 2 => .done (.notRm8 rm)
  | 3 => .done (.negRm8 rm)
  | 4 => .done (.mulRm8 rm)
  | 5 => .done (.imulRm8 rm)
  | 6 => .done (.divRm8 rm)
  | 7 => .done (.idivRm8 rm)
  | _ => parseUd

/-- Opcode F7H: the `reg` field selects the instruction (R440, R441). -/
def groupF7 (rm : RM) (n : BitVec 3) : Parse :=
  match n.toNat with
  | 0 => parseImmV (.testRmImm rm)
  | 1 => .bad .aliased
  | 2 => .done (.notRm rm)
  | 3 => .done (.negRm rm)
  | 4 => .done (.mulRm rm)
  | 5 => .done (.imulRm rm)
  | 6 => .done (.divRm rm)
  | 7 => .done (.idivRm rm)
  | _ => parseUd

/-- Opcode FEH: the `reg` field selects the instruction (R440, R441). -/
def groupFE (rm : RM) (n : BitVec 3) : Parse :=
  match n.toNat with
  | 0 => .done (.incRm8 rm)
  | 1 => .done (.decRm8 rm)
  | _ => parseUd

/-- Opcode FFH: the `reg` field selects the instruction (R440, R441). -/
def groupFF (rm : RM) (n : BitVec 3) : Parse :=
  match n.toNat with
  | 0 => .done (.incRm rm)
  | 1 => .done (.decRm rm)
  | 2 => .done (.callRm rm)
  | 3 => parseMem rm .callFar
  | 4 => .done (.jmpRm rm)
  | 5 => parseMem rm .jmpFar
  | 6 => .done (.pushRm rm)
  | _ => parseUd

/-- Opcode 0FH 00H: the `reg` field selects the instruction (R440, R441). -/
def group0F00 (rm : RM) (n : BitVec 3) : Parse :=
  match n.toNat with
  | 0 => .done (.sldtRm16 rm)
  | 1 => .done (.strRm16 rm)
  | 2 => .done (.lldtRm16 rm)
  | 3 => .done (.ltrRm16 rm)
  | 4 => .done (.verrRm16 rm)
  | 5 => .done (.verwRm16 rm)
  | _ => parseUd

/-- Opcode 0FH 01H: the `reg` field selects the instruction (R440, R441). -/
def group0F01 (rm : RM) (n : BitVec 3) : Parse :=
  match n.toNat with
  | 0 => parseMem rm .sgdtM
  | 1 => parseMem rm .sidtM
  | 2 => parseMem rm .lgdtM
  | 3 => parseMem rm .lidtM
  | 4 => .done (.smswRm16 rm)
  | 6 => .done (.lmswRm16 rm)
  | 7 => parseMem rm .invlpgM
  | _ => parseUd

/-- Opcode 0FH BAH: the `reg` field selects the instruction (R440, R441). -/
def group0FBA (rm : RM) (n : BitVec 3) : Parse :=
  match n.toNat with
  | 4 => parseImm8 (.btRmImm8 rm)
  | 5 => parseImm8 (.btsRmImm8 rm)
  | 6 => parseImm8 (.btrRmImm8 rm)
  | 7 => parseImm8 (.btcRmImm8 rm)
  | _ => parseUd

/-- Opcode 0FH C7H: the `reg` field selects the instruction (R440, R441). -/
def group0FC7 (rm : RM) (n : BitVec 3) : Parse :=
  match n.toNat with
  | 1 => parseMem rm .cmpxchg8bM64
  | _ => parseUd

/-- ESC opcode D8H: memory forms by `reg` (48_fpu_instructions.md R1100, R1174). -/
def escD8Mem (m : MemOp) (n : BitVec 3) : Parse :=
  match n.toNat with
  | 0 => .done (.faddM32 m)
  | 1 => .done (.fmulM32 m)
  | 2 => .done (.fcomM32 m)
  | 3 => .done (.fcompM32 m)
  | 4 => .done (.fsubM32 m)
  | 5 => .done (.fsubrM32 m)
  | 6 => .done (.fdivM32 m)
  | _ => .done (.fdivrM32 m)

/-- ESC opcode D8H: register forms, by the second byte less C0H (R1100, R1174). -/
def escD8Reg (n i : BitVec 3) : Parse :=
  match n.toNat with
  | 0 => .done (.faddStSti i)
  | 1 => .done (.fmulStSti i)
  | 2 => .done (.fcomSti i)
  | 3 => .done (.fcompSti i)
  | 4 => .done (.fsubStSti i)
  | 5 => .done (.fsubrStSti i)
  | 6 => .done (.fdivStSti i)
  | _ => .done (.fdivrStSti i)

/-- ESC opcode D9H: memory forms by `reg` (48_fpu_instructions.md R1100, R1174). -/
def escD9Mem (m : MemOp) (n : BitVec 3) : Parse :=
  match n.toNat with
  | 0 => .done (.fldM32 m)
  | 2 => .done (.fstM32 m)
  | 3 => .done (.fstpM32 m)
  | 5 => .done (.fldcwM16 m)
  | 7 => .done (.fnstcwM16 m)
  | 6 => .done (.fnstenvM m)
  | 4 => .done (.fldenvM m)
  | _ => parseUd

/-- ESC opcode D9H: register forms, by the second byte less C0H (R1100, R1174). -/
def escD9Reg (n i : BitVec 3) : Parse :=
  match n.toNat with
  | 0 => .done (.fldSti i)
  | 1 => .done (.fxchSti i)
  | 2 => (match i.toNat with | 0 => .done .fnop | _ => parseUd)
  | 4 => (match i.toNat with | 0 => .done .fchs | 1 => .done .fabs | 4 => .done .ftst | 5 => .done .fxam | _ => parseUd)
  | 5 => (match i.toNat with | 0 => .done .fld1 | 1 => .done .fldl2t | 2 => .done .fldl2e | 3 => .done .fldpi | 4 => .done .fldlg2 | 5 => .done .fldln2 | 6 => .done .fldz | _ => parseUd)
  | 6 => (match i.toNat with | 0 => .done .f2xm1 | 1 => .done .fyl2x | 2 => .done .fptan | 3 => .done .fpatan | 4 => .done .fxtract | 5 => .done .fprem1 | 6 => .done .fdecstp | _ => .done .fincstp)
  | 7 => (match i.toNat with | 0 => .done .fprem | 1 => .done .fyl2xp1 | 2 => .done .fsqrt | 3 => .done .fsincos | 4 => .done .frndint | 5 => .done .fscale | 6 => .done .fsin | _ => .done .fcos)
  | _ => parseUd

/-- ESC opcode DAH: memory forms by `reg` (48_fpu_instructions.md R1100, R1174). -/
def escDAMem (m : MemOp) (n : BitVec 3) : Parse :=
  match n.toNat with
  | 0 => .done (.fiaddM32 m)
  | 1 => .done (.fimulM32 m)
  | 2 => .done (.ficomM32 m)
  | 3 => .done (.ficompM32 m)
  | 4 => .done (.fisubM32 m)
  | 5 => .done (.fisubrM32 m)
  | 6 => .done (.fidivM32 m)
  | _ => .done (.fidivrM32 m)

/-- ESC opcode DAH: register forms, by the second byte less C0H (R1100, R1174). -/
def escDAReg (n i : BitVec 3) : Parse :=
  match n.toNat with
  | 5 => (match i.toNat with | 1 => .done .fucompp | _ => parseUd)
  | _ => parseUd

/-- ESC opcode DBH: memory forms by `reg` (48_fpu_instructions.md R1100, R1174). -/
def escDBMem (m : MemOp) (n : BitVec 3) : Parse :=
  match n.toNat with
  | 5 => .done (.fldM80 m)
  | 7 => .done (.fstpM80 m)
  | 0 => .done (.fildM32 m)
  | 2 => .done (.fistM32 m)
  | 3 => .done (.fistpM32 m)
  | _ => parseUd

/-- ESC opcode DBH: register forms, by the second byte less C0H (R1100, R1174). -/
def escDBReg (n i : BitVec 3) : Parse :=
  match n.toNat with
  | 4 => (match i.toNat with | 0 => .done .feni | 1 => .done .fdisi | 2 => .done .fnclex | 3 => .done .fninit | 4 => .done .fsetpm | _ => parseUd)
  | _ => parseUd

/-- ESC opcode DCH: memory forms by `reg` (48_fpu_instructions.md R1100, R1174). -/
def escDCMem (m : MemOp) (n : BitVec 3) : Parse :=
  match n.toNat with
  | 0 => .done (.faddM64 m)
  | 1 => .done (.fmulM64 m)
  | 2 => .done (.fcomM64 m)
  | 3 => .done (.fcompM64 m)
  | 4 => .done (.fsubM64 m)
  | 5 => .done (.fsubrM64 m)
  | 6 => .done (.fdivM64 m)
  | _ => .done (.fdivrM64 m)

/-- ESC opcode DCH: register forms, by the second byte less C0H (R1100, R1174). -/
def escDCReg (n i : BitVec 3) : Parse :=
  match n.toNat with
  | 0 => .done (.faddStiSt i)
  | 1 => .done (.fmulStiSt i)
  | 4 => .done (.fsubrStiSt i)
  | 5 => .done (.fsubStiSt i)
  | 6 => .done (.fdivrStiSt i)
  | 7 => .done (.fdivStiSt i)
  | _ => parseUd

/-- ESC opcode DDH: memory forms by `reg` (48_fpu_instructions.md R1100, R1174). -/
def escDDMem (m : MemOp) (n : BitVec 3) : Parse :=
  match n.toNat with
  | 0 => .done (.fldM64 m)
  | 2 => .done (.fstM64 m)
  | 3 => .done (.fstpM64 m)
  | 7 => .done (.fnstswM16 m)
  | 6 => .done (.fnsaveM m)
  | 4 => .done (.frstorM m)
  | _ => parseUd

/-- ESC opcode DDH: register forms, by the second byte less C0H (R1100, R1174). -/
def escDDReg (n i : BitVec 3) : Parse :=
  match n.toNat with
  | 0 => .done (.ffreeSti i)
  | 2 => .done (.fstSti i)
  | 3 => .done (.fstpSti i)
  | 4 => .done (.fucomSti i)
  | 5 => .done (.fucompSti i)
  | _ => parseUd

/-- ESC opcode DEH: memory forms by `reg` (48_fpu_instructions.md R1100, R1174). -/
def escDEMem (m : MemOp) (n : BitVec 3) : Parse :=
  match n.toNat with
  | 0 => .done (.fiaddM16 m)
  | 1 => .done (.fimulM16 m)
  | 2 => .done (.ficomM16 m)
  | 3 => .done (.ficompM16 m)
  | 4 => .done (.fisubM16 m)
  | 5 => .done (.fisubrM16 m)
  | 6 => .done (.fidivM16 m)
  | _ => .done (.fidivrM16 m)

/-- ESC opcode DEH: register forms, by the second byte less C0H (R1100, R1174). -/
def escDEReg (n i : BitVec 3) : Parse :=
  match n.toNat with
  | 0 => .done (.faddpStiSt i)
  | 1 => .done (.fmulpStiSt i)
  | 3 => (match i.toNat with | 1 => .done .fcompp | _ => parseUd)
  | 4 => .done (.fsubrpStiSt i)
  | 5 => .done (.fsubpStiSt i)
  | 6 => .done (.fdivrpStiSt i)
  | 7 => .done (.fdivpStiSt i)
  | _ => parseUd

/-- ESC opcode DFH: memory forms by `reg` (48_fpu_instructions.md R1100, R1174). -/
def escDFMem (m : MemOp) (n : BitVec 3) : Parse :=
  match n.toNat with
  | 0 => .done (.fildM16 m)
  | 5 => .done (.fildM64 m)
  | 2 => .done (.fistM16 m)
  | 3 => .done (.fistpM16 m)
  | 7 => .done (.fistpM64 m)
  | 4 => .done (.fbldM80 m)
  | 6 => .done (.fbstpM80 m)
  | _ => parseUd

/-- ESC opcode DFH: register forms, by the second byte less C0H (R1100, R1174). -/
def escDFReg (n i : BitVec 3) : Parse :=
  match n.toNat with
  | 4 => (match i.toNat with | 0 => .done .fnstswAx | _ => parseUd)
  | _ => parseUd

/-- The two-byte opcode map (R441): second hexadecimal digit of opcodes 00H to 0FH. -/
def twoByte0 (lo : Nat) : Parse :=
  match lo with
  | 0 => .modrm group0F00
  | 1 => .modrm group0F01
  | 2 => parseRmReg .larRRm16
  | 3 => parseRmReg .lslRRm16
  | 6 => .done .clts
  | 8 => .done .invd
  | 9 => .done .wbinvd
  | _ => parseUd

/-- The two-byte opcode map (R441): second hexadecimal digit of opcodes 10H to 1FH. -/
def twoByte1 (lo : Nat) : Parse :=
  match lo with
  | _ => parseUd

/-- The two-byte opcode map (R441): second hexadecimal digit of opcodes 20H to 2FH. -/
def twoByte2 (lo : Nat) : Parse :=
  match lo with
  | 0 => .byte fun b => .done (.movR32Cr (b.extractLsb' 3 3) (Reg.ofNum (b.extractLsb' 0 3)))
  | 1 => .byte fun b => .done (.movR32Dr (b.extractLsb' 3 3) (Reg.ofNum (b.extractLsb' 0 3)))
  | 2 => .byte fun b => .done (.movCrR32 (b.extractLsb' 3 3) (Reg.ofNum (b.extractLsb' 0 3)))
  | 3 => .byte fun b => .done (.movDrR32 (b.extractLsb' 3 3) (Reg.ofNum (b.extractLsb' 0 3)))
  | 4 => .byte fun b => .done (.movR32Tr (b.extractLsb' 3 3) (Reg.ofNum (b.extractLsb' 0 3)))
  | 6 => .byte fun b => .done (.movTrR32 (b.extractLsb' 3 3) (Reg.ofNum (b.extractLsb' 0 3)))
  | _ => parseUd

/-- The two-byte opcode map (R441): second hexadecimal digit of opcodes 30H to 3FH. -/
def twoByte3 (lo : Nat) : Parse :=
  match lo with
  | 0 => .done .wrmsr
  | 1 => .done .rdtsc
  | 2 => .done .rdmsr
  | _ => parseUd

/-- The two-byte opcode map (R441): second hexadecimal digit of opcodes 40H to 4FH. -/
def twoByte4 (lo : Nat) : Parse :=
  match lo with
  | _ => parseUd

/-- The two-byte opcode map (R441): second hexadecimal digit of opcodes 50H to 5FH. -/
def twoByte5 (lo : Nat) : Parse :=
  match lo with
  | _ => parseUd

/-- The two-byte opcode map (R441): second hexadecimal digit of opcodes 60H to 6FH. -/
def twoByte6 (lo : Nat) : Parse :=
  match lo with
  | _ => parseUd

/-- The two-byte opcode map (R441): second hexadecimal digit of opcodes 70H to 7FH. -/
def twoByte7 (lo : Nat) : Parse :=
  match lo with
  | _ => parseUd

/-- The two-byte opcode map (R441): second hexadecimal digit of opcodes 80H to 8FH. -/
def twoByte8 (lo : Nat) : Parse :=
  match lo with
  | 0 => parseImmV (.jccRel .o)
  | 1 => parseImmV (.jccRel .no)
  | 2 => parseImmV (.jccRel .b)
  | 3 => parseImmV (.jccRel .ae)
  | 4 => parseImmV (.jccRel .e)
  | 5 => parseImmV (.jccRel .ne)
  | 6 => parseImmV (.jccRel .be)
  | 7 => parseImmV (.jccRel .a)
  | 8 => parseImmV (.jccRel .s)
  | 9 => parseImmV (.jccRel .ns)
  | 10 => parseImmV (.jccRel .p)
  | 11 => parseImmV (.jccRel .np)
  | 12 => parseImmV (.jccRel .l)
  | 13 => parseImmV (.jccRel .ge)
  | 14 => parseImmV (.jccRel .le)
  | _ => parseImmV (.jccRel .g)

/-- The two-byte opcode map (R441): second hexadecimal digit of opcodes 90H to 9FH. -/
def twoByte9 (lo : Nat) : Parse :=
  match lo with
  | 0 => .modrm fun rm _ => .done (.setccRm8 .o rm)
  | 1 => .modrm fun rm _ => .done (.setccRm8 .no rm)
  | 2 => .modrm fun rm _ => .done (.setccRm8 .b rm)
  | 3 => .modrm fun rm _ => .done (.setccRm8 .ae rm)
  | 4 => .modrm fun rm _ => .done (.setccRm8 .e rm)
  | 5 => .modrm fun rm _ => .done (.setccRm8 .ne rm)
  | 6 => .modrm fun rm _ => .done (.setccRm8 .be rm)
  | 7 => .modrm fun rm _ => .done (.setccRm8 .a rm)
  | 8 => .modrm fun rm _ => .done (.setccRm8 .s rm)
  | 9 => .modrm fun rm _ => .done (.setccRm8 .ns rm)
  | 10 => .modrm fun rm _ => .done (.setccRm8 .p rm)
  | 11 => .modrm fun rm _ => .done (.setccRm8 .np rm)
  | 12 => .modrm fun rm _ => .done (.setccRm8 .l rm)
  | 13 => .modrm fun rm _ => .done (.setccRm8 .ge rm)
  | 14 => .modrm fun rm _ => .done (.setccRm8 .le rm)
  | _ => .modrm fun rm _ => .done (.setccRm8 .g rm)

/-- The two-byte opcode map (R441): second hexadecimal digit of opcodes A0H to AFH. -/
def twoByteA (lo : Nat) : Parse :=
  match lo with
  | 0 => .done .pushFs
  | 1 => .done .popFs
  | 2 => .done .cpuid
  | 3 => parseRmReg .btRmR
  | 4 => .modrm fun rm n => parseImm8 (.shldRmRImm8 rm (Reg.ofNum n))
  | 5 => parseRmReg .shldRmRCl
  | 8 => .done .pushGs
  | 9 => .done .popGs
  | 10 => .done .rsm
  | 11 => parseRmReg .btsRmR
  | 12 => .modrm fun rm n => parseImm8 (.shrdRmRImm8 rm (Reg.ofNum n))
  | 13 => parseRmReg .shrdRmRCl
  | 15 => parseRmReg .imulRRm
  | _ => parseUd

/-- The two-byte opcode map (R441): second hexadecimal digit of opcodes B0H to BFH. -/
def twoByteB (lo : Nat) : Parse :=
  match lo with
  | 0 => parseRmReg .cmpxchgRm8R8
  | 1 => parseRmReg .cmpxchgRmR
  | 2 => parseMemReg .lssRFar
  | 3 => parseRmReg .btrRmR
  | 4 => parseMemReg .lfsRFar
  | 5 => parseMemReg .lgsRFar
  | 6 => parseRmReg .movzxRRm8
  | 7 => parseRmReg .movzxR32Rm16
  | 10 => .modrm group0FBA
  | 11 => parseRmReg .btcRmR
  | 12 => parseRmReg .bsfRRm
  | 13 => parseRmReg .bsrRRm
  | 14 => parseRmReg .movsxRRm8
  | 15 => parseRmReg .movsxR32Rm16
  | _ => parseUd

/-- The two-byte opcode map (R441): second hexadecimal digit of opcodes C0H to CFH. -/
def twoByteC (lo : Nat) : Parse :=
  match lo with
  | 0 => parseRmReg .xaddRm8R8
  | 1 => parseRmReg .xaddRmR
  | 7 => .modrm group0FC7
  | 8 => .done (.bswapR32 .eax)
  | 9 => .done (.bswapR32 .ecx)
  | 10 => .done (.bswapR32 .edx)
  | 11 => .done (.bswapR32 .ebx)
  | 12 => .done (.bswapR32 .esp)
  | 13 => .done (.bswapR32 .ebp)
  | 14 => .done (.bswapR32 .esi)
  | 15 => .done (.bswapR32 .edi)
  | _ => parseUd

/-- The two-byte opcode map (R441): second hexadecimal digit of opcodes D0H to DFH. -/
def twoByteD (lo : Nat) : Parse :=
  match lo with
  | _ => parseUd

/-- The two-byte opcode map (R441): second hexadecimal digit of opcodes E0H to EFH. -/
def twoByteE (lo : Nat) : Parse :=
  match lo with
  | _ => parseUd

/-- The two-byte opcode map (R441): second hexadecimal digit of opcodes F0H to FFH. -/
def twoByteF (lo : Nat) : Parse :=
  match lo with
  | _ => parseUd

/-- The two-byte opcode map (R441). -/
def twoByte (b : Byte) : Parse :=
  match b.toNat / 16 with
  | 0 => twoByte0 (b.toNat % 16)
  | 1 => twoByte1 (b.toNat % 16)
  | 2 => twoByte2 (b.toNat % 16)
  | 3 => twoByte3 (b.toNat % 16)
  | 4 => twoByte4 (b.toNat % 16)
  | 5 => twoByte5 (b.toNat % 16)
  | 6 => twoByte6 (b.toNat % 16)
  | 7 => twoByte7 (b.toNat % 16)
  | 8 => twoByte8 (b.toNat % 16)
  | 9 => twoByte9 (b.toNat % 16)
  | 10 => twoByteA (b.toNat % 16)
  | 11 => twoByteB (b.toNat % 16)
  | 12 => twoByteC (b.toNat % 16)
  | 13 => twoByteD (b.toNat % 16)
  | 14 => twoByteE (b.toNat % 16)
  | _ => twoByteF (b.toNat % 16)

/-- The one-byte opcode map (R440): second hexadecimal digit of opcodes 00H to 0FH. -/
def oneByte0 (lo : Nat) : Parse :=
  match lo with
  | 0 => parseRmReg .addRm8R8
  | 1 => parseRmReg .addRmR
  | 2 => parseRmReg .addR8Rm8
  | 3 => parseRmReg .addRRm
  | 4 => parseImm8 .addAlImm8
  | 5 => parseImmV .addEaxImm
  | 6 => .done .pushEs
  | 7 => .done .popEs
  | 8 => parseRmReg .orRm8R8
  | 9 => parseRmReg .orRmR
  | 10 => parseRmReg .orR8Rm8
  | 11 => parseRmReg .orRRm
  | 12 => parseImm8 .orAlImm8
  | 13 => parseImmV .orEaxImm
  | 14 => .done .pushCs
  | _ => .byte twoByte

/-- The one-byte opcode map (R440): second hexadecimal digit of opcodes 10H to 1FH. -/
def oneByte1 (lo : Nat) : Parse :=
  match lo with
  | 0 => parseRmReg .adcRm8R8
  | 1 => parseRmReg .adcRmR
  | 2 => parseRmReg .adcR8Rm8
  | 3 => parseRmReg .adcRRm
  | 4 => parseImm8 .adcAlImm8
  | 5 => parseImmV .adcEaxImm
  | 6 => .done .pushSs
  | 7 => .done .popSs
  | 8 => parseRmReg .sbbRm8R8
  | 9 => parseRmReg .sbbRmR
  | 10 => parseRmReg .sbbR8Rm8
  | 11 => parseRmReg .sbbRRm
  | 12 => parseImm8 .sbbAlImm8
  | 13 => parseImmV .sbbEaxImm
  | 14 => .done .pushDs
  | _ => .done .popDs

/-- The one-byte opcode map (R440): second hexadecimal digit of opcodes 20H to 2FH. -/
def oneByte2 (lo : Nat) : Parse :=
  match lo with
  | 0 => parseRmReg .andRm8R8
  | 1 => parseRmReg .andRmR
  | 2 => parseRmReg .andR8Rm8
  | 3 => parseRmReg .andRRm
  | 4 => parseImm8 .andAlImm8
  | 5 => parseImmV .andEaxImm
  | 6 => .done .prefixEs
  | 7 => .done .daa
  | 8 => parseRmReg .subRm8R8
  | 9 => parseRmReg .subRmR
  | 10 => parseRmReg .subR8Rm8
  | 11 => parseRmReg .subRRm
  | 12 => parseImm8 .subAlImm8
  | 13 => parseImmV .subEaxImm
  | 14 => .done .prefixCs
  | _ => .done .das

/-- The one-byte opcode map (R440): second hexadecimal digit of opcodes 30H to 3FH. -/
def oneByte3 (lo : Nat) : Parse :=
  match lo with
  | 0 => parseRmReg .xorRm8R8
  | 1 => parseRmReg .xorRmR
  | 2 => parseRmReg .xorR8Rm8
  | 3 => parseRmReg .xorRRm
  | 4 => parseImm8 .xorAlImm8
  | 5 => parseImmV .xorEaxImm
  | 6 => .done .prefixSs
  | 7 => .done .aaa
  | 8 => parseRmReg .cmpRm8R8
  | 9 => parseRmReg .cmpRmR
  | 10 => parseRmReg .cmpR8Rm8
  | 11 => parseRmReg .cmpRRm
  | 12 => parseImm8 .cmpAlImm8
  | 13 => parseImmV .cmpEaxImm
  | 14 => .done .prefixDs
  | _ => .done .aas

/-- The one-byte opcode map (R440): second hexadecimal digit of opcodes 40H to 4FH. -/
def oneByte4 (lo : Nat) : Parse :=
  match lo with
  | 0 => .done (.incR .eax)
  | 1 => .done (.incR .ecx)
  | 2 => .done (.incR .edx)
  | 3 => .done (.incR .ebx)
  | 4 => .done (.incR .esp)
  | 5 => .done (.incR .ebp)
  | 6 => .done (.incR .esi)
  | 7 => .done (.incR .edi)
  | 8 => .done (.decR .eax)
  | 9 => .done (.decR .ecx)
  | 10 => .done (.decR .edx)
  | 11 => .done (.decR .ebx)
  | 12 => .done (.decR .esp)
  | 13 => .done (.decR .ebp)
  | 14 => .done (.decR .esi)
  | _ => .done (.decR .edi)

/-- The one-byte opcode map (R440): second hexadecimal digit of opcodes 50H to 5FH. -/
def oneByte5 (lo : Nat) : Parse :=
  match lo with
  | 0 => .done (.pushR .eax)
  | 1 => .done (.pushR .ecx)
  | 2 => .done (.pushR .edx)
  | 3 => .done (.pushR .ebx)
  | 4 => .done (.pushR .esp)
  | 5 => .done (.pushR .ebp)
  | 6 => .done (.pushR .esi)
  | 7 => .done (.pushR .edi)
  | 8 => .done (.popR .eax)
  | 9 => .done (.popR .ecx)
  | 10 => .done (.popR .edx)
  | 11 => .done (.popR .ebx)
  | 12 => .done (.popR .esp)
  | 13 => .done (.popR .ebp)
  | 14 => .done (.popR .esi)
  | _ => .done (.popR .edi)

/-- The one-byte opcode map (R440): second hexadecimal digit of opcodes 60H to 6FH. -/
def oneByte6 (lo : Nat) : Parse :=
  match lo with
  | 0 => .done .pusha
  | 1 => .done .popa
  | 2 => parseMemReg .boundRM
  | 3 => parseRmReg .arplRm16R16
  | 4 => .done .prefixFs
  | 5 => .done .prefixGs
  | 6 => .done .prefixOpSize
  | 7 => .done .prefixAdSize
  | 8 => parseImmV .pushImm
  | 9 => .modrm fun rm n => parseImmV (.imulRRmImm rm (Reg.ofNum n))
  | 10 => parseImm8 .pushSImm8
  | 11 => .modrm fun rm n => parseImm8 (.imulRRmSImm8 rm (Reg.ofNum n))
  | 12 => .done .insb
  | 13 => .done .insw
  | 14 => .done .outsb
  | _ => .done .outsw

/-- The one-byte opcode map (R440): second hexadecimal digit of opcodes 70H to 7FH. -/
def oneByte7 (lo : Nat) : Parse :=
  match lo with
  | 0 => parseImm8 (.jccRel8 .o)
  | 1 => parseImm8 (.jccRel8 .no)
  | 2 => parseImm8 (.jccRel8 .b)
  | 3 => parseImm8 (.jccRel8 .ae)
  | 4 => parseImm8 (.jccRel8 .e)
  | 5 => parseImm8 (.jccRel8 .ne)
  | 6 => parseImm8 (.jccRel8 .be)
  | 7 => parseImm8 (.jccRel8 .a)
  | 8 => parseImm8 (.jccRel8 .s)
  | 9 => parseImm8 (.jccRel8 .ns)
  | 10 => parseImm8 (.jccRel8 .p)
  | 11 => parseImm8 (.jccRel8 .np)
  | 12 => parseImm8 (.jccRel8 .l)
  | 13 => parseImm8 (.jccRel8 .ge)
  | 14 => parseImm8 (.jccRel8 .le)
  | _ => parseImm8 (.jccRel8 .g)

/-- The one-byte opcode map (R440): second hexadecimal digit of opcodes 80H to 8FH. -/
def oneByte8 (lo : Nat) : Parse :=
  match lo with
  | 0 => .modrm group80
  | 1 => .modrm group81
  | 2 => .bad .aliased
  | 3 => .modrm group83
  | 4 => parseRmReg .testRm8R8
  | 5 => parseRmReg .testRmR
  | 6 => parseRmReg .xchgRm8R8
  | 7 => parseRmReg .xchgRmR
  | 8 => parseRmReg .movRm8R8
  | 9 => parseRmReg .movRmR
  | 10 => parseRmReg .movR8Rm8
  | 11 => parseRmReg .movRRm
  | 12 => .modrm fun rm n => (match SReg.ofNum? n with | some sr => .done (.movRm16Sreg rm sr) | none => parseUd)
  | 13 => parseMemReg .leaRM
  | 14 => .modrm fun rm n => (match SReg.ofNum? n with | some .cs => parseUd | some sr => .done (.movSregRm16 rm sr) | none => parseUd)
  | _ => .modrm group8F

/-- The one-byte opcode map (R440): second hexadecimal digit of opcodes 90H to 9FH. -/
def oneByte9 (lo : Nat) : Parse :=
  match lo with
  | 0 => .done .nop
  | 1 => .done (.xchgEaxR .ecx)
  | 2 => .done (.xchgEaxR .edx)
  | 3 => .done (.xchgEaxR .ebx)
  | 4 => .done (.xchgEaxR .esp)
  | 5 => .done (.xchgEaxR .ebp)
  | 6 => .done (.xchgEaxR .esi)
  | 7 => .done (.xchgEaxR .edi)
  | 8 => .done .cbw
  | 9 => .done .cwd
  | 10 => .immV fun o => .imm16 fun s => .done (.callPtr o s)
  | 11 => .done .wait
  | 12 => .done .pushf
  | 13 => .done .popf
  | 14 => .done .sahf
  | _ => .done .lahf

/-- The one-byte opcode map (R440): second hexadecimal digit of opcodes A0H to AFH. -/
def oneByteA (lo : Nat) : Parse :=
  match lo with
  | 0 => parseImmA .movAlMoffs8
  | 1 => parseImmA .movEaxMoffs
  | 2 => parseImmA .movMoffs8Al
  | 3 => parseImmA .movMoffsEax
  | 4 => .done .movsb
  | 5 => .done .movsw
  | 6 => .done .cmpsb
  | 7 => .done .cmpsw
  | 8 => parseImm8 .testAlImm8
  | 9 => parseImmV .testEaxImm
  | 10 => .done .stosb
  | 11 => .done .stosw
  | 12 => .done .lodsb
  | 13 => .done .lodsw
  | 14 => .done .scasb
  | _ => .done .scasw

/-- The one-byte opcode map (R440): second hexadecimal digit of opcodes B0H to BFH. -/
def oneByteB (lo : Nat) : Parse :=
  match lo with
  | 0 => parseImm8 (.movR8Imm8 .eax)
  | 1 => parseImm8 (.movR8Imm8 .ecx)
  | 2 => parseImm8 (.movR8Imm8 .edx)
  | 3 => parseImm8 (.movR8Imm8 .ebx)
  | 4 => parseImm8 (.movR8Imm8 .esp)
  | 5 => parseImm8 (.movR8Imm8 .ebp)
  | 6 => parseImm8 (.movR8Imm8 .esi)
  | 7 => parseImm8 (.movR8Imm8 .edi)
  | 8 => parseImmV (.movRImm .eax)
  | 9 => parseImmV (.movRImm .ecx)
  | 10 => parseImmV (.movRImm .edx)
  | 11 => parseImmV (.movRImm .ebx)
  | 12 => parseImmV (.movRImm .esp)
  | 13 => parseImmV (.movRImm .ebp)
  | 14 => parseImmV (.movRImm .esi)
  | _ => parseImmV (.movRImm .edi)

/-- The one-byte opcode map (R440): second hexadecimal digit of opcodes C0H to CFH. -/
def oneByteC (lo : Nat) : Parse :=
  match lo with
  | 0 => .modrm groupC0
  | 1 => .modrm groupC1
  | 2 => .imm16 fun v => .done (.retImm16 v)
  | 3 => .done .ret
  | 4 => parseMemReg .lesRFar
  | 5 => parseMemReg .ldsRFar
  | 6 => .modrm groupC6
  | 7 => .modrm groupC7
  | 8 => .imm16 fun v => .imm8 fun l => .done (.enterImm16Imm8 v l)
  | 9 => .done .leave
  | 10 => .imm16 fun v => .done (.retfImm16 v)
  | 11 => .done .retf
  | 12 => .done .int3
  | 13 => parseImm8 .intImm8
  | 14 => .done .into
  | _ => .done .iret

/-- The one-byte opcode map (R440): second hexadecimal digit of opcodes D0H to DFH. -/
def oneByteD (lo : Nat) : Parse :=
  match lo with
  | 0 => .modrm groupD0
  | 1 => .modrm groupD1
  | 2 => .modrm groupD2
  | 3 => .modrm groupD3
  | 4 => parseImm8 .aamImm8
  | 5 => parseImm8 .aadImm8
  | 6 => .bad .reserved
  | 7 => .done .xlat
  | 8 => .modrm fun rm n => (match rm with | .mem m => escD8Mem m n | .reg r => escD8Reg n r.num)
  | 9 => .modrm fun rm n => (match rm with | .mem m => escD9Mem m n | .reg r => escD9Reg n r.num)
  | 10 => .modrm fun rm n => (match rm with | .mem m => escDAMem m n | .reg r => escDAReg n r.num)
  | 11 => .modrm fun rm n => (match rm with | .mem m => escDBMem m n | .reg r => escDBReg n r.num)
  | 12 => .modrm fun rm n => (match rm with | .mem m => escDCMem m n | .reg r => escDCReg n r.num)
  | 13 => .modrm fun rm n => (match rm with | .mem m => escDDMem m n | .reg r => escDDReg n r.num)
  | 14 => .modrm fun rm n => (match rm with | .mem m => escDEMem m n | .reg r => escDEReg n r.num)
  | _ => .modrm fun rm n => (match rm with | .mem m => escDFMem m n | .reg r => escDFReg n r.num)

/-- The one-byte opcode map (R440): second hexadecimal digit of opcodes E0H to EFH. -/
def oneByteE (lo : Nat) : Parse :=
  match lo with
  | 0 => parseImm8 .loopneRel8
  | 1 => parseImm8 .loopeRel8
  | 2 => parseImm8 .loopRel8
  | 3 => parseImm8 .jcxzRel8
  | 4 => parseImm8 .inAlImm8
  | 5 => parseImm8 .inEaxImm8
  | 6 => parseImm8 .outImm8Al
  | 7 => parseImm8 .outImm8Eax
  | 8 => parseImmV .callRel
  | 9 => parseImmV .jmpRel
  | 10 => .immV fun o => .imm16 fun s => .done (.jmpPtr o s)
  | 11 => parseImm8 .jmpRel8
  | 12 => .done .inAlDx
  | 13 => .done .inEaxDx
  | 14 => .done .outDxAl
  | _ => .done .outDxEax

/-- The one-byte opcode map (R440): second hexadecimal digit of opcodes F0H to FFH. -/
def oneByteF (lo : Nat) : Parse :=
  match lo with
  | 0 => .done .prefixLock
  | 1 => .bad .reserved
  | 2 => .done .prefixRepne
  | 3 => .done .prefixRep
  | 4 => .done .hlt
  | 5 => .done .cmc
  | 6 => .modrm groupF6
  | 7 => .modrm groupF7
  | 8 => .done .clc
  | 9 => .done .stc
  | 10 => .done .cli
  | 11 => .done .sti
  | 12 => .done .cld
  | 13 => .done .std
  | 14 => .modrm groupFE
  | _ => .modrm groupFF

/-- The one-byte opcode map (R440). -/
def oneByte (b : Byte) : Parse :=
  match b.toNat / 16 with
  | 0 => oneByte0 (b.toNat % 16)
  | 1 => oneByte1 (b.toNat % 16)
  | 2 => oneByte2 (b.toNat % 16)
  | 3 => oneByte3 (b.toNat % 16)
  | 4 => oneByte4 (b.toNat % 16)
  | 5 => oneByte5 (b.toNat % 16)
  | 6 => oneByte6 (b.toNat % 16)
  | 7 => oneByte7 (b.toNat % 16)
  | 8 => oneByte8 (b.toNat % 16)
  | 9 => oneByte9 (b.toNat % 16)
  | 10 => oneByteA (b.toNat % 16)
  | 11 => oneByteB (b.toNat % 16)
  | 12 => oneByteC (b.toNat % 16)
  | 13 => oneByteD (b.toNat % 16)
  | 14 => oneByteE (b.toNat % 16)
  | _ => oneByteF (b.toNat % 16)

/-- What follows a WAIT (9BH) in the seven rows whose encoding begins with one (R470, 48_fpu_instructions.md R1160). Anything
else after a WAIT is an instruction of its own. -/
def parseAfterWait : Parse :=
  .byte fun b => .modrm fun rm n =>
    match b.toNat, n.toNat, rm with
    | 0xdb, 4, .reg .ebx => .done .finit
    | 0xdb, 4, .reg .edx => .done .fclex
    | 0xdf, 4, .reg .eax => .done .fstswAx
    | 0xd9, 7, .mem m => .done (.fstcwM16 m)
    | 0xdd, 7, .mem m => .done (.fstswM16 m)
    | 0xd9, 6, .mem m => .done (.fstenvM m)
    | 0xdd, 6, .mem m => .done (.fsaveM m)
    | _, _, _ => parseUd

/-- One unit of the byte stream: a prefix or an instruction, a WAIT taken alone. -/
def decodeOne (os as : Size) (bs : List Byte) : Decoded := runParse os as (.byte oneByte) bs

/-- The WAIT forms, given the bytes after the 9BH. -/
def decodeAfterWait (os as : Size) (bs : List Byte) : Decoded := runParse os as parseAfterWait bs

/-- THE DECODER: a prefix or an instruction at the head of `bs` under the sizes `os` and `as`; a WAIT is joined to the no-wait
instruction after it where the table has a row for the pair. -/
def decode (os as : Size) (bs : List Byte) : Decoded :=
  match decodeOne os as bs with
  | .ok .wait rest =>
    match decodeAfterWait os as rest with
    | .ok i rest => .ok i rest
    | _ => .ok .wait rest
  | r => r

/-- The low `n` bytes of a number, the lowest first. -/
def bytesOf : Nat → Nat → List Byte
  | 0, _ => []
  | n + 1, w => BitVec.ofNat 8 w :: bytesOf n (w / 256)

/-- The host's question: the instruction the decoder reads from a word numbered as spec/opcode_table.json numbers it, the bytes above
`nbits` zero, under the sizes the machine has after reset (16 and 16, R405). -/
def decodeTableWord (nbits w : Nat) : Option Instr :=
  match decode .s16 .s16 (bytesOf 16 (w % 2 ^ nbits)) with
  | .ok i _ => some i
  | _ => none

/-- Little-endian bytes of a word (20_memory.md R201). -/
def enc16 (v : BitVec 16) : List Byte := [v.extractLsb' 0 8, v.extractLsb' 8 8]

/-- Little-endian bytes of a doubleword (R201). -/
def enc32 (v : BitVec 32) : List Byte := [v.extractLsb' 0 8, v.extractLsb' 8 8, v.extractLsb' 16 8, v.extractLsb' 24 8]

/-- A field of `sz` bits (R427). -/
def encSized (sz : Size) (v : Word) : List Byte :=
  match sz with
  | .s16 => enc16 (v.setWidth 16)
  | .s32 => enc32 v

/-- The displacement bytes (R426). -/
def Disp.enc : Disp → List Byte
  | .none => []
  | .d8 v => [v]
  | .d16 v => enc16 v
  | .d32 v => enc32 v

/-- The `mod` field that goes with a displacement (R421, R423). -/
def Disp.mod : Disp → BitVec 2
  | .none => 0
  | .d8 _ => 1
  | .d16 _ => 2
  | .d32 _ => 2

/-- A byte of three fields, as ModR/M and SIB are laid out (R420, R422). -/
def fields233 (a : BitVec 2) (b c : BitVec 3) : Byte := (a ++ b : BitVec 5) ++ c

/-- ModR/M, SIB and displacement of a memory operand (R421 to R423). -/
def MemOp.enc (reg : BitVec 3) : MemOp → List Byte
  | .direct16 d => fields233 0 reg 6 :: enc16 d
  | .base16 b d => fields233 d.mod reg b.num :: d.enc
  | .direct32 d => fields233 0 reg 5 :: enc32 d
  | .base32 b d => fields233 d.mod reg b.num :: d.enc
  | .sib s i b d => fields233 d.mod reg 4 :: fields233 s i.num b.num :: d.enc
  | .sibNoBase s i d => fields233 0 reg 4 :: fields233 s i.num 5 :: enc32 d

/-- ModR/M and what it brings for an r/m operand (R420). -/
def RM.enc (reg : BitVec 3) : RM → List Byte
  | .reg r => [fields233 3 reg r.num]
  | .mem m => m.enc reg

/-- An opcode byte whose low three bits hold a register number or stack index. -/
def opPlus (op : Byte) (n : BitVec 3) : Byte := op ||| n.setWidth 8

/-- An opcode byte whose low four bits hold a condition number. -/
def opCond (op : Byte) (c : Cond) : Byte := op ||| c.num.setWidth 8

/-- Opcode bytes given by number: one, two or three. -/
def ob1 (a : Nat) : List Byte := [BitVec.ofNat 8 a]
def ob2 (a b : Nat) : List Byte := [BitVec.ofNat 8 a, BitVec.ofNat 8 b]
def ob3 (a b c : Nat) : List Byte := [BitVec.ofNat 8 a, BitVec.ofNat 8 b, BitVec.ofNat 8 c]
/-- Opcode bytes the last of which holds a register number or stack index in its low three bits. -/
def ob1r (a : Nat) (n : BitVec 3) : List Byte := [opPlus (BitVec.ofNat 8 a) n]
def ob2r (a b : Nat) (n : BitVec 3) : List Byte := [BitVec.ofNat 8 a, opPlus (BitVec.ofNat 8 b) n]
/-- Opcode bytes the last of which holds a condition number in its low four bits. -/
def ob1c (a : Nat) (c : Cond) : List Byte := [opCond (BitVec.ofNat 8 a) c]
def ob2c (a b : Nat) (c : Cond) : List Byte := [BitVec.ofNat 8 a, opCond (BitVec.ofNat 8 b) c]
/-- One part of an encoding after another. -/
def cat (a b : List Byte) : List Byte := a ++ b

/-- THE ENCODER: the bytes of a well-formed instruction under the sizes `os` and `as`, prefixes apart. -/
def encode (os as : Size) : Instr → List Byte
  | .addRm8R8 rm r => cat (ob1 0x00) (rm.enc r.num)
  | .addRmR rm r => cat (ob1 0x01) (rm.enc r.num)
  | .addR8Rm8 rm r => cat (ob1 0x02) (rm.enc r.num)
  | .addRRm rm r => cat (ob1 0x03) (rm.enc r.num)
  | .addAlImm8 imm => cat (ob1 0x04) [imm]
  | .addEaxImm imm => cat (ob1 0x05) (encSized os imm)
  | .addRm8Imm8 rm imm => cat (ob1 0x80) (cat (rm.enc 0) [imm])
  | .addRmImm rm imm => cat (ob1 0x81) (cat (rm.enc 0) (encSized os imm))
  | .addRmSImm8 rm imm => cat (ob1 0x83) (cat (rm.enc 0) [imm])
  | .orRm8R8 rm r => cat (ob1 0x08) (rm.enc r.num)
  | .orRmR rm r => cat (ob1 0x09) (rm.enc r.num)
  | .orR8Rm8 rm r => cat (ob1 0x0A) (rm.enc r.num)
  | .orRRm rm r => cat (ob1 0x0B) (rm.enc r.num)
  | .orAlImm8 imm => cat (ob1 0x0C) [imm]
  | .orEaxImm imm => cat (ob1 0x0D) (encSized os imm)
  | .orRm8Imm8 rm imm => cat (ob1 0x80) (cat (rm.enc 1) [imm])
  | .orRmImm rm imm => cat (ob1 0x81) (cat (rm.enc 1) (encSized os imm))
  | .orRmSImm8 rm imm => cat (ob1 0x83) (cat (rm.enc 1) [imm])
  | .adcRm8R8 rm r => cat (ob1 0x10) (rm.enc r.num)
  | .adcRmR rm r => cat (ob1 0x11) (rm.enc r.num)
  | .adcR8Rm8 rm r => cat (ob1 0x12) (rm.enc r.num)
  | .adcRRm rm r => cat (ob1 0x13) (rm.enc r.num)
  | .adcAlImm8 imm => cat (ob1 0x14) [imm]
  | .adcEaxImm imm => cat (ob1 0x15) (encSized os imm)
  | .adcRm8Imm8 rm imm => cat (ob1 0x80) (cat (rm.enc 2) [imm])
  | .adcRmImm rm imm => cat (ob1 0x81) (cat (rm.enc 2) (encSized os imm))
  | .adcRmSImm8 rm imm => cat (ob1 0x83) (cat (rm.enc 2) [imm])
  | .sbbRm8R8 rm r => cat (ob1 0x18) (rm.enc r.num)
  | .sbbRmR rm r => cat (ob1 0x19) (rm.enc r.num)
  | .sbbR8Rm8 rm r => cat (ob1 0x1A) (rm.enc r.num)
  | .sbbRRm rm r => cat (ob1 0x1B) (rm.enc r.num)
  | .sbbAlImm8 imm => cat (ob1 0x1C) [imm]
  | .sbbEaxImm imm => cat (ob1 0x1D) (encSized os imm)
  | .sbbRm8Imm8 rm imm => cat (ob1 0x80) (cat (rm.enc 3) [imm])
  | .sbbRmImm rm imm => cat (ob1 0x81) (cat (rm.enc 3) (encSized os imm))
  | .sbbRmSImm8 rm imm => cat (ob1 0x83) (cat (rm.enc 3) [imm])
  | .andRm8R8 rm r => cat (ob1 0x20) (rm.enc r.num)
  | .andRmR rm r => cat (ob1 0x21) (rm.enc r.num)
  | .andR8Rm8 rm r => cat (ob1 0x22) (rm.enc r.num)
  | .andRRm rm r => cat (ob1 0x23) (rm.enc r.num)
  | .andAlImm8 imm => cat (ob1 0x24) [imm]
  | .andEaxImm imm => cat (ob1 0x25) (encSized os imm)
  | .andRm8Imm8 rm imm => cat (ob1 0x80) (cat (rm.enc 4) [imm])
  | .andRmImm rm imm => cat (ob1 0x81) (cat (rm.enc 4) (encSized os imm))
  | .andRmSImm8 rm imm => cat (ob1 0x83) (cat (rm.enc 4) [imm])
  | .subRm8R8 rm r => cat (ob1 0x28) (rm.enc r.num)
  | .subRmR rm r => cat (ob1 0x29) (rm.enc r.num)
  | .subR8Rm8 rm r => cat (ob1 0x2A) (rm.enc r.num)
  | .subRRm rm r => cat (ob1 0x2B) (rm.enc r.num)
  | .subAlImm8 imm => cat (ob1 0x2C) [imm]
  | .subEaxImm imm => cat (ob1 0x2D) (encSized os imm)
  | .subRm8Imm8 rm imm => cat (ob1 0x80) (cat (rm.enc 5) [imm])
  | .subRmImm rm imm => cat (ob1 0x81) (cat (rm.enc 5) (encSized os imm))
  | .subRmSImm8 rm imm => cat (ob1 0x83) (cat (rm.enc 5) [imm])
  | .xorRm8R8 rm r => cat (ob1 0x30) (rm.enc r.num)
  | .xorRmR rm r => cat (ob1 0x31) (rm.enc r.num)
  | .xorR8Rm8 rm r => cat (ob1 0x32) (rm.enc r.num)
  | .xorRRm rm r => cat (ob1 0x33) (rm.enc r.num)
  | .xorAlImm8 imm => cat (ob1 0x34) [imm]
  | .xorEaxImm imm => cat (ob1 0x35) (encSized os imm)
  | .xorRm8Imm8 rm imm => cat (ob1 0x80) (cat (rm.enc 6) [imm])
  | .xorRmImm rm imm => cat (ob1 0x81) (cat (rm.enc 6) (encSized os imm))
  | .xorRmSImm8 rm imm => cat (ob1 0x83) (cat (rm.enc 6) [imm])
  | .cmpRm8R8 rm r => cat (ob1 0x38) (rm.enc r.num)
  | .cmpRmR rm r => cat (ob1 0x39) (rm.enc r.num)
  | .cmpR8Rm8 rm r => cat (ob1 0x3A) (rm.enc r.num)
  | .cmpRRm rm r => cat (ob1 0x3B) (rm.enc r.num)
  | .cmpAlImm8 imm => cat (ob1 0x3C) [imm]
  | .cmpEaxImm imm => cat (ob1 0x3D) (encSized os imm)
  | .cmpRm8Imm8 rm imm => cat (ob1 0x80) (cat (rm.enc 7) [imm])
  | .cmpRmImm rm imm => cat (ob1 0x81) (cat (rm.enc 7) (encSized os imm))
  | .cmpRmSImm8 rm imm => cat (ob1 0x83) (cat (rm.enc 7) [imm])
  | .movRm8R8 rm r => cat (ob1 0x88) (rm.enc r.num)
  | .movRmR rm r => cat (ob1 0x89) (rm.enc r.num)
  | .movR8Rm8 rm r => cat (ob1 0x8A) (rm.enc r.num)
  | .movRRm rm r => cat (ob1 0x8B) (rm.enc r.num)
  | .movRm16Sreg rm sr => cat (ob1 0x8C) (rm.enc sr.num)
  | .movSregRm16 rm sr => cat (ob1 0x8E) (rm.enc sr.num)
  | .movAlMoffs8 off => cat (ob1 0xA0) (encSized as off)
  | .movEaxMoffs off => cat (ob1 0xA1) (encSized as off)
  | .movMoffs8Al off => cat (ob1 0xA2) (encSized as off)
  | .movMoffsEax off => cat (ob1 0xA3) (encSized as off)
  | .movR8Imm8 r imm => cat (ob1r 0xB0 r.num) [imm]
  | .movRImm r imm => cat (ob1r 0xB8 r.num) (encSized os imm)
  | .movRm8Imm8 rm imm => cat (ob1 0xC6) (cat (rm.enc 0) [imm])
  | .movRmImm rm imm => cat (ob1 0xC7) (cat (rm.enc 0) (encSized os imm))
  | .xchgRm8R8 rm r => cat (ob1 0x86) (rm.enc r.num)
  | .xchgRmR rm r => cat (ob1 0x87) (rm.enc r.num)
  | .xchgEaxR r => ob1r 0x90 r.num
  | .nop => ob1 0x90
  | .pushR r => ob1r 0x50 r.num
  | .pushRm rm => cat (ob1 0xFF) (rm.enc 6)
  | .pushImm imm => cat (ob1 0x68) (encSized os imm)
  | .pushSImm8 imm => cat (ob1 0x6A) [imm]
  | .pushEs => ob1 0x06
  | .pushCs => ob1 0x0E
  | .pushSs => ob1 0x16
  | .pushDs => ob1 0x1E
  | .pushFs => ob2 0x0F 0xA0
  | .pushGs => ob2 0x0F 0xA8
  | .popR r => ob1r 0x58 r.num
  | .popRm rm => cat (ob1 0x8F) (rm.enc 0)
  | .popEs => ob1 0x07
  | .popSs => ob1 0x17
  | .popDs => ob1 0x1F
  | .popFs => ob2 0x0F 0xA1
  | .popGs => ob2 0x0F 0xA9
  | .pusha => ob1 0x60
  | .popa => ob1 0x61
  | .cbw => ob1 0x98
  | .cwd => ob1 0x99
  | .movsxRRm8 rm r => cat (ob2 0x0F 0xBE) (rm.enc r.num)
  | .movsxR32Rm16 rm r => cat (ob2 0x0F 0xBF) (rm.enc r.num)
  | .movzxRRm8 rm r => cat (ob2 0x0F 0xB6) (rm.enc r.num)
  | .movzxR32Rm16 rm r => cat (ob2 0x0F 0xB7) (rm.enc r.num)
  | .bswapR32 r => ob2r 0x0F 0xC8 r.num
  | .xaddRm8R8 rm r => cat (ob2 0x0F 0xC0) (rm.enc r.num)
  | .xaddRmR rm r => cat (ob2 0x0F 0xC1) (rm.enc r.num)
  | .cmpxchgRm8R8 rm r => cat (ob2 0x0F 0xB0) (rm.enc r.num)
  | .cmpxchgRmR rm r => cat (ob2 0x0F 0xB1) (rm.enc r.num)
  | .cmpxchg8bM64 m => cat (ob2 0x0F 0xC7) (m.enc 1)
  | .ldsRFar m r => cat (ob1 0xC5) (m.enc r.num)
  | .lesRFar m r => cat (ob1 0xC4) (m.enc r.num)
  | .lssRFar m r => cat (ob2 0x0F 0xB2) (m.enc r.num)
  | .lfsRFar m r => cat (ob2 0x0F 0xB4) (m.enc r.num)
  | .lgsRFar m r => cat (ob2 0x0F 0xB5) (m.enc r.num)
  | .leaRM m r => cat (ob1 0x8D) (m.enc r.num)
  | .xlat => ob1 0xD7
  | .incR r => ob1r 0x40 r.num
  | .incRm8 rm => cat (ob1 0xFE) (rm.enc 0)
  | .incRm rm => cat (ob1 0xFF) (rm.enc 0)
  | .decR r => ob1r 0x48 r.num
  | .decRm8 rm => cat (ob1 0xFE) (rm.enc 1)
  | .decRm rm => cat (ob1 0xFF) (rm.enc 1)
  | .negRm8 rm => cat (ob1 0xF6) (rm.enc 3)
  | .negRm rm => cat (ob1 0xF7) (rm.enc 3)
  | .mulRm8 rm => cat (ob1 0xF6) (rm.enc 4)
  | .mulRm rm => cat (ob1 0xF7) (rm.enc 4)
  | .imulRm8 rm => cat (ob1 0xF6) (rm.enc 5)
  | .imulRm rm => cat (ob1 0xF7) (rm.enc 5)
  | .imulRRm rm r => cat (ob2 0x0F 0xAF) (rm.enc r.num)
  | .imulRRmImm rm r imm => cat (ob1 0x69) (cat (rm.enc r.num) (encSized os imm))
  | .imulRRmSImm8 rm r imm => cat (ob1 0x6B) (cat (rm.enc r.num) [imm])
  | .divRm8 rm => cat (ob1 0xF6) (rm.enc 6)
  | .divRm rm => cat (ob1 0xF7) (rm.enc 6)
  | .idivRm8 rm => cat (ob1 0xF6) (rm.enc 7)
  | .idivRm rm => cat (ob1 0xF7) (rm.enc 7)
  | .daa => ob1 0x27
  | .das => ob1 0x2F
  | .aaa => ob1 0x37
  | .aas => ob1 0x3F
  | .aamImm8 imm => cat (ob1 0xD4) [imm]
  | .aadImm8 imm => cat (ob1 0xD5) [imm]
  | .notRm8 rm => cat (ob1 0xF6) (rm.enc 2)
  | .notRm rm => cat (ob1 0xF7) (rm.enc 2)
  | .testRm8R8 rm r => cat (ob1 0x84) (rm.enc r.num)
  | .testRmR rm r => cat (ob1 0x85) (rm.enc r.num)
  | .testAlImm8 imm => cat (ob1 0xA8) [imm]
  | .testEaxImm imm => cat (ob1 0xA9) (encSized os imm)
  | .testRm8Imm8 rm imm => cat (ob1 0xF6) (cat (rm.enc 0) [imm])
  | .testRmImm rm imm => cat (ob1 0xF7) (cat (rm.enc 0) (encSized os imm))
  | .rolRm8One rm => cat (ob1 0xD0) (rm.enc 0)
  | .rolRmOne rm => cat (ob1 0xD1) (rm.enc 0)
  | .rolRm8Cl rm => cat (ob1 0xD2) (rm.enc 0)
  | .rolRmCl rm => cat (ob1 0xD3) (rm.enc 0)
  | .rolRm8Imm8 rm imm => cat (ob1 0xC0) (cat (rm.enc 0) [imm])
  | .rolRmImm8 rm imm => cat (ob1 0xC1) (cat (rm.enc 0) [imm])
  | .rorRm8One rm => cat (ob1 0xD0) (rm.enc 1)
  | .rorRmOne rm => cat (ob1 0xD1) (rm.enc 1)
  | .rorRm8Cl rm => cat (ob1 0xD2) (rm.enc 1)
  | .rorRmCl rm => cat (ob1 0xD3) (rm.enc 1)
  | .rorRm8Imm8 rm imm => cat (ob1 0xC0) (cat (rm.enc 1) [imm])
  | .rorRmImm8 rm imm => cat (ob1 0xC1) (cat (rm.enc 1) [imm])
  | .rclRm8One rm => cat (ob1 0xD0) (rm.enc 2)
  | .rclRmOne rm => cat (ob1 0xD1) (rm.enc 2)
  | .rclRm8Cl rm => cat (ob1 0xD2) (rm.enc 2)
  | .rclRmCl rm => cat (ob1 0xD3) (rm.enc 2)
  | .rclRm8Imm8 rm imm => cat (ob1 0xC0) (cat (rm.enc 2) [imm])
  | .rclRmImm8 rm imm => cat (ob1 0xC1) (cat (rm.enc 2) [imm])
  | .rcrRm8One rm => cat (ob1 0xD0) (rm.enc 3)
  | .rcrRmOne rm => cat (ob1 0xD1) (rm.enc 3)
  | .rcrRm8Cl rm => cat (ob1 0xD2) (rm.enc 3)
  | .rcrRmCl rm => cat (ob1 0xD3) (rm.enc 3)
  | .rcrRm8Imm8 rm imm => cat (ob1 0xC0) (cat (rm.enc 3) [imm])
  | .rcrRmImm8 rm imm => cat (ob1 0xC1) (cat (rm.enc 3) [imm])
  | .shlRm8One rm => cat (ob1 0xD0) (rm.enc 4)
  | .shlRmOne rm => cat (ob1 0xD1) (rm.enc 4)
  | .shlRm8Cl rm => cat (ob1 0xD2) (rm.enc 4)
  | .shlRmCl rm => cat (ob1 0xD3) (rm.enc 4)
  | .shlRm8Imm8 rm imm => cat (ob1 0xC0) (cat (rm.enc 4) [imm])
  | .shlRmImm8 rm imm => cat (ob1 0xC1) (cat (rm.enc 4) [imm])
  | .shrRm8One rm => cat (ob1 0xD0) (rm.enc 5)
  | .shrRmOne rm => cat (ob1 0xD1) (rm.enc 5)
  | .shrRm8Cl rm => cat (ob1 0xD2) (rm.enc 5)
  | .shrRmCl rm => cat (ob1 0xD3) (rm.enc 5)
  | .shrRm8Imm8 rm imm => cat (ob1 0xC0) (cat (rm.enc 5) [imm])
  | .shrRmImm8 rm imm => cat (ob1 0xC1) (cat (rm.enc 5) [imm])
  | .sarRm8One rm => cat (ob1 0xD0) (rm.enc 7)
  | .sarRmOne rm => cat (ob1 0xD1) (rm.enc 7)
  | .sarRm8Cl rm => cat (ob1 0xD2) (rm.enc 7)
  | .sarRmCl rm => cat (ob1 0xD3) (rm.enc 7)
  | .sarRm8Imm8 rm imm => cat (ob1 0xC0) (cat (rm.enc 7) [imm])
  | .sarRmImm8 rm imm => cat (ob1 0xC1) (cat (rm.enc 7) [imm])
  | .shldRmRImm8 rm r imm => cat (ob2 0x0F 0xA4) (cat (rm.enc r.num) [imm])
  | .shldRmRCl rm r => cat (ob2 0x0F 0xA5) (rm.enc r.num)
  | .shrdRmRImm8 rm r imm => cat (ob2 0x0F 0xAC) (cat (rm.enc r.num) [imm])
  | .shrdRmRCl rm r => cat (ob2 0x0F 0xAD) (rm.enc r.num)
  | .btRmR rm r => cat (ob2 0x0F 0xA3) (rm.enc r.num)
  | .btRmImm8 rm imm => cat (ob2 0x0F 0xBA) (cat (rm.enc 4) [imm])
  | .btsRmR rm r => cat (ob2 0x0F 0xAB) (rm.enc r.num)
  | .btsRmImm8 rm imm => cat (ob2 0x0F 0xBA) (cat (rm.enc 5) [imm])
  | .btrRmR rm r => cat (ob2 0x0F 0xB3) (rm.enc r.num)
  | .btrRmImm8 rm imm => cat (ob2 0x0F 0xBA) (cat (rm.enc 6) [imm])
  | .btcRmR rm r => cat (ob2 0x0F 0xBB) (rm.enc r.num)
  | .btcRmImm8 rm imm => cat (ob2 0x0F 0xBA) (cat (rm.enc 7) [imm])
  | .bsfRRm rm r => cat (ob2 0x0F 0xBC) (rm.enc r.num)
  | .bsrRRm rm r => cat (ob2 0x0F 0xBD) (rm.enc r.num)
  | .setccRm8 cc rm => cat (ob2c 0x0F 0x90 cc) (rm.enc 0)
  | .jmpRel8 rel => cat (ob1 0xEB) [rel]
  | .jmpRel rel => cat (ob1 0xE9) (encSized os rel)
  | .jmpRm rm => cat (ob1 0xFF) (rm.enc 4)
  | .jmpPtr off sel => cat (ob1 0xEA) (cat (encSized os off) (enc16 sel))
  | .jmpFar m => cat (ob1 0xFF) (m.enc 5)
  | .callRel rel => cat (ob1 0xE8) (encSized os rel)
  | .callRm rm => cat (ob1 0xFF) (rm.enc 2)
  | .callPtr off sel => cat (ob1 0x9A) (cat (encSized os off) (enc16 sel))
  | .callFar m => cat (ob1 0xFF) (m.enc 3)
  | .ret => ob1 0xC3
  | .retImm16 imm => cat (ob1 0xC2) (enc16 imm)
  | .retf => ob1 0xCB
  | .retfImm16 imm => cat (ob1 0xCA) (enc16 imm)
  | .jccRel8 cc rel => cat (ob1c 0x70 cc) [rel]
  | .jccRel cc rel => cat (ob2c 0x0F 0x80 cc) (encSized os rel)
  | .jcxzRel8 rel => cat (ob1 0xE3) [rel]
  | .loopRel8 rel => cat (ob1 0xE2) [rel]
  | .loopeRel8 rel => cat (ob1 0xE1) [rel]
  | .loopneRel8 rel => cat (ob1 0xE0) [rel]
  | .iret => ob1 0xCF
  | .intImm8 imm => cat (ob1 0xCD) [imm]
  | .int3 => ob1 0xCC
  | .into => ob1 0xCE
  | .boundRM m r => cat (ob1 0x62) (m.enc r.num)
  | .enterImm16Imm8 imm lvl => cat (ob1 0xC8) (cat (enc16 imm) [lvl])
  | .leave => ob1 0xC9
  | .movsb => ob1 0xA4
  | .movsw => ob1 0xA5
  | .cmpsb => ob1 0xA6
  | .cmpsw => ob1 0xA7
  | .stosb => ob1 0xAA
  | .stosw => ob1 0xAB
  | .lodsb => ob1 0xAC
  | .lodsw => ob1 0xAD
  | .scasb => ob1 0xAE
  | .scasw => ob1 0xAF
  | .insb => ob1 0x6C
  | .insw => ob1 0x6D
  | .outsb => ob1 0x6E
  | .outsw => ob1 0x6F
  | .stc => ob1 0xF9
  | .clc => ob1 0xF8
  | .cmc => ob1 0xF5
  | .cld => ob1 0xFC
  | .std => ob1 0xFD
  | .cli => ob1 0xFA
  | .sti => ob1 0xFB
  | .lahf => ob1 0x9F
  | .sahf => ob1 0x9E
  | .pushf => ob1 0x9C
  | .popf => ob1 0x9D
  | .cpuid => ob2 0x0F 0xA2
  | .sldtRm16 rm => cat (ob2 0x0F 0x00) (rm.enc 0)
  | .strRm16 rm => cat (ob2 0x0F 0x00) (rm.enc 1)
  | .lldtRm16 rm => cat (ob2 0x0F 0x00) (rm.enc 2)
  | .ltrRm16 rm => cat (ob2 0x0F 0x00) (rm.enc 3)
  | .verrRm16 rm => cat (ob2 0x0F 0x00) (rm.enc 4)
  | .verwRm16 rm => cat (ob2 0x0F 0x00) (rm.enc 5)
  | .sgdtM m => cat (ob2 0x0F 0x01) (m.enc 0)
  | .sidtM m => cat (ob2 0x0F 0x01) (m.enc 1)
  | .lgdtM m => cat (ob2 0x0F 0x01) (m.enc 2)
  | .lidtM m => cat (ob2 0x0F 0x01) (m.enc 3)
  | .smswRm16 rm => cat (ob2 0x0F 0x01) (rm.enc 4)
  | .lmswRm16 rm => cat (ob2 0x0F 0x01) (rm.enc 6)
  | .invlpgM m => cat (ob2 0x0F 0x01) (m.enc 7)
  | .larRRm16 rm r => cat (ob2 0x0F 0x02) (rm.enc r.num)
  | .lslRRm16 rm r => cat (ob2 0x0F 0x03) (rm.enc r.num)
  | .clts => ob2 0x0F 0x06
  | .invd => ob2 0x0F 0x08
  | .wbinvd => ob2 0x0F 0x09
  | .movR32Cr n r => cat (ob2 0x0F 0x20) [fields233 3 n r.num]
  | .movCrR32 n r => cat (ob2 0x0F 0x22) [fields233 3 n r.num]
  | .movR32Dr n r => cat (ob2 0x0F 0x21) [fields233 3 n r.num]
  | .movDrR32 n r => cat (ob2 0x0F 0x23) [fields233 3 n r.num]
  | .movR32Tr n r => cat (ob2 0x0F 0x24) [fields233 3 n r.num]
  | .movTrR32 n r => cat (ob2 0x0F 0x26) [fields233 3 n r.num]
  | .wrmsr => ob2 0x0F 0x30
  | .rdtsc => ob2 0x0F 0x31
  | .rdmsr => ob2 0x0F 0x32
  | .rsm => ob2 0x0F 0xAA
  | .hlt => ob1 0xF4
  | .arplRm16R16 rm r => cat (ob1 0x63) (rm.enc r.num)
  | .inAlImm8 imm => cat (ob1 0xE4) [imm]
  | .inEaxImm8 imm => cat (ob1 0xE5) [imm]
  | .inAlDx => ob1 0xEC
  | .inEaxDx => ob1 0xED
  | .outImm8Al imm => cat (ob1 0xE6) [imm]
  | .outImm8Eax imm => cat (ob1 0xE7) [imm]
  | .outDxAl => ob1 0xEE
  | .outDxEax => ob1 0xEF
  | .wait => ob1 0x9B
  | .fldM32 m => cat (ob1 0xD9) (m.enc 0)
  | .fldM64 m => cat (ob1 0xDD) (m.enc 0)
  | .fldM80 m => cat (ob1 0xDB) (m.enc 5)
  | .fldSti i => ob2r 0xD9 0xC0 i
  | .fstM32 m => cat (ob1 0xD9) (m.enc 2)
  | .fstM64 m => cat (ob1 0xDD) (m.enc 2)
  | .fstSti i => ob2r 0xDD 0xD0 i
  | .fstpM32 m => cat (ob1 0xD9) (m.enc 3)
  | .fstpM64 m => cat (ob1 0xDD) (m.enc 3)
  | .fstpM80 m => cat (ob1 0xDB) (m.enc 7)
  | .fstpSti i => ob2r 0xDD 0xD8 i
  | .fxchSti i => ob2r 0xD9 0xC8 i
  | .fildM16 m => cat (ob1 0xDF) (m.enc 0)
  | .fildM32 m => cat (ob1 0xDB) (m.enc 0)
  | .fildM64 m => cat (ob1 0xDF) (m.enc 5)
  | .fistM16 m => cat (ob1 0xDF) (m.enc 2)
  | .fistM32 m => cat (ob1 0xDB) (m.enc 2)
  | .fistpM16 m => cat (ob1 0xDF) (m.enc 3)
  | .fistpM32 m => cat (ob1 0xDB) (m.enc 3)
  | .fistpM64 m => cat (ob1 0xDF) (m.enc 7)
  | .fbldM80 m => cat (ob1 0xDF) (m.enc 4)
  | .fbstpM80 m => cat (ob1 0xDF) (m.enc 6)
  | .faddM32 m => cat (ob1 0xD8) (m.enc 0)
  | .faddM64 m => cat (ob1 0xDC) (m.enc 0)
  | .faddStSti i => ob2r 0xD8 0xC0 i
  | .faddStiSt i => ob2r 0xDC 0xC0 i
  | .faddpStiSt i => ob2r 0xDE 0xC0 i
  | .fiaddM32 m => cat (ob1 0xDA) (m.enc 0)
  | .fiaddM16 m => cat (ob1 0xDE) (m.enc 0)
  | .fmulM32 m => cat (ob1 0xD8) (m.enc 1)
  | .fmulM64 m => cat (ob1 0xDC) (m.enc 1)
  | .fmulStSti i => ob2r 0xD8 0xC8 i
  | .fmulStiSt i => ob2r 0xDC 0xC8 i
  | .fmulpStiSt i => ob2r 0xDE 0xC8 i
  | .fimulM32 m => cat (ob1 0xDA) (m.enc 1)
  | .fimulM16 m => cat (ob1 0xDE) (m.enc 1)
  | .fsubM32 m => cat (ob1 0xD8) (m.enc 4)
  | .fsubM64 m => cat (ob1 0xDC) (m.enc 4)
  | .fsubStSti i => ob2r 0xD8 0xE0 i
  | .fsubStiSt i => ob2r 0xDC 0xE8 i
  | .fsubpStiSt i => ob2r 0xDE 0xE8 i
  | .fisubM32 m => cat (ob1 0xDA) (m.enc 4)
  | .fisubM16 m => cat (ob1 0xDE) (m.enc 4)
  | .fsubrM32 m => cat (ob1 0xD8) (m.enc 5)
  | .fsubrM64 m => cat (ob1 0xDC) (m.enc 5)
  | .fsubrStSti i => ob2r 0xD8 0xE8 i
  | .fsubrStiSt i => ob2r 0xDC 0xE0 i
  | .fsubrpStiSt i => ob2r 0xDE 0xE0 i
  | .fisubrM32 m => cat (ob1 0xDA) (m.enc 5)
  | .fisubrM16 m => cat (ob1 0xDE) (m.enc 5)
  | .fdivM32 m => cat (ob1 0xD8) (m.enc 6)
  | .fdivM64 m => cat (ob1 0xDC) (m.enc 6)
  | .fdivStSti i => ob2r 0xD8 0xF0 i
  | .fdivStiSt i => ob2r 0xDC 0xF8 i
  | .fdivpStiSt i => ob2r 0xDE 0xF8 i
  | .fidivM32 m => cat (ob1 0xDA) (m.enc 6)
  | .fidivM16 m => cat (ob1 0xDE) (m.enc 6)
  | .fdivrM32 m => cat (ob1 0xD8) (m.enc 7)
  | .fdivrM64 m => cat (ob1 0xDC) (m.enc 7)
  | .fdivrStSti i => ob2r 0xD8 0xF8 i
  | .fdivrStiSt i => ob2r 0xDC 0xF0 i
  | .fdivrpStiSt i => ob2r 0xDE 0xF0 i
  | .fidivrM32 m => cat (ob1 0xDA) (m.enc 7)
  | .fidivrM16 m => cat (ob1 0xDE) (m.enc 7)
  | .fcomM32 m => cat (ob1 0xD8) (m.enc 2)
  | .fcomM64 m => cat (ob1 0xDC) (m.enc 2)
  | .fcomSti i => ob2r 0xD8 0xD0 i
  | .fcompM32 m => cat (ob1 0xD8) (m.enc 3)
  | .fcompM64 m => cat (ob1 0xDC) (m.enc 3)
  | .fcompSti i => ob2r 0xD8 0xD8 i
  | .fcompp => ob2 0xDE 0xD9
  | .fucomSti i => ob2r 0xDD 0xE0 i
  | .fucompSti i => ob2r 0xDD 0xE8 i
  | .fucompp => ob2 0xDA 0xE9
  | .ficomM16 m => cat (ob1 0xDE) (m.enc 2)
  | .ficomM32 m => cat (ob1 0xDA) (m.enc 2)
  | .ficompM16 m => cat (ob1 0xDE) (m.enc 3)
  | .ficompM32 m => cat (ob1 0xDA) (m.enc 3)
  | .ftst => ob2 0xD9 0xE4
  | .fxam => ob2 0xD9 0xE5
  | .fsqrt => ob2 0xD9 0xFA
  | .fscale => ob2 0xD9 0xFD
  | .fxtract => ob2 0xD9 0xF4
  | .fprem => ob2 0xD9 0xF8
  | .fprem1 => ob2 0xD9 0xF5
  | .frndint => ob2 0xD9 0xFC
  | .fabs => ob2 0xD9 0xE1
  | .fchs => ob2 0xD9 0xE0
  | .fld1 => ob2 0xD9 0xE8
  | .fldl2t => ob2 0xD9 0xE9
  | .fldl2e => ob2 0xD9 0xEA
  | .fldpi => ob2 0xD9 0xEB
  | .fldlg2 => ob2 0xD9 0xEC
  | .fldln2 => ob2 0xD9 0xED
  | .fldz => ob2 0xD9 0xEE
  | .fsin => ob2 0xD9 0xFE
  | .fcos => ob2 0xD9 0xFF
  | .fsincos => ob2 0xD9 0xFB
  | .fptan => ob2 0xD9 0xF2
  | .fpatan => ob2 0xD9 0xF3
  | .f2xm1 => ob2 0xD9 0xF0
  | .fyl2x => ob2 0xD9 0xF1
  | .fyl2xp1 => ob2 0xD9 0xF9
  | .fninit => ob2 0xDB 0xE3
  | .fnclex => ob2 0xDB 0xE2
  | .fnstswAx => ob2 0xDF 0xE0
  | .fincstp => ob2 0xD9 0xF7
  | .fdecstp => ob2 0xD9 0xF6
  | .fnop => ob2 0xD9 0xD0
  | .feni => ob2 0xDB 0xE0
  | .fdisi => ob2 0xDB 0xE1
  | .fsetpm => ob2 0xDB 0xE4
  | .fldcwM16 m => cat (ob1 0xD9) (m.enc 5)
  | .fnstcwM16 m => cat (ob1 0xD9) (m.enc 7)
  | .fnstswM16 m => cat (ob1 0xDD) (m.enc 7)
  | .fnstenvM m => cat (ob1 0xD9) (m.enc 6)
  | .fldenvM m => cat (ob1 0xD9) (m.enc 4)
  | .fnsaveM m => cat (ob1 0xDD) (m.enc 6)
  | .frstorM m => cat (ob1 0xDD) (m.enc 4)
  | .ffreeSti i => ob2r 0xDD 0xC0 i
  | .finit => ob3 0x9B 0xDB 0xE3
  | .fclex => ob3 0x9B 0xDB 0xE2
  | .fstswAx => ob3 0x9B 0xDF 0xE0
  | .fstcwM16 m => cat (ob2 0x9B 0xD9) (m.enc 7)
  | .fstswM16 m => cat (ob2 0x9B 0xDD) (m.enc 7)
  | .fstenvM m => cat (ob2 0x9B 0xD9) (m.enc 6)
  | .fsaveM m => cat (ob2 0x9B 0xDD) (m.enc 6)
  | .prefixEs => ob1 0x26
  | .prefixCs => ob1 0x2E
  | .prefixSs => ob1 0x36
  | .prefixDs => ob1 0x3E
  | .prefixFs => ob1 0x64
  | .prefixGs => ob1 0x65
  | .prefixOpSize => ob1 0x66
  | .prefixAdSize => ob1 0x67
  | .prefixLock => ob1 0xF0
  | .prefixRepne => ob1 0xF2
  | .prefixRep => ob1 0xF3

end Sys2Proof

end
end

