-- ==== Sys2Proof/Machine/Fetch.lean ====
section
/-! DEFINITION. Fetching and decoding the instruction at CS:EIP, prefixes included (30_encoding.md R400 to R408, R450), and the placing
of a word where the next instruction is fetched. -/

noncomputable section

namespace Sys2Proof.Machine

open Sys2Proof

/-- The byte `n` bytes after CS:EIP, read as an instruction fetch (R400, 23_protection.md R330). A fetch past offset FFFFFFFFH goes on at
offset 0, the model's choice (notes/assumptions/57.md). After PG changed, the byte must come from an identity-mapped page
(70_reset_and_hazards.md R1640, D71). -/
def fetchByte (n : Nat) : M Byte := do
  let s ← get
  let lin ← segLinear .s32 .cs (s.eip + BitVec.ofNat 32 n) 1 .x
  require (!s.pgSwitched || identityMapped lin s) (refuse .pagingNotIdentity)
  let p ← translate lin { write := false, user := s.cpl == 3, fetch := true }
  physReadByte p

/-- The FPU opcode register's view of an ESC instruction: bits 2 to 0 of its first byte, then its second byte
(12_state_fpu.md R1011). -/
def fopOf : List Byte → BitVec 11
  | a :: b :: _ => a.extractLsb' 0 3 ++ b
  | _ => 0

/-- What reading the bytes at CS:EIP came to. -/
inductive Fetched where
  | instr (i : Instr)
  | bad (why : BadOpcode)
  deriving DecidableEq, Repr

/-- Read bytes until they decode: prefixes go to the latch (R401), `acc` holds the bytes after the last prefix. The first argument is
how many bytes the limit of 15 still allows; needing one more is `#GP(0)` (R402). With a JMP the identity-mapped stretch after a change of PG
ends (70_reset_and_hazards.md R1640). How many bytes of an encoding that is no instruction are fetched before its `#UD` or refusal is the model's
choice (R450, notes/assumptions/82.md): the opcode, and the ModR/M byte with its SIB byte and displacement where the opcode has one. -/
def scanInstr : Nat → List Byte → M Fetched
  | 0, _ => gp 0
  | k + 1, acc => do
    let s ← get
    let b ← fetchByte s.cur.len
    modifyCur fun c => { c with len := c.len + 1 }
    let acc := acc ++ [b]
    match decodeOne s.os s.as acc with
    | .more => scanInstr k acc
    | .bad w => pure (.bad w)
    | .ok i _ =>
      match prefixEffect i with
      | some f => do
        modifyCur f
        scanInstr k []
      | none => do
        modifyCur fun c => { c with fop := fopOf acc }
        modify fun s => { s with pgSwitched := s.pgSwitched && !jumpsAway i }
        pure (.instr i)

/-- What stops a decoded instruction before it executes: redundant prefixes (R403, D4), an encoding that is no instruction (R450),
LOCK misuse (R408), repeat-prefix misuse (R406, D5). An encoding that is refused (R450) is refused with LOCK before it too, and an encoding that is
no instruction is `#UD` with F2H or F3H before it too, while F2H or F3H before a decoded instruction is refused before anything that this
instruction would raise when executed: the model's choice (notes/assumptions/41.md). -/
def gate (f : Fetched) : M Instr := do
  let s ← get
  if s.cur.redundant then refuse .redundantPrefix
  else
    match f with
    | .bad .undefined => ud
    | .bad .reserved => refuse .reservedOpcode
    | .bad .aliased => refuse .aliasOpcode
    | .instr i =>
      if s.cur.lock && !lockable i then ud
      else
        match s.cur.rep with
        | none => pure i
        | some r => if repAllowed i r then pure i else refuse .repeatPrefixMisuse

/-- The bytes after a WAIT, if they are a no-wait instruction that the table pairs with it (48_fpu_instructions.md R1160). -/
def scanAfterWait : Nat → List Byte → M (Option Instr)
  | 0, _ => pure none
  | k + 1, acc => do
    let s ← get
    let b ← fetchByte s.cur.len
    modifyCur fun c => { c with len := c.len + 1 }
    let acc := acc ++ [b]
    match decodeAfterWait s.os s.as acc with
    | .more => scanAfterWait k acc
    | .bad _ => pure none
    | .ok i _ => do
      modifyCur fun c => { c with fop := fopOf acc }
      pure (some i)

/-- A WAIT without prefixes is joined to the instruction after it where the table has a row for the pair; if those bytes cannot be read
or are something else, nothing has happened but the WAIT (notes/assumptions/7.md). -/
def joinWait (i : Instr) : M Instr := do
  let s ← get
  if i = .wait && s.cur.len == 1 then
    match scanAfterWait 14 [] s with
    | .ok (some j) t => do
      set t
      pure j
    | _ => pure i
  else pure i

/-- FETCH AND DECODE the instruction at CS:EIP: the instruction, with its prefixes and its length in the latch; or the fault or refusal that
the attempt ends in. -/
def fetchInstr : M Instr := do
  modify fun s => { s with cur := .empty }
  let f ← scanInstr 15 []
  let i ← gate f
  joinWait i

/-- Store bytes at consecutive physical addresses. -/
def placeBytes : Word → List Byte → List Host.Cell → List Host.Cell
  | _, [], m => m
  | a, b :: bs, m => placeBytes (a + 1) bs (Memory.write m a.toNat b)

end Sys2Proof.Machine

end
end

