-- ==== Sys2Proof/Machine/Transcendental.lean ====
section
/-! DEFINITION. The accuracy of the transcendental instructions (47_fpu_numerics.md R1034): the exact functions over the real numbers, the error
bound and the monotonicity, and what the unit makes of the operands of an instruction: some function that keeps them. -/

noncomputable section

namespace Sys2Proof.Machine

open Sys2Proof

/-- The real number of a finite extended real (12_state_fpu.md R1015). -/
def extReal (x : Ext) : ℝ :=
  (if Ext.neg x then -1 else 1) * ((Ext.sig x).toNat * (2 : ℝ) ^ (((max (Ext.be x) 1 : Nat) : ℤ) - 16446))

/-- The real number of a rounded result. -/
def resultReal (r : RoundedReal) : ℝ := (if r.neg then -1 else 1) * (r.sig.toNat * (2 : ℝ) ^ (r.exp - 63))

/-- The 66-bit pi of the argument reduction: 4 times 0.C90FDAA22168C234C (R1034). -/
def pi66 : ℝ := 4 * (0xC90FDAA22168C234C / 2 ^ 68)

/-- How arguments are reduced: by multiples of `eighths` times 66-bit pi over 4, the quotient truncated as by FPREM or rounded as by FPREM1
(R1034 names both and no modulus). -/
structure Reduction where
  eighths : Nat
  near : Bool
  deriving DecidableEq, Repr

/-- The moduli that keep the functions' values: an eighth, a quarter, a half or the whole of a turn. -/
def Reduction.ok (d : Reduction) : Prop := d.eighths = 1 ∨ d.eighths = 2 ∨ d.eighths = 4 ∨ d.eighths = 8

/-- The multiple taken off `x`. -/
def Reduction.turns (d : Reduction) (x : ℝ) : ℤ :=
  let q := x / (d.eighths * pi66 / 4)
  if d.near then round q else if 0 ≤ q then ⌊q⌋ else ⌈q⌉

/-- The angle whose function is computed: what is left of `x` after 66-bit pi was taken off as often as that, in the octant that it says. -/
def Reduction.angle (d : Reduction) (x : ℝ) : ℝ := x + d.turns x * d.eighths / 4 * (Real.pi - pi66)

/-- The exact functions of ST `x` and ST(1) `y` (R1034, 48_fpu_instructions.md R1145 to R1151). -/
def exactReal (d : Reduction) (f : Transcendental) (x y : ℝ) : ℝ :=
  match f with
  | .f2xm1 => (2 : ℝ) ^ x - 1
  | .fsin => Real.sin (d.angle x)
  | .fcos => Real.cos (d.angle x)
  | .fptan => Real.tan (d.angle x)
  | .fpatan => Complex.arg ⟨x, y⟩
  | .fyl2x => y * Real.logb 2 x
  | .fyl2xp1 => y * Real.logb 2 (x + 1)

/-- The instruction has two operands. -/
def hasTwo : Transcendental → Bool
  | .fpatan => true
  | .fyl2x => true
  | .fyl2xp1 => true
  | _ => false

/-- The unit in the last place of 64 significand bits. -/
def ulp (e : ℝ) : ℝ := (2 : ℝ) ^ (Int.log 2 |e| - 63)

/-- The bound on the error, in units in the last place: 1 to nearest, 3/2 in the other modes (R1034). -/
def ulpBound (rc : BitVec 2) : ℝ := if rc = 0 then 1 else 3 / 2

/-- A result of 64 significand bits within the bound of the exact value `e` tells its own error: inexact, and rounded up in magnitude (R1034,
R1069). -/
def CloseTo (rc : BitVec 2) (e : ℝ) (r : RoundedReal) : Prop :=
  e ≠ 0 → r.sig.getLsbD 63 = true ∧ |resultReal r - e| < ulpBound rc * ulp e ∧ (r.inexact = true ↔ resultReal r ≠ e) ∧
    (r.up = true ↔ |e| < |resultReal r|)

/-- What the results of one function keep of its order, in one operand: where the exact function rises from `a` to `b`, the result does not
fall, and the other way round. -/
def KeepsOrder (g : ℝ → ℝ) (a b ra rb : ℝ) : Prop :=
  a ≤ b → (MonotoneOn g (Set.Icc a b) → ra ≤ rb) ∧ (AntitoneOn g (Set.Icc a b) → rb ≤ ra)

/-- The type of a transcendental unit: instruction, RC, ST, ST(1). -/
abbrev UnitFun := Transcendental → BitVec 2 → Ext → Ext → RoundedReal

/-- The unit meets R1034 with the reduction `d`: the error bound, and monotonicity in each operand. -/
def AccurateBy (d : Reduction) (R : UnitFun) : Prop :=
  ∀ f rc x y, CloseTo rc (exactReal d f (extReal x) (extReal y)) (R f rc x y) ∧
    (∀ x', KeepsOrder (fun t => exactReal d f t (extReal y)) (extReal x) (extReal x') (resultReal (R f rc x y)) (resultReal (R f rc x' y))) ∧
    (hasTwo f = true →
      ∀ y', KeepsOrder (exactReal d f (extReal x)) (extReal y) (extReal y') (resultReal (R f rc x y)) (resultReal (R f rc x y')))

/-- The unit meets R1034. -/
def Accurate (R : UnitFun) : Prop := ∃ d : Reduction, d.ok ∧ AccurateBy d R

/-- A real number chopped to 64 significand bits. -/
def chopReal (e : ℝ) : RoundedReal :=
  let sig : Nat := if e = 0 then 0 else ⌊|e| / ulp e⌋₊
  { neg := decide (e < 0), exp := Int.log 2 |e|, sig := BitVec.ofNat 64 sig, inexact := decide (sig * ulp e ≠ |e|), up := false }

theorem ulp_pos (e : ℝ) : 0 < ulp e := by unfold ulp; positivity

/-- A non-zero number has between 2^63 and 2^64 units in its last place. -/
theorem units_bounds {e : ℝ} (h : e ≠ 0) : (2 : ℝ) ^ 63 ≤ |e| / ulp e ∧ |e| / ulp e < 2 ^ 64 := by
  have h0 : 0 < |e| := abs_pos.mpr h
  have h1 := Int.zpow_log_le_self (b := 2) (by norm_num) h0
  have h2 := Int.lt_zpow_succ_log_self (b := 2) (by norm_num) |e|
  have e1 : (2 : ℝ) ^ 63 * ulp e = ((2 : ℕ) : ℝ) ^ Int.log 2 |e| := by
    rw [ulp, ← zpow_natCast, ← zpow_add₀ (by norm_num)]; norm_num
  have e2 : (2 : ℝ) ^ 64 * ulp e = ((2 : ℕ) : ℝ) ^ (Int.log 2 |e| + 1) := by
    rw [ulp, ← zpow_natCast, ← zpow_add₀ (by norm_num)]; norm_num; ring_nf
  exact ⟨(le_div_iff₀ (ulp_pos e)).mpr (e1 ▸ h1), (div_lt_iff₀ (ulp_pos e)).mpr (e2 ▸ h2)⟩

/-- The number of whole units fits 64 bits, its top bit set. -/
theorem floor_units {e : ℝ} (h : e ≠ 0) : 2 ^ 63 ≤ ⌊|e| / ulp e⌋₊ ∧ ⌊|e| / ulp e⌋₊ < 2 ^ 64 := by
  obtain ⟨h1, h2⟩ := units_bounds h
  refine ⟨Nat.le_floor (by exact_mod_cast h1), ?_⟩
  rw [Nat.floor_lt (by positivity [ulp_pos e])]
  exact_mod_cast h2

/-- The value of a chopped number. -/
theorem resultReal_chop (e : ℝ) (h : e ≠ 0) :
    resultReal (chopReal e) = (if e < 0 then -1 else 1) * (⌊|e| / ulp e⌋₊ * ulp e) := by
  have h2 := (floor_units h).2
  simp only [chopReal, resultReal, h, if_false, decide_eq_true_eq, BitVec.toNat_ofNat, Nat.mod_eq_of_lt h2]
  rfl

/-- A chopped number is within one unit below the number in magnitude. -/
theorem chop_within (e : ℝ) : ⌊|e| / ulp e⌋₊ * ulp e ≤ |e| ∧ |e| < ⌊|e| / ulp e⌋₊ * ulp e + ulp e := by
  have hp := ulp_pos e
  have h1 := Nat.floor_le (div_nonneg (abs_nonneg e) hp.le)
  have h2 := Nat.lt_floor_add_one (|e| / ulp e)
  exact ⟨(le_div_iff₀ hp).mp h1, by linarith [(div_lt_iff₀ hp).mp h2]⟩

theorem chop_close (rc : BitVec 2) (e : ℝ) : CloseTo rc e (chopReal e) := by
  intro h
  obtain ⟨h63, h64⟩ := floor_units h
  obtain ⟨l, u⟩ := chop_within e
  have hp := ulp_pos e
  have hb : 1 ≤ ulpBound rc := by unfold ulpBound; split <;> norm_num
  have habs : |resultReal (chopReal e)| = ⌊|e| / ulp e⌋₊ * ulp e := by
    rw [resultReal_chop e h, abs_mul, abs_of_nonneg (by positivity : (0 : ℝ) ≤ ⌊|e| / ulp e⌋₊ * ulp e)]
    split <;> simp
  have hs : resultReal (chopReal e) = e ↔ (⌊|e| / ulp e⌋₊ : ℝ) * ulp e = |e| := by
    rw [resultReal_chop e h]
    rcases lt_or_gt_of_ne h with hn | hn
    · rw [if_pos hn, abs_of_neg hn]; constructor <;> intro q <;> linarith
    · rw [if_neg hn.not_gt, abs_of_pos hn]; constructor <;> intro q <;> linarith
  refine ⟨?_, ?_, ?_, ?_⟩
  · show (chopReal e).sig.getLsbD 63 = true
    simp only [chopReal, h, if_false]
    rw [BitVec.getLsbD_ofNat, Nat.testBit_eq_decide_div_mod_eq]
    simp only [decide_eq_true_eq, Bool.and_eq_true]
    omega
  · have : |resultReal (chopReal e) - e| < ulp e := by
      rw [resultReal_chop e h]
      rcases lt_or_gt_of_ne h with hn | hn
      · rw [if_pos hn]; rw [abs_of_neg hn] at *; rw [abs_lt]; constructor <;> linarith
      · rw [if_neg hn.not_gt]; rw [abs_of_pos hn] at *; rw [abs_lt]; constructor <;> linarith
    nlinarith
  · rw [ne_eq, hs]
    simp [chopReal, h]
  · rw [habs]
    simp only [chopReal, Bool.false_eq_true, false_iff, not_lt]
    exact l

/-- The chopped magnitude is at most any number of the same grid above it: chopping keeps the order of positive numbers. -/
theorem chop_mono_pos {a b : ℝ} (ha : 0 < a) (hab : a ≤ b) : (⌊|a| / ulp a⌋₊ : ℝ) * ulp a ≤ ⌊|b| / ulp b⌋₊ * ulp b := by
  have hb : 0 < b := ha.trans_le hab
  rw [abs_of_pos ha, abs_of_pos hb]
  have hl : Int.log 2 |a| ≤ Int.log 2 |b| := by
    rw [abs_of_pos ha, abs_of_pos hb]; exact Int.log_mono_right ha hab
  rcases hl.eq_or_lt with he | hlt
  · have hu : ulp a = ulp b := by simp [ulp, he]
    rw [hu]
    have : a / ulp b ≤ b / ulp b := div_le_div_of_nonneg_right hab (ulp_pos b).le
    exact mul_le_mul_of_nonneg_right (by exact_mod_cast Nat.floor_mono this) (ulp_pos b).le
  · have h1 := (chop_within a).1
    rw [abs_of_pos ha] at h1
    have h2 : a < 2 ^ (Int.log 2 |a| + 1) := by
      have := Int.lt_zpow_succ_log_self (b := 2) (by norm_num) |a|
      rw [abs_of_pos ha] at this ⊢; exact_mod_cast this
    have h3 : (2 : ℝ) ^ (Int.log 2 |a| + 1) ≤ 2 ^ Int.log 2 |b| := zpow_le_zpow_right₀ (by norm_num) hlt
    have h4 : (2 : ℝ) ^ Int.log 2 |b| ≤ ⌊b / ulp b⌋₊ * ulp b := by
      have e1 : (2 : ℝ) ^ Int.log 2 |b| = (2 : ℝ) ^ 63 * ulp b := by
        rw [ulp, ← zpow_natCast, ← zpow_add₀ (by norm_num)]; norm_num
      have f := (floor_units hb.ne').1
      rw [abs_of_pos hb] at f
      rw [e1]
      exact mul_le_mul_of_nonneg_right (by exact_mod_cast f) (ulp_pos b).le
    linarith

theorem resultReal_chop_neg (e : ℝ) : resultReal (chopReal (-e)) = -resultReal (chopReal e) := by
  by_cases h : e = 0
  · simp [h, chopReal, resultReal]
  · have hu : ulp (-e) = ulp e := by simp [ulp]
    rw [resultReal_chop e h, resultReal_chop (-e) (neg_ne_zero.mpr h), abs_neg, hu]
    rcases lt_or_gt_of_ne h with hn | hn
    · rw [if_neg (by linarith), if_pos hn]; ring
    · rw [if_pos (by linarith), if_neg hn.not_gt]; ring

theorem resultReal_chop_nonneg {e : ℝ} (h : 0 ≤ e) : 0 ≤ resultReal (chopReal e) := by
  rcases h.eq_or_lt with h | h
  · simp [← h, chopReal, resultReal]
  · rw [resultReal_chop e h.ne', if_neg h.not_gt]
    have := ulp_pos e
    positivity

/-- Chopping keeps the order. -/
theorem chop_mono {a b : ℝ} (hab : a ≤ b) : resultReal (chopReal a) ≤ resultReal (chopReal b) := by
  have pos {a b : ℝ} (ha : 0 < a) (hab : a ≤ b) : resultReal (chopReal a) ≤ resultReal (chopReal b) := by
    have hb : 0 < b := ha.trans_le hab
    rw [resultReal_chop a ha.ne', resultReal_chop b hb.ne', if_neg ha.not_gt, if_neg hb.not_gt, one_mul, one_mul]
    exact chop_mono_pos ha hab
  have neg (e : ℝ) (h : e ≤ 0) : resultReal (chopReal e) ≤ 0 := by
    have h1 := resultReal_chop_nonneg (neg_nonneg.mpr h)
    rw [resultReal_chop_neg] at h1
    linarith
  rcases lt_or_ge 0 a with h | h
  · exact pos h hab
  · rcases lt_or_ge b 0 with hb | hb
    · have h1 := pos (neg_pos.mpr hb) (neg_le_neg hab)
      rw [resultReal_chop_neg, resultReal_chop_neg] at h1
      linarith
    · exact (neg a h).trans (resultReal_chop_nonneg hb)

/-- There are units that meet R1034: the one that chops the exact values is one. -/
theorem accurate_exists : ∃ R : UnitFun, Accurate R := by
  let d : Reduction := { eighths := 1, near := false }
  refine ⟨fun f _ x y => chopReal (exactReal d f (extReal x) (extReal y)), d, Or.inl rfl, fun f rc x y => ⟨chop_close _ _, ?_, ?_⟩⟩
  · exact fun x' hab => ⟨fun m => chop_mono (m (Set.left_mem_Icc.mpr hab) (Set.right_mem_Icc.mpr hab) hab),
      fun m => chop_mono (m (Set.left_mem_Icc.mpr hab) (Set.right_mem_Icc.mpr hab) hab)⟩
  · exact fun _ y' hab => ⟨fun m => chop_mono (m (Set.left_mem_Icc.mpr hab) (Set.right_mem_Icc.mpr hab) hab),
      fun m => chop_mono (m (Set.left_mem_Icc.mpr hab) (Set.right_mem_Icc.mpr hab) hab)⟩

/-- What the transcendental unit computes (R1034, 93_implementation_defined.md U33): `Config.transcendental` if it meets the bound; the choice between
functions that do is otherwise open (notes/assumptions/34.md). -/
def unitResult : UnitFun :=
  open Classical in if Accurate Config.transcendental then Config.transcendental else Classical.choose accurate_exists

/-- The unit meets R1034. -/
theorem unitResult_accurate : Accurate unitResult := by
  unfold unitResult
  split
  · assumption
  · exact Classical.choose_spec accurate_exists

/-- The state with what the unit makes of ST and ST(1) for one function, and for a second one. -/
def State.withResults (s : State) (f g : Transcendental) (y z : Ext) : State :=
  let rc := cwRc s.fpu.cw
  let x := s.fpu.st 0
  { s with cur := { s.cur with unit := unitResult f rc x y, unit2 := unitResult g rc x z } }

/-- The state an instruction executes in: for a transcendental instruction the latch holds the unit's result. FSINCOS need not give the sine that FSIN
gives, nor the cosine of FCOS (R1034 does not say so), so the unused second operand differs. -/
def withUnit (i : Instr) (s : State) : State :=
  match i with
  | .f2xm1 => s.withResults .f2xm1 .f2xm1 0 0
  | .fsin => s.withResults .fsin .fsin 0 0
  | .fcos => s.withResults .fcos .fcos 0 0
  | .fsincos => s.withResults .fsin .fcos (Ext.one false) (Ext.one false)
  | .fptan => s.withResults .fptan .fptan 0 0
  | .fpatan => s.withResults .fpatan .fpatan (s.fpu.st 1) (s.fpu.st 1)
  | .fyl2x => s.withResults .fyl2x .fyl2x (s.fpu.st 1) (s.fpu.st 1)
  | .fyl2xp1 => s.withResults .fyl2xp1 .fyl2xp1 (s.fpu.st 1) (s.fpu.st 1)
  | _ => s

end Sys2Proof.Machine

end
end

