-- ==== Sys2Proof/Machine/Step.lean ====
section
/-! DEFINITION. One step of the machine (00_scope.md R11): the events of the boundary, or one instruction. -/

noncomputable section

namespace Sys2Proof.Machine

open Sys2Proof

/-- Fetch, decode and execute the instruction at CS:EIP (R11 (3)): a fault of the fetch or of the decoding is delivered like a fault of
the instruction (R26). A transcendental instruction finds the unit's result in the latch (47_fpu_numerics.md R1034). -/
def runNext (s : State) : Host.Outcome State Fault Refusal :=
  match fetchInstr s with
  | .ok i t => exec i (withUnit i t)
  | .error (.exc e) t => deliver deliverFuel (faultEvent e s.eip) (rollback { s with cur := .empty } t)
  | .error (.refuse r) _ => .refused r
  | .error _ _ => .fault .fetchStuck

/-- ONE STEP (R11). -/
def step (s : State) : Host.Outcome State Fault Refusal :=
  match s.begin.boundary with
  | some o => o
  | none => runNext s.begin

/-- The instruction with the bits `w` placed at CS:EIP: sixteen bytes, zero above `nbits`. -/
def State.withFetchWord (s : State) (nbits w : Nat) : State :=
  { s with mem := placeBytes (s.segs.cs.base + s.eip) (bytesOf 16 (w % 2 ^ nbits)) s.mem }

end Sys2Proof.Machine

end
end

