-- ==== Sys2Proof/Safety.lean ====
section
/-! DEFINITION. The vocabulary of the claims: what it means that an instruction ran with its own effect, what a write to an
operand does and leaves alone, and the small tables that name the instructions of one shape. -/

noncomputable section

namespace Sys2Proof.Claims

open Sys2Proof Sys2Proof.Machine

/-- The instruction `i`, entered in `s`, COMPLETES WITH ITS OWN EFFECT: its computation ends in `t`, and the step's next state is
the instruction boundary after it (`State.complete`: RF, the debug trap and the one-instruction shadows). No exception was taken. -/
def Ran (i : Instr) (s t : State) : Prop := exec i s = .next (s.complete t)

/-- The instruction FAULTS with `e` and nothing of it has happened: the exception is delivered from the state at its start, EIP at its first
byte (60_exceptions.md R1203). `t` is where the attempt stopped; of it only what a fault does not undo is kept (R1650). The premise
excludes a latch that says a task switch has committed (61_tasks.md R1332): the latch of an instruction that starts does not. -/
def Faults (i : Instr) (s : State) (e : Exc) (t : State) : Prop :=
  s.cur.committed = false → exec i s = deliver deliverFuel (faultEvent e s.eip) (rollback s t)

/-- `#GP(0)`. -/
def gp0 : Exc := { vec := 13, code := some 0, dbg := none }
/-- `#UD`. -/
def ud6 : Exc := { vec := 6, code := none, dbg := none }

/-- The physical addresses of operand bytes, after A20M# (20_memory.md R210, 65_cache_mp.md R1560). -/
def addrs (s : State) (ps : List Word) : List Nat := ps.map fun a => (s.a20 a).toNat

/-- The byte at a physical address. -/
def byteAt (s : State) (a : Nat) : Byte := Memory.read s.mem a

/-- `t` is `u` after the low bytes of `v` were stored at the operand bytes `ps`: EVERY OTHER BYTE OF MEMORY reads as before, and so does every
other part of the state; each RAM byte that is not overwritten by a later byte of the same operand reads its byte of `v`; nothing goes
to the bus if all are RAM. -/
def Stored (ps : List Word) (v : Nat) (u t : State) : Prop :=
  t = { u with mem := t.mem, bus := t.bus } ∧
  (∀ a, a ∉ addrs u ps → byteAt t a = byteAt u a) ∧
  (Memory.wf u.mem = true → Memory.wf t.mem = true) ∧
  (Memory.wf u.mem = true → ∀ k : Nat, ∀ h : k < (addrs u ps).length, regionAt u.memMap (addrs u ps)[k] = none →
    (addrs u ps)[k] ∉ (addrs u ps).drop (k + 1) → byteAt t (addrs u ps)[k] = BitVec.ofNat 8 (v / 256 ^ k)) ∧
  ((∀ a ∈ addrs u ps, regionAt u.memMap a = none) → t.bus = u.bus)

/-- `t` is `u` after the bits `m` of the doubleword at `ps` were set by a locked read-modify-write: the value that the write adds them to is read
right before it (21_segmentation.md R241, 65_cache_mp.md R1531, R1545). For an empty `ps` nothing happened. -/
def BitsSet (ps : List Word) (m : Word) (u t : State) : Prop :=
  ∃ v w, load ps u = .ok v w ∧ Stored ps (BitVec.ofNat 32 v ||| m).toNat w t

/-- `t` is `u` after the value `v` of `w` bits was written to the place `p`. -/
def PutAt (p : Place) (w : Nat) (v : BitVec w) (u t : State) : Prop :=
  match p with
  | .reg r => t = { u with regs := u.regs.write w r v }
  | .mem ps => Stored ps v.toNat u t

/-- A memory operand was read in two parts: `n` bytes at it give `v`, then `k` bytes above them give `w`; each part has its own checks, and the
operand does not run past the last offset of the address size (40_data_movement.md R520, 43_control_transfer.md R745, 20_memory.md R211). -/
def ReadTwice (m : MemOp) (n k : Nat) (s u : State) (v w : Nat) (t : State) : Prop :=
  ∃ ps s1 s2 qs s3, access s.as (s.eaSeg m) (s.eaOff m) n n .r u = .ok ps s1 ∧ load ps s1 = .ok v s2 ∧
    (s.eaOff m).toNat + n + k ≤ 2 ^ s.as.bits ∧ access s.as (s.eaSeg m) (s.eaOff m + BitVec.ofNat 32 n) k k .r s2 = .ok qs s3 ∧
    load qs s3 = .ok w t

/-- The first part of such an operand was read, and the second runs past the last offset of the address size (R211). -/
def ReadPast (m : MemOp) (n k : Nat) (s u t : State) : Prop :=
  ∃ ps s1 v, access s.as (s.eaSeg m) (s.eaOff m) n n .r u = .ok ps s1 ∧ load ps s1 = .ok v t ∧ 2 ^ s.as.bits < (s.eaOff m).toNat + n + k

/-- The fault of a segment check through a segment register: `#SS(0)` through SS, else `#GP(0)` (23_protection.md R330). -/
def limitFault (sr : SReg) : Exc := { vec := if sr = .ss then 12 else 13, code := some 0, dbg := none }

/-- Items copied from place to place one after the other (R750). -/
def Copied : List (List Word × List Word) → State → State → Prop
  | (src, dst) :: rest, u, t => ∃ v u1 m, load src u = .ok v u1 ∧ Stored dst v u1 m ∧ Copied rest m t
  | [], u, t => t = u

/-- The places on the stack of `s` from which a CALL through a gate copies `c` parameters of `n` bytes, found in `u`: the one farthest from the top
first (R316). -/
def ParamSlots (s : State) (n : Nat) : Nat → State → List (List Word) → State → Prop
  | 0, u, ps, t => ps = [] ∧ t = u
  | c + 1, u, ps, t => ∃ src s1 rest, ps = src :: rest ∧
      access s.ss .ss (wrapSp s.ss (s.spOff + BitVec.ofNat 32 (n * c))) n n .r u = .ok src s1 ∧ ParamSlots s n c s1 rest t

/-- The places from and to which ENTER copies `c` items of `n` bytes, the first of them item `k`: item `k` lies `k * n` bytes below (E)BP and goes
`k * n` bytes below the item that was pushed first (R750). -/
def CopySlots (s : State) (n : Nat) : Nat → Nat → State → List (List Word × List Word) → State → Prop
  | 0, _, u, ps, t => ps = [] ∧ t = u
  | c + 1, k, u, ps, t => ∃ src s1 dst s2 rest, ps = (src, dst) :: rest ∧
      access s.ss .ss (wrapSp s.ss (s.bpOff - BitVec.ofNat 32 (n * k))) n n .r u = .ok src s1 ∧
      access s.ss .ss (wrapSp s.ss (s.spOff - BitVec.ofNat 32 (n * (k + 1)))) n n .w s1 = .ok dst s2 ∧ CopySlots s n c (k + 1) s2 rest t

/-- Values stored one after the other at several operands. -/
def StoredAll : List (List Word) → List Nat → State → State → Prop
  | ps :: pss, v :: vs, u, t => ∃ m, Stored ps v u m ∧ StoredAll pss vs m t
  | _, _, u, t => t = u

/-- Two states differ at most in the FPU and in the number of draws consumed. -/
def OnlyFpu (u t : State) : Prop := t = { u with fpu := t.fpu, draws := t.draws }

/-- (E)SP of `u` becomes `v`, at the stack address size. -/
def withSp (u : State) (v : Word) : State := { u with regs := u.regs.write u.ss.bits .esp (v.setWidth u.ss.bits) }

/-- The two-operand operations of group 1 but CMP (41_arithmetic.md R550). -/
inductive BinOp where
  | add | or | adc | sbb | and | sub | xor
  deriving DecidableEq, Repr

/-- The result of a two-operand operation; `c` is CF before it. -/
def BinOp.result (o : BinOp) {w : Nat} (c : Bool) (d v : BitVec w) : BitVec w :=
  match o with
  | .add => d + v
  | .adc => d + v + BitVec.ofNat w c.toNat
  | .sub => d - v
  | .sbb => d - v - BitVec.ofNat w c.toNat
  | .and => d &&& v
  | .or => d ||| v
  | .xor => d ^^^ v

/-- `f'` is what the flags `f` become: flags_add, flags_sub (10_state.md R105), or R620, where AF is open. -/
def BinOp.flags (o : BinOp) {w : Nat} (f : Flags) (d v : BitVec w) (f' : Flags) : Prop :=
  match o with
  | .add => f' = f.add d v false
  | .adc => f' = f.add d v f.cf
  | .sub => f' = f.sub d v false
  | .sbb => f' = f.sub d v f.cf
  | .and => ∃ a, f' = { f.szp (d &&& v) with cf := false, of := false, af := a }
  | .or => ∃ a, f' = { f.szp (d ||| v) with cf := false, of := false, af := a }
  | .xor => ∃ a, f' = { f.szp (d ^^^ v) with cf := false, of := false, af := a }

/-- The operand forms whose destination is an r/m operand or the accumulator (R550). -/
inductive ToForm where
  | rm8r8 (rm : RM) (r : Reg)
  | rmr (rm : RM) (r : Reg)
  | al (imm : BitVec 8)
  | eax (imm : BitVec 32)
  | rm8imm8 (rm : RM) (imm : BitVec 8)
  | rmimm (rm : RM) (imm : BitVec 32)
  | rmsimm8 (rm : RM) (imm : BitVec 8)
  deriving DecidableEq, Repr

/-- The destination of a form. -/
def ToForm.dst : ToForm → RM
  | .rm8r8 rm _ => rm
  | .rmr rm _ => rm
  | .al _ => .reg .eax
  | .eax _ => .reg .eax
  | .rm8imm8 rm _ => rm
  | .rmimm rm _ => rm
  | .rmsimm8 rm _ => rm

/-- The operand width of a form (R500). -/
def ToForm.width (f : ToForm) (s : State) : Nat :=
  match f with
  | .rm8r8 _ _ => 8
  | .al _ => 8
  | .rm8imm8 _ _ => 8
  | .rmr _ _ => s.os.bits
  | .eax _ => s.os.bits
  | .rmimm _ _ => s.os.bits
  | .rmsimm8 _ _ => s.os.bits

/-- The source value of a form. -/
def ToForm.src (f : ToForm) (w : Nat) (g : GRegs) : BitVec w :=
  match f with
  | .rm8r8 _ r => g.read w r
  | .rmr _ r => g.read w r
  | .al imm => imm.setWidth w
  | .eax imm => imm.setWidth w
  | .rm8imm8 _ imm => imm.setWidth w
  | .rmimm _ imm => imm.setWidth w
  | .rmsimm8 _ imm => imm.signExtend w

/-- The instruction of an operation and a form: 49 rows of the opcode table. -/
def BinOp.instr : BinOp → ToForm → Instr
  | .add, .rm8r8 rm r => .addRm8R8 rm r
  | .add, .rmr rm r => .addRmR rm r
  | .add, .al v => .addAlImm8 v
  | .add, .eax v => .addEaxImm v
  | .add, .rm8imm8 rm v => .addRm8Imm8 rm v
  | .add, .rmimm rm v => .addRmImm rm v
  | .add, .rmsimm8 rm v => .addRmSImm8 rm v
  | .or, .rm8r8 rm r => .orRm8R8 rm r
  | .or, .rmr rm r => .orRmR rm r
  | .or, .al v => .orAlImm8 v
  | .or, .eax v => .orEaxImm v
  | .or, .rm8imm8 rm v => .orRm8Imm8 rm v
  | .or, .rmimm rm v => .orRmImm rm v
  | .or, .rmsimm8 rm v => .orRmSImm8 rm v
  | .adc, .rm8r8 rm r => .adcRm8R8 rm r
  | .adc, .rmr rm r => .adcRmR rm r
  | .adc, .al v => .adcAlImm8 v
  | .adc, .eax v => .adcEaxImm v
  | .adc, .rm8imm8 rm v => .adcRm8Imm8 rm v
  | .adc, .rmimm rm v => .adcRmImm rm v
  | .adc, .rmsimm8 rm v => .adcRmSImm8 rm v
  | .sbb, .rm8r8 rm r => .sbbRm8R8 rm r
  | .sbb, .rmr rm r => .sbbRmR rm r
  | .sbb, .al v => .sbbAlImm8 v
  | .sbb, .eax v => .sbbEaxImm v
  | .sbb, .rm8imm8 rm v => .sbbRm8Imm8 rm v
  | .sbb, .rmimm rm v => .sbbRmImm rm v
  | .sbb, .rmsimm8 rm v => .sbbRmSImm8 rm v
  | .and, .rm8r8 rm r => .andRm8R8 rm r
  | .and, .rmr rm r => .andRmR rm r
  | .and, .al v => .andAlImm8 v
  | .and, .eax v => .andEaxImm v
  | .and, .rm8imm8 rm v => .andRm8Imm8 rm v
  | .and, .rmimm rm v => .andRmImm rm v
  | .and, .rmsimm8 rm v => .andRmSImm8 rm v
  | .sub, .rm8r8 rm r => .subRm8R8 rm r
  | .sub, .rmr rm r => .subRmR rm r
  | .sub, .al v => .subAlImm8 v
  | .sub, .eax v => .subEaxImm v
  | .sub, .rm8imm8 rm v => .subRm8Imm8 rm v
  | .sub, .rmimm rm v => .subRmImm rm v
  | .sub, .rmsimm8 rm v => .subRmSImm8 rm v
  | .xor, .rm8r8 rm r => .xorRm8R8 rm r
  | .xor, .rmr rm r => .xorRmR rm r
  | .xor, .al v => .xorAlImm8 v
  | .xor, .eax v => .xorEaxImm v
  | .xor, .rm8imm8 rm v => .xorRm8Imm8 rm v
  | .xor, .rmimm rm v => .xorRmImm rm v
  | .xor, .rmsimm8 rm v => .xorRmSImm8 rm v

/-- CMP in the forms of R550 with an r/m or accumulator "destination" (R557). -/
def cmpInstr : ToForm → Instr
  | .rm8r8 rm r => .cmpRm8R8 rm r
  | .rmr rm r => .cmpRmR rm r
  | .al v => .cmpAlImm8 v
  | .eax v => .cmpEaxImm v
  | .rm8imm8 rm v => .cmpRm8Imm8 rm v
  | .rmimm rm v => .cmpRmImm rm v
  | .rmsimm8 rm v => .cmpRmSImm8 rm v

/-- TEST (42_logical_shift_bit.md R625): the forms of CMP but the sign-extended one. -/
def testInstr : ToForm → Option Instr
  | .rm8r8 rm r => some (.testRm8R8 rm r)
  | .rmr rm r => some (.testRmR rm r)
  | .al v => some (.testAlImm8 v)
  | .eax v => some (.testEaxImm v)
  | .rm8imm8 rm v => some (.testRm8Imm8 rm v)
  | .rmimm rm v => some (.testRmImm rm v)
  | .rmsimm8 _ _ => none

/-- The forms whose destination is the register of ModR/M.reg: byte or `os` (R550). -/
def BinOp.fromInstr (o : BinOp) (byte : Bool) (rm : RM) (r : Reg) : Instr :=
  match o, byte with
  | .add, true => .addR8Rm8 rm r
  | .add, false => .addRRm rm r
  | .or, true => .orR8Rm8 rm r
  | .or, false => .orRRm rm r
  | .adc, true => .adcR8Rm8 rm r
  | .adc, false => .adcRRm rm r
  | .sbb, true => .sbbR8Rm8 rm r
  | .sbb, false => .sbbRRm rm r
  | .and, true => .andR8Rm8 rm r
  | .and, false => .andRRm rm r
  | .sub, true => .subR8Rm8 rm r
  | .sub, false => .subRRm rm r
  | .xor, true => .xorR8Rm8 rm r
  | .xor, false => .xorRRm rm r

/-- Byte or `os` (R500). -/
def width (byte : Bool) (s : State) : Nat := if byte then 8 else s.os.bits

/-- The one-operand read-modify-write operations. -/
inductive UnOp where
  | inc | dec | neg | not
  deriving DecidableEq, Repr

/-- The instruction of a one-operand operation. -/
def UnOp.instr (o : UnOp) (byte : Bool) (rm : RM) : Instr :=
  match o, byte with
  | .inc, true => .incRm8 rm
  | .inc, false => .incRm rm
  | .dec, true => .decRm8 rm
  | .dec, false => .decRm rm
  | .neg, true => .negRm8 rm
  | .neg, false => .negRm rm
  | .not, true => .notRm8 rm
  | .not, false => .notRm rm

/-- Its result (R554, R556, R558, R624). -/
def UnOp.result (o : UnOp) {w : Nat} (d : BitVec w) : BitVec w :=
  match o with
  | .inc => d + 1
  | .dec => d - 1
  | .neg => 0 - d
  | .not => ~~~d

/-- Its flags: INC and DEC leave CF, NOT leaves all. -/
def UnOp.flags (o : UnOp) {w : Nat} (f : Flags) (d : BitVec w) : Flags :=
  match o with
  | .inc => { f.add d 1 false with cf := f.cf }
  | .dec => { f.sub d 1 false with cf := f.cf }
  | .neg => f.sub 0 d false
  | .not => f

/-- The shifts and rotates of group 2 (42_logical_shift_bit.md R630). -/
inductive ShOp where
  | rol | ror | rcl | rcr | shl | shr | sar
  deriving DecidableEq, Repr

/-- The instruction of a shift and a count: 42 rows of the opcode table. -/
def ShOp.instr (o : ShOp) (byte : Bool) (rm : RM) (k : Count) : Instr :=
  match o, byte, k with
  | .rol, true, .one => .rolRm8One rm
  | .rol, true, .cl => .rolRm8Cl rm
  | .rol, true, .imm v => .rolRm8Imm8 rm v
  | .rol, false, .one => .rolRmOne rm
  | .rol, false, .cl => .rolRmCl rm
  | .rol, false, .imm v => .rolRmImm8 rm v
  | .ror, true, .one => .rorRm8One rm
  | .ror, true, .cl => .rorRm8Cl rm
  | .ror, true, .imm v => .rorRm8Imm8 rm v
  | .ror, false, .one => .rorRmOne rm
  | .ror, false, .cl => .rorRmCl rm
  | .ror, false, .imm v => .rorRmImm8 rm v
  | .rcl, true, .one => .rclRm8One rm
  | .rcl, true, .cl => .rclRm8Cl rm
  | .rcl, true, .imm v => .rclRm8Imm8 rm v
  | .rcl, false, .one => .rclRmOne rm
  | .rcl, false, .cl => .rclRmCl rm
  | .rcl, false, .imm v => .rclRmImm8 rm v
  | .rcr, true, .one => .rcrRm8One rm
  | .rcr, true, .cl => .rcrRm8Cl rm
  | .rcr, true, .imm v => .rcrRm8Imm8 rm v
  | .rcr, false, .one => .rcrRmOne rm
  | .rcr, false, .cl => .rcrRmCl rm
  | .rcr, false, .imm v => .rcrRmImm8 rm v
  | .shl, true, .one => .shlRm8One rm
  | .shl, true, .cl => .shlRm8Cl rm
  | .shl, true, .imm v => .shlRm8Imm8 rm v
  | .shl, false, .one => .shlRmOne rm
  | .shl, false, .cl => .shlRmCl rm
  | .shl, false, .imm v => .shlRmImm8 rm v
  | .shr, true, .one => .shrRm8One rm
  | .shr, true, .cl => .shrRm8Cl rm
  | .shr, true, .imm v => .shrRm8Imm8 rm v
  | .shr, false, .one => .shrRmOne rm
  | .shr, false, .cl => .shrRmCl rm
  | .shr, false, .imm v => .shrRmImm8 rm v
  | .sar, true, .one => .sarRm8One rm
  | .sar, true, .cl => .sarRm8Cl rm
  | .sar, true, .imm v => .sarRm8Imm8 rm v
  | .sar, false, .one => .sarRmOne rm
  | .sar, false, .cl => .sarRmCl rm
  | .sar, false, .imm v => .sarRmImm8 rm v

/-- One bit position of a shift or rotate: the operand and CF after it ("each bit which exits ...", R631 to R639). -/
def ShOp.once (o : ShOp) {w : Nat} (x : BitVec w × Bool) : BitVec w × Bool :=
  let b (c : Bool) (i : Nat) : BitVec w := if c then 1#w <<< i else 0
  match o with
  | .rol => ((x.1 <<< 1) ||| b x.1.msb 0, x.1.msb)
  | .ror => ((x.1 >>> 1) ||| b (x.1.getLsbD 0) (w - 1), x.1.getLsbD 0)
  | .rcl => ((x.1 <<< 1) ||| b x.2 0, x.1.msb)
  | .rcr => ((x.1 >>> 1) ||| b x.2 (w - 1), x.1.getLsbD 0)
  | .shl => (x.1 <<< 1, x.1.msb)
  | .shr => (x.1 >>> 1, x.1.getLsbD 0)
  | .sar => (x.1.sshiftRight 1, x.1.getLsbD 0)

/-- `c` bit positions, one after the other. -/
def ShOp.times (o : ShOp) {w : Nat} : Nat → BitVec w × Bool → BitVec w × Bool
  | 0, x => x
  | c + 1, x => o.times c (o.once x)

/-- A rotate, as opposed to a shift. -/
def ShOp.isRotate : ShOp → Bool
  | .rol => true
  | .ror => true
  | .rcl => true
  | .rcr => true
  | _ => false

/-- `f'` is what the flags `f` become: `r` is the result, `cf` the last bit out, `d` the operand before, `c` the count. OF is stated for a
count of 1 (the sign changed), CF of a shift for a count below the width; SF, ZF, PF by shifts only; AF of a shift is open. -/
def ShOp.flags (o : ShOp) {w : Nat} (f : Flags) (d r : BitVec w) (c : Nat) (cf : Bool) (f' : Flags) : Prop :=
  (c = 1 → f'.of = (d.msb != r.msb)) ∧
  (o.isRotate ∨ c < w → f'.cf = cf) ∧
  (if o.isRotate then f' = { f with cf := f'.cf, of := f'.of } else f' = { f.szp r with cf := f'.cf, of := f'.of, af := f'.af })

/-- The double shifts (R634, R635): four rows of the opcode table. -/
def doubleInstr (left : Bool) (rm : RM) (r : Reg) (k : Count) : Option Instr :=
  match left, k with
  | true, .cl => some (.shldRmRCl rm r)
  | true, .imm v => some (.shldRmRImm8 rm r v)
  | false, .cl => some (.shrdRmRCl rm r)
  | false, .imm v => some (.shrdRmRImm8 rm r v)
  | _, .one => none

/-- The bit instructions (R661 to R664). -/
inductive BtOp where
  | bt | bts | btr | btc
  deriving DecidableEq, Repr

/-- With the bit offset in a register. -/
def BtOp.instrR : BtOp → RM → Reg → Instr
  | .bt, rm, r => .btRmR rm r
  | .bts, rm, r => .btsRmR rm r
  | .btr, rm, r => .btrRmR rm r
  | .btc, rm, r => .btcRmR rm r

/-- With an immediate bit offset. -/
def BtOp.instrI : BtOp → RM → BitVec 8 → Instr
  | .bt, rm, v => .btRmImm8 rm v
  | .bts, rm, v => .btsRmImm8 rm v
  | .btr, rm, v => .btrRmImm8 rm v
  | .btc, rm, v => .btcRmImm8 rm v

/-- The new value of the selected bit (Table 4-2). -/
def BtOp.newBit (o : BtOp) (b : Bool) : Bool :=
  match o with
  | .bt => b
  | .bts => true
  | .btr => false
  | .btc => !b

/-- The access that a bit instruction makes: BT only reads. -/
def BtOp.kind : BtOp → Kind
  | .bt => .r
  | _ => .rw

/-- `t` follows from `u` by writing the operand of `w` bits at `p` with bit `i` replaced as `o` says and the other bits as in `d`; BT writes nothing. -/
def BtOp.Wrote (o : BtOp) (p : Place) (w : Nat) (d : BitVec w) (i : Nat) (u t : State) : Prop :=
  if o = .bt then t = u
  else ∃ v : BitVec w, (∀ j, j < w → v.getLsbD j = if j = i then o.newBit (d.getLsbD i) else d.getLsbD j) ∧ PutAt p w v u t

/-- Only the flags that R661 leaves open, and CF, differ. -/
def onlyStatus (f f' : Flags) : Prop :=
  f' = { f with cf := f'.cf, pf := f'.pf, af := f'.af, zf := f'.zf, sf := f'.sf, of := f'.of }

/-- The instructions that push one item: its value at width `w` (40_data_movement.md R503, R504, 45_flag_segment_misc.md R817). PUSH of an r/m
operand in memory is apart. -/
def pushes (s : State) : List (Instr × Word) :=
  [(.pushEs, s.segs.es.sel.setWidth 32), (.pushCs, s.segs.cs.sel.setWidth 32), (.pushSs, s.segs.ss.sel.setWidth 32),
   (.pushDs, s.segs.ds.sel.setWidth 32), (.pushFs, s.segs.fs.sel.setWidth 32), (.pushGs, s.segs.gs.sel.setWidth 32)]

/-- The byte registers and a general register that PUSHA saves, in its order (R506), at width `w`. -/
def pushaValues (w : Nat) (g : GRegs) : List Nat :=
  ([.eax, .ecx, .edx, .ebx, .esp, .ebp, .esi, .edi] : List Reg).map fun r => (g.read w r).toNat

/-- The segment register that a POP Sreg or a far pointer load names. -/
def popSegInstr : SReg → Option Instr
  | .es => some .popEs
  | .cs => none
  | .ss => some .popSs
  | .ds => some .popDs
  | .fs => some .popFs
  | .gs => some .popGs

/-- LDS, LES, LSS, LFS, LGS (R520). -/
def loadFarInstr (sr : SReg) (m : MemOp) (r : Reg) : Option Instr :=
  match sr with
  | .es => some (.lesRFar m r)
  | .cs => none
  | .ss => some (.lssRFar m r)
  | .ds => some (.ldsRFar m r)
  | .fs => some (.lfsRFar m r)
  | .gs => some (.lgsRFar m r)

/-- The latch remembers a load of SS that inhibits events for one instruction (60_exceptions.md R1206). -/
def shadowed (sr : SReg) (t : State) : State :=
  { t with cur := { t.cur with setSsShadow := t.cur.setSsShadow || sr == .ss } }

/-- A near target: cut to the operand size (43_control_transfer.md R700). -/
def nearTarget (s : State) (t : Word) : Word := if s.os = .s16 then t &&& 0xFFFF else t

/-- Control passes to offset `t` in `u` if the code segment reaches it; otherwise the instruction faults with #GP(0) (R700). -/
def Transfers (i : Instr) (s u : State) (t : Word) : Prop :=
  (t.toNat ≤ s.segs.cs.limit.toNat → Ran i s { u with eip := t }) ∧ (s.segs.cs.limit.toNat < t.toNat → Faults i s gp0 u)

/-- The displacement of a relative transfer of operand size, sign-extended (R701). -/
def osDisp (s : State) (rel : BitVec 32) : Word := if s.os = .s16 then (rel.setWidth 16).signExtend 32 else rel

/-- The condition transfers: instruction, whether it is taken, displacement (R711, R712). -/
def condJumps (s : State) (cc : Cond) (r8 : BitVec 8) (rel : BitVec 32) : List (Instr × Bool × Word) :=
  [(.jccRel8 cc r8, Cond.holds s.flags cc, r8.signExtend 32), (.jccRel cc rel, Cond.holds s.flags cc, osDisp s rel),
   (.jcxzRel8 r8, s.counter == 0, r8.signExtend 32)]

/-- LOOP, LOOPE, LOOPNE with the test each makes on ZF (R713 to R715). -/
def loops (s : State) (r8 : BitVec 8) : List (Instr × Bool) :=
  [(.loopRel8 r8, true), (.loopeRel8 r8, s.flags.zf), (.loopneRel8 r8, !s.flags.zf)]

/-- A segment register of virtual-8086 mode (62_v86.md R1402). -/
def v86Seg (sel : Half) : Seg :=
  { sel := sel, base := BitVec.ofNat 32 (16 * sel.toNat), limit := 0xFFFF, usable := true
    attr := { typ := 3, s := true, dpl := 3, p := true, avl := false, db := false, g := false } }

/-- CS after a far transfer to `sel` outside protected mode (21_segmentation.md R232, 62_v86.md R1402). -/
def realCs (s : State) (sel : Half) : Seg :=
  if s.pe && s.flags.vm then v86Seg sel
  else { s.segs.cs with sel := sel, base := BitVec.ofNat 32 (16 * sel.toNat), usable := true }

/-- The greatest offset a far transfer may name outside protected mode (R704; in SMM the CS limit, 63_smm.md R1456). -/
def realBound (s : State) : Nat := if s.inSmm then s.segs.cs.limit.toNat else 0xFFFF

/-- `u` with CS:EIP replaced. -/
def withCs (u : State) (cs : Seg) (eip : Word) : State := { u with segs := { u.segs with cs := cs }, eip := eip }

/-- A delivery has begun: the processor runs, a debug exception notes its causes and does not recur any more, NMI blocks further NMIs
(60_exceptions.md R1204, R1232, 64_debug.md R1491). -/
def begun (ev : Event) (s : State) : State :=
  let s : State := { s with run := .running }
  let s := if ev.vec = 1 ∧ ev.kind = .exc then s.noteDebug (ev.dbg.getD .none) else s
  if ev.kind = .nmi then { s with nmiBlocked := true } else s

/-- Real-address mode can deliver `ev` in `s`: there is no paging, the vector lies in the interrupt table, and the three stack slots can be written
(R1261). `s1` is the state when they have been found. -/
def RealReady (ev : Event) (s : State) (slots : List (List Word)) (s1 : State) : Prop :=
  s.pe = false ∧ s.pg = false ∧ (s.inSmm = true → s.smm.idtLoaded = true) ∧ 4 * ev.vec + 3 ≤ s.idtr.limit.toNat ∧
  pushSlots s.ss 2 s.spOff 3 (begun ev s) = .ok slots s1

/-- The outcome `o` is the state at the first instruction of the handler: FLAGS, CS and the return IP are on the stack, IF, TF and AC are
clear, RF too for INT n, INT 3 and INTO (64_debug.md R1488), CS:IP is the vector as the table holds it after the pushes (R1261). -/
def RealDelivered (o : Host.Outcome State Fault Refusal) (ev : Event) (s : State) (slots : List (List Word)) (s1 : State) : Prop :=
  ∃ u cs s2 ip s3, StoredAll slots [s.flags.word.toNat, s.segs.cs.sel.toNat, ev.retEip.toNat] s1 u ∧
    sysRead16 (s.idtr.base + BitVec.ofNat 32 (4 * ev.vec) + 2) (withSp u (s.spOff - 6)) = .ok cs s2 ∧
    sysRead16 (s.idtr.base + BitVec.ofNat 32 (4 * ev.vec)) s2 = .ok ip s3 ∧
    o = .next (State.delivered { withCs s3
      { s3.segs.cs with sel := cs, base := BitVec.ofNat 32 (16 * cs.toNat), usable := true } (ip.setWidth 32) with
        flags := { s3.flags with ifl := false, tf := false, ac := false, rf := s3.flags.rf && ev.kind != .soft } })

/-- The event of a software interrupt executed in `s` (43_control_transfer.md R735). -/
def softEvent (s : State) (v : Nat) : Event :=
  { kind := .soft, vec := v, code := none, retEip := s.enter.eip, faultEip := s.eip, dbg := none }

/-- The software interrupts: instruction and vector. -/
def softInstr : Option (BitVec 8) → Instr × Nat
  | some v => (.intImm8 v, v.toNat)
  | none => (.int3, 3)

/-- The descriptor `d` is that of a code segment, present or not (21_segmentation.md R237, R239). -/
def codeType (d : Desc) : Prop := d.hi.getLsbD 12 = true ∧ d.hi.getLsbD 11 = true

/-- The descriptor `d` is that of a writable data segment, present or not. -/
def stackType (d : Desc) : Prop := d.hi.getLsbD 12 = true ∧ d.hi.getLsbD 11 = false ∧ d.hi.getLsbD 9 = true

/-- The descriptor `d` is that of a present code segment. -/
def codeDesc (d : Desc) : Prop := d.hi.getLsbD 15 = true ∧ codeType d

/-- The descriptor `d` is that of a present writable data segment. -/
def stackDesc (d : Desc) : Prop := d.hi.getLsbD 15 = true ∧ stackType d

/-- The descriptor with its Accessed bit set (R241). -/
def marked (d : Desc) : Desc := { d with hi := d.hi ||| 0x100 }

/-- `ps` is where the Accessed bit of `d` has to be written: nowhere if it is set, otherwise at the bytes of its upper doubleword, checked in `u`
for a write at supervisor level (R241, 22_paging.md R268). -/
def accessedAt (d : Desc) (u : State) (ps : List Word) (t : State) : Prop :=
  if d.hi.getLsbD 8 = true then ps = [] ∧ t = u
  else linAddrs (d.addr + 4) 4 { write := true, user := false, fetch := false } u = .ok ps t

/-- The register contents that a descriptor gives under a selector. -/
def segOf (d : Desc) (sel : Half) : Seg := { sel := sel, base := d.base, limit := d.limit, attr := d.attr, usable := true }

/-- `sel` is not null and names in its table the descriptor `d`, which is read in `u` (21_segmentation.md R235, R236, R244). -/
def Named (s : State) (sel : Half) (u : State) (d : Desc) (t : State) : Prop :=
  4 ≤ sel.toNat ∧ inTable s sel = true ∧ readDescAt (descLinear s sel) u = .ok d t

/-- The selector with its RPL replaced (R235). -/
def atLevel (sel : Half) (pl : BitVec 2) : Half := BitVec.ofNat 16 (sel.toNat / 4 * 4 + pl.toNat)

/-- `#SS(0)`. -/
def ss0 : Exc := { vec := 12, code := some 0, dbg := none }

/-- A fault with a selector as its error code (60_exceptions.md R1220). -/
def selFault (vec : Nat) (sel : Half) : Exc := { vec := vec, code := some (BitVec.ofNat 32 (sel.toNat / 4 * 4)), dbg := none }

/-- `n` bytes from the top of the stack lie within its segment (23_protection.md R325, R330). -/
def frameIn (s : State) (n : Nat) : Prop :=
  (s.ss = .s16 → s.spOff.toNat + n ≤ 2 ^ 16) ∧
  if s.segs.ss.attr.typ.getLsbD 3 = false ∧ s.segs.ss.attr.typ.getLsbD 2 = true then
    s.segs.ss.limit.toNat < s.spOff.toNat ∧ s.spOff.toNat + n ≤ if s.segs.ss.attr.db then 2 ^ 32 else 2 ^ 16
  else s.spOff.toNat + n ≤ s.segs.ss.limit.toNat + 1

/-- The far JMP `j` and the far CALL `c` name `sel:off`; a pointer in memory has been read when `t` is reached (43_control_transfer.md R704,
R705). -/
def FarPointer (s : State) (j c : Instr) (off : Word) (sel : Half) (t : State) : Prop :=
  (∃ o, j = .jmpPtr o sel ∧ c = .callPtr o sel ∧ off = (if s.os = .s16 then o &&& 0xFFFF else o) ∧ t = s.enter) ∨
  ∃ m v w, j = .jmpFar m ∧ c = .callFar m ∧ ReadTwice m s.os.bytes 2 s s.enter v w t ∧ off = BitVec.ofNat 32 v ∧ sel = BitVec.ofNat 16 w

/-- The code segment `sel` of a transfer, looked up in `u`, is refused with `e`, met at `t`: `sel` is null, lies outside its table, names no code
segment, or one that the transfer may not enter (`may`), or one that it may but that is not present (23_protection.md R312, R314, R325,
60_exceptions.md R1213). -/
def CodeRefused (may : Desc → Prop) (s : State) (sel : Half) (u : State) (e : Exc) (t : State) : Prop :=
  (sel.toNat < 4 ∧ e = gp0 ∧ t = u) ∨ (4 ≤ sel.toNat ∧ inTable s sel = false ∧ e = selFault 13 sel ∧ t = u) ∨
  ∃ d, Named s sel u d t ∧
    ((¬ (codeType d ∧ may d) ∧ e = selFault 13 sel) ∨ (codeType d ∧ may d ∧ d.hi.getLsbD 15 = false ∧ e = selFault 11 sel))

/-- The same of the stack segment `sel` that a return to the outer level `pl` finds on the stack (R326). -/
def StackRefused (pl : Nat) (s : State) (sel : Half) (u : State) (e : Exc) (t : State) : Prop :=
  (sel.toNat < 4 ∧ e = gp0 ∧ t = u) ∨ (4 ≤ sel.toNat ∧ inTable s sel = false ∧ e = selFault 13 sel ∧ t = u) ∨
  ∃ d, Named s sel u d t ∧
    ((¬ stackType d ∧ e = selFault 13 sel) ∨ (stackType d ∧ d.hi.getLsbD 15 = false ∧ e = selFault 12 sel) ∨
      (stackDesc d ∧ ¬ (d.dpl.toNat = pl ∧ sel.toNat % 4 = pl) ∧ e = selFault 13 sel))

/-- The size of a stack pointer in the current TSS (23_protection.md R316). -/
def pointerSize (u : State) : Nat := if u.tr.attr.typ.getLsbD 3 then 4 else 2

/-- Where the stack pointer of level `pl` lies in the current TSS; the selector is above it (R316). -/
def pointerAt (u : State) (pl : BitVec 2) : Nat := pointerSize u * (1 + 2 * pl.toNat)

/-- The stack pointer of level `pl` was read from the current TSS of `u`, as the last computation before `t`: selector and offset (R316). -/
def PointerRead (pl : BitVec 2) (u : State) (sel : Half) (sp : Word) (t : State) : Prop :=
  let n := pointerSize u
  pointerAt u pl + n + 1 ≤ u.tr.limit.toNat ∧
  ∃ ps v w u1 u2, tssAddrs (u.tr.base + BitVec.ofNat 32 (pointerAt u pl)) (n + 2) { write := false, user := false, fetch := false } u = .ok ps u1 ∧
    load (ps.take n) u1 = .ok v u2 ∧ load (ps.drop n) u2 = .ok w t ∧ sel = BitVec.ofNat 16 w ∧ sp = BitVec.ofNat 32 v

/-- The stack of level `pl` that the current TSS names, read in `u`: its selector, its descriptor and its pointer (R316). -/
def InnerStack (pl : BitVec 2) (u : State) (d : Desc) (sel : Half) (sp : Word) (t : State) : Prop :=
  ∃ u3, PointerRead pl u sel sp u3 ∧ Named u sel u3 d t ∧ sel.toNat % 4 = pl.toNat ∧ d.dpl = pl ∧ stackDesc d

/-- The stack of level `pl` that the current TSS of `u` names is refused with `e`, met at `t`: the pointer lies beyond the TSS, or its selector is null,
lies outside its table, or names no writable data segment of that level, or one that is not present (R316). -/
def InnerRefused (pl : BitVec 2) (u : State) (e : Exc) (t : State) : Prop :=
  (u.tr.limit.toNat < pointerAt u pl + pointerSize u + 1 ∧ e = selFault 10 u.tr.sel ∧ t = u) ∨
  ∃ sel sp u3, PointerRead pl u sel sp u3 ∧
    (((sel.toNat < 4 ∨ inTable u sel = false) ∧ e = selFault 10 sel ∧ t = u3) ∨
      ∃ d, Named u sel u3 d t ∧
        let may : Prop := sel.toNat % 4 = pl.toNat ∧ d.dpl = pl ∧ stackType d
        (¬ may ∧ e = selFault 10 sel) ∨ (may ∧ d.hi.getLsbD 15 = false ∧ e = selFault 12 sel))

/-- `u` on the stack and at the level `pl`. -/
def switched (pl : BitVec 2) (d : Desc) (sel : Half) (sp : Word) (u : State) : State :=
  { u with segs := { u.segs with ss := segOf (marked d) sel }, regs := { u.regs with esp := sp }, cpl := pl }

/-- A data segment register after a return to level `pl`: one that names a more privileged segment is cleared (R326). -/
def outwardSeg (pl : Nat) (g : Seg) : Seg :=
  if g.usable = true ∧ g.attr.s = true ∧ ¬ (g.attr.typ.getLsbD 3 = true ∧ g.attr.typ.getLsbD 2 = true) ∧ g.attr.dpl.toNat < pl then
    { g with sel := 0, usable := false }
  else g

/-- `u` at the outer level of the code selector `sel`, with its stack (R326). -/
def outward (u : State) (d : Desc) (sel : Half) (eip : Word) (od : Desc) (osel : Half) (esp : Word) : State :=
  let f := outwardSeg (sel.toNat % 4)
  { u with
    cpl := BitVec.ofNat 2 sel.toNat, eip := eip, regs := { u.regs with esp := esp }
    segs := { cs := segOf (marked d) sel, ss := segOf (marked od) osel, ds := f u.segs.ds, es := f u.segs.es, fs := f u.segs.fs, gs := f u.segs.gs } }

/-- The levels let a return from `s` enter the code segment `sel` (R325). -/
def outwardTo (s : State) (sel : Half) (d : Desc) : Prop :=
  s.cpl.toNat ≤ sel.toNat % 4 ∧ if d.hi.getLsbD 10 then d.dpl.toNat ≤ sel.toNat % 4 else d.dpl.toNat = sel.toNat % 4

/-- The code segment `sel` may be returned to from `s` (R325). -/
def returnsTo (s : State) (sel : Half) (d : Desc) : Prop := codeDesc d ∧ outwardTo s sel d

/-- The levels let a far JMP or CALL from `s` enter the code segment `sel` (R312). -/
def directTo (s : State) (sel : Half) (d : Desc) : Prop :=
  if d.hi.getLsbD 10 then d.dpl.toNat ≤ s.cpl.toNat else d.dpl = s.cpl ∧ sel.toNat % 4 ≤ s.cpl.toNat

/-- The levels let a far JMP (a far CALL if `call`) from `s` enter the code segment of a call gate (R314): a CALL may go inward. -/
def gateTo (call : Bool) (s : State) (d : Desc) : Prop :=
  if call = false ∧ d.hi.getLsbD 10 = false then d.dpl = s.cpl else d.dpl.toNat ≤ s.cpl.toNat

/-- EFLAGS after IRET in protected mode took the image `v` (43_control_transfer.md R730). -/
def flagsReturned (s : State) (v : Word) : Flags :=
  let b := v.getLsbD
  let wide : Bool := s.os == .s32
  { s.flags with
    cf := b 0, pf := b 2, af := b 4, zf := b 6, sf := b 7, tf := b 8, df := b 10, of := b 11, nt := b 14
    ifl := if s.cpl.toNat ≤ s.flags.iopl.toNat then b 9 else s.flags.ifl
    iopl := if s.cpl = 0 then v.extractLsb' 12 2 else s.flags.iopl
    rf := if wide then b 16 else s.flags.rf, ac := if wide then b 18 else s.flags.ac, id := if wide then b 21 else s.flags.id
    vif := if wide && s.cpl == 0 then b 19 else s.flags.vif, vip := if wide && s.cpl == 0 then b 20 else s.flags.vip }


/-- Protected or virtual-8086 mode without paging, all addresses RAM, memory canonical. -/
def flatRam (s : State) : Prop := s.pe = true ∧ s.pg = false ∧ s.memMap = [] ∧ Memory.wf s.mem = true

/-- The little-endian number in `n` bytes of memory. -/
def memNat (s : State) (a : Word) (n : Nat) : Nat :=
  ((List.range n).map fun j => (byteAt s (a + BitVec.ofNat 32 j).toNat).toNat * 256 ^ j).sum

/-- The fields of the old task's TSS from EIP up (61_tasks.md R1310, R1312, R1328). -/
def oldFields (s : State) (k : Switch) (ret : Word) : List Nat :=
  [ret.toNat, (if k = .iret then { s.flags with nt := false } else s.flags).word.toNat] ++
  ([.eax, .ecx, .edx, .ebx, .esp, .ebp, .esi, .edi] : List Reg).map (fun r => (s.regs.get r).toNat) ++
  ((if s.tr.attr.typ.getLsbD 3 then [.es, .cs, .ss, .ds, .fs, .gs] else [.es, .cs, .ss, .ds] : List SReg).map fun g => (s.segs.get g).sel.toNat)

/-- `v` is `s` after a task switch saved the old task and moved the Busy bits: the old TSS takes the old task's registers, the old descriptor's Busy
bit goes on JMP and IRET, unless TR held a null selector, the new one's is set on CALL, JMP and an event, each in the doubleword that memory holds
then (R1328, R1329). -/
def TaskSaved (s : State) (k : Switch) (ret : Word) (d : Desc) (v : State) : Prop :=
  let wide := s.tr.attr.typ.getLsbD 3
  let n := if wide then 4 else 2
  let base := s.tr.base + if wide then 0x20 else 0x0E
  let fields := oldFields s k ret
  let oldHi := s.gdtr.base + BitVec.ofNat 32 (s.tr.sel.toNat / 8 * 8) + 4
  ∃ x y, StoredAll ((List.range fields.length).map fun i => consecutive (base + BitVec.ofNat 32 (n * i)) n) fields { s with draws := v.draws } x ∧
    (if (k = .jmp ∨ k = .iret) ∧ 4 ≤ s.tr.sel.toNat then
      Stored (consecutive oldHi 4) (BitVec.ofNat 32 (memNat x oldHi 4) &&& 0xFFFFFDFF).toNat x y else y = x) ∧
    if k = .iret then v = y else Stored (consecutive (d.addr + 4) 4) (BitVec.ofNat 32 (memNat y (d.addr + 4) 4) ||| 0x200).toNat y v

/-- What the registers of `t` have from the new task's TSS, as memory holds it in `v` (R1310, R1312, R1330). ESP is apart where an error code is
pushed. -/
def TaskLoaded (s v : State) (d : Desc) (k : Switch) (err : Option Word) (t : State) : Prop :=
  let wide := d.typ.getLsbD 3
  let n := if wide then 4 else 2
  let f (off : Nat) : Nat := memNat v (d.base + BitVec.ofNat 32 off) n
  let h (off : Nat) : Half := BitVec.ofNat 16 (memNat v (d.base + BitVec.ofNat 32 off) 2)
  let fl := Flags.ofWord (BitVec.ofNat 32 (f (if wide then 0x24 else 0x10)))
  let nt := fl.nt || k == .call || k == .intr
  t.eip.toNat = f (if wide then 0x20 else 0x0E) ∧ t.flags = { fl with nt := nt } ∧
  (∀ r : Reg, r ≠ .esp ∨ err = none →
    let v := f ((if wide then 0x28 else 0x12) + n * r.num.toNat)
    if wide then (t.regs.get r).toNat = v
    else (t.regs.get r).toNat % 2 ^ 16 = v ∧ (t.regs.get r).toNat / 2 ^ 16 = (s.regs.get r).toNat / 2 ^ 16) ∧
  (∀ p ∈ [(SReg.es, 0), (.cs, 1), (.ss, 2), (.ds, 3)], (t.segs.get p.1).sel = h ((if wide then 0x48 else 0x22) + n * p.2)) ∧
  (∀ p ∈ [(SReg.fs, 0x58), (.gs, 0x5C)], (t.segs.get p.1).sel = if wide then h p.2 else 0) ∧
  t.ldtr.sel = h (if wide then 0x60 else 0x2A) ∧ t.cur.bt = (wide && (h 0x64).getLsbD 0) ∧
  t.cpl.toNat = if fl.vm then 3 else t.segs.cs.sel.toNat % 4

/-- (E)SI or (E)DI of `u` becomes what it was in `s` moved by `n` bytes, up or down by DF (44_string.md R761). -/
def stepIndex (s u : State) (r : Reg) (n : Nat) : State :=
  { u with regs := u.regs.write s.as.bits r (if s.flags.df then s.regs.read s.as.bits r - BitVec.ofNat s.as.bits n
    else s.regs.read s.as.bits r + BitVec.ofNat s.as.bits n) }

/-- The end of one iteration `u` of a string instruction that began in `s` (R760): without a repeat prefix nothing more; with one the counter
goes down, and unless it is 0 or (CMPS, SCAS) ZF ends the repetition, EIP goes back to the first prefix. -/
def iterEnd (scan late : Bool) (s u : State) : State :=
  match s.cur.rep with
  | none => u
  | some r =>
    let c : BitVec s.as.bits := s.regs.read s.as.bits .ecx - 1
    let v : State := { u with regs := u.regs.write s.as.bits .ecx c }
    if c = 0 ∨ (scan = true ∧ r = .rep ∧ u.flags.zf = false) ∨ (scan = true ∧ r = .repne ∧ u.flags.zf = true) then v
    else { v with eip := s.eip, cur := { v.cur with keepRf := true, defer := late } }

/-- The string instruction runs an iteration: no repeat prefix, or a counter that is not 0. -/
def iterates (s : State) : Prop := s.cur.rep = none ∨ s.counter ≠ 0

/-- The latch `c'` differs from `c` at most in the breakpoints matched. -/
def noted (c c' : Latch) : Prop := c' = { c with hits := c'.hits, trap := c'.trap }

/-- Breakpoint `j` watches one of the `n` units from `a` in a space of `size` units: its R/W field is one that `ok` names, and a unit lies in the
range of its address and LEN, which masks the low address bits; LEN = 10 matches nothing (64_debug.md R1483, R1486). -/
def watches (d : DbgRegs) (j size a n : Nat) (ok : Nat → Prop) : Prop :=
  let rw := d.dr7.toNat / 2 ^ (16 + 4 * j) % 4
  let len := d.dr7.toNat / 2 ^ (18 + 4 * j) % 4
  len ≠ 2 ∧ ok rw ∧ ∃ i, i < n ∧ (a + i) % size / (len + 1) = (d.addr j).toNat / (len + 1)

/-- Breakpoint `j` is enabled: Lj or Gj (R1483). -/
def breakOn (d : DbgRegs) (j : Nat) : Prop := d.dr7.getLsbD (2 * j) = true ∨ d.dr7.getLsbD (2 * j + 1) = true

/-- The latch `c'` is `c` after an access to `n` units from `a`: every breakpoint that watches them is noted, and that a trap is due if one of these
is enabled (R1484, R1486, R1489). -/
def breaksNoted (d : DbgRegs) (size a n : Nat) (ok : Nat → Prop) (c c' : Latch) : Prop :=
  noted c c' ∧ (∀ j, j < 4 → (c'.hits.getLsbD j = true ↔ c.hits.getLsbD j = true ∨ watches d j size a n ok)) ∧
  (c'.trap = true ↔ c.trap = true ∨ ∃ j, j < 4 ∧ watches d j size a n ok ∧ breakOn d j)

/-- The same for `n` ports from `port`: R/W = 10 with CR4.DE; past port FFFFH an access goes on at port 0 (R1486, decision D63). -/
def portBreaksNoted (s : State) (port : Half) (n : Nat) (c c' : Latch) : Prop :=
  breaksNoted s.dr (2 ^ 16) port.toNat n (fun rw => rw = 2 ∧ s.cr.cr4.getLsbD 3 = true) c c'

/-- `u` is `s` after `n` bytes were read from a port as `x`: the host's next value if it has one, otherwise any value (46_system_io.md R949). -/
def PortRead (port : Half) (n : Nat) (s : State) (x : Nat) (u : State) : Prop :=
  u = { s with inp := { s.inp with ports := s.inp.ports.tail }, bus := .ioRead port n x :: s.bus, draws := u.draws, cur := u.cur } ∧
  portBreaksNoted s port n s.cur u.cur ∧ x < 2 ^ (8 * n) ∧ ∀ v vs, s.inp.ports = v :: vs → x = v.toNat % 2 ^ (8 * n)

/-- `u` is `s` after the value `v` went to a port (R949). -/
def PortWrite (port : Half) (n v : Nat) (s u : State) : Prop :=
  u = { s with bus := .ioWrite port n v :: s.bus, cur := u.cur } ∧ portBreaksNoted s port n s.cur u.cur

/-- The state in which an I/O instruction begins: it is remembered for an SMI# at the next boundary (63_smm.md R1461). -/
def ioEnter (s : State) : State := { s.enter with lastIo := some s.eip }

/-- The six forms of IN: instruction, width, port. -/
def inForms (s : State) (imm : BitVec 8) : List (Instr × Bool × Half) :=
  [(.inAlImm8 imm, true, imm.setWidth 16), (.inEaxImm8 imm, false, imm.setWidth 16),
   (.inAlDx, true, s.regs.read 16 .edx), (.inEaxDx, false, s.regs.read 16 .edx)]

/-- The forms of OUT. -/
def outForms (s : State) (imm : BitVec 8) : List (Instr × Bool × Half) :=
  [(.outImm8Al imm, true, imm.setWidth 16), (.outImm8Eax imm, false, imm.setWidth 16),
   (.outDxAl, true, s.regs.read 16 .edx), (.outDxEax, false, s.regs.read 16 .edx)]

/-- The TLBs of `u` are emptied if `b` (22_paging.md R272). -/
def flushed (b : Bool) (u : State) : State := if b then { u with itlb := [], dtlb := [] } else u

/-- A descriptor may be probed by LAR, LSL, VERR and VERW at level `cpl` through `sel` (23_protection.md R345). -/
def probeable (s : State) (d : Desc) (sel : Half) : Prop :=
  (d.hi.getLsbD 12 = true ∧ d.hi.getLsbD 11 = true ∧ d.hi.getLsbD 10 = true) ∨ (s.cpl.toNat ≤ d.dpl.toNat ∧ sel.toNat % 4 ≤ d.dpl.toNat)

/-- The privileged instructions that fault with #GP(0) before anything else at another level than 0 (23_protection.md R340). -/
def privilegedInstr (i : Instr) : Prop :=
  i = .hlt ∨ i = .clts ∨ i = .invd ∨ i = .wbinvd ∨ i = .rdmsr ∨ i = .wrmsr ∨ (∃ rm, i = .lmswRm16 rm) ∨ (∃ m, i = .lgdtM m) ∨
  (∃ m, i = .lidtM m) ∨ (∃ m, i = .invlpgM m) ∨ (∃ n r, i = .movR32Cr n r) ∨ (∃ n r, i = .movCrR32 n r) ∨ (∃ n r, i = .movR32Dr n r) ∨
  (∃ n r, i = .movDrR32 n r)

/-- The level in force: 0 in real-address mode, 3 in virtual-8086 mode, otherwise CPL (23_protection.md R340). -/
def levelOf (s : State) : Nat := if s.pe then if s.flags.vm then 3 else s.cpl.toNat else 0

/-- An ESC instruction that waits runs in `s`: CR0.EM = CR0.TS = 0 and no numeric exception is pending, or CR0.NE = 0 and IGNNE# is active
(48_fpu_instructions.md R1100, 47_fpu_numerics.md R1061). -/
def fpuOn (s : State) : Prop := s.em = false ∧ s.tsFlag = false ∧ (s.fpu.sw.es = false ∨ (s.ne = false ∧ s.inp.ignne = true))

/-- The FPU with the pointers of an instruction without memory operand: the operand pointer is open (12_state_fpu.md R1010). -/
def regPtrs (s : State) (fds : Half) (fdp : Word) : Fpu :=
  { s.fpu with fcs := s.segs.cs.sel, fip := s.eip, fop := s.cur.fop, fds := fds, fdp := fdp }

/-- The state in which the memory operand of an ESC instruction is accessed: the pointers name the instruction and the operand. -/
def memStart (m : MemOp) (s : State) : State :=
  { s.enter with fpu := regPtrs s (s.segs.get (s.eaSeg m)).sel (s.eaOff m) }

/-- `f` follows from `f0`: `k` changes registers and tags, `fl` the status word, and ES says whether an unmasked exception flag is set
(R1101). -/
def Final (k : Fpu → Fpu) (fl : Fsw → Fsw) (f0 f : Fpu) : Prop :=
  let h : Fpu := { k f0 with sw := fl (k f0).sw }
  f = { h with sw := { h.sw with es := h.pendingEs } }

/-- The same with C0, C2 and C3 open (12_state_fpu.md R1005). -/
def Settled (k : Fpu → Fpu) (fl : Fsw → Fsw) (f0 f : Fpu) : Prop :=
  ∃ c0 c2 c3 : Bool, Final k (fun w => { fl w with c0 := c0, c2 := c2, c3 := c3 }) f0 f

/-- The flags that an operation raises; C1 tells the rounding with PE, and is `c` without (12_state_fpu.md R1005). -/
def raised (c : Bool) (r : Machine.Num) (w : Fsw) : Fsw :=
  { w with ie := w.ie || r.ie, de := w.de || r.de, ze := w.ze || r.ze, oe := w.oe || r.oe, ue := w.ue || r.ue, pe := w.pe || r.pe,
           c1 := if r.pe then r.c1 else c }

/-- The same for a store to memory. -/
def raisedBy (c : Bool) (r : Narrow) (w : Fsw) : Fsw :=
  { w with ie := w.ie || r.ie, de := w.de || r.de, oe := w.oe || r.oe, ue := w.ue || r.ue, pe := w.pe || r.pe,
           c1 := if r.pe then r.c1 else c }

/-- The flags of a stack fault: IE, SF, and C1 for overflow (47_fpu_numerics.md R1062). -/
def stackFlags (overflow : Bool) (w : Fsw) : Fsw := { w with ie := true, sf := true, c1 := overflow }

/-- What happens to the registers if there is a result. -/
def withResult (res : Option Ext) (k : Ext → Fpu → Fpu) (f : Fpu) : Fpu :=
  match res with
  | some v => k v f
  | none => f

/-- The masked response `k` to an invalid operation, nothing if IM = 0. -/
def ifMasked (cw : Half) (k : Fpu → Fpu) (f : Fpu) : Fpu := if cw.getLsbD 0 then k f else f

/-- The numeric value of a finite extended real: `(-1)^sign * significand * 2^(exponent - 16383 - 63)`, denormals with the least exponent
(12_state_fpu.md R1015). -/
def finiteValue (x : Ext) : ℚ :=
  (if Ext.neg x then -1 else 1) * (Ext.sig x).toNat * (2 : ℚ) ^ ((max (Ext.be x) 1 : Nat) - 16446 : Int)

/-- Its real number. -/
def realOf (x : Ext) : ℝ := (finiteValue x : ℝ)

/-- Zero, denormal or normal. -/
def finiteCls (x : Ext) : Prop := Ext.cls x = .zero ∨ Ext.cls x = .denormal ∨ Ext.cls x = .normal

/-- `v` is the multiple of `u` that the number `e` is rounded to: to nearest, ties to the even multiple, or to the side that RC says
(47_fpu_numerics.md R1031). -/
def RoundedAt (rc : BitVec 2) (u e v : ℝ) : Prop :=
  ∃ m : ℤ, v = m * u ∧ |v - e| < u ∧ (rc = 0 → 2 * |v - e| ≤ u ∧ (2 * |v - e| = u → m % 2 = 0)) ∧ (rc = 1 → v ≤ e) ∧ (rc = 2 → e ≤ v) ∧
    (rc = 3 → |v| ≤ |e|)

/-- `v` is `e`, not 0, rounded to `p` significand bits, the exponent unbounded (R1031). -/
def RoundedTo (rc : BitVec 2) (p : Nat) (e v : ℝ) : Prop := RoundedAt rc ((2 : ℝ) ^ (Int.log 2 |e| - p + 1)) e v

/-- The result of `n` is the finite number `val`, its sign that of `e`; PE says that `e` was rounded to another number `v`, C1 with PE that the
magnitude grew (12_state_fpu.md R1005, 47_fpu_numerics.md R1069). -/
def Gives (n : Machine.Num) (val e v : ℝ) (oe ue : Bool) : Prop :=
  n.oe = oe ∧ n.ue = ue ∧ (n.pe = true ↔ v ≠ e) ∧ (n.pe = true → (n.c1 = true ↔ |e| < |v|)) ∧
  ∃ z, n.res = some z ∧ finiteCls z ∧ realOf z = val ∧ (Ext.neg z = true ↔ e < 0)

/-- The rounding mode carries an overflow of `e` to infinity (Table 7-12, R1067). -/
def toInfinity (rc : BitVec 2) (e : ℝ) : Prop := rc = 0 ∨ (rc = 1 ∧ e < 0) ∨ (rc = 2 ∧ 0 < e)

/-- `n` is what an operation with the exact result `e`, not 0, delivers in a register at `p` bits under the control word `cw`: rounded; with the
masked or the unmasked response to overflow and to underflow (R1031, R1033, R1067, R1068). -/
def Delivers (p : Nat) (cw : Half) (e : ℝ) (n : Machine.Num) : Prop :=
  ∃ v, RoundedTo (cwRc cw) p e v ∧
    ((2 : ℝ) ^ (-16382 : ℤ) ≤ |e| → |v| < 2 ^ (16384 : ℤ) → Gives n v e v false false) ∧
    ((2 : ℝ) ^ (16384 : ℤ) ≤ |v| → cw.getLsbD 3 = true → n.oe = true ∧ n.ue = false ∧ n.pe = true ∧
      (toInfinity (cwRc cw) e → ∃ b, n.res = some (Ext.inf b) ∧ (b = true ↔ e < 0)) ∧
      (¬ toInfinity (cwRc cw) e → ∃ z, n.res = some z ∧ (Ext.neg z = true ↔ e < 0) ∧ |realOf z| = (2 ^ p - 1) * 2 ^ (16384 - p : ℤ))) ∧
    ((2 : ℝ) ^ (16384 : ℤ) ≤ |v| → |v| < 2 ^ (16384 + 24576 : ℤ) → cw.getLsbD 3 = false → Gives n (v / 2 ^ 24576) e v true false) ∧
    (|e| < (2 : ℝ) ^ (-16382 : ℤ) → cw.getLsbD 4 = true →
      ∃ w, RoundedAt (cwRc cw) (2 ^ (-16381 - p : ℤ)) e w ∧ Gives n w e w false n.ue ∧ (n.ue = true ↔ w ≠ e)) ∧
    (|e| < (2 : ℝ) ^ (-16382 : ℤ) → (2 : ℝ) ^ (-16382 - 24576 : ℤ) ≤ |v| → cw.getLsbD 4 = false → Gives n (v * 2 ^ 24576) e v false true)

/-- The significand bits that precision control selects (R1033). -/
def pcBits (cw : Half) : Nat := if cwPc cw = 0 then 24 else if cwPc cw = 2 then 53 else 64

/-- The exact result of an operation: destination `a`, source `b` (48_fpu_instructions.md R1112). -/
def exactOp (o : FOp) (a b : ℝ) : ℝ :=
  match o with
  | .add => a + b
  | .sub => a - b
  | .subr => b - a
  | .mul => a * b
  | .div => a / b
  | .divr => b / a

/-- The three register forms of an arithmetic instruction (R1111). -/
inductive ArForm where
  | stSti | stiSt | pop
  deriving DecidableEq, Repr

/-- The register forms: 18 rows of the opcode table. -/
def arReg (o : FOp) (a : ArForm) (i : BitVec 3) : Instr :=
  match o, a with
  | .add, .stSti => .faddStSti i
  | .add, .stiSt => .faddStiSt i
  | .add, .pop => .faddpStiSt i
  | .mul, .stSti => .fmulStSti i
  | .mul, .stiSt => .fmulStiSt i
  | .mul, .pop => .fmulpStiSt i
  | .sub, .stSti => .fsubStSti i
  | .sub, .stiSt => .fsubStiSt i
  | .sub, .pop => .fsubpStiSt i
  | .subr, .stSti => .fsubrStSti i
  | .subr, .stiSt => .fsubrStiSt i
  | .subr, .pop => .fsubrpStiSt i
  | .div, .stSti => .fdivStSti i
  | .div, .stiSt => .fdivStiSt i
  | .div, .pop => .fdivpStiSt i
  | .divr, .stSti => .fdivrStSti i
  | .divr, .stiSt => .fdivrStiSt i
  | .divr, .pop => .fdivrpStiSt i

/-- The number formats of a memory operand that arithmetic and comparison read. -/
inductive NumFmt where
  | single | double | int32 | int16
  deriving DecidableEq, Repr

/-- Bytes of an operand. -/
def NumFmt.bytes : NumFmt → Nat
  | .single => 4
  | .double => 8
  | .int32 => 4
  | .int16 => 2

/-- Its value as an extended real, and whether it was a denormal (47_fpu_numerics.md R1035). -/
def NumFmt.value (k : NumFmt) (v : Nat) : Ext × Bool :=
  match k with
  | .single => widen32 (BitVec.ofNat 32 v)
  | .double => widen64 (BitVec.ofNat 64 v)
  | .int32 => (extOfInt (BitVec.ofNat 32 v).toInt, false)
  | .int16 => (extOfInt (BitVec.ofNat 16 v).toInt, false)

/-- The memory forms: 24 rows of the opcode table. -/
def arMem (o : FOp) (k : NumFmt) (m : MemOp) : Instr :=
  match o, k with
  | .add, .single => .faddM32 m
  | .add, .double => .faddM64 m
  | .add, .int32 => .fiaddM32 m
  | .add, .int16 => .fiaddM16 m
  | .mul, .single => .fmulM32 m
  | .mul, .double => .fmulM64 m
  | .mul, .int32 => .fimulM32 m
  | .mul, .int16 => .fimulM16 m
  | .sub, .single => .fsubM32 m
  | .sub, .double => .fsubM64 m
  | .sub, .int32 => .fisubM32 m
  | .sub, .int16 => .fisubM16 m
  | .subr, .single => .fsubrM32 m
  | .subr, .double => .fsubrM64 m
  | .subr, .int32 => .fisubrM32 m
  | .subr, .int16 => .fisubrM16 m
  | .div, .single => .fdivM32 m
  | .div, .double => .fdivM64 m
  | .div, .int32 => .fidivM32 m
  | .div, .int16 => .fidivM16 m
  | .divr, .single => .fdivrM32 m
  | .divr, .double => .fdivrM64 m
  | .divr, .int32 => .fidivrM32 m
  | .divr, .int16 => .fidivrM16 m

/-- What an arithmetic instruction does to the FPU `f0`: destination ST(d), source value `x`, `ready` if the source register is not empty,
`pops` registers popped (R1112). -/
def ArDone (o : FOp) (d : BitVec 3) (x : Ext) (den ready : Bool) (pops : Nat) (f0 f : Fpu) : Prop :=
  if f0.isEmpty d = false ∧ ready = true then
    ∃ tie c : Bool, let r := arith o (Fmt.ofPc f0.cw) f0.cw tie den (f0.st d) x
      Settled (withResult r.res fun v g => (g.setSt d v).pops pops) (raised c r) f0 f
  else Settled (ifMasked f0.cw fun g => (g.setSt d Ext.indefinite).pops pops) (stackFlags false) f0 f

/-- The loads from memory but FBLD: instruction, bytes, alignment, and what is pushed (48_fpu_instructions.md R1102, R1106). -/
def loadForms (m : MemOp) : List (Instr × Nat × Nat × (Half → Nat → Machine.Num)) :=
  let real (cw : Half) (v : Ext × Bool) : Machine.Num :=
    (if Ext.cls v.1 = .snan then Machine.Num.invalid cw (Ext.quiet v.1) else Machine.Num.exact v.1).denormal cw v.2
  [(.fldM32 m, 4, 4, fun cw v => real cw (widen32 (BitVec.ofNat 32 v))), (.fldM64 m, 8, 8, fun cw v => real cw (widen64 (BitVec.ofNat 64 v))),
   (.fldM80 m, 10, 8, fun _ v => Machine.Num.exact (BitVec.ofNat 80 v)), (.fildM16 m, 2, 2, fun _ v => Machine.Num.exact (extOfInt (BitVec.ofNat 16 v).toInt)),
   (.fildM32 m, 4, 4, fun _ v => Machine.Num.exact (extOfInt (BitVec.ofNat 32 v).toInt)),
   (.fildM64 m, 8, 8, fun _ v => Machine.Num.exact (extOfInt (BitVec.ofNat 64 v).toInt))]

/-- What a push of the result `r` does: stack overflow if the register above the top is not empty (R1062); C1 is 0 otherwise (R1005). -/
def PushDone (r : Machine.Num) (f0 f : Fpu) : Prop :=
  if f0.isEmpty 7 then Settled (withResult r.res fun v g => g.push v) (raised false r) f0 f
  else Settled (ifMasked f0.cw fun g => g.push Ext.indefinite) (stackFlags true) f0 f

/-- The constant loads: biased exponent, and the significand to nearest, toward minus infinity and zero, toward plus infinity (R1140). -/
def constForms : List (Instr × Nat × Nat × Nat × Nat) :=
  [(.fld1, 0x3FFF, 0x8000000000000000, 0x8000000000000000, 0x8000000000000000),
   (.fldl2t, 0x4000, 0xD49A784BCD1B8AFE, 0xD49A784BCD1B8AFE, 0xD49A784BCD1B8AFF),
   (.fldl2e, 0x3FFF, 0xB8AA3B295C17F0BC, 0xB8AA3B295C17F0BB, 0xB8AA3B295C17F0BC),
   (.fldpi, 0x4000, 0xC90FDAA22168C235, 0xC90FDAA22168C234, 0xC90FDAA22168C235),
   (.fldlg2, 0x3FFD, 0x9A209A84FBCFF799, 0x9A209A84FBCFF798, 0x9A209A84FBCFF799),
   (.fldln2, 0x3FFE, 0xB17217F7D1CF79AC, 0xB17217F7D1CF79AB, 0xB17217F7D1CF79AC), (.fldz, 0, 0, 0, 0)]

/-- The constant of a row under RC. -/
def constValue (c : Nat × Nat × Nat × Nat) (rc : BitVec 2) : Ext :=
  BitVec.ofNat 80 (c.1 * 2 ^ 64 + if rc = 0 then c.2.1 else if rc = 2 then c.2.2.2 else c.2.2.1)

/-- The number that the bits `v` of a memory real with `e` exponent and `f` fraction bits stand for, if it is finite (12_state_fpu.md R1015). -/
def memReal (e f v : Nat) : ℚ :=
  let be := v / 2 ^ f % 2 ^ e
  (if v / 2 ^ (e + f) % 2 = 1 then -1 else 1) * (((if be = 0 then 0 else 2 ^ f) + v % 2 ^ f : Nat) : ℚ) *
    (2 : ℚ) ^ ((max be 1 : Nat) - (2 ^ (e - 1) - 1) - f : Int)

/-- What widening a memory real of `e` exponent and `f` fraction bits gives: the same number, or infinity, or the NaN with its fraction at the top
of the significand; the second part says whether it was a denormal (47_fpu_numerics.md R1035). -/
def Widened (e f v : Nat) (r : Ext × Bool) : Prop :=
  let be := v / 2 ^ f % 2 ^ e
  (Ext.neg r.1 = true ↔ v / 2 ^ (e + f) % 2 = 1) ∧ (r.2 = true ↔ be = 0 ∧ v % 2 ^ f ≠ 0) ∧
  (be ≠ 2 ^ e - 1 → finiteValue r.1 = memReal e f v ∧ (Ext.cls r.1 = .zero ∨ Ext.cls r.1 = .normal)) ∧
  (be = 2 ^ e - 1 → Ext.be r.1 = 0x7FFF ∧ (Ext.sig r.1).toNat = 2 ^ 63 + v % 2 ^ f * 2 ^ (63 - f))

/-- What storing the finite value `x`, not 0, as a real of `e` exponent and `f` fraction bits gives: the rounded number, or the response to overflow
or underflow; an unmasked one keeps it from memory (R1036, R1067, R1068). -/
def StoresReal (e f : Nat) (cw : Half) (x : Ext) (r : Narrow) : Prop :=
  let emin : ℤ := 2 - 2 ^ (e - 1)
  let big : ℝ := 2 ^ (2 ^ (e - 1))
  let gives (w : ℝ) : Prop := (r.pe = true ↔ w ≠ realOf x) ∧ (r.pe = true → (r.c1 = true ↔ |realOf x| < |w|)) ∧
    ∃ n, r.out = some n ∧ n < 2 ^ (1 + e + f) ∧ n / 2 ^ f % 2 ^ e ≠ 2 ^ e - 1 ∧ (memReal e f n : ℝ) = w ∧
      (n / 2 ^ (e + f) = 1 ↔ Ext.neg x = true)
  ∃ v, RoundedTo (cwRc cw) (f + 1) (realOf x) v ∧
    ((2 : ℝ) ^ emin ≤ |realOf x| → |v| < big → gives v ∧ r.oe = false ∧ r.ue = false) ∧
    (big ≤ |v| → cw.getLsbD 3 = true → r.oe = true ∧ r.pe = true ∧ ∃ n, r.out = some n ∧ (n / 2 ^ (e + f) = 1 ↔ Ext.neg x = true) ∧
      (toInfinity (cwRc cw) (realOf x) → n % 2 ^ (e + f) = (2 ^ e - 1) * 2 ^ f) ∧
      (¬ toInfinity (cwRc cw) (realOf x) → n % 2 ^ (e + f) = (2 ^ e - 1) * 2 ^ f - 1)) ∧
    (big ≤ |v| → cw.getLsbD 3 = false → r.oe = true ∧ r.out = none) ∧
    (|realOf x| < (2 : ℝ) ^ emin → cw.getLsbD 4 = true →
      ∃ w, RoundedAt (cwRc cw) (2 ^ (emin - f)) (realOf x) w ∧ gives w ∧ (r.ue = true ↔ w ≠ realOf x)) ∧
    (|realOf x| < (2 : ℝ) ^ emin → cw.getLsbD 4 = false → r.ue = true ∧ r.out = none)

/-- A conversion that raises D for a denormal ST: with DM = 0 nothing is stored (47_fpu_numerics.md R1030, R1065). -/
def denormalFirst (conv : Half → Ext → Narrow) (cw : Half) (x : Ext) : Narrow :=
  if Ext.cls x = .denormal then
    if cw.getLsbD 1 then { conv cw x with de := true } else { Narrow.exact 0 with de := true, out := none }
  else conv cw x

/-- The converting stores to memory but FBSTP: instruction, bytes, alignment, conversion, masked response to an empty register, pops (R1103, R1104, R1107,
R1108). -/
def storeForms (m : MemOp) : List (Instr × Nat × Nat × (Half → Ext → Narrow) × Nat × Nat) :=
  [(.fstM32 m, 4, 4, toSingle, 0xFFC00000, 0), (.fstM64 m, 8, 8, toDouble, 0xFFF8000000000000, 0), (.fstpM32 m, 4, 4, toSingle, 0xFFC00000, 1),
   (.fstpM64 m, 8, 8, toDouble, 0xFFF8000000000000, 1), (.fistM16 m, 2, 2, denormalFirst (toInteger 16), 0x8000, 0),
   (.fistM32 m, 4, 4, denormalFirst (toInteger 32), 0x80000000, 0), (.fistpM16 m, 2, 2, denormalFirst (toInteger 16), 0x8000, 1),
   (.fistpM32 m, 4, 4, denormalFirst (toInteger 32), 0x80000000, 1), (.fistpM64 m, 8, 8, denormalFirst (toInteger 64), 0x8000000000000000, 1)]

/-- `t` is `u` after an optional value was stored. -/
def StoredIf (ps : List Word) (out : Option Nat) (u t : State) : Prop :=
  match out with
  | some v => Stored ps v u t
  | none => t = u

/-- What a store instruction does in `u` with its operand at `ps`: the value stored and the FPU afterwards; `plain` stores without a conversion, and
then C1 is 0. -/
def StDone (plain : Bool) (conv : Half → Ext → Narrow) (indef pops : Nat) (ps : List Word) (i : Instr) (s u : State) : Prop :=
  ∃ (t : State) (f : Fpu) (n : Nat) (c : Bool), Ran i s { t with fpu := f, draws := n } ∧ (plain = true → c = false) ∧
    (if u.fpu.isEmpty 0 then
      StoredIf ps (if u.fpu.cw.getLsbD 0 then some indef else none) u t ∧
      Settled (ifMasked u.fpu.cw fun g => g.pops pops) (stackFlags false) u.fpu f
    else
      let r := conv u.fpu.cw (u.fpu.st 0)
      StoredIf ps r.out u t ∧ Settled (fun g => if r.out.isSome then g.pops pops else g) (raisedBy c r) u.fpu f)

/-- The comparisons with a register: instruction, source register, whether QNaNs are quiet, pops (R1120, R1121). -/
def compareForms (i : BitVec 3) : List (Instr × BitVec 3 × Bool × Nat) :=
  [(.fcomSti i, i, false, 0), (.fcompSti i, i, false, 1), (.fcompp, 1, false, 2), (.fucomSti i, i, true, 0), (.fucompSti i, i, true, 1),
   (.fucompp, 1, true, 2)]

/-- The comparisons with memory: instruction, format, pops (R1120, R1122). -/
def compareMemForms (m : MemOp) : List (Instr × NumFmt × Nat) :=
  [(.fcomM32 m, .single, 0), (.fcomM64 m, .double, 0), (.fcompM32 m, .single, 1), (.fcompM64 m, .double, 1), (.ficomM16 m, .int16, 0),
   (.ficomM32 m, .int32, 0), (.ficompM16 m, .int16, 1), (.ficompM32 m, .int32, 1)]

/-- `x < y` for values that are no NaNs. -/
def extBelow (x y : Ext) : Prop :=
  (x = Ext.inf true ∧ y ≠ Ext.inf true) ∨ (y = Ext.inf false ∧ x ≠ Ext.inf false) ∨
  (Ext.cls x ≠ .inf ∧ Ext.cls y ≠ .inf ∧ finiteValue x < finiteValue y)

/-- C3, C2, C0 of a comparison, with C1 clear (R1120). -/
def ordered (c3 c2 c0 : Bool) (w : Fsw) : Fsw := { w with c3 := c3, c2 := c2, c0 := c0, c1 := false }

/-- What a comparison of ST with `x` does (R1120, R1121). -/
def CmpDone (quiet : Bool) (x : Ext) (den ready : Bool) (pops : Nat) (f0 f : Fpu) : Prop :=
  let a := f0.st 0
  let pop (g : Fpu) : Fpu := g.pops pops
  let is (c : Cls) : Prop := Ext.cls a = c ∨ Ext.cls x = c
  let denormal : Prop := is .denormal ∨ den = true
  let invalid : Prop := is .unsupported ∨ is .snan
  let ie (w : Fsw) : Fsw := if invalid ∨ quiet = false then { w with ie := true } else w
  let de (w : Fsw) : Fsw := if denormal then { w with de := true } else w
  let unordered : Fsw → Fsw := ordered true true true
  (f0.isEmpty 0 = true ∨ ready = false →
    if f0.cw.getLsbD 0 then Final pop (fun w => unordered (stackFlags false w)) f0 f else Final id (stackFlags false) f0 f) ∧
  (f0.isEmpty 0 = false → ready = true →
    -- an SNaN or an unsupported operand: masked, the denormal check comes after it
    (invalid → f0.cw.getLsbD 0 = false → Final id (fun w => { w with ie := true }) f0 f) ∧
    (invalid → f0.cw.getLsbD 0 = true →
      if denormal ∧ f0.cw.getLsbD 1 = false then Final id (fun w => { de (ie w) with c1 := false }) f0 f
      else Final pop (fun w => unordered (de (ie w))) f0 f) ∧
    -- a QNaN is invalid to FCOM and FTST only, and ends the checks
    (¬ invalid → is .qnan →
      if quiet = false ∧ f0.cw.getLsbD 0 = false then Final id ie f0 f
      else Final pop (fun w => unordered (ie w)) f0 f) ∧
    (¬ invalid → ¬ is .qnan →
      (denormal ∧ f0.cw.getLsbD 1 = false → Final id (fun w => { de w with c1 := false }) f0 f) ∧
      (¬ (denormal ∧ f0.cw.getLsbD 1 = false) →
        (extBelow x a → Final pop (fun w => ordered false false false (de w)) f0 f) ∧
        (extBelow a x → Final pop (fun w => ordered false false true (de w)) f0 f) ∧
        (¬ extBelow a x → ¬ extBelow x a → Final pop (fun w => ordered true false false (de w)) f0 f))))

/-- Under RC the real `v` lies within the error bound of the exact value `e`, unless `e` is 0 or near the ends of the exponent range (R1034). -/
def Near (rc : BitVec 2) (e : ℝ) (v : Ext) : Prop :=
  (2 : ℝ) ^ (-16381 : ℤ) ≤ |e| → |e| ≤ (2 : ℝ) ^ (16383 : ℤ) →
    finiteCls v ∧ |realOf v - e| < (if rc = 0 then 1 else 3 / 2) * 2 ^ (Int.log 2 |e| - 63)

/-- Registers and tags are those of `k f0`; exception flags are only set; the control word and the pointers stay; ES is computed. -/
def Loose (k : Fpu → Fpu) (f0 f : Fpu) : Prop :=
  f = { k f0 with sw := f.sw } ∧ f.sw.top = (k f0).sw.top ∧ f.sw.sf = f0.sw.sf ∧ f.sw.es = f.pendingEs ∧
  (f0.sw.ie → f.sw.ie) ∧ (f0.sw.de → f.sw.de) ∧ (f0.sw.ze → f.sw.ze) ∧ (f0.sw.oe → f.sw.oe) ∧ (f0.sw.ue → f.sw.ue) ∧
  (f0.sw.pe → f.sw.pe)

/-- Every numeric exception is masked. -/
def allMasked (f : Fpu) : Prop := f.cw &&& 0x3F = 0x3F

/-- The no-wait control instructions that have a waiting form (R1160 to R1167). -/
inductive NoWait where
  | init | clex | stswAx
  | stcw (m : MemOp)
  | stsw (m : MemOp)
  | stenv (m : MemOp)
  | save (m : MemOp)
  deriving DecidableEq, Repr

/-- The no-wait form. -/
def NoWait.instr : NoWait → Instr
  | .init => .fninit
  | .clex => .fnclex
  | .stswAx => .fnstswAx
  | .stcw m => .fnstcwM16 m
  | .stsw m => .fnstswM16 m
  | .stenv m => .fnstenvM m
  | .save m => .fnsaveM m

/-- The waiting form. -/
def NoWait.waiting : NoWait → Instr
  | .init => .finit
  | .clex => .fclex
  | .stswAx => .fstswAx
  | .stcw m => .fstcwM16 m
  | .stsw m => .fstswM16 m
  | .stenv m => .fstenvM m
  | .save m => .fsaveM m

/-- What FNINIT makes of the FPU (R1160). -/
def initialFpu (f : Fpu) : Fpu :=
  { f with cw := 0x037F, empty := .replicate 8 true, fcs := 0, fip := 0, fds := 0, fdp := 0, fop := 0
           sw := { ie := false, de := false, ze := false, oe := false, ue := false, pe := false, sf := false, es := false, c0 := false,
                   c1 := false, c2 := false, c3 := false, top := 0 } }

/-- The condition codes of `f` are open, all else is as in `f0`. -/
def openCc (f0 f : Fpu) : Prop := f = { f0 with sw := { f0.sw with c0 := f.sw.c0, c1 := f.sw.c1, c2 := f.sw.c2, c3 := f.sw.c3 } }

/-- The number of bytes an environment image takes, and with the registers behind it (12_state_fpu.md R1012, R1013). -/
def envSize (s : State) (regs : Bool) : Nat := 7 * s.os.bytes + if regs then 80 else 0

/-- The seven fields of the environment image of `s`, by operand size and mode: control, status and tag word, instruction pointer, CS and opcode,
operand pointer, operand selector. Outside protected mode the pointers are linear addresses (R1012). In a 32-bit image the upper halves of the
fields that hold a word are open: of those only the lower half is told. -/
def envImage (s : State) (v : List Nat) : Prop :=
  let f := s.fpu
  let g (i : Nat) : Nat := v.getD i 0
  let ip := (16 * f.fcs.toNat + f.fip.toNat) % 2 ^ 32
  let dp := (16 * f.fds.toNat + f.fdp.toNat) % 2 ^ 32
  let low (i : Nat) : Nat := g i % 2 ^ 16
  v.length = 7 ∧ (∀ x ∈ v, x < 2 ^ s.os.bits) ∧ low 0 = f.cw.toNat ∧ low 1 = f.sw.word.toNat ∧
  (∀ i : Fin 8, low 2 / 4 ^ i.val % 4 = if f.empty[i] then 3 else tagOf f.regs[i]) ∧
  (s.os = .s32 → s.prot = true → g 3 = f.fip.toNat ∧ g 4 = f.fop.toNat * 2 ^ 16 + f.fcs.toNat ∧ g 5 = f.fdp.toNat ∧ low 6 = f.fds.toNat) ∧
  (s.os = .s32 → s.prot = false → low 3 = ip % 2 ^ 16 ∧ g 4 = ip / 2 ^ 16 * 2 ^ 12 + f.fop.toNat ∧ low 5 = dp % 2 ^ 16 ∧
    g 6 = dp / 2 ^ 16 * 2 ^ 12) ∧
  (s.os = .s16 → s.prot = true → g 3 = f.fip.toNat % 2 ^ 16 ∧ g 4 = f.fcs.toNat ∧ g 5 = f.fdp.toNat % 2 ^ 16 ∧ g 6 = f.fds.toNat) ∧
  (s.os = .s16 → s.prot = false → g 3 = ip % 2 ^ 16 ∧ g 4 = ip / 2 ^ 16 % 2 ^ 4 * 2 ^ 12 + f.fop.toNat ∧ g 5 = dp % 2 ^ 16 ∧
    g 6 = dp / 2 ^ 16 % 2 ^ 4 * 2 ^ 12)

/-- `f` holds what the environment image `v` says, field by field; what the image of a mode does not hold of the pointers is 0 (R1012, R1166). -/
def envLoaded (s : State) (v : Nat) (f : Fpu) : Prop :=
  let g (i : Nat) : Nat := v / 2 ^ (8 * s.os.bytes * i) % 2 ^ (8 * s.os.bytes)
  f.cw = BitVec.ofNat 16 (g 0) ∧ f.sw = { Fsw.ofWord (BitVec.ofNat 16 (g 1)) with es := f.pendingEs } ∧
  (∀ i : Fin 8, f.empty[i] = (g 2 / 4 ^ i.val % 4 == 3)) ∧
  (s.prot = true → f.fip = BitVec.ofNat 32 (g 3) ∧ f.fcs = BitVec.ofNat 16 (g 4) ∧ f.fdp = BitVec.ofNat 32 (g 5) ∧
    f.fds = BitVec.ofNat 16 (g 6) ∧ (s.os = .s32 → f.fop = BitVec.ofNat 11 (g 4 / 2 ^ 16))) ∧
  (s.prot = false → f.fcs = 0 ∧ f.fds = 0 ∧ f.fop = BitVec.ofNat 11 (g 4) ∧
    f.fip = BitVec.ofNat 32 (g 3 % 2 ^ 16 + g 4 / 2 ^ 12 % 2 ^ 16 * 2 ^ 16) ∧ f.fdp = BitVec.ofNat 32 (g 5 % 2 ^ 16 + g 6 / 2 ^ 12 % 2 ^ 16 * 2 ^ 16))

/-- The environment as FNSTENV and FNSAVE store it: the fields in order, each of the operand size (R1012, R1165). -/
def EnvStored (ps : List Word) (s u t : State) : Prop :=
  ∃ fields, envImage s fields ∧
    StoredAll ((List.range 7).map fun i => (ps.drop (s.os.bytes * i)).take s.os.bytes) fields u t

/-- `NoWait.instr x` runs in `s` and its computation ends in `t`. -/
def NoWait.Done (x : NoWait) (s t : State) : Prop :=
  match x with
  | .init => t = { s.enter with fpu := initialFpu s.fpu }
  | .clex => t = { s.enter with fpu := t.fpu, draws := t.draws } ∧ openCc { s.fpu with sw := { s.fpu.sw with
      ie := false, de := false, ze := false, oe := false, ue := false, pe := false, sf := false, es := false } } t.fpu
  | .stswAx => t = { s.enter with regs := s.regs.write 16 .eax s.fpu.sw.word, fpu := t.fpu, draws := t.draws } ∧ openCc s.fpu t.fpu
  | .stcw m => ∃ ps s1 u, access s.as (s.eaSeg m) (s.eaOff m) 2 2 .w s.enter = .ok ps s1 ∧ Stored ps s.fpu.cw.toNat s1 u ∧
      t = { u with fpu := t.fpu, draws := t.draws } ∧ openCc s.fpu t.fpu
  | .stsw m => ∃ ps s1 u, access s.as (s.eaSeg m) (s.eaOff m) 2 2 .w s.enter = .ok ps s1 ∧ Stored ps s.fpu.sw.word.toNat s1 u ∧
      t = { u with fpu := t.fpu, draws := t.draws } ∧ openCc s.fpu t.fpu
  | .stenv m => ∃ ps s1 s2 u, access s.as (s.eaSeg m) (s.eaOff m) (envSize s false) s.os.bytes .w s.enter = .ok ps s1 ∧
      s2 = { s1 with draws := s2.draws } ∧ EnvStored ps s s2 u ∧ t = { u with fpu := t.fpu, draws := t.draws } ∧
      openCc { s.fpu with cw := s.fpu.cw ||| 0x3F, sw := { s.fpu.sw with es := false } } t.fpu
  | .save m => ∃ ps s1 s2 u v, access s.as (s.eaSeg m) (s.eaOff m) (envSize s true) s.os.bytes .w s.enter = .ok ps s1 ∧
      s2 = { s1 with draws := s2.draws } ∧ EnvStored (ps.take (envSize s false)) s s2 u ∧
      StoredAll ((List.range 8).map fun i => (ps.drop (envSize s false + 10 * i)).take 10)
        ((List.range 8).map fun i => (s.fpu.st (BitVec.ofNat 3 i)).toNat) u v ∧
      t = { v with fpu := initialFpu s.fpu }

/-- What lets `NoWait.instr x` run in `s`: CR0.EM = CR0.TS = 0 and the operand can be written. -/
def NoWait.ready (x : NoWait) (s : State) : Prop :=
  s.em = false ∧ s.tsFlag = false ∧
  match x with
  | .stcw m => ∃ ps s1, access s.as (s.eaSeg m) (s.eaOff m) 2 2 .w s.enter = .ok ps s1
  | .stsw m => ∃ ps s1, access s.as (s.eaSeg m) (s.eaOff m) 2 2 .w s.enter = .ok ps s1
  | .stenv m => ∃ ps s1, access s.as (s.eaSeg m) (s.eaOff m) (envSize s false) s.os.bytes .w s.enter = .ok ps s1
  | .save m => ∃ ps s1, access s.as (s.eaSeg m) (s.eaOff m) (envSize s true) s.os.bytes .w s.enter = .ok ps s1
  | _ => True

/-- The state after the WAIT of a waiting form at its instruction boundary: an instruction of one byte (R1160). -/
def afterWait (s : State) : State :=
  let w : State := { s with cur := { s.cur with len := 1 } }
  w.complete w.enter

/-- The state in which the no-wait instruction behind that WAIT starts. -/
def behindWait (s : State) : State := { (afterWait s).tick with cur := { s.cur with len := s.cur.len - 1 } }

/-- An ESC instruction: its first byte is D8H to DFH (30_encoding.md). -/
def isEsc (i : Instr) : Prop := ∃ os as b rest, encode os as i = b :: rest ∧ 0xD8 ≤ b.toNat ∧ b.toNat ≤ 0xDF

/-- The no-wait forms: they do not report a pending numeric exception (R1100). -/
def noWait (i : Instr) : Prop := ∃ x : NoWait, i = x.instr

/-- Byte `a` of memory is the first byte of a page entry that translating the linear address `lin` uses: of its directory entry, or of the table
entry that the directory entry leads to (22_paging.md R262). Of the directory entry only what leads on is asked: its bytes 1 to 3, as memory
holds them. -/
def pageEntryByte (s : State) (lin : Word) (a : Nat) : Prop :=
  let pa := pdeAddr s.cr.cr3 lin
  a = (s.a20 pa).toNat ∨ ∃ pde : Word, a = (s.a20 (pteAddr pde lin)).toNat ∧
    ∀ j, 1 ≤ j → j < 4 →
      let b := (s.a20 (pa + BitVec.ofNat 32 j)).toNat
      regionAt s.memMap b = none ∨ regionAt s.memMap b = some .rom → pde.extractLsb' (8 * j) 8 = byteAt s b

/-- A displacement as a signed number (30_encoding.md R426). -/
def dispInt : Disp → Int
  | .none => 0
  | .d8 v => v.toInt
  | .d16 v => v.toInt
  | .d32 v => v.toInt

/-- The registers that a 16-bit form adds (30_encoding.md R423). -/
def formRegs : Base16 → List Reg
  | .bxsi => [.ebx, .esi]
  | .bxdi => [.ebx, .edi]
  | .bpsi => [.ebp, .esi]
  | .bpdi => [.ebp, .edi]
  | .si => [.esi]
  | .di => [.edi]
  | .bp => [.ebp]
  | .bx => [.ebx]

/-- The scaled index of a SIB form, of which number 100 is none (R422). -/
def indexInt (g : GRegs) (scale : BitVec 2) (index : Reg) : Int := if index = .esp then 0 else (g.get index).toNat * 2 ^ scale.toNat

/-- The number of address bits of a form, and the sum of its base, scaled index and displacement before it is cut to them (R423, R425). -/
def formSum (g : GRegs) : MemOp → Nat × Int
  | .direct16 d => (16, d.toNat)
  | .base16 b d => (16, ((formRegs b).map fun r => ((g.read 16 r).toNat : Int)).sum + dispInt d)
  | .direct32 d => (32, d.toNat)
  | .base32 b d => (32, (g.get b).toNat + dispInt d)
  | .sib sc i b d => (32, (g.get b).toNat + indexInt g sc i + dispInt d)
  | .sibNoBase sc i d => (32, indexInt g sc i + d.toNat)

/-- The default segment of a form is SS: its base register is (E)SP or (E)BP (R425, Table 3-3). -/
def usesSs : MemOp → Prop
  | .direct16 _ => False
  | .base16 b _ => Reg.ebp ∈ formRegs b
  | .direct32 _ => False
  | .base32 b _ => b = .esp ∨ b = .ebp
  | .sib _ _ b _ => b = .esp ∨ b = .ebp
  | .sibNoBase _ _ _ => False

/-- An access through `sr` that reads or writes does not pass step 1 or 2 of R330: a null selector, or a type that does not allow it. Only in
protected and virtual-8086 mode. -/
def segBarred (s : State) (sr : SReg) (k : Kind) : Prop :=
  let a := (s.segs.get sr).attr
  let code := a.typ.getLsbD 3 = true
  let bit1 := a.typ.getLsbD 1 = true
  s.pe = true ∧ ((s.segs.get sr).usable = false ∨ if k = .r then code ∧ ¬ bit1 else code ∨ ¬ bit1)

/-- `n` bytes at `off` do not pass step 3 of R330: they run past the last offset of the address size, or out of the segment; an expand-down
segment lies above its limit (in real-address mode every segment lies below, 60_exceptions.md R1262). -/
def segBeyond (s : State) (sz : Size) (sr : SReg) (off n : Nat) : Prop :=
  let g := s.segs.get sr
  (sz = .s16 ∧ 2 ^ 16 < off + n) ∨
  if s.pe = true ∧ g.attr.typ.getLsbD 3 = false ∧ g.attr.typ.getLsbD 2 = true then
    off ≤ g.limit.toNat ∨ (if g.attr.db then 2 ^ 32 else 2 ^ 16) < off + n
  else g.limit.toNat + 1 < off + n

/-- `count` items of `n` bytes can be pushed on the stack of `u` (the space check of R316 and of 60_exceptions.md R1214). -/
def roomFor (u : State) (n count : Nat) : Prop :=
  ∀ k, k < count → ¬ segBeyond u u.ss .ss (wrapSp u.ss (u.spOff - BitVec.ofNat 32 (n * (k + 1)))).toNat n

/-- An exception that is raised during the delivery of `ev`: an error code that names a selector or a vector has EXT set, unless `ev` is INT n, INT 3
or INTO (60_exceptions.md R1211, R1220). -/
def extFault (ev : Event) (e : Exc) : Exc :=
  if ev.kind ≠ .soft ∧ 10 ≤ e.vec ∧ e.vec ≤ 13 then { e with code := e.code.map fun c => c ||| 1 } else e

/-- The attempt to deliver `ev` in `s` is given up at `t` for the exception `e` (what then follows is in 60_exceptions.md R1232). -/
def GivesUp (ev : Event) (s : State) (e : Exc) (t : State) : Prop := deliverOnce ev s = .error (.exc (extFault ev e)) t

/-- The alignment check fails for an operand at `lin` (R335). -/
def misaligned (s : State) (lin : Word) (al : Nat) : Prop :=
  s.cr.cr0.getLsbD 18 = true ∧ s.flags.ac = true ∧ s.cpl = 3 ∧ lin.toNat % al ≠ 0

/-- The linear addresses of `n` bytes from `lin`. -/
def linBytes (lin : Word) (n : Nat) (x : Word) : Prop := ∃ j, j < max n 1 ∧ x = lin + BitVec.ofNat 32 j

/-- `t` is what checking accesses at the linear addresses `L`, walking the page tables for them, or reading memory there may make of `s`: nothing
but the TLBs, the Accessed and Dirty bits (5 and 6) of the page entries of those addresses, device traffic, draws, and the breakpoints
matched (22_paging.md R264, R271, 64_debug.md R1486). EVERY OTHER BYTE OF MEMORY reads as before. -/
def Kept (L : Word → Prop) (s t : State) : Prop :=
  t = { s with mem := t.mem, itlb := t.itlb, dtlb := t.dtlb, bus := t.bus, draws := t.draws, cur := t.cur } ∧ noted s.cur t.cur ∧
  (∃ l, t.bus = l ++ s.bus ∧ ∀ e ∈ l, ∃ a v, e = .devRead a v ∨ e = .devWrite a v) ∧
  (Memory.wf s.mem = true → Memory.wf t.mem = true ∧
    ∀ a, byteAt t a = byteAt s a ∨ (byteAt t a ||| 0x60 = byteAt s a ||| 0x60 ∧ s.pg = true ∧ ∃ lin, L lin ∧ pageEntryByte s lin a)) ∧
  (s.pg = false → t = { s with bus := t.bus, draws := t.draws, cur := t.cur })

/-- A computation that only checks and reads, at the linear addresses `L` of its start state: it ends in a kept state, or raises an exception in one
but for CR2. -/
def KeepsOrFaults {α : Type} (L : State → Word → Prop) (m : M α) : Prop :=
  ∀ s, (∀ v t, m s = .ok v t → Kept (L s) s t) ∧
    ∀ e t, m s = .error e t → (∃ x, e = .exc x) ∧ Kept (L s) { s with cr := { s.cr with cr2 := t.cr.cr2 } } t

/-- The bytes `bs` stand at CS:EIP in RAM, each within the code segment, paging off (30_encoding.md R400, 23_protection.md R330). -/
def codeAt (s : State) (bs : List Byte) : Prop :=
  s.pg = false ∧ ∀ k (h : k < bs.length),
    let off := s.eip + BitVec.ofNat 32 k
    segLinear .s32 .cs off 1 .x s = .ok (s.segs.cs.base + off) s ∧
    regionAt s.memMap (s.a20 (s.segs.cs.base + off)).toNat = none ∧
    byteAt s (s.a20 (s.segs.cs.base + off)).toNat = bs[k]

/-- What a list of prefixes leaves in the latch (R401); `none` if one of them is no prefix. -/
def latchOf : List Instr → Latch → Option Latch
  | [], c => some c
  | p :: ps, c => match prefixEffect p with
    | some f => latchOf ps (f c)
    | none => none

/-- The operand and address sizes that the latch `c` gives in the code segment of `s` (R405). -/
def sizesOf (s : State) (c : Latch) : Size × Size := (State.os { s with cur := c }, State.as { s with cur := c })

/-- No event is pending at the boundary at which `s` stands, an instruction breakpoint apart. -/
def noEvent (s : State) : Prop :=
  s.inp.reset = none ∧ s.inp.init = false ∧ s.inp.mc = false ∧ s.inp.intr = none ∧ s.smiPending = false ∧ s.nmiPending = false ∧
  s.pendingDb = none ∧ s.recurs = []

/-- No event is pending at the boundary at which `s` stands, apart from what the hypotheses of a statement add. -/
def calm (s : State) : Prop := noEvent s ∧ s.dr.dr7.toNat % 256 = 0

/-- The linear address of the instruction at CS:EIP. -/
def here (s : State) : Word := s.segs.cs.base + s.eip

/-- Breakpoint register `j` holds an instruction breakpoint at CS:EIP: R/W = 00, LEN = 00 (64_debug.md R1487). -/
def breaksHere (s : State) (j : Nat) : Prop := s.dr.dr7.toNat / 2 ^ (16 + 4 * j) % 16 = 0 ∧ s.dr.addr j = here s

/-- What makes a page access fault for its rights: the entries allow it (22_paging.md R269, Table 12-4). -/
def pageAllows (wp : Bool) (pde pte : Word) (write user : Bool) : Prop :=
  (user = true → pde.getLsbD 2 = true ∧ pte.getLsbD 2 = true ∧ (write = true → pde.getLsbD 1 = true ∧ pte.getLsbD 1 = true)) ∧
  (user = false → write = true → wp = true → pde.getLsbD 1 = true ∧ pte.getLsbD 1 = true)

/-- The error code of a page fault (60_exceptions.md R1221). -/
def pfCode (present write user : Bool) : Word := BitVec.ofNat 32 (present.toNat + 2 * write.toNat + 4 * user.toNat)

end Sys2Proof.Claims

end
end

