-- ==== Sys2Proof/Certificates/Slice0/Obligations.lean ====
section
/-! DEFINITION. The statements for the provers: what the numbered rules of the spec say, over every state. -/

noncomputable section

open Sys2Proof Sys2Proof.Machine Sys2Proof.Claims

/-- `op dest, src` of ADD, OR, ADC, SBB, AND, SUB, XOR with an r/m or accumulator destination, every form (49 instructions): when the destination
can be located for a read-modify-write, the instruction completes; the destination holds the result, the flags are those of
the operation, and nothing else changes (41_arithmetic.md R550 to R555, 42_logical_shift_bit.md R620). -/
def Obligations.BinaryToDestination : Prop :=
  ∀ (o : BinOp) (f : ToForm) (s : State) (p : Place) (s1 : State) (d : BitVec (f.width s)) (s2 : State),
    locate (f.width s) f.dst .rw s.enter = .ok p s1 → p.get (f.width s) s1 = .ok d s2 →
    ∃ (fl : Flags) (n : Nat) (t : State),
      Ran (o.instr f) s t ∧
      o.flags s2.flags d (f.src (f.width s) s2.regs) fl ∧
      PutAt p (f.width s) (o.result s2.flags.cf d (f.src (f.width s) s2.regs)) { s2 with flags := fl, draws := n } t

/-- `op G, E` of the same operations (14 instructions): the register of ModR/M.reg holds the result; memory is as it was after the source was
read (R550). -/
def Obligations.BinaryToRegister : Prop :=
  ∀ (o : BinOp) (byte : Bool) (rm : RM) (r : Reg) (s : State) (p : Place) (s1 : State) (v : BitVec (width byte s)) (s2 : State),
    locate (width byte s) rm .r s.enter = .ok p s1 → p.get (width byte s) s1 = .ok v s2 →
    ∃ (fl : Flags) (n : Nat),
      o.flags s2.flags (s2.regs.read (width byte s) r) v fl ∧
      Ran (o.fromInstr byte rm r) s
        { s2 with
          flags := fl, draws := n
          regs := s2.regs.write (width byte s) r (o.result s2.flags.cf (s2.regs.read (width byte s) r) v) }

/-- CMP and TEST, every form (15 instructions): they only change flags; CMP those of a subtraction, TEST those of AND
(R557, R625). -/
def Obligations.CompareSetsFlags : Prop :=
  (∀ (f : ToForm) (s : State) (p : Place) (s1 : State) (d : BitVec (f.width s)) (s2 : State),
    locate (f.width s) f.dst .r s.enter = .ok p s1 → p.get (f.width s) s1 = .ok d s2 →
    Ran (cmpInstr f) s { s2 with flags := s2.flags.sub d (f.src (f.width s) s2.regs) false } ∧
    ∀ i, testInstr f = some i → ∃ (fl : Flags) (n : Nat),
      BinOp.and.flags s2.flags d (f.src (f.width s) s2.regs) fl ∧ Ran i s { s2 with flags := fl, draws := n }) ∧
  ∀ (byte : Bool) (rm : RM) (r : Reg) (s : State) (p : Place) (s1 : State) (v : BitVec (width byte s)) (s2 : State),
    locate (width byte s) rm .r s.enter = .ok p s1 → p.get (width byte s) s1 = .ok v s2 →
    Ran (if byte then .cmpR8Rm8 rm r else .cmpRRm rm r) s
      { s2 with flags := s2.flags.sub (s2.regs.read (width byte s) r) v false }

/-- INC, DEC, NEG, NOT (10 instructions): INC and DEC preserve CF, NOT changes no flag (R554, R556, R558, R624). -/
def Obligations.UnaryReadModifyWrite : Prop :=
  (∀ (o : UnOp) (byte : Bool) (rm : RM) (s : State) (p : Place) (s1 : State) (d : BitVec (width byte s)) (s2 : State),
    locate (width byte s) rm .rw s.enter = .ok p s1 → p.get (width byte s) s1 = .ok d s2 →
    ∃ t : State,
      Ran (o.instr byte rm) s t ∧
      PutAt p (width byte s) (o.result d) { s2 with flags := o.flags s2.flags d } t) ∧
  ∀ (r : Reg) (s : State),
    let d : BitVec s.os.bits := s.regs.read s.os.bits r
    Ran (.incR r) s { s.enter with flags := UnOp.inc.flags s.flags d, regs := s.regs.write s.os.bits r (d + 1) } ∧
    Ran (.decR r) s { s.enter with flags := UnOp.dec.flags s.flags d, regs := s.regs.write s.os.bits r (d - 1) }

/-- Shifts and rotates (42 instructions): the count is masked to five bits; a count of 0 writes nothing and changes no flag; otherwise the
result is that of `c` single-bit shifts, and CF is the last bit out (R630 to R633, R636 to R639). That a count of 0 checks the operand as written
too is the model's choice (notes/assumptions/51.md). -/
def Obligations.ShiftAndRotate : Prop :=
  ∀ (o : ShOp) (byte : Bool) (rm : RM) (k : Count) (s : State) (p : Place) (s1 : State) (d : BitVec (width byte s)) (s2 : State),
    locate (width byte s) rm .rw s.enter = .ok p s1 → p.get (width byte s) s1 = .ok d s2 →
    if k.value s2 = 0 then Ran (o.instr byte rm k) s s2
    else ∃ (fl : Flags) (n : Nat) (t : State),
      Ran (o.instr byte rm k) s t ∧
      o.flags s2.flags d (o.times (k.value s2) (d, s2.flags.cf)).1 (k.value s2) (o.times (k.value s2) (d, s2.flags.cf)).2 fl ∧
      PutAt p (width byte s) (o.times (k.value s2) (d, s2.flags.cf)).1 { s2 with flags := fl, draws := n } t

/-- SHLD and SHRD (4 instructions): within the width the destination is filled from the source register; past it (a word operand, count above
16) the instruction completes with an open result and open status flags (R634, R635). That a count of 0 checks the operand as written too is the
model's choice (notes/assumptions/51.md). -/
def Obligations.DoubleShift : Prop :=
  ∀ (left : Bool) (rm : RM) (r : Reg) (k : Count) (i : Instr) (s : State) (p : Place) (s1 : State) (d : BitVec s.os.bits) (s2 : State),
    doubleInstr left rm r k = some i →
    locate s.os.bits rm .rw s.enter = .ok p s1 → p.get s.os.bits s1 = .ok d s2 →
    if k.value s2 = 0 then Ran i s s2
    else ∃ (fl : Flags) (n : Nat) (v : BitVec s.os.bits) (t : State),
      Ran i s t ∧ onlyStatus s2.flags fl ∧ PutAt p s.os.bits v { s2 with flags := fl, draws := n } t ∧
      (k.value s2 ≤ s.os.bits →
        (∀ j, j < s.os.bits → v.getLsbD j =
          if left then (if j < k.value s2 then (s2.regs.read s.os.bits r).getLsbD (s.os.bits - k.value s2 + j) else d.getLsbD (j - k.value s2))
          else (if j + k.value s2 < s.os.bits then d.getLsbD (j + k.value s2)
            else (s2.regs.read s.os.bits r).getLsbD (j + k.value s2 - s.os.bits))) ∧
        fl.cf = d.getLsbD (if left then s.os.bits - k.value s2 else k.value s2 - 1) ∧
        (k.value s2 = 1 → fl.of = (v.msb != d.msb)) ∧
        fl.sf = v.msb ∧ fl.zf = (v == 0) ∧ fl.pf = evenParity (v.setWidth 8))

/-- BT, BTS, BTR, BTC (8 instructions): CF is the selected bit, then the bit takes its new value; a register offset into memory selects the
operand that holds the bit, which may lie below or above the address (R660 to R664). That a register offset tests alignment 4 at every operand size
(the bit string of R335) and an immediate one that of the operand is the model's choice (notes/assumptions/10.md). -/
def Obligations.BitTestAndModify : Prop :=
  (∀ (o : BtOp) (rm : RM) (imm : BitVec 8) (s : State) (p : Place) (s1 : State) (d : BitVec s.os.bits) (s2 : State),
    locate s.os.bits rm o.kind s.enter = .ok p s1 → p.get s.os.bits s1 = .ok d s2 →
    ∃ (fl : Flags) (n : Nat) (t : State),
      Ran (o.instrI rm imm) s t ∧ onlyStatus s2.flags fl ∧ fl.cf = d.getLsbD (imm.toNat % s.os.bits) ∧
      o.Wrote p s.os.bits d (imm.toNat % s.os.bits) { s2 with flags := fl, draws := n } t) ∧
  (∀ (o : BtOp) (x r : Reg) (s : State),
    let d : BitVec s.os.bits := s.regs.read s.os.bits x
    let i := (s.regs.read s.os.bits r).toNat % s.os.bits
    ∃ (fl : Flags) (n : Nat) (t : State),
      Ran (o.instrR (.reg x) r) s t ∧ onlyStatus s.flags fl ∧ fl.cf = d.getLsbD i ∧
      o.Wrote (.reg x) s.os.bits d i { s.enter with flags := fl, draws := n } t) ∧
  ∀ (o : BtOp) (m : MemOp) (r : Reg) (s : State) (ps : List Word) (s1 : State) (d : BitVec s.os.bits) (s2 : State),
    let off := (s.regs.read s.os.bits r).toInt
    let ea := s.eaOff m + BitVec.ofInt 32 (((s.os.bits / 8 : Nat) : Int) * (off / (s.os.bits : Int)))
    access s.as (s.eaSeg m) (if s.as = .s16 then ea &&& 0xFFFF else ea) (s.os.bits / 8) 4 o.kind s.enter = .ok ps s1 →
    (Place.mem ps).get s.os.bits s1 = .ok d s2 →
    ∃ (fl : Flags) (n : Nat) (t : State),
      Ran (o.instrR (.mem m) r) s t ∧ onlyStatus s2.flags fl ∧ fl.cf = d.getLsbD (off % (s.os.bits : Int)).toNat ∧
      o.Wrote (.mem ps) s.os.bits d (off % (s.os.bits : Int)).toNat { s2 with flags := fl, draws := n } t

/-- BSF, BSR and SETcc (3 instructions): ZF says whether the source is 0; otherwise the destination is the index of the least or the
greatest set bit; a zero source leaves the destination open and the instruction completes (R665, R666). SETcc writes 1 or 0 and no flag
(R670), by the condition table of 43_control_transfer.md R710, which the last clause gives whole. -/
def Obligations.BitScanAndSet : Prop :=
  (∀ (rm : RM) (r : Reg) (up : Bool) (s : State) (p : Place) (s1 : State) (v : BitVec s.os.bits) (s2 : State),
    locate s.os.bits rm .r s.enter = .ok p s1 → p.get s.os.bits s1 = .ok v s2 →
    ∃ (fl : Flags) (n : Nat) (x : BitVec s.os.bits),
      Ran (if up then .bsfRRm rm r else .bsrRRm rm r) s { s2 with flags := fl, draws := n, regs := s2.regs.write s.os.bits r x } ∧
      onlyStatus s2.flags fl ∧ fl.zf = (v == 0) ∧
      (v ≠ 0 → v.getLsbD x.toNat = true ∧ ∀ j, (if up then j < x.toNat else x.toNat < j) → v.getLsbD j = false)) ∧
  (∀ (cc : Cond) (rm : RM) (s : State) (p : Place) (s1 : State),
    locate 8 rm .w s.enter = .ok p s1 →
    ∃ t : State, Ran (.setccRm8 cc rm) s t ∧ PutAt p 8 (if Cond.holds s.flags cc then 1 else 0) s1 t) ∧
  ∀ (f : Flags) (cc : Cond), Cond.holds f cc =
    match cc.num.toNat with
    | 0 => f.of
    | 1 => !f.of
    | 2 => f.cf
    | 3 => !f.cf
    | 4 => f.zf
    | 5 => !f.zf
    | 6 => f.cf || f.zf
    | 7 => !(f.cf || f.zf)
    | 8 => f.sf
    | 9 => !f.sf
    | 10 => f.pf
    | 11 => !f.pf
    | 12 => f.sf != f.of
    | 13 => f.sf == f.of
    | 14 => (f.sf != f.of) || f.zf
    | _ => !((f.sf != f.of) || f.zf)

/-- MUL and IMUL (7 instructions): the accumulator forms give the double-length product, the others the product cut to the width; CF = OF says
whether the upper half is significant; the other status flags are open (R559, R562). -/
def Obligations.Multiply : Prop :=
  (∀ (signed byte : Bool) (rm : RM) (s : State) (p : Place) (s1 : State) (v : BitVec (width byte s)) (s2 : State),
    locate (width byte s) rm .r s.enter = .ok p s1 → p.get (width byte s) s1 = .ok v s2 →
    let a : BitVec (width byte s) := s2.regs.read (width byte s) .eax
    let prod : Int := if signed then a.toInt * v.toInt else (a.toNat * v.toNat : Nat)
    ∃ (g : GRegs) (fl : Flags) (n : Nat),
      Ran (match signed, byte with
        | false, true => .mulRm8 rm
        | false, false => .mulRm rm
        | true, true => .imulRm8 rm
        | true, false => .imulRm rm) s { s2 with regs := g, flags := fl, draws := n } ∧
      onlyStatus s2.flags fl ∧ fl.cf = fl.of ∧
      (if byte then g = s2.regs.write 16 .eax (BitVec.ofInt 16 prod)
       else g = (s2.regs.write (width byte s) .eax (BitVec.ofInt (width byte s) prod)).write (width byte s) .edx
         (BitVec.ofInt (width byte s) (prod / 2 ^ width byte s))) ∧
      (fl.cf = false ↔ if signed then prod = (BitVec.ofInt (width byte s) prod).toInt else prod < 2 ^ width byte s)) ∧
  ∀ (rm : RM) (r : Reg) (s : State) (p : Place) (s1 : State) (v : BitVec s.os.bits) (s2 : State),
    locate s.os.bits rm .r s.enter = .ok p s1 → p.get s.os.bits s1 = .ok v s2 →
    ∀ i b, (i = .imulRRm rm r ∧ b = s2.regs.read s.os.bits r) ∨ (∃ imm, i = .imulRRmImm rm r imm ∧ b = imm.setWidth s.os.bits) ∨
        (∃ imm, i = .imulRRmSImm8 rm r imm ∧ b = imm.signExtend s.os.bits) →
      ∃ (fl : Flags) (n : Nat),
        Ran i s { s2 with flags := fl, draws := n, regs := s2.regs.write s.os.bits r (v * b) } ∧
        onlyStatus s2.flags fl ∧ fl.cf = fl.of ∧ (fl.cf = false ↔ v.toInt * b.toInt = (v * b).toInt)

/-- DIV and IDIV (4 instructions): quotient and remainder of the double-length accumulator, all status flags open; a zero divisor or a quotient
that does not fit raises #DE, and then nothing has happened (R560, R561, 60_exceptions.md R1225). -/
def Obligations.Divide : Prop :=
  ∀ (signed byte : Bool) (rm : RM) (s : State) (p : Place) (s1 : State) (v : BitVec (width byte s)) (s2 : State),
    locate (width byte s) rm .r s.enter = .ok p s1 → p.get (width byte s) s1 = .ok v s2 →
    let w := width byte s
    let hi : BitVec w := if byte then (s2.regs.read w .esp) else s2.regs.read w .edx
    let dividend : Int :=
      if signed then (hi ++ s2.regs.read w .eax).toInt else ((hi ++ s2.regs.read w .eax).toNat : Int)
    let divisor : Int := if signed then v.toInt else (v.toNat : Int)
    let q := dividend.tdiv divisor
    let i : Instr := match signed, byte with
      | false, true => .divRm8 rm
      | false, false => .divRm rm
      | true, true => .idivRm8 rm
      | true, false => .idivRm rm
    let fits : Prop := divisor ≠ 0 ∧ if signed then -(2 ^ (w - 1)) ≤ q ∧ q < 2 ^ (w - 1) else q < 2 ^ w
    (fits → ∃ (fl : Flags) (n : Nat),
      onlyStatus s2.flags fl ∧
      Ran i s { s2 with
        flags := fl, draws := n
        regs := (s2.regs.write w .eax (BitVec.ofInt w q)).write w (if byte then .esp else .edx) (BitVec.ofInt w (dividend.tmod divisor)) }) ∧
    (¬ fits → Faults i s { vec := 0, code := none, dbg := none } s2)

/-- DAA, DAS, AAA, AAS, AAM, AAD (6 instructions), with their encodings: AL and AH after the adjustment, the flags the rules fix (R570 to R575);
AAM with a zero base raises #DE. -/
def Obligations.DecimalAdjust : Prop :=
  (∀ (os as : Size) (b : Byte), decodeOne os as [0x27] = .ok .daa [] ∧ decodeOne os as [0x2F] = .ok .das [] ∧
    decodeOne os as [0x37] = .ok .aaa [] ∧ decodeOne os as [0x3F] = .ok .aas [] ∧ decodeOne os as [0xD4, b] = .ok (.aamImm8 b) [] ∧
    decodeOne os as [0xD5, b] = .ok (.aadImm8 b) []) ∧
  ∀ s : State,
    let al := s.regs.get8 .eax
    let ah := s.regs.get8 .esp
    let low : Bool := decide (9 < al.toNat % 16) || s.flags.af
    let high : Bool := decide (0x99 < al.toNat) || s.flags.cf
    (∃ (fl : Flags) (n : Nat), onlyStatus s.flags fl ∧ fl.cf = high ∧ fl.af = low ∧
      (let r : Byte := BitVec.ofNat 8 (al.toNat + (if low then 6 else 0) + if high then 0x60 else 0)
       fl.sf = r.msb ∧ fl.zf = (r == 0) ∧ fl.pf = evenParity r ∧
       Ran .daa s { s.enter with flags := fl, draws := n, regs := s.regs.set8 .eax r })) ∧
    (∃ (fl : Flags) (n : Nat), onlyStatus s.flags fl ∧ fl.cf = (high || (low && decide (al.toNat < 6))) ∧ fl.af = low ∧
      (let r : Byte := BitVec.ofInt 8 (al.toNat - (if low then 6 else 0) - if high then 0x60 else 0)
       fl.sf = r.msb ∧ fl.zf = (r == 0) ∧ fl.pf = evenParity r ∧
       Ran .das s { s.enter with flags := fl, draws := n, regs := s.regs.set8 .eax r })) ∧
    (∃ (fl : Flags) (n : Nat) (x : Byte), onlyStatus s.flags fl ∧ fl.cf = low ∧ fl.af = low ∧
      (low = false → x = ah) ∧ (low = true → al.toNat ≤ 0xF9 → x = ah + 1) ∧
      Ran .aaa s { s.enter with
        flags := fl, draws := n
        regs := (s.regs.set8 .eax ((if low then al + 6 else al) &&& 0x0F)).set8 .esp x }) ∧
    (∃ (fl : Flags) (n : Nat) (x : Byte), onlyStatus s.flags fl ∧ fl.cf = low ∧ fl.af = low ∧
      (low = false → x = ah) ∧ (low = true → 6 ≤ al.toNat → x = ah - 1) ∧
      Ran .aas s { s.enter with
        flags := fl, draws := n
        regs := (s.regs.set8 .eax ((if low then al - 6 else al) &&& 0x0F)).set8 .esp x }) ∧
    (∀ imm : BitVec 8, imm ≠ 0 → ∃ (fl : Flags) (n : Nat), onlyStatus s.flags fl ∧
      (let r : Byte := BitVec.ofNat 8 (al.toNat % imm.toNat)
       fl.sf = r.msb ∧ fl.zf = (r == 0) ∧ fl.pf = evenParity r ∧
       Ran (.aamImm8 imm) s { s.enter with
         flags := fl, draws := n, regs := (s.regs.set8 .esp (BitVec.ofNat 8 (al.toNat / imm.toNat))).set8 .eax r })) ∧
    Faults (.aamImm8 0) s { vec := 0, code := none, dbg := none } s.enter ∧
    (∀ imm : BitVec 8, ∃ (fl : Flags) (n : Nat), onlyStatus s.flags fl ∧
      (let r : Byte := BitVec.ofNat 8 (al.toNat + ah.toNat * imm.toNat)
       fl.sf = r.msb ∧ fl.zf = (r == 0) ∧ fl.pf = evenParity r ∧
       Ran (.aadImm8 imm) s { s.enter with flags := fl, draws := n, regs := (s.regs.set8 .eax r).set8 .esp 0 }))

/-- MOV between registers, r/m operands, immediates and memory offsets, MOVSX, MOVZX, LEA and XLAT (18 instructions): the destination holds the
value and no flag changes (40_data_movement.md R509, R510, R517, R518, R521, 45_flag_segment_misc.md R861). -/
def Obligations.MoveData : Prop :=
  (∀ (byte : Bool) (rm : RM) (s : State) (p : Place) (s1 : State) (x : BitVec (width byte s)) (i : Instr),
    locate (width byte s) rm .w s.enter = .ok p s1 →
    ((∃ r, i = (if byte then .movRm8R8 rm r else .movRmR rm r) ∧ x = s.regs.read (width byte s) r) ∨
      (byte = true ∧ ∃ imm, i = .movRm8Imm8 rm imm ∧ x = imm.setWidth (width byte s)) ∨
      (byte = false ∧ ∃ imm, i = .movRmImm rm imm ∧ x = imm.setWidth (width byte s))) →
    ∃ t, Ran i s t ∧ PutAt p (width byte s) x s1 t) ∧
  (∀ (byte : Bool) (rm : RM) (r : Reg) (s : State) (p : Place) (s1 : State) (x : BitVec (width byte s)) (s2 : State),
    locate (width byte s) rm .r s.enter = .ok p s1 → p.get (width byte s) s1 = .ok x s2 →
    Ran (if byte then .movR8Rm8 rm r else .movRRm rm r) s { s2 with regs := s2.regs.write (width byte s) r x }) ∧
  (∀ (r : Reg) (s : State),
    (∀ imm, Ran (.movR8Imm8 r imm) s { s.enter with regs := s.regs.write 8 r imm }) ∧
    (∀ imm, Ran (.movRImm r imm) s { s.enter with regs := s.regs.write s.os.bits r (imm.setWidth s.os.bits) }) ∧
    ∀ m, Ran (.leaRM m r) s { s.enter with regs := s.regs.write s.os.bits r ((s.eaOff m).setWidth s.os.bits) }) ∧
  (∀ (byte : Bool) (off : BitVec 32) (s : State) (ps : List Word) (s1 : State),
    (access s.as (s.segOr .ds) off (width byte s / 8) (width byte s / 8) .r s.enter = .ok ps s1 →
      ∀ v s2, load ps s1 = .ok v s2 →
      Ran (if byte then .movAlMoffs8 off else .movEaxMoffs off) s
        { s2 with regs := s2.regs.write (width byte s) .eax (BitVec.ofNat (width byte s) v) }) ∧
    (access s.as (s.segOr .ds) off (width byte s / 8) (width byte s / 8) .w s.enter = .ok ps s1 →
      ∃ t, Ran (if byte then .movMoffs8Al off else .movMoffsEax off) s t ∧
        Stored ps (s.regs.read (width byte s) .eax).toNat s1 t)) ∧
  (∀ (n : Nat) (rm : RM) (r : Reg) (s : State) (p : Place) (s1 : State) (v : BitVec n) (s2 : State),
    locate n rm .r s.enter = .ok p s1 → p.get n s1 = .ok v s2 →
    (n = 8 → Ran (.movsxRRm8 rm r) s { s2 with regs := s2.regs.write s.os.bits r (v.signExtend s.os.bits) } ∧
      Ran (.movzxRRm8 rm r) s { s2 with regs := s2.regs.write s.os.bits r (v.setWidth s.os.bits) }) ∧
    (n = 16 → Ran (.movsxR32Rm16 rm r) s { s2 with regs := s2.regs.write s.os.bits r (v.signExtend s.os.bits) } ∧
      Ran (.movzxR32Rm16 rm r) s { s2 with regs := s2.regs.write s.os.bits r (v.setWidth s.os.bits) })) ∧
  ∀ (s : State) (ps : List Word) (s1 : State) (v : Nat) (s2 : State),
    access s.as (s.segOr .ds) (if s.as = .s16 then (s.regs.ebx + (s.regs.get8 .eax).setWidth 32) &&& 0xFFFF
      else s.regs.ebx + (s.regs.get8 .eax).setWidth 32) 1 1 .r s.enter = .ok ps s1 →
    load ps s1 = .ok v s2 → Ran .xlat s { s2 with regs := s2.regs.set8 .eax (BitVec.ofNat 8 v) }

/-- NOP, CBW/CWDE, CWD/CDQ, BSWAP, LAHF, SAHF, CPUID, XCHG with the accumulator (8 instructions) always complete and touch only the registers and
flags their rules name (45_flag_segment_misc.md R860, R815, R816, R850; 40_data_movement.md R519, R522, R512, R513). The bits of AH that
LAHF leaves undefined, BSWAP of a 16-bit register and the reserved CPUID outputs are not stated. -/
def Obligations.RegisterOnly : Prop :=
  ∀ s : State,
    Ran .nop s s.enter ∧
    Ran .cbw s { s.enter with regs := s.regs.write s.os.bits .eax ((s.regs.read (s.os.bits / 2) .eax).signExtend s.os.bits) } ∧
    Ran .cwd s { s.enter with regs := s.regs.write s.os.bits .edx (BitVec.ofInt s.os.bits (if (s.regs.read s.os.bits .eax).msb then -1 else 0)) } ∧
    (∀ r : Reg, ∃ (n : Nat) (x : Half),
      Ran (.bswapR32 r) s { s.enter with
        draws := n
        regs := if s.os = .s16 then s.regs.write 16 r x
          else s.regs.set r (BitVec.ofNat 32 ((s.regs.get r).toNat / 2 ^ 24 + (s.regs.get r).toNat / 2 ^ 16 % 256 * 2 ^ 8 +
            (s.regs.get r).toNat / 2 ^ 8 % 256 * 2 ^ 16 + (s.regs.get r).toNat % 256 * 2 ^ 24)) }) ∧
    (∃ a : Byte, Ran .lahf s { s.enter with regs := s.regs.set8 .esp a } ∧
      a.getLsbD 7 = s.flags.sf ∧ a.getLsbD 6 = s.flags.zf ∧ a.getLsbD 4 = s.flags.af ∧ a.getLsbD 2 = s.flags.pf ∧ a.getLsbD 0 = s.flags.cf) ∧
    (let a := s.regs.get8 .esp
     Ran .sahf s { s.enter with flags := { s.flags with
       sf := a.getLsbD 7, zf := a.getLsbD 6, af := a.getLsbD 4, pf := a.getLsbD 2, cf := a.getLsbD 0 } }) ∧
    (∃ (a b c d : Word) (n : Nat),
      Ran .cpuid s { s.enter with draws := n, regs := { s.regs with eax := a, ebx := b, ecx := c, edx := d } } ∧
      (s.regs.eax = 0 → a = 1 ∧ b = 0x756E6547 ∧ d = 0x49656E69 ∧ c = 0x6C65746E) ∧
      (s.regs.eax = 1 → a = 0x500 + 16 * Config.cpuidModel.setWidth 32 + Config.cpuidStepping.setWidth 32 ∧ d = Config.cpuidFeatures)) ∧
    ∀ r : Reg, Ran (.xchgEaxR r) s { s.enter with
      regs := (s.regs.write s.os.bits .eax (s.regs.read s.os.bits r)).write s.os.bits r (s.regs.read s.os.bits .eax) }

/-- XCHG, XADD, CMPXCHG and CMPXCHG8B with an r/m operand (7 instructions): what goes to the operand and what to the registers
(R513 to R516). -/
def Obligations.ExchangeWithOperand : Prop :=
  (∀ (byte : Bool) (rm : RM) (r : Reg) (s : State) (p : Place) (s1 : State) (d : BitVec (width byte s)) (s2 : State),
    locate (width byte s) rm .rw s.enter = .ok p s1 → p.get (width byte s) s1 = .ok d s2 →
    let w := width byte s
    let v : BitVec w := s2.regs.read w r
    let a : BitVec w := s2.regs.read w .eax
    (∃ u, PutAt p w v s2 u ∧ Ran (if byte then .xchgRm8R8 rm r else .xchgRmR rm r) s { u with regs := u.regs.write w r d }) ∧
    (∃ t, PutAt p w (d + v) { s2 with flags := s2.flags.add d v false, regs := s2.regs.write w r d } t ∧
      Ran (if byte then .xaddRm8R8 rm r else .xaddRmR rm r) s t) ∧
    ∃ u, PutAt p w (if a = d then v else d) { s2 with flags := s2.flags.sub a d false } u ∧
      Ran (if byte then .cmpxchgRm8R8 rm r else .cmpxchgRmR rm r) s (if a = d then u else { u with regs := u.regs.write w .eax d })) ∧
  ∀ (m : MemOp) (s : State) (ps : List Word) (s1 : State) (v : Nat) (s2 : State),
    access s.as (s.eaSeg m) (s.eaOff m) 8 8 .rw s.enter = .ok ps s1 → load ps s1 = .ok v s2 →
    let hit : Bool := v == s2.regs.edx.toNat * 2 ^ 32 + s2.regs.eax.toNat
    ∃ u, Stored ps (if hit then s2.regs.ecx.toNat * 2 ^ 32 + s2.regs.ebx.toNat else v) { s2 with flags := { s2.flags with zf := hit } } u ∧
      Ran (.cmpxchg8bM64 m) s (if hit then u else { u with
        regs := { u.regs with edx := BitVec.ofNat 32 (v / 2 ^ 32), eax := BitVec.ofNat 32 v } })

/-- PUSH of every operand, PUSHF and PUSHA (12 instructions): the value is read before (E)SP moves, the slot below the top is written, (E)SP
goes down by the size; PUSHF pushes RF and VM as 0, and faults with #GP(0) in virtual-8086 mode with IOPL below 3 (R503, R504, R506, R817,
20_memory.md R220). -/
def Obligations.PushStack : Prop :=
  (∀ s : State, s.v86 = true → s.flags.iopl ≠ 3 → Faults .pushf s gp0 s.enter) ∧
  (∀ (i : Instr) (v : Word) (s : State) (ps : List Word) (s1 : State),
    ((i, v) ∈ pushes s ∨ (∃ r, i = .pushR r ∧ v = s.regs.get r) ∨ (∃ imm, i = .pushImm imm ∧ v = imm) ∨
      (∃ imm, i = .pushSImm8 imm ∧ v = imm.signExtend 32) ∨
      (i = .pushf ∧ (s.v86 = true → s.flags.iopl = 3) ∧ v = { s.flags with rf := false, vm := false }.word)) →
    access s.ss .ss (wrapSp s.ss (s.spOff - BitVec.ofNat 32 s.os.bytes)) s.os.bytes s.os.bytes .w s.enter = .ok ps s1 →
    ∃ u, Stored ps (v.toNat % 2 ^ s.os.bits) s1 u ∧ Ran i s (withSp u (s.spOff - BitVec.ofNat 32 s.os.bytes))) ∧
  (∀ (rm : RM) (s : State) (p : Place) (s1 : State) (v : BitVec s.os.bits) (s2 : State) (ps : List Word) (s3 : State),
    locate s.os.bits rm .r s.enter = .ok p s1 → p.get s.os.bits s1 = .ok v s2 →
    access s.ss .ss (wrapSp s.ss (s.spOff - BitVec.ofNat 32 s.os.bytes)) s.os.bytes s.os.bytes .w s2 = .ok ps s3 →
    ∃ u, Stored ps v.toNat s3 u ∧ Ran (.pushRm rm) s (withSp u (s.spOff - BitVec.ofNat 32 s.os.bytes))) ∧
  ∀ (s : State) (slots : List (List Word)) (s1 : State),
    pushSlots s.ss s.os.bytes s.spOff 8 s.enter = .ok slots s1 →
    ∃ u, StoredAll slots (pushaValues s.os.bits s.regs) s1 u ∧ Ran .pusha s (withSp u (s.spOff - BitVec.ofNat 32 (8 * s.os.bytes)))

/-- POP to a register or an r/m operand, POPF and POPA (4 instructions): (E)SP has moved when the destination is written and addressed; POPA
checks the slot of the saved (E)SP and does not read it; POPF changes IOPL only at level 0, IF only at a level that IOPL allows, never RF, VM, VIF, VIP,
and faults with #GP(0) in virtual-8086 mode with IOPL below 3 (R505, R507, R820). -/
def Obligations.PopStack : Prop :=
  (∀ s : State, s.v86 = true → s.flags.iopl ≠ 3 → Faults .popf s gp0 s.enter) ∧
  (∀ (s : State) (ps : List Word) (s1 : State) (v : Nat) (s2 : State),
    access s.ss .ss (wrapSp s.ss s.spOff) s.os.bytes s.os.bytes .r s.enter = .ok ps s1 → load ps s1 = .ok v s2 →
    let u := withSp s2 (s.spOff + BitVec.ofNat 32 s.os.bytes)
    (∀ r, Ran (.popR r) s { u with regs := u.regs.write s.os.bits r (BitVec.ofNat s.os.bits v) }) ∧
    (∀ rm p s3, locate s.os.bits rm .w u = .ok p s3 →
      ∃ t, PutAt p s.os.bits (BitVec.ofNat s.os.bits v) s3 t ∧ Ran (.popRm rm) s t) ∧
    ((s.v86 = true → s.flags.iopl = 3) → ∃ f : Flags, Ran .popf s { u with flags := f } ∧
      f.cf = v.testBit 0 ∧ f.pf = v.testBit 2 ∧ f.af = v.testBit 4 ∧ f.zf = v.testBit 6 ∧ f.sf = v.testBit 7 ∧ f.tf = v.testBit 8 ∧
      f.df = v.testBit 10 ∧ f.of = v.testBit 11 ∧ f.nt = v.testBit 14 ∧
      f.iopl = (if s.pe = false ∨ (s.flags.vm = false ∧ s.cpl = 0) then BitVec.ofNat 2 (v / 2 ^ 12) else s.flags.iopl) ∧
      f.ifl = (if (if s.pe then if s.flags.vm then 3 else s.cpl.toNat else 0) ≤ s.flags.iopl.toNat then v.testBit 9 else s.flags.ifl) ∧
      f.ac = (if s.os = .s32 then v.testBit 18 else s.flags.ac) ∧ f.id = (if s.os = .s32 then v.testBit 21 else s.flags.id) ∧
      f.rf = s.flags.rf ∧ f.vm = s.flags.vm ∧ f.vif = s.flags.vif ∧ f.vip = s.flags.vip)) ∧
  ∀ (s : State) (low high : List (BitVec s.os.bits)) (s1 s2 s3 : State) (x : Word × List Word),
    peekSlots s.os.bits 3 0 s.enter = .ok low s1 →
    checkIf s.ss .ss (wrapSp s.ss (s.spOff + BitVec.ofNat 32 (3 * s.os.bytes))) s.os.bytes (fun lin => lin % s.os.bytes == 0) .r s1 = .ok x s2 →
    peekSlots s.os.bits 4 4 s2 = .ok high s3 →
    ∃ di si bp bx dx cx ax : BitVec s.os.bits, low = [di, si, bp] ∧ high = [bx, dx, cx, ax] ∧
      Ran .popa s (withSp { s3 with
        regs := ((((((s3.regs.write s.os.bits .edi di).write s.os.bits .esi si).write s.os.bits .ebp bp).write s.os.bits .ebx bx).write
          s.os.bits .edx dx).write s.os.bits .ecx cx).write s.os.bits .eax ax } (s.spOff + BitVec.ofNat 32 (8 * s.os.bytes)))

/-- MOV to and from segment registers, POP Sreg, LDS, LES, LSS, LFS, LGS (12 instructions): the selector goes through the segment load of the mode;
MOV and POP to SS inhibit events for one instruction, LSS does not; a far pointer is read in two parts, the offset first, and faults where it runs
past the last offset; MOV to CS is #UD; the upper half of a 32-bit register that
receives a selector is open (R501, R502, R508, R520). What alignment each half of a far pointer tests is the model's choice
(notes/assumptions/11.md). -/
def Obligations.SegmentRegisterMoves : Prop :=
  (∀ (sr : SReg) (rm : RM) (s : State) (p : Place) (s1 : State) (sel : BitVec 16) (s2 : State),
    locate 16 rm .r s.enter = .ok p s1 → p.get 16 s1 = .ok sel s2 →
    (∀ s3, sr ≠ .cs → loadSeg sr sel s2 = .ok () s3 → Ran (.movSregRm16 rm sr) s (shadowed sr s3))) ∧
  (∀ (rm : RM) (s : State), Faults (.movSregRm16 rm .cs) s ud6 s.enter) ∧
  (∀ (sr : SReg) (i : Instr) (s : State) (ps : List Word) (s1 : State) (v : Nat) (s2 s3 : State),
    popSegInstr sr = some i →
    access s.ss .ss (wrapSp s.ss s.spOff) s.os.bytes s.os.bytes .r s.enter = .ok ps s1 → load ps s1 = .ok v s2 →
    loadSeg sr (BitVec.ofNat 16 v) s2 = .ok () s3 →
    Ran i s (shadowed sr { s3 with
      regs := s3.regs.write s.ss.bits .esp ((s.spOff + BitVec.ofNat 32 s.os.bytes).setWidth s.ss.bits) })) ∧
  (∀ (sr : SReg) (m : MemOp) (r : Reg) (i : Instr) (s : State) (v w : Nat) (s2 s3 : State),
    loadFarInstr sr m r = some i → ReadTwice m s.os.bytes 2 s s.enter v w s2 → loadSeg sr (BitVec.ofNat 16 w) s2 = .ok () s3 →
    Ran i s { s3 with regs := s3.regs.write s.os.bits r (BitVec.ofNat s.os.bits v) }) ∧
  (∀ (sr : SReg) (m : MemOp) (r : Reg) (i : Instr) (s t : State), loadFarInstr sr m r = some i → ReadPast m s.os.bytes 2 s s.enter t →
    Faults i s (limitFault (s.eaSeg m)) t) ∧
  ∀ (sr : SReg) (rm : RM) (s : State),
    (∀ r, rm = .reg r → s.os = .s32 → ∃ (x : Half) (n : Nat),
      Ran (.movRm16Sreg rm sr) s { s.enter with draws := n, regs := s.regs.set r (x ++ (s.segs.get sr).sel) }) ∧
    (∀ p s1, ((∃ m, rm = .mem m) ∨ s.os = .s16) → locate 16 rm .w s.enter = .ok p s1 →
      ∃ t, PutAt p 16 (s.segs.get sr).sel s1 t ∧ Ran (.movRm16Sreg rm sr) s t)

/-- What loading a segment register other than CS does in each mode: real-address mode sets selector and base (21_segmentation.md R232); virtual-8086
mode gives the 8086 segment (62_v86.md R1402); in protected mode a null selector makes DS, ES, FS, GS unusable and faults for SS, a
selector outside its table faults, so does one of a wrong type or without the privilege, and one that is not present; otherwise the Accessed bit
is set in the table and the register loaded from the descriptor (23_protection.md R310, R311, 21_segmentation.md R241). That a load in
real-address mode makes an unusable register usable is the model's choice (notes/assumptions/57.md). -/
def Obligations.SegmentLoad : Prop :=
  ∀ (sr : SReg) (sel : Half) (s : State), sr ≠ .cs →
    (s.pe = false → loadSeg sr sel s = .ok () { s with
      segs := s.segs.set sr { s.segs.get sr with sel := sel, base := BitVec.ofNat 32 (16 * sel.toNat), usable := true } }) ∧
    (s.pe = true → s.flags.vm = true → loadSeg sr sel s = .ok () { s with
      segs := s.segs.set sr { sel := sel, base := BitVec.ofNat 32 (16 * sel.toNat), limit := 0xFFFF, usable := true
                              attr := { typ := 3, s := true, dpl := 3, p := true, avl := false, db := false, g := false } } }) ∧
    (s.prot = true → sel.toNat < 4 →
      if sr = .ss then loadSeg sr sel s = .error (.exc gp0) s
      else loadSeg sr sel s = .ok () { s with segs := s.segs.set sr { s.segs.get sr with sel := sel, usable := false } }) ∧
    (s.prot = true → 4 ≤ sel.toNat → inTable s sel = false → loadSeg sr sel s = .error (.exc (selFault 13 sel)) s) ∧
    ∀ (d : Desc) (s1 : State), s.prot = true → Named s sel s d s1 →
      let app := d.hi.getLsbD 12 = true
      let data : Prop := app ∧ (d.hi.getLsbD 11 = false ∨ d.hi.getLsbD 9 = true) ∧
        ((d.hi.getLsbD 11 = true ∧ d.hi.getLsbD 10 = true) ∨ (s.cpl.toNat ≤ d.dpl.toNat ∧ sel.toNat % 4 ≤ d.dpl.toNat))
      let stack : Prop := app ∧ d.hi.getLsbD 11 = false ∧ d.hi.getLsbD 9 = true ∧ d.dpl = s.cpl ∧ sel.toNat % 4 = s.cpl.toNat
      let ok : Prop := if sr = .ss then stack else data
      (¬ ok → loadSeg sr sel s = .error (.exc (selFault 13 sel)) s1) ∧
      (ok → d.hi.getLsbD 15 = false → loadSeg sr sel s = .error (.exc (selFault (if sr = .ss then 12 else 11) sel)) s1) ∧
      (ok → d.hi.getLsbD 15 = true → ∀ ps s2, accessedAt d s1 ps s2 →
        ∃ u, BitsSet ps 0x100 s2 u ∧ loadSeg sr sel s = .ok () { u with segs := u.segs.set sr (segOf (marked d) sel) })

/-- STC, CLC, CMC, CLD, STD (R800 to R804), with their encodings: each changes the one flag it names, always completes, and nothing else
changes. -/
def Obligations.FlagInstructions : Prop :=
  (∀ os as : Size, decodeOne os as [0xF9] = .ok .stc [] ∧ decodeOne os as [0xF8] = .ok .clc [] ∧ decodeOne os as [0xF5] = .ok .cmc [] ∧
    decodeOne os as [0xFC] = .ok .cld [] ∧ decodeOne os as [0xFD] = .ok .std []) ∧
  ∀ s : State,
    Ran .stc s { s.enter with flags := { s.flags with cf := true } } ∧
    Ran .clc s { s.enter with flags := { s.flags with cf := false } } ∧
    Ran .cmc s { s.enter with flags := { s.flags with cf := !s.flags.cf } } ∧
    Ran .cld s { s.enter with flags := { s.flags with df := false } } ∧
    Ran .std s { s.enter with flags := { s.flags with df := true } }

/-- CLI and STI (R810, R811): they change IF where the level in force is at most IOPL, and fault with #GP(0) and nothing else where it is not; an STI
that turns IF on keeps INTR out for one instruction. -/
def Obligations.InterruptFlag : Prop :=
  ∀ s : State,
    let level : Nat := if s.pe then if s.flags.vm then 3 else s.cpl.toNat else 0
    (level ≤ s.flags.iopl.toNat →
      Ran .cli s { s.enter with flags := { s.flags with ifl := false } } ∧
      Ran .sti s { s.enter with flags := { s.flags with ifl := true }, cur := { s.cur with setStiShadow := !s.flags.ifl } }) ∧
    (s.flags.iopl.toNat < level → Faults .cli s gp0 s.enter ∧ Faults .sti s gp0 s.enter)

/-- Near jumps (9 instructions): the target is the next instruction plus the displacement, or the operand, cut to the operand size and checked
against the CS limit; a conditional jump (its encodings included) that is not taken goes on; LOOP counts (E)CX down first and changes no flag
(43_control_transfer.md R700, R701, R711 to R715). -/
def Obligations.NearJumps : Prop :=
  (∀ (os as : Size) (cc : Cond) (r a b c d : Byte),
    decodeOne os as [0x70#8 + cc.num.setWidth 8, r] = .ok (.jccRel8 cc r) [] ∧
    decodeOne .s16 as [0x0F, 0x80#8 + cc.num.setWidth 8, a, b] = .ok (.jccRel cc ((b ++ a).setWidth 32)) [] ∧
    decodeOne .s32 as [0x0F, 0x80#8 + cc.num.setWidth 8, a, b, c, d] = .ok (.jccRel cc ((d ++ c) ++ (b ++ a))) [] ∧
    decodeOne os as [0xE0, r] = .ok (.loopneRel8 r) [] ∧ decodeOne os as [0xE1, r] = .ok (.loopeRel8 r) [] ∧
    decodeOne os as [0xE2, r] = .ok (.loopRel8 r) [] ∧ decodeOne os as [0xE3, r] = .ok (.jcxzRel8 r) []) ∧
  (∀ (s : State) (i : Instr) (d : Word),
    (∃ r8, i = .jmpRel8 r8 ∧ d = r8.signExtend 32) ∨ (∃ rel, i = .jmpRel rel ∧ d = osDisp s rel) →
    Transfers i s s.enter (nearTarget s (s.enter.eip + d))) ∧
  (∀ (s : State) (cc : Cond) (r8 : BitVec 8) (rel : BitVec 32), ∀ j ∈ condJumps s cc r8 rel,
    if j.2.1 then Transfers j.1 s s.enter (nearTarget s (s.enter.eip + j.2.2)) else Ran j.1 s s.enter) ∧
  (∀ (s : State) (r8 : BitVec 8), ∀ j ∈ loops s r8,
    let c : BitVec s.as.bits := s.regs.read s.as.bits .ecx - 1
    let u : State := { s.enter with regs := s.regs.write s.as.bits .ecx c }
    if c ≠ 0 ∧ j.2 = true then Transfers j.1 s u (nearTarget s (s.enter.eip + r8.signExtend 32)) else Ran j.1 s u) ∧
  ∀ (rm : RM) (s : State) (p : Place) (s1 : State) (v : BitVec s.os.bits) (s2 : State),
    locate s.os.bits rm .r s.enter = .ok p s1 → p.get s.os.bits s1 = .ok v s2 →
    Transfers (.jmpRm rm) s s2 (v.setWidth 32)

/-- CALL near and RET near (4 instructions): the return address is pushed after the target was checked; RET takes it back and removes the
parameters; each faults for an offset past the limit of CS (R700, R702, R703). -/
def Obligations.NearCallReturn : Prop :=
  (∀ (rel : BitVec 32) (s : State) (ps : List Word) (s1 : State),
    let t := nearTarget s (s.enter.eip + osDisp s rel)
    (t.toNat ≤ s.segs.cs.limit.toNat →
      access s.ss .ss (wrapSp s.ss (s.spOff - BitVec.ofNat 32 s.os.bytes)) s.os.bytes s.os.bytes .w s.enter = .ok ps s1 →
      ∃ u, Stored ps s.enter.eip.toNat s1 u ∧
        Ran (.callRel rel) s { withSp u (s.spOff - BitVec.ofNat 32 s.os.bytes) with eip := t }) ∧
    (s.segs.cs.limit.toNat < t.toNat → Faults (.callRel rel) s gp0 s.enter)) ∧
  (∀ (rm : RM) (s : State) (p : Place) (s1 : State) (v : BitVec s.os.bits) (s2 : State) (ps : List Word) (s3 : State),
    locate s.os.bits rm .r s.enter = .ok p s1 → p.get s.os.bits s1 = .ok v s2 →
    (v.toNat ≤ s.segs.cs.limit.toNat →
      access s.ss .ss (wrapSp s.ss (s.spOff - BitVec.ofNat 32 s.os.bytes)) s.os.bytes s.os.bytes .w s2 = .ok ps s3 →
      ∃ u, Stored ps s.enter.eip.toNat s3 u ∧
        Ran (.callRm rm) s { withSp u (s.spOff - BitVec.ofNat 32 s.os.bytes) with eip := v.setWidth 32 }) ∧
    (s.segs.cs.limit.toNat < v.toNat → Faults (.callRm rm) s gp0 s2)) ∧
  ∀ (i : Instr) (n : BitVec 16) (s : State) (ps : List Word) (s1 : State) (v : Nat) (s2 : State),
    (i = .ret ∧ n = 0) ∨ i = .retImm16 n →
    access s.ss .ss (wrapSp s.ss s.spOff) s.os.bytes s.os.bytes .r s.enter = .ok ps s1 → load ps s1 = .ok v s2 →
    (v ≤ s.segs.cs.limit.toNat →
      Ran i s { withSp s2 (s.spOff + BitVec.ofNat 32 s.os.bytes + n.setWidth 32) with eip := BitVec.ofNat 32 v }) ∧
    (s.segs.cs.limit.toNat < v → Faults i s gp0 s2)

/-- Far JMP, CALL, RET and IRET outside protected mode (7 instructions): CS takes the selector, its base is 16 times that; offsets above FFFFH
fault, in SMM those above the CS limit (which bound applies there is the model's choice, notes/assumptions/15.md, and so is the alignment that each
half of a pointer in memory tests, notes/assumptions/11.md); IRET restores the flags of its operand size and ends the NMI-blocked state, and in
virtual-8086 mode with IOPL below 3 it faults (R704 to R706, R730, 62_v86.md R1412). -/
def Obligations.FarTransfersReal : Prop :=
  ∀ (s : State), s.prot = false →
    (∀ (off : Word) (sel : Half),
      (realBound s < (nearTarget s off).toNat → Faults (.jmpPtr off sel) s gp0 s.enter ∧ Faults (.callPtr off sel) s gp0 s.enter) ∧
      ((nearTarget s off).toNat ≤ realBound s →
        Ran (.jmpPtr off sel) s (withCs s.enter (realCs s sel) (nearTarget s off)) ∧
        ∀ slots s1, pushSlots s.ss s.os.bytes s.spOff 2 s.enter = .ok slots s1 →
          ∃ u, StoredAll slots [s.segs.cs.sel.toNat, s.enter.eip.toNat] s1 u ∧
            Ran (.callPtr off sel) s
              (withCs (withSp u (s.spOff - BitVec.ofNat 32 (2 * s.os.bytes))) (realCs s sel) (nearTarget s off)))) ∧
    (∀ (m : MemOp) (v w : Nat) (s2 : State), ReadTwice m s.os.bytes 2 s s.enter v w s2 →
      let sel : Half := BitVec.ofNat 16 w
      let off : Word := BitVec.ofNat 32 v
      (realBound s < v → Faults (.jmpFar m) s gp0 s2 ∧ Faults (.callFar m) s gp0 s2) ∧
      (v ≤ realBound s →
        Ran (.jmpFar m) s (withCs s2 (realCs s sel) off) ∧
        ∀ slots s3, pushSlots s.ss s.os.bytes s.spOff 2 s2 = .ok slots s3 →
          ∃ u, StoredAll slots [s.segs.cs.sel.toNat, s.enter.eip.toNat] s3 u ∧
            Ran (.callFar m) s (withCs (withSp u (s.spOff - BitVec.ofNat 32 (2 * s.os.bytes))) (realCs s sel) off))) ∧
    (∀ (i : Instr) (n : BitVec 16) (ip : Word) (s1 : State) (cs : Word) (s2 : State),
      (i = .retf ∧ n = 0) ∨ i = .retfImm16 n →
      slot s.os.bytes 0 0 s.enter = .ok ip s1 → slot s.os.bytes 1 0 s1 = .ok cs s2 →
      (realBound s < ip.toNat → Faults i s gp0 s2) ∧
      (ip.toNat ≤ realBound s →
        Ran i s (withCs (withSp s2 (s.spOff + BitVec.ofNat 32 (2 * s.os.bytes) + n.setWidth 32)) (realCs s (cs.setWidth 16)) ip))) ∧
    (s.v86 = true → s.flags.iopl ≠ 3 → Faults .iret s gp0 s.enter) ∧
    ∀ (ip : Word) (s1 : State) (cs : Word) (s2 : State) (fl : Word) (s3 : State),
      (s.v86 = true → s.flags.iopl = 3) →
      slot s.os.bytes 0 0 { s.enter with nmiBlocked := false, cur := { s.cur with keepRf := true } } = .ok ip s1 →
      slot s.os.bytes 1 0 s1 = .ok cs s2 → slot s.os.bytes 2 0 s2 = .ok fl s3 →
      (realBound s < ip.toNat → Faults .iret s gp0 s3) ∧
      (ip.toNat ≤ realBound s → ∃ f : Flags,
        Ran .iret s { withCs (withSp s3 (s.spOff + BitVec.ofNat 32 (3 * s.os.bytes))) (realCs s (cs.setWidth 16)) ip with flags := f } ∧
        f.cf = fl.getLsbD 0 ∧ f.pf = fl.getLsbD 2 ∧ f.af = fl.getLsbD 4 ∧ f.zf = fl.getLsbD 6 ∧ f.sf = fl.getLsbD 7 ∧
        f.tf = fl.getLsbD 8 ∧ f.ifl = fl.getLsbD 9 ∧ f.df = fl.getLsbD 10 ∧ f.of = fl.getLsbD 11 ∧ f.nt = fl.getLsbD 14 ∧
        f.iopl = (if s.pe then s.flags.iopl else fl.extractLsb' 12 2) ∧
        f.rf = (if s.os = .s32 then fl.getLsbD 16 else s.flags.rf) ∧ f.ac = (if s.os = .s32 then fl.getLsbD 18 else s.flags.ac) ∧
        f.id = (if s.os = .s32 then fl.getLsbD 21 else s.flags.id) ∧ f.vm = s.flags.vm ∧ f.vif = s.flags.vif ∧ f.vip = s.flags.vip)

/-- Far JMP, CALL, RET and IRET in protected mode (7 instructions, the memory forms included): a present code segment that is conforming and at
least as privileged, or at the current level with RPL at most CPL, is entered at the offset with RPL = CPL; a call gate leads to
its own entry point, a CALL to a more privileged level on the stack that the TSS names, with the parameters copied; a return checks its stack
frame and goes to the same level or an outer one, whose stack it takes, IRET also to virtual-8086 mode; a TSS or a task gate switches tasks.
Everything else is refused: a selector that is null, lies outside its table, or names what may not be entered (#GP), a gate, code segment or stack
segment that is not present (#NP, #SS), an offset past the limit (#GP(0)), an inner stack that the TSS does not hold or that is not of its level
(#TS) or has no room (#SS), a return frame outside the stack segment (#SS(0)), what a task switch raises before its commit
(23_protection.md R312 to R316, R325, R326, 43_control_transfer.md R704 to R706, R730, 62_v86.md R1416, 61_tasks.md R1325). The pushes of CALL
are made after all checks, in the order of the pseudocode with the loads of SS and CS (65_cache_mp.md R1531). What a task switch does is in
`GateDelivery`. The model's choices: the upper half of ESP from a 16-bit TSS (notes/assumptions/57.md), the alignment that each half of a pointer in
memory tests (notes/assumptions/11.md), when the places of the parameters of a call gate are checked (notes/assumptions/20.md), and that IRET reads
LINK whatever TR.limit is (notes/assumptions/81.md). -/
def Obligations.FarTransfersProtected : Prop :=
  ∀ s : State, s.prot = true →
    (∀ (j c : Instr) (off : Word) (sel : Half) (s1 : State), FarPointer s j c off sel s1 →
      let both (e : Exc) (t : State) : Prop := Faults j s e t ∧ Faults c s e t
      (sel.toNat < 4 → both gp0 s1) ∧ (4 ≤ sel.toNat → inTable s sel = false → both (selFault 13 sel) s1) ∧
      ∀ (d : Desc) (s2 : State), Named s sel s1 d s2 →
        -- the end of a transfer at the current level, and of a CALL with items of `n` bytes
        let enters (i : Instr) (cd : Desc) (csel : Half) (t : Word) (u : State) : Prop :=
          ∀ ps s4, accessedAt cd u ps s4 → ∃ v, BitsSet ps 0x100 s4 v ∧ Ran i s (withCs v (segOf (marked cd) (atLevel csel s.cpl)) t)
        let calls (n : Nat) (cd : Desc) (csel : Half) (t : Word) (u : State) : Prop :=
          ∀ slots s4 ps s5, pushSlots s.ss n s.spOff 2 u = .ok slots s4 → accessedAt cd s4 ps s5 →
            ∃ v w, StoredAll slots [s.segs.cs.sel.toNat, s.enter.eip.toNat] s5 v ∧ BitsSet ps 0x100 v w ∧
              Ran c s (withCs (withSp w (s.spOff - BitVec.ofNat 32 (2 * n))) (segOf (marked cd) (atLevel csel s.cpl)) t)
        -- a task switch to `tss`: one that completes, and one that raises an exception before its commit
        let switches (tss : Half) : Prop :=
          (∀ t, (taskSwitch tss .jmp s.enter.eip none s2 = .ok () t → Ran j s t) ∧ (taskSwitch tss .call s.enter.eip none s2 = .ok () t → Ran c s t)) ∧
          ∀ e t, t.cur.committed = false →
            (taskSwitch tss .jmp s.enter.eip none s2 = .error (.exc e) t → Faults j s e t) ∧
            (taskSwitch tss .call s.enter.eip none s2 = .error (.exc e) t → Faults c s e t)
        let reached : Prop := s.cpl.toNat ≤ d.dpl.toNat ∧ sel.toNat % 4 ≤ d.dpl.toNat
        -- a code segment
        (d.hi.getLsbD 12 = true →
          (¬ (codeType d ∧ directTo s sel d) → both (selFault 13 sel) s2) ∧
          (codeType d → directTo s sel d →
            (d.hi.getLsbD 15 = false → both (selFault 11 sel) s2) ∧
            (d.hi.getLsbD 15 = true → d.limit.toNat < off.toNat → both gp0 s2) ∧
            (d.hi.getLsbD 15 = true → off.toNat ≤ d.limit.toNat → enters j d sel off s2 ∧ calls s.os.bytes d sel off s2))) ∧
        -- a system descriptor: one that leads nowhere or is out of reach, a TSS, a gate
        (d.hi.getLsbD 12 = false →
          (¬ (d.typ ∈ ([1, 3, 4, 5, 9, 11, 12] : List (BitVec 4)) ∧ reached) → both (selFault 13 sel) s2) ∧
          (reached → d.typ ∈ ([1, 3, 9, 11] : List (BitVec 4)) → switches sel) ∧
          (reached → d.typ ∈ ([4, 5, 12] : List (BitVec 4)) → d.hi.getLsbD 15 = false → both (selFault 11 sel) s2) ∧
          (reached → d.typ = 5 → d.hi.getLsbD 15 = true → switches d.gateSel) ∧
          (reached → d.typ = 4 ∨ d.typ = 12 → d.hi.getLsbD 15 = true →
            (∀ e t, (CodeRefused (gateTo false s) s d.gateSel s2 e t → Faults j s e t) ∧
              (CodeRefused (gateTo true s) s d.gateSel s2 e t → Faults c s e t)) ∧
            ∀ (cd : Desc) (s3 : State), Named s d.gateSel s2 cd s3 → codeDesc cd →
              let n := if d.typ = 12 then 4 else 2
              let count := d.gateCount.toNat
              (gateTo false s cd →
                (cd.limit.toNat < d.gateOffset.toNat → both gp0 s3) ∧
                (d.gateOffset.toNat ≤ cd.limit.toNat → enters j cd d.gateSel d.gateOffset s3 ∧ calls n cd d.gateSel d.gateOffset s3)) ∧
              (cd.hi.getLsbD 10 = false → cd.dpl.toNat < s.cpl.toNat →
                (∀ e t, InnerRefused cd.dpl s3 e t → Faults c s e t) ∧
                ∀ (sd : Desc) (ssel : Half) (sp : Word) (s4 : State), InnerStack cd.dpl s3 sd ssel sp s4 →
                  let room : Prop := roomFor (switched cd.dpl sd ssel sp s4) n (4 + count)
                  (¬ room → Faults c s (selFault 12 ssel) s4) ∧ (room → cd.limit.toNat < d.gateOffset.toNat → Faults c s gp0 s4) ∧
                  (d.gateOffset.toNat ≤ cd.limit.toNat → ∀ (params : List (List Word)) (s5 : State), ParamSlots s n count s4 params s5 →
                    let u := switched cd.dpl sd ssel sp s5
                    ∀ slots s6 qs s7 ps s8, pushSlots u.ss n u.spOff (4 + count) u = .ok slots s6 → accessedAt sd s6 qs s7 → accessedAt cd s7 ps s8 →
                    -- the new stack segment is marked, then SS:ESP, the parameters one by one and CS:EIP are stored, then the code segment is marked
                    ∃ v w x y z, BitsSet qs 0x100 s8 v ∧ StoredAll slots [s.segs.ss.sel.toNat, s.regs.esp.toNat] v w ∧
                      Copied (params.zip (slots.drop 2)) w x ∧ StoredAll (slots.drop (2 + count)) [s.segs.cs.sel.toNat, s.enter.eip.toNat] x y ∧
                      BitsSet ps 0x100 y z ∧
                      Ran c s (withCs (withSp z (u.spOff - BitVec.ofNat 32 (n * (4 + count))))
                        (segOf (marked cd) (atLevel d.gateSel cd.dpl)) d.gateOffset)))))) ∧
    (∀ (i : Instr) (imm : BitVec 16), (i = .retf ∧ imm = 0) ∨ i = .retfImm16 imm →
      (¬ frameIn s (2 * s.os.bytes) → Faults i s ss0 s.enter) ∧
      ∀ (eip : Word) (s1 : State) (cs : Word) (s2 : State), frameIn s (2 * s.os.bytes) →
        slot s.os.bytes 0 0 s.enter = .ok eip s1 → slot s.os.bytes 1 0 s1 = .ok cs s2 →
        let sel : Half := cs.setWidth 16
        (∀ e t, CodeRefused (outwardTo s sel) s sel s2 e t → Faults i s e t) ∧
        ∀ (d : Desc) (s3 : State), Named s sel s2 d s3 → returnsTo s sel d →
        (sel.toNat % 4 = s.cpl.toNat →
          (d.limit.toNat < eip.toNat → Faults i s gp0 s3) ∧
          (eip.toNat ≤ d.limit.toNat → ∀ ps s4,
            accessedAt d (withSp s3 (s.spOff + BitVec.ofNat 32 (2 * s.os.bytes) + imm.setWidth 32)) ps s4 →
            ∃ u, BitsSet ps 0x100 s4 u ∧ Ran i s (withCs u (segOf (marked d) sel) eip))) ∧
        (s.cpl.toNat < sel.toNat % 4 →
          (¬ frameIn s (4 * s.os.bytes + imm.toNat) → Faults i s ss0 s3) ∧
          (frameIn s (4 * s.os.bytes + imm.toNat) → ∀ (ss : Word) (s4 : State) (esp : Word) (s5 : State),
            slot s.os.bytes 3 (imm.setWidth 32) s3 = .ok ss s4 → slot s.os.bytes 2 (imm.setWidth 32) s4 = .ok esp s5 →
            let ssel : Half := ss.setWidth 16
            (∀ e t, StackRefused (sel.toNat % 4) s ssel s5 e t → Faults i s e t) ∧
            ∀ (sd : Desc) (s6 : State), Named s ssel s5 sd s6 → stackDesc sd → sd.dpl.toNat = sel.toNat % 4 → ssel.toNat % 4 = sel.toNat % 4 →
              (d.limit.toNat < eip.toNat → Faults i s gp0 s6) ∧
              (eip.toNat ≤ d.limit.toNat → ∀ (ps : List Word) (s7 : State) (qs : List Word) (s8 : State),
                accessedAt d s6 ps s7 → accessedAt sd s7 qs s8 →
                ∃ u v, BitsSet ps 0x100 s8 u ∧ BitsSet qs 0x100 u v ∧
                  Ran i s (outward v d sel eip sd ssel (esp + imm.setWidth 32)))))) ∧
    (s.flags.nt = true → ∀ link s1 t,
      tssRead16 s.tr.base { s.enter with nmiBlocked := false, cur := { s.cur with keepRf := true } } = .ok link s1 →
      (taskSwitch link .iret s.enter.eip none s1 = .ok () t → Ran .iret s t) ∧
      ∀ e, taskSwitch link .iret s.enter.eip none s1 = .error (.exc e) t → t.cur.committed = false → Faults .iret s e t) ∧
    (s.flags.nt = false → ∀ (eip : Word) (s1 : State) (cs : Word) (s2 : State) (fl : Word) (s3 : State),
      slot s.os.bytes 0 0 { s.enter with nmiBlocked := false, cur := { s.cur with keepRf := true } } = .ok eip s1 →
      slot s.os.bytes 1 0 s1 = .ok cs s2 → slot s.os.bytes 2 0 s2 = .ok fl s3 →
      let sel : Half := cs.setWidth 16
      let v86 : Prop := s.os = .s32 ∧ fl.getLsbD 17 = true ∧ s.cpl = 0
      (¬ v86 → (∀ e t, CodeRefused (outwardTo s sel) s sel s3 e t → Faults .iret s e t) ∧
        ∀ d s4, Named s sel s3 d s4 → returnsTo s sel d →
        (sel.toNat % 4 = s.cpl.toNat →
          (d.limit.toNat < eip.toNat → Faults .iret s gp0 s4) ∧
          (eip.toNat ≤ d.limit.toNat → ∀ ps s5, accessedAt d (withSp s4 (s.spOff + BitVec.ofNat 32 (3 * s.os.bytes))) ps s5 →
            ∃ u, BitsSet ps 0x100 s5 u ∧
              Ran .iret s { withCs u (segOf (marked d) sel) eip with flags := flagsReturned s fl })) ∧
        (s.cpl.toNat < sel.toNat % 4 → ∀ (esp : Word) (s5 : State) (ss : Word) (s6 : State),
            slot s.os.bytes 3 0 s4 = .ok esp s5 → slot s.os.bytes 4 0 s5 = .ok ss s6 →
            let ssel : Half := ss.setWidth 16
            (∀ e t, StackRefused (sel.toNat % 4) s ssel s6 e t → Faults .iret s e t) ∧
            ∀ (sd : Desc) (s7 : State), Named s ssel s6 sd s7 → stackDesc sd → sd.dpl.toNat = sel.toNat % 4 → ssel.toNat % 4 = sel.toNat % 4 →
              (d.limit.toNat < eip.toNat → Faults .iret s gp0 s7) ∧
              (eip.toNat ≤ d.limit.toNat → ∀ (ps : List Word) (s8 : State) (qs : List Word) (s9 : State),
                accessedAt d { s7 with flags := flagsReturned s fl } ps s8 → accessedAt sd s8 qs s9 →
                ∃ u v, BitsSet ps 0x100 s9 u ∧ BitsSet qs 0x100 u v ∧ Ran .iret s (outward v d sel eip sd ssel esp)))) ∧
      (v86 → ¬ frameIn s 36 → Faults .iret s ss0 s3) ∧
      (v86 → ∀ (f : Nat → BitVec 32) s4, frameIn s 36 → peekSlots 32 6 3 s3 = .ok ((List.range 6).map f) s4 →
        ∃ g : Flags, Ran .iret s { s4 with
          flags := g, eip := eip, cpl := 3, regs := { s4.regs with esp := f 0 }
          segs := { cs := v86Seg sel, ss := v86Seg ((f 1).setWidth 16), es := v86Seg ((f 2).setWidth 16), ds := v86Seg ((f 3).setWidth 16)
                    fs := v86Seg ((f 4).setWidth 16), gs := v86Seg ((f 5).setWidth 16) } } ∧
          ∀ j, j < 22 → j ≠ 1 → j ≠ 3 → j ≠ 5 → j ≠ 15 → g.word.getLsbD j = fl.getLsbD j))

/-- Taking an exception or interrupt in real-address mode: the pushes, then CS and IP from the vector (60_exceptions.md R1261). -/
def Obligations.RealModeDelivery : Prop :=
  ∀ (ev : Event) (s : State) (slots : List (List Word)) (s1 : State) (n : Nat),
    RealReady ev s slots s1 → RealDelivered (deliver (n + 1) ev s) ev s slots s1

/-- INT n, INT 3 and INTO (3 instructions): they ARE the delivery of their vector as a trap, EIP saved after the instruction (R735); in
real-address mode, where the vector and the stack can be used, that entry is the next state. INTO without overflow goes on; INT n in
virtual-8086 mode with IOPL below 3 faults. -/
def Obligations.SoftwareInterrupts : Prop :=
  (∀ (s : State) (v : Option (BitVec 8)),
    (v = none ∨ (s.v86 = true → s.flags.iopl = 3)) →
    exec (softInstr v).1 s = deliver deliverFuel (softEvent s (softInstr v).2) (rollback s s.enter) ∧
    ∀ slots s1, RealReady (softEvent s (softInstr v).2) s slots s1 →
      RealDelivered (exec (softInstr v).1 s) (softEvent s (softInstr v).2) s slots s1) ∧
  (∀ (s : State) (v : BitVec 8), s.v86 = true → s.flags.iopl ≠ 3 → Faults (.intImm8 v) s gp0 s.enter) ∧
  (∀ s : State, s.flags.of = false → Ran .into s s.enter) ∧
  ∀ s : State, s.flags.of = true →
    exec .into s = deliver deliverFuel (softEvent s 4) (rollback s s.enter) ∧
    ∀ slots s1, RealReady (softEvent s 4) s slots s1 → RealDelivered (exec .into s) (softEvent s 4) s slots s1

/-- An exception or interrupt in protected or virtual-8086 mode (60_exceptions.md R1213 to R1215, 62_v86.md R1420): through an interrupt or trap gate
to the same level, EFLAGS, CS, EIP and the error code are pushed in the gate's size; to an inner level, on the stack of the TSS after the old
SS:ESP and, from virtual-8086 mode, GS, FS, DS, ES, which become null; TF, NT, RF, VM become 0, IF too through an interrupt gate; CS:EIP is the
gate's; SS and CS are marked before and after the pushes (65_cache_mp.md R1531). Through a task gate, a task switch. A delivery is given up for a vector
outside the table, an entry that is no gate, INT n through a gate below CPL (#GP with the vector), a gate that is not present (#NP), a code
segment that is null, outside its table, not code, less privileged, not present or, from virtual-8086 mode, not of level 0, an inner stack that
is refused or has no room, an offset past the limit, what a task switch raises; the error code has EXT unless the event is INT n, INT 3 or INTO
(60_exceptions.md R1210 to R1214, R1220; then: `DoubleFaults`). A task switch that completes, its four causes alike, where all is RAM and
paging off: the old TSS takes the registers, the Busy bits move, TR names the new TSS, the registers come from it, LINK and NT are set if it
nests, CR0.TS is set, the local breakpoints of DR7 cleared (61_tasks.md R1325, R1328 to R1331). The model's choices: error code 0 from
virtual-8086 mode without room on the inner stack (notes/assumptions/49.md); SP of a 16-bit TSS is zero-extended into ESP on the inner stack, no
old descriptor is marked while TR holds a null selector, an IRET to the current task leaves it not busy (notes/assumptions/57.md); a 16-bit TSS
keeps the upper halves of the general registers (notes/assumptions/59.md); the save is not tested against TR.limit (notes/assumptions/81.md); EIP
is pushed whole from virtual-8086 mode (notes/assumptions/77.md); and CR0.PE selects this delivery in SMM too (notes/assumptions/78.md). -/
def Obligations.GateDelivery : Prop :=
  (∀ (ev : Event) (s : State), s.pe = true → (s.inSmm = true → s.smm.idtLoaded = true) →
    -- the faults that name the vector
    let ofVector (vec : Nat) : Exc := { vec := vec, code := some (BitVec.ofNat 32 (8 * ev.vec + 2)), dbg := none }
    (s.idtr.limit.toNat < 8 * ev.vec + 7 → GivesUp ev s (ofVector 13) (begun ev s)) ∧
    ∀ (n : Nat) (g : Desc) (s1 : State), 8 * ev.vec + 7 ≤ s.idtr.limit.toNat →
    readDescAt (s.idtr.base + BitVec.ofNat 32 (8 * ev.vec)) (begun ev s) = .ok g s1 →
    let admits : Prop := g.hi.getLsbD 12 = false ∧ g.typ ∈ ([5, 6, 7, 14, 15] : List (BitVec 4)) ∧ (ev.kind = .soft → s.cpl.toNat ≤ g.dpl.toNat)
    (¬ admits → GivesUp ev s (ofVector 13) s1) ∧ (admits → g.hi.getLsbD 15 = false → GivesUp ev s (ofVector 11) s1) ∧
    (admits → g.hi.getLsbD 15 = true → g.typ = 5 → ∀ t,
      (taskSwitch g.gateSel .intr ev.retEip ev.code s1 = .ok () t → deliver (n + 1) ev s = .next (State.delivered t)) ∧
      ∀ e, taskSwitch g.gateSel .intr ev.retEip ev.code s1 = .error (.exc e) t → GivesUp ev s e t) ∧
    (admits → g.hi.getLsbD 15 = true → g.typ ≠ 5 →
      (∀ e t, CodeRefused (fun d => d.dpl.toNat ≤ s.cpl.toNat) s g.gateSel s1 e t → GivesUp ev s e t) ∧
      ∀ (cd : Desc) (s2 : State), Named s g.gateSel s1 cd s2 → codeDesc cd → cd.dpl.toNat ≤ s.cpl.toNat →
      let size := if g.typ.getLsbD 3 then 4 else 2
      let frame := [s.flags.word.toNat, s.segs.cs.sel.toNat, ev.retEip.toNat] ++ ev.code.toList.map fun c => c.toNat
      let fl : Flags := { s.flags with tf := false, nt := false, rf := false, vm := false, ifl := s.flags.ifl && g.typ.getLsbD 0 }
      (s.flags.vm = true → s.cpl = 3 → ¬ (cd.hi.getLsbD 10 = false ∧ cd.dpl = 0 ∧ size = 4) → GivesUp ev s (selFault 13 g.gateSel) s2) ∧
      (s.flags.vm = false → cd.hi.getLsbD 10 = true ∨ cd.dpl = s.cpl →
        (¬ roomFor s size frame.length → GivesUp ev s ss0 s2) ∧
        ∀ slots s3, pushSlots s.ss size s.spOff frame.length s2 = .ok slots s3 →
          (cd.limit.toNat < g.gateOffset.toNat → GivesUp ev s gp0 s3) ∧
          (g.gateOffset.toNat ≤ cd.limit.toNat → ∀ ps s4, accessedAt cd s3 ps s4 →
            ∃ u v, StoredAll slots frame s4 u ∧ BitsSet ps 0x100 u v ∧
              deliver (n + 1) ev s = .next (State.delivered { withCs (withSp v (s.spOff - BitVec.ofNat 32 (size * frame.length)))
                (segOf (marked cd) (atLevel g.gateSel s.cpl)) g.gateOffset with flags := fl }))) ∧
      (cd.hi.getLsbD 10 = false → cd.dpl.toNat < s.cpl.toNat → (s.flags.vm = true → cd.dpl = 0 ∧ size = 4) →
        (∀ e t, InnerRefused cd.dpl s2 e t → GivesUp ev s e t) ∧
        ∀ (sd : Desc) (ssel : Half) (sp : Word) (s3 : State), InnerStack cd.dpl s2 sd ssel sp s3 →
        let b := switched cd.dpl sd ssel sp s3
        let c := s.segs
        let items := (if s.flags.vm then [c.gs.sel.toNat, c.fs.sel.toNat, c.ds.sel.toNat, c.es.sel.toNat] else []) ++
          [c.ss.sel.toNat, s.regs.esp.toNat] ++ frame
        let left (x : Seg) : Seg := if s.flags.vm then { x with sel := 0, usable := false } else x
        (¬ roomFor b size items.length → GivesUp ev s (if s.flags.vm then ss0 else selFault 12 ssel) s3) ∧
        ∀ slots s4, pushSlots b.ss size b.spOff items.length b = .ok slots s4 →
          (cd.limit.toNat < g.gateOffset.toNat → GivesUp ev s gp0 s4) ∧
          (g.gateOffset.toNat ≤ cd.limit.toNat → ∀ qs s5 ps s6, accessedAt sd s4 qs s5 → accessedAt cd s5 ps s6 →
            ∃ u v w, BitsSet qs 0x100 s6 u ∧ StoredAll slots items u v ∧ BitsSet ps 0x100 v w ∧
              deliver (n + 1) ev s = .next (State.delivered { withSp w (b.spOff - BitVec.ofNat 32 (size * items.length)) with
                eip := g.gateOffset, flags := fl
                segs := { cs := segOf (marked cd) (atLevel g.gateSel cd.dpl), ss := w.segs.ss, ds := left c.ds, es := left c.es
                          fs := left c.fs, gs := left c.gs } }))))) ∧
  ∀ (sel : Half) (k : Switch) (ret : Word) (err : Option Word) (s t : State), flatRam s → taskSwitch sel k ret err s = .ok () t →
    ∃ (d : Desc) (v w : State), Named s sel s d s ∧ sel.getLsbD 2 = false ∧ d.hi.getLsbD 12 = false ∧ d.hi.getLsbD 15 = true ∧
      (if k = .iret then d.typ = 3 ∨ d.typ = 11 else d.typ = 1 ∨ d.typ = 9) ∧
      TaskSaved s k ret d v ∧ TaskLoaded s v d k err t ∧
      (if k = .call ∨ k = .intr then Stored (consecutive d.base 2) s.tr.sel.toNat v w else w = v) ∧
      t = { s with
        regs := t.regs, flags := t.flags, eip := t.eip, segs := t.segs, cpl := t.cpl, ldtr := t.ldtr, mem := t.mem, draws := t.draws, cur := t.cur
        tr := segOf { d with hi := d.hi ||| 0x200 } sel, cr := { s.cr with cr0 := s.cr.cr0 ||| 8 }
        dr := { s.dr with dr7 := s.dr.dr7 &&& 0xFFFFFFAA } } ∧
      t.eip.toNat ≤ t.segs.cs.limit.toNat ∧ t.cur.keepRf = true ∧
      -- the loads of the segment registers set Accessed bits in the descriptor tables
      (err = none → ∀ a, (∀ x, x ≤ s.gdtr.limit.toNat → a ≠ (s.gdtr.base + BitVec.ofNat 32 x).toNat) →
        (∀ x, x ≤ t.ldtr.limit.toNat → a ≠ (t.ldtr.base + BitVec.ofNat 32 x).toNat) → byteAt t a = byteAt w a)

/-- A second exception while the first is being delivered (60_exceptions.md R1232, Table 14-4): contributory on contributory, and contributory or
page fault on page fault, become a double fault with error code 0; so does a vector beyond the limit of the table of real-address mode, which
raises vector 8 (R1260); any other second exception is delivered in its own right; one met while delivering a double fault shuts the processor
down. The model's choices: the EIP saved for #DF is that of the instruction under way (notes/assumptions/66.md); an NMI, INTR or machine check
whose delivery meets an exception is lost and leaves NMI unblocked (notes/assumptions/63.md); a chain without end (the number 0) leaves the
instruction to raise its exception again at the next step (notes/assumptions/60.md). -/
def Obligations.DoubleFaults : Prop :=
  (∀ (ev : Event) (s : State), s.pe = false → (s.inSmm = true → s.smm.idtLoaded = true) → s.idtr.limit.toNat < 4 * ev.vec + 3 →
    deliverOnce ev s = .error (.exc { vec := 8, code := none, dbg := none }) (begun ev s)) ∧
  ∀ (ev : Event) (s : State) (n : Nat) (e : Exc) (t : State),
    deliverOnce ev s = .error (.exc e) t → t.cur.committed = false →
    let contributory (v : Nat) : Prop := v = 0 ∨ v = 10 ∨ v = 11 ∨ v = 12 ∨ v = 13
    (ev.kind = .exc → ev.vec = 8 → ∃ u, deliver (n + 1) ev s = .next u ∧ u.run = .shutdown) ∧
    (¬ (ev.kind = .exc ∧ ev.vec = 8) →
      ((ev.kind = .exc ∧ ((contributory ev.vec ∧ contributory e.vec) ∨ (ev.vec = 14 ∧ (contributory e.vec ∨ e.vec = 14))) ∨ e.vec = 8 →
        deliver (n + 1) ev s = deliver n
          { kind := .exc, vec := 8, code := some 0, retEip := ev.faultEip, faultEip := ev.faultEip, dbg := none } (rollback s t)) ∧
      (¬ (ev.kind = .exc ∧ ((contributory ev.vec ∧ contributory e.vec) ∨ (ev.vec = 14 ∧ (contributory e.vec ∨ e.vec = 14)))) → e.vec ≠ 8 →
        deliver (n + 1) ev s = deliver n
          { kind := .exc, vec := e.vec, code := e.code, retEip := ev.faultEip, faultEip := ev.faultEip, dbg := e.dbg } (rollback s t)))) ∧
    ∃ u, deliver 0 ev s = .next u ∧ u.run = .running

/-- BOUND, ENTER and LEAVE (3 instructions): BOUND reads its limits one after the other, each with the checks of its own access, goes on between them and raises #BR outside them; ENTER saves
the frame pointer, copies the outer frame pointers, pushes the new one and reserves storage, every slot checked before the first is written;
LEAVE takes the frame down (43_control_transfer.md R745, R750, R751, 20_memory.md R220). -/
def Obligations.ProcedureFrames : Prop :=
  (∀ (m : MemOp) (r : Reg) (s : State) (v w : Nat) (s2 : State), ReadTwice m s.os.bytes s.os.bytes s s.enter v w s2 →
    let x : Int := (s.regs.read s.os.bits r).toInt
    let lo : Int := (BitVec.ofNat s.os.bits v).toInt
    let hi : Int := (BitVec.ofNat s.os.bits w).toInt
    (lo ≤ x ∧ x ≤ hi → Ran (.boundRM m r) s s2) ∧
    (x < lo ∨ hi < x → Faults (.boundRM m r) s { vec := 5, code := none, dbg := none } s2)) ∧
  (∀ (m : MemOp) (r : Reg) (s t : State), ReadPast m s.os.bytes s.os.bytes s s.enter t →
    Faults (.boundRM m r) s (limitFault (s.eaSeg m)) t) ∧
  (∀ (storage : BitVec 16) (level : BitVec 8) (s : State) (first : List Word) (s1 : State) (copies : List (List Word × List Word)) (s2 : State)
    (last : List (List Word)) (s3 : State),
    let n := s.os.bytes
    let lvl := level.toNat % 32
    let down (a : Word) (k : Nat) : Word := wrapSp s.ss (a - BitVec.ofNat 32 (n * k))
    let frame := down s.spOff 1
    access s.ss .ss frame n n .w s.enter = .ok first s1 →
    -- item k of the outer frame, read below (E)BP and pushed below the saved (E)BP
    CopySlots s n (lvl - 1) 1 s1 copies s2 → pushSlots s.ss n (down frame (lvl - 1)) (min lvl 1) s2 = .ok last s3 →
    ∃ u v w, Stored first (s.regs.read s.os.bits .ebp).toNat s3 u ∧ Copied copies u v ∧ StoredAll last [frame.toNat] v w ∧
      let x : State := { w with regs := w.regs.write s.ss.bits .ebp ((down s.bpOff (lvl - 1)).setWidth s.ss.bits) }
      Ran (.enterImm16Imm8 storage level) s
        (withSp { x with regs := x.regs.write s.os.bits .ebp (frame.setWidth s.os.bits) } (down frame lvl - storage.setWidth 32))) ∧
  ∀ (s : State) (ps : List Word) (s1 : State) (v : Nat) (s2 : State),
    access s.ss .ss s.bpOff s.os.bytes s.os.bytes .r s.enter = .ok ps s1 → load ps s1 = .ok v s2 →
    let u := withSp s2 (s.bpOff + BitVec.ofNat 32 s.os.bytes)
    Ran .leave s { u with regs := u.regs.write s.os.bits .ebp (BitVec.ofNat s.os.bits v) }

/-- One step of MOVS, CMPS, SCAS, LODS, STOS, byte or `os` (10 instructions), with their encodings: with a repeat prefix and a count of 0 nothing happens; otherwise one
element is handled and (E)SI, (E)DI, the counter and EIP move by the rules (44_string.md R760 to R767, decision D73). That RF stays between two
iterations (notes/assumptions/16.md) and that a data breakpoint of MOVS and STOS is reported one iteration late, whatever comes between the two
(notes/assumptions/40.md), is the model's choice. -/
def Obligations.StringIteration : Prop :=
  (∀ os as : Size, decodeOne os as [0xA4] = .ok .movsb [] ∧ decodeOne os as [0xA5] = .ok .movsw [] ∧ decodeOne os as [0xA6] = .ok .cmpsb [] ∧
    decodeOne os as [0xA7] = .ok .cmpsw [] ∧ decodeOne os as [0xAA] = .ok .stosb [] ∧ decodeOne os as [0xAB] = .ok .stosw [] ∧
    decodeOne os as [0xAC] = .ok .lodsb [] ∧ decodeOne os as [0xAD] = .ok .lodsw [] ∧ decodeOne os as [0xAE] = .ok .scasb [] ∧
    decodeOne os as [0xAF] = .ok .scasw []) ∧
  (∀ (s : State), s.cur.rep ≠ none → s.counter = 0 →
    ∀ i ∈ ([.movsb, .movsw, .cmpsb, .cmpsw, .stosb, .stosw, .lodsb, .lodsw, .scasb, .scasw] : List Instr), Ran i s s.enter) ∧
  ∀ (byte : Bool) (s : State), iterates s →
    let w := width byte s
    let n := w / 8
    (∀ ps s1 v s2 qs s3,
      access s.as (s.segOr .ds) (s.asReg .esi) n n .r s.enter = .ok ps s1 → load ps s1 = .ok v s2 →
      access s.as .es (s.asReg .edi) n n .w s2 = .ok qs s3 →
      ∃ u, Stored qs v s3 u ∧
        Ran (if byte then .movsb else .movsw) s (iterEnd false true s (stepIndex s (stepIndex s u .esi n) .edi n))) ∧
    (∀ ps s1 v s2 qs s3 x s4,
      access s.as (s.segOr .ds) (s.asReg .esi) n n .r s.enter = .ok ps s1 → load ps s1 = .ok v s2 →
      access s.as .es (s.asReg .edi) n n .r s2 = .ok qs s3 → load qs s3 = .ok x s4 →
      Ran (if byte then .cmpsb else .cmpsw) s (iterEnd true false s (stepIndex s (stepIndex s
        { s4 with flags := s.flags.sub (BitVec.ofNat w v) (BitVec.ofNat w x) false } .esi n) .edi n))) ∧
    (∀ ps s1 v s2,
      access s.as .es (s.asReg .edi) n n .r s.enter = .ok ps s1 → load ps s1 = .ok v s2 →
      Ran (if byte then .scasb else .scasw) s (iterEnd true false s (stepIndex s
        { s2 with flags := s.flags.sub (s.regs.read w .eax) (BitVec.ofNat w v) false } .edi n))) ∧
    (∀ ps s1 v s2,
      access s.as (s.segOr .ds) (s.asReg .esi) n n .r s.enter = .ok ps s1 → load ps s1 = .ok v s2 →
      Ran (if byte then .lodsb else .lodsw) s (iterEnd false false s (stepIndex s
        { s2 with regs := s2.regs.write w .eax (BitVec.ofNat w v) } .esi n))) ∧
    ∀ ps s1,
      access s.as .es (s.asReg .edi) n n .w s.enter = .ok ps s1 →
      ∃ u, Stored ps (s.regs.read w .eax).toNat s1 u ∧
        Ran (if byte then .stosb else .stosw) s (iterEnd false true s (stepIndex s u .edi n))

/-- IN, OUT, INS, OUTS (12 instructions): once the port is permitted, the value goes between the port and the accumulator or memory; real-address
mode and a level within IOPL permit every port; otherwise the bit map of a 32-bit TSS decides, and without one no port is permitted
(46_system_io.md R940 to R945, R949); the breakpoints that watch the port are noted (64_debug.md R1486). That RF stays between two iterations of INS and OUTS is the model's choice (notes/assumptions/16.md). -/
def Obligations.PortInputOutput : Prop :=
  (∀ (port : Half) (n : Nat) (s : State), s.pe = false ∨ (s.flags.vm = false ∧ s.cpl.toNat ≤ s.flags.iopl.toNat) →
    ioPermitted port n s = .ok () s) ∧
  (∀ (imm : BitVec 8) (s : State), ∀ f ∈ inForms s imm ++ outForms s imm,
    s.pe = true → s.flags.vm = true ∨ s.flags.iopl.toNat < s.cpl.toNat → s.tr.limit.toNat < 0x67 → Faults f.1 s gp0 (ioEnter s)) ∧
  (∀ (port : Half) (n : Nat) (s : State), s.pe = true → s.flags.vm = true ∨ s.flags.iopl.toNat < s.cpl.toNat →
    (¬ ((s.tr.attr.typ = 9 ∨ s.tr.attr.typ = 11) ∧ 0x67 ≤ s.tr.limit.toNat) → ioPermitted port n s = .error (.exc gp0) s) ∧
    ∀ (map : Half) (s1 : State), s.tr.attr.typ = 9 ∨ s.tr.attr.typ = 11 → 0x67 ≤ s.tr.limit.toNat →
      tssRead16 (s.tr.base + 0x66) s = .ok map s1 →
      let off := map.toNat + port.toNat / 8
      (s.tr.limit.toNat ≤ off → ioPermitted port n s = .error (.exc gp0) s1) ∧
      ∀ (bits : Half) (s2 : State), off < s.tr.limit.toNat → tssRead16 (s.tr.base + BitVec.ofNat 32 off) s1 = .ok bits s2 →
        ((∀ j, j < n → bits.getLsbD (port.toNat % 8 + j) = false) → ioPermitted port n s = .ok () s2) ∧
        ((∃ j, j < n ∧ bits.getLsbD (port.toNat % 8 + j) = true) → ioPermitted port n s = .error (.exc gp0) s2)) ∧
  (∀ (imm : BitVec 8) (s s1 : State), ∀ f ∈ inForms s imm,
    ioPermitted f.2.2 (width f.2.1 s / 8) (ioEnter s) = .ok () s1 →
    ∃ x u, PortRead f.2.2 (width f.2.1 s / 8) s1 x u ∧
      Ran f.1 s { u with regs := u.regs.write (width f.2.1 s) .eax (BitVec.ofNat (width f.2.1 s) x) }) ∧
  (∀ (imm : BitVec 8) (s s1 : State), ∀ f ∈ outForms s imm,
    ioPermitted f.2.2 (width f.2.1 s / 8) (ioEnter s) = .ok () s1 →
    ∃ u, PortWrite f.2.2 (width f.2.1 s / 8) (s.regs.read (width f.2.1 s) .eax).toNat s1 u ∧ Ran f.1 s u) ∧
  (∀ (s : State), s.cur.rep ≠ none → s.counter = 0 → ∀ i ∈ ([.insb, .insw, .outsb, .outsw] : List Instr), Ran i s (ioEnter s)) ∧
  ∀ (byte : Bool) (s s1 : State), iterates s →
    let n := width byte s / 8
    ioPermitted (s.regs.read 16 .edx) n (ioEnter s) = .ok () s1 →
    (∀ qs s2, access s.as .es (s.asReg .edi) n n .w s1 = .ok qs s2 →
      ∃ x s3 u, PortRead (s.regs.read 16 .edx) n s2 x s3 ∧ Stored qs x s3 u ∧
        Ran (if byte then .insb else .insw) s (iterEnd false false s (stepIndex s u .edi n))) ∧
    ∀ ps s2 v s3, access s.as (s.segOr .ds) (s.asReg .esi) n n .r s1 = .ok ps s2 → load ps s2 = .ok v s3 →
      ∃ u, PortWrite (s.regs.read 16 .edx) n v s3 u ∧
        Ran (if byte then .outsb else .outsw) s (iterEnd false false s (stepIndex s u .esi n))

/-- LGDT, LIDT, SGDT, SIDT, LLDT, LTR, SLDT, STR, SMSW (9 instructions): what goes to and from the table registers; the upper half of a 32-bit
register is zero after SLDT and STR (the model's choice D61) and open after SMSW; SGDT and SIDT at level 3 test the alignment of the base field (the
model's choice, notes/assumptions/9.md); LTR makes the descriptor busy; a selector that names no descriptor of the GDT or one of a wrong type faults with #GP, one that is not present with #NP
(46_system_io.md R900 to R907, R911). -/
def Obligations.SystemTableRegisters : Prop :=
  (∀ (m : MemOp) (s : State) (ps : List Word) (s1 : State) (v : Nat) (s2 : State), levelOf s = 0 →
    accessIf s.as (s.eaSeg m) (s.eaOff m) 6 pseudoAligned .r s.enter = .ok ps s1 → load ps s1 = .ok v s2 →
    let t : TableReg :=
      { limit := BitVec.ofNat 16 v, base := BitVec.ofNat 32 (if s.os = .s16 then v / 2 ^ 16 % 2 ^ 24 else v / 2 ^ 16) }
    Ran (.lgdtM m) s { s2 with gdtr := t } ∧ Ran (.lidtM m) s { s2 with idtr := t, smm := { s2.smm with idtLoaded := true } }) ∧
  (∀ (m : MemOp) (s : State) (ps : List Word) (s1 : State),
    accessIf s.as (s.eaSeg m) (s.eaOff m) 6 pseudoAligned .w s.enter = .ok ps s1 →
    (∃ u, Stored ps (s.gdtr.limit.toNat + 2 ^ 16 * s.gdtr.base.toNat) s1 u ∧ Ran (.sgdtM m) s u) ∧
    ∃ u, Stored ps (s.idtr.limit.toNat + 2 ^ 16 * s.idtr.base.toNat) s1 u ∧ Ran (.sidtM m) s u) ∧
  (∀ (r : Reg) (s : State), s.os = .s32 →
    (s.prot = true → Ran (.sldtRm16 (.reg r)) s { s.enter with regs := s.regs.set r (s.ldtr.sel.setWidth 32) } ∧
      Ran (.strRm16 (.reg r)) s { s.enter with regs := s.regs.set r (s.tr.sel.setWidth 32) }) ∧
    ∃ (x : Half) (n : Nat), Ran (.smswRm16 (.reg r)) s { s.enter with draws := n, regs := s.regs.set r (x ++ s.cr.cr0.setWidth 16) }) ∧
  (∀ (rm : RM) (s : State) (p : Place) (s1 : State), ((∃ m, rm = .mem m) ∨ s.os = .s16) → locate 16 rm .w s.enter = .ok p s1 →
    (s.prot = true → (∃ t, PutAt p 16 s.ldtr.sel s1 t ∧ Ran (.sldtRm16 rm) s t) ∧ ∃ t, PutAt p 16 s.tr.sel s1 t ∧ Ran (.strRm16 rm) s t) ∧
    ∃ t, PutAt p 16 (s.cr.cr0.setWidth 16) s1 t ∧ Ran (.smswRm16 rm) s t) ∧
  (∀ (rm : RM) (s : State), s.prot = false →
    Faults (.sldtRm16 rm) s ud6 s.enter ∧ Faults (.strRm16 rm) s ud6 s.enter ∧ Faults (.lldtRm16 rm) s ud6 s.enter ∧
    Faults (.ltrRm16 rm) s ud6 s.enter) ∧
  ∀ (rm : RM) (s : State) (p : Place) (s1 : State) (sel : BitVec 16) (s2 : State), s.prot = true → s.cpl = 0 →
    locate 16 rm .r s.enter = .ok p s1 → p.get 16 s1 = .ok sel s2 →
    (sel.toNat < 4 → Ran (.lldtRm16 rm) s { s2 with ldtr := { s2.ldtr with sel := sel, usable := false } } ∧ Faults (.ltrRm16 rm) s gp0 s2) ∧
    (4 ≤ sel.toNat → sel.getLsbD 2 = true ∨ inTable s sel = false →
      Faults (.lldtRm16 rm) s (selFault 13 sel) s2 ∧ Faults (.ltrRm16 rm) s (selFault 13 sel) s2) ∧
    ∀ (d : Desc) (s3 : State), 4 ≤ sel.toNat → sel.getLsbD 2 = false → inTable s sel = true → readDescAt (descLinear s sel) s2 = .ok d s3 →
      let present : Prop := d.hi.getLsbD 15 = true
      let ldt : Prop := d.hi.getLsbD 12 = false ∧ d.typ = 2
      let tss : Prop := d.hi.getLsbD 12 = false ∧ (d.typ = 1 ∨ d.typ = 9)
      (¬ ldt → Faults (.lldtRm16 rm) s (selFault 13 sel) s3) ∧ (¬ tss → Faults (.ltrRm16 rm) s (selFault 13 sel) s3) ∧
      (ldt → ¬ present → Faults (.lldtRm16 rm) s (selFault 11 sel) s3) ∧ (tss → ¬ present → Faults (.ltrRm16 rm) s (selFault 11 sel) s3) ∧
      (ldt → present → Ran (.lldtRm16 rm) s { s3 with ldtr := segOf d sel }) ∧
      (tss → present → ∀ ps s4, linAddrs (d.addr + 4) 4 { write := true, user := false, fetch := false } s3 = .ok ps s4 →
        ∃ u, BitsSet ps 0x200 s4 u ∧ Ran (.ltrRm16 rm) s { u with tr := segOf { d with hi := d.hi ||| 0x200 } sel })

/-- MOV to and from control registers, CLTS, LMSW (4 instructions) at level 0: the register that exists takes the value; combinations CR0 forbids
and reserved bits of CR4 fault; with PE and VM set the level is 3 (62_v86.md R1401); a change of PG or PE, a write of CR3 and a change of PSE flush the TLBs; a change of PG is stated where the
instruction itself is mapped to itself, and the bytes of the next one are fetched only where they are, otherwise the program is refused
(46_system_io.md R910, R912, R913, 22_paging.md R272, 70_reset_and_hazards.md R1640, decision D71). The status flags are unchanged (the model's
choice, notes/assumptions/24.md). -/
def Obligations.ControlRegisters : Prop :=
  (∀ (s : State) (k : Nat) (lin : Word), s.pgSwitched = true → segLinear .s32 .cs (s.eip + BitVec.ofNat 32 k) 1 .x s = .ok lin s →
    identityMapped lin s = false → fetchByte k s = .error (.refuse .pagingNotIdentity) s) ∧
  ∀ s : State, levelOf s = 0 →
    (∀ r : Reg,
      Ran (.movR32Cr 0 r) s { s.enter with regs := s.regs.set r s.cr.cr0 } ∧ Ran (.movR32Cr 2 r) s { s.enter with regs := s.regs.set r s.cr.cr2 } ∧
      Ran (.movR32Cr 3 r) s { s.enter with regs := s.regs.set r s.cr.cr3 } ∧ Ran (.movR32Cr 4 r) s { s.enter with regs := s.regs.set r s.cr.cr4 } ∧
      (∀ n : BitVec 3, n = 1 ∨ 5 ≤ n.toNat → Faults (.movR32Cr n r) s ud6 s.enter ∧ Faults (.movCrR32 n r) s ud6 s.enter) ∧
      (let v := s.regs.get r
       Ran (.movCrR32 2 r) s { s.enter with cr := { s.cr with cr2 := v } } ∧
       Ran (.movCrR32 3 r) s (flushed true { s.enter with cr := { s.cr with cr3 := v } }) ∧
       (v &&& 0xFFFFFFA0 ≠ 0 → Faults (.movCrR32 4 r) s gp0 s.enter) ∧
       (v &&& 0xFFFFFFA0 = 0 → v &&& 3 = 0 →
         Ran (.movCrR32 4 r) s (flushed (s.cr.cr4.getLsbD 4 != v.getLsbD 4) { s.enter with cr := { s.cr with cr4 := v } })) ∧
       (let bad : Prop := (v.getLsbD 31 = true ∧ v.getLsbD 0 = false) ∨ (v.getLsbD 30 = false ∧ v.getLsbD 29 = true)
        let t : State := { s.enter with cr := { s.cr with cr0 := v ||| 0x10 }, cpl := if v.getLsbD 0 && s.flags.vm then 3 else s.cpl }
        (bad → Faults (.movCrR32 0 r) s gp0 s.enter) ∧
        (¬ bad → s.cr.cr0.getLsbD 31 = v.getLsbD 31 → Ran (.movCrR32 0 r) s (flushed (s.cr.cr0.getLsbD 0 != v.getLsbD 0) t)) ∧
        (¬ bad → s.cr.cr0.getLsbD 31 ≠ v.getLsbD 31 →
          (∀ k, k < s.cur.len → identityMapped (s.segs.cs.base + s.eip + BitVec.ofNat 32 k) (if v.getLsbD 31 then t else s.enter) = true) →
          Ran (.movCrR32 0 r) s { flushed true t with cur := { s.cur with pgSwitch := true } })))) ∧
    Ran .clts s { s.enter with cr := { s.cr with cr0 := s.cr.cr0 &&& 0xFFFFFFF7 } } ∧
    ∀ (rm : RM) (p : Place) (s1 : State) (v : BitVec 16) (s2 : State),
      locate 16 rm .r s.enter = .ok p s1 → p.get 16 s1 = .ok v s2 →
      Ran (.lmswRm16 rm) s (flushed (v.getLsbD 0 && !s2.pe)
        { s2 with
          cr := { s2.cr with cr0 := (s2.cr.cr0 &&& 0xFFFFFFF1) ||| (v.setWidth 32 &&& 0xF) }
          cpl := if (v.getLsbD 0 || s2.pe) && s2.flags.vm then 3 else s2.cpl })

/-- MOV to and from debug registers at level 0 and the test register moves (4 instructions): DR4 and DR5 are DR6 and DR7 or, with CR4.DE, #UD; with
DR7.GD a debug exception that names BD, but not right after a load of SS (R1206); that the checks come in this order is decision D65, that the
status flags stay is the model's choice (notes/assumptions/24.md); the reserved bits of DR6 and DR7 read as the rules fix them. The test registers
do not exist: #UD, which real-address mode delivers (64_debug.md R1482 to R1484, R1490, 46_system_io.md R914, R919). The delivery of a debug
exception sets the bits of its causes in DR6, clears none there, and clears DR7.GD; that of another event leaves the debug registers (R1491,
decision D51). The model's choices: the instruction breakpoints at the CS:EIP saved are among the causes (notes/assumptions/52.md), BD is one for the
general-detect fault alone (notes/assumptions/88.md), and INT 1 clears no GD (notes/assumptions/83.md). -/
def Obligations.DebugAndTestRegisters : Prop :=
  (∀ (n : BitVec 3) (r : Reg) (s : State), levelOf s = 0 →
    ((n = 4 ∨ n = 5) → s.de4 = true → Faults (.movR32Dr n r) s ud6 s.enter ∧ Faults (.movDrR32 n r) s ud6 s.enter) ∧
    (¬ ((n = 4 ∨ n = 5) ∧ s.de4 = true) → s.dr.dr7.getLsbD 13 = true → s.inhibitSs = false →
      let e : Exc := { vec := 1, code := none, dbg := some { b := 0, bd := true, bs := false, bt := false } }
      Faults (.movR32Dr n r) s e s.enter ∧ Faults (.movDrR32 n r) s e s.enter) ∧
    (¬ ((n = 4 ∨ n = 5) ∧ s.de4 = true) → s.dr.dr7.getLsbD 13 = false ∨ s.inhibitSs = true →
      let v := s.regs.get r
      (n = 0 → Ran (.movR32Dr n r) s { s.enter with regs := s.regs.set r s.dr.dr0 } ∧
        Ran (.movDrR32 n r) s { s.enter with dr := { s.dr with dr0 := v } }) ∧
      (n = 1 → Ran (.movR32Dr n r) s { s.enter with regs := s.regs.set r s.dr.dr1 } ∧
        Ran (.movDrR32 n r) s { s.enter with dr := { s.dr with dr1 := v } }) ∧
      (n = 2 → Ran (.movR32Dr n r) s { s.enter with regs := s.regs.set r s.dr.dr2 } ∧
        Ran (.movDrR32 n r) s { s.enter with dr := { s.dr with dr2 := v } }) ∧
      (n = 3 → Ran (.movR32Dr n r) s { s.enter with regs := s.regs.set r s.dr.dr3 } ∧
        Ran (.movDrR32 n r) s { s.enter with dr := { s.dr with dr3 := v } }) ∧
      (n = 4 ∨ n = 6 → Ran (.movR32Dr n r) s { s.enter with regs := s.regs.set r s.dr.dr6 } ∧
        ∃ x : Word, Ran (.movDrR32 n r) s { s.enter with dr := { s.dr with dr6 := x } } ∧
          ∀ j, j < 32 → x.getLsbD j = if j < 4 ∨ 13 ≤ j ∧ j < 16 then v.getLsbD j else j ≠ 12) ∧
      (n = 5 ∨ n = 7 → Ran (.movR32Dr n r) s { s.enter with regs := s.regs.set r s.dr.dr7 } ∧
        ∃ x : Word, Ran (.movDrR32 n r) s { s.enter with dr := { s.dr with dr7 := x } } ∧
          ∀ j, j < 32 → x.getLsbD j = if j = 10 then true else if j = 11 ∨ j = 12 ∨ j = 14 ∨ j = 15 then false else v.getLsbD j))) ∧
  (∀ (n : BitVec 3) (r : Reg) (s : State) (i : Instr), i = .movR32Tr n r ∨ i = .movTrR32 n r →
    Faults i s ud6 s.enter ∧
    ∀ slots s1, s.cur.committed = false → RealReady (faultEvent ud6 s.eip) s slots s1 →
      RealDelivered (exec i s) (faultEvent ud6 s.eip) s slots s1) ∧
  ∀ (ev : Event) (s : State),
    (∀ c : DbgCause, ev.vec = 1 → ev.kind = .exc → ev.dbg = some c →
      ∃ x : Word, (begun ev s).dr = { s.dr with dr6 := x, dr7 := s.dr.dr7 &&& 0xFFFFDFFF } ∧
        ∀ j, j < 32 → (x.getLsbD j = true ↔ s.dr.dr6.getLsbD j = true ∨ (j < 4 ∧ (c.b.getLsbD j = true ∨ breaksHere s j)) ∨
          (j = 13 ∧ c.bd = true) ∨ (j = 14 ∧ c.bs = true) ∨ (j = 15 ∧ c.bt = true))) ∧
    (¬ (ev.vec = 1 ∧ ev.kind = .exc) → (begun ev s).dr = s.dr)

/-- INVD, WBINVD, HLT, INVLPG, RDMSR, WRMSR, RDTSC (7 instructions): the special bus cycles, the Halted state, the TLB entries of a page gone and
no other, the 64-bit registers to and from EDX:EAX, #GP(0) for an index that names no register (46_system_io.md R915 to R918, R930 to R932). -/
def Obligations.CacheHaltAndMsr : Prop :=
  ∀ s : State,
    (levelOf s = 0 →
      Ran .invd s { s.enter with bus := .flush :: s.bus } ∧
      Ran .wbinvd s { s.enter with bus := .flush :: .writeBack :: s.bus } ∧
      Ran .hlt s { s.enter with run := .halted, bus := .halt :: s.bus } ∧
      (∀ m : MemOp, ∃ ti td : List TlbEntry, Ran (.invlpgM m) s { s.enter with itlb := ti, dtlb := td } ∧
        let lin := (s.segs.get (s.eaSeg m)).base + s.eaOff m
        let hit (e : TlbEntry) : Prop :=
          if s.cr.cr4.getLsbD 4 = true ∧ e.pde.getLsbD 7 = true then e.page.toNat / 2 ^ 10 = lin.toNat / 2 ^ 22
          else e.page.toNat = lin.toNat / 2 ^ 12
        ∀ e, (e ∈ ti ↔ e ∈ s.itlb ∧ ¬ hit e) ∧ (e ∈ td ↔ e ∈ s.dtlb ∧ ¬ hit e)) ∧
      (s.msrs.find? (fun m => m.index == s.regs.ecx) = none → Faults .rdmsr s gp0 s.enter ∧ Faults .wrmsr s gp0 s.enter) ∧
      ∀ m : Msr, s.msrs.find? (fun m => m.index == s.regs.ecx) = some m →
        (let v := if m.role = .tsc then s.tsc else m.value
         Ran .rdmsr s { s.enter with regs := { s.regs with eax := v.setWidth 32, edx := (v >>> 32).setWidth 32 } }) ∧
        (m.role = .tsc → ∃ v : BitVec 64, Ran .wrmsr s { s.enter with tsc := v } ∧
          ∀ j, j < 64 → v.getLsbD j = if m.mask.getLsbD j then (s.regs.edx ++ s.regs.eax).getLsbD j else s.tsc.getLsbD j) ∧
        (m.role ≠ .tsc → ∃ l : List Msr, Ran .wrmsr s { s.enter with msrs := l } ∧ l.length = s.msrs.length ∧
          ∀ k (h : k < s.msrs.length) (h' : k < l.length),
            if s.msrs[k].index = s.regs.ecx then
              l[k] = { s.msrs[k] with value := l[k].value } ∧ ∀ j, j < 64 → l[k].value.getLsbD j =
                if s.msrs[k].mask.getLsbD j then (s.regs.edx ++ s.regs.eax).getLsbD j else s.msrs[k].value.getLsbD j
            else l[k] = s.msrs[k])) ∧
    (s.cr.cr4.getLsbD 2 = false ∨ levelOf s = 0 →
      Ran .rdtsc s { s.enter with regs := { s.regs with eax := s.tsc.setWidth 32, edx := (s.tsc >>> 32).setWidth 32 } }) ∧
    (s.cr.cr4.getLsbD 2 = true → levelOf s ≠ 0 → Faults .rdtsc s gp0 s.enter)

/-- LAR, LSL, VERR, VERW, ARPL (5 instructions): #UD outside protected mode; ZF says whether the selector names a descriptor of a valid type that
may be accessed, and only then the destination changes (46_system_io.md R920 to R924, decision D62; bits 19 to 16 of LAR's result are open). That an
ARPL which adjusts nothing checks its operand as written too is the model's choice (notes/assumptions/51.md). -/
def Obligations.PointerValidation : Prop :=
  (∀ (rm : RM) (r : Reg) (s : State), s.prot = false →
    ∀ i ∈ ([.larRRm16 rm r, .lslRRm16 rm r, .verrRm16 rm, .verwRm16 rm, .arplRm16R16 rm r] : List Instr), Faults i s ud6 s.enter) ∧
  (∀ (rm : RM) (r : Reg) (s : State) (p : Place) (s1 : State) (sel : BitVec 16) (s2 : State), s.prot = true →
    locate 16 rm .r s.enter = .ok p s1 → p.get 16 s1 = .ok sel s2 →
    (sel.toNat < 4 ∨ inTable s sel = false →
      ∀ i ∈ ([.larRRm16 rm r, .lslRRm16 rm r, .verrRm16 rm, .verwRm16 rm] : List Instr),
        Ran i s { s2 with flags := { s2.flags with zf := false } }) ∧
    ∀ (d : Desc) (s3 : State), 4 ≤ sel.toNat → inTable s sel = true → readDescAt (descLinear s sel) s2 = .ok d s3 →
      let z (b : Bool) : State := { s3 with flags := { s3.flags with zf := b } }
      let app : Prop := d.hi.getLsbD 12 = true
      let larOk : Prop := app ∨ d.typ = 1 ∨ d.typ = 2 ∨ d.typ = 3 ∨ d.typ = 4 ∨ d.typ = 5 ∨ d.typ = 9 ∨ d.typ = 11 ∨ d.typ = 12
      let lslOk : Prop := app ∨ d.typ = 2 ∨ d.typ = 9 ∨ d.typ = 11
      let code : Prop := d.hi.getLsbD 11 = true
      (larOk ∧ probeable s d sel → ∃ (n : Nat) (x : Word),
        Ran (.larRRm16 rm r) s { z true with draws := n, regs := s3.regs.write s.os.bits r (x.setWidth s.os.bits) } ∧
        ∀ j, j < 32 → (j < 16 ∨ 20 ≤ j) → x.getLsbD j = ((d.hi &&& 0x00F0FF00).getLsbD j)) ∧
      (¬ (larOk ∧ probeable s d sel) → Ran (.larRRm16 rm r) s (z false)) ∧
      (lslOk ∧ probeable s d sel →
        Ran (.lslRRm16 rm r) s { z true with regs := s3.regs.write s.os.bits r (d.limit.setWidth s.os.bits) }) ∧
      (¬ (lslOk ∧ probeable s d sel) → Ran (.lslRRm16 rm r) s (z false)) ∧
      (app ∧ (¬ code ∨ d.hi.getLsbD 9 = true) ∧ probeable s d sel → Ran (.verrRm16 rm) s (z true)) ∧
      (¬ (app ∧ (¬ code ∨ d.hi.getLsbD 9 = true) ∧ probeable s d sel) → Ran (.verrRm16 rm) s (z false)) ∧
      (app ∧ ¬ code ∧ d.hi.getLsbD 9 = true ∧ probeable s d sel → Ran (.verwRm16 rm) s (z true)) ∧
      (¬ (app ∧ ¬ code ∧ d.hi.getLsbD 9 = true ∧ probeable s d sel) → Ran (.verwRm16 rm) s (z false))) ∧
  ∀ (rm : RM) (r : Reg) (s : State) (p : Place) (s1 : State) (d : BitVec 16) (s2 : State), s.prot = true →
    locate 16 rm .rw s.enter = .ok p s1 → p.get 16 s1 = .ok d s2 →
    let v : BitVec 16 := s2.regs.read 16 r
    (d.toNat % 4 < v.toNat % 4 → ∃ t, PutAt p 16 (BitVec.ofNat 16 (d.toNat / 4 * 4 + v.toNat % 4))
      { s2 with flags := { s2.flags with zf := true } } t ∧ Ran (.arplRm16R16 rm r) s t) ∧
    (v.toNat % 4 ≤ d.toNat % 4 → Ran (.arplRm16R16 rm r) s { s2 with flags := { s2.flags with zf := false } })

/-- System management mode: SMI# saves the registers into the dump and enters at 8000H in a 4-gigabyte real-address-like mode; RSM outside it is
#UD and in it restores what was saved, with the values the handler may change, restarts an I/O instruction and goes back to a halt as the two
slots say, or shuts down on an illegal state (63_smm.md R1453 to R1455, R1458 to R1461, R1465). The entry puts into `smm_shadow` what RSM
restores without a slot in the dump, with the dump as it stands in memory, and empties the TLBs. What is undefined at entry (general
registers, DR6, table registers) is not stated. RSM reads the state dump base, CR0 and then the rest (R1460); `saved` is what it reads, in plain
memory the slots of the dump (R1454), and the hidden parts come from `smm_shadow`. ET of CR0 reads as 1 whatever the dump holds (11_state_system.md
R152), and the level is that of the mode and CS selector restored (R170). The model's choices: an RSM that resumes a HLT reports a halt bus cycle,
the conditions that shut down are tested before every refusal, the instruction at the restored EIP finds RF as it was saved (keepRf), and the level
follows an EFLAGS image that the handler changed (all notes/assumptions/14.md); what other values than 0 and 1 of the halt slot do
(notes/assumptions/58.md); RSM ends the stretch that must be identity mapped (notes/assumptions/19.md) and brings back no shadow of a load of SS
(notes/assumptions/69.md); the bytes of a slot, and not whether it was stored to, say whether the handler wrote it (notes/assumptions/86.md); above
level 0 RSM raises #GP(0) (`PrivilegedInstructions`, notes/assumptions/71.md). -/
def Obligations.SystemManagement : Prop :=
  (∀ s : State, s.inSmm = false → Faults .rsm s ud6 s.enter) ∧
  (∀ s : State, ∃ t, s.takeSmi = .next t ∧
    t.inSmm = true ∧ t.smiPending = false ∧ t.eip = 0x8000 ∧ t.flags = Flags.reset ∧ t.cpl = 0 ∧ t.cr.cr4 = 0 ∧ t.dr.dr7 = 0x400 ∧
    t.cr.cr0 = s.cr.cr0 &&& 0x7FFFFFF2 ∧ t.segs.cs.sel = 0x3000 ∧ t.segs.cs.base = s.smbase ∧ t.segs.cs.limit = 0xFFFFFFFF ∧
    t.segs.cs.attr.typ.getLsbD 3 = true ∧ t.segs.cs.attr.typ.getLsbD 1 = true ∧ t.segs.cs.attr.db = false ∧
    (∀ g ∈ [t.segs.ds, t.segs.es, t.segs.fs, t.segs.gs, t.segs.ss], g.sel = 0 ∧ g.base = 0 ∧ g.limit = 0xFFFFFFFF ∧ g.attr.db = false) ∧
    t.smbase = s.smbase ∧ t.nmiBlocked = s.nmiBlocked ∧ t.fpu = s.fpu ∧ t.tsc = s.tsc ∧ t.msrs = s.msrs ∧ t.inp = s.inp ∧ t.ticks = s.ticks ∧
    t.cr.cr2 = s.cr.cr2 ∧ t.cr.cr3 = s.cr.cr3 ∧
    t.dr = { s.dr with dr6 := t.dr.dr6, dr7 := 0x400 } ∧ t.itlb = [] ∧ t.dtlb = [] ∧
    -- what RSM restores without a slot in the dump, and what it compares the dump with
    t.smm = { cr2 := s.cr.cr2, cr4 := s.cr.cr4, gdtr := s.gdtr, idtr := s.idtr, segs := s.segs, ldtr := s.ldtr, tr := s.tr, cpl := s.cpl
              base := s.smbase, dump := t.smm.dump, idtLoaded := false, halted := s.run == .halted, ioRestart := s.lastIo } ∧
    (s.memMap = [] → s.inp.a20m = false → Memory.wf s.mem = true → s.smbase.toNat + 0x10000 ≤ 2 ^ 32 →
      (∀ a, a < s.smbase.toNat + 0xFE00 ∨ s.smbase.toNat + 0x10000 ≤ a → byteAt t a = byteAt s a) ∧
      (t.smm.dump.length = 512 ∧ ∀ k (h : k < t.smm.dump.length), t.smm.dump[k] = byteAt t (s.smbase.toNat + 0xFE00 + k)) ∧
      ∀ k v j, (k, v) ∈ [(0xFFFC, s.cr.cr0), (0xFFF8, s.cr.cr3), (0xFFF4, s.flags.word), (0xFFF0, s.eip), (0xFFEC, s.regs.edi),
          (0xFFE8, s.regs.esi), (0xFFE4, s.regs.ebp), (0xFFE0, s.regs.esp), (0xFFDC, s.regs.ebx), (0xFFD8, s.regs.edx), (0xFFD4, s.regs.ecx),
          (0xFFD0, s.regs.eax), (0xFFCC, s.dr.dr6), (0xFFC8, s.dr.dr7), (0xFEF8, s.smbase),
          (0xFEFC, 0x30000 ||| Config.smmRevision.setWidth 32), (0xFF00, if s.run = .halted then 0x10000 else 0),
          (0xFFC4, s.tr.sel.setWidth 32), (0xFFC0, s.ldtr.sel.setWidth 32), (0xFFBC, s.segs.gs.sel.setWidth 32),
          (0xFFB8, s.segs.fs.sel.setWidth 32), (0xFFB4, s.segs.ds.sel.setWidth 32), (0xFFB0, s.segs.ss.sel.setWidth 32),
          (0xFFAC, s.segs.cs.sel.setWidth 32), (0xFFA8, s.segs.es.sel.setWidth 32)] → j < 4 →
        byteAt t (s.smbase.toNat + k + j) = (v >>> (8 * j)).setWidth 8)) ∧
  ∀ (s s1 s2 s3 s4 s5 s6 : State) (nb cr0 : Word) (d : List Byte) (v : Saved) (slot io : Half), s.inSmm = true → levelOf s = 0 →
    let base := s.smm.base
    dumpWord base 0xFEF8 s.enter = .ok nb s1 → dumpWord base 0xFFFC s1 = .ok cr0 s2 → readDump base s2 = .ok d s3 →
    readSaved base { s3 with bus := s2.bus } = .ok v s4 → dumpHalf base 0xFF02 s4 = .ok slot s5 → dumpHalf base 0xFF00 s5 = .ok io s6 →
    let legal : Prop := nb.toNat % 2 ^ 15 = 0 ∧ s.smm.cr4 &&& 0xFFFFFFA0 = 0 ∧ (cr0.getLsbD 31 = true → cr0.getLsbD 0 = true) ∧
      (cr0.getLsbD 29 = true → cr0.getLsbD 30 = true)
    (s.memMap = [] → s.inp.a20m = false → base.toNat + 0x10000 ≤ 2 ^ 32 →
      (∀ k w j, (k, w) ∈ [(0xFEF8, nb), (0xFFFC, cr0), (0xFFF8, v.cr3), (0xFFF4, v.eflags), (0xFFF0, v.eip), (0xFFEC, v.regs.edi), (0xFFE8, v.regs.esi),
          (0xFFE4, v.regs.ebp), (0xFFE0, v.regs.esp), (0xFFDC, v.regs.ebx), (0xFFD8, v.regs.edx), (0xFFD4, v.regs.ecx), (0xFFD0, v.regs.eax),
          (0xFFCC, v.dr6), (0xFFC8, v.dr7)] → j < 4 → byteAt s (base.toNat + k + j) = (w >>> (8 * j)).setWidth 8) ∧
      ∀ k w j, (k, w) ∈ [(0xFFC4, v.tr), (0xFFC0, v.ldtr), (0xFFBC, v.gs), (0xFFB8, v.fs), (0xFFB4, v.ds), (0xFFB0, v.ss), (0xFFAC, v.cs),
          (0xFFA8, v.es), (0xFF02, slot), (0xFF00, io)] → j < 2 → byteAt s (base.toNat + k + j) = (w >>> (8 * j)).setWidth 8) ∧
    (¬ legal → ∃ t, exec .rsm s = .next t ∧ t.run = .shutdown) ∧
    ∀ eip : Word, legal → dumpKept 0 d s.smm.dump = true → (io = 0 ∧ eip = v.eip) ∨ (io = 0xFF ∧ s.smm.ioRestart = some eip) →
      let g := s.smm.segs
      -- the program at level 0 whose CS is as it was
      let same : Prop := s.smm.cpl = 0 ∧ v.cs = g.cs.sel
      ∃ cpl : BitVec 2, (cr0.getLsbD 0 = false → cpl = 0) ∧ (cr0.getLsbD 0 = true → v.eflags.getLsbD 17 = true → cpl = 3) ∧
        (cr0.getLsbD 0 = true → v.eflags.getLsbD 17 = false → (same → cpl = 0) ∧ (¬ same → cpl.toNat = v.cs.toNat % 4)) ∧
        let back (run : RunState) (n : Nat) : State := { s6 with
          smbase := nb, regs := v.regs, flags := Flags.ofWord v.eflags, eip := eip, cpl := cpl
          segs := { es := { g.es with sel := v.es }, cs := { g.cs with sel := v.cs }, ss := { g.ss with sel := v.ss },
                    ds := { g.ds with sel := v.ds }, fs := { g.fs with sel := v.fs }, gs := { g.gs with sel := v.gs } }
          gdtr := s.smm.gdtr, idtr := s.smm.idtr, ldtr := { s.smm.ldtr with sel := v.ldtr }, tr := { s.smm.tr with sel := v.tr }
          cr := { cr0 := cr0 ||| 0x10, cr2 := s.smm.cr2, cr3 := v.cr3, cr4 := s.smm.cr4 }
          dr := { s.dr with dr6 := v.dr6, dr7 := v.dr7 }
          run := run, bus := if run = .halted then .halt :: s6.bus else s6.bus, draws := n
          inSmm := false, pgSwitched := false, itlb := [], dtlb := [], cur := { s.cur with keepRf := true } }
        (slot = 0 → Ran .rsm s (back .running s6.draws)) ∧ (slot = 1 → s.smm.halted = true → Ran .rsm s (back .halted s6.draws)) ∧
        (slot = 1 → s.smm.halted = false → exec .rsm s = .refused .smmHaltRestart) ∧
        (2 ≤ slot.toNat → ∃ run, (run = .running ∨ run = .halted) ∧ Ran .rsm s (back run (s6.draws + 1)))

/-- Privileged instructions (14, in protected mode LLDT and LTR, and in SMM RSM) at a level above 0 fault with #GP(0) and do nothing
(23_protection.md R340, 46_system_io.md, 62_v86.md R1401). That RSM is one of them in SMM, though the pseudocode of 63_smm.md R1460 tests no level,
is the model's reading (notes/assumptions/71.md). -/
def Obligations.PrivilegedInstructions : Prop :=
  (∀ (i : Instr) (s : State), privilegedInstr i → levelOf s ≠ 0 → Faults i s gp0 s.enter) ∧
  (∀ (rm : RM) (s : State), s.prot = true → s.cpl ≠ 0 → Faults (.lldtRm16 rm) s gp0 s.enter ∧ Faults (.ltrRm16 rm) s gp0 s.enter) ∧
  ∀ s : State, s.inSmm = true → levelOf s ≠ 0 → Faults .rsm s gp0 s.enter

/-- FADD, FSUB, FSUBR, FMUL, FDIV, FDIVR with registers and memory operands, pops included (42 instructions): the destination takes the rounded
result of the operation at the precision of PC, a NaN or the masked response; the reserved precision 01 is refused (48_fpu_instructions.md
R1111 to R1118, 47_fpu_numerics.md R1033, R1062). The last clause says what the result is for finite operands: the exact sum, difference,
product or quotient rounded at that precision, with overflow and underflow (R1031, R1067, R1068), a zero, or the response to a division by zero
(R1064). C0, C2 and C3 are open, and so is C1 without PE (notes/assumptions/27.md). That tininess is judged on the exact value
(R1068, notes/assumptions/23.md), that the largest finite number of a masked overflow is that of the precision PC selects
(notes/assumptions/25.md), that the integer forms raise underflow (notes/assumptions/62.md) and that a denormal operand beside an empty register
sets no DE (notes/assumptions/26.md) is the model's choice. -/
def Obligations.FloatArithmetic : Prop :=
  (∀ (o : FOp) (a : ArForm) (i : BitVec 3) (s : State), fpuOn s →
    (cwPc s.fpu.cw = 1 → exec (arReg o a i) s = .refused .reservedPrecision) ∧
    (cwPc s.fpu.cw ≠ 1 → ∃ (fds : Half) (fdp : Word) (f : Fpu) (n : Nat),
      Ran (arReg o a i) s { s.enter with fpu := f, draws := n } ∧
      let f0 := regPtrs s fds fdp
      let d := if a = .stSti then 0 else i
      let x := if a = .stSti then i else 0
      ArDone o d (f0.st x) false (!f0.isEmpty x) (if a = .pop then 1 else 0) f0 f)) ∧
  (∀ (o : FOp) (k : NumFmt) (m : MemOp) (s : State) (ps : List Word) (s1 : State) (v : Nat) (s2 : State), fpuOn s → cwPc s.fpu.cw ≠ 1 →
    access s.as (s.eaSeg m) (s.eaOff m) k.bytes k.bytes .r (memStart m s) = .ok ps s1 → load ps s1 = .ok v s2 →
    ∃ (f : Fpu) (n : Nat), Ran (arMem o k m) s { s2 with fpu := f, draws := n } ∧
      ArDone o 0 (k.value v).1 (k.value v).2 true 0 s2.fpu f) ∧
  ∀ (o : FOp) (cw : Half) (tie den : Bool) (x y : Ext), cwPc cw ≠ 1 → finiteCls x → finiteCls y →
    let d : Bool := decide (Ext.cls x = .denormal) || decide (Ext.cls y = .denormal) || den
    let e := exactOp o (realOf x) (realOf y)
    let num := if o = .div then realOf x else realOf y
    let den0 := if o = .div then realOf y else realOf x
    let r := arith o (Fmt.ofPc cw) cw tie den x y
    (d = true → cw.getLsbD 1 = false → (o = .div ∨ o = .divr → den0 ≠ 0) → r.de = true ∧ r.res = none) ∧
    ((d = true → cw.getLsbD 1 = true) →
    ((o = .div ∨ o = .divr → den0 ≠ 0) → r.ie = false ∧ r.ze = false ∧ r.de = d ∧ (e ≠ 0 → Delivers (pcBits cw) cw e r) ∧
      (e = 0 → r.oe = false ∧ r.ue = false ∧ r.pe = false ∧ ∃ z, r.res = some z ∧ Ext.cls z = .zero)) ∧
    (o = .div ∨ o = .divr → den0 = 0 →
      (num ≠ 0 → r.ze = true ∧ r.ie = false ∧ r.res = if cw.getLsbD 2 then some (Ext.inf (Ext.neg x != Ext.neg y)) else none) ∧
      (num = 0 → r.ie = true ∧ r.ze = false ∧ r.res = if cw.getLsbD 0 then some Ext.indefinite else none)))

/-- FLD, FILD, FBLD and the constants (15 instructions): the value converted exactly is pushed; a push onto a register that is not empty is a
stack overflow (R1102, R1106, R1109, R1140). FBLD of a pattern that is no packed decimal number gives an open value and an open tag. The last
clauses say what number a single or double real, an integer and a packed decimal stand for (47_fpu_numerics.md R1035, 12_state_fpu.md R1015,
R1018, R1019). That FBLD tests alignment 8 (notes/assumptions/57.md), that FLD of an empty register reports the underflow alone even if ST(7) is
not empty (notes/assumptions/72.md) and that FLD of a denormal m32 or m64 onto a register that is not empty sets no DE
(notes/assumptions/26.md) is the model's choice. -/
def Obligations.FloatLoad : Prop :=
  (∀ (m : MemOp) (s : State), ∀ l ∈ loadForms m, ∀ ps s1 v s2, fpuOn s →
    access s.as (s.eaSeg m) (s.eaOff m) l.2.1 l.2.2.1 .r (memStart m s) = .ok ps s1 → load ps s1 = .ok v s2 →
    ∃ (f : Fpu) (n : Nat), Ran l.1 s { s2 with fpu := f, draws := n } ∧ PushDone (l.2.2.2 s2.fpu.cw v) s2.fpu f) ∧
  (∀ (m : MemOp) (s : State) ps s1 v s2, fpuOn s →
    access s.as (s.eaSeg m) (s.eaOff m) 10 8 .r (memStart m s) = .ok ps s1 → load ps s1 = .ok v s2 →
    ∃ (f g : Fpu) (n : Nat) (x : Ext), Ran (.fbldM80 m) s { s2 with fpu := f, draws := n } ∧ PushDone (Machine.Num.exact x) s2.fpu g ∧
      (∀ y, fromDecimal (BitVec.ofNat 80 v) = some y → x = y ∧ f = g) ∧
      (s2.fpu.isEmpty 7 = false → f = g) ∧ (f = g ∨ f = { g with empty := g.empty.set (g.phys 0) true })) ∧
  (∀ (s : State), fpuOn s →
    (∀ i : BitVec 3, ∃ (fds : Half) (fdp : Word) (f : Fpu) (n : Nat), Ran (.fldSti i) s { s.enter with fpu := f, draws := n } ∧
      let f0 := regPtrs s fds fdp
      if f0.isEmpty i then Settled (ifMasked f0.cw fun g => g.push Ext.indefinite) (stackFlags false) f0 f
      else PushDone (Machine.Num.exact (f0.st i)) f0 f) ∧
    ∀ c ∈ constForms, ∃ (fds : Half) (fdp : Word) (f : Fpu) (n : Nat), Ran c.1 s { s.enter with fpu := f, draws := n } ∧
      PushDone (Machine.Num.exact (constValue c.2 (cwRc s.fpu.cw))) (regPtrs s fds fdp) f) ∧
  (∀ v : Nat, v < 2 ^ 32 → Widened 8 23 v (widen32 (BitVec.ofNat 32 v))) ∧ (∀ v : Nat, v < 2 ^ 64 → Widened 11 52 v (widen64 (BitVec.ofNat 64 v))) ∧
  (∀ n : Int, n.natAbs < 2 ^ 64 → finiteValue (extOfInt n) = n ∧ (Ext.cls (extOfInt n) = .zero ∨ Ext.cls (extOfInt n) = .normal)) ∧
  ∀ v : BitVec 80,
    let digit (k : Nat) : Nat := v.toNat / 16 ^ k % 16
    (∀ y, fromDecimal v = some y → (∀ k, k < 18 → digit k ≤ 9) ∧ Ext.neg y = v.getLsbD 79 ∧
      finiteValue y = (if v.getLsbD 79 then -1 else 1) * (((List.range 18).map fun k => digit k * 10 ^ k).sum : Nat)) ∧
    (fromDecimal v = none → ∃ k, k < 18 ∧ 9 < digit k)

/-- FST, FSTP, FIST, FISTP, FBSTP (13 instructions): the converted value is stored and a P form pops, unless an unmasked exception keeps it
from memory (R1103, R1104, R1107, R1108, R1110). The last clauses say what the conversions of a finite value are: rounded to the format, or to an
integer, with the responses to overflow, underflow and to what does not fit (47_fpu_numerics.md R1036 to R1038, R1067, R1068). C1 without PE is
open but for the store of a register as it is (notes/assumptions/27.md); that FIST, FISTP and FBSTP raise D for a denormal ST, which their own
lists of exceptions leave out, and FST and FSTP do not is the model's choice (notes/assumptions/56.md), and so are that FIST and FISTP round
1/2 < |X| < 1 to nearest and that FBSTP tests alignment 8 (notes/assumptions/57.md), that a store which an unmasked exception keeps from memory
checks its operand as written (notes/assumptions/36.md), and that tininess is judged on the exact value (R1068, notes/assumptions/23.md). -/
def Obligations.FloatStore : Prop :=
  (∀ (m : MemOp) (s : State), ∀ l ∈ storeForms m, ∀ ps s1, fpuOn s →
    access s.as (s.eaSeg m) (s.eaOff m) l.2.1 l.2.2.1 .w (memStart m s) = .ok ps s1 →
    StDone false l.2.2.2.1 l.2.2.2.2.1 l.2.2.2.2.2 ps l.1 s s1) ∧
  (∀ (m : MemOp) (s : State) ps s1, fpuOn s → access s.as (s.eaSeg m) (s.eaOff m) 10 8 .w (memStart m s) = .ok ps s1 →
    StDone true (fun _ x => Narrow.exact x.toNat) 0xFFFFC000000000000000 1 ps (.fstpM80 m) s s1) ∧
  (∀ (m : MemOp) (s : State) ps s1, fpuOn s → access s.as (s.eaSeg m) (s.eaOff m) 10 8 .w (memStart m s) = .ok ps s1 →
    ∃ free : BitVec 64, StDone false (denormalFirst (toDecimal free)) (0xFFFF * 2 ^ 64 + free.toNat) 1 ps (.fbstpM80 m) s s1) ∧
  (∀ (i : BitVec 3) (s : State), fpuOn s → ∀ p ∈ [(Instr.fstSti i, 0), (Instr.fstpSti i, 1)],
    ∃ (fds : Half) (fdp : Word) (f : Fpu) (n : Nat) (c1 : Bool), Ran p.1 s { s.enter with fpu := f, draws := n } ∧
      let f0 := regPtrs s fds fdp
      if f0.isEmpty 0 then Settled (ifMasked f0.cw fun g => (g.setSt i Ext.indefinite).pops p.2) (stackFlags false) f0 f
      else Settled (fun g => (g.setSt i (g.st 0)).pops p.2) (fun w => { w with c1 := c1 }) f0 f) ∧
  ∀ (cw : Half) (x : Ext), finiteCls x →
    let misfit (r : Narrow) (out : Nat) : Prop := r.ie = true ∧ r.out = if cw.getLsbD 0 then some out else none
    let fits (w : ℤ) (r : Narrow) : Prop := r.ie = false ∧ (r.pe = true ↔ (w : ℝ) ≠ realOf x) ∧ (r.pe = true → (r.c1 = true ↔ |realOf x| < |(w : ℝ)|))
    (Ext.cls x ≠ .zero → StoresReal 8 23 cw x (toSingle cw x) ∧ StoresReal 11 52 cw x (toDouble cw x)) ∧
    (∀ n, n = 16 ∨ n = 32 ∨ n = 64 → ∃ w : ℤ, RoundedAt (cwRc cw) 1 (realOf x) w ∧
      let r := toInteger n cw x
      if -(2 ^ (n - 1)) ≤ w ∧ w < 2 ^ (n - 1) then fits w r ∧ r.out = some (BitVec.ofInt n w).toNat else misfit r (2 ^ (n - 1))) ∧
    ∀ free : BitVec 64, ∃ w : ℤ, RoundedAt (cwRc cw) 1 (realOf x) w ∧
      let r := toDecimal free cw x
      if w.natAbs < 10 ^ 18 then fits w r ∧ ∃ n, r.out = some n ∧ n / 2 ^ 72 = (if Ext.neg x then 128 else 0) ∧
          ∀ k, k < 18 → n / 16 ^ k % 16 = w.natAbs / 10 ^ k % 10
      else misfit r (0xFFFF * 2 ^ 64 + free.toNat)

/-- FCOM, FCOMP, FCOMPP, FUCOM, FUCOMP, FUCOMPP, FICOM, FICOMP, FTST, FXAM (16 instructions): C3, C2, C0 say greater, less, equal or unordered
of the numeric values; FXAM the class of ST and its sign (R1120 to R1123, R1126). That FXAM answers 101 for an empty register whatever it holds
(notes/assumptions/53.md) and that DE is set beside an infinite operand, and beside a masked SNaN or unsupported one, but not beside an empty register
(notes/assumptions/26.md) is the model's choice, and so is that an unmasked denormal operand clears C1 (notes/assumptions/27.md) and that FXAM takes a pseudodenormal for a denormal (notes/assumptions/80.md). -/
def Obligations.FloatCompare : Prop :=
  (∀ (i : BitVec 3) (s : State), fpuOn s → ∀ c ∈ compareForms i,
    ∃ (fds : Half) (fdp : Word) (f : Fpu) (n : Nat), Ran c.1 s { s.enter with fpu := f, draws := n } ∧
      let f0 := regPtrs s fds fdp
      CmpDone c.2.2.1 (f0.st c.2.1) false (!f0.isEmpty c.2.1) c.2.2.2 f0 f) ∧
  (∀ (m : MemOp) (s : State), ∀ c ∈ compareMemForms m, ∀ ps s1 v s2, fpuOn s →
    access s.as (s.eaSeg m) (s.eaOff m) c.2.1.bytes c.2.1.bytes .r (memStart m s) = .ok ps s1 → load ps s1 = .ok v s2 →
    ∃ (f : Fpu) (n : Nat), Ran c.1 s { s2 with fpu := f, draws := n } ∧
      CmpDone false (c.2.1.value v).1 (c.2.1.value v).2 true c.2.2 s2.fpu f) ∧
  ∀ s : State, fpuOn s →
    (∃ (fds : Half) (fdp : Word) (f : Fpu) (n : Nat), Ran .ftst s { s.enter with fpu := f, draws := n } ∧
      CmpDone false (Ext.zero false) false true 0 (regPtrs s fds fdp) f) ∧
    ∃ (fds : Half) (fdp : Word) (f : Fpu) (n : Nat), Ran .fxam s { s.enter with fpu := f, draws := n } ∧
      let x := s.fpu.st 0
      let is (c3 c2 c0 : Bool) : Prop :=
        Final id (fun w => { w with c3 := c3, c2 := c2, c0 := c0, c1 := x.getLsbD 79 }) (regPtrs s fds fdp) f
      (s.fpu.isEmpty 0 = true → is true false true) ∧
      (s.fpu.isEmpty 0 = false →
        (Ext.cls x = .unsupported → is false false false) ∧ (Ext.cls x = .qnan ∨ Ext.cls x = .snan → is false false true) ∧
        (Ext.cls x = .normal → is false true false) ∧ (Ext.cls x = .inf → is false true true) ∧ (Ext.cls x = .zero → is true false false) ∧
        (Ext.cls x = .denormal → is true true false))

/-- FSQRT, FRNDINT, FABS, FCHS, FSCALE, FXTRACT, FPREM, FPREM1 (8 instructions): ST takes the result (FXTRACT also pushes); a partial remainder
says in C2 whether it is complete, and the quotient bits go to C0, C3, C1 (R1130 to R1137). The last clauses say what the results are for finite
operands: the rounded square root, the integer, the scaled number, the exact remainder. The model's choices: FXTRACT delivers a NaN or the
indefinite in both places (notes/assumptions/28.md); the condition bits after an invalid FPREM, C1 after an unmasked zero divide, and C1
without PE or after a stop (notes/assumptions/27.md); how far one FPREM reduces (notes/assumptions/54.md) and that an incomplete FPREM1 truncates
too (notes/assumptions/74.md); that FRNDINT rounds 1/2 < |X| < 1 to nearest (notes/assumptions/57.md); that FXTRACT of an empty register reports
the underflow alone (notes/assumptions/72.md); a denormal operand beside an empty register sets no DE (notes/assumptions/26.md); tininess is
judged on the exact value (R1068, notes/assumptions/23.md). PE and C1 of an FSCALE whose scaled result is still out of range are open (notes/assumptions/61.md). -/
def Obligations.FloatUnary : Prop :=
  (∀ s : State, fpuOn s →
    (cwPc s.fpu.cw = 1 → exec .fsqrt s = .refused .reservedPrecision) ∧
    (∀ u ∈ [(Instr.fsqrt, sqrtExt (Fmt.ofPc s.fpu.cw) s.fpu.cw), (Instr.frndint, rndintExt s.fpu.cw)],
      (u.1 = .fsqrt → cwPc s.fpu.cw ≠ 1) →
      ∃ (fds : Half) (fdp : Word) (f : Fpu) (n : Nat) (c : Bool), Ran u.1 s { s.enter with fpu := f, draws := n } ∧
        let f0 := regPtrs s fds fdp
        if f0.isEmpty 0 then Settled (ifMasked f0.cw fun g => g.setSt 0 Ext.indefinite) (stackFlags false) f0 f
        else Settled (withResult (u.2 (f0.st 0)).res fun v g => g.setSt 0 v) (raised c (u.2 (f0.st 0))) f0 f) ∧
    (∀ u ∈ [(Instr.fabs, false), (Instr.fchs, !(s.fpu.st 0).getLsbD 79)],
      ∃ (fds : Half) (fdp : Word) (f : Fpu) (n : Nat), Ran u.1 s { s.enter with fpu := f, draws := n } ∧
        let f0 := regPtrs s fds fdp
        if f0.isEmpty 0 then Settled (ifMasked f0.cw fun g => g.setSt 0 Ext.indefinite) (stackFlags false) f0 f
        else Settled (fun g => g.setSt 0 (BitVec.ofBool u.2 ++ (f0.st 0).setWidth 79)) (fun w => { w with c1 := false }) f0 f) ∧
    (∃ (fds : Half) (fdp : Word) (f : Fpu) (n : Nat) (tie pe up c : Bool), Ran .fscale s { s.enter with fpu := f, draws := n } ∧
      let f0 := regPtrs s fds fdp
      let r := scaleExt f0.cw tie pe up (f0.st 0) (f0.st 1)
      if f0.isEmpty 0 ∨ f0.isEmpty 1 then Settled (ifMasked f0.cw fun g => g.setSt 0 Ext.indefinite) (stackFlags false) f0 f
      else Settled (withResult r.res fun v g => g.setSt 0 v) (raised c r) f0 f) ∧
    (∃ (fds : Half) (fdp : Word) (f : Fpu) (n : Nat), Ran .fxtract s { s.enter with fpu := f, draws := n } ∧
      let f0 := regPtrs s fds fdp
      let x := f0.st 0
      let both (a b : Ext) (g : Fpu) : Fpu := (g.setSt 0 a).push b
      (f0.isEmpty 0 = true →
        Settled (ifMasked f0.cw (both Ext.indefinite Ext.indefinite)) (stackFlags false) f0 f) ∧
      (f0.isEmpty 0 = false → f0.isEmpty 7 = false →
        Settled (ifMasked f0.cw (both Ext.indefinite Ext.indefinite)) (stackFlags true) f0 f) ∧
      (f0.isEmpty 0 = false → f0.isEmpty 7 = true →
        (Ext.cls x = .qnan → Settled (both x x) (fun w => { w with c1 := false }) f0 f) ∧
        (Ext.cls x = .inf → Settled (both (Ext.inf false) x) (fun w => { w with c1 := false }) f0 f) ∧
        (Ext.cls x = .zero →
          Settled (if f0.cw.getLsbD 2 then both (Ext.inf true) x else id) (fun w => { w with ze := true, c1 := false }) f0 f) ∧
        (Ext.cls x = .normal → ∃ m : Ext,
          Settled (both (extOfInt ((Ext.be x : Int) - 16383)) m) (fun w => { w with c1 := false }) f0 f ∧
          Ext.be m = 16383 ∧ Ext.neg m = Ext.neg x ∧ Ext.sig m = Ext.sig x))) ∧
    ∀ (near : Bool), ∃ (fds : Half) (fdp : Word) (f : Fpu) (n : Nat) (tie : Bool),
      Ran (if near then .fprem1 else .fprem) s { s.enter with fpu := f, draws := n } ∧
      let f0 := regPtrs s fds fdp
      let x := f0.st 0
      let y := f0.st 1
      let r := premExt near (Config.fpremStep x y) f0.cw tie x y
      if f0.isEmpty 0 ∨ f0.isEmpty 1 then
        ∃ c0 c3, Final (ifMasked f0.cw fun g => g.setSt 0 Ext.indefinite)
          (fun w => if f0.cw.getLsbD 0 then { stackFlags false w with c0 := c0, c3 := c3, c2 := false } else stackFlags false w) f0 f
      else if r.num.res = none then ∃ c1, Final id (raised c1 r.num) f0 f
      else ∃ c0 c1 c3, Final (withResult r.num.res fun v g => g.setSt 0 v)
          (fun w => { raised false r.num w with c2 := !r.done, c0 := c0, c1 := c1, c3 := c3 }) f0 f ∧
        (r.num.ie = false → Ext.cls x ≠ .qnan → Ext.cls y ≠ .qnan → c0 = r.q.testBit 2 ∧ c3 = r.q.testBit 1 ∧ c1 = r.q.testBit 0)) ∧
  (∀ (cw : Half) (x : Ext), finiteCls x → (Ext.cls x = .denormal → cw.getLsbD 1 = true) →
    (cwPc cw ≠ 1 → 0 < realOf x → Delivers (pcBits cw) cw (√(realOf x)) (sqrtExt (Fmt.ofPc cw) cw x)) ∧
    (cwPc cw ≠ 1 → realOf x < 0 → (sqrtExt (Fmt.ofPc cw) cw x).ie = true ∧
      (sqrtExt (Fmt.ofPc cw) cw x).res = if cw.getLsbD 0 then some Ext.indefinite else none) ∧
    ∃ v, RoundedAt (cwRc cw) 1 (realOf x) v ∧
      let r := rndintExt cw x
      (r.pe = true ↔ v ≠ realOf x) ∧ (r.pe = true → (r.c1 = true ↔ |realOf x| < |v|)) ∧
      ∃ z, r.res = some z ∧ realOf z = v ∧ Ext.neg z = Ext.neg x) ∧
  ∀ (cw : Half) (tie pe up : Bool) (x y : Ext), finiteCls x → finiteCls y → realOf x ≠ 0 →
    (Ext.cls x = .denormal ∨ Ext.cls y = .denormal → cw.getLsbD 1 = true) →
    let a := realOf x
    let b := realOf y
    (|b| ≤ 65536 → Delivers 64 cw (a * 2 ^ (if 0 ≤ b then ⌊b⌋ else ⌈b⌉)) (scaleExt cw tie pe up x y)) ∧
    (b ≠ 0 → cw.getLsbD 4 = true → ∀ (near : Bool) (step : Nat),
      let r := premExt near step cw tie x y
      let gap : ℤ := Int.log 2 |a| - Int.log 2 |b|
      (gap < 64 → r.done = true ∧ ∃ (q : ℤ) (z : Ext), r.num.res = some z ∧ realOf z = a - q * b ∧ r.q = q.natAbs ∧
        (near = false → q = if 0 ≤ a / b then ⌊a / b⌋ else ⌈a / b⌉) ∧ (near = true → RoundedAt 0 1 (a / b) q)) ∧
      (64 ≤ gap → r.done = false ∧ ∃ (q : ℤ) (z : Ext), r.num.res = some z ∧ realOf z = a - q * b ∧ |realOf z| < |b| * 2 ^ (gap - 32)) ∧
      r.num.pe = false)

/-- FSIN, FCOS, FSINCOS, FPTAN, FPATAN, F2XM1, FYL2X, FYL2XP1 (8 instructions): they complete for every operand; only ST (and ST(1), what is
pushed or popped) and the status word change; an operand of a trigonometric function beyond 2^63 leaves everything and sets C2; the
results the tables fix for zero and infinite operands (R1145 to R1151, 47_fpu_numerics.md R1034, R1040, R1041). The last clause: in the state a
step runs the instruction in (`StepRunsDecoded`), with all exceptions masked, the other results lie within the error bound of the exact ones,
arguments being reduced with the 66-bit pi (R1034). The model's choices: FSINCOS and FPTAN deliver the indefinite in both registers for a missing
operand or a full stack (notes/assumptions/28.md), the underflow alone where both are so (notes/assumptions/72.md), and stack overflow of an operand
out of range too (notes/assumptions/73.md); a denormal operand beside an empty register sets no DE (notes/assumptions/26.md); C2 is 0 after a
NaN (notes/assumptions/27.md); the modulus of the reduction is one of four (notes/assumptions/34.md). -/
def Obligations.FloatTranscendental : Prop :=
  (∀ s : State, fpuOn s →
    (∀ i ∈ ([.fsin, .fcos] : List Instr), ∃ (fds : Half) (fdp : Word) (f : Fpu) (n : Nat), Ran i s { s.enter with fpu := f, draws := n } ∧
      let f0 := regPtrs s fds fdp
      let x := f0.st 0
      let run := f0.isEmpty 0 = false
      (f0.isEmpty 0 = true → Settled (ifMasked f0.cw fun g => g.setSt 0 Ext.indefinite) (stackFlags false) f0 f) ∧
      (run → (Ext.cls x = .normal ∧ 16383 + 63 ≤ Ext.be x) → Loose id f0 f ∧ f.sw.c2 = true) ∧
      (run → ¬ (Ext.cls x = .normal ∧ 16383 + 63 ≤ Ext.be x) → Loose id f0 f ∨ ∃ v, Loose (fun g => g.setSt 0 v) f0 f ∧ f.sw.c2 = false) ∧
      (run → allMasked f0 → ¬ (Ext.cls x = .normal ∧ 16383 + 63 ≤ Ext.be x) → ∃ v, Loose (fun g => g.setSt 0 v) f0 f ∧ f.sw.c2 = false ∧
        (Ext.cls x = .inf → v = Ext.indefinite ∧ f.sw.ie = true) ∧
        (Ext.cls x = .zero → v = if i = .fsin then x else Ext.one false))) ∧
    (∀ i ∈ ([.fsincos, .fptan] : List Instr), ∃ (fds : Half) (fdp : Word) (f : Fpu) (n : Nat), Ran i s { s.enter with fpu := f, draws := n } ∧
      let f0 := regPtrs s fds fdp
      let x := f0.st 0
      let run := f0.isEmpty 0 = false ∧ f0.isEmpty 7 = true
      let both (a b : Ext) (g : Fpu) : Fpu := (g.setSt 0 a).push b
      (¬ run → Settled (ifMasked f0.cw (both Ext.indefinite Ext.indefinite)) (stackFlags (!f0.isEmpty 0)) f0 f) ∧
      (run → (Ext.cls x = .normal ∧ 16383 + 63 ≤ Ext.be x) → Loose id f0 f ∧ f.sw.c2 = true) ∧
      (run → ¬ (Ext.cls x = .normal ∧ 16383 + 63 ≤ Ext.be x) → Loose id f0 f ∨ ∃ v w, Loose (both v w) f0 f ∧ f.sw.c2 = false) ∧
      (run → allMasked f0 → ¬ (Ext.cls x = .normal ∧ 16383 + 63 ≤ Ext.be x) → ∃ v w, Loose (both v w) f0 f ∧ f.sw.c2 = false ∧
        (Ext.cls x = .inf → v = Ext.indefinite ∧ f.sw.ie = true) ∧
        (Ext.cls x = .zero → v = x ∧ w = Ext.one false) ∧
        (i = .fptan → Ext.cls x = .normal ∨ Ext.cls x = .denormal → w = Ext.one false))) ∧
    (∃ (fds : Half) (fdp : Word) (f : Fpu) (n : Nat), Ran .f2xm1 s { s.enter with fpu := f, draws := n } ∧
      let f0 := regPtrs s fds fdp
      let x := f0.st 0
      (f0.isEmpty 0 = true → Settled (ifMasked f0.cw fun g => g.setSt 0 Ext.indefinite) (stackFlags false) f0 f) ∧
      (f0.isEmpty 0 = false → Loose id f0 f ∨ ∃ v, Loose (fun g => g.setSt 0 v) f0 f) ∧
      (f0.isEmpty 0 = false → allMasked f0 → ∃ v, Loose (fun g => g.setSt 0 v) f0 f ∧
        (Ext.cls x = .zero ∨ x = Ext.inf false → v = x) ∧ (x = Ext.inf true → v = Ext.one true))) ∧
    ∀ i ∈ ([.fpatan, .fyl2x, .fyl2xp1] : List Instr), ∃ (fds : Half) (fdp : Word) (f : Fpu) (n : Nat),
      Ran i s { s.enter with fpu := f, draws := n } ∧
      let f0 := regPtrs s fds fdp
      let x := f0.st 0
      let y := f0.st 1
      let run := f0.isEmpty 0 = false ∧ f0.isEmpty 1 = false
      let put (v : Ext) (g : Fpu) : Fpu := (g.setSt 1 v).pop
      (¬ run → Settled (ifMasked f0.cw (put Ext.indefinite)) (stackFlags false) f0 f) ∧
      (run → Loose id f0 f ∨ ∃ v, Loose (put v) f0 f) ∧
      (run → allMasked f0 → ∃ v, Loose (put v) f0 f ∧
        (i = .fyl2x → Ext.cls y = .normal → Ext.cls x = .zero → v = Ext.inf (!Ext.neg y) ∧ f.sw.ze = true) ∧
        (i = .fyl2x → Ext.cls y = .normal → Ext.cls x = .normal → Ext.neg x = true → v = Ext.indefinite ∧ f.sw.ie = true) ∧
        (i = .fyl2xp1 → Ext.cls y = .normal → Ext.cls x = .zero → v = Ext.zero (Ext.neg x != Ext.neg y)) ∧
        (i = .fyl2xp1 → Ext.cls y = .inf → x = Ext.inf false ∨ (Ext.cls x = .normal ∧ Ext.neg x = false) → v = y) ∧
        (i = .fpatan → Ext.cls y = .zero → Ext.neg x = false → Ext.cls x = .normal ∨ Ext.cls x = .zero → v = Ext.zero (Ext.neg y)))) ∧
  ∃ d : Reduction, d.ok ∧ ∀ s : State, fpuOn s → allMasked s.fpu → s.fpu.isEmpty 0 = false →
    let x := s.fpu.st 0
    let y := s.fpu.st 1
    let rc := cwRc s.fpu.cw
    let e (g : Transcendental) : ℝ := exactReal d g (realOf x) (realOf y)
    let put (v : Ext) (g : Fpu) : Fpu := (g.setSt 1 v).pop
    -- `i` leaves the registers as `k` says
    let leaves (i : Instr) (k : Fpu → Fpu) : Prop := ∃ (fds : Half) (fdp : Word) (f : Fpu) (n : Nat),
      Ran i (withUnit i s) { (withUnit i s).enter with fpu := f, draws := n } ∧ Loose k (regPtrs s fds fdp) f
    (Ext.cls x = .normal → Ext.be x < 16383 + 63 →
      (∃ v, Near rc (e .fsin) v ∧ leaves .fsin fun g => g.setSt 0 v) ∧ (∃ v, Near rc (e .fcos) v ∧ leaves .fcos fun g => g.setSt 0 v) ∧
      (s.fpu.isEmpty 7 = true →
        (∃ v w, Near rc (e .fsin) v ∧ Near rc (e .fcos) w ∧ leaves .fsincos fun g => (g.setSt 0 v).push w) ∧
        ∃ v, Near rc (e .fptan) v ∧ leaves .fptan fun g => (g.setSt 0 v).push (Ext.one false))) ∧
    (Ext.cls x = .normal → Ext.be x < 16383 → ∃ v, Near rc (e .f2xm1) v ∧ leaves .f2xm1 fun g => g.setSt 0 v) ∧
    (s.fpu.isEmpty 1 = false → Ext.cls x = .normal → Ext.cls y = .normal →
      (∃ v, Near rc (e .fpatan) v ∧ leaves .fpatan (put v)) ∧
      (Ext.neg x = false → ∃ v, Near rc (e .fyl2x) v ∧ leaves .fyl2x (put v)) ∧
      (-(1 - √2 / 2) < realOf x → realOf x < √2 - 1 → ∃ v, Near rc (e .fyl2xp1) v ∧ leaves .fyl2xp1 (put v)))

/-- FXCH, FINCSTP, FDECSTP, FFREE, FNOP, FENI, FDISI, FSETPM, WAIT (9 instructions): exchange, TOP by one, an empty tag, nothing; but for WAIT the
pointers name the instruction (R1105, R1169 to R1173, 12_state_fpu.md R1010). That R1173 leaves the pointers of FENI, FDISI and FSETPM to R1010 is
the model's choice (notes/assumptions/33.md). -/
def Obligations.FloatStackControl : Prop :=
  (∀ s : State, fpuOn s →
    (∀ i : BitVec 3, ∃ (fds : Half) (fdp : Word) (f : Fpu) (n : Nat), Ran (.fxchSti i) s { s.enter with fpu := f, draws := n } ∧
      let f0 := regPtrs s fds fdp
      let a := if f0.isEmpty 0 then Ext.indefinite else f0.st 0
      let b := if f0.isEmpty i then Ext.indefinite else f0.st i
      if f0.isEmpty 0 ∨ f0.isEmpty i then Settled (ifMasked f0.cw fun g => (g.setSt i a).setSt 0 b) (stackFlags false) f0 f
      else Settled (fun g => (g.setSt i a).setSt 0 b) (fun w => { w with c1 := false }) f0 f) ∧
    (∀ p ∈ [(Instr.fincstp, (1 : BitVec 3)), (Instr.fdecstp, 7)],
      ∃ (fds : Half) (fdp : Word) (f : Fpu) (n : Nat), Ran p.1 s { s.enter with fpu := f, draws := n } ∧
        Settled id (fun w => { w with top := w.top + p.2, c1 := false }) (regPtrs s fds fdp) f) ∧
    (∀ i : BitVec 3, ∃ (fds : Half) (fdp : Word) (f : Fpu) (n : Nat) (c1 : Bool), Ran (.ffreeSti i) s { s.enter with fpu := f, draws := n } ∧
      Settled (fun g => { g with empty := g.empty.set (g.phys i) true }) (fun w => { w with c1 := c1 }) (regPtrs s fds fdp) f) ∧
    (∃ (fds : Half) (fdp : Word) (f : Fpu) (n : Nat), Ran .fnop s { s.enter with fpu := f, draws := n } ∧ Final id id (regPtrs s fds fdp) f) ∧
    ∀ i ∈ ([.feni, .fdisi, .fsetpm] : List Instr), ∃ (fds : Half) (fdp : Word) (n : Nat),
      Ran i s { s.enter with fpu := regPtrs s fds fdp, draws := n }) ∧
  ∀ s : State,
    (s.mp = true ∧ s.tsFlag = true → Faults .wait s { vec := 7, code := none, dbg := none } s.enter) ∧
    (¬ (s.mp = true ∧ s.tsFlag = true) → s.fpu.sw.es = false ∨ (s.ne = false ∧ s.inp.ignne = true) → Ran .wait s s.enter)

/-- FNINIT, FNCLEX, FNSTSW, FNSTCW, FNSTENV, FNSAVE, FLDCW, FLDENV, FRSTOR (10 instructions): the no-wait forms complete whatever exception is
pending; the environment is stored and read back field by field, in the four layouts (R1160 to R1168, 12_state_fpu.md R1012, R1013). What the
images do not hold, the selectors of the real-address formats and the upper halves of the offsets in the 16-bit protected-mode one, becomes 0: the
model's choice (notes/assumptions/32.md, notes/assumptions/57.md), and so is that FNSAVE and FRSTOR test the alignment of the start of their image
alone (notes/assumptions/57.md). -/
def Obligations.FloatControl : Prop :=
  (∀ (x : NoWait) (s : State), x.ready s → ∃ t, x.Done s t ∧ Ran x.instr s t) ∧
  (∀ (m : MemOp) (s : State) ps s1 v s2, fpuOn s → access s.as (s.eaSeg m) (s.eaOff m) 2 2 .r s.enter = .ok ps s1 → load ps s1 = .ok v s2 →
    ∃ (f : Fpu) (n : Nat) (c1 : Bool), Ran (.fldcwM16 m) s { s2 with fpu := f, draws := n } ∧
      Settled (fun g => { g with cw := BitVec.ofNat 16 v }) (fun w => { w with c1 := c1 }) s2.fpu f) ∧
  ∀ (regs : Bool) (m : MemOp) (s : State) ps s1 v s2, fpuOn s →
    access s.as (s.eaSeg m) (s.eaOff m) (envSize s regs) s.os.bytes .r s.enter = .ok ps s1 →
    load (ps.take (envSize s false)) s1 = .ok v s2 →
    (∀ w s3, regs = true → load (ps.drop (envSize s false)) { s2 with draws := s2.draws + 1 } = .ok w s3 →
      ∃ f : Fpu, Ran (.frstorM m) s { s3 with fpu := f } ∧ envLoaded s v f ∧
        ∀ i : BitVec 3, f.st i = BitVec.ofNat 80 (w / 2 ^ (80 * i.toNat))) ∧
    (regs = false → ∃ (f : Fpu) (n : Nat), Ran (.fldenvM m) s { s2 with fpu := f, draws := n } ∧ f.regs = s.fpu.regs ∧ envLoaded s v f)

/-- FINIT, FCLEX, FSTSW, FSTCW, FSTENV, FSAVE (7 instructions): a WAIT, then the no-wait form; where nothing can happen between the two, both
run in one step, otherwise the step ends after the WAIT (R1160, notes/assumptions/7.md: the model's choice). That the time stamp counter moves
twice in the joined step (notes/assumptions/38.md) and that FSAVE tests the alignment of the start of its image alone (notes/assumptions/57.md) is
the model's choice too. -/
def Obligations.FloatWaitingForms : Prop :=
  ∀ (x : NoWait) (s : State), ¬ (s.mp = true ∧ s.tsFlag = true) → s.fpu.sw.es = false ∨ (s.ne = false ∧ s.inp.ignne = true) →
    ((afterWait s).quiet = false → exec x.waiting s = .next (afterWait s)) ∧
    ((afterWait s).quiet = true → x.ready (behindWait s) →
      ∃ t, x.Done (behindWait s) t ∧ exec x.waiting s = .next ((behindWait s).complete t))

/-- With CR0.EM or CR0.TS set every ESC instruction faults with #NM; with an unmasked numeric exception pending every one but the no-wait forms, and
WAIT, faults with #MF if CR0.NE = 1, and waits, executing nothing, if CR0.NE = 0 and IGNNE# is inactive (R1100, 47_fpu_numerics.md R1061,
60_exceptions.md R1231, R1236). The model's choices: that the wait is a step which ends in the same state, its latch and one-instruction shadows
empty (notes/assumptions/55.md), and that FENI, FDISI and FSETPM raise #NM and #MF like the others (notes/assumptions/33.md). -/
def Obligations.FloatNotAvailable : Prop :=
  ∀ (i : Instr) (s : State),
    (isEsc i → s.em = true ∨ s.tsFlag = true → Faults i s { vec := 7, code := none, dbg := none } s.enter) ∧
    ((isEsc i ∧ ¬ noWait i ∧ s.em = false ∧ s.tsFlag = false) ∨ (i = .wait ∧ ¬ (s.mp = true ∧ s.tsFlag = true)) → s.fpu.sw.es = true →
      (s.ne = true → Faults i s { vec := 16, code := none, dbg := none } s.enter) ∧
      (s.ne = false → s.inp.ignne = false → exec i s = .next { s with cur := .empty, inhibitSs := false, inhibitSti := false }))

/-- `round_p` (47_fpu_numerics.md R1031): the result has `p` significand bits; a value that fits is kept; otherwise it lies next to the exact value,
on the side the rounding mode says, at the even neighbour when it is halfway; `inexact` and `up` say what happened. With `sticky` the exact value
lies strictly between `sig` and the next number. -/
def Obligations.RoundToPrecision : Prop :=
  ∀ (rc : BitVec 2) (p : Nat) (d : Dy), 0 < p → d.sig ≠ 0 →
    let r := roundP rc p d
    let l := bitLen d.sig
    2 ^ (p - 1) ≤ r.sig ∧ r.sig < 2 ^ p ∧
    (d.sticky = true → p < l → ∃ m : Nat, r.sig * 2 ^ (r.top - d.top).toNat = m ∧ d.top ≤ r.top ∧
      let ulp := 2 ^ (l - p)
      r.inexact = true ∧ (r.up = true ↔ d.sig < m * ulp) ∧ m * ulp ≤ d.sig + ulp ∧ d.sig < m * ulp + ulp ∧
      (rc = 0 → 2 * (m * ulp) ≤ 2 * d.sig + ulp ∧ 2 * (d.sig + 1) ≤ 2 * (m * ulp) + ulp) ∧
      (rc = 1 → (r.up = true ↔ d.neg = true)) ∧ (rc = 2 → (r.up = true ↔ d.neg = false)) ∧ (rc = 3 → r.up = false)) ∧
    (d.sticky = false → l ≤ p → r.sig = d.sig * 2 ^ (p - l) ∧ r.top = d.top ∧ r.inexact = false ∧ r.up = false) ∧
    (d.sticky = false → p < l → ∃ m : Nat, r.sig * 2 ^ (r.top - d.top).toNat = m ∧ d.top ≤ r.top ∧
      let ulp := 2 ^ (l - p)
      (r.inexact = false ↔ m * ulp = d.sig) ∧ (r.up = true ↔ d.sig < m * ulp) ∧
      m * ulp < d.sig + ulp ∧ d.sig < m * ulp + ulp ∧
      (rc = 0 → 2 * (m * ulp) ≤ 2 * d.sig + ulp ∧ 2 * d.sig ≤ 2 * (m * ulp) + ulp ∧
        (2 * d.sig = 2 * (m * ulp) + ulp ∨ 2 * (m * ulp) = 2 * d.sig + ulp → m % 2 = 0)) ∧
      (rc = 1 → if d.neg then d.sig ≤ m * ulp else m * ulp ≤ d.sig) ∧
      (rc = 2 → if d.neg then m * ulp ≤ d.sig else d.sig ≤ m * ulp) ∧
      (rc = 3 → m * ulp ≤ d.sig))

/-- Words written out from the encoding rules decode to the instruction they stand for, bytes that name no instruction are refused by their kind
(30_encoding.md R400 to R450), and each of the eleven prefixes puts what it says into the latch of the instruction that follows
(R401 to R408). -/
def Obligations.DecodeWords : Prop :=
  decodeOne .s32 .s32 [0x01, 0xC8] = .ok (.addRmR (.reg .eax) .ecx) [] ∧
  decodeOne .s32 .s32 [0x8B, 0x44, 0x24, 0x08] = .ok (.movRRm (.mem (.sib 0 .esp .esp (.d8 0x08))) .eax) [] ∧
  decodeOne .s16 .s16 [0x0F, 0x01, 0x16, 0x00, 0x10] = .ok (.lgdtM (.direct16 0x1000)) [] ∧
  decodeOne .s32 .s32 [0xC1, 0xE0, 0x04] = .ok (.shlRmImm8 (.reg .eax) 4) [] ∧
  decodeOne .s32 .s32 [0x0F, 0x22, 0xD8] = .ok (.movCrR32 3 .eax) [] ∧
  decodeOne .s16 .s32 [0x74, 0xFE, 0x90] = .ok (.jccRel8 .e 0xFE) [0x90] ∧
  decodeOne .s32 .s16 [0xCD, 0x21] = .ok (.intImm8 0x21) [] ∧
  decodeOne .s32 .s32 [0xD8, 0xC1] = .ok (.faddStSti 1) [] ∧
  decode .s32 .s32 [0x9B, 0xDB, 0xE3] = .ok .finit [] ∧
  decodeOne .s32 .s32 [0xF3, 0xA4] = .ok .prefixRep [0xA4] ∧
  decodeOne .s32 .s32 [0x0F, 0x22] = .more ∧
  decodeOne .s32 .s32 [0xD6] = .bad .reserved ∧ decodeOne .s32 .s32 [0xF6, 0xC8] = .bad .aliased ∧
  decodeOne .s32 .s32 [0x0F, 0x01, 0xD0] = .bad .undefined ∧
  ∀ s : State,
    (∀ p ∈ [(Instr.prefixEs, SReg.es), (.prefixCs, .cs), (.prefixSs, .ss), (.prefixDs, .ds), (.prefixFs, .fs), (.prefixGs, .gs)],
      exec p.1 s = .next { s with cur := { s.cur with seg := some p.2, redundant := s.cur.redundant || s.cur.seg.isSome } }) ∧
    exec .prefixOpSize s = .next { s with cur := { s.cur with opsz := true, redundant := s.cur.redundant || s.cur.opsz } } ∧
    exec .prefixAdSize s = .next { s with cur := { s.cur with adsz := true, redundant := s.cur.redundant || s.cur.adsz } } ∧
    exec .prefixLock s =
      .next { s with cur := { s.cur with lock := true, redundant := s.cur.redundant || s.cur.lock || s.cur.rep.isSome } } ∧
    ∀ p ∈ [(Instr.prefixRep, Rep.rep), (.prefixRepne, .repne)],
      exec p.1 s = .next { s with cur := { s.cur with rep := some p.2, redundant := s.cur.redundant || s.cur.lock || s.cur.rep.isSome } }

/-- DECODE AND ENCODE AGREE: for every well-formed instruction, prefix and waiting form, at every operand and address size, with every operand at
every value its encoding admits, decoding its encoding gives it back and leaves the bytes behind it (30_encoding.md, all of its encoding
rules); and no shorter part of the encoding decodes to anything. -/
def Obligations.DecodeEncode : Prop :=
  ∀ (os as : Size) (i : Instr) (rest : List Byte), i.wf os as = true →
    ((∃ x : NoWait, i = x.waiting) → decode os as (encode os as i ++ rest) = .ok i rest) ∧
    ((¬ ∃ x : NoWait, i = x.waiting) → decodeOne os as (encode os as i ++ rest) = .ok i rest ∧
      ∀ n, n < (encode os as i).length → decodeOne os as ((encode os as i).take n) = .more)

/-- A STEP RUNS THE DECODED INSTRUCTION: where no event comes first and the bytes at CS:EIP are prefixes followed by the encoding of an instruction
under the sizes they select, at most 15 bytes, with no redundant or forbidden prefix (and, after a change of PG, identity mapped), the step is `exec` of that instruction with the prefixes, the
length, the FPU opcode and, for a transcendental instruction, the result of its unit in its latch; a jump ends the stretch that must be identity
mapped. The same for a WAIT joined to the no-wait instruction behind it (00_scope.md R11, 30_encoding.md R400 to R408). The model's choices: that a
WAIT and the no-wait form are fetched as one instruction (notes/assumptions/7.md), that the result of the transcendental unit is put into the
latch (notes/assumptions/34.md), and which transfers end that stretch (notes/assumptions/19.md). -/
def Obligations.StepRunsDecoded : Prop :=
  ∀ (s : State) (ps : List Instr) (c : Latch) (i : Instr),
    let t := s.begin
    let z := sizesOf t c
    let code := encode z.1 z.2 i
    let bytes := (ps.flatMap fun p => encode .s16 .s16 p) ++ code
    t.boundary = none → latchOf ps Latch.empty = some c → prefixEffect i = none → i ≠ .wait → i.wf z.1 z.2 = true →
    bytes.length ≤ 15 → codeAt t bytes →
    (t.pgSwitched = true → ∀ (l : Latch) k, k < bytes.length → identityMapped (t.segs.cs.base + (t.eip + BitVec.ofNat 32 k)) { t with cur := l } = true) →
    ((¬ ∃ x : NoWait, i = x.waiting) → c.redundant = false → (c.lock = true → lockable i = true) →
      (∀ r, c.rep = some r → repAllowed i r = true) →
      step s = exec i (withUnit i { t with
        cur := { c with len := bytes.length, fop := fopOf code }, pgSwitched := t.pgSwitched && !jumpsAway i })) ∧
    (∀ x : NoWait, i = x.waiting → ps = [] →
      step s = exec i { t with cur := { Latch.empty with len := bytes.length, fop := fopOf (code.drop 1) } })

/-- RESET and INIT, taken before anything else at a boundary, for the registers whose values the spec states: the general registers, EFLAGS, EIP and
the control registers of both columns (70_reset_and_hazards.md R1601, R1602); and CS, the data segment registers, the table registers, the debug
registers, the FPU, SMBASE, the empty TLBs, memory. -/
def Obligations.ResetAndInit : Prop :=
  (∀ (s : State) (r : ResetReq), s.inp.reset = some r → ∃ t, step s = .next t ∧
    t.regs = { eax := if r.bist then Config.bistResult else 0, ebx := 0, ecx := 0, edx := 0x500 + Config.steppingId.setWidth 32, esi := 0
               edi := 0, ebp := 0, esp := 0 } ∧
    t.flags.word = 2 ∧ t.eip = 0xFFF0 ∧ t.cr = { cr0 := 0x60000010, cr2 := 0, cr3 := 0, cr4 := 0 } ∧
    t.segs.cs.sel = 0xF000 ∧ t.segs.cs.base = 0xFFFF0000 ∧ t.segs.cs.limit = 0xFFFF ∧
    (∀ g ∈ [t.segs.ds, t.segs.es, t.segs.fs, t.segs.gs, t.segs.ss], g.sel = 0 ∧ g.base = 0 ∧ g.limit = 0xFFFF) ∧
    t.gdtr = { base := 0, limit := 0xFFFF } ∧ t.idtr = { base := 0, limit := 0xFFFF } ∧
    t.dr = { dr0 := 0, dr1 := 0, dr2 := 0, dr3 := 0, dr6 := 0xFFFF0FF0, dr7 := 0x400 } ∧
    t.fpu.cw = 0x40 ∧ t.fpu.sw.word = 0 ∧ t.fpu.tagWord = 0x5555 ∧ (∀ i : Fin 8, t.fpu.regs[i] = 0) ∧
    t.smbase = 0x30000 ∧ t.itlb = [] ∧ t.dtlb = [] ∧ t.mem = s.mem) ∧
  ∀ s : State, s.inp.reset = none → s.inp.init = true → ∃ t, step s = .next t ∧
    t.regs = { eax := 0, ebx := 0, ecx := 0, edx := 0x500 + Config.steppingId.setWidth 32, esi := 0, edi := 0, ebp := 0, esp := 0 } ∧
    t.flags.word = 2 ∧ t.eip = 0xFFF0 ∧ t.cr.cr2 = 0 ∧ t.cr.cr3 = 0 ∧ t.cr.cr4 = 0 ∧
    (∀ j, j < 32 → t.cr.cr0.getLsbD j = if j = 30 ∨ j = 29 then s.cr.cr0.getLsbD j else j = 4) ∧
    t.segs.cs.sel = 0xF000 ∧ t.segs.cs.base = 0xFFFF0000 ∧ t.fpu = s.fpu ∧ t.msrs = s.msrs ∧ t.smbase = s.smbase ∧ t.itlb = [] ∧
    t.dtlb = [] ∧ t.mem = s.mem

/-- EVERY STEP KEEPS MEMORY CANONICAL: whatever the instruction, exception, interrupt or task switch, the list of cells stays sorted, within the
4-gigabyte physical space, with no cell equal to what an unlisted byte reads as (20_memory.md R200, R210; the form is the model's,
notes/assumptions/1.md). -/
def Obligations.MemoryStaysCanonical : Prop :=
  ∀ s t : State, Memory.wf s.mem = true → step s = .next t → Memory.wf t.mem = true

/-- The invariant of `MemoryStaysCanonical` holds after RESET, and so does that of `StepsEndAtBoundaries`. Both rest on start values that the model
chose: memory with nothing listed, which reads as 0 (notes/assumptions/1.md), and an empty latch (notes/assumptions/46.md). -/
def Obligations.ResetIsCanonical : Prop := Memory.wf State.reset.mem = true ∧ State.reset.cur = Latch.empty

/-- EVERY STEP ENDS AT AN INSTRUCTION BOUNDARY: from a state whose latch is empty every next state has an empty latch; and no step, from any state,
stops with a fault of the machine: exceptions are delivered and a failed delivery is a shutdown (00_scope.md R11, R26,
60_exceptions.md R1232). -/
def Obligations.StepsEndAtBoundaries : Prop :=
  (∀ s t : State, s.cur = Latch.empty → step s = .next t → t.cur = Latch.empty) ∧
  ∀ (s : State) (f : Fault), step s ≠ .fault f

/-- The flags of additions and subtractions with carry (10_state.md R105): CF is the unsigned, OF the signed overflow of the exact result, AF the
carry out of bit 3, PF the parity of the low byte, and no other flag changes. -/
def Obligations.ArithmeticFlags : Prop :=
  ∀ (w : Nat) (f : Flags) (a b : BitVec w) (c : Bool), w = 8 ∨ w = 16 ∨ w = 32 →
    (let r : BitVec w := a + b + BitVec.ofNat w c.toNat
     let g := f.add a b c
     let exact : Int := a.toInt + b.toInt + c.toNat
     g = { f with cf := g.cf, pf := g.pf, af := g.af, zf := g.zf, sf := g.sf, of := g.of } ∧
     (g.cf = true ↔ 2 ^ w ≤ a.toNat + b.toNat + c.toNat) ∧ (g.of = true ↔ exact < -(2 ^ (w - 1)) ∨ 2 ^ (w - 1) ≤ exact) ∧
     (g.af = true ↔ 16 ≤ a.toNat % 16 + b.toNat % 16 + c.toNat) ∧ (g.zf = true ↔ r.toNat = 0) ∧ (g.sf = true ↔ r.toInt < 0) ∧
     (g.pf = true ↔ ((List.range 8).filter fun j => r.getLsbD j).length % 2 = 0)) ∧
    let r : BitVec w := a - b - BitVec.ofNat w c.toNat
    let g := f.sub a b c
    let exact : Int := a.toInt - b.toInt - c.toNat
    g = { f with cf := g.cf, pf := g.pf, af := g.af, zf := g.zf, sf := g.sf, of := g.of } ∧
    (g.cf = true ↔ a.toNat < b.toNat + c.toNat) ∧ (g.of = true ↔ exact < -(2 ^ (w - 1)) ∨ 2 ^ (w - 1) ≤ exact) ∧
    (g.af = true ↔ a.toNat % 16 < b.toNat % 16 + c.toNat) ∧ (g.zf = true ↔ r.toNat = 0) ∧ (g.sf = true ↔ r.toInt < 0) ∧
    (g.pf = true ↔ ((List.range 8).filter fun j => r.getLsbD j).length % 2 = 0)

/-- WHAT AN ACCESS CHECKS, AND THAT CHECKING AND READING LEAVE THE MACHINE ALONE. The offset of a memory operand is the sum of base, scaled index and
displacement cut to the address size, its segment the override's, else SS for a base (E)SP or (E)BP, else DS (30_encoding.md R423, R425). An access
to `n` bytes there raises #GP(0) through a null selector or one whose type does not allow it, #SS(0) through SS or else #GP(0) out of the
segment's reach (23_protection.md R330, 60_exceptions.md R1262); then what translation raises; then #AC(0) (R335); otherwise it gives the
translations of its bytes, page by page, and notes the data breakpoints that watch them (64_debug.md R1486). Locating an operand, reading it, and the processor's own reads change no register, flag or byte of
memory but the Accessed and Dirty bits of the page entries of the linear addresses they touch: those of the operand, of the stack slots, of
the descriptor, of the TSS. Beside that at most TLB entries, device traffic, draws and the breakpoints matched (00_scope.md R23, 20_memory.md
R210, 22_paging.md R262, R264, R271, 64_debug.md R1486). The frames of the other statements rest on this one. That the lower of two pages is
translated first (notes/assumptions/64.md), that in real-address mode a null selector left from protected mode bars nothing
(notes/assumptions/57.md), and that a limit kept from protected mode decides there for offsets above FFFFH too (notes/assumptions/85.md), is the
model's choice. -/
def Obligations.AccessKeepsState : Prop :=
  (∀ (m : MemOp) (s : State),
    ((s.eaOff m).toNat : Int) = (formSum s.regs m).2 % 2 ^ (formSum s.regs m).1 ∧
    (∀ sr, s.cur.seg = some sr → s.eaSeg m = sr) ∧ (s.cur.seg = none → (usesSs m → s.eaSeg m = .ss) ∧ (¬ usesSs m → s.eaSeg m = .ds))) ∧
  (∀ (sz : Size) (sr : SReg) (off : Word) (n al : Nat) (k : Kind) (s : State), k ≠ .x → 0 < n → n ≤ 4096 →
    let lin := (s.segs.get sr).base + off
    let m := access sz sr off n al k s
    (segBarred s sr k → m = .error (.exc gp0) s) ∧
    (¬ segBarred s sr k → segBeyond s sz sr off.toNat n → m = .error (.exc (limitFault sr)) s) ∧
    (¬ segBarred s sr k → ¬ segBeyond s sz sr off.toNat n →
      (∀ e t, linAddrs lin n { write := k != .r, user := s.cpl == 3, fetch := false } s = .error e t → m = .error e t) ∧
      ∀ ps t, linAddrs lin n { write := k != .r, user := s.cpl == 3, fetch := false } s = .ok ps t →
        (misaligned s lin al → m = .error (.exc { vec := 17, code := some 0, dbg := none }) t) ∧
        (¬ misaligned s lin al → ∃ c, m = .ok ps { t with cur := c } ∧
          breaksNoted s.dr (2 ^ 32) lin.toNat n (fun rw => rw = 3 ∨ (rw = 1 ∧ k ≠ .r)) s.cur c))) ∧
  (∀ (lin : Word) (n : Nat) (a : Access) (s : State), 0 < n → n ≤ 4096 →
    let room := 4096 - lin.toNat % 4096
    let bytes (p : Word) (c : Nat) : List Word := (List.range c).map fun j => p + BitVec.ofNat 32 j
    (∀ e t, translate lin a s = .error e t → linAddrs lin n a s = .error e t) ∧
    ∀ p u, translate lin a s = .ok p u →
      (n ≤ room → linAddrs lin n a s = .ok (bytes p n) u) ∧
      (room < n →
        (∀ e t, translate (lin + BitVec.ofNat 32 room) a u = .error e t → linAddrs lin n a s = .error e t) ∧
        ∀ q t, translate (lin + BitVec.ofNat 32 room) a u = .ok q t → linAddrs lin n a s = .ok (bytes p room ++ bytes q (n - room)) t)) ∧
  (∀ sz sr off n al k, KeepsOrFaults (fun s => linBytes ((s.segs.get sr).base + off) n) (access sz sr off n al k)) ∧
  (∀ sz sr off n ok k, KeepsOrFaults (fun s => linBytes ((s.segs.get sr).base + off) n) (accessIf sz sr off n ok k)) ∧
  (∀ sz sr off n ok k, KeepsOrFaults (fun s => linBytes ((s.segs.get sr).base + off) n) (checkIf sz sr off n ok k)) ∧
  (∀ w rm k, KeepsOrFaults (fun s x => ∃ m, rm = .mem m ∧ linBytes ((s.segs.get (s.eaSeg m)).base + s.eaOff m) (w / 8) x) (locate w rm k)) ∧
  (∀ sz n sp c, KeepsOrFaults
    (fun s x => ∃ i, i < c ∧ linBytes (s.segs.ss.base + wrapSp sz (sp - BitVec.ofNat 32 (n * (i + 1)))) n x) (pushSlots sz n sp c)) ∧
  (∀ lin n, KeepsOrFaults (fun _ => linBytes lin n) (sysRead lin n)) ∧ (∀ lin n a, KeepsOrFaults (fun _ => linBytes lin n) (tssAddrs lin n a)) ∧
  (∀ lin, KeepsOrFaults (fun _ => linBytes lin 8) (readDescAt lin)) ∧
  (∀ port n, KeepsOrFaults (fun s x => ∃ j, j ≤ s.tr.limit.toNat ∧ x = s.tr.base + BitVec.ofNat 32 j) (ioPermitted port n)) ∧
  ∀ (ps : List Word) (s : State), ∃ v k b, load ps s = .ok v { s with draws := k, bus := b } ∧ v < 256 ^ ps.length ∧
    ((∀ a ∈ addrs s ps, regionAt s.memMap a = none) → k = s.draws ∧ b = s.bus ∧
      ∀ j (h : j < (addrs s ps).length), v / 256 ^ j % 256 = (byteAt s (addrs s ps)[j]).toNat)

/-- Paging (22_paging.md R262, R264, R269, 60_exceptions.md R1221): off, the linear address is the physical one; on, with no cached translation and a
4-kilobyte page, the two entries give the frame, the access marks both Accessed and a write marks the page Dirty; an absent entry or a lack of
rights is a page fault with the address in CR2 and the cause in the error code; a lack of rights still marks the directory entry Accessed. With
CR4.PSE a directory entry maps a 4-megabyte page, by the same rules for its own bits; its reserved bits must be 0 (R275). That such a fault has P = 1
and comes before the rights is the model's choice (notes/assumptions/57.md). -/
def Obligations.Paging : Prop :=
  ∀ (lin : Word) (a : Access) (s : State),
    (s.pg = false → translate lin a s = .ok lin s) ∧
    (∀ (pde : Word), s.pg = true → (∀ e ∈ s.itlb ++ s.dtlb, e.page ≠ lin.extractLsb' 12 20) →
      let pa := (s.cr.cr3 &&& 0xFFFFF000) + BitVec.ofNat 32 (4 * (lin.toNat / 2 ^ 22))
      physRead32 pa s = .ok pde s →
      (pde.getLsbD 0 = false → translate lin a s =
        .error (.exc { vec := 14, code := some (pfCode false a.write a.user), dbg := none }) { s with cr := { s.cr with cr2 := lin } }) ∧
      ∀ (pte : Word), pde.getLsbD 0 = true → (s.pse = true → pde.getLsbD 7 = false) →
        let ta := (pde &&& 0xFFFFF000) + BitVec.ofNat 32 (4 * (lin.toNat / 2 ^ 12 % 2 ^ 10))
        physRead32 ta s = .ok pte s →
        (pte.getLsbD 0 = false → translate lin a s =
          .error (.exc { vec := 14, code := some (pfCode false a.write a.user), dbg := none }) { s with cr := { s.cr with cr2 := lin } }) ∧
        (pte.getLsbD 0 = true → ¬ pageAllows s.wp pde pte a.write a.user → ∃ t,
          translate lin a s = .error (.exc { vec := 14, code := some (pfCode true a.write a.user), dbg := none }) t ∧ t.cr.cr2 = lin ∧
          (Memory.wf s.mem = true → s.inp.a20m = false → s.memMap = [] →
            (byteAt t pa.toNat).getLsbD 5 = true ∧ ∀ b, b ≠ pa.toNat → byteAt t b = byteAt s b)) ∧
        (pte.getLsbD 0 = true → pageAllows s.wp pde pte a.write a.user → ∃ t,
          translate lin a s = .ok ((pte &&& 0xFFFFF000) ||| BitVec.ofNat 32 (lin.toNat % 2 ^ 12)) t ∧
          (Memory.wf s.mem = true → s.inp.a20m = false → s.memMap = [] →
            (byteAt t pa.toNat).getLsbD 5 = true ∧ (byteAt t ta.toNat).getLsbD 5 = true ∧
            (a.write = true → (byteAt t ta.toNat).getLsbD 6 = true) ∧
            ∀ b, b ≠ pa.toNat → b ≠ ta.toNat → byteAt t b = byteAt s b))) ∧
    ∀ (pde : Word), s.pg = true → (∀ e ∈ s.itlb ++ s.dtlb, e.page ≠ lin.extractLsb' 12 20) → s.pse = true →
      let pa := (s.cr.cr3 &&& 0xFFFFF000) + BitVec.ofNat 32 (4 * (lin.toNat / 2 ^ 22))
      physRead32 pa s = .ok pde s → pde.getLsbD 0 = true → pde.getLsbD 7 = true →
      let reserved : Prop := pde.toNat / 2 ^ 12 % 2 ^ 10 ≠ 0
      let fault (e : Word) : Prop :=
        translate lin a s = .error (.exc { vec := 14, code := some e, dbg := none }) { s with cr := { s.cr with cr2 := lin } }
      (reserved → fault (pfCode true a.write a.user + 8)) ∧
      (¬ reserved → ¬ pageAllows s.wp pde pde a.write a.user → fault (pfCode true a.write a.user)) ∧
      (¬ reserved → pageAllows s.wp pde pde a.write a.user → ∃ t,
        translate lin a s = .ok (BitVec.ofNat 32 (pde.toNat / 2 ^ 22 * 2 ^ 22 + lin.toNat % 2 ^ 22)) t ∧
        (Memory.wf s.mem = true → s.inp.a20m = false → s.memMap = [] →
          (byteAt t pa.toNat).getLsbD 5 = true ∧ (a.write = true → (byteAt t pa.toNat).getLsbD 6 = true) ∧
          ∀ b, b ≠ pa.toNat → byteAt t b = byteAt s b))

/-- Events at an instruction boundary (60_exceptions.md R1204 to R1208, 10_state.md R130, 64_debug.md R1487, R1489, R1492): a debug trap of the last
instruction comes first, then NMI unless blocked, then INTR if IF is set and no shadow holds it off; a halted or shut-down processor stays so
without one; SMI# comes before them; an instruction that began with TF set leaves a single-step trap. A debug trap whose delivery meets another
exception is kept, and recurs when the processor is back (R1232; what is kept goes with a delivery that succeeds: `begun`). Last comes an
instruction breakpoint: a fault before the instruction at CS:EIP, if R/W and LEN are 00, Ln or Gn is set and RF is 0, but not right after a load
of SS (R1487, R1206); DR6 names every register that matches. The model's choices: where a trap recurs (notes/assumptions/65.md), and that an
instruction breakpoint does not report a disabled breakpoint which the instruction before matched (notes/assumptions/79.md). So is that the debug
trap comes before a machine check (notes/assumptions/39.md), waits in the Halted state for an interrupt that ends this (notes/assumptions/57.md),
that SMI# does not wait for the instruction after a load of SS (notes/assumptions/44.md) and that an NMI which ends Shutdown saves the offset in
EIP (notes/assumptions/87.md). A machine check is delivered as vector 18 with CR4.MCE set, without an error code, and is lost with MCE clear
(R1240, notes/assumptions/39.md). An instruction that completes (`State.complete`) changes beside its own effect only RF, which is cleared unless
the instruction loads it (64_debug.md R1488), the one-instruction shadows, the trap left pending, the late matches, FERR# (47_fpu_numerics.md
R1061), the latch, and the end of the stretch after a change of PG; one that faults (`rollback`) leaves every register as it was but CR2 and DR6,
and of the rest memory, the TLBs, the inputs and the bus as the attempt left them (70_reset_and_hazards.md R1650). -/
def Obligations.BoundaryEvents : Prop :=
  (∀ s : State, calm s → s.run = .halted ∨ s.run = .shutdown → step s = .next s.begin) ∧
  (∀ s : State, s.inp.reset = none → s.inp.init = false → s.smiPending = false → s.nmiPending = false → s.flags.ifl = false → s.run = .halted →
    step s = .next s.begin) ∧
  (∀ (s : State) (c : DbgCause), s.inp.reset = none → s.inp.init = false → s.smiPending = false → s.pendingDb = some c →
    s.recurs = [] → s.inhibitSs = false → s.run = .running ∨ (s.run = .halted ∧
      ((s.nmiPending = true ∧ s.nmiBlocked = false ∧ s.inSmm = false) ∨ (s.inp.intr ≠ none ∧ s.flags.ifl = true ∧ s.inhibitSti = false))) →
    step s = deliver deliverFuel { kind := .exc, vec := 1, code := none, retEip := s.eip, faultEip := s.eip, dbg := some c }
      { s.begin with pendingDb := none, recurs := [{ lin := here s, cause := c }] }) ∧
  (∀ (s : State) (h : HeldTrap), noEvent { s with recurs := [] } → s.recurs = [h] → s.inhibitSs = false → s.run = .running →
    (h.lin = here s →
      step s = deliver deliverFuel { kind := .exc, vec := 1, code := none, retEip := s.eip, faultEip := s.eip, dbg := some h.cause } s.begin) ∧
    (h.lin ≠ here s → s.dr.dr7.toNat % 256 = 0 → step s = runNext s.begin)) ∧
  (∀ s : State, s.inp.reset = none → s.inp.init = false → s.smiPending = false → s.pendingDb = none → s.recurs = [] → s.inp.mc = false → s.nmiPending = true → s.nmiBlocked = false → s.inhibitSs = false → s.inSmm = false →
    step s = deliver deliverFuel { kind := .nmi, vec := 2, code := none, retEip := s.eip, faultEip := s.eip, dbg := none }
      { s.begin with nmiPending := false }) ∧
  (∀ (s : State) (v : Byte), calm { s with inp := { s.inp with intr := none } } → s.inp.intr = some v → s.run ≠ .shutdown →
    (s.flags.ifl = true → s.inhibitSs = false → s.inhibitSti = false →
      step s = deliver deliverFuel { kind := .intr, vec := v.toNat, code := none, retEip := s.eip, faultEip := s.eip, dbg := none }
        { s.begin with inp := { s.begin.inp with intr := none }, bus := .intAck v :: s.bus }) ∧
    (s.flags.ifl = false ∨ s.inhibitSs = true ∨ s.inhibitSti = true → s.run = .halted → step s = .next s.begin) ∧
    (s.flags.ifl = false ∨ s.inhibitSs = true ∨ s.inhibitSti = true → s.run = .running → step s = runNext s.begin)) ∧
  (∀ s : State, s.inp.reset = none → s.inp.init = false → s.run ≠ .shutdown → s.smiPending = true → s.inSmm = false →
    step s = s.begin.takeSmi) ∧
  (∀ s : State, calm s → s.run = .running → step s = runNext s.begin) ∧
  (∀ s : State, noEvent s → s.run = .running →
    let fires : Prop := ∃ j, j < 4 ∧ breaksHere s j ∧ breakOn s.dr j
    (s.flags.rf = false → s.inhibitSs = false → fires → ∃ b : BitVec 4, (∀ j, j < 4 → (b.getLsbD j = true ↔ breaksHere s j)) ∧
      step s = deliver deliverFuel { kind := .exc, vec := 1, code := none, retEip := s.eip, faultEip := s.eip, dbg := some { b := b, bd := false, bs := false, bt := false } }
        s.begin) ∧
    (s.flags.rf = true ∨ s.inhibitSs = true ∨ ¬ fires → step s = runNext s.begin)) ∧
  (∀ s t : State, s.flags.tf = true → ∃ c, (s.complete t).pendingDb = some c ∧ c.bs = true) ∧
  -- a machine check
  (∀ s : State, s.inp.mc = true →
    (s.cr.cr4.getLsbD 6 = false → step s = step { s with inp := { s.inp with mc := false } }) ∧
    (s.cr.cr4.getLsbD 6 = true → noEvent { s with inp := { s.inp with mc := false } } → s.run = .running →
      step s = deliver deliverFuel { kind := .exc, vec := 18, code := none, retEip := s.eip, faultEip := s.eip, dbg := none }
        { s.begin with inp := { s.inp with mc := false } })) ∧
  -- what begins a step: the clocks move, and a machine check that is not enabled is lost
  (∀ s : State, s.begin = { s with
    ticks := s.ticks + 1, tsc := s.begin.tsc, inp := { s.inp with mc := s.inp.mc && s.cr.cr4.getLsbD 6 } }) ∧
  -- what ends an instruction that completes
  (∀ s t : State, let u := s.complete t
    u = { t with
      flags := { t.flags with rf := t.cur.keepRf && t.flags.rf }, pendingDb := u.pendingDb, late := u.late, pgSwitched := u.pgSwitched
      inhibitSs := t.cur.setSsShadow, inhibitSti := t.cur.setStiShadow, cur := Latch.empty
      bus := (if s.fpu.sw.es = t.fpu.sw.es then [] else [BusEvent.ferr t.fpu.sw.es]) ++ t.bus } ∧
    (u.pgSwitched = true → t.cur.pgSwitch = true ∨ t.pgSwitched = true) ∧
    (s.late = [] → t.cur.defer = false →
      let trap : DbgCause := { b := t.cur.hits, bd := false, bs := s.flags.tf, bt := t.cur.bt, armed := t.cur.trap }
      u.late = [] ∧
      (s.pendingDb = none → u.pendingDb = if t.cur.trap = true ∨ s.flags.tf = true ∨ t.cur.bt = true then some trap else none) ∧
      (s.pendingDb ≠ none → u.pendingDb ≠ none))) ∧
  -- what a fault leaves of an attempt
  ∀ s t : State, rollback s t = { s with
    mem := t.mem, itlb := t.itlb, dtlb := t.dtlb, draws := t.draws, bus := t.bus, inp := t.inp
    cr := { s.cr with cr2 := t.cr.cr2 }, dr := { s.dr with dr6 := t.dr.dr6 } }

end
end

