-- ==== Sys2Proof/Laws/Decode.lean ====
section
/-! SUPPORT. Each reader of the decoder against the writer of the encoder: little-endian fields, displacements, ModR/M with SIB. -/

noncomputable section

namespace Sys2Proof.Laws

open Sys2Proof

/-- The two bytes of a half, read back. -/
@[simp] theorem le16_bytes (v : BitVec 16) : le16 (v.extractLsb' 0 8) (v.extractLsb' 8 8) = v := by
  apply BitVec.eq_of_getLsbD_eq; intro i hi
  unfold le16
  rw [BitVec.getLsbD_append]
  simp only [BitVec.getLsbD_extractLsb']
  split
  · simp [*]
  · rw [show 8 + (i - 8) = i by omega]
    simp [show i - 8 < 8 by omega]

/-- The four bytes of a word, read back. -/
@[simp] theorem le32_bytes (v : BitVec 32) :
    le32 (v.extractLsb' 0 8) (v.extractLsb' 8 8) (v.extractLsb' 16 8) (v.extractLsb' 24 8) = v := by
  apply BitVec.eq_of_getLsbD_eq; intro i hi
  unfold le32
  simp only [BitVec.getLsbD_append, BitVec.getLsbD_extractLsb']
  split_ifs with h1 h2 h3
  · simp [*]
  · rw [show 8 + (i - 8) = i by omega]
    simp [show i - 8 < 8 by omega]
  · rw [show 16 + (i - 16) = i by omega]
    simp [show i - 16 < 8 by omega]
  · rw [show 24 + (i - 16 - 8) = i by omega]
    simp [show i - 16 - 8 < 8 by omega]

/-- A field of an instruction's size, read back, if it holds a value of that size. -/
theorem takeSized_enc (sz : Size) (v : Word) (rest : List Byte) (h : sz.fits v = true) :
    takeSized sz (encSized sz v ++ rest) = some (v, rest) := by
  cases sz
  · have hv : (v.setWidth 16).setWidth 32 = v := by
      have : v.toNat < 65536 := by simpa [Size.fits] using h
      apply BitVec.eq_of_toNat_eq
      simp only [BitVec.toNat_setWidth]
      omega
    simp only [encSized, enc16, List.cons_append, List.nil_append, takeSized, le16_bytes, hv]
  · simp only [encSized, enc32, List.cons_append, List.nil_append, takeSized, le32_bytes]

/-- A displacement, read back under the `mod` field that goes with it. -/
theorem takeDisp_enc (as : Size) (d : Disp) (needed : Bool) (rest : List Byte) (h : d.wf as needed = true) :
    takeDisp as d.mod (d.enc ++ rest) = some (d, rest) := by
  cases d with
  | none => rfl
  | d8 v => rfl
  | d16 v =>
    obtain rfl : as = .s16 := by simpa [Disp.wf] using h
    simp [Disp.mod, Disp.enc, enc16, takeDisp]
  | d32 v =>
    obtain rfl : as = .s32 := by simpa [Disp.wf] using h
    simp [Disp.mod, Disp.enc, enc32, takeDisp]

/-- The three fields of a byte, read back. -/
theorem fields233_parts : ∀ (a : BitVec 2) (b c : BitVec 3), (fields233 a b c).extractLsb' 6 2 = a ∧
    (fields233 a b c).extractLsb' 3 3 = b ∧ (fields233 a b c).extractLsb' 0 3 = c := by decide

@[simp] theorem fields233_hi (a : BitVec 2) (b c : BitVec 3) : (fields233 a b c).extractLsb' 6 2 = a := (fields233_parts a b c).1
@[simp] theorem fields233_mid (a : BitVec 2) (b c : BitVec 3) : (fields233 a b c).extractLsb' 3 3 = b := (fields233_parts a b c).2.1
@[simp] theorem fields233_lo (a : BitVec 2) (b c : BitVec 3) : (fields233 a b c).extractLsb' 0 3 = c := (fields233_parts a b c).2.2

@[simp] theorem reg_ofNum_num (r : Reg) : Reg.ofNum r.num = r := by cases r <;> rfl
@[simp] theorem reg_num_ofNum (n : BitVec 3) : (Reg.ofNum n).num = n := by revert n; decide
@[simp] theorem base16_ofNum_num (b : Base16) : Base16.ofNum b.num = b := by cases b <;> rfl
@[simp] theorem cond_ofNum_num (c : Cond) : Cond.ofNum c.num = c := by cases c <;> rfl
@[simp] theorem sreg_ofNum_num (r : SReg) : SReg.ofNum? r.num = some r := by cases r <;> rfl

/-- An absent displacement goes with `mod` 0, and no displacement with `mod` 3. -/
theorem disp_mod_ne_three (d : Disp) : d.mod ≠ 3#2 := by cases d <;> (simp only [Disp.mod]; decide)

/-- A displacement that a form needs is not absent. -/
theorem disp_mod_ne_zero {as : Size} {d : Disp} (h : d.wf as true = true) : d.mod ≠ 0#2 := by
  cases d
  · simp [Disp.wf] at h
  all_goals (simp only [Disp.mod]; decide)

/-- ModR/M, SIB and displacement of a memory operand, read back with the `reg` field. -/
theorem takeModrm_mem (as : Size) (m : MemOp) (n : BitVec 3) (rest : List Byte) (h : m.wf as = true) :
    takeModrm as (m.enc n ++ rest) = some (.mem m, n, rest) := by
  cases m with
  | direct16 d =>
    obtain rfl : as = .s16 := by simpa [MemOp.wf] using h
    simp [MemOp.enc, enc16, takeModrm, takeMem16]
  | direct32 d =>
    obtain rfl : as = .s32 := by simpa [MemOp.wf] using h
    simp [MemOp.enc, enc32, takeModrm, takeMem32, takeSized]
  | sibNoBase s i d =>
    obtain rfl : as = .s32 := by simpa [MemOp.wf] using h
    simp [MemOp.enc, enc32, takeModrm, takeMem32, takeSized]
  | base16 b d =>
    simp only [MemOp.wf, Bool.and_eq_true, beq_iff_eq] at h
    obtain ⟨rfl, hd⟩ := h
    have h6 : ¬ (d.mod = 0#2 ∧ b.num = 6#3) := by
      rintro ⟨h0, h6⟩
      have hb : b = .bp := by cases b <;> first | rfl | exact absurd h6 (by decide)
      subst hb
      exact disp_mod_ne_zero hd h0
    simp [MemOp.enc, takeModrm, takeMem16, disp_mod_ne_three, h6, takeDisp_enc _ _ _ _ hd]
  | base32 b d =>
    simp only [MemOp.wf, Bool.and_eq_true, beq_iff_eq, bne_iff_ne, ne_eq] at h
    obtain ⟨⟨rfl, hb⟩, hd⟩ := h
    have h5 : ¬ (d.mod = 0#2 ∧ b.num = 5#3) := by
      rintro ⟨h0, h5⟩
      have hb' : b = .ebp := by cases b <;> first | rfl | exact absurd h5 (by decide)
      subst hb'
      exact disp_mod_ne_zero hd h0
    have h4 : b.num ≠ 4#3 := by cases b <;> first | exact absurd rfl hb | decide
    simp [MemOp.enc, takeModrm, takeMem32, disp_mod_ne_three, h5, h4, takeDisp_enc _ _ _ _ hd]
  | sib s i b d =>
    simp only [MemOp.wf, Bool.and_eq_true, beq_iff_eq] at h
    obtain ⟨rfl, hd⟩ := h
    have h5 : ¬ (d.mod = 0#2 ∧ b.num = 5#3) := by
      rintro ⟨h0, h5⟩
      have hb' : b = .ebp := by cases b <;> first | rfl | exact absurd h5 (by decide)
      subst hb'
      exact disp_mod_ne_zero hd h0
    simp [MemOp.enc, takeModrm, takeMem32, disp_mod_ne_three, h5, takeDisp_enc _ _ _ _ hd]

/-- ModR/M and what it brings, read back: a register or a memory operand. -/
theorem takeModrm_enc (as : Size) (rm : RM) (n : BitVec 3) (rest : List Byte) (h : rm.wf as = true) :
    takeModrm as (rm.enc n ++ rest) = some (rm, n, rest) := by
  cases rm with
  | reg r => simp [RM.enc, takeModrm]
  | mem m => exact takeModrm_mem as m n rest h

end Sys2Proof.Laws

end
end

