-- ==== Sys2Proof/Laws/Monad.lean ====
section
/-! SUPPORT. What the pieces of a computation do: sequencing, reading and writing the state, guards, stops, draws. A meaning is taken
apart with these; nothing else unfolds `M`. -/

noncomputable section

namespace Sys2Proof.Laws

open Sys2Proof Sys2Proof.Machine

variable {α β : Type}

@[simp] theorem pure_run (a : α) (s : State) : (pure a : M α) s = .ok a s := rfl
@[simp] theorem get_run (s : State) : (get : M State) s = .ok s s := rfl
@[simp] theorem set_run (t s : State) : (set t : M PUnit) s = .ok ⟨⟩ t := rfl
@[simp] theorem modify_run (f : State → State) (s : State) : (modify f : M PUnit) s = .ok ⟨⟩ (f s) := rfl
@[simp] theorem throw_run (e : Stop) (s : State) : (throw e : M α) s = .error e s := rfl

/-- Sequencing, by what the first part answers. -/
theorem bind_run (m : M α) (f : α → M β) (s : State) :
    (m >>= f) s = match m s with
      | .ok a t => f a t
      | .error e t => .error e t := by
  show EStateM.bind m f s = _
  unfold EStateM.bind
  cases m s <;> rfl

/-- Mapping over an answer (simp turns a last `pure` into this form). -/
@[simp] theorem map_run (f : α → β) (m : M α) (s : State) :
    (f <$> m) s = match m s with
      | .ok a t => .ok (f a) t
      | .error e t => .error e t := by
  show EStateM.map f m s = _
  unfold EStateM.map
  cases m s <;> rfl

/-- A sequence whose first part succeeds goes on. -/
theorem bind_of_ok {m : M α} {f : α → M β} {s t : State} {a : α} (h : m s = .ok a t) : (m >>= f) s = f a t := by
  rw [bind_run, h]

/-- A sequence whose first part stops, stops. -/
theorem bind_of_error {m : M α} {f : α → M β} {s t : State} {e : Stop} (h : m s = .error e t) : (m >>= f) s = .error e t := by
  rw [bind_run, h]

/-- A sequence succeeds exactly when both parts do, one after the other. -/
theorem bind_eq_ok {m : M α} {f : α → M β} {s u : State} {b : β} :
    (m >>= f) s = .ok b u ↔ ∃ a t, m s = .ok a t ∧ f a t = .ok b u := by
  rw [bind_run]
  cases h : m s <;> simp

/-- A sequence stops exactly when its first part does, or its second part after it. -/
theorem bind_eq_error {m : M α} {f : α → M β} {s u : State} {e : Stop} :
    (m >>= f) s = .error e u ↔ m s = .error e u ∨ ∃ a t, m s = .ok a t ∧ f a t = .error e u := by
  rw [bind_run]
  cases h : m s <;> simp

@[simp] theorem get_bind (f : State → M β) (s : State) : (get >>= f) s = f s s := rfl
@[simp] theorem set_bind (t : State) (f : PUnit → M β) (s : State) : (set t >>= f) s = f ⟨⟩ t := rfl
@[simp] theorem modify_bind (g : State → State) (f : PUnit → M β) (s : State) : (modify g >>= f) s = f ⟨⟩ (g s) := rfl
@[simp] theorem pure_bind_run (a : α) (f : α → M β) (s : State) : (pure a >>= f) s = f a s := rfl
@[simp] theorem throw_bind (e : Stop) (f : α → M β) (s : State) : ((throw e : M α) >>= f) s = .error e s := rfl

@[simp] theorem raise_run (v : Nat) (c : Option Word) (s : State) :
    (raise v c : M α) s = .error (.exc { vec := v, code := c, dbg := none }) s := rfl
@[simp] theorem refuse_run (r : Refusal) (s : State) : (refuse r : M α) s = .error (.refuse r) s := rfl
@[simp] theorem gp_run (c : Word) (s : State) : (gp c : M α) s = .error (.exc { vec := 13, code := some c, dbg := none }) s := rfl
@[simp] theorem sf_run (c : Word) (s : State) : (sf c : M α) s = .error (.exc { vec := 12, code := some c, dbg := none }) s := rfl
@[simp] theorem np_run (c : Word) (s : State) : (np c : M α) s = .error (.exc { vec := 11, code := some c, dbg := none }) s := rfl
@[simp] theorem ts_run (c : Word) (s : State) : (ts c : M α) s = .error (.exc { vec := 10, code := some c, dbg := none }) s := rfl
@[simp] theorem ud_run (s : State) : (ud : M α) s = .error (.exc { vec := 6, code := none, dbg := none }) s := rfl
@[simp] theorem nm_run (s : State) : (nm : M α) s = .error (.exc { vec := 7, code := none, dbg := none }) s := rfl
@[simp] theorem de_run (s : State) : (de : M α) s = .error (.exc { vec := 0, code := none, dbg := none }) s := rfl

@[simp] theorem require_true (els : M Unit) : require true els = pure () := rfl
@[simp] theorem require_false (els : M Unit) : require false els = els := rfl

/-- A guard before a computation: it goes on, or does what the guard says instead. -/
theorem require_run (ok : Bool) (els : M Unit) (s : State) : require ok els s = if ok then .ok () s else els s := by
  cases ok <;> rfl

/-- A guard that raises, before a computation: it goes on, or stops with that exception. -/
theorem guard_gp (b : Bool) (c : Word) (f : Unit → M β) (s : State) : (require b (gp c) >>= f) s =
    if b = true then f () s else .error (.exc { vec := 13, code := some c, dbg := none }) s := by cases b <;> rfl

/-- The same. -/
theorem guard_np (b : Bool) (c : Word) (f : Unit → M β) (s : State) : (require b (np c) >>= f) s =
    if b = true then f () s else .error (.exc { vec := 11, code := some c, dbg := none }) s := by cases b <;> rfl

/-- The same. -/
theorem guard_sf (b : Bool) (c : Word) (f : Unit → M β) (s : State) : (require b (sf c) >>= f) s =
    if b = true then f () s else .error (.exc { vec := 12, code := some c, dbg := none }) s := by cases b <;> rfl

/-- The same. -/
theorem guard_ts (b : Bool) (c : Word) (f : Unit → M β) (s : State) : (require b (ts c) >>= f) s =
    if b = true then f () s else .error (.exc { vec := 10, code := some c, dbg := none }) s := by cases b <;> rfl

/-- A guard whose other side only stops is passed exactly when it holds, and changes nothing. -/
theorem require_eq_ok {ok : Bool} {els : M Unit} {s t : State} (h : ∀ u, els s ≠ .ok () u) :
    require ok els s = .ok () t ↔ ok = true ∧ t = s := by
  cases ok
  · simpa using h t
  · simp [eq_comm]

/-- A draw is the next opaque value; nothing but the count changes (R27). -/
@[simp] theorem draw_run (w : Nat) (s : State) : draw w s = .ok (Config.draw w s.draws) { s with draws := s.draws + 1 } := rfl

/-- A draw of one bit. -/
@[simp] theorem drawBool_run (s : State) : drawBool s = .ok (Config.draw 1 s.draws == 1) { s with draws := s.draws + 1 } := rfl

@[simp] theorem readReg_run (w : Nat) (r : Reg) (s : State) : readReg w r s = .ok (s.regs.read w r) s := rfl
@[simp] theorem writeReg_run (w : Nat) (r : Reg) (v : BitVec w) (s : State) :
    writeReg w r v s = .ok () { s with regs := s.regs.write w r v } := rfl
@[simp] theorem modifyFlags_run (f : Flags → Flags) (s : State) : modifyFlags f s = .ok () { s with flags := f s.flags } := rfl
@[simp] theorem modifyCur_run (f : Latch → Latch) (s : State) : modifyCur f s = .ok () { s with cur := f s.cur } := rfl
@[simp] theorem emit_run (e : BusEvent) (s : State) : emit e s = .ok () { s with bus := e :: s.bus } := rfl

/-- A quiet look: what the computation answers and does, but for the bus log, which stays. -/
theorem quietly_run (m : M α) (s : State) :
    quietly m s = match m s with
      | .ok a t => .ok a { t with bus := s.bus }
      | .error e t => .error e t := by
  unfold quietly
  rw [get_bind, bind_run]
  cases m s <;> rfl

end Sys2Proof.Laws

end
end

