-- ==== Sys2Proof/Laws/Memory.lean ====
section
/-! SUPPORT. Memory: a read after a write, and that every operation that writes memory keeps the canonical form (20_memory.md R200, R201,
R210). -/

noncomputable section

namespace Sys2Proof.Laws

open Sys2Proof Sys2Proof.Machine

/-- The form from a lower bound is the form from any smaller one. -/
theorem wfFrom_mono {lo lo' : Nat} (h : lo' ≤ lo) {m : List Host.Cell} (hm : Memory.wfFrom lo m = true) : Memory.wfFrom lo' m = true := by
  cases m with
  | nil => rfl
  | cons c m =>
    obtain ⟨k, v⟩ := c
    simp only [Memory.wfFrom, Bool.and_eq_true, decide_eq_true_eq] at hm ⊢
    exact ⟨⟨⟨h.trans hm.1.1.1, hm.1.1.2⟩, hm.1.2⟩, hm.2⟩

/-- A write keeps the form, at or above the same lower bound. -/
theorem write_wfFrom {lo : Nat} {m : List Host.Cell} (a : Nat) (v : Byte) (hlo : lo ≤ a) (ha : a < 2 ^ 32)
    (hm : Memory.wfFrom lo m = true) : Memory.wfFrom lo (Memory.write m a v) = true := by
  induction m generalizing lo with
  | nil =>
    by_cases hv : v = Memory.fill
    · simp [Memory.write, hv, Memory.wfFrom]
    · simpa [Memory.write, hv, Memory.wfFrom, hlo] using ha
  | cons c m ih =>
    obtain ⟨k, w⟩ := c
    have hm' := hm
    simp only [Memory.wfFrom, Bool.and_eq_true, decide_eq_true_eq] at hm
    obtain ⟨⟨⟨hk, hk2⟩, hw⟩, hr⟩ := hm
    unfold Memory.write
    split_ifs with h1 h2 h3 h4
    · exact hm'
    · simp only [Memory.wfFrom, Bool.and_eq_true, decide_eq_true_eq]
      exact ⟨⟨⟨hlo, ha⟩, h2⟩, ⟨⟨h1, hk2⟩, hw⟩, hr⟩
    · exact wfFrom_mono (by omega) hr
    · subst h3
      simp only [Memory.wfFrom, Bool.and_eq_true, decide_eq_true_eq]
      exact ⟨⟨⟨hlo, ha⟩, h4⟩, hr⟩
    · simp only [Memory.wfFrom, Bool.and_eq_true, decide_eq_true_eq]
      exact ⟨⟨⟨hk, hk2⟩, hw⟩, ih (by omega) hr⟩

/-- A write below 2^32 keeps the canonical form. -/
theorem write_wf {m : List Host.Cell} (a : Nat) (v : Byte) (ha : a < 2 ^ 32) (hm : Memory.wf m = true) :
    Memory.wf (Memory.write m a v) = true :=
  write_wfFrom a v (Nat.zero_le _) ha hm

/-- A write of a machine word's address keeps the canonical form. -/
theorem write_wf_word {m : List Host.Cell} (a : Word) (v : Byte) (hm : Memory.wf m = true) :
    Memory.wf (Memory.write m a.toNat v) = true :=
  write_wf a.toNat v a.isLt hm

/-- Below the lower bound nothing is listed. -/
theorem read_below {lo : Nat} {m : List Host.Cell} (hm : Memory.wfFrom lo m = true) {a : Nat} (h : a < lo) :
    Memory.read m a = Memory.fill := by
  induction m generalizing lo with
  | nil => rfl
  | cons c m ih =>
    obtain ⟨k, w⟩ := c
    simp only [Memory.wfFrom, Bool.and_eq_true, decide_eq_true_eq] at hm
    have hk : k ≠ a := by omega
    simp only [Memory.read, if_neg hk]
    exact ih hm.2 (by omega)

/-- A read after a write to the same address gives the value written. -/
theorem read_write_same {lo : Nat} {m : List Host.Cell} (a : Nat) (v : Byte) (hm : Memory.wfFrom lo m = true) :
    Memory.read (Memory.write m a v) a = v := by
  induction m generalizing lo with
  | nil => by_cases hv : v = Memory.fill <;> simp [Memory.write, Memory.read, hv]
  | cons c m ih =>
    obtain ⟨k, w⟩ := c
    simp only [Memory.wfFrom, Bool.and_eq_true, decide_eq_true_eq] at hm
    unfold Memory.write
    split_ifs with h1 h2 h3 h4
    · simp only [Memory.read, if_neg (show k ≠ a by omega), h2]
      exact read_below hm.2 (by omega)
    · simp [Memory.read]
    · rw [h4]
      exact read_below hm.2 (by omega)
    · simp [Memory.read]
    · simp only [Memory.read, if_neg (show k ≠ a by omega)]
      exact ih hm.2

/-- A write leaves every other address alone, whatever the form of the list. -/
theorem read_write_ne (m : List Host.Cell) (a b : Nat) (v : Byte) (h : b ≠ a) : Memory.read (Memory.write m a v) b = Memory.read m b := by
  induction m with
  | nil => by_cases hv : v = Memory.fill <;> simp [Memory.write, Memory.read, hv, h.symm]
  | cons c m ih =>
    obtain ⟨k, w⟩ := c
    unfold Memory.write
    split_ifs with h1 h2 h3 h4
    · rfl
    · simp [Memory.read, h.symm]
    · have : k ≠ b := by omega
      simp [Memory.read, this]
    · have : k ≠ b := by omega
      simp [Memory.read, this, h.symm]
    · simp only [Memory.read, ih]

/-- What a read of one byte can answer: it changes nothing but the number of draws and the bus log, and RAM and ROM answer what memory
holds and change nothing. -/
theorem physReadByte_run (a : Word) (s : State) : ∃ v n b, physReadByte a s = .ok v { s with draws := n, bus := b } ∧
    (regionAt s.memMap (s.a20 a).toNat = none ∨ regionAt s.memMap (s.a20 a).toNat = some .rom →
      v = Memory.read s.mem (s.a20 a).toNat ∧ n = s.draws ∧ b = s.bus) := by
  unfold physReadByte
  simp only [get_bind]
  rcases h : regionAt s.memMap (s.a20 a).toNat with _ | _ | _ | _
  · exact ⟨_, s.draws, s.bus, rfl, fun _ => ⟨rfl, rfl, rfl⟩⟩
  · exact ⟨_, s.draws, s.bus, rfl, fun _ => ⟨rfl, rfl, rfl⟩⟩
  · exact ⟨_, s.draws + 1, _, rfl, by simp⟩
  · exact ⟨_, s.draws + 1, s.bus, rfl, by simp⟩

/-- What a write of one byte can do: to RAM it writes memory, to a device it goes to the bus, else nothing. -/
theorem physWriteByte_run (a : Word) (v : Byte) (s : State) : physWriteByte a v s = .ok () (match regionAt s.memMap (s.a20 a).toNat with
    | none => { s with mem := Memory.write s.mem (s.a20 a).toNat v }
    | some .device => { s with bus := .devWrite (s.a20 a) v :: s.bus }
    | _ => s) := by
  unfold physWriteByte
  simp only [get_bind]
  rcases regionAt s.memMap (s.a20 a).toNat with _ | _ | _ | _ <;> rfl

/-- `t` is `s` but for memory and the bus log. -/
def OnlyMem (s t : State) : Prop := t = { s with mem := t.mem, bus := t.bus }

theorem OnlyMem.refl (s : State) : OnlyMem s s := rfl
theorem OnlyMem.trans {s t u : State} (h : OnlyMem s t) (k : OnlyMem t u) : OnlyMem s u := by
  unfold OnlyMem at *
  rw [k, h]

/-- Writing one byte changes memory and the bus at most, keeps the form, and leaves every other byte. -/
theorem physWriteByte_effect (a : Word) (v : Byte) (s : State) : ∃ t, physWriteByte a v s = .ok () t ∧ OnlyMem s t ∧
    (Memory.wf s.mem = true → Memory.wf t.mem = true) ∧ ∀ b, b ≠ (s.a20 a).toNat → Memory.read t.mem b = Memory.read s.mem b := by
  refine ⟨_, physWriteByte_run a v s, ?_⟩
  rcases regionAt s.memMap (s.a20 a).toNat with _ | _ | _ | _
  · exact ⟨rfl, write_wf_word _ _, fun b hb => read_write_ne _ _ _ _ hb⟩
  all_goals exact ⟨rfl, id, fun _ _ => rfl⟩

/-- Storing a number at a list of addresses never stops, changes memory and the bus at most, and keeps the canonical form. -/
theorem store_effect (ps : List Word) (v : Nat) (s : State) : ∃ t, store ps v s = .ok () t ∧ OnlyMem s t ∧
    (Memory.wf s.mem = true → Memory.wf t.mem = true) := by
  induction ps generalizing v s with
  | nil => exact ⟨s, rfl, .refl s, id⟩
  | cons a as ih =>
    obtain ⟨u, hu, hm, hw, -⟩ := physWriteByte_effect a (BitVec.ofNat 8 v) s
    obtain ⟨t, ht, hm', hw'⟩ := ih (v / 256) u
    refine ⟨t, ?_, hm.trans hm', hw' ∘ hw⟩
    rw [store, bind_of_ok hu, ht]

/-- PhysWrite never stops and keeps the canonical form. -/
theorem physWrite_effect (a : Word) (n v : Nat) (s : State) : ∃ t, physWrite a n v s = .ok () t ∧ OnlyMem s t ∧
    (Memory.wf s.mem = true → Memory.wf t.mem = true) := store_effect _ v s

/-- Reading a list of addresses never stops and changes nothing but the number of draws and the bus log. -/
theorem load_effect (ps : List Word) (s : State) : ∃ v n l, load ps s = .ok v { s with draws := n, bus := l } ∧ v < 256 ^ ps.length := by
  induction ps generalizing s with
  | nil => exact ⟨0, s.draws, s.bus, rfl, by simp⟩
  | cons a as ih =>
    obtain ⟨b, k, l, hb, -⟩ := physReadByte_run a s
    obtain ⟨v, n, l', hv, hlt⟩ := ih { s with draws := k, bus := l }
    refine ⟨b.toNat + 256 * v, n, l', ?_, ?_⟩
    · rw [load, bind_of_ok hb, bind_of_ok hv]; rfl
    · have := b.isLt
      rw [List.length_cons, pow_succ]
      omega

/-- Reading a doubleword of physical memory never stops and changes nothing but the number of draws and the bus log. -/
theorem physRead32_effect (a : Word) (s : State) : ∃ v n l, physRead32 a s = .ok v { s with draws := n, bus := l } := by
  obtain ⟨v, n, l, h, -⟩ := load_effect (consecutive a 4) s
  exact ⟨BitVec.ofNat 32 v, n, l, by rw [physRead32, physRead, bind_of_ok h]; rfl⟩

/-- The memory after RESET is canonical. -/
theorem reset_mem_wf : Memory.wf State.reset.mem = true := rfl

end Sys2Proof.Laws

end
end

