-- ==== Sys2Proof/Laws/State.lean ====
section
/-! SUPPORT. The field lemmas: what each named update of the state does to each field, so that no proof unfolds one. -/

noncomputable section

namespace Sys2Proof.Laws

open Sys2Proof Sys2Proof.Machine

@[simp] theorem enter_regs (s : State) : s.enter.regs = s.regs := rfl
@[simp] theorem enter_flags (s : State) : s.enter.flags = s.flags := rfl
@[simp] theorem enter_eip (s : State) : s.enter.eip = s.eip + BitVec.ofNat 32 s.cur.len := rfl
@[simp] theorem enter_segs (s : State) : s.enter.segs = s.segs := rfl
@[simp] theorem enter_cpl (s : State) : s.enter.cpl = s.cpl := rfl
@[simp] theorem enter_gdtr (s : State) : s.enter.gdtr = s.gdtr := rfl
@[simp] theorem enter_idtr (s : State) : s.enter.idtr = s.idtr := rfl
@[simp] theorem enter_ldtr (s : State) : s.enter.ldtr = s.ldtr := rfl
@[simp] theorem enter_tr (s : State) : s.enter.tr = s.tr := rfl
@[simp] theorem enter_cr (s : State) : s.enter.cr = s.cr := rfl
@[simp] theorem enter_dr (s : State) : s.enter.dr = s.dr := rfl
@[simp] theorem enter_tsc (s : State) : s.enter.tsc = s.tsc := rfl
@[simp] theorem enter_msrs (s : State) : s.enter.msrs = s.msrs := rfl
@[simp] theorem enter_fpu (s : State) : s.enter.fpu = s.fpu := rfl
@[simp] theorem enter_run (s : State) : s.enter.run = s.run := rfl
@[simp] theorem enter_nmiBlocked (s : State) : s.enter.nmiBlocked = s.nmiBlocked := rfl
@[simp] theorem enter_nmiPending (s : State) : s.enter.nmiPending = s.nmiPending := rfl
@[simp] theorem enter_smiPending (s : State) : s.enter.smiPending = s.smiPending := rfl
@[simp] theorem enter_inhibitSs (s : State) : s.enter.inhibitSs = s.inhibitSs := rfl
@[simp] theorem enter_inhibitSti (s : State) : s.enter.inhibitSti = s.inhibitSti := rfl
@[simp] theorem enter_pgSwitched (s : State) : s.enter.pgSwitched = s.pgSwitched := rfl
@[simp] theorem enter_inSmm (s : State) : s.enter.inSmm = s.inSmm := rfl
@[simp] theorem enter_smbase (s : State) : s.enter.smbase = s.smbase := rfl
@[simp] theorem enter_smm (s : State) : s.enter.smm = s.smm := rfl
@[simp] theorem enter_lastIo (s : State) : s.enter.lastIo = none := rfl
@[simp] theorem enter_mem (s : State) : s.enter.mem = s.mem := rfl
@[simp] theorem enter_memMap (s : State) : s.enter.memMap = s.memMap := rfl
@[simp] theorem enter_itlb (s : State) : s.enter.itlb = s.itlb := rfl
@[simp] theorem enter_dtlb (s : State) : s.enter.dtlb = s.dtlb := rfl
@[simp] theorem enter_pendingDb (s : State) : s.enter.pendingDb = s.pendingDb := rfl
@[simp] theorem enter_late (s : State) : s.enter.late = s.late := rfl
@[simp] theorem enter_recurs (s : State) : s.enter.recurs = s.recurs := rfl
@[simp] theorem enter_inp (s : State) : s.enter.inp = s.inp := rfl
@[simp] theorem enter_bus (s : State) : s.enter.bus = s.bus := rfl
@[simp] theorem enter_draws (s : State) : s.enter.draws = s.draws := rfl
@[simp] theorem enter_ticks (s : State) : s.enter.ticks = s.ticks := rfl
@[simp] theorem enter_cur (s : State) : s.enter.cur = s.cur := rfl

@[simp] theorem tick_regs (s : State) : s.tick.regs = s.regs := rfl
@[simp] theorem tick_flags (s : State) : s.tick.flags = s.flags := rfl
@[simp] theorem tick_eip (s : State) : s.tick.eip = s.eip := rfl
@[simp] theorem tick_segs (s : State) : s.tick.segs = s.segs := rfl
@[simp] theorem tick_cpl (s : State) : s.tick.cpl = s.cpl := rfl
@[simp] theorem tick_gdtr (s : State) : s.tick.gdtr = s.gdtr := rfl
@[simp] theorem tick_idtr (s : State) : s.tick.idtr = s.idtr := rfl
@[simp] theorem tick_ldtr (s : State) : s.tick.ldtr = s.ldtr := rfl
@[simp] theorem tick_tr (s : State) : s.tick.tr = s.tr := rfl
@[simp] theorem tick_cr (s : State) : s.tick.cr = s.cr := rfl
@[simp] theorem tick_dr (s : State) : s.tick.dr = s.dr := rfl
@[simp] theorem tick_tsc (s : State) : s.tick.tsc = s.tsc + 1 + BitVec.ofNat 64 (Config.tscExtra s.ticks) := rfl
@[simp] theorem tick_msrs (s : State) : s.tick.msrs = s.msrs := rfl
@[simp] theorem tick_fpu (s : State) : s.tick.fpu = s.fpu := rfl
@[simp] theorem tick_run (s : State) : s.tick.run = s.run := rfl
@[simp] theorem tick_nmiBlocked (s : State) : s.tick.nmiBlocked = s.nmiBlocked := rfl
@[simp] theorem tick_nmiPending (s : State) : s.tick.nmiPending = s.nmiPending := rfl
@[simp] theorem tick_smiPending (s : State) : s.tick.smiPending = s.smiPending := rfl
@[simp] theorem tick_inhibitSs (s : State) : s.tick.inhibitSs = s.inhibitSs := rfl
@[simp] theorem tick_inhibitSti (s : State) : s.tick.inhibitSti = s.inhibitSti := rfl
@[simp] theorem tick_pgSwitched (s : State) : s.tick.pgSwitched = s.pgSwitched := rfl
@[simp] theorem tick_inSmm (s : State) : s.tick.inSmm = s.inSmm := rfl
@[simp] theorem tick_smbase (s : State) : s.tick.smbase = s.smbase := rfl
@[simp] theorem tick_smm (s : State) : s.tick.smm = s.smm := rfl
@[simp] theorem tick_lastIo (s : State) : s.tick.lastIo = s.lastIo := rfl
@[simp] theorem tick_mem (s : State) : s.tick.mem = s.mem := rfl
@[simp] theorem tick_memMap (s : State) : s.tick.memMap = s.memMap := rfl
@[simp] theorem tick_itlb (s : State) : s.tick.itlb = s.itlb := rfl
@[simp] theorem tick_dtlb (s : State) : s.tick.dtlb = s.dtlb := rfl
@[simp] theorem tick_pendingDb (s : State) : s.tick.pendingDb = s.pendingDb := rfl
@[simp] theorem tick_late (s : State) : s.tick.late = s.late := rfl
@[simp] theorem tick_recurs (s : State) : s.tick.recurs = s.recurs := rfl
@[simp] theorem tick_inp (s : State) : s.tick.inp = s.inp := rfl
@[simp] theorem tick_bus (s : State) : s.tick.bus = s.bus := rfl
@[simp] theorem tick_draws (s : State) : s.tick.draws = s.draws := rfl
@[simp] theorem tick_ticks (s : State) : s.tick.ticks = s.ticks + 1 := rfl
@[simp] theorem tick_cur (s : State) : s.tick.cur = s.cur := rfl

@[simp] theorem begin_regs (s : State) : s.begin.regs = s.regs := rfl
@[simp] theorem begin_flags (s : State) : s.begin.flags = s.flags := rfl
@[simp] theorem begin_eip (s : State) : s.begin.eip = s.eip := rfl
@[simp] theorem begin_segs (s : State) : s.begin.segs = s.segs := rfl
@[simp] theorem begin_cpl (s : State) : s.begin.cpl = s.cpl := rfl
@[simp] theorem begin_gdtr (s : State) : s.begin.gdtr = s.gdtr := rfl
@[simp] theorem begin_idtr (s : State) : s.begin.idtr = s.idtr := rfl
@[simp] theorem begin_ldtr (s : State) : s.begin.ldtr = s.ldtr := rfl
@[simp] theorem begin_tr (s : State) : s.begin.tr = s.tr := rfl
@[simp] theorem begin_cr (s : State) : s.begin.cr = s.cr := rfl
@[simp] theorem begin_dr (s : State) : s.begin.dr = s.dr := rfl
@[simp] theorem begin_tsc (s : State) : s.begin.tsc = s.tsc + 1 + BitVec.ofNat 64 (Config.tscExtra s.ticks) := rfl
@[simp] theorem begin_msrs (s : State) : s.begin.msrs = s.msrs := rfl
@[simp] theorem begin_fpu (s : State) : s.begin.fpu = s.fpu := rfl
@[simp] theorem begin_run (s : State) : s.begin.run = s.run := rfl
@[simp] theorem begin_nmiBlocked (s : State) : s.begin.nmiBlocked = s.nmiBlocked := rfl
@[simp] theorem begin_nmiPending (s : State) : s.begin.nmiPending = s.nmiPending := rfl
@[simp] theorem begin_smiPending (s : State) : s.begin.smiPending = s.smiPending := rfl
@[simp] theorem begin_inhibitSs (s : State) : s.begin.inhibitSs = s.inhibitSs := rfl
@[simp] theorem begin_inhibitSti (s : State) : s.begin.inhibitSti = s.inhibitSti := rfl
@[simp] theorem begin_pgSwitched (s : State) : s.begin.pgSwitched = s.pgSwitched := rfl
@[simp] theorem begin_inSmm (s : State) : s.begin.inSmm = s.inSmm := rfl
@[simp] theorem begin_smbase (s : State) : s.begin.smbase = s.smbase := rfl
@[simp] theorem begin_smm (s : State) : s.begin.smm = s.smm := rfl
@[simp] theorem begin_lastIo (s : State) : s.begin.lastIo = s.lastIo := rfl
@[simp] theorem begin_mem (s : State) : s.begin.mem = s.mem := rfl
@[simp] theorem begin_memMap (s : State) : s.begin.memMap = s.memMap := rfl
@[simp] theorem begin_itlb (s : State) : s.begin.itlb = s.itlb := rfl
@[simp] theorem begin_dtlb (s : State) : s.begin.dtlb = s.dtlb := rfl
@[simp] theorem begin_pendingDb (s : State) : s.begin.pendingDb = s.pendingDb := rfl
@[simp] theorem begin_late (s : State) : s.begin.late = s.late := rfl
@[simp] theorem begin_recurs (s : State) : s.begin.recurs = s.recurs := rfl
@[simp] theorem begin_inp (s : State) : s.begin.inp = { s.inp with mc := s.inp.mc && s.mce } := rfl
@[simp] theorem begin_bus (s : State) : s.begin.bus = s.bus := rfl
@[simp] theorem begin_draws (s : State) : s.begin.draws = s.draws := rfl
@[simp] theorem begin_ticks (s : State) : s.begin.ticks = s.ticks + 1 := rfl
@[simp] theorem begin_cur (s : State) : s.begin.cur = s.cur := rfl

@[simp] theorem shutdown_regs (s : State) : s.shutdown.regs = s.regs := rfl
@[simp] theorem shutdown_flags (s : State) : s.shutdown.flags = s.flags := rfl
@[simp] theorem shutdown_eip (s : State) : s.shutdown.eip = s.eip := rfl
@[simp] theorem shutdown_segs (s : State) : s.shutdown.segs = s.segs := rfl
@[simp] theorem shutdown_cpl (s : State) : s.shutdown.cpl = s.cpl := rfl
@[simp] theorem shutdown_gdtr (s : State) : s.shutdown.gdtr = s.gdtr := rfl
@[simp] theorem shutdown_idtr (s : State) : s.shutdown.idtr = s.idtr := rfl
@[simp] theorem shutdown_ldtr (s : State) : s.shutdown.ldtr = s.ldtr := rfl
@[simp] theorem shutdown_tr (s : State) : s.shutdown.tr = s.tr := rfl
@[simp] theorem shutdown_cr (s : State) : s.shutdown.cr = s.cr := rfl
@[simp] theorem shutdown_dr (s : State) : s.shutdown.dr = s.dr := rfl
@[simp] theorem shutdown_tsc (s : State) : s.shutdown.tsc = s.tsc := rfl
@[simp] theorem shutdown_msrs (s : State) : s.shutdown.msrs = s.msrs := rfl
@[simp] theorem shutdown_fpu (s : State) : s.shutdown.fpu = s.fpu := rfl
@[simp] theorem shutdown_run (s : State) : s.shutdown.run = .shutdown := rfl
@[simp] theorem shutdown_nmiBlocked (s : State) : s.shutdown.nmiBlocked = s.nmiBlocked := rfl
@[simp] theorem shutdown_nmiPending (s : State) : s.shutdown.nmiPending = s.nmiPending := rfl
@[simp] theorem shutdown_smiPending (s : State) : s.shutdown.smiPending = s.smiPending := rfl
@[simp] theorem shutdown_inhibitSs (s : State) : s.shutdown.inhibitSs = s.inhibitSs := rfl
@[simp] theorem shutdown_inhibitSti (s : State) : s.shutdown.inhibitSti = s.inhibitSti := rfl
@[simp] theorem shutdown_pgSwitched (s : State) : s.shutdown.pgSwitched = s.pgSwitched := rfl
@[simp] theorem shutdown_inSmm (s : State) : s.shutdown.inSmm = s.inSmm := rfl
@[simp] theorem shutdown_smbase (s : State) : s.shutdown.smbase = s.smbase := rfl
@[simp] theorem shutdown_smm (s : State) : s.shutdown.smm = s.smm := rfl
@[simp] theorem shutdown_lastIo (s : State) : s.shutdown.lastIo = s.lastIo := rfl
@[simp] theorem shutdown_mem (s : State) : s.shutdown.mem = s.mem := rfl
@[simp] theorem shutdown_memMap (s : State) : s.shutdown.memMap = s.memMap := rfl
@[simp] theorem shutdown_itlb (s : State) : s.shutdown.itlb = s.itlb := rfl
@[simp] theorem shutdown_dtlb (s : State) : s.shutdown.dtlb = s.dtlb := rfl
@[simp] theorem shutdown_pendingDb (s : State) : s.shutdown.pendingDb = none := rfl
@[simp] theorem shutdown_late (s : State) : s.shutdown.late = s.late := rfl
@[simp] theorem shutdown_recurs (s : State) : s.shutdown.recurs = [] := rfl
@[simp] theorem shutdown_inp (s : State) : s.shutdown.inp = s.inp := rfl
@[simp] theorem shutdown_bus (s : State) : s.shutdown.bus = .shutdown :: s.bus := rfl
@[simp] theorem shutdown_draws (s : State) : s.shutdown.draws = s.draws := rfl
@[simp] theorem shutdown_ticks (s : State) : s.shutdown.ticks = s.ticks := rfl
@[simp] theorem shutdown_cur (s : State) : s.shutdown.cur = .empty := rfl

@[simp] theorem undelivered_regs (s : State) : s.undelivered.regs = s.regs := rfl
@[simp] theorem undelivered_flags (s : State) : s.undelivered.flags = s.flags := rfl
@[simp] theorem undelivered_eip (s : State) : s.undelivered.eip = s.eip := rfl
@[simp] theorem undelivered_segs (s : State) : s.undelivered.segs = s.segs := rfl
@[simp] theorem undelivered_cpl (s : State) : s.undelivered.cpl = s.cpl := rfl
@[simp] theorem undelivered_gdtr (s : State) : s.undelivered.gdtr = s.gdtr := rfl
@[simp] theorem undelivered_idtr (s : State) : s.undelivered.idtr = s.idtr := rfl
@[simp] theorem undelivered_ldtr (s : State) : s.undelivered.ldtr = s.ldtr := rfl
@[simp] theorem undelivered_tr (s : State) : s.undelivered.tr = s.tr := rfl
@[simp] theorem undelivered_cr (s : State) : s.undelivered.cr = s.cr := rfl
@[simp] theorem undelivered_dr (s : State) : s.undelivered.dr = s.dr := rfl
@[simp] theorem undelivered_tsc (s : State) : s.undelivered.tsc = s.tsc := rfl
@[simp] theorem undelivered_msrs (s : State) : s.undelivered.msrs = s.msrs := rfl
@[simp] theorem undelivered_fpu (s : State) : s.undelivered.fpu = s.fpu := rfl
@[simp] theorem undelivered_run (s : State) : s.undelivered.run = .running := rfl
@[simp] theorem undelivered_nmiBlocked (s : State) : s.undelivered.nmiBlocked = s.nmiBlocked := rfl
@[simp] theorem undelivered_nmiPending (s : State) : s.undelivered.nmiPending = s.nmiPending := rfl
@[simp] theorem undelivered_smiPending (s : State) : s.undelivered.smiPending = s.smiPending := rfl
@[simp] theorem undelivered_inhibitSs (s : State) : s.undelivered.inhibitSs = false := rfl
@[simp] theorem undelivered_inhibitSti (s : State) : s.undelivered.inhibitSti = false := rfl
@[simp] theorem undelivered_pgSwitched (s : State) : s.undelivered.pgSwitched = s.pgSwitched := rfl
@[simp] theorem undelivered_inSmm (s : State) : s.undelivered.inSmm = s.inSmm := rfl
@[simp] theorem undelivered_smbase (s : State) : s.undelivered.smbase = s.smbase := rfl
@[simp] theorem undelivered_smm (s : State) : s.undelivered.smm = s.smm := rfl
@[simp] theorem undelivered_lastIo (s : State) : s.undelivered.lastIo = none := rfl
@[simp] theorem undelivered_mem (s : State) : s.undelivered.mem = s.mem := rfl
@[simp] theorem undelivered_memMap (s : State) : s.undelivered.memMap = s.memMap := rfl
@[simp] theorem undelivered_itlb (s : State) : s.undelivered.itlb = s.itlb := rfl
@[simp] theorem undelivered_dtlb (s : State) : s.undelivered.dtlb = s.dtlb := rfl
@[simp] theorem undelivered_pendingDb (s : State) : s.undelivered.pendingDb = s.pendingDb := rfl
@[simp] theorem undelivered_late (s : State) : s.undelivered.late = s.late := rfl
@[simp] theorem undelivered_recurs (s : State) : s.undelivered.recurs = s.recurs := rfl
@[simp] theorem undelivered_inp (s : State) : s.undelivered.inp = s.inp := rfl
@[simp] theorem undelivered_bus (s : State) : s.undelivered.bus = s.bus := rfl
@[simp] theorem undelivered_draws (s : State) : s.undelivered.draws = s.draws := rfl
@[simp] theorem undelivered_ticks (s : State) : s.undelivered.ticks = s.ticks := rfl
@[simp] theorem undelivered_cur (s : State) : s.undelivered.cur = .empty := rfl

@[simp] theorem delivered_regs (s : State) : s.delivered.regs = s.regs := rfl
@[simp] theorem delivered_flags (s : State) : s.delivered.flags = s.flags := rfl
@[simp] theorem delivered_eip (s : State) : s.delivered.eip = s.eip := rfl
@[simp] theorem delivered_segs (s : State) : s.delivered.segs = s.segs := rfl
@[simp] theorem delivered_cpl (s : State) : s.delivered.cpl = s.cpl := rfl
@[simp] theorem delivered_gdtr (s : State) : s.delivered.gdtr = s.gdtr := rfl
@[simp] theorem delivered_idtr (s : State) : s.delivered.idtr = s.idtr := rfl
@[simp] theorem delivered_ldtr (s : State) : s.delivered.ldtr = s.ldtr := rfl
@[simp] theorem delivered_tr (s : State) : s.delivered.tr = s.tr := rfl
@[simp] theorem delivered_cr (s : State) : s.delivered.cr = s.cr := rfl
@[simp] theorem delivered_dr (s : State) : s.delivered.dr = s.dr := rfl
@[simp] theorem delivered_tsc (s : State) : s.delivered.tsc = s.tsc := rfl
@[simp] theorem delivered_msrs (s : State) : s.delivered.msrs = s.msrs := rfl
@[simp] theorem delivered_fpu (s : State) : s.delivered.fpu = s.fpu := rfl
@[simp] theorem delivered_run (s : State) : s.delivered.run = s.run := rfl
@[simp] theorem delivered_nmiBlocked (s : State) : s.delivered.nmiBlocked = s.nmiBlocked := rfl
@[simp] theorem delivered_nmiPending (s : State) : s.delivered.nmiPending = s.nmiPending := rfl
@[simp] theorem delivered_smiPending (s : State) : s.delivered.smiPending = s.smiPending := rfl
@[simp] theorem delivered_inhibitSs (s : State) : s.delivered.inhibitSs = false := rfl
@[simp] theorem delivered_inhibitSti (s : State) : s.delivered.inhibitSti = false := rfl
@[simp] theorem delivered_pgSwitched (s : State) : s.delivered.pgSwitched = false := rfl
@[simp] theorem delivered_inSmm (s : State) : s.delivered.inSmm = s.inSmm := rfl
@[simp] theorem delivered_smbase (s : State) : s.delivered.smbase = s.smbase := rfl
@[simp] theorem delivered_smm (s : State) : s.delivered.smm = s.smm := rfl
@[simp] theorem delivered_lastIo (s : State) : s.delivered.lastIo = none := rfl
@[simp] theorem delivered_mem (s : State) : s.delivered.mem = s.mem := rfl
@[simp] theorem delivered_memMap (s : State) : s.delivered.memMap = s.memMap := rfl
@[simp] theorem delivered_itlb (s : State) : s.delivered.itlb = s.itlb := rfl
@[simp] theorem delivered_dtlb (s : State) : s.delivered.dtlb = s.dtlb := rfl
@[simp] theorem delivered_pendingDb (s : State) : s.delivered.pendingDb = s.heldTrap := rfl
@[simp] theorem delivered_late (s : State) : s.delivered.late = s.late := rfl
@[simp] theorem delivered_recurs (s : State) : s.delivered.recurs = s.recurs := rfl
@[simp] theorem delivered_inp (s : State) : s.delivered.inp = s.inp := rfl
@[simp] theorem delivered_bus (s : State) : s.delivered.bus = s.bus := rfl
@[simp] theorem delivered_draws (s : State) : s.delivered.draws = s.draws := rfl
@[simp] theorem delivered_ticks (s : State) : s.delivered.ticks = s.ticks := rfl
@[simp] theorem delivered_cur (s : State) : s.delivered.cur = .empty := rfl

@[simp] theorem rollback_regs (s t : State) : (rollback s t).regs = s.regs := rfl
@[simp] theorem rollback_flags (s t : State) : (rollback s t).flags = s.flags := rfl
@[simp] theorem rollback_eip (s t : State) : (rollback s t).eip = s.eip := rfl
@[simp] theorem rollback_segs (s t : State) : (rollback s t).segs = s.segs := rfl
@[simp] theorem rollback_cpl (s t : State) : (rollback s t).cpl = s.cpl := rfl
@[simp] theorem rollback_gdtr (s t : State) : (rollback s t).gdtr = s.gdtr := rfl
@[simp] theorem rollback_idtr (s t : State) : (rollback s t).idtr = s.idtr := rfl
@[simp] theorem rollback_ldtr (s t : State) : (rollback s t).ldtr = s.ldtr := rfl
@[simp] theorem rollback_tr (s t : State) : (rollback s t).tr = s.tr := rfl
@[simp] theorem rollback_cr (s t : State) : (rollback s t).cr = { s.cr with cr2 := t.cr.cr2 } := rfl
@[simp] theorem rollback_dr (s t : State) : (rollback s t).dr = { s.dr with dr6 := t.dr.dr6 } := rfl
@[simp] theorem rollback_tsc (s t : State) : (rollback s t).tsc = s.tsc := rfl
@[simp] theorem rollback_msrs (s t : State) : (rollback s t).msrs = s.msrs := rfl
@[simp] theorem rollback_fpu (s t : State) : (rollback s t).fpu = s.fpu := rfl
@[simp] theorem rollback_run (s t : State) : (rollback s t).run = s.run := rfl
@[simp] theorem rollback_nmiBlocked (s t : State) : (rollback s t).nmiBlocked = s.nmiBlocked := rfl
@[simp] theorem rollback_nmiPending (s t : State) : (rollback s t).nmiPending = s.nmiPending := rfl
@[simp] theorem rollback_smiPending (s t : State) : (rollback s t).smiPending = s.smiPending := rfl
@[simp] theorem rollback_inhibitSs (s t : State) : (rollback s t).inhibitSs = s.inhibitSs := rfl
@[simp] theorem rollback_inhibitSti (s t : State) : (rollback s t).inhibitSti = s.inhibitSti := rfl
@[simp] theorem rollback_pgSwitched (s t : State) : (rollback s t).pgSwitched = s.pgSwitched := rfl
@[simp] theorem rollback_inSmm (s t : State) : (rollback s t).inSmm = s.inSmm := rfl
@[simp] theorem rollback_smbase (s t : State) : (rollback s t).smbase = s.smbase := rfl
@[simp] theorem rollback_smm (s t : State) : (rollback s t).smm = s.smm := rfl
@[simp] theorem rollback_lastIo (s t : State) : (rollback s t).lastIo = s.lastIo := rfl
@[simp] theorem rollback_mem (s t : State) : (rollback s t).mem = t.mem := rfl
@[simp] theorem rollback_memMap (s t : State) : (rollback s t).memMap = s.memMap := rfl
@[simp] theorem rollback_itlb (s t : State) : (rollback s t).itlb = t.itlb := rfl
@[simp] theorem rollback_dtlb (s t : State) : (rollback s t).dtlb = t.dtlb := rfl
@[simp] theorem rollback_pendingDb (s t : State) : (rollback s t).pendingDb = s.pendingDb := rfl
@[simp] theorem rollback_late (s t : State) : (rollback s t).late = s.late := rfl
@[simp] theorem rollback_recurs (s t : State) : (rollback s t).recurs = s.recurs := rfl
@[simp] theorem rollback_inp (s t : State) : (rollback s t).inp = t.inp := rfl
@[simp] theorem rollback_bus (s t : State) : (rollback s t).bus = t.bus := rfl
@[simp] theorem rollback_draws (s t : State) : (rollback s t).draws = t.draws := rfl
@[simp] theorem rollback_ticks (s t : State) : (rollback s t).ticks = s.ticks := rfl
@[simp] theorem rollback_cur (s t : State) : (rollback s t).cur = s.cur := rfl

@[simp] theorem complete_regs (s t : State) : (s.complete t).regs = t.regs := rfl
@[simp] theorem complete_flags (s t : State) : (s.complete t).flags = (if t.cur.keepRf then t.flags else { t.flags with rf := false }) := rfl
@[simp] theorem complete_eip (s t : State) : (s.complete t).eip = t.eip := rfl
@[simp] theorem complete_segs (s t : State) : (s.complete t).segs = t.segs := rfl
@[simp] theorem complete_cpl (s t : State) : (s.complete t).cpl = t.cpl := rfl
@[simp] theorem complete_gdtr (s t : State) : (s.complete t).gdtr = t.gdtr := rfl
@[simp] theorem complete_idtr (s t : State) : (s.complete t).idtr = t.idtr := rfl
@[simp] theorem complete_ldtr (s t : State) : (s.complete t).ldtr = t.ldtr := rfl
@[simp] theorem complete_tr (s t : State) : (s.complete t).tr = t.tr := rfl
@[simp] theorem complete_cr (s t : State) : (s.complete t).cr = t.cr := rfl
@[simp] theorem complete_dr (s t : State) : (s.complete t).dr = t.dr := rfl
@[simp] theorem complete_tsc (s t : State) : (s.complete t).tsc = t.tsc := rfl
@[simp] theorem complete_msrs (s t : State) : (s.complete t).msrs = t.msrs := rfl
@[simp] theorem complete_fpu (s t : State) : (s.complete t).fpu = t.fpu := rfl
@[simp] theorem complete_run (s t : State) : (s.complete t).run = t.run := rfl
@[simp] theorem complete_nmiBlocked (s t : State) : (s.complete t).nmiBlocked = t.nmiBlocked := rfl
@[simp] theorem complete_nmiPending (s t : State) : (s.complete t).nmiPending = t.nmiPending := rfl
@[simp] theorem complete_smiPending (s t : State) : (s.complete t).smiPending = t.smiPending := rfl
@[simp] theorem complete_inhibitSs (s t : State) : (s.complete t).inhibitSs = t.cur.setSsShadow := rfl
@[simp] theorem complete_inhibitSti (s t : State) : (s.complete t).inhibitSti = t.cur.setStiShadow := rfl
@[simp] theorem complete_pgSwitched (s t : State) : (s.complete t).pgSwitched = (t.cur.pgSwitch || (t.pgSwitched && t.pg)) := rfl
@[simp] theorem complete_inSmm (s t : State) : (s.complete t).inSmm = t.inSmm := rfl
@[simp] theorem complete_smbase (s t : State) : (s.complete t).smbase = t.smbase := rfl
@[simp] theorem complete_smm (s t : State) : (s.complete t).smm = t.smm := rfl
@[simp] theorem complete_lastIo (s t : State) : (s.complete t).lastIo = t.lastIo := rfl
@[simp] theorem complete_mem (s t : State) : (s.complete t).mem = t.mem := rfl
@[simp] theorem complete_memMap (s t : State) : (s.complete t).memMap = t.memMap := rfl
@[simp] theorem complete_itlb (s t : State) : (s.complete t).itlb = t.itlb := rfl
@[simp] theorem complete_dtlb (s t : State) : (s.complete t).dtlb = t.dtlb := rfl
@[simp] theorem complete_pendingDb (s t : State) : (s.complete t).pendingDb = s.trapAfter t := rfl
@[simp] theorem complete_late (s t : State) : (s.complete t).late = s.lateAfter t.cur := rfl
@[simp] theorem complete_recurs (s t : State) : (s.complete t).recurs = t.recurs := rfl
@[simp] theorem complete_inp (s t : State) : (s.complete t).inp = t.inp := rfl
@[simp] theorem complete_bus (s t : State) : (s.complete t).bus = s.ferrEdge t ++ t.bus := rfl
@[simp] theorem complete_draws (s t : State) : (s.complete t).draws = t.draws := rfl
@[simp] theorem complete_ticks (s t : State) : (s.complete t).ticks = t.ticks := rfl
@[simp] theorem complete_cur (s t : State) : (s.complete t).cur = .empty := rfl

@[simp] theorem noteDebug_regs (s : State) (c : DbgCause) : (s.noteDebug c).regs = s.regs := rfl
@[simp] theorem noteDebug_flags (s : State) (c : DbgCause) : (s.noteDebug c).flags = s.flags := rfl
@[simp] theorem noteDebug_eip (s : State) (c : DbgCause) : (s.noteDebug c).eip = s.eip := rfl
@[simp] theorem noteDebug_segs (s : State) (c : DbgCause) : (s.noteDebug c).segs = s.segs := rfl
@[simp] theorem noteDebug_cpl (s : State) (c : DbgCause) : (s.noteDebug c).cpl = s.cpl := rfl
@[simp] theorem noteDebug_gdtr (s : State) (c : DbgCause) : (s.noteDebug c).gdtr = s.gdtr := rfl
@[simp] theorem noteDebug_idtr (s : State) (c : DbgCause) : (s.noteDebug c).idtr = s.idtr := rfl
@[simp] theorem noteDebug_ldtr (s : State) (c : DbgCause) : (s.noteDebug c).ldtr = s.ldtr := rfl
@[simp] theorem noteDebug_tr (s : State) (c : DbgCause) : (s.noteDebug c).tr = s.tr := rfl
@[simp] theorem noteDebug_cr (s : State) (c : DbgCause) : (s.noteDebug c).cr = s.cr := rfl
@[simp] theorem noteDebug_tsc (s : State) (c : DbgCause) : (s.noteDebug c).tsc = s.tsc := rfl
@[simp] theorem noteDebug_msrs (s : State) (c : DbgCause) : (s.noteDebug c).msrs = s.msrs := rfl
@[simp] theorem noteDebug_fpu (s : State) (c : DbgCause) : (s.noteDebug c).fpu = s.fpu := rfl
@[simp] theorem noteDebug_run (s : State) (c : DbgCause) : (s.noteDebug c).run = s.run := rfl
@[simp] theorem noteDebug_nmiBlocked (s : State) (c : DbgCause) : (s.noteDebug c).nmiBlocked = s.nmiBlocked := rfl
@[simp] theorem noteDebug_nmiPending (s : State) (c : DbgCause) : (s.noteDebug c).nmiPending = s.nmiPending := rfl
@[simp] theorem noteDebug_smiPending (s : State) (c : DbgCause) : (s.noteDebug c).smiPending = s.smiPending := rfl
@[simp] theorem noteDebug_inhibitSs (s : State) (c : DbgCause) : (s.noteDebug c).inhibitSs = s.inhibitSs := rfl
@[simp] theorem noteDebug_inhibitSti (s : State) (c : DbgCause) : (s.noteDebug c).inhibitSti = s.inhibitSti := rfl
@[simp] theorem noteDebug_pgSwitched (s : State) (c : DbgCause) : (s.noteDebug c).pgSwitched = s.pgSwitched := rfl
@[simp] theorem noteDebug_inSmm (s : State) (c : DbgCause) : (s.noteDebug c).inSmm = s.inSmm := rfl
@[simp] theorem noteDebug_smbase (s : State) (c : DbgCause) : (s.noteDebug c).smbase = s.smbase := rfl
@[simp] theorem noteDebug_smm (s : State) (c : DbgCause) : (s.noteDebug c).smm = s.smm := rfl
@[simp] theorem noteDebug_lastIo (s : State) (c : DbgCause) : (s.noteDebug c).lastIo = s.lastIo := rfl
@[simp] theorem noteDebug_mem (s : State) (c : DbgCause) : (s.noteDebug c).mem = s.mem := rfl
@[simp] theorem noteDebug_memMap (s : State) (c : DbgCause) : (s.noteDebug c).memMap = s.memMap := rfl
@[simp] theorem noteDebug_itlb (s : State) (c : DbgCause) : (s.noteDebug c).itlb = s.itlb := rfl
@[simp] theorem noteDebug_dtlb (s : State) (c : DbgCause) : (s.noteDebug c).dtlb = s.dtlb := rfl
@[simp] theorem noteDebug_pendingDb (s : State) (c : DbgCause) : (s.noteDebug c).pendingDb = s.pendingDb := rfl
@[simp] theorem noteDebug_late (s : State) (c : DbgCause) : (s.noteDebug c).late = s.late := rfl
@[simp] theorem noteDebug_recurs (s : State) (c : DbgCause) : (s.noteDebug c).recurs = s.recurs.filter fun h => !(s.isBack h && h.cause == c) := rfl
@[simp] theorem noteDebug_inp (s : State) (c : DbgCause) : (s.noteDebug c).inp = s.inp := rfl
@[simp] theorem noteDebug_bus (s : State) (c : DbgCause) : (s.noteDebug c).bus = s.bus := rfl
@[simp] theorem noteDebug_draws (s : State) (c : DbgCause) : (s.noteDebug c).draws = s.draws := rfl
@[simp] theorem noteDebug_ticks (s : State) (c : DbgCause) : (s.noteDebug c).ticks = s.ticks := rfl
@[simp] theorem noteDebug_cur (s : State) (c : DbgCause) : (s.noteDebug c).cur = s.cur := rfl

@[simp] theorem withSp_regs (s : State) (v : Word) : (Claims.withSp s v).regs = s.regs.write s.ss.bits .esp (v.setWidth s.ss.bits) := rfl
@[simp] theorem withSp_flags (s : State) (v : Word) : (Claims.withSp s v).flags = s.flags := rfl
@[simp] theorem withSp_eip (s : State) (v : Word) : (Claims.withSp s v).eip = s.eip := rfl
@[simp] theorem withSp_segs (s : State) (v : Word) : (Claims.withSp s v).segs = s.segs := rfl
@[simp] theorem withSp_cpl (s : State) (v : Word) : (Claims.withSp s v).cpl = s.cpl := rfl
@[simp] theorem withSp_gdtr (s : State) (v : Word) : (Claims.withSp s v).gdtr = s.gdtr := rfl
@[simp] theorem withSp_idtr (s : State) (v : Word) : (Claims.withSp s v).idtr = s.idtr := rfl
@[simp] theorem withSp_ldtr (s : State) (v : Word) : (Claims.withSp s v).ldtr = s.ldtr := rfl
@[simp] theorem withSp_tr (s : State) (v : Word) : (Claims.withSp s v).tr = s.tr := rfl
@[simp] theorem withSp_cr (s : State) (v : Word) : (Claims.withSp s v).cr = s.cr := rfl
@[simp] theorem withSp_dr (s : State) (v : Word) : (Claims.withSp s v).dr = s.dr := rfl
@[simp] theorem withSp_tsc (s : State) (v : Word) : (Claims.withSp s v).tsc = s.tsc := rfl
@[simp] theorem withSp_msrs (s : State) (v : Word) : (Claims.withSp s v).msrs = s.msrs := rfl
@[simp] theorem withSp_fpu (s : State) (v : Word) : (Claims.withSp s v).fpu = s.fpu := rfl
@[simp] theorem withSp_run (s : State) (v : Word) : (Claims.withSp s v).run = s.run := rfl
@[simp] theorem withSp_nmiBlocked (s : State) (v : Word) : (Claims.withSp s v).nmiBlocked = s.nmiBlocked := rfl
@[simp] theorem withSp_nmiPending (s : State) (v : Word) : (Claims.withSp s v).nmiPending = s.nmiPending := rfl
@[simp] theorem withSp_smiPending (s : State) (v : Word) : (Claims.withSp s v).smiPending = s.smiPending := rfl
@[simp] theorem withSp_inhibitSs (s : State) (v : Word) : (Claims.withSp s v).inhibitSs = s.inhibitSs := rfl
@[simp] theorem withSp_inhibitSti (s : State) (v : Word) : (Claims.withSp s v).inhibitSti = s.inhibitSti := rfl
@[simp] theorem withSp_pgSwitched (s : State) (v : Word) : (Claims.withSp s v).pgSwitched = s.pgSwitched := rfl
@[simp] theorem withSp_inSmm (s : State) (v : Word) : (Claims.withSp s v).inSmm = s.inSmm := rfl
@[simp] theorem withSp_smbase (s : State) (v : Word) : (Claims.withSp s v).smbase = s.smbase := rfl
@[simp] theorem withSp_smm (s : State) (v : Word) : (Claims.withSp s v).smm = s.smm := rfl
@[simp] theorem withSp_lastIo (s : State) (v : Word) : (Claims.withSp s v).lastIo = s.lastIo := rfl
@[simp] theorem withSp_mem (s : State) (v : Word) : (Claims.withSp s v).mem = s.mem := rfl
@[simp] theorem withSp_memMap (s : State) (v : Word) : (Claims.withSp s v).memMap = s.memMap := rfl
@[simp] theorem withSp_itlb (s : State) (v : Word) : (Claims.withSp s v).itlb = s.itlb := rfl
@[simp] theorem withSp_dtlb (s : State) (v : Word) : (Claims.withSp s v).dtlb = s.dtlb := rfl
@[simp] theorem withSp_pendingDb (s : State) (v : Word) : (Claims.withSp s v).pendingDb = s.pendingDb := rfl
@[simp] theorem withSp_late (s : State) (v : Word) : (Claims.withSp s v).late = s.late := rfl
@[simp] theorem withSp_recurs (s : State) (v : Word) : (Claims.withSp s v).recurs = s.recurs := rfl
@[simp] theorem withSp_inp (s : State) (v : Word) : (Claims.withSp s v).inp = s.inp := rfl
@[simp] theorem withSp_bus (s : State) (v : Word) : (Claims.withSp s v).bus = s.bus := rfl
@[simp] theorem withSp_draws (s : State) (v : Word) : (Claims.withSp s v).draws = s.draws := rfl
@[simp] theorem withSp_ticks (s : State) (v : Word) : (Claims.withSp s v).ticks = s.ticks := rfl
@[simp] theorem withSp_cur (s : State) (v : Word) : (Claims.withSp s v).cur = s.cur := rfl

@[simp] theorem withCs_regs (s : State) (c : Seg) (e : Word) : (Claims.withCs s c e).regs = s.regs := rfl
@[simp] theorem withCs_flags (s : State) (c : Seg) (e : Word) : (Claims.withCs s c e).flags = s.flags := rfl
@[simp] theorem withCs_eip (s : State) (c : Seg) (e : Word) : (Claims.withCs s c e).eip = e := rfl
@[simp] theorem withCs_segs (s : State) (c : Seg) (e : Word) : (Claims.withCs s c e).segs = { s.segs with cs := c } := rfl
@[simp] theorem withCs_cpl (s : State) (c : Seg) (e : Word) : (Claims.withCs s c e).cpl = s.cpl := rfl
@[simp] theorem withCs_gdtr (s : State) (c : Seg) (e : Word) : (Claims.withCs s c e).gdtr = s.gdtr := rfl
@[simp] theorem withCs_idtr (s : State) (c : Seg) (e : Word) : (Claims.withCs s c e).idtr = s.idtr := rfl
@[simp] theorem withCs_ldtr (s : State) (c : Seg) (e : Word) : (Claims.withCs s c e).ldtr = s.ldtr := rfl
@[simp] theorem withCs_tr (s : State) (c : Seg) (e : Word) : (Claims.withCs s c e).tr = s.tr := rfl
@[simp] theorem withCs_cr (s : State) (c : Seg) (e : Word) : (Claims.withCs s c e).cr = s.cr := rfl
@[simp] theorem withCs_dr (s : State) (c : Seg) (e : Word) : (Claims.withCs s c e).dr = s.dr := rfl
@[simp] theorem withCs_tsc (s : State) (c : Seg) (e : Word) : (Claims.withCs s c e).tsc = s.tsc := rfl
@[simp] theorem withCs_msrs (s : State) (c : Seg) (e : Word) : (Claims.withCs s c e).msrs = s.msrs := rfl
@[simp] theorem withCs_fpu (s : State) (c : Seg) (e : Word) : (Claims.withCs s c e).fpu = s.fpu := rfl
@[simp] theorem withCs_run (s : State) (c : Seg) (e : Word) : (Claims.withCs s c e).run = s.run := rfl
@[simp] theorem withCs_nmiBlocked (s : State) (c : Seg) (e : Word) : (Claims.withCs s c e).nmiBlocked = s.nmiBlocked := rfl
@[simp] theorem withCs_nmiPending (s : State) (c : Seg) (e : Word) : (Claims.withCs s c e).nmiPending = s.nmiPending := rfl
@[simp] theorem withCs_smiPending (s : State) (c : Seg) (e : Word) : (Claims.withCs s c e).smiPending = s.smiPending := rfl
@[simp] theorem withCs_inhibitSs (s : State) (c : Seg) (e : Word) : (Claims.withCs s c e).inhibitSs = s.inhibitSs := rfl
@[simp] theorem withCs_inhibitSti (s : State) (c : Seg) (e : Word) : (Claims.withCs s c e).inhibitSti = s.inhibitSti := rfl
@[simp] theorem withCs_pgSwitched (s : State) (c : Seg) (e : Word) : (Claims.withCs s c e).pgSwitched = s.pgSwitched := rfl
@[simp] theorem withCs_inSmm (s : State) (c : Seg) (e : Word) : (Claims.withCs s c e).inSmm = s.inSmm := rfl
@[simp] theorem withCs_smbase (s : State) (c : Seg) (e : Word) : (Claims.withCs s c e).smbase = s.smbase := rfl
@[simp] theorem withCs_smm (s : State) (c : Seg) (e : Word) : (Claims.withCs s c e).smm = s.smm := rfl
@[simp] theorem withCs_lastIo (s : State) (c : Seg) (e : Word) : (Claims.withCs s c e).lastIo = s.lastIo := rfl
@[simp] theorem withCs_mem (s : State) (c : Seg) (e : Word) : (Claims.withCs s c e).mem = s.mem := rfl
@[simp] theorem withCs_memMap (s : State) (c : Seg) (e : Word) : (Claims.withCs s c e).memMap = s.memMap := rfl
@[simp] theorem withCs_itlb (s : State) (c : Seg) (e : Word) : (Claims.withCs s c e).itlb = s.itlb := rfl
@[simp] theorem withCs_dtlb (s : State) (c : Seg) (e : Word) : (Claims.withCs s c e).dtlb = s.dtlb := rfl
@[simp] theorem withCs_pendingDb (s : State) (c : Seg) (e : Word) : (Claims.withCs s c e).pendingDb = s.pendingDb := rfl
@[simp] theorem withCs_late (s : State) (c : Seg) (e : Word) : (Claims.withCs s c e).late = s.late := rfl
@[simp] theorem withCs_recurs (s : State) (c : Seg) (e : Word) : (Claims.withCs s c e).recurs = s.recurs := rfl
@[simp] theorem withCs_inp (s : State) (c : Seg) (e : Word) : (Claims.withCs s c e).inp = s.inp := rfl
@[simp] theorem withCs_bus (s : State) (c : Seg) (e : Word) : (Claims.withCs s c e).bus = s.bus := rfl
@[simp] theorem withCs_draws (s : State) (c : Seg) (e : Word) : (Claims.withCs s c e).draws = s.draws := rfl
@[simp] theorem withCs_ticks (s : State) (c : Seg) (e : Word) : (Claims.withCs s c e).ticks = s.ticks := rfl
@[simp] theorem withCs_cur (s : State) (c : Seg) (e : Word) : (Claims.withCs s c e).cur = s.cur := rfl

@[simp] theorem enter_os (s : State) : State.os s.enter = State.os s := rfl
@[simp] theorem enter_as (s : State) : State.as s.enter = State.as s := rfl
@[simp] theorem enter_ss (s : State) : State.ss s.enter = State.ss s := rfl
@[simp] theorem enter_pe (s : State) : State.pe s.enter = State.pe s := rfl
@[simp] theorem enter_pg (s : State) : State.pg s.enter = State.pg s := rfl
@[simp] theorem enter_em (s : State) : State.em s.enter = State.em s := rfl
@[simp] theorem enter_tsFlag (s : State) : State.tsFlag s.enter = State.tsFlag s := rfl
@[simp] theorem enter_mp (s : State) : State.mp s.enter = State.mp s := rfl
@[simp] theorem enter_ne (s : State) : State.ne s.enter = State.ne s := rfl
@[simp] theorem enter_level (s : State) : State.level s.enter = State.level s := rfl
@[simp] theorem enter_prot (s : State) : State.prot s.enter = State.prot s := rfl
@[simp] theorem enter_v86 (s : State) : State.v86 s.enter = State.v86 s := rfl

@[simp] theorem tick_os (s : State) : State.os s.tick = State.os s := rfl
@[simp] theorem tick_as (s : State) : State.as s.tick = State.as s := rfl
@[simp] theorem tick_ss (s : State) : State.ss s.tick = State.ss s := rfl
@[simp] theorem tick_pe (s : State) : State.pe s.tick = State.pe s := rfl
@[simp] theorem tick_pg (s : State) : State.pg s.tick = State.pg s := rfl
@[simp] theorem tick_em (s : State) : State.em s.tick = State.em s := rfl
@[simp] theorem tick_tsFlag (s : State) : State.tsFlag s.tick = State.tsFlag s := rfl
@[simp] theorem tick_mp (s : State) : State.mp s.tick = State.mp s := rfl
@[simp] theorem tick_ne (s : State) : State.ne s.tick = State.ne s := rfl
@[simp] theorem tick_level (s : State) : State.level s.tick = State.level s := rfl
@[simp] theorem tick_prot (s : State) : State.prot s.tick = State.prot s := rfl
@[simp] theorem tick_v86 (s : State) : State.v86 s.tick = State.v86 s := rfl

@[simp] theorem begin_os (s : State) : State.os s.begin = State.os s := rfl
@[simp] theorem begin_as (s : State) : State.as s.begin = State.as s := rfl
@[simp] theorem begin_ss (s : State) : State.ss s.begin = State.ss s := rfl
@[simp] theorem begin_pe (s : State) : State.pe s.begin = State.pe s := rfl
@[simp] theorem begin_pg (s : State) : State.pg s.begin = State.pg s := rfl
@[simp] theorem begin_em (s : State) : State.em s.begin = State.em s := rfl
@[simp] theorem begin_tsFlag (s : State) : State.tsFlag s.begin = State.tsFlag s := rfl
@[simp] theorem begin_mp (s : State) : State.mp s.begin = State.mp s := rfl
@[simp] theorem begin_ne (s : State) : State.ne s.begin = State.ne s := rfl
@[simp] theorem begin_level (s : State) : State.level s.begin = State.level s := rfl
@[simp] theorem begin_prot (s : State) : State.prot s.begin = State.prot s := rfl
@[simp] theorem begin_v86 (s : State) : State.v86 s.begin = State.v86 s := rfl

@[simp] theorem shutdown_ss (s : State) : State.ss s.shutdown = State.ss s := rfl
@[simp] theorem shutdown_pe (s : State) : State.pe s.shutdown = State.pe s := rfl
@[simp] theorem shutdown_pg (s : State) : State.pg s.shutdown = State.pg s := rfl
@[simp] theorem shutdown_em (s : State) : State.em s.shutdown = State.em s := rfl
@[simp] theorem shutdown_tsFlag (s : State) : State.tsFlag s.shutdown = State.tsFlag s := rfl
@[simp] theorem shutdown_mp (s : State) : State.mp s.shutdown = State.mp s := rfl
@[simp] theorem shutdown_ne (s : State) : State.ne s.shutdown = State.ne s := rfl
@[simp] theorem shutdown_level (s : State) : State.level s.shutdown = State.level s := rfl
@[simp] theorem shutdown_prot (s : State) : State.prot s.shutdown = State.prot s := rfl
@[simp] theorem shutdown_v86 (s : State) : State.v86 s.shutdown = State.v86 s := rfl

@[simp] theorem undelivered_ss (s : State) : State.ss s.undelivered = State.ss s := rfl
@[simp] theorem undelivered_pe (s : State) : State.pe s.undelivered = State.pe s := rfl
@[simp] theorem undelivered_pg (s : State) : State.pg s.undelivered = State.pg s := rfl
@[simp] theorem undelivered_em (s : State) : State.em s.undelivered = State.em s := rfl
@[simp] theorem undelivered_tsFlag (s : State) : State.tsFlag s.undelivered = State.tsFlag s := rfl
@[simp] theorem undelivered_mp (s : State) : State.mp s.undelivered = State.mp s := rfl
@[simp] theorem undelivered_ne (s : State) : State.ne s.undelivered = State.ne s := rfl
@[simp] theorem undelivered_level (s : State) : State.level s.undelivered = State.level s := rfl
@[simp] theorem undelivered_prot (s : State) : State.prot s.undelivered = State.prot s := rfl
@[simp] theorem undelivered_v86 (s : State) : State.v86 s.undelivered = State.v86 s := rfl

@[simp] theorem delivered_ss (s : State) : State.ss s.delivered = State.ss s := rfl
@[simp] theorem delivered_pe (s : State) : State.pe s.delivered = State.pe s := rfl
@[simp] theorem delivered_pg (s : State) : State.pg s.delivered = State.pg s := rfl
@[simp] theorem delivered_em (s : State) : State.em s.delivered = State.em s := rfl
@[simp] theorem delivered_tsFlag (s : State) : State.tsFlag s.delivered = State.tsFlag s := rfl
@[simp] theorem delivered_mp (s : State) : State.mp s.delivered = State.mp s := rfl
@[simp] theorem delivered_ne (s : State) : State.ne s.delivered = State.ne s := rfl
@[simp] theorem delivered_level (s : State) : State.level s.delivered = State.level s := rfl
@[simp] theorem delivered_prot (s : State) : State.prot s.delivered = State.prot s := rfl
@[simp] theorem delivered_v86 (s : State) : State.v86 s.delivered = State.v86 s := rfl

@[simp] theorem rollback_os (s t : State) : State.os (rollback s t) = State.os s := rfl
@[simp] theorem rollback_as (s t : State) : State.as (rollback s t) = State.as s := rfl
@[simp] theorem rollback_ss (s t : State) : State.ss (rollback s t) = State.ss s := rfl
@[simp] theorem rollback_pe (s t : State) : State.pe (rollback s t) = State.pe s := rfl
@[simp] theorem rollback_pg (s t : State) : State.pg (rollback s t) = State.pg s := rfl
@[simp] theorem rollback_em (s t : State) : State.em (rollback s t) = State.em s := rfl
@[simp] theorem rollback_tsFlag (s t : State) : State.tsFlag (rollback s t) = State.tsFlag s := rfl
@[simp] theorem rollback_mp (s t : State) : State.mp (rollback s t) = State.mp s := rfl
@[simp] theorem rollback_ne (s t : State) : State.ne (rollback s t) = State.ne s := rfl

@[simp] theorem complete_ss (s t : State) : State.ss (s.complete t) = State.ss t := rfl
@[simp] theorem complete_pe (s t : State) : State.pe (s.complete t) = State.pe t := rfl
@[simp] theorem complete_pg (s t : State) : State.pg (s.complete t) = State.pg t := rfl
@[simp] theorem complete_em (s t : State) : State.em (s.complete t) = State.em t := rfl
@[simp] theorem complete_tsFlag (s t : State) : State.tsFlag (s.complete t) = State.tsFlag t := rfl
@[simp] theorem complete_mp (s t : State) : State.mp (s.complete t) = State.mp t := rfl
@[simp] theorem complete_ne (s t : State) : State.ne (s.complete t) = State.ne t := rfl

@[simp] theorem noteDebug_os (s : State) (c : DbgCause) : State.os (s.noteDebug c) = State.os s := rfl
@[simp] theorem noteDebug_as (s : State) (c : DbgCause) : State.as (s.noteDebug c) = State.as s := rfl
@[simp] theorem noteDebug_ss (s : State) (c : DbgCause) : State.ss (s.noteDebug c) = State.ss s := rfl
@[simp] theorem noteDebug_pe (s : State) (c : DbgCause) : State.pe (s.noteDebug c) = State.pe s := rfl
@[simp] theorem noteDebug_pg (s : State) (c : DbgCause) : State.pg (s.noteDebug c) = State.pg s := rfl
@[simp] theorem noteDebug_em (s : State) (c : DbgCause) : State.em (s.noteDebug c) = State.em s := rfl
@[simp] theorem noteDebug_tsFlag (s : State) (c : DbgCause) : State.tsFlag (s.noteDebug c) = State.tsFlag s := rfl
@[simp] theorem noteDebug_mp (s : State) (c : DbgCause) : State.mp (s.noteDebug c) = State.mp s := rfl
@[simp] theorem noteDebug_ne (s : State) (c : DbgCause) : State.ne (s.noteDebug c) = State.ne s := rfl
@[simp] theorem noteDebug_level (s : State) (c : DbgCause) : State.level (s.noteDebug c) = State.level s := rfl
@[simp] theorem noteDebug_prot (s : State) (c : DbgCause) : State.prot (s.noteDebug c) = State.prot s := rfl
@[simp] theorem noteDebug_v86 (s : State) (c : DbgCause) : State.v86 (s.noteDebug c) = State.v86 s := rfl

@[simp] theorem withSp_os (s : State) (v : Word) : State.os (Claims.withSp s v) = State.os s := rfl
@[simp] theorem withSp_as (s : State) (v : Word) : State.as (Claims.withSp s v) = State.as s := rfl
@[simp] theorem withSp_ss (s : State) (v : Word) : State.ss (Claims.withSp s v) = State.ss s := rfl
@[simp] theorem withSp_pe (s : State) (v : Word) : State.pe (Claims.withSp s v) = State.pe s := rfl
@[simp] theorem withSp_pg (s : State) (v : Word) : State.pg (Claims.withSp s v) = State.pg s := rfl
@[simp] theorem withSp_em (s : State) (v : Word) : State.em (Claims.withSp s v) = State.em s := rfl
@[simp] theorem withSp_tsFlag (s : State) (v : Word) : State.tsFlag (Claims.withSp s v) = State.tsFlag s := rfl
@[simp] theorem withSp_mp (s : State) (v : Word) : State.mp (Claims.withSp s v) = State.mp s := rfl
@[simp] theorem withSp_ne (s : State) (v : Word) : State.ne (Claims.withSp s v) = State.ne s := rfl
@[simp] theorem withSp_level (s : State) (v : Word) : State.level (Claims.withSp s v) = State.level s := rfl
@[simp] theorem withSp_prot (s : State) (v : Word) : State.prot (Claims.withSp s v) = State.prot s := rfl
@[simp] theorem withSp_v86 (s : State) (v : Word) : State.v86 (Claims.withSp s v) = State.v86 s := rfl

@[simp] theorem withCs_pe (s : State) (c : Seg) (e : Word) : State.pe (Claims.withCs s c e) = State.pe s := rfl
@[simp] theorem withCs_pg (s : State) (c : Seg) (e : Word) : State.pg (Claims.withCs s c e) = State.pg s := rfl
@[simp] theorem withCs_em (s : State) (c : Seg) (e : Word) : State.em (Claims.withCs s c e) = State.em s := rfl
@[simp] theorem withCs_tsFlag (s : State) (c : Seg) (e : Word) : State.tsFlag (Claims.withCs s c e) = State.tsFlag s := rfl
@[simp] theorem withCs_mp (s : State) (c : Seg) (e : Word) : State.mp (Claims.withCs s c e) = State.mp s := rfl
@[simp] theorem withCs_ne (s : State) (c : Seg) (e : Word) : State.ne (Claims.withCs s c e) = State.ne s := rfl
@[simp] theorem withCs_level (s : State) (c : Seg) (e : Word) : State.level (Claims.withCs s c e) = State.level s := rfl
@[simp] theorem withCs_prot (s : State) (c : Seg) (e : Word) : State.prot (Claims.withCs s c e) = State.prot s := rfl
@[simp] theorem withCs_v86 (s : State) (c : Seg) (e : Word) : State.v86 (Claims.withCs s c e) = State.v86 s := rfl

@[simp] theorem gregs_get_set_eax (g : GRegs) (v : Word) : (g.set .eax v).get .eax = v := rfl
@[simp] theorem gregs_get_set_ecx (g : GRegs) (v : Word) : (g.set .ecx v).get .ecx = v := rfl
@[simp] theorem gregs_get_set_edx (g : GRegs) (v : Word) : (g.set .edx v).get .edx = v := rfl
@[simp] theorem gregs_get_set_ebx (g : GRegs) (v : Word) : (g.set .ebx v).get .ebx = v := rfl
@[simp] theorem gregs_get_set_esp (g : GRegs) (v : Word) : (g.set .esp v).get .esp = v := rfl
@[simp] theorem gregs_get_set_ebp (g : GRegs) (v : Word) : (g.set .ebp v).get .ebp = v := rfl
@[simp] theorem gregs_get_set_esi (g : GRegs) (v : Word) : (g.set .esi v).get .esi = v := rfl
@[simp] theorem gregs_get_set_edi (g : GRegs) (v : Word) : (g.set .edi v).get .edi = v := rfl

/-- Writing one long register leaves the others. -/
theorem gregs_get_set_ne (g : GRegs) (r q : Reg) (v : Word) (h : q ≠ r) : (g.set r v).get q = g.get q := by
  cases r <;> cases q <;> first | rfl | exact absurd rfl h

/-- A long register reads what was written. -/
@[simp] theorem gregs_get_set (g : GRegs) (r : Reg) (v : Word) : (g.set r v).get r = v := by cases r <;> rfl

/-- A 32-bit write replaces the register. -/
@[simp] theorem gregs_write_32 (g : GRegs) (r : Reg) (v : BitVec 32) : g.write 32 r v = g.set r v := by
  simp [GRegs.write]

/-- A 32-bit read is the register. -/
@[simp] theorem gregs_read_32 (g : GRegs) (r : Reg) : g.read 32 r = g.get r := by
  simp [GRegs.read]

/-- The low byte of a word whose low byte was replaced. -/
@[simp] theorem low8_mergeLow8 (o : Word) (v : Byte) : (mergeLow8 o v).extractLsb' 0 8 = v := by
  apply BitVec.eq_of_getLsbD_eq; intro i hi
  rw [mergeLow8, BitVec.getLsbD_extractLsb']
  erw [BitVec.getLsbD_append]
  simp [hi]

/-- The high byte of a half whose high byte was replaced. -/
@[simp] theorem high8_mergeHigh8 (o : Word) (v : Byte) : (mergeHigh8 o v).extractLsb' 8 8 = v := by
  apply BitVec.eq_of_getLsbD_eq; intro i hi
  rw [mergeHigh8, BitVec.getLsbD_extractLsb']
  erw [BitVec.getLsbD_append, BitVec.getLsbD_append]
  simp [hi]

/-- A byte register reads what was written (R101). -/
@[simp] theorem gregs_get8_set8 (g : GRegs) (r : Reg) (v : Byte) : (g.set8 r v).get8 r = v := by
  cases r <;> simp [GRegs.get8, GRegs.set8]

/-- A segment register reads what was loaded. -/
@[simp] theorem segs_get_set (s : Segs) (r : SReg) (v : Seg) : (s.set r v).get r = v := by cases r <;> rfl

/-- Loading one segment register leaves the others. -/
theorem segs_get_set_ne (s : Segs) (r q : SReg) (v : Seg) (h : q ≠ r) : (s.set r v).get q = s.get q := by
  cases r <;> cases q <;> first | rfl | exact absurd rfl h

/-- Starting an instruction and giving up without an effect is no change: what a fault without side effects leaves. -/
@[simp] theorem rollback_enter (s : State) : rollback s s.enter = s := rfl

/-- A fault undoes changes of registers made on the way. -/
theorem rollback_of_parts (s t u : State) (hm : t.mem = u.mem) (hi : t.itlb = u.itlb) (hd : t.dtlb = u.dtlb) (hw : t.draws = u.draws)
    (hb : t.bus = u.bus) (hc : t.cr.cr2 = u.cr.cr2) (hp : t.inp = u.inp) (h6 : t.dr.dr6 = u.dr.dr6) : rollback s t = rollback s u := by
  simp [rollback, hm, hi, hd, hw, hb, hc, hp, h6]

end Sys2Proof.Laws

end
end

