-- ==== Sys2Proof/Laws/Ops.lean ====
section
/-! SUPPORT. What the shared operations can do, one lemma each: running an instruction, taking an exception, operands, the stack, the
segment loads outside protected mode, fetching. -/

noncomputable section

namespace Sys2Proof.Laws

open Sys2Proof Sys2Proof.Machine

variable {α β : Type}

/-! ## Running an instruction -/

/-- A computation that ends gives the instruction boundary after it. -/
theorem runInstr_ok {body : M Unit} {s t : State} (h : body s.enter = .ok () t) : runInstr body s = .next (s.complete t) := by
  simp only [runInstr, h]

/-- A computation that raises an exception, no task switch committed, has it delivered from the restored start state (R26, R1203). -/
theorem runInstr_exc {body : M Unit} {s t : State} {e : Exc} (h : body s.enter = .error (.exc e) t) (hc : t.cur.committed = false) :
    runInstr body s = deliver deliverFuel (faultEvent e s.eip) (rollback s t) := by
  simp [runInstr, h, hc]

/-- An exception after a task switch has committed is delivered in the new task (R1332). -/
theorem runInstr_exc_committed {body : M Unit} {s t : State} {e : Exc} (h : body s.enter = .error (.exc e) t) (hc : t.cur.committed = true) :
    runInstr body s = deliver deliverFuel (faultEvent e t.eip) { t with cur := .empty } := by
  simp [runInstr, h, hc]

/-- A software interrupt is delivered with the return address behind the instruction (R735). -/
theorem runInstr_soft {body : M Unit} {s t : State} {v : Nat} (h : body s.enter = .error (.soft v) t) :
    runInstr body s = deliver deliverFuel
      { kind := .soft, vec := v, code := none, retEip := s.enter.eip, faultEip := s.eip, dbg := none } (rollback s t) := by
  simp only [runInstr, h]

/-- A refusal ends the run. -/
theorem runInstr_refuse {body : M Unit} {s t : State} {r : Refusal} (h : body s.enter = .error (.refuse r) t) :
    runInstr body s = .refused r := by
  simp only [runInstr, h]

/-- A waiting instruction has not happened, and no shadow holds off the interrupt that ends the wait. -/
theorem runInstr_stall {body : M Unit} {s t : State} (h : body s.enter = .error .stall t) :
    runInstr body s = .next { rollback s t with cur := .empty, inhibitSs := false, inhibitSti := false } := by
  simp only [runInstr, h]

/-- An instruction that shuts the processor down. -/
theorem runInstr_shutdown {body : M Unit} {s t : State} (h : body s.enter = .error .shutdown t) : runInstr body s = .next t.shutdown := by
  simp only [runInstr, h]

/-- Delivering an event never stops the machine with a fault. -/
theorem deliver_no_fault (k : Nat) (ev : Event) (s : State) (f : Fault) : deliver k ev s ≠ .fault f := by
  induction k generalizing ev s with
  | zero => simp [deliver]
  | succ k ih =>
    unfold deliver
    split <;> try simp
    split
    · simp
    · exact ih _ _

/-- Running an instruction never stops the machine with a fault. -/
theorem runInstr_no_fault (body : M Unit) (s : State) (f : Fault) : runInstr body s ≠ .fault f := by
  unfold runInstr
  split <;> try simp
  · split <;> exact deliver_no_fault _ _ _ _
  · exact deliver_no_fault _ _ _ _

/-! ## Taking an exception -/

/-- A delivery that succeeds ends at an instruction boundary. -/
theorem deliver_ok {k : Nat} {ev : Event} {s t : State} (h : deliverOnce ev s = .ok () t) : deliver (k + 1) ev s = .next t.delivered := by
  simp only [deliver, h]

/-- A delivery that is refused. -/
theorem deliver_refuse {k : Nat} {ev : Event} {s t : State} {r : Refusal} (h : deliverOnce ev s = .error (.refuse r) t) :
    deliver (k + 1) ev s = .refused r := by
  simp only [deliver, h]

/-- An exception met while delivering #DF shuts the processor down (R1232). -/
theorem deliver_triple {k : Nat} {ev : Event} {s t : State} {e : Exc} (h : deliverOnce ev s = .error (.exc e) t)
    (hc : t.cur.committed = false) (hk : ev.kind = .exc) (hv : ev.vec = 8) : deliver (k + 1) ev s = .next (rollback s t).shutdown := by
  simp [deliver, h, hc, hk, hv]

/-- An exception met while delivering another event follows it, as itself or as a double fault (R1232, Table 14-4). -/
theorem deliver_next {k : Nat} {ev : Event} {s t : State} {e : Exc} (h : deliverOnce ev s = .error (.exc e) t)
    (hc : t.cur.committed = false) (hk : ¬ (ev.kind = .exc ∧ ev.vec = 8)) :
    deliver (k + 1) ev s = deliver k (nextEvent ev e ev.faultEip) (rollback s t) := by
  have : (ev.kind == .exc && ev.vec == 8) = false := by
    by_contra h'
    simp only [Bool.not_eq_false, Bool.and_eq_true, beq_iff_eq] at h'
    exact hk h'
  simp [deliver, h, hc, this]

/-- A chain of serial exceptions that has used up the attempts of a step. -/
@[simp] theorem deliver_zero (ev : Event) (s : State) : deliver 0 ev s = .next s.undelivered := rfl

/-- Delivery in real-address mode, once the vector is inside the table, the three words have been pushed and the vector read (R1260, R1261). -/
theorem deliverReal_ok {ev : Event} {s s1 s2 s3 : State} {ip cs : Half} (hl : 4 * ev.vec + 3 ≤ s.idtr.limit.toNat)
    (h1 : pushList 2 [s.flags.word.toNat, s.segs.cs.sel.toNat, ev.retEip.toNat] s = .ok () s1)
    (h2 : sysRead16 (s.idtr.base + BitVec.ofNat 32 (4 * ev.vec) + 2) s1 = .ok cs s2)
    (h3 : sysRead16 (s.idtr.base + BitVec.ofNat 32 (4 * ev.vec)) s2 = .ok ip s3) :
    deliverReal ev s = .ok () { s3 with
      flags := { s3.flags with ifl := false, tf := false, ac := false, rf := s3.flags.rf && ev.kind != .soft }
      segs := { s3.segs with cs := s3.segs.cs.ofReal cs }, eip := ip.setWidth 32 } := by
  unfold deliverReal
  rw [get_bind, bind_of_ok (t := s) (a := ()) (by rw [require_run, decide_eq_true hl, if_pos rfl])]
  dsimp only
  rw [bind_of_ok h1, bind_of_ok h2, bind_of_ok h3]
  rfl

/-- Inside one page the order of a task-state segment's pages is no question (61_tasks.md R1311). -/
theorem tssAddrs_inside {lin : Word} {n : Nat} (h : n ≤ pageRoom lin) (a : Access) : tssAddrs lin n a = linAddrs lin n a := if_pos h

/-- The same for a read. -/
theorem tssRead_inside {lin : Word} {n : Nat} (h : n ≤ pageRoom lin) : tssRead lin n = sysRead lin n := by
  simp only [tssRead, sysRead, tssAddrs_inside h]

/-- An operand of two parts that runs past the last offset of the address size faults before its second part (20_memory.md R211). -/
theorem readAbove_past {m : MemOp} {k n : Nat} {s : State} (h : 2 ^ s.as.bits < (s.eaOff m).toNat + k + n) :
    readAbove m k n s = .error (.exc (Claims.limitFault (s.eaSeg m))) s := by
  have hd : decide ((s.eaOff m).toNat + k + n ≤ 2 ^ s.as.bits) = false := decide_eq_false (by omega)
  unfold readAbove
  rw [get_bind]
  refine bind_of_error ?_
  rw [require_run, hd, if_neg (by decide)]
  unfold segFault Claims.limitFault
  by_cases h : s.eaSeg m = .ss <;> simp only [h, if_true, if_false] <;> rfl

/-- While the processor is halted and no interrupt is open, nothing happens (00_scope.md R11, 10_state.md R130). -/
theorem interrupts_halted {s : State} (h : s.run = .halted) (hw : s.wakes = false) : s.interrupts = some (.next s) := by
  simp [State.interrupts, h, hw]

/-- A vector outside the table in real-address mode is a double fault (R1260). -/
theorem deliverReal_limit {ev : Event} {s : State} (hl : s.idtr.limit.toNat < 4 * ev.vec + 3) :
    deliverReal ev s = .error (.exc { vec := 8, code := none, dbg := none }) s := by
  unfold deliverReal
  rw [get_bind]
  refine bind_of_error ?_
  rw [require_run, decide_eq_false (by omega)]
  rfl

/-- An attempt to deliver an event, in SMM after LIDT: it begins, then the mode decides, and EXT goes into the error code of what is raised
(00_scope.md R2, 60_exceptions.md R1211, 63_smm.md R1455). -/
theorem deliverOnce_run {ev : Event} {s : State} (hi : s.inSmm = true → s.smm.idtLoaded = true) :
    deliverOnce ev s = withExt (ev.kind != .soft) (if s.pe then deliverProtected ev else deliverReal ev) (Claims.begun ev s) := by
  have h : (s.inSmm && !s.smm.idtLoaded) = false := by cases h : s.inSmm <;> simp_all
  unfold deliverOnce Claims.begun
  rw [get_bind, h]
  simp only [Bool.false_eq_true, if_false]
  by_cases h1 : ev.vec = 1 <;> cases ev.kind <;> simp [h1]

/-- What `withExt` makes of an exception (R1211, R1220). -/
theorem withExt_exc {ev : Event} {m : M Unit} {s t : State} {e : Exc} (h : m s = .error (.exc e) t) :
    withExt (ev.kind != .soft) m s = .error (.exc (Claims.extFault ev e)) t := by
  unfold withExt Claims.extFault
  rw [h]
  cases ev.kind <;> by_cases h1 : 10 ≤ e.vec <;> by_cases h2 : e.vec ≤ 13 <;> simp [h1, h2]

/-! ## Operands -/

/-- A register operand needs no check. -/
@[simp] theorem locate_reg (w : Nat) (r : Reg) (k : Kind) (s : State) : locate w (.reg r) k s = .ok (.reg r) s := rfl

/-- Locating a memory operand is checking its access. -/
theorem locate_mem {w : Nat} {m : MemOp} {k : Kind} {s t : State} {p : Place} :
    locate w (.mem m) k s = .ok p t ↔ ∃ ps, access s.as (s.eaSeg m) (s.eaOff m) (w / 8) (w / 8) k s = .ok ps t ∧ p = .mem ps := by
  unfold locate memAccess
  rw [bind_eq_ok]
  simp only [get_bind]
  constructor
  · rintro ⟨ps, u, h, h'⟩
    cases h'
    exact ⟨ps, h, rfl⟩
  · rintro ⟨ps, h, rfl⟩
    exact ⟨ps, t, h, rfl⟩

/-- The value in a register. -/
@[simp] theorem place_get_reg (r : Reg) (w : Nat) (s : State) : (Place.reg r).get w s = .ok (s.regs.read w r) s := rfl

/-- Reading a place never stops and changes nothing but the number of draws and the bus log. -/
theorem place_get_effect (p : Place) (w : Nat) (s : State) : ∃ v n l, p.get w s = .ok v { s with draws := n, bus := l } := by
  cases p with
  | reg r => exact ⟨_, s.draws, s.bus, rfl⟩
  | mem ps =>
    obtain ⟨v, n, l, h, -⟩ := load_effect ps s
    exact ⟨BitVec.ofNat w v, n, l, by rw [Place.get, bind_of_ok h]; rfl⟩

/-- Writing a register operand. -/
@[simp] theorem place_put_reg (r : Reg) (w : Nat) (v : BitVec w) (s : State) :
    (Place.reg r).put w v s = .ok () { s with regs := s.regs.write w r v } := rfl

/-- Writing a place never stops. -/
theorem place_put_effect (p : Place) (w : Nat) (v : BitVec w) (s : State) : ∃ t, p.put w v s = .ok () t ∧
    (Memory.wf s.mem = true → Memory.wf t.mem = true) := by
  cases p with
  | reg r => exact ⟨_, rfl, id⟩
  | mem ps =>
    obtain ⟨t, h, -, hw⟩ := store_effect ps v.toNat s
    exact ⟨t, h, hw⟩

/-- A read-modify-write, part by part (R500). -/
theorem modifyRM_ok {w : Nat} {rm : RM} {f : BitVec w → M (BitVec w)} {s s1 s2 s3 : State} {p : Place} {d r : BitVec w}
    (h1 : locate w rm .rw s = .ok p s1) (h2 : p.get w s1 = .ok d s2) (h3 : f d s2 = .ok r s3) : modifyRM w rm f s = p.put w r s3 := by
  rw [modifyRM, bind_of_ok h1, bind_of_ok h2, bind_of_ok h3]

/-- A read of an r/m operand (R500). -/
theorem readRM_ok {w : Nat} {rm : RM} {s s1 : State} {p : Place} (h : locate w rm .r s = .ok p s1) : readRM w rm s = p.get w s1 := by
  rw [readRM, bind_of_ok h]

/-- A write of an r/m operand (R500). -/
theorem writeRM_ok {w : Nat} {rm : RM} {v : BitVec w} {s s1 : State} {p : Place} (h : locate w rm .w s = .ok p s1) :
    writeRM w rm v s = p.put w v s1 := by
  rw [writeRM, bind_of_ok h]

/-- A computation at the operand size. -/
@[simp] theorem atOs_run (f : Nat → M Unit) (s : State) : atOs f s = f s.os.bits s := rfl

/-- Privileged: passed at level 0, else #GP(0), and nothing changes (R340). -/
theorem privileged_run (s : State) : privileged s = if s.level = 0 then .ok () s else .error (.exc Claims.gp0) s := by
  unfold privileged
  rw [get_bind, require_run]
  simp only [beq_iff_eq]
  rfl

/-- Protected mode only: passed there, else #UD. -/
theorem protOnly_run (s : State) : protOnly s = if s.prot = true then .ok () s else .error (.exc Claims.ud6) s := by
  unfold protOnly
  rw [get_bind, require_run]
  rfl

/-! ## The debug trap of a boundary -/

/-- Where no trap recurs, the trap that is due is the one the last instruction left (R1232). -/
theorem trapDue_of_none {s : State} (h : s.recurs = []) : s.trapDue = s.pendingDb := by
  simp [State.trapDue, h]

/-- A trap that met another exception is due where it came (R1232). -/
theorem trapDue_of_back {s : State} {h : HeldTrap} (hp : s.pendingDb = none) (hr : s.recurs = [h]) (hb : s.isBack h = true) :
    s.trapDue = some h.cause := by
  simp [State.trapDue, hp, hr, hb]

/-- Elsewhere it is not. -/
theorem trapDue_of_away {s : State} {h : HeldTrap} (hr : s.recurs = [h]) (hb : s.isBack h = false) : s.trapDue = s.pendingDb := by
  simp [State.trapDue, hr, hb]

/-- A trap held over a load of SS comes after the next instruction, with what that one adds (R1489, R1491). -/
theorem trapAfter_held {s t : State} {p : DbgCause} (h : s.pendingDb = some p) : ∃ c : DbgCause, s.trapAfter t = some (c.also p) ∧
    c = { b := (if t.cur.defer then 0 else t.cur.hits) ||| s.lateHits, bd := false, bs := s.flags.tf, bt := t.cur.bt
          armed := (t.cur.trap && !t.cur.defer) || s.lateTrap } := by
  refine ⟨_, ?_, rfl⟩
  simp [State.trapAfter, h]

/-- Without one, nothing comes unless an enabled breakpoint matched, TF was set or the T bit of a new task is (R1486, R1492, R1485). -/
theorem trapAfter_none {s t : State} (h : s.pendingDb = none) (ha : ((t.cur.trap && !t.cur.defer) || s.lateTrap) = false)
    (hf : s.flags.tf = false) (hb : t.cur.bt = false) : s.trapAfter t = none := by
  simp only [State.trapAfter, h, ha, hf, hb]
  rfl

/-! ## The dump of system management mode -/

/-- A computation that reads: it does not stop, and at most draws and the bus log move. -/
def Reads {α : Type} (m : M α) : Prop := ∀ s, ∃ v n l, m s = .ok v { s with draws := n, bus := l }

theorem Reads.pure {α : Type} (v : α) : Reads (pure v : M α) := fun s => ⟨v, s.draws, s.bus, rfl⟩

theorem Reads.bind {α β : Type} {m : M α} {f : α → M β} (hm : Reads m) (hf : ∀ v, Reads (f v)) : Reads (m >>= f) := fun s => by
  obtain ⟨v, n, l, h⟩ := hm s
  obtain ⟨w, k, b, h'⟩ := hf v { s with draws := n, bus := l }
  exact ⟨w, k, b, by rw [bind_of_ok h, h']⟩

/-- A doubleword of the dump (R1454). -/
theorem dumpWord_reads (base off : Word) : Reads (dumpWord base off) := physRead32_effect _

/-- A word of the dump (R1454). -/
theorem dumpHalf_reads (base off : Word) : Reads (dumpHalf base off) :=
  .bind (fun s => (load_effect _ s).imp fun _ h => h.imp fun _ h => h.imp fun _ h => h.1) fun _ => .pure _

/-- What RSM restores (R1460). -/
theorem readSaved_reads (base : Word) : Reads (readSaved base) := by
  unfold readSaved
  repeat refine .bind (by first | exact dumpWord_reads _ _ | exact dumpHalf_reads _ _) fun _ => ?_
  exact .pure _

/-- RSM goes back to level 0 in real-address mode and to level 3 in virtual-8086 mode (11_state_system.md R170). -/
theorem resumeCpl_mode (s : State) (cs : Half) : (∀ vm, resumeCpl s false vm cs = 0) ∧ resumeCpl s true true cs = 3 := ⟨fun _ => rfl, rfl⟩

/-! ## Segments and the stack -/

/-- The linear address in protected mode, once the checks of R330 pass. -/
theorem segLinear_prot {sz : Size} {sr : SReg} {off : Word} {n : Nat} {k : Kind} {s : State} (hp : s.pe = true)
    (hu : (s.segs.get sr).usable = true) (ht : typeAllows (s.segs.get sr).attr k = true)
    (hl : inReach sz (s.segs.get sr) off.toNat n = true) :
    segLinear sz sr off n k s = .ok ((s.segs.get sr).base + off) s := by
  unfold segLinear
  simp [hp, hu, ht, hl]

/-- The linear address in real-address mode (R1262). -/
theorem segLinear_real {sz : Size} {sr : SReg} {off : Word} {n : Nat} {k : Kind} {s : State} (hp : s.pe = false)
    (hw : noWrap sz off.toNat n = true) (hl : inLimitReal (s.segs.get sr) off.toNat n = true) :
    segLinear sz sr off n k s = .ok ((s.segs.get sr).base + off) s := by
  unfold segLinear
  simp [hp, hw, hl]

/-- (E)SP becomes a value at the stack address size. -/
theorem setSp_run (v : Word) (s : State) : setSp v s = .ok () (Claims.withSp s v) := by
  unfold setSp Claims.withSp
  rw [modify_run]
  congr 1
  cases h : s.ss
  · simp [Size.bits, GRegs.write, GRegs.set, GRegs.get]
  · simp [Size.bits, GRegs.write, GRegs.set]

/-- Pushing: all slots are checked, then all written, then (E)SP moves once (R220, D72). -/
theorem pushList_ok {n : Nat} {vs : List Nat} {s s1 s2 : State} {slots : List (List Word)}
    (h1 : pushSlots s.ss n s.spOff vs.length s = .ok slots s1) (h2 : storeAll slots vs s1 = .ok () s2) :
    pushList n vs s = .ok () (Claims.withSp s2 (wrapSp s.ss (s.spOff - BitVec.ofNat 32 (n * vs.length)))) := by
  unfold pushList
  rw [get_bind, bind_of_ok h1, bind_of_ok h2, setSp_run]

/-- Pushes between the loads of segment registers: everything is checked and found first, then the Accessed bits of the first load, the items
and the Accessed bits of the last load are written in this order, then (E)SP moves once (R220, D72, R1531). -/
theorem pushLoading_ok {n count : Nat} {before after : List Desc} {check : M Unit} {write : List (List Word) → M Unit}
    {slots ps qs : List (List Word)} {s s1 s2 s3 s4 s5 s6 s7 : State} (h1 : pushSlots s.ss n s.spOff count s = .ok slots s1)
    (h2 : check s1 = .ok () s2) (h3 : accessedPlaces before s2 = .ok ps s3) (h4 : accessedPlaces after s3 = .ok qs s4)
    (h5 : markAccessed ps s4 = .ok () s5) (h6 : write slots s5 = .ok () s6) (h7 : markAccessed qs s6 = .ok () s7) :
    pushLoading n count before after check write s =
      .ok () (Claims.withSp s7 (wrapSp s.ss (s.spOff - BitVec.ofNat 32 (n * count)))) := by
  unfold pushLoading
  rw [get_bind, bind_of_ok h1, bind_of_ok h2, bind_of_ok h3, bind_of_ok h4, bind_of_ok h5, bind_of_ok h6, bind_of_ok h7, setSp_run]

/-! ## Descriptors, and what refuses them -/

/-- A null selector is one below 4 (R236). -/
theorem isNull_eq (sel : Half) : isNull sel = decide (sel.toNat < 4) := by
  unfold isNull
  rw [Bool.eq_iff_iff, beq_iff_eq, decide_eq_true_eq, ← BitVec.toNat_inj, BitVec.extractLsb'_toNat]
  have := sel.isLt
  simp [Nat.shiftRight_eq_div_pow]
  omega

/-- The error code of a selector as a number (60_exceptions.md R1220). -/
theorem selCode_eq (sel : Half) : selCode sel = BitVec.ofNat 32 (sel.toNat / 4 * 4) := by
  have h : sel &&& 65532#16 = (sel >>> 2) <<< 2 := by
    apply BitVec.eq_of_getLsbD_eq
    intro i hi
    interval_cases i <;> simp
  have := sel.isLt
  show (sel &&& 65532#16).setWidth 32 = _
  rw [h, ← BitVec.toNat_inj]
  simp [Nat.shiftRight_eq_div_pow, Nat.shiftLeft_eq]
  omega

/-- The RPL as a number. -/
theorem rpl_toNat (sel : Half) : (rpl sel).toNat = sel.toNat % 4 := by
  simp [rpl]

/-- A code segment in the terms of the claims (R239). -/
theorem isCode_iff (d : Desc) : d.isCode = true ↔ Claims.codeType d := by
  simp [Desc.isCode, Desc.s, Attr.isCode, Desc.attr, Desc.typ, bit, Claims.codeType]

/-- A writable data segment in the terms of the claims (R238). -/
theorem writable_iff (d : Desc) : d.writable = true ↔ Claims.stackType d := by
  simp [Desc.writable, Desc.isData, Desc.s, Attr.isCode, Attr.bitR, Desc.attr, Desc.typ, bit, Claims.stackType, and_assoc]

/-- A selector outside its table gets the fault it is read with (R244). -/
theorem readDesc_out {sel : Half} {bad : M Unit} {s : State} {e : Stop} {t : State} (h : inTable s sel = false) (hb : bad s = .error e t) :
    readDesc sel bad s = .error e t := by
  unfold readDesc
  rw [get_bind, h, require_false, bind_of_error hb]

/-- A selector inside its table names the descriptor at its place (R235). -/
theorem readDesc_in {sel : Half} {bad : M Unit} {s : State} (h : inTable s sel = true) : readDesc sel bad s = readDescAt (descLinear s sel) s := by
  unfold readDesc
  rw [get_bind, h, require_true, pure_bind_run]

/-- The parts of the state that looking up a selector depends on. -/
def SameTables (s u : State) : Prop := u.gdtr = s.gdtr ∧ u.ldtr = s.ldtr ∧ u.cpl = s.cpl

/-- Then a selector lies inside its table in both or in neither. -/
theorem SameTables.inTable {s u : State} (h : SameTables s u) (sel : Half) : Machine.inTable u sel = Machine.inTable s sel := by
  simp [Machine.inTable, h.1, h.2.1]
/-- And names the same place. -/
theorem SameTables.descLinear {s u : State} (h : SameTables s u) (sel : Half) : Machine.descLinear u sel = Machine.descLinear s sel := by
  simp [Machine.descLinear, h.1, h.2.1]

/-- A named descriptor is read, whatever fault stands ready. -/
theorem named_read {s u t : State} {sel : Half} {d : Desc} (hs : SameTables s u) (h : Claims.Named s sel u d t) (bad : M Unit) :
    isNull sel = false ∧ readDesc sel bad u = .ok d t := by
  obtain ⟨h1, h2, h3⟩ := h
  refine ⟨by simpa [isNull_eq] using h1, ?_⟩
  rw [readDesc_in (by rw [hs.inTable, h2]), hs.descLinear, h3]

/-- A fault with a selector as its error code, as the model writes it. -/
theorem selFault_eq (v : Nat) (sel : Half) : Claims.selFault v sel = { vec := v, code := some (selCode sel), dbg := none } := by
  rw [selCode_eq]; rfl

/-- A code segment is conforming by bit 10 (R239). -/
theorem conforming_eq {d : Desc} (h : d.isCode = true) : d.conforming = d.hi.getLsbD 10 := by
  simp [Desc.conforming, h, Attr.bitC, Desc.attr, Desc.typ, bit]

/-- A comparison of levels. -/
theorem ult_iff (a b : BitVec 2) : (!a.ult b) = true ↔ b.toNat ≤ a.toNat := by
  simp [BitVec.ult]

/-- What stops a return at its code segment (R325). -/
theorem checkReturn_refused {s u t : State} {sel : Half} {e : Exc} (hs : SameTables s u)
    (h : Claims.CodeRefused (Claims.outwardTo s sel) s sel u e t) : checkReturn sel u = .error (.exc e) t := by
  unfold checkReturn
  rw [get_bind]
  simp only [guard_gp]
  rcases h with ⟨hn, rfl, rfl⟩ | ⟨hn, ho, rfl, rfl⟩ | ⟨d, hd, h⟩
  · rw [isNull_eq, decide_eq_true hn]; rfl
  · have hn' : isNull sel = false := by rw [isNull_eq, decide_eq_false (by omega)]
    simp only [hn', Bool.not_false, if_true]
    rw [bind_of_error (readDesc_out (by rw [hs.inTable, ho]) (gp_run _ _)), selFault_eq]
  · obtain ⟨hn, hr⟩ := named_read hs hd (gp (selCode sel))
    simp only [hn, Bool.not_false, if_true, bind_of_ok hr, guard_gp, guard_np]
    simp only [selFault_eq] at h
    by_cases hc : d.isCode = true
    · have c2 : (!(rpl sel).ult u.cpl) = true ↔ s.cpl.toNat ≤ sel.toNat % 4 := by rw [ult_iff, rpl_toNat, hs.2.2]
      have c3 : (if d.conforming = true then !(rpl sel).ult d.dpl else d.dpl == rpl sel) = true ↔
          if d.hi.getLsbD 10 then d.dpl.toNat ≤ sel.toNat % 4 else d.dpl.toNat = sel.toNat % 4 := by
        rw [conforming_eq hc]
        split
        · rw [ult_iff, rpl_toNat]
        · rw [beq_iff_eq, ← BitVec.toNat_inj, rpl_toNat]
      simp only [(isCode_iff d).1 hc, true_and, Claims.outwardTo, ← c2, ← c3] at h
      simp only [hc, if_true]
      generalize (!(rpl sel).ult u.cpl) = b2 at *
      generalize (if d.conforming = true then !(rpl sel).ult d.dpl else d.dpl == rpl sel) = b3 at *
      have c4 : d.p = d.hi.getLsbD 15 := rfl
      rw [← c4] at h
      generalize d.p = b4 at *
      cases b2 <;> cases b3 <;> cases b4 <;> simp_all
    · rw [isCode_iff] at hc
      rw [if_neg (by rw [isCode_iff]; exact hc)]
      simp [hc] at h
      rw [h]

/-- What stops a return at the outer stack segment (R326). -/
theorem checkOuterStack_refused {s u t : State} {sel : Half} {pl : BitVec 2} {e : Exc} (hs : SameTables s u)
    (h : Claims.StackRefused pl.toNat s sel u e t) : checkOuterStack sel pl u = .error (.exc e) t := by
  unfold checkOuterStack
  simp only [guard_gp]
  rcases h with ⟨hn, rfl, rfl⟩ | ⟨hn, ho, rfl, rfl⟩ | ⟨d, hd, h⟩
  · rw [isNull_eq, decide_eq_true hn]; rfl
  · have hn' : isNull sel = false := by rw [isNull_eq, decide_eq_false (by omega)]
    simp only [hn', Bool.not_false, if_true]
    rw [bind_of_error (readDesc_out (by rw [hs.inTable, ho]) (gp_run _ _)), selFault_eq]
  · obtain ⟨hn, hr⟩ := named_read hs hd (gp (selCode sel))
    simp only [hn, Bool.not_false, if_true, bind_of_ok hr, guard_gp, guard_sf]
    simp only [selFault_eq] at h
    have c1 := writable_iff d
    have c2 : (d.dpl == pl) = true ↔ d.dpl.toNat = pl.toNat := by rw [beq_iff_eq, BitVec.toNat_inj]
    have c3 : (rpl sel == pl) = true ↔ sel.toNat % 4 = pl.toNat := by rw [beq_iff_eq, ← rpl_toNat, BitVec.toNat_inj]
    have c4 : d.p = d.hi.getLsbD 15 := rfl
    simp only [Claims.stackDesc, ← c1, ← c2, ← c3, ← c4] at h
    generalize d.writable = b1 at *
    generalize (d.dpl == pl) = b2 at *
    generalize (rpl sel == pl) = b3 at *
    generalize d.p = b4 at *
    cases b1 <;> cases b2 <;> cases b3 <;> cases b4 <;> simp_all

/-- What stops an inner stack (R316): reading its pointer must leave the tables alone. -/
theorem innerStack_refused {pl : BitVec 2} {u t : State} {e : Exc} (hs : ∀ sel sp v, Claims.PointerRead pl u sel sp v → SameTables u v)
    (h : Claims.InnerRefused pl u e t) : innerStack pl u = .error (.exc e) t := by
  unfold innerStack
  have hn : (if bit u.tr.attr.typ 3 = true then 4 else 2) = Claims.pointerSize u := rfl
  have hoff : (if bit u.tr.attr.typ 3 = true then 4 + 8 * pl.toNat else 2 + 4 * pl.toNat) = Claims.pointerAt u pl := by
    unfold Claims.pointerAt Claims.pointerSize bit; split <;> omega
  simp only [get_bind, hoff, hn, guard_ts]
  rcases h with ⟨hl, rfl, rfl⟩ | ⟨sel, sp, u3, hp, h⟩
  · rw [if_neg (by simp only [decide_eq_true_eq]; omega), selFault_eq]
  · have hsame := hs _ _ _ hp
    obtain ⟨hl, ps, v, w, u1, u2, h1, h2, h3, rfl, rfl⟩ := hp
    rw [if_pos (decide_eq_true hl)]
    rw [bind_of_ok (show tssAddrs _ _ (Access.system false) u = _ from h1), bind_of_ok h2, bind_of_ok h3]
    simp only [guard_ts]
    generalize (BitVec.ofNat 16 w) = sel at *
    simp only [selFault_eq] at h
    rcases h with ⟨hn | ho, rfl, rfl⟩ | ⟨d, hd, h⟩
    · rw [isNull_eq, decide_eq_true hn]; rfl
    · by_cases hn : sel.toNat < 4
      · rw [isNull_eq, decide_eq_true hn]; rfl
      · rw [isNull_eq, decide_eq_false hn]
        simp only [Bool.not_false, if_true]
        rw [bind_of_error (readDesc_out (by rw [hsame.inTable, ho]) (ts_run _ _))]
    · obtain ⟨hn, hr⟩ := named_read hsame hd (ts (selCode sel))
      simp only [hn, Bool.not_false, if_true, bind_of_ok hr, guard_ts, guard_sf]
      have c1 := writable_iff d
      have c2 : (d.dpl == pl) = true ↔ d.dpl = pl := by rw [beq_iff_eq]
      have c3 : (rpl sel == pl) = true ↔ sel.toNat % 4 = pl.toNat := by rw [beq_iff_eq, ← rpl_toNat, BitVec.toNat_inj]
      have c4 : d.p = d.hi.getLsbD 15 := rfl
      simp only [← c1, ← c2, ← c3, ← c4] at h
      generalize d.writable = b1 at *
      generalize (d.dpl == pl) = b2 at *
      generalize (rpl sel == pl) = b3 at *
      generalize d.p = b4 at *
      cases b1 <;> cases b2 <;> cases b3 <;> cases b4 <;> simp_all

/-- Wrapping before a subtraction is lost in the wrapping after it (R220). -/
theorem wrapSp_sub (sz : Size) (a b : Word) : wrapSp sz (wrapSp sz a - b) = wrapSp sz (a - b) := by
  cases sz
  · apply BitVec.eq_of_toNat_eq
    have h (x : Word) : x &&& 0xFFFF = BitVec.ofNat 32 (x.toNat % 65536) := by
      apply BitVec.eq_of_toNat_eq
      rw [BitVec.toNat_and]
      show x.toNat &&& (2^16-1) = _
      rw [Nat.and_two_pow_sub_one_eq_mod]
      simp
      omega
    simp only [wrapSp, h]
    simp
  · rfl

/-- The space check of R316 in the terms of the claims. -/
theorem stackRoom_iff {s : State} (hp : s.pe = true) (n : Nat) (count : Nat) :
    stackRoom s.segs.ss n s.spOff count = true ↔ Claims.roomFor s n count := by
  have key (t : Word) : inReach s.ss s.segs.ss t.toNat n = true ↔ ¬ Claims.segBeyond s s.ss .ss t.toNat n := by
    unfold inReach inLimit Claims.segBeyond noWrap Attr.expandDown Attr.isCode Attr.bitC bit
    simp only [hp, Segs.get]
    rcases Bool.eq_false_or_eq_true s.segs.ss.attr.db with hb | hb <;>
    cases s.ss <;> cases s.segs.ss.attr.typ.getLsbD 3 <;> cases s.segs.ss.attr.typ.getLsbD 2 <;> simp [hb]
  have gen (c : Nat) : ∀ (k : Nat), stackRoom s.segs.ss n (wrapSp s.ss (s.spOff - BitVec.ofNat 32 (n * k))) c = true ↔
      ∀ j, k ≤ j → j < k + c → ¬ Claims.segBeyond s s.ss .ss (wrapSp s.ss (s.spOff - BitVec.ofNat 32 (n * (j + 1)))).toNat n := by
    induction c with
    | zero => intro k; simp [stackRoom]; omega
    | succ c ih =>
      intro k
      have hs : (if s.segs.ss.attr.db then Size.s32 else .s16) = s.ss := rfl
      have hw : wrapSp s.ss (wrapSp s.ss (s.spOff - BitVec.ofNat 32 (n * k)) - BitVec.ofNat 32 n) =
          wrapSp s.ss (s.spOff - BitVec.ofNat 32 (n * (k + 1))) := by
        rw [wrapSp_sub, Nat.mul_add, Nat.mul_one, BitVec.ofNat_add, BitVec.sub_sub]
      simp only [stackRoom, hs, hw, Bool.and_eq_true, key, ih (k + 1)]
      constructor
      · rintro ⟨h1, h2⟩ j hj hj'
        rcases Nat.eq_or_lt_of_le hj with rfl | hlt
        · exact h1
        · exact h2 j hlt (by omega)
      · intro h
        exact ⟨h k (Nat.le_refl _) (by omega), fun j hj hj' => h j (by omega) (by omega)⟩
  have h0 := gen count 0
  have hz : wrapSp s.ss (s.spOff - BitVec.ofNat 32 (n * 0)) = s.spOff := by
    unfold wrapSp State.spOff
    cases s.ss <;> simp [BitVec.and_assoc]
  rw [hz] at h0
  rw [h0]
  simp [Claims.roomFor]

/-! ## The stack -/

/-- Popping: the slot at the top is read, then (E)SP moves (R220). -/
theorem pop_ok {n v : Nat} {s s1 : State} (h : memRead s.ss .ss (wrapSp s.ss s.spOff) n s = .ok v s1) :
    pop n s = .ok v (Claims.withSp s1 (wrapSp s1.ss (s1.spOff + BitVec.ofNat 32 n))) := by
  have h' : peek 0 n s = .ok v s1 := by
    unfold peek
    rw [get_bind]
    simpa using h
  unfold pop
  rw [bind_of_ok h']
  unfold addSp
  rw [bind_of_ok (a := ()) (t := Claims.withSp s1 (wrapSp s1.ss (s1.spOff + BitVec.ofNat 32 n))) (by rw [get_bind, setSp_run])]
  rfl

/-- Storing values into slots never stops, changes memory and the bus at most, and keeps the canonical form. -/
theorem storeAll_effect (pss : List (List Word)) (vs : List Nat) (s : State) : ∃ t, storeAll pss vs s = .ok () t ∧ OnlyMem s t ∧
    (Memory.wf s.mem = true → Memory.wf t.mem = true) := by
  induction pss generalizing vs s with
  | nil => exact ⟨s, by cases vs <;> rfl, .refl s, id⟩
  | cons ps pss ih =>
    cases vs with
    | nil => exact ⟨s, rfl, .refl s, id⟩
    | cons v vs =>
      obtain ⟨u, hu, hm, hw⟩ := store_effect ps v s
      obtain ⟨t, ht, hm', hw'⟩ := ih vs u
      exact ⟨t, by rw [storeAll, bind_of_ok hu, ht], hm.trans hm', hw' ∘ hw⟩

/-- The whole-frame check before a return reads its frame: `#SS(0)`, or nothing happens (R325, R326). -/
theorem stackFrame_run (n : Nat) (s : State) : stackFrame n s =
    if inReach s.ss s.segs.ss s.spOff.toNat n = true then .ok () s else .error (.exc { vec := 12, code := some 0, dbg := none }) s := by
  unfold stackFrame
  rw [get_bind, require_run]
  rfl

/-- Copying from place to place never stops and keeps the canonical form (R750). -/
theorem copyAll_effect (ps : List (List Word × List Word)) (s : State) : ∃ t, copyAll ps s = .ok () t ∧
    (Memory.wf s.mem = true → Memory.wf t.mem = true) := by
  induction ps generalizing s with
  | nil => exact ⟨s, rfl, id⟩
  | cons p ps ih =>
    obtain ⟨src, dst⟩ := p
    obtain ⟨v, n, l, hv, -⟩ := load_effect src s
    obtain ⟨u, hu, -, hw⟩ := store_effect dst v { s with draws := n, bus := l }
    obtain ⟨t, ht, hw'⟩ := ih u
    exact ⟨t, by rw [copyAll, bind_of_ok hv, bind_of_ok hu, ht], hw' ∘ hw⟩

/-- A locked read-modify-write never stops: memory, the bus and the draws change at most, and memory keeps its form. -/
theorem loadStore_effect (ps : List Word) (f : Nat → Nat) (s : State) : ∃ t, (do let v ← load ps; store ps (f v) : M Unit) s = .ok () t ∧
    t = { s with mem := t.mem, bus := t.bus, draws := t.draws } ∧ (Memory.wf s.mem = true → Memory.wf t.mem = true) := by
  obtain ⟨v, n, l, hv, -⟩ := load_effect ps s
  obtain ⟨t, ht, hm, hw⟩ := store_effect ps (f v) { s with draws := n, bus := l }
  exact ⟨t, by rw [bind_of_ok hv, ht], by rw [hm], hw⟩

/-- Setting bits of a doubleword (R241, R1329). -/
theorem setBits_effect (ps : List Word) (m : Word) (s : State) : ∃ t, setBits ps m s = .ok () t ∧
    t = { s with mem := t.mem, bus := t.bus, draws := t.draws } ∧ (Memory.wf s.mem = true → Memory.wf t.mem = true) :=
  loadStore_effect ps _ s

/-- Clearing bits of a doubleword (R1328). -/
theorem clearBits_effect (ps : List Word) (m : Word) (s : State) : ∃ t, clearBits ps m s = .ok () t ∧
    t = { s with mem := t.mem, bus := t.bus, draws := t.draws } ∧ (Memory.wf s.mem = true → Memory.wf t.mem = true) :=
  loadStore_effect ps _ s

/-- Setting the Accessed bits at the places found for them (R241). -/
theorem markAccessed_effect (ps : List (List Word)) (s : State) : ∃ t, markAccessed ps s = .ok () t ∧
    t = { s with mem := t.mem, bus := t.bus, draws := t.draws } ∧ (Memory.wf s.mem = true → Memory.wf t.mem = true) := by
  induction ps generalizing s with
  | nil => exact ⟨s, rfl, rfl, id⟩
  | cons p ps ih =>
    obtain ⟨u, hu, hm, hw⟩ := setBits_effect p 0x100 s
    obtain ⟨t, ht, hm', hw'⟩ := ih u
    exact ⟨t, by rw [markAccessed, bind_of_ok hu, ht], by rw [hm', hm], hw' ∘ hw⟩

/-- Setting the Accessed bits of the descriptors of a load, once their places are found: memory, the bus and the draws change at most, and
memory keeps its form (R241). -/
theorem setAccessedAll_effect {ds : List Desc} {ps : List (List Word)} {s u : State} (h : accessedPlaces ds s = .ok ps u) :
    ∃ t, setAccessedAll ds s = .ok () t ∧ t = { u with mem := t.mem, bus := t.bus, draws := t.draws } ∧
      (Memory.wf u.mem = true → Memory.wf t.mem = true) := by
  rw [setAccessedAll, bind_of_ok h]
  exact markAccessed_effect ps u

/-- Where no place can be found for an Accessed bit, none is set (R241). -/
theorem setAccessedAll_stop {ds : List Desc} {e : Stop} {s u : State} (h : accessedPlaces ds s = .error e u) :
    setAccessedAll ds s = .error e u := by
  rw [setAccessedAll, bind_of_error h]

/-- A segment register loaded in real-address mode (R232). -/
theorem loadSeg_real {sr : SReg} {sel : Half} {s : State} (h : s.pe = false) :
    loadSeg sr sel s = .ok () { s with segs := s.segs.set sr ((s.segs.get sr).ofReal sel) } := by
  unfold loadSeg
  simp [State.v86, h, setSeg]

/-- A segment register loaded in virtual-8086 mode (R1402). -/
theorem loadSeg_v86 {sr : SReg} {sel : Half} {s : State} (h : s.v86 = true) :
    loadSeg sr sel s = .ok () { s with segs := s.segs.set sr (.ofV86 sel) } := by
  unfold loadSeg
  simp [h, setSeg]

/-! ## How a computation can stop -/

/-- Every stop of a computation satisfies `P`. -/
def StopsIn (P : Stop → Prop) (m : M α) : Prop := ∀ s e t, m s = .error e t → P e

/-- The stop is an exception. -/
def isExc (e : Stop) : Prop := ∃ x, e = .exc x

/-- The stop is an exception or a refusal. -/
def isExcOrRefusal (e : Stop) : Prop := (∃ x, e = .exc x) ∨ ∃ r, e = .refuse r

theorem StopsIn.mono {P Q : Stop → Prop} (h : ∀ e, P e → Q e) {m : M α} (hm : StopsIn P m) : StopsIn Q m :=
  fun s e t he => h e (hm s e t he)

theorem StopsIn.bind {P : Stop → Prop} {m : M α} {f : α → M β} (hm : StopsIn P m) (hf : ∀ a, StopsIn P (f a)) : StopsIn P (m >>= f) := by
  intro s e t h
  rcases bind_eq_error.1 h with h | ⟨a, u, -, h⟩
  · exact hm s e t h
  · exact hf a u e t h

theorem StopsIn.ok {P : Stop → Prop} {m : M α} (h : ∀ s, ∃ a t, m s = .ok a t) : StopsIn P m := by
  intro s e t he
  obtain ⟨a, u, h⟩ := h s
  rw [h] at he
  cases he

theorem StopsIn.pure {P : Stop → Prop} (a : α) : StopsIn P (pure a : M α) := .ok fun s => ⟨a, s, rfl⟩
theorem StopsIn.get {P : Stop → Prop} : StopsIn P (get : M State) := .ok fun s => ⟨s, s, rfl⟩
theorem StopsIn.modify {P : Stop → Prop} (f : State → State) : StopsIn P (modify f : M PUnit) := .ok fun s => ⟨⟨⟩, f s, rfl⟩
theorem StopsIn.set {P : Stop → Prop} (u : State) : StopsIn P (set u : M PUnit) := .ok fun _ => ⟨⟨⟩, u, rfl⟩

theorem StopsIn.raise {v : Nat} {c : Option Word} : StopsIn isExc (raise v c : M α) := by
  intro s e t h
  cases h
  exact ⟨_, rfl⟩

theorem StopsIn.require {P : Stop → Prop} {b : Bool} {els : M Unit} (h : StopsIn P els) : StopsIn P (require b els) := by
  cases b
  · exact h
  · exact .pure ()

theorem StopsIn.ite {P : Stop → Prop} {c : Prop} [Decidable c] {m k : M α} (hm : StopsIn P m) (hk : StopsIn P k) :
    StopsIn P (if c then m else k) := by
  split
  · exact hm
  · exact hk

/-- Segment checks only raise exceptions. -/
theorem segLinear_stops (sz : Size) (sr : SReg) (off : Word) (n : Nat) (k : Kind) : StopsIn isExc (segLinear sz sr off n k) := by
  have hf : StopsIn isExc (segFault sr : M Unit) := .ite .raise .raise
  exact .bind .get fun s => .ite
    (.bind (.require .raise) fun _ => .bind (.require .raise) fun _ => .bind (.require hf) fun _ => .pure _)
    (.bind (.require hf) fun _ => .pure _)

/-- A page fault is an exception. -/
theorem pageFault_stops (lin : Word) (a : Access) (p r : Bool) : StopsIn isExc (pageFault lin a p r : M α) :=
  .bind (.modify _) fun _ => .raise

/-- Reading physical memory does not stop. -/
theorem physRead32_stops (P : Stop → Prop) (a : Word) : StopsIn P (physRead32 a) := .ok fun s => by
  obtain ⟨v, n, l, h⟩ := physRead32_effect a s
  exact ⟨_, _, h⟩

/-- Setting bits of a page entry does not stop. -/
theorem setEntryBits_stops (P : Stop → Prop) (a o b : Word) : StopsIn P (setEntryBits a o b) := by
  refine .ite (.pure _) (.bind (.ok fun s => ?_) fun _ => .pure _)
  obtain ⟨t, h, -⟩ := physWrite_effect a 4 (o ||| b).toNat s
  exact ⟨_, _, h⟩

/-- The table walk only raises page faults. -/
theorem walk_stops (lin : Word) (a : Access) : StopsIn isExc (walk lin a) := by
  have hp (p r : Bool) : StopsIn isExc (pageFault lin a p r : M Unit) := pageFault_stops _ _ _ _
  refine .bind .get fun s => .bind (physRead32_stops _ _) fun pde => .bind (.require (hp _ _)) fun _ => .ite ?_ ?_
  · exact .bind (.require (hp _ _)) fun _ => .bind (.require (hp _ _)) fun _ => .bind (setEntryBits_stops _ _ _ _) fun _ =>
      .bind (.modify _) fun _ => .pure _
  · refine .bind (physRead32_stops _ _) fun pte => .bind (.require (hp _ _)) fun _ => .ite ?_ ?_
    · exact .bind (setEntryBits_stops _ _ _ _) fun _ => .bind (setEntryBits_stops _ _ _ _) fun _ => .bind (.modify _) fun _ => .pure _
    · exact .bind (setEntryBits_stops _ _ _ _) fun _ => pageFault_stops _ _ _ _

/-- Comparing a cached translation with memory does not stop. -/
theorem tlbCurrent_stops (P : Stop → Prop) (e : TlbEntry) (lin : Word) (w : Bool) : StopsIn P (tlbCurrent e lin w) :=
  .bind .get fun _ => .bind (.bind .get fun _ => .bind (physRead32_stops _ _) fun _ => .ite (.pure _) (.ite (.pure _)
    (.bind (physRead32_stops _ _) fun _ => .pure _))) fun _ => .bind (.modify _) fun _ => .pure _

/-- Translation only raises page faults. -/
theorem translate_stops (lin : Word) (a : Access) : StopsIn isExc (translate lin a) := by
  refine .bind .get fun s => .ite (.pure _) ?_
  dsimp only
  split
  · exact walk_stops _ _
  · refine .bind (tlbCurrent_stops _ _ _ _) fun _ => .ite (walk_stops _ _) (.bind (.ok fun s => ⟨_, _, drawBool_run s⟩) fun _ => .ite ?_ ?_)
    · exact .bind (.require (pageFault_stops _ _ _ _)) fun _ => .pure _
    · exact walk_stops _ _

theorem StopsIn.refuse {r : Refusal} : StopsIn isExcOrRefusal (refuse r : M α) := by
  intro s e t h
  cases h
  exact .inr ⟨_, rfl⟩

/-- A computation that only raises exceptions, where a refusal may come too. -/
theorem StopsIn.exc {m : M α} (h : StopsIn isExc m) : StopsIn isExcOrRefusal m := h.mono fun _ h => .inl h

theorem StopsIn.raise' {v : Nat} {c : Option Word} : StopsIn isExcOrRefusal (Machine.raise v c : M α) := StopsIn.raise.exc

/-- Fetching a byte raises an exception or, right after PG changed, refuses (D71). -/
theorem fetchByte_stops (n : Nat) : StopsIn isExcOrRefusal (fetchByte n) :=
  .bind .get fun _ => .bind (segLinear_stops _ _ _ _ _).exc fun _ => .bind (.require .refuse) fun _ =>
    .bind (translate_stops _ _).exc fun _ => .ok fun s => by
      obtain ⟨v, k, l, h, -⟩ := physReadByte_run (a := _) s
      exact ⟨_, _, h⟩

/-- Scanning an instruction raises an exception or refuses. -/
theorem scanInstr_stops (k : Nat) (bs : List Byte) : StopsIn isExcOrRefusal (scanInstr k bs) := by
  induction k generalizing bs with
  | zero => exact .raise'
  | succ k ih =>
    refine .bind .get fun s => .bind (fetchByte_stops _) fun b => .bind (.modify _) fun _ => ?_
    dsimp only
    split
    · exact ih _
    · exact .pure _
    · split
      · exact .bind (.modify _) fun _ => ih _
      · exact .bind (.modify _) fun _ => .bind (.modify _) fun _ => .pure _

/-- The decode gate raises an exception or refuses. -/
theorem gate_stops (f : Fetched) : StopsIn isExcOrRefusal (gate f) := by
  refine .bind .get fun s => .ite .refuse ?_
  split
  · exact .raise'
  · exact .refuse
  · exact .refuse
  · refine .ite .raise' ?_
    split
    · exact .pure _
    · exact .ite (.pure _) .refuse

/-- Joining a WAIT never stops. -/
theorem joinWait_stops (P : Stop → Prop) (i : Instr) : StopsIn P (joinWait i) := by
  refine .bind .get fun s => .ite ?_ (.pure _)
  split
  · exact .bind (.set _) fun _ => .pure _
  · exact .pure _

/-- FETCHING AN INSTRUCTION ends with an instruction, an exception or a refusal (R11, R26, R27). -/
theorem fetchInstr_stops {s t : State} {e : Stop} (h : fetchInstr s = .error e t) : isExcOrRefusal e :=
  StopsIn.bind (.modify _) (fun _ => .bind (scanInstr_stops _ _) fun f =>
    .bind (gate_stops f) fun i => joinWait_stops _ i) s e t h

/-- Placing bytes keeps memory canonical. -/
theorem placeBytes_wf (a : Word) (bs : List Byte) (m : List Host.Cell) (h : Memory.wf m = true) : Memory.wf (placeBytes a bs m) = true := by
  induction bs generalizing a m with
  | nil => exact h
  | cons b bs ih => exact ih _ _ (write_wf_word _ _ h)

end Sys2Proof.Laws

end
end

