-- ==== Sys2Proof/Laws/PerInstr.lean ====
section
/-! SUPPORT. Statements about every instruction, one lemma per constructor. The family EncodeLength: an encoding has at least one byte and at most
eleven, so an instruction with one prefix of each group stays within the fifteen bytes of 30_encoding.md R402. -/

noncomputable section

namespace Sys2Proof.Laws

open Sys2Proof

/-- A list of bytes with at least `lo` and at most `hi` of them. -/
def Len (lo hi : Nat) (xs : List Byte) : Prop := lo ≤ xs.length ∧ xs.length ≤ hi

theorem Len.mono {lo lo' hi hi' : Nat} {xs : List Byte} (h : Len lo hi xs) (hl : lo' ≤ lo) (hh : hi ≤ hi') : Len lo' hi' xs :=
  ⟨hl.trans h.1, h.2.trans hh⟩

theorem Len.cat {a b c d : Nat} {xs ys : List Byte} (h : Len a b xs) (k : Len c d ys) : Len (a + c) (b + d) (cat xs ys) := by
  unfold Len Sys2Proof.cat at *
  rw [List.length_append]
  omega

theorem len_one (v : Byte) : Len 1 1 [v] := ⟨le_rfl, le_rfl⟩
theorem len_ob1 (a : Nat) : Len 1 1 (ob1 a) := ⟨le_rfl, le_rfl⟩
theorem len_ob2 (a b : Nat) : Len 2 2 (ob2 a b) := ⟨le_rfl, le_rfl⟩
theorem len_ob3 (a b c : Nat) : Len 3 3 (ob3 a b c) := ⟨le_rfl, le_rfl⟩
theorem len_ob1r (a : Nat) (n : BitVec 3) : Len 1 1 (ob1r a n) := ⟨le_rfl, le_rfl⟩
theorem len_ob2r (a b : Nat) (n : BitVec 3) : Len 2 2 (ob2r a b n) := ⟨le_rfl, le_rfl⟩
theorem len_ob1c (a : Nat) (c : Cond) : Len 1 1 (ob1c a c) := ⟨le_rfl, le_rfl⟩
theorem len_ob2c (a b : Nat) (c : Cond) : Len 2 2 (ob2c a b c) := ⟨le_rfl, le_rfl⟩
theorem len_16 (v : BitVec 16) : Len 2 2 (enc16 v) := ⟨le_rfl, le_rfl⟩
theorem len_sized (sz : Size) (v : Word) : Len 2 4 (encSized sz v) := by
  cases sz <;> exact ⟨by simp [encSized, enc16, enc32], by simp [encSized, enc16, enc32]⟩

/-- A displacement takes at most four bytes (R426). -/
theorem len_disp (d : Disp) : Len 0 4 d.enc := by
  cases d <;> exact ⟨Nat.zero_le _, by simp [Disp.enc, enc16, enc32]⟩

/-- ModR/M, SIB and displacement take at most six bytes (R420 to R426). -/
theorem len_mem (m : MemOp) (n : BitVec 3) : Len 1 6 (m.enc n) := by
  cases m with
  | direct16 d => exact ⟨by simp [MemOp.enc], by simp [MemOp.enc, enc16]⟩
  | direct32 d => exact ⟨by simp [MemOp.enc], by simp [MemOp.enc, enc32]⟩
  | sibNoBase s i d => exact ⟨by simp [MemOp.enc], by simp [MemOp.enc, enc32]⟩
  | base16 b d => exact ⟨by simp [MemOp.enc], by have := (len_disp d).2; simp only [MemOp.enc, List.length_cons]; omega⟩
  | base32 b d => exact ⟨by simp [MemOp.enc], by have := (len_disp d).2; simp only [MemOp.enc, List.length_cons]; omega⟩
  | sib s i b d => exact ⟨by simp [MemOp.enc], by have := (len_disp d).2; simp only [MemOp.enc, List.length_cons]; omega⟩

theorem len_rm (rm : RM) (n : BitVec 3) : Len 1 6 (rm.enc n) := by
  cases rm with
  | reg r => exact ⟨le_rfl, by simp [RM.enc]⟩
  | mem m => exact len_mem m n

/-- An encoding has between one and eleven bytes. -/
def EncodeLength.Statement (i : Instr) : Prop := ∀ os as : Size, Len 1 11 (encode os as i)

theorem EncodeLength.addRm8R8 (rm : RM) (r : Reg) : EncodeLength.Statement (.addRm8R8 rm r) := fun _ _ => ((len_ob1 _).cat (len_rm _ _)).mono (by decide) (by decide)
theorem EncodeLength.addRmR (rm : RM) (r : Reg) : EncodeLength.Statement (.addRmR rm r) := fun _ _ => ((len_ob1 _).cat (len_rm _ _)).mono (by decide) (by decide)
theorem EncodeLength.addR8Rm8 (rm : RM) (r : Reg) : EncodeLength.Statement (.addR8Rm8 rm r) := fun _ _ => ((len_ob1 _).cat (len_rm _ _)).mono (by decide) (by decide)
theorem EncodeLength.addRRm (rm : RM) (r : Reg) : EncodeLength.Statement (.addRRm rm r) := fun _ _ => ((len_ob1 _).cat (len_rm _ _)).mono (by decide) (by decide)
theorem EncodeLength.addAlImm8 (imm : BitVec 8) : EncodeLength.Statement (.addAlImm8 imm) := fun _ _ => ((len_ob1 _).cat (len_one _)).mono (by decide) (by decide)
theorem EncodeLength.addEaxImm (imm : BitVec 32) : EncodeLength.Statement (.addEaxImm imm) := fun _ _ => ((len_ob1 _).cat (len_sized _ _)).mono (by decide) (by decide)
theorem EncodeLength.addRm8Imm8 (rm : RM) (imm : BitVec 8) : EncodeLength.Statement (.addRm8Imm8 rm imm) := fun _ _ => ((len_ob1 _).cat ((len_rm _ _).cat (len_one _))).mono (by decide) (by decide)
theorem EncodeLength.addRmImm (rm : RM) (imm : BitVec 32) : EncodeLength.Statement (.addRmImm rm imm) := fun _ _ => ((len_ob1 _).cat ((len_rm _ _).cat (len_sized _ _))).mono (by decide) (by decide)
theorem EncodeLength.addRmSImm8 (rm : RM) (imm : BitVec 8) : EncodeLength.Statement (.addRmSImm8 rm imm) := fun _ _ => ((len_ob1 _).cat ((len_rm _ _).cat (len_one _))).mono (by decide) (by decide)
theorem EncodeLength.orRm8R8 (rm : RM) (r : Reg) : EncodeLength.Statement (.orRm8R8 rm r) := fun _ _ => ((len_ob1 _).cat (len_rm _ _)).mono (by decide) (by decide)
theorem EncodeLength.orRmR (rm : RM) (r : Reg) : EncodeLength.Statement (.orRmR rm r) := fun _ _ => ((len_ob1 _).cat (len_rm _ _)).mono (by decide) (by decide)
theorem EncodeLength.orR8Rm8 (rm : RM) (r : Reg) : EncodeLength.Statement (.orR8Rm8 rm r) := fun _ _ => ((len_ob1 _).cat (len_rm _ _)).mono (by decide) (by decide)
theorem EncodeLength.orRRm (rm : RM) (r : Reg) : EncodeLength.Statement (.orRRm rm r) := fun _ _ => ((len_ob1 _).cat (len_rm _ _)).mono (by decide) (by decide)
theorem EncodeLength.orAlImm8 (imm : BitVec 8) : EncodeLength.Statement (.orAlImm8 imm) := fun _ _ => ((len_ob1 _).cat (len_one _)).mono (by decide) (by decide)
theorem EncodeLength.orEaxImm (imm : BitVec 32) : EncodeLength.Statement (.orEaxImm imm) := fun _ _ => ((len_ob1 _).cat (len_sized _ _)).mono (by decide) (by decide)
theorem EncodeLength.orRm8Imm8 (rm : RM) (imm : BitVec 8) : EncodeLength.Statement (.orRm8Imm8 rm imm) := fun _ _ => ((len_ob1 _).cat ((len_rm _ _).cat (len_one _))).mono (by decide) (by decide)
theorem EncodeLength.orRmImm (rm : RM) (imm : BitVec 32) : EncodeLength.Statement (.orRmImm rm imm) := fun _ _ => ((len_ob1 _).cat ((len_rm _ _).cat (len_sized _ _))).mono (by decide) (by decide)
theorem EncodeLength.orRmSImm8 (rm : RM) (imm : BitVec 8) : EncodeLength.Statement (.orRmSImm8 rm imm) := fun _ _ => ((len_ob1 _).cat ((len_rm _ _).cat (len_one _))).mono (by decide) (by decide)
theorem EncodeLength.adcRm8R8 (rm : RM) (r : Reg) : EncodeLength.Statement (.adcRm8R8 rm r) := fun _ _ => ((len_ob1 _).cat (len_rm _ _)).mono (by decide) (by decide)
theorem EncodeLength.adcRmR (rm : RM) (r : Reg) : EncodeLength.Statement (.adcRmR rm r) := fun _ _ => ((len_ob1 _).cat (len_rm _ _)).mono (by decide) (by decide)
theorem EncodeLength.adcR8Rm8 (rm : RM) (r : Reg) : EncodeLength.Statement (.adcR8Rm8 rm r) := fun _ _ => ((len_ob1 _).cat (len_rm _ _)).mono (by decide) (by decide)
theorem EncodeLength.adcRRm (rm : RM) (r : Reg) : EncodeLength.Statement (.adcRRm rm r) := fun _ _ => ((len_ob1 _).cat (len_rm _ _)).mono (by decide) (by decide)
theorem EncodeLength.adcAlImm8 (imm : BitVec 8) : EncodeLength.Statement (.adcAlImm8 imm) := fun _ _ => ((len_ob1 _).cat (len_one _)).mono (by decide) (by decide)
theorem EncodeLength.adcEaxImm (imm : BitVec 32) : EncodeLength.Statement (.adcEaxImm imm) := fun _ _ => ((len_ob1 _).cat (len_sized _ _)).mono (by decide) (by decide)
theorem EncodeLength.adcRm8Imm8 (rm : RM) (imm : BitVec 8) : EncodeLength.Statement (.adcRm8Imm8 rm imm) := fun _ _ => ((len_ob1 _).cat ((len_rm _ _).cat (len_one _))).mono (by decide) (by decide)
theorem EncodeLength.adcRmImm (rm : RM) (imm : BitVec 32) : EncodeLength.Statement (.adcRmImm rm imm) := fun _ _ => ((len_ob1 _).cat ((len_rm _ _).cat (len_sized _ _))).mono (by decide) (by decide)
theorem EncodeLength.adcRmSImm8 (rm : RM) (imm : BitVec 8) : EncodeLength.Statement (.adcRmSImm8 rm imm) := fun _ _ => ((len_ob1 _).cat ((len_rm _ _).cat (len_one _))).mono (by decide) (by decide)
theorem EncodeLength.sbbRm8R8 (rm : RM) (r : Reg) : EncodeLength.Statement (.sbbRm8R8 rm r) := fun _ _ => ((len_ob1 _).cat (len_rm _ _)).mono (by decide) (by decide)
theorem EncodeLength.sbbRmR (rm : RM) (r : Reg) : EncodeLength.Statement (.sbbRmR rm r) := fun _ _ => ((len_ob1 _).cat (len_rm _ _)).mono (by decide) (by decide)
theorem EncodeLength.sbbR8Rm8 (rm : RM) (r : Reg) : EncodeLength.Statement (.sbbR8Rm8 rm r) := fun _ _ => ((len_ob1 _).cat (len_rm _ _)).mono (by decide) (by decide)
theorem EncodeLength.sbbRRm (rm : RM) (r : Reg) : EncodeLength.Statement (.sbbRRm rm r) := fun _ _ => ((len_ob1 _).cat (len_rm _ _)).mono (by decide) (by decide)
theorem EncodeLength.sbbAlImm8 (imm : BitVec 8) : EncodeLength.Statement (.sbbAlImm8 imm) := fun _ _ => ((len_ob1 _).cat (len_one _)).mono (by decide) (by decide)
theorem EncodeLength.sbbEaxImm (imm : BitVec 32) : EncodeLength.Statement (.sbbEaxImm imm) := fun _ _ => ((len_ob1 _).cat (len_sized _ _)).mono (by decide) (by decide)
theorem EncodeLength.sbbRm8Imm8 (rm : RM) (imm : BitVec 8) : EncodeLength.Statement (.sbbRm8Imm8 rm imm) := fun _ _ => ((len_ob1 _).cat ((len_rm _ _).cat (len_one _))).mono (by decide) (by decide)
theorem EncodeLength.sbbRmImm (rm : RM) (imm : BitVec 32) : EncodeLength.Statement (.sbbRmImm rm imm) := fun _ _ => ((len_ob1 _).cat ((len_rm _ _).cat (len_sized _ _))).mono (by decide) (by decide)
theorem EncodeLength.sbbRmSImm8 (rm : RM) (imm : BitVec 8) : EncodeLength.Statement (.sbbRmSImm8 rm imm) := fun _ _ => ((len_ob1 _).cat ((len_rm _ _).cat (len_one _))).mono (by decide) (by decide)
theorem EncodeLength.andRm8R8 (rm : RM) (r : Reg) : EncodeLength.Statement (.andRm8R8 rm r) := fun _ _ => ((len_ob1 _).cat (len_rm _ _)).mono (by decide) (by decide)
theorem EncodeLength.andRmR (rm : RM) (r : Reg) : EncodeLength.Statement (.andRmR rm r) := fun _ _ => ((len_ob1 _).cat (len_rm _ _)).mono (by decide) (by decide)
theorem EncodeLength.andR8Rm8 (rm : RM) (r : Reg) : EncodeLength.Statement (.andR8Rm8 rm r) := fun _ _ => ((len_ob1 _).cat (len_rm _ _)).mono (by decide) (by decide)
theorem EncodeLength.andRRm (rm : RM) (r : Reg) : EncodeLength.Statement (.andRRm rm r) := fun _ _ => ((len_ob1 _).cat (len_rm _ _)).mono (by decide) (by decide)
theorem EncodeLength.andAlImm8 (imm : BitVec 8) : EncodeLength.Statement (.andAlImm8 imm) := fun _ _ => ((len_ob1 _).cat (len_one _)).mono (by decide) (by decide)
theorem EncodeLength.andEaxImm (imm : BitVec 32) : EncodeLength.Statement (.andEaxImm imm) := fun _ _ => ((len_ob1 _).cat (len_sized _ _)).mono (by decide) (by decide)
theorem EncodeLength.andRm8Imm8 (rm : RM) (imm : BitVec 8) : EncodeLength.Statement (.andRm8Imm8 rm imm) := fun _ _ => ((len_ob1 _).cat ((len_rm _ _).cat (len_one _))).mono (by decide) (by decide)
theorem EncodeLength.andRmImm (rm : RM) (imm : BitVec 32) : EncodeLength.Statement (.andRmImm rm imm) := fun _ _ => ((len_ob1 _).cat ((len_rm _ _).cat (len_sized _ _))).mono (by decide) (by decide)
theorem EncodeLength.andRmSImm8 (rm : RM) (imm : BitVec 8) : EncodeLength.Statement (.andRmSImm8 rm imm) := fun _ _ => ((len_ob1 _).cat ((len_rm _ _).cat (len_one _))).mono (by decide) (by decide)
theorem EncodeLength.subRm8R8 (rm : RM) (r : Reg) : EncodeLength.Statement (.subRm8R8 rm r) := fun _ _ => ((len_ob1 _).cat (len_rm _ _)).mono (by decide) (by decide)
theorem EncodeLength.subRmR (rm : RM) (r : Reg) : EncodeLength.Statement (.subRmR rm r) := fun _ _ => ((len_ob1 _).cat (len_rm _ _)).mono (by decide) (by decide)
theorem EncodeLength.subR8Rm8 (rm : RM) (r : Reg) : EncodeLength.Statement (.subR8Rm8 rm r) := fun _ _ => ((len_ob1 _).cat (len_rm _ _)).mono (by decide) (by decide)
theorem EncodeLength.subRRm (rm : RM) (r : Reg) : EncodeLength.Statement (.subRRm rm r) := fun _ _ => ((len_ob1 _).cat (len_rm _ _)).mono (by decide) (by decide)
theorem EncodeLength.subAlImm8 (imm : BitVec 8) : EncodeLength.Statement (.subAlImm8 imm) := fun _ _ => ((len_ob1 _).cat (len_one _)).mono (by decide) (by decide)
theorem EncodeLength.subEaxImm (imm : BitVec 32) : EncodeLength.Statement (.subEaxImm imm) := fun _ _ => ((len_ob1 _).cat (len_sized _ _)).mono (by decide) (by decide)
theorem EncodeLength.subRm8Imm8 (rm : RM) (imm : BitVec 8) : EncodeLength.Statement (.subRm8Imm8 rm imm) := fun _ _ => ((len_ob1 _).cat ((len_rm _ _).cat (len_one _))).mono (by decide) (by decide)
theorem EncodeLength.subRmImm (rm : RM) (imm : BitVec 32) : EncodeLength.Statement (.subRmImm rm imm) := fun _ _ => ((len_ob1 _).cat ((len_rm _ _).cat (len_sized _ _))).mono (by decide) (by decide)
theorem EncodeLength.subRmSImm8 (rm : RM) (imm : BitVec 8) : EncodeLength.Statement (.subRmSImm8 rm imm) := fun _ _ => ((len_ob1 _).cat ((len_rm _ _).cat (len_one _))).mono (by decide) (by decide)
theorem EncodeLength.xorRm8R8 (rm : RM) (r : Reg) : EncodeLength.Statement (.xorRm8R8 rm r) := fun _ _ => ((len_ob1 _).cat (len_rm _ _)).mono (by decide) (by decide)
theorem EncodeLength.xorRmR (rm : RM) (r : Reg) : EncodeLength.Statement (.xorRmR rm r) := fun _ _ => ((len_ob1 _).cat (len_rm _ _)).mono (by decide) (by decide)
theorem EncodeLength.xorR8Rm8 (rm : RM) (r : Reg) : EncodeLength.Statement (.xorR8Rm8 rm r) := fun _ _ => ((len_ob1 _).cat (len_rm _ _)).mono (by decide) (by decide)
theorem EncodeLength.xorRRm (rm : RM) (r : Reg) : EncodeLength.Statement (.xorRRm rm r) := fun _ _ => ((len_ob1 _).cat (len_rm _ _)).mono (by decide) (by decide)
theorem EncodeLength.xorAlImm8 (imm : BitVec 8) : EncodeLength.Statement (.xorAlImm8 imm) := fun _ _ => ((len_ob1 _).cat (len_one _)).mono (by decide) (by decide)
theorem EncodeLength.xorEaxImm (imm : BitVec 32) : EncodeLength.Statement (.xorEaxImm imm) := fun _ _ => ((len_ob1 _).cat (len_sized _ _)).mono (by decide) (by decide)
theorem EncodeLength.xorRm8Imm8 (rm : RM) (imm : BitVec 8) : EncodeLength.Statement (.xorRm8Imm8 rm imm) := fun _ _ => ((len_ob1 _).cat ((len_rm _ _).cat (len_one _))).mono (by decide) (by decide)
theorem EncodeLength.xorRmImm (rm : RM) (imm : BitVec 32) : EncodeLength.Statement (.xorRmImm rm imm) := fun _ _ => ((len_ob1 _).cat ((len_rm _ _).cat (len_sized _ _))).mono (by decide) (by decide)
theorem EncodeLength.xorRmSImm8 (rm : RM) (imm : BitVec 8) : EncodeLength.Statement (.xorRmSImm8 rm imm) := fun _ _ => ((len_ob1 _).cat ((len_rm _ _).cat (len_one _))).mono (by decide) (by decide)
theorem EncodeLength.cmpRm8R8 (rm : RM) (r : Reg) : EncodeLength.Statement (.cmpRm8R8 rm r) := fun _ _ => ((len_ob1 _).cat (len_rm _ _)).mono (by decide) (by decide)
theorem EncodeLength.cmpRmR (rm : RM) (r : Reg) : EncodeLength.Statement (.cmpRmR rm r) := fun _ _ => ((len_ob1 _).cat (len_rm _ _)).mono (by decide) (by decide)
theorem EncodeLength.cmpR8Rm8 (rm : RM) (r : Reg) : EncodeLength.Statement (.cmpR8Rm8 rm r) := fun _ _ => ((len_ob1 _).cat (len_rm _ _)).mono (by decide) (by decide)
theorem EncodeLength.cmpRRm (rm : RM) (r : Reg) : EncodeLength.Statement (.cmpRRm rm r) := fun _ _ => ((len_ob1 _).cat (len_rm _ _)).mono (by decide) (by decide)
theorem EncodeLength.cmpAlImm8 (imm : BitVec 8) : EncodeLength.Statement (.cmpAlImm8 imm) := fun _ _ => ((len_ob1 _).cat (len_one _)).mono (by decide) (by decide)
theorem EncodeLength.cmpEaxImm (imm : BitVec 32) : EncodeLength.Statement (.cmpEaxImm imm) := fun _ _ => ((len_ob1 _).cat (len_sized _ _)).mono (by decide) (by decide)
theorem EncodeLength.cmpRm8Imm8 (rm : RM) (imm : BitVec 8) : EncodeLength.Statement (.cmpRm8Imm8 rm imm) := fun _ _ => ((len_ob1 _).cat ((len_rm _ _).cat (len_one _))).mono (by decide) (by decide)
theorem EncodeLength.cmpRmImm (rm : RM) (imm : BitVec 32) : EncodeLength.Statement (.cmpRmImm rm imm) := fun _ _ => ((len_ob1 _).cat ((len_rm _ _).cat (len_sized _ _))).mono (by decide) (by decide)
theorem EncodeLength.cmpRmSImm8 (rm : RM) (imm : BitVec 8) : EncodeLength.Statement (.cmpRmSImm8 rm imm) := fun _ _ => ((len_ob1 _).cat ((len_rm _ _).cat (len_one _))).mono (by decide) (by decide)
theorem EncodeLength.movRm8R8 (rm : RM) (r : Reg) : EncodeLength.Statement (.movRm8R8 rm r) := fun _ _ => ((len_ob1 _).cat (len_rm _ _)).mono (by decide) (by decide)
theorem EncodeLength.movRmR (rm : RM) (r : Reg) : EncodeLength.Statement (.movRmR rm r) := fun _ _ => ((len_ob1 _).cat (len_rm _ _)).mono (by decide) (by decide)
theorem EncodeLength.movR8Rm8 (rm : RM) (r : Reg) : EncodeLength.Statement (.movR8Rm8 rm r) := fun _ _ => ((len_ob1 _).cat (len_rm _ _)).mono (by decide) (by decide)
theorem EncodeLength.movRRm (rm : RM) (r : Reg) : EncodeLength.Statement (.movRRm rm r) := fun _ _ => ((len_ob1 _).cat (len_rm _ _)).mono (by decide) (by decide)
theorem EncodeLength.movRm16Sreg (rm : RM) (sr : SReg) : EncodeLength.Statement (.movRm16Sreg rm sr) := fun _ _ => ((len_ob1 _).cat (len_rm _ _)).mono (by decide) (by decide)
theorem EncodeLength.movSregRm16 (rm : RM) (sr : SReg) : EncodeLength.Statement (.movSregRm16 rm sr) := fun _ _ => ((len_ob1 _).cat (len_rm _ _)).mono (by decide) (by decide)
theorem EncodeLength.movAlMoffs8 (off : BitVec 32) : EncodeLength.Statement (.movAlMoffs8 off) := fun _ _ => ((len_ob1 _).cat (len_sized _ _)).mono (by decide) (by decide)
theorem EncodeLength.movEaxMoffs (off : BitVec 32) : EncodeLength.Statement (.movEaxMoffs off) := fun _ _ => ((len_ob1 _).cat (len_sized _ _)).mono (by decide) (by decide)
theorem EncodeLength.movMoffs8Al (off : BitVec 32) : EncodeLength.Statement (.movMoffs8Al off) := fun _ _ => ((len_ob1 _).cat (len_sized _ _)).mono (by decide) (by decide)
theorem EncodeLength.movMoffsEax (off : BitVec 32) : EncodeLength.Statement (.movMoffsEax off) := fun _ _ => ((len_ob1 _).cat (len_sized _ _)).mono (by decide) (by decide)
theorem EncodeLength.movR8Imm8 (r : Reg) (imm : BitVec 8) : EncodeLength.Statement (.movR8Imm8 r imm) := fun _ _ => ((len_ob1r _ _).cat (len_one _)).mono (by decide) (by decide)
theorem EncodeLength.movRImm (r : Reg) (imm : BitVec 32) : EncodeLength.Statement (.movRImm r imm) := fun _ _ => ((len_ob1r _ _).cat (len_sized _ _)).mono (by decide) (by decide)
theorem EncodeLength.movRm8Imm8 (rm : RM) (imm : BitVec 8) : EncodeLength.Statement (.movRm8Imm8 rm imm) := fun _ _ => ((len_ob1 _).cat ((len_rm _ _).cat (len_one _))).mono (by decide) (by decide)
theorem EncodeLength.movRmImm (rm : RM) (imm : BitVec 32) : EncodeLength.Statement (.movRmImm rm imm) := fun _ _ => ((len_ob1 _).cat ((len_rm _ _).cat (len_sized _ _))).mono (by decide) (by decide)
theorem EncodeLength.xchgRm8R8 (rm : RM) (r : Reg) : EncodeLength.Statement (.xchgRm8R8 rm r) := fun _ _ => ((len_ob1 _).cat (len_rm _ _)).mono (by decide) (by decide)
theorem EncodeLength.xchgRmR (rm : RM) (r : Reg) : EncodeLength.Statement (.xchgRmR rm r) := fun _ _ => ((len_ob1 _).cat (len_rm _ _)).mono (by decide) (by decide)
theorem EncodeLength.xchgEaxR (r : Reg) : EncodeLength.Statement (.xchgEaxR r) := fun _ _ => (len_ob1r _ _).mono (by decide) (by decide)
theorem EncodeLength.nop : EncodeLength.Statement (.nop) := fun _ _ => (len_ob1 _).mono (by decide) (by decide)
theorem EncodeLength.pushR (r : Reg) : EncodeLength.Statement (.pushR r) := fun _ _ => (len_ob1r _ _).mono (by decide) (by decide)
theorem EncodeLength.pushRm (rm : RM) : EncodeLength.Statement (.pushRm rm) := fun _ _ => ((len_ob1 _).cat (len_rm _ _)).mono (by decide) (by decide)
theorem EncodeLength.pushImm (imm : BitVec 32) : EncodeLength.Statement (.pushImm imm) := fun _ _ => ((len_ob1 _).cat (len_sized _ _)).mono (by decide) (by decide)
theorem EncodeLength.pushSImm8 (imm : BitVec 8) : EncodeLength.Statement (.pushSImm8 imm) := fun _ _ => ((len_ob1 _).cat (len_one _)).mono (by decide) (by decide)
theorem EncodeLength.pushEs : EncodeLength.Statement (.pushEs) := fun _ _ => (len_ob1 _).mono (by decide) (by decide)
theorem EncodeLength.pushCs : EncodeLength.Statement (.pushCs) := fun _ _ => (len_ob1 _).mono (by decide) (by decide)
theorem EncodeLength.pushSs : EncodeLength.Statement (.pushSs) := fun _ _ => (len_ob1 _).mono (by decide) (by decide)
theorem EncodeLength.pushDs : EncodeLength.Statement (.pushDs) := fun _ _ => (len_ob1 _).mono (by decide) (by decide)
theorem EncodeLength.pushFs : EncodeLength.Statement (.pushFs) := fun _ _ => (len_ob2 _ _).mono (by decide) (by decide)
theorem EncodeLength.pushGs : EncodeLength.Statement (.pushGs) := fun _ _ => (len_ob2 _ _).mono (by decide) (by decide)
theorem EncodeLength.popR (r : Reg) : EncodeLength.Statement (.popR r) := fun _ _ => (len_ob1r _ _).mono (by decide) (by decide)
theorem EncodeLength.popRm (rm : RM) : EncodeLength.Statement (.popRm rm) := fun _ _ => ((len_ob1 _).cat (len_rm _ _)).mono (by decide) (by decide)
theorem EncodeLength.popEs : EncodeLength.Statement (.popEs) := fun _ _ => (len_ob1 _).mono (by decide) (by decide)
theorem EncodeLength.popSs : EncodeLength.Statement (.popSs) := fun _ _ => (len_ob1 _).mono (by decide) (by decide)
theorem EncodeLength.popDs : EncodeLength.Statement (.popDs) := fun _ _ => (len_ob1 _).mono (by decide) (by decide)
theorem EncodeLength.popFs : EncodeLength.Statement (.popFs) := fun _ _ => (len_ob2 _ _).mono (by decide) (by decide)
theorem EncodeLength.popGs : EncodeLength.Statement (.popGs) := fun _ _ => (len_ob2 _ _).mono (by decide) (by decide)
theorem EncodeLength.pusha : EncodeLength.Statement (.pusha) := fun _ _ => (len_ob1 _).mono (by decide) (by decide)
theorem EncodeLength.popa : EncodeLength.Statement (.popa) := fun _ _ => (len_ob1 _).mono (by decide) (by decide)
theorem EncodeLength.cbw : EncodeLength.Statement (.cbw) := fun _ _ => (len_ob1 _).mono (by decide) (by decide)
theorem EncodeLength.cwd : EncodeLength.Statement (.cwd) := fun _ _ => (len_ob1 _).mono (by decide) (by decide)
theorem EncodeLength.movsxRRm8 (rm : RM) (r : Reg) : EncodeLength.Statement (.movsxRRm8 rm r) := fun _ _ => ((len_ob2 _ _).cat (len_rm _ _)).mono (by decide) (by decide)
theorem EncodeLength.movsxR32Rm16 (rm : RM) (r : Reg) : EncodeLength.Statement (.movsxR32Rm16 rm r) := fun _ _ => ((len_ob2 _ _).cat (len_rm _ _)).mono (by decide) (by decide)
theorem EncodeLength.movzxRRm8 (rm : RM) (r : Reg) : EncodeLength.Statement (.movzxRRm8 rm r) := fun _ _ => ((len_ob2 _ _).cat (len_rm _ _)).mono (by decide) (by decide)
theorem EncodeLength.movzxR32Rm16 (rm : RM) (r : Reg) : EncodeLength.Statement (.movzxR32Rm16 rm r) := fun _ _ => ((len_ob2 _ _).cat (len_rm _ _)).mono (by decide) (by decide)
theorem EncodeLength.bswapR32 (r : Reg) : EncodeLength.Statement (.bswapR32 r) := fun _ _ => (len_ob2r _ _ _).mono (by decide) (by decide)
theorem EncodeLength.xaddRm8R8 (rm : RM) (r : Reg) : EncodeLength.Statement (.xaddRm8R8 rm r) := fun _ _ => ((len_ob2 _ _).cat (len_rm _ _)).mono (by decide) (by decide)
theorem EncodeLength.xaddRmR (rm : RM) (r : Reg) : EncodeLength.Statement (.xaddRmR rm r) := fun _ _ => ((len_ob2 _ _).cat (len_rm _ _)).mono (by decide) (by decide)
theorem EncodeLength.cmpxchgRm8R8 (rm : RM) (r : Reg) : EncodeLength.Statement (.cmpxchgRm8R8 rm r) := fun _ _ => ((len_ob2 _ _).cat (len_rm _ _)).mono (by decide) (by decide)
theorem EncodeLength.cmpxchgRmR (rm : RM) (r : Reg) : EncodeLength.Statement (.cmpxchgRmR rm r) := fun _ _ => ((len_ob2 _ _).cat (len_rm _ _)).mono (by decide) (by decide)
theorem EncodeLength.cmpxchg8bM64 (m : MemOp) : EncodeLength.Statement (.cmpxchg8bM64 m) := fun _ _ => ((len_ob2 _ _).cat (len_mem _ _)).mono (by decide) (by decide)
theorem EncodeLength.ldsRFar (m : MemOp) (r : Reg) : EncodeLength.Statement (.ldsRFar m r) := fun _ _ => ((len_ob1 _).cat (len_mem _ _)).mono (by decide) (by decide)
theorem EncodeLength.lesRFar (m : MemOp) (r : Reg) : EncodeLength.Statement (.lesRFar m r) := fun _ _ => ((len_ob1 _).cat (len_mem _ _)).mono (by decide) (by decide)
theorem EncodeLength.lssRFar (m : MemOp) (r : Reg) : EncodeLength.Statement (.lssRFar m r) := fun _ _ => ((len_ob2 _ _).cat (len_mem _ _)).mono (by decide) (by decide)
theorem EncodeLength.lfsRFar (m : MemOp) (r : Reg) : EncodeLength.Statement (.lfsRFar m r) := fun _ _ => ((len_ob2 _ _).cat (len_mem _ _)).mono (by decide) (by decide)
theorem EncodeLength.lgsRFar (m : MemOp) (r : Reg) : EncodeLength.Statement (.lgsRFar m r) := fun _ _ => ((len_ob2 _ _).cat (len_mem _ _)).mono (by decide) (by decide)
theorem EncodeLength.leaRM (m : MemOp) (r : Reg) : EncodeLength.Statement (.leaRM m r) := fun _ _ => ((len_ob1 _).cat (len_mem _ _)).mono (by decide) (by decide)
theorem EncodeLength.xlat : EncodeLength.Statement (.xlat) := fun _ _ => (len_ob1 _).mono (by decide) (by decide)
theorem EncodeLength.incR (r : Reg) : EncodeLength.Statement (.incR r) := fun _ _ => (len_ob1r _ _).mono (by decide) (by decide)
theorem EncodeLength.incRm8 (rm : RM) : EncodeLength.Statement (.incRm8 rm) := fun _ _ => ((len_ob1 _).cat (len_rm _ _)).mono (by decide) (by decide)
theorem EncodeLength.incRm (rm : RM) : EncodeLength.Statement (.incRm rm) := fun _ _ => ((len_ob1 _).cat (len_rm _ _)).mono (by decide) (by decide)
theorem EncodeLength.decR (r : Reg) : EncodeLength.Statement (.decR r) := fun _ _ => (len_ob1r _ _).mono (by decide) (by decide)
theorem EncodeLength.decRm8 (rm : RM) : EncodeLength.Statement (.decRm8 rm) := fun _ _ => ((len_ob1 _).cat (len_rm _ _)).mono (by decide) (by decide)
theorem EncodeLength.decRm (rm : RM) : EncodeLength.Statement (.decRm rm) := fun _ _ => ((len_ob1 _).cat (len_rm _ _)).mono (by decide) (by decide)
theorem EncodeLength.negRm8 (rm : RM) : EncodeLength.Statement (.negRm8 rm) := fun _ _ => ((len_ob1 _).cat (len_rm _ _)).mono (by decide) (by decide)
theorem EncodeLength.negRm (rm : RM) : EncodeLength.Statement (.negRm rm) := fun _ _ => ((len_ob1 _).cat (len_rm _ _)).mono (by decide) (by decide)
theorem EncodeLength.mulRm8 (rm : RM) : EncodeLength.Statement (.mulRm8 rm) := fun _ _ => ((len_ob1 _).cat (len_rm _ _)).mono (by decide) (by decide)
theorem EncodeLength.mulRm (rm : RM) : EncodeLength.Statement (.mulRm rm) := fun _ _ => ((len_ob1 _).cat (len_rm _ _)).mono (by decide) (by decide)
theorem EncodeLength.imulRm8 (rm : RM) : EncodeLength.Statement (.imulRm8 rm) := fun _ _ => ((len_ob1 _).cat (len_rm _ _)).mono (by decide) (by decide)
theorem EncodeLength.imulRm (rm : RM) : EncodeLength.Statement (.imulRm rm) := fun _ _ => ((len_ob1 _).cat (len_rm _ _)).mono (by decide) (by decide)
theorem EncodeLength.imulRRm (rm : RM) (r : Reg) : EncodeLength.Statement (.imulRRm rm r) := fun _ _ => ((len_ob2 _ _).cat (len_rm _ _)).mono (by decide) (by decide)
theorem EncodeLength.imulRRmImm (rm : RM) (r : Reg) (imm : BitVec 32) : EncodeLength.Statement (.imulRRmImm rm r imm) := fun _ _ => ((len_ob1 _).cat ((len_rm _ _).cat (len_sized _ _))).mono (by decide) (by decide)
theorem EncodeLength.imulRRmSImm8 (rm : RM) (r : Reg) (imm : BitVec 8) : EncodeLength.Statement (.imulRRmSImm8 rm r imm) := fun _ _ => ((len_ob1 _).cat ((len_rm _ _).cat (len_one _))).mono (by decide) (by decide)
theorem EncodeLength.divRm8 (rm : RM) : EncodeLength.Statement (.divRm8 rm) := fun _ _ => ((len_ob1 _).cat (len_rm _ _)).mono (by decide) (by decide)
theorem EncodeLength.divRm (rm : RM) : EncodeLength.Statement (.divRm rm) := fun _ _ => ((len_ob1 _).cat (len_rm _ _)).mono (by decide) (by decide)
theorem EncodeLength.idivRm8 (rm : RM) : EncodeLength.Statement (.idivRm8 rm) := fun _ _ => ((len_ob1 _).cat (len_rm _ _)).mono (by decide) (by decide)
theorem EncodeLength.idivRm (rm : RM) : EncodeLength.Statement (.idivRm rm) := fun _ _ => ((len_ob1 _).cat (len_rm _ _)).mono (by decide) (by decide)
theorem EncodeLength.daa : EncodeLength.Statement (.daa) := fun _ _ => (len_ob1 _).mono (by decide) (by decide)
theorem EncodeLength.das : EncodeLength.Statement (.das) := fun _ _ => (len_ob1 _).mono (by decide) (by decide)
theorem EncodeLength.aaa : EncodeLength.Statement (.aaa) := fun _ _ => (len_ob1 _).mono (by decide) (by decide)
theorem EncodeLength.aas : EncodeLength.Statement (.aas) := fun _ _ => (len_ob1 _).mono (by decide) (by decide)
theorem EncodeLength.aamImm8 (imm : BitVec 8) : EncodeLength.Statement (.aamImm8 imm) := fun _ _ => ((len_ob1 _).cat (len_one _)).mono (by decide) (by decide)
theorem EncodeLength.aadImm8 (imm : BitVec 8) : EncodeLength.Statement (.aadImm8 imm) := fun _ _ => ((len_ob1 _).cat (len_one _)).mono (by decide) (by decide)
theorem EncodeLength.notRm8 (rm : RM) : EncodeLength.Statement (.notRm8 rm) := fun _ _ => ((len_ob1 _).cat (len_rm _ _)).mono (by decide) (by decide)
theorem EncodeLength.notRm (rm : RM) : EncodeLength.Statement (.notRm rm) := fun _ _ => ((len_ob1 _).cat (len_rm _ _)).mono (by decide) (by decide)
theorem EncodeLength.testRm8R8 (rm : RM) (r : Reg) : EncodeLength.Statement (.testRm8R8 rm r) := fun _ _ => ((len_ob1 _).cat (len_rm _ _)).mono (by decide) (by decide)
theorem EncodeLength.testRmR (rm : RM) (r : Reg) : EncodeLength.Statement (.testRmR rm r) := fun _ _ => ((len_ob1 _).cat (len_rm _ _)).mono (by decide) (by decide)
theorem EncodeLength.testAlImm8 (imm : BitVec 8) : EncodeLength.Statement (.testAlImm8 imm) := fun _ _ => ((len_ob1 _).cat (len_one _)).mono (by decide) (by decide)
theorem EncodeLength.testEaxImm (imm : BitVec 32) : EncodeLength.Statement (.testEaxImm imm) := fun _ _ => ((len_ob1 _).cat (len_sized _ _)).mono (by decide) (by decide)
theorem EncodeLength.testRm8Imm8 (rm : RM) (imm : BitVec 8) : EncodeLength.Statement (.testRm8Imm8 rm imm) := fun _ _ => ((len_ob1 _).cat ((len_rm _ _).cat (len_one _))).mono (by decide) (by decide)
theorem EncodeLength.testRmImm (rm : RM) (imm : BitVec 32) : EncodeLength.Statement (.testRmImm rm imm) := fun _ _ => ((len_ob1 _).cat ((len_rm _ _).cat (len_sized _ _))).mono (by decide) (by decide)
theorem EncodeLength.rolRm8One (rm : RM) : EncodeLength.Statement (.rolRm8One rm) := fun _ _ => ((len_ob1 _).cat (len_rm _ _)).mono (by decide) (by decide)
theorem EncodeLength.rolRmOne (rm : RM) : EncodeLength.Statement (.rolRmOne rm) := fun _ _ => ((len_ob1 _).cat (len_rm _ _)).mono (by decide) (by decide)
theorem EncodeLength.rolRm8Cl (rm : RM) : EncodeLength.Statement (.rolRm8Cl rm) := fun _ _ => ((len_ob1 _).cat (len_rm _ _)).mono (by decide) (by decide)
theorem EncodeLength.rolRmCl (rm : RM) : EncodeLength.Statement (.rolRmCl rm) := fun _ _ => ((len_ob1 _).cat (len_rm _ _)).mono (by decide) (by decide)
theorem EncodeLength.rolRm8Imm8 (rm : RM) (imm : BitVec 8) : EncodeLength.Statement (.rolRm8Imm8 rm imm) := fun _ _ => ((len_ob1 _).cat ((len_rm _ _).cat (len_one _))).mono (by decide) (by decide)
theorem EncodeLength.rolRmImm8 (rm : RM) (imm : BitVec 8) : EncodeLength.Statement (.rolRmImm8 rm imm) := fun _ _ => ((len_ob1 _).cat ((len_rm _ _).cat (len_one _))).mono (by decide) (by decide)
theorem EncodeLength.rorRm8One (rm : RM) : EncodeLength.Statement (.rorRm8One rm) := fun _ _ => ((len_ob1 _).cat (len_rm _ _)).mono (by decide) (by decide)
theorem EncodeLength.rorRmOne (rm : RM) : EncodeLength.Statement (.rorRmOne rm) := fun _ _ => ((len_ob1 _).cat (len_rm _ _)).mono (by decide) (by decide)
theorem EncodeLength.rorRm8Cl (rm : RM) : EncodeLength.Statement (.rorRm8Cl rm) := fun _ _ => ((len_ob1 _).cat (len_rm _ _)).mono (by decide) (by decide)
theorem EncodeLength.rorRmCl (rm : RM) : EncodeLength.Statement (.rorRmCl rm) := fun _ _ => ((len_ob1 _).cat (len_rm _ _)).mono (by decide) (by decide)
theorem EncodeLength.rorRm8Imm8 (rm : RM) (imm : BitVec 8) : EncodeLength.Statement (.rorRm8Imm8 rm imm) := fun _ _ => ((len_ob1 _).cat ((len_rm _ _).cat (len_one _))).mono (by decide) (by decide)
theorem EncodeLength.rorRmImm8 (rm : RM) (imm : BitVec 8) : EncodeLength.Statement (.rorRmImm8 rm imm) := fun _ _ => ((len_ob1 _).cat ((len_rm _ _).cat (len_one _))).mono (by decide) (by decide)
theorem EncodeLength.rclRm8One (rm : RM) : EncodeLength.Statement (.rclRm8One rm) := fun _ _ => ((len_ob1 _).cat (len_rm _ _)).mono (by decide) (by decide)
theorem EncodeLength.rclRmOne (rm : RM) : EncodeLength.Statement (.rclRmOne rm) := fun _ _ => ((len_ob1 _).cat (len_rm _ _)).mono (by decide) (by decide)
theorem EncodeLength.rclRm8Cl (rm : RM) : EncodeLength.Statement (.rclRm8Cl rm) := fun _ _ => ((len_ob1 _).cat (len_rm _ _)).mono (by decide) (by decide)
theorem EncodeLength.rclRmCl (rm : RM) : EncodeLength.Statement (.rclRmCl rm) := fun _ _ => ((len_ob1 _).cat (len_rm _ _)).mono (by decide) (by decide)
theorem EncodeLength.rclRm8Imm8 (rm : RM) (imm : BitVec 8) : EncodeLength.Statement (.rclRm8Imm8 rm imm) := fun _ _ => ((len_ob1 _).cat ((len_rm _ _).cat (len_one _))).mono (by decide) (by decide)
theorem EncodeLength.rclRmImm8 (rm : RM) (imm : BitVec 8) : EncodeLength.Statement (.rclRmImm8 rm imm) := fun _ _ => ((len_ob1 _).cat ((len_rm _ _).cat (len_one _))).mono (by decide) (by decide)
theorem EncodeLength.rcrRm8One (rm : RM) : EncodeLength.Statement (.rcrRm8One rm) := fun _ _ => ((len_ob1 _).cat (len_rm _ _)).mono (by decide) (by decide)
theorem EncodeLength.rcrRmOne (rm : RM) : EncodeLength.Statement (.rcrRmOne rm) := fun _ _ => ((len_ob1 _).cat (len_rm _ _)).mono (by decide) (by decide)
theorem EncodeLength.rcrRm8Cl (rm : RM) : EncodeLength.Statement (.rcrRm8Cl rm) := fun _ _ => ((len_ob1 _).cat (len_rm _ _)).mono (by decide) (by decide)
theorem EncodeLength.rcrRmCl (rm : RM) : EncodeLength.Statement (.rcrRmCl rm) := fun _ _ => ((len_ob1 _).cat (len_rm _ _)).mono (by decide) (by decide)
theorem EncodeLength.rcrRm8Imm8 (rm : RM) (imm : BitVec 8) : EncodeLength.Statement (.rcrRm8Imm8 rm imm) := fun _ _ => ((len_ob1 _).cat ((len_rm _ _).cat (len_one _))).mono (by decide) (by decide)
theorem EncodeLength.rcrRmImm8 (rm : RM) (imm : BitVec 8) : EncodeLength.Statement (.rcrRmImm8 rm imm) := fun _ _ => ((len_ob1 _).cat ((len_rm _ _).cat (len_one _))).mono (by decide) (by decide)
theorem EncodeLength.shlRm8One (rm : RM) : EncodeLength.Statement (.shlRm8One rm) := fun _ _ => ((len_ob1 _).cat (len_rm _ _)).mono (by decide) (by decide)
theorem EncodeLength.shlRmOne (rm : RM) : EncodeLength.Statement (.shlRmOne rm) := fun _ _ => ((len_ob1 _).cat (len_rm _ _)).mono (by decide) (by decide)
theorem EncodeLength.shlRm8Cl (rm : RM) : EncodeLength.Statement (.shlRm8Cl rm) := fun _ _ => ((len_ob1 _).cat (len_rm _ _)).mono (by decide) (by decide)
theorem EncodeLength.shlRmCl (rm : RM) : EncodeLength.Statement (.shlRmCl rm) := fun _ _ => ((len_ob1 _).cat (len_rm _ _)).mono (by decide) (by decide)
theorem EncodeLength.shlRm8Imm8 (rm : RM) (imm : BitVec 8) : EncodeLength.Statement (.shlRm8Imm8 rm imm) := fun _ _ => ((len_ob1 _).cat ((len_rm _ _).cat (len_one _))).mono (by decide) (by decide)
theorem EncodeLength.shlRmImm8 (rm : RM) (imm : BitVec 8) : EncodeLength.Statement (.shlRmImm8 rm imm) := fun _ _ => ((len_ob1 _).cat ((len_rm _ _).cat (len_one _))).mono (by decide) (by decide)
theorem EncodeLength.shrRm8One (rm : RM) : EncodeLength.Statement (.shrRm8One rm) := fun _ _ => ((len_ob1 _).cat (len_rm _ _)).mono (by decide) (by decide)
theorem EncodeLength.shrRmOne (rm : RM) : EncodeLength.Statement (.shrRmOne rm) := fun _ _ => ((len_ob1 _).cat (len_rm _ _)).mono (by decide) (by decide)
theorem EncodeLength.shrRm8Cl (rm : RM) : EncodeLength.Statement (.shrRm8Cl rm) := fun _ _ => ((len_ob1 _).cat (len_rm _ _)).mono (by decide) (by decide)
theorem EncodeLength.shrRmCl (rm : RM) : EncodeLength.Statement (.shrRmCl rm) := fun _ _ => ((len_ob1 _).cat (len_rm _ _)).mono (by decide) (by decide)
theorem EncodeLength.shrRm8Imm8 (rm : RM) (imm : BitVec 8) : EncodeLength.Statement (.shrRm8Imm8 rm imm) := fun _ _ => ((len_ob1 _).cat ((len_rm _ _).cat (len_one _))).mono (by decide) (by decide)
theorem EncodeLength.shrRmImm8 (rm : RM) (imm : BitVec 8) : EncodeLength.Statement (.shrRmImm8 rm imm) := fun _ _ => ((len_ob1 _).cat ((len_rm _ _).cat (len_one _))).mono (by decide) (by decide)
theorem EncodeLength.sarRm8One (rm : RM) : EncodeLength.Statement (.sarRm8One rm) := fun _ _ => ((len_ob1 _).cat (len_rm _ _)).mono (by decide) (by decide)
theorem EncodeLength.sarRmOne (rm : RM) : EncodeLength.Statement (.sarRmOne rm) := fun _ _ => ((len_ob1 _).cat (len_rm _ _)).mono (by decide) (by decide)
theorem EncodeLength.sarRm8Cl (rm : RM) : EncodeLength.Statement (.sarRm8Cl rm) := fun _ _ => ((len_ob1 _).cat (len_rm _ _)).mono (by decide) (by decide)
theorem EncodeLength.sarRmCl (rm : RM) : EncodeLength.Statement (.sarRmCl rm) := fun _ _ => ((len_ob1 _).cat (len_rm _ _)).mono (by decide) (by decide)
theorem EncodeLength.sarRm8Imm8 (rm : RM) (imm : BitVec 8) : EncodeLength.Statement (.sarRm8Imm8 rm imm) := fun _ _ => ((len_ob1 _).cat ((len_rm _ _).cat (len_one _))).mono (by decide) (by decide)
theorem EncodeLength.sarRmImm8 (rm : RM) (imm : BitVec 8) : EncodeLength.Statement (.sarRmImm8 rm imm) := fun _ _ => ((len_ob1 _).cat ((len_rm _ _).cat (len_one _))).mono (by decide) (by decide)
theorem EncodeLength.shldRmRImm8 (rm : RM) (r : Reg) (imm : BitVec 8) : EncodeLength.Statement (.shldRmRImm8 rm r imm) := fun _ _ => ((len_ob2 _ _).cat ((len_rm _ _).cat (len_one _))).mono (by decide) (by decide)
theorem EncodeLength.shldRmRCl (rm : RM) (r : Reg) : EncodeLength.Statement (.shldRmRCl rm r) := fun _ _ => ((len_ob2 _ _).cat (len_rm _ _)).mono (by decide) (by decide)
theorem EncodeLength.shrdRmRImm8 (rm : RM) (r : Reg) (imm : BitVec 8) : EncodeLength.Statement (.shrdRmRImm8 rm r imm) := fun _ _ => ((len_ob2 _ _).cat ((len_rm _ _).cat (len_one _))).mono (by decide) (by decide)
theorem EncodeLength.shrdRmRCl (rm : RM) (r : Reg) : EncodeLength.Statement (.shrdRmRCl rm r) := fun _ _ => ((len_ob2 _ _).cat (len_rm _ _)).mono (by decide) (by decide)
theorem EncodeLength.btRmR (rm : RM) (r : Reg) : EncodeLength.Statement (.btRmR rm r) := fun _ _ => ((len_ob2 _ _).cat (len_rm _ _)).mono (by decide) (by decide)
theorem EncodeLength.btRmImm8 (rm : RM) (imm : BitVec 8) : EncodeLength.Statement (.btRmImm8 rm imm) := fun _ _ => ((len_ob2 _ _).cat ((len_rm _ _).cat (len_one _))).mono (by decide) (by decide)
theorem EncodeLength.btsRmR (rm : RM) (r : Reg) : EncodeLength.Statement (.btsRmR rm r) := fun _ _ => ((len_ob2 _ _).cat (len_rm _ _)).mono (by decide) (by decide)
theorem EncodeLength.btsRmImm8 (rm : RM) (imm : BitVec 8) : EncodeLength.Statement (.btsRmImm8 rm imm) := fun _ _ => ((len_ob2 _ _).cat ((len_rm _ _).cat (len_one _))).mono (by decide) (by decide)
theorem EncodeLength.btrRmR (rm : RM) (r : Reg) : EncodeLength.Statement (.btrRmR rm r) := fun _ _ => ((len_ob2 _ _).cat (len_rm _ _)).mono (by decide) (by decide)
theorem EncodeLength.btrRmImm8 (rm : RM) (imm : BitVec 8) : EncodeLength.Statement (.btrRmImm8 rm imm) := fun _ _ => ((len_ob2 _ _).cat ((len_rm _ _).cat (len_one _))).mono (by decide) (by decide)
theorem EncodeLength.btcRmR (rm : RM) (r : Reg) : EncodeLength.Statement (.btcRmR rm r) := fun _ _ => ((len_ob2 _ _).cat (len_rm _ _)).mono (by decide) (by decide)
theorem EncodeLength.btcRmImm8 (rm : RM) (imm : BitVec 8) : EncodeLength.Statement (.btcRmImm8 rm imm) := fun _ _ => ((len_ob2 _ _).cat ((len_rm _ _).cat (len_one _))).mono (by decide) (by decide)
theorem EncodeLength.bsfRRm (rm : RM) (r : Reg) : EncodeLength.Statement (.bsfRRm rm r) := fun _ _ => ((len_ob2 _ _).cat (len_rm _ _)).mono (by decide) (by decide)
theorem EncodeLength.bsrRRm (rm : RM) (r : Reg) : EncodeLength.Statement (.bsrRRm rm r) := fun _ _ => ((len_ob2 _ _).cat (len_rm _ _)).mono (by decide) (by decide)
theorem EncodeLength.setccRm8 (cc : Cond) (rm : RM) : EncodeLength.Statement (.setccRm8 cc rm) := fun _ _ => ((len_ob2c _ _ _).cat (len_rm _ _)).mono (by decide) (by decide)
theorem EncodeLength.jmpRel8 (rel : BitVec 8) : EncodeLength.Statement (.jmpRel8 rel) := fun _ _ => ((len_ob1 _).cat (len_one _)).mono (by decide) (by decide)
theorem EncodeLength.jmpRel (rel : BitVec 32) : EncodeLength.Statement (.jmpRel rel) := fun _ _ => ((len_ob1 _).cat (len_sized _ _)).mono (by decide) (by decide)
theorem EncodeLength.jmpRm (rm : RM) : EncodeLength.Statement (.jmpRm rm) := fun _ _ => ((len_ob1 _).cat (len_rm _ _)).mono (by decide) (by decide)
theorem EncodeLength.jmpPtr (off : BitVec 32) (sel : BitVec 16) : EncodeLength.Statement (.jmpPtr off sel) := fun _ _ => ((len_ob1 _).cat ((len_sized _ _).cat (len_16 _))).mono (by decide) (by decide)
theorem EncodeLength.jmpFar (m : MemOp) : EncodeLength.Statement (.jmpFar m) := fun _ _ => ((len_ob1 _).cat (len_mem _ _)).mono (by decide) (by decide)
theorem EncodeLength.callRel (rel : BitVec 32) : EncodeLength.Statement (.callRel rel) := fun _ _ => ((len_ob1 _).cat (len_sized _ _)).mono (by decide) (by decide)
theorem EncodeLength.callRm (rm : RM) : EncodeLength.Statement (.callRm rm) := fun _ _ => ((len_ob1 _).cat (len_rm _ _)).mono (by decide) (by decide)
theorem EncodeLength.callPtr (off : BitVec 32) (sel : BitVec 16) : EncodeLength.Statement (.callPtr off sel) := fun _ _ => ((len_ob1 _).cat ((len_sized _ _).cat (len_16 _))).mono (by decide) (by decide)
theorem EncodeLength.callFar (m : MemOp) : EncodeLength.Statement (.callFar m) := fun _ _ => ((len_ob1 _).cat (len_mem _ _)).mono (by decide) (by decide)
theorem EncodeLength.ret : EncodeLength.Statement (.ret) := fun _ _ => (len_ob1 _).mono (by decide) (by decide)
theorem EncodeLength.retImm16 (imm : BitVec 16) : EncodeLength.Statement (.retImm16 imm) := fun _ _ => ((len_ob1 _).cat (len_16 _)).mono (by decide) (by decide)
theorem EncodeLength.retf : EncodeLength.Statement (.retf) := fun _ _ => (len_ob1 _).mono (by decide) (by decide)
theorem EncodeLength.retfImm16 (imm : BitVec 16) : EncodeLength.Statement (.retfImm16 imm) := fun _ _ => ((len_ob1 _).cat (len_16 _)).mono (by decide) (by decide)
theorem EncodeLength.jccRel8 (cc : Cond) (rel : BitVec 8) : EncodeLength.Statement (.jccRel8 cc rel) := fun _ _ => ((len_ob1c _ _).cat (len_one _)).mono (by decide) (by decide)
theorem EncodeLength.jccRel (cc : Cond) (rel : BitVec 32) : EncodeLength.Statement (.jccRel cc rel) := fun _ _ => ((len_ob2c _ _ _).cat (len_sized _ _)).mono (by decide) (by decide)
theorem EncodeLength.jcxzRel8 (rel : BitVec 8) : EncodeLength.Statement (.jcxzRel8 rel) := fun _ _ => ((len_ob1 _).cat (len_one _)).mono (by decide) (by decide)
theorem EncodeLength.loopRel8 (rel : BitVec 8) : EncodeLength.Statement (.loopRel8 rel) := fun _ _ => ((len_ob1 _).cat (len_one _)).mono (by decide) (by decide)
theorem EncodeLength.loopeRel8 (rel : BitVec 8) : EncodeLength.Statement (.loopeRel8 rel) := fun _ _ => ((len_ob1 _).cat (len_one _)).mono (by decide) (by decide)
theorem EncodeLength.loopneRel8 (rel : BitVec 8) : EncodeLength.Statement (.loopneRel8 rel) := fun _ _ => ((len_ob1 _).cat (len_one _)).mono (by decide) (by decide)
theorem EncodeLength.iret : EncodeLength.Statement (.iret) := fun _ _ => (len_ob1 _).mono (by decide) (by decide)
theorem EncodeLength.intImm8 (imm : BitVec 8) : EncodeLength.Statement (.intImm8 imm) := fun _ _ => ((len_ob1 _).cat (len_one _)).mono (by decide) (by decide)
theorem EncodeLength.int3 : EncodeLength.Statement (.int3) := fun _ _ => (len_ob1 _).mono (by decide) (by decide)
theorem EncodeLength.into : EncodeLength.Statement (.into) := fun _ _ => (len_ob1 _).mono (by decide) (by decide)
theorem EncodeLength.boundRM (m : MemOp) (r : Reg) : EncodeLength.Statement (.boundRM m r) := fun _ _ => ((len_ob1 _).cat (len_mem _ _)).mono (by decide) (by decide)
theorem EncodeLength.enterImm16Imm8 (imm : BitVec 16) (lvl : BitVec 8) : EncodeLength.Statement (.enterImm16Imm8 imm lvl) := fun _ _ => ((len_ob1 _).cat ((len_16 _).cat (len_one _))).mono (by decide) (by decide)
theorem EncodeLength.leave : EncodeLength.Statement (.leave) := fun _ _ => (len_ob1 _).mono (by decide) (by decide)
theorem EncodeLength.movsb : EncodeLength.Statement (.movsb) := fun _ _ => (len_ob1 _).mono (by decide) (by decide)
theorem EncodeLength.movsw : EncodeLength.Statement (.movsw) := fun _ _ => (len_ob1 _).mono (by decide) (by decide)
theorem EncodeLength.cmpsb : EncodeLength.Statement (.cmpsb) := fun _ _ => (len_ob1 _).mono (by decide) (by decide)
theorem EncodeLength.cmpsw : EncodeLength.Statement (.cmpsw) := fun _ _ => (len_ob1 _).mono (by decide) (by decide)
theorem EncodeLength.stosb : EncodeLength.Statement (.stosb) := fun _ _ => (len_ob1 _).mono (by decide) (by decide)
theorem EncodeLength.stosw : EncodeLength.Statement (.stosw) := fun _ _ => (len_ob1 _).mono (by decide) (by decide)
theorem EncodeLength.lodsb : EncodeLength.Statement (.lodsb) := fun _ _ => (len_ob1 _).mono (by decide) (by decide)
theorem EncodeLength.lodsw : EncodeLength.Statement (.lodsw) := fun _ _ => (len_ob1 _).mono (by decide) (by decide)
theorem EncodeLength.scasb : EncodeLength.Statement (.scasb) := fun _ _ => (len_ob1 _).mono (by decide) (by decide)
theorem EncodeLength.scasw : EncodeLength.Statement (.scasw) := fun _ _ => (len_ob1 _).mono (by decide) (by decide)
theorem EncodeLength.insb : EncodeLength.Statement (.insb) := fun _ _ => (len_ob1 _).mono (by decide) (by decide)
theorem EncodeLength.insw : EncodeLength.Statement (.insw) := fun _ _ => (len_ob1 _).mono (by decide) (by decide)
theorem EncodeLength.outsb : EncodeLength.Statement (.outsb) := fun _ _ => (len_ob1 _).mono (by decide) (by decide)
theorem EncodeLength.outsw : EncodeLength.Statement (.outsw) := fun _ _ => (len_ob1 _).mono (by decide) (by decide)
theorem EncodeLength.stc : EncodeLength.Statement (.stc) := fun _ _ => (len_ob1 _).mono (by decide) (by decide)
theorem EncodeLength.clc : EncodeLength.Statement (.clc) := fun _ _ => (len_ob1 _).mono (by decide) (by decide)
theorem EncodeLength.cmc : EncodeLength.Statement (.cmc) := fun _ _ => (len_ob1 _).mono (by decide) (by decide)
theorem EncodeLength.cld : EncodeLength.Statement (.cld) := fun _ _ => (len_ob1 _).mono (by decide) (by decide)
theorem EncodeLength.std : EncodeLength.Statement (.std) := fun _ _ => (len_ob1 _).mono (by decide) (by decide)
theorem EncodeLength.cli : EncodeLength.Statement (.cli) := fun _ _ => (len_ob1 _).mono (by decide) (by decide)
theorem EncodeLength.sti : EncodeLength.Statement (.sti) := fun _ _ => (len_ob1 _).mono (by decide) (by decide)
theorem EncodeLength.lahf : EncodeLength.Statement (.lahf) := fun _ _ => (len_ob1 _).mono (by decide) (by decide)
theorem EncodeLength.sahf : EncodeLength.Statement (.sahf) := fun _ _ => (len_ob1 _).mono (by decide) (by decide)
theorem EncodeLength.pushf : EncodeLength.Statement (.pushf) := fun _ _ => (len_ob1 _).mono (by decide) (by decide)
theorem EncodeLength.popf : EncodeLength.Statement (.popf) := fun _ _ => (len_ob1 _).mono (by decide) (by decide)
theorem EncodeLength.cpuid : EncodeLength.Statement (.cpuid) := fun _ _ => (len_ob2 _ _).mono (by decide) (by decide)
theorem EncodeLength.sldtRm16 (rm : RM) : EncodeLength.Statement (.sldtRm16 rm) := fun _ _ => ((len_ob2 _ _).cat (len_rm _ _)).mono (by decide) (by decide)
theorem EncodeLength.strRm16 (rm : RM) : EncodeLength.Statement (.strRm16 rm) := fun _ _ => ((len_ob2 _ _).cat (len_rm _ _)).mono (by decide) (by decide)
theorem EncodeLength.lldtRm16 (rm : RM) : EncodeLength.Statement (.lldtRm16 rm) := fun _ _ => ((len_ob2 _ _).cat (len_rm _ _)).mono (by decide) (by decide)
theorem EncodeLength.ltrRm16 (rm : RM) : EncodeLength.Statement (.ltrRm16 rm) := fun _ _ => ((len_ob2 _ _).cat (len_rm _ _)).mono (by decide) (by decide)
theorem EncodeLength.verrRm16 (rm : RM) : EncodeLength.Statement (.verrRm16 rm) := fun _ _ => ((len_ob2 _ _).cat (len_rm _ _)).mono (by decide) (by decide)
theorem EncodeLength.verwRm16 (rm : RM) : EncodeLength.Statement (.verwRm16 rm) := fun _ _ => ((len_ob2 _ _).cat (len_rm _ _)).mono (by decide) (by decide)
theorem EncodeLength.sgdtM (m : MemOp) : EncodeLength.Statement (.sgdtM m) := fun _ _ => ((len_ob2 _ _).cat (len_mem _ _)).mono (by decide) (by decide)
theorem EncodeLength.sidtM (m : MemOp) : EncodeLength.Statement (.sidtM m) := fun _ _ => ((len_ob2 _ _).cat (len_mem _ _)).mono (by decide) (by decide)
theorem EncodeLength.lgdtM (m : MemOp) : EncodeLength.Statement (.lgdtM m) := fun _ _ => ((len_ob2 _ _).cat (len_mem _ _)).mono (by decide) (by decide)
theorem EncodeLength.lidtM (m : MemOp) : EncodeLength.Statement (.lidtM m) := fun _ _ => ((len_ob2 _ _).cat (len_mem _ _)).mono (by decide) (by decide)
theorem EncodeLength.smswRm16 (rm : RM) : EncodeLength.Statement (.smswRm16 rm) := fun _ _ => ((len_ob2 _ _).cat (len_rm _ _)).mono (by decide) (by decide)
theorem EncodeLength.lmswRm16 (rm : RM) : EncodeLength.Statement (.lmswRm16 rm) := fun _ _ => ((len_ob2 _ _).cat (len_rm _ _)).mono (by decide) (by decide)
theorem EncodeLength.invlpgM (m : MemOp) : EncodeLength.Statement (.invlpgM m) := fun _ _ => ((len_ob2 _ _).cat (len_mem _ _)).mono (by decide) (by decide)
theorem EncodeLength.larRRm16 (rm : RM) (r : Reg) : EncodeLength.Statement (.larRRm16 rm r) := fun _ _ => ((len_ob2 _ _).cat (len_rm _ _)).mono (by decide) (by decide)
theorem EncodeLength.lslRRm16 (rm : RM) (r : Reg) : EncodeLength.Statement (.lslRRm16 rm r) := fun _ _ => ((len_ob2 _ _).cat (len_rm _ _)).mono (by decide) (by decide)
theorem EncodeLength.clts : EncodeLength.Statement (.clts) := fun _ _ => (len_ob2 _ _).mono (by decide) (by decide)
theorem EncodeLength.invd : EncodeLength.Statement (.invd) := fun _ _ => (len_ob2 _ _).mono (by decide) (by decide)
theorem EncodeLength.wbinvd : EncodeLength.Statement (.wbinvd) := fun _ _ => (len_ob2 _ _).mono (by decide) (by decide)
theorem EncodeLength.movR32Cr (n : BitVec 3) (r : Reg) : EncodeLength.Statement (.movR32Cr n r) := fun _ _ => ((len_ob2 _ _).cat (len_one _)).mono (by decide) (by decide)
theorem EncodeLength.movCrR32 (n : BitVec 3) (r : Reg) : EncodeLength.Statement (.movCrR32 n r) := fun _ _ => ((len_ob2 _ _).cat (len_one _)).mono (by decide) (by decide)
theorem EncodeLength.movR32Dr (n : BitVec 3) (r : Reg) : EncodeLength.Statement (.movR32Dr n r) := fun _ _ => ((len_ob2 _ _).cat (len_one _)).mono (by decide) (by decide)
theorem EncodeLength.movDrR32 (n : BitVec 3) (r : Reg) : EncodeLength.Statement (.movDrR32 n r) := fun _ _ => ((len_ob2 _ _).cat (len_one _)).mono (by decide) (by decide)
theorem EncodeLength.movR32Tr (n : BitVec 3) (r : Reg) : EncodeLength.Statement (.movR32Tr n r) := fun _ _ => ((len_ob2 _ _).cat (len_one _)).mono (by decide) (by decide)
theorem EncodeLength.movTrR32 (n : BitVec 3) (r : Reg) : EncodeLength.Statement (.movTrR32 n r) := fun _ _ => ((len_ob2 _ _).cat (len_one _)).mono (by decide) (by decide)
theorem EncodeLength.wrmsr : EncodeLength.Statement (.wrmsr) := fun _ _ => (len_ob2 _ _).mono (by decide) (by decide)
theorem EncodeLength.rdtsc : EncodeLength.Statement (.rdtsc) := fun _ _ => (len_ob2 _ _).mono (by decide) (by decide)
theorem EncodeLength.rdmsr : EncodeLength.Statement (.rdmsr) := fun _ _ => (len_ob2 _ _).mono (by decide) (by decide)
theorem EncodeLength.rsm : EncodeLength.Statement (.rsm) := fun _ _ => (len_ob2 _ _).mono (by decide) (by decide)
theorem EncodeLength.hlt : EncodeLength.Statement (.hlt) := fun _ _ => (len_ob1 _).mono (by decide) (by decide)
theorem EncodeLength.arplRm16R16 (rm : RM) (r : Reg) : EncodeLength.Statement (.arplRm16R16 rm r) := fun _ _ => ((len_ob1 _).cat (len_rm _ _)).mono (by decide) (by decide)
theorem EncodeLength.inAlImm8 (imm : BitVec 8) : EncodeLength.Statement (.inAlImm8 imm) := fun _ _ => ((len_ob1 _).cat (len_one _)).mono (by decide) (by decide)
theorem EncodeLength.inEaxImm8 (imm : BitVec 8) : EncodeLength.Statement (.inEaxImm8 imm) := fun _ _ => ((len_ob1 _).cat (len_one _)).mono (by decide) (by decide)
theorem EncodeLength.inAlDx : EncodeLength.Statement (.inAlDx) := fun _ _ => (len_ob1 _).mono (by decide) (by decide)
theorem EncodeLength.inEaxDx : EncodeLength.Statement (.inEaxDx) := fun _ _ => (len_ob1 _).mono (by decide) (by decide)
theorem EncodeLength.outImm8Al (imm : BitVec 8) : EncodeLength.Statement (.outImm8Al imm) := fun _ _ => ((len_ob1 _).cat (len_one _)).mono (by decide) (by decide)
theorem EncodeLength.outImm8Eax (imm : BitVec 8) : EncodeLength.Statement (.outImm8Eax imm) := fun _ _ => ((len_ob1 _).cat (len_one _)).mono (by decide) (by decide)
theorem EncodeLength.outDxAl : EncodeLength.Statement (.outDxAl) := fun _ _ => (len_ob1 _).mono (by decide) (by decide)
theorem EncodeLength.outDxEax : EncodeLength.Statement (.outDxEax) := fun _ _ => (len_ob1 _).mono (by decide) (by decide)
theorem EncodeLength.wait : EncodeLength.Statement (.wait) := fun _ _ => (len_ob1 _).mono (by decide) (by decide)
theorem EncodeLength.fldM32 (m : MemOp) : EncodeLength.Statement (.fldM32 m) := fun _ _ => ((len_ob1 _).cat (len_mem _ _)).mono (by decide) (by decide)
theorem EncodeLength.fldM64 (m : MemOp) : EncodeLength.Statement (.fldM64 m) := fun _ _ => ((len_ob1 _).cat (len_mem _ _)).mono (by decide) (by decide)
theorem EncodeLength.fldM80 (m : MemOp) : EncodeLength.Statement (.fldM80 m) := fun _ _ => ((len_ob1 _).cat (len_mem _ _)).mono (by decide) (by decide)
theorem EncodeLength.fldSti (i : BitVec 3) : EncodeLength.Statement (.fldSti i) := fun _ _ => (len_ob2r _ _ _).mono (by decide) (by decide)
theorem EncodeLength.fstM32 (m : MemOp) : EncodeLength.Statement (.fstM32 m) := fun _ _ => ((len_ob1 _).cat (len_mem _ _)).mono (by decide) (by decide)
theorem EncodeLength.fstM64 (m : MemOp) : EncodeLength.Statement (.fstM64 m) := fun _ _ => ((len_ob1 _).cat (len_mem _ _)).mono (by decide) (by decide)
theorem EncodeLength.fstSti (i : BitVec 3) : EncodeLength.Statement (.fstSti i) := fun _ _ => (len_ob2r _ _ _).mono (by decide) (by decide)
theorem EncodeLength.fstpM32 (m : MemOp) : EncodeLength.Statement (.fstpM32 m) := fun _ _ => ((len_ob1 _).cat (len_mem _ _)).mono (by decide) (by decide)
theorem EncodeLength.fstpM64 (m : MemOp) : EncodeLength.Statement (.fstpM64 m) := fun _ _ => ((len_ob1 _).cat (len_mem _ _)).mono (by decide) (by decide)
theorem EncodeLength.fstpM80 (m : MemOp) : EncodeLength.Statement (.fstpM80 m) := fun _ _ => ((len_ob1 _).cat (len_mem _ _)).mono (by decide) (by decide)
theorem EncodeLength.fstpSti (i : BitVec 3) : EncodeLength.Statement (.fstpSti i) := fun _ _ => (len_ob2r _ _ _).mono (by decide) (by decide)
theorem EncodeLength.fxchSti (i : BitVec 3) : EncodeLength.Statement (.fxchSti i) := fun _ _ => (len_ob2r _ _ _).mono (by decide) (by decide)
theorem EncodeLength.fildM16 (m : MemOp) : EncodeLength.Statement (.fildM16 m) := fun _ _ => ((len_ob1 _).cat (len_mem _ _)).mono (by decide) (by decide)
theorem EncodeLength.fildM32 (m : MemOp) : EncodeLength.Statement (.fildM32 m) := fun _ _ => ((len_ob1 _).cat (len_mem _ _)).mono (by decide) (by decide)
theorem EncodeLength.fildM64 (m : MemOp) : EncodeLength.Statement (.fildM64 m) := fun _ _ => ((len_ob1 _).cat (len_mem _ _)).mono (by decide) (by decide)
theorem EncodeLength.fistM16 (m : MemOp) : EncodeLength.Statement (.fistM16 m) := fun _ _ => ((len_ob1 _).cat (len_mem _ _)).mono (by decide) (by decide)
theorem EncodeLength.fistM32 (m : MemOp) : EncodeLength.Statement (.fistM32 m) := fun _ _ => ((len_ob1 _).cat (len_mem _ _)).mono (by decide) (by decide)
theorem EncodeLength.fistpM16 (m : MemOp) : EncodeLength.Statement (.fistpM16 m) := fun _ _ => ((len_ob1 _).cat (len_mem _ _)).mono (by decide) (by decide)
theorem EncodeLength.fistpM32 (m : MemOp) : EncodeLength.Statement (.fistpM32 m) := fun _ _ => ((len_ob1 _).cat (len_mem _ _)).mono (by decide) (by decide)
theorem EncodeLength.fistpM64 (m : MemOp) : EncodeLength.Statement (.fistpM64 m) := fun _ _ => ((len_ob1 _).cat (len_mem _ _)).mono (by decide) (by decide)
theorem EncodeLength.fbldM80 (m : MemOp) : EncodeLength.Statement (.fbldM80 m) := fun _ _ => ((len_ob1 _).cat (len_mem _ _)).mono (by decide) (by decide)
theorem EncodeLength.fbstpM80 (m : MemOp) : EncodeLength.Statement (.fbstpM80 m) := fun _ _ => ((len_ob1 _).cat (len_mem _ _)).mono (by decide) (by decide)
theorem EncodeLength.faddM32 (m : MemOp) : EncodeLength.Statement (.faddM32 m) := fun _ _ => ((len_ob1 _).cat (len_mem _ _)).mono (by decide) (by decide)
theorem EncodeLength.faddM64 (m : MemOp) : EncodeLength.Statement (.faddM64 m) := fun _ _ => ((len_ob1 _).cat (len_mem _ _)).mono (by decide) (by decide)
theorem EncodeLength.faddStSti (i : BitVec 3) : EncodeLength.Statement (.faddStSti i) := fun _ _ => (len_ob2r _ _ _).mono (by decide) (by decide)
theorem EncodeLength.faddStiSt (i : BitVec 3) : EncodeLength.Statement (.faddStiSt i) := fun _ _ => (len_ob2r _ _ _).mono (by decide) (by decide)
theorem EncodeLength.faddpStiSt (i : BitVec 3) : EncodeLength.Statement (.faddpStiSt i) := fun _ _ => (len_ob2r _ _ _).mono (by decide) (by decide)
theorem EncodeLength.fiaddM32 (m : MemOp) : EncodeLength.Statement (.fiaddM32 m) := fun _ _ => ((len_ob1 _).cat (len_mem _ _)).mono (by decide) (by decide)
theorem EncodeLength.fiaddM16 (m : MemOp) : EncodeLength.Statement (.fiaddM16 m) := fun _ _ => ((len_ob1 _).cat (len_mem _ _)).mono (by decide) (by decide)
theorem EncodeLength.fmulM32 (m : MemOp) : EncodeLength.Statement (.fmulM32 m) := fun _ _ => ((len_ob1 _).cat (len_mem _ _)).mono (by decide) (by decide)
theorem EncodeLength.fmulM64 (m : MemOp) : EncodeLength.Statement (.fmulM64 m) := fun _ _ => ((len_ob1 _).cat (len_mem _ _)).mono (by decide) (by decide)
theorem EncodeLength.fmulStSti (i : BitVec 3) : EncodeLength.Statement (.fmulStSti i) := fun _ _ => (len_ob2r _ _ _).mono (by decide) (by decide)
theorem EncodeLength.fmulStiSt (i : BitVec 3) : EncodeLength.Statement (.fmulStiSt i) := fun _ _ => (len_ob2r _ _ _).mono (by decide) (by decide)
theorem EncodeLength.fmulpStiSt (i : BitVec 3) : EncodeLength.Statement (.fmulpStiSt i) := fun _ _ => (len_ob2r _ _ _).mono (by decide) (by decide)
theorem EncodeLength.fimulM32 (m : MemOp) : EncodeLength.Statement (.fimulM32 m) := fun _ _ => ((len_ob1 _).cat (len_mem _ _)).mono (by decide) (by decide)
theorem EncodeLength.fimulM16 (m : MemOp) : EncodeLength.Statement (.fimulM16 m) := fun _ _ => ((len_ob1 _).cat (len_mem _ _)).mono (by decide) (by decide)
theorem EncodeLength.fsubM32 (m : MemOp) : EncodeLength.Statement (.fsubM32 m) := fun _ _ => ((len_ob1 _).cat (len_mem _ _)).mono (by decide) (by decide)
theorem EncodeLength.fsubM64 (m : MemOp) : EncodeLength.Statement (.fsubM64 m) := fun _ _ => ((len_ob1 _).cat (len_mem _ _)).mono (by decide) (by decide)
theorem EncodeLength.fsubStSti (i : BitVec 3) : EncodeLength.Statement (.fsubStSti i) := fun _ _ => (len_ob2r _ _ _).mono (by decide) (by decide)
theorem EncodeLength.fsubStiSt (i : BitVec 3) : EncodeLength.Statement (.fsubStiSt i) := fun _ _ => (len_ob2r _ _ _).mono (by decide) (by decide)
theorem EncodeLength.fsubpStiSt (i : BitVec 3) : EncodeLength.Statement (.fsubpStiSt i) := fun _ _ => (len_ob2r _ _ _).mono (by decide) (by decide)
theorem EncodeLength.fisubM32 (m : MemOp) : EncodeLength.Statement (.fisubM32 m) := fun _ _ => ((len_ob1 _).cat (len_mem _ _)).mono (by decide) (by decide)
theorem EncodeLength.fisubM16 (m : MemOp) : EncodeLength.Statement (.fisubM16 m) := fun _ _ => ((len_ob1 _).cat (len_mem _ _)).mono (by decide) (by decide)
theorem EncodeLength.fsubrM32 (m : MemOp) : EncodeLength.Statement (.fsubrM32 m) := fun _ _ => ((len_ob1 _).cat (len_mem _ _)).mono (by decide) (by decide)
theorem EncodeLength.fsubrM64 (m : MemOp) : EncodeLength.Statement (.fsubrM64 m) := fun _ _ => ((len_ob1 _).cat (len_mem _ _)).mono (by decide) (by decide)
theorem EncodeLength.fsubrStSti (i : BitVec 3) : EncodeLength.Statement (.fsubrStSti i) := fun _ _ => (len_ob2r _ _ _).mono (by decide) (by decide)
theorem EncodeLength.fsubrStiSt (i : BitVec 3) : EncodeLength.Statement (.fsubrStiSt i) := fun _ _ => (len_ob2r _ _ _).mono (by decide) (by decide)
theorem EncodeLength.fsubrpStiSt (i : BitVec 3) : EncodeLength.Statement (.fsubrpStiSt i) := fun _ _ => (len_ob2r _ _ _).mono (by decide) (by decide)
theorem EncodeLength.fisubrM32 (m : MemOp) : EncodeLength.Statement (.fisubrM32 m) := fun _ _ => ((len_ob1 _).cat (len_mem _ _)).mono (by decide) (by decide)
theorem EncodeLength.fisubrM16 (m : MemOp) : EncodeLength.Statement (.fisubrM16 m) := fun _ _ => ((len_ob1 _).cat (len_mem _ _)).mono (by decide) (by decide)
theorem EncodeLength.fdivM32 (m : MemOp) : EncodeLength.Statement (.fdivM32 m) := fun _ _ => ((len_ob1 _).cat (len_mem _ _)).mono (by decide) (by decide)
theorem EncodeLength.fdivM64 (m : MemOp) : EncodeLength.Statement (.fdivM64 m) := fun _ _ => ((len_ob1 _).cat (len_mem _ _)).mono (by decide) (by decide)
theorem EncodeLength.fdivStSti (i : BitVec 3) : EncodeLength.Statement (.fdivStSti i) := fun _ _ => (len_ob2r _ _ _).mono (by decide) (by decide)
theorem EncodeLength.fdivStiSt (i : BitVec 3) : EncodeLength.Statement (.fdivStiSt i) := fun _ _ => (len_ob2r _ _ _).mono (by decide) (by decide)
theorem EncodeLength.fdivpStiSt (i : BitVec 3) : EncodeLength.Statement (.fdivpStiSt i) := fun _ _ => (len_ob2r _ _ _).mono (by decide) (by decide)
theorem EncodeLength.fidivM32 (m : MemOp) : EncodeLength.Statement (.fidivM32 m) := fun _ _ => ((len_ob1 _).cat (len_mem _ _)).mono (by decide) (by decide)
theorem EncodeLength.fidivM16 (m : MemOp) : EncodeLength.Statement (.fidivM16 m) := fun _ _ => ((len_ob1 _).cat (len_mem _ _)).mono (by decide) (by decide)
theorem EncodeLength.fdivrM32 (m : MemOp) : EncodeLength.Statement (.fdivrM32 m) := fun _ _ => ((len_ob1 _).cat (len_mem _ _)).mono (by decide) (by decide)
theorem EncodeLength.fdivrM64 (m : MemOp) : EncodeLength.Statement (.fdivrM64 m) := fun _ _ => ((len_ob1 _).cat (len_mem _ _)).mono (by decide) (by decide)
theorem EncodeLength.fdivrStSti (i : BitVec 3) : EncodeLength.Statement (.fdivrStSti i) := fun _ _ => (len_ob2r _ _ _).mono (by decide) (by decide)
theorem EncodeLength.fdivrStiSt (i : BitVec 3) : EncodeLength.Statement (.fdivrStiSt i) := fun _ _ => (len_ob2r _ _ _).mono (by decide) (by decide)
theorem EncodeLength.fdivrpStiSt (i : BitVec 3) : EncodeLength.Statement (.fdivrpStiSt i) := fun _ _ => (len_ob2r _ _ _).mono (by decide) (by decide)
theorem EncodeLength.fidivrM32 (m : MemOp) : EncodeLength.Statement (.fidivrM32 m) := fun _ _ => ((len_ob1 _).cat (len_mem _ _)).mono (by decide) (by decide)
theorem EncodeLength.fidivrM16 (m : MemOp) : EncodeLength.Statement (.fidivrM16 m) := fun _ _ => ((len_ob1 _).cat (len_mem _ _)).mono (by decide) (by decide)
theorem EncodeLength.fcomM32 (m : MemOp) : EncodeLength.Statement (.fcomM32 m) := fun _ _ => ((len_ob1 _).cat (len_mem _ _)).mono (by decide) (by decide)
theorem EncodeLength.fcomM64 (m : MemOp) : EncodeLength.Statement (.fcomM64 m) := fun _ _ => ((len_ob1 _).cat (len_mem _ _)).mono (by decide) (by decide)
theorem EncodeLength.fcomSti (i : BitVec 3) : EncodeLength.Statement (.fcomSti i) := fun _ _ => (len_ob2r _ _ _).mono (by decide) (by decide)
theorem EncodeLength.fcompM32 (m : MemOp) : EncodeLength.Statement (.fcompM32 m) := fun _ _ => ((len_ob1 _).cat (len_mem _ _)).mono (by decide) (by decide)
theorem EncodeLength.fcompM64 (m : MemOp) : EncodeLength.Statement (.fcompM64 m) := fun _ _ => ((len_ob1 _).cat (len_mem _ _)).mono (by decide) (by decide)
theorem EncodeLength.fcompSti (i : BitVec 3) : EncodeLength.Statement (.fcompSti i) := fun _ _ => (len_ob2r _ _ _).mono (by decide) (by decide)
theorem EncodeLength.fcompp : EncodeLength.Statement (.fcompp) := fun _ _ => (len_ob2 _ _).mono (by decide) (by decide)
theorem EncodeLength.fucomSti (i : BitVec 3) : EncodeLength.Statement (.fucomSti i) := fun _ _ => (len_ob2r _ _ _).mono (by decide) (by decide)
theorem EncodeLength.fucompSti (i : BitVec 3) : EncodeLength.Statement (.fucompSti i) := fun _ _ => (len_ob2r _ _ _).mono (by decide) (by decide)
theorem EncodeLength.fucompp : EncodeLength.Statement (.fucompp) := fun _ _ => (len_ob2 _ _).mono (by decide) (by decide)
theorem EncodeLength.ficomM16 (m : MemOp) : EncodeLength.Statement (.ficomM16 m) := fun _ _ => ((len_ob1 _).cat (len_mem _ _)).mono (by decide) (by decide)
theorem EncodeLength.ficomM32 (m : MemOp) : EncodeLength.Statement (.ficomM32 m) := fun _ _ => ((len_ob1 _).cat (len_mem _ _)).mono (by decide) (by decide)
theorem EncodeLength.ficompM16 (m : MemOp) : EncodeLength.Statement (.ficompM16 m) := fun _ _ => ((len_ob1 _).cat (len_mem _ _)).mono (by decide) (by decide)
theorem EncodeLength.ficompM32 (m : MemOp) : EncodeLength.Statement (.ficompM32 m) := fun _ _ => ((len_ob1 _).cat (len_mem _ _)).mono (by decide) (by decide)
theorem EncodeLength.ftst : EncodeLength.Statement (.ftst) := fun _ _ => (len_ob2 _ _).mono (by decide) (by decide)
theorem EncodeLength.fxam : EncodeLength.Statement (.fxam) := fun _ _ => (len_ob2 _ _).mono (by decide) (by decide)
theorem EncodeLength.fsqrt : EncodeLength.Statement (.fsqrt) := fun _ _ => (len_ob2 _ _).mono (by decide) (by decide)
theorem EncodeLength.fscale : EncodeLength.Statement (.fscale) := fun _ _ => (len_ob2 _ _).mono (by decide) (by decide)
theorem EncodeLength.fxtract : EncodeLength.Statement (.fxtract) := fun _ _ => (len_ob2 _ _).mono (by decide) (by decide)
theorem EncodeLength.fprem : EncodeLength.Statement (.fprem) := fun _ _ => (len_ob2 _ _).mono (by decide) (by decide)
theorem EncodeLength.fprem1 : EncodeLength.Statement (.fprem1) := fun _ _ => (len_ob2 _ _).mono (by decide) (by decide)
theorem EncodeLength.frndint : EncodeLength.Statement (.frndint) := fun _ _ => (len_ob2 _ _).mono (by decide) (by decide)
theorem EncodeLength.fabs : EncodeLength.Statement (.fabs) := fun _ _ => (len_ob2 _ _).mono (by decide) (by decide)
theorem EncodeLength.fchs : EncodeLength.Statement (.fchs) := fun _ _ => (len_ob2 _ _).mono (by decide) (by decide)
theorem EncodeLength.fld1 : EncodeLength.Statement (.fld1) := fun _ _ => (len_ob2 _ _).mono (by decide) (by decide)
theorem EncodeLength.fldl2t : EncodeLength.Statement (.fldl2t) := fun _ _ => (len_ob2 _ _).mono (by decide) (by decide)
theorem EncodeLength.fldl2e : EncodeLength.Statement (.fldl2e) := fun _ _ => (len_ob2 _ _).mono (by decide) (by decide)
theorem EncodeLength.fldpi : EncodeLength.Statement (.fldpi) := fun _ _ => (len_ob2 _ _).mono (by decide) (by decide)
theorem EncodeLength.fldlg2 : EncodeLength.Statement (.fldlg2) := fun _ _ => (len_ob2 _ _).mono (by decide) (by decide)
theorem EncodeLength.fldln2 : EncodeLength.Statement (.fldln2) := fun _ _ => (len_ob2 _ _).mono (by decide) (by decide)
theorem EncodeLength.fldz : EncodeLength.Statement (.fldz) := fun _ _ => (len_ob2 _ _).mono (by decide) (by decide)
theorem EncodeLength.fsin : EncodeLength.Statement (.fsin) := fun _ _ => (len_ob2 _ _).mono (by decide) (by decide)
theorem EncodeLength.fcos : EncodeLength.Statement (.fcos) := fun _ _ => (len_ob2 _ _).mono (by decide) (by decide)
theorem EncodeLength.fsincos : EncodeLength.Statement (.fsincos) := fun _ _ => (len_ob2 _ _).mono (by decide) (by decide)
theorem EncodeLength.fptan : EncodeLength.Statement (.fptan) := fun _ _ => (len_ob2 _ _).mono (by decide) (by decide)
theorem EncodeLength.fpatan : EncodeLength.Statement (.fpatan) := fun _ _ => (len_ob2 _ _).mono (by decide) (by decide)
theorem EncodeLength.f2xm1 : EncodeLength.Statement (.f2xm1) := fun _ _ => (len_ob2 _ _).mono (by decide) (by decide)
theorem EncodeLength.fyl2x : EncodeLength.Statement (.fyl2x) := fun _ _ => (len_ob2 _ _).mono (by decide) (by decide)
theorem EncodeLength.fyl2xp1 : EncodeLength.Statement (.fyl2xp1) := fun _ _ => (len_ob2 _ _).mono (by decide) (by decide)
theorem EncodeLength.fninit : EncodeLength.Statement (.fninit) := fun _ _ => (len_ob2 _ _).mono (by decide) (by decide)
theorem EncodeLength.fnclex : EncodeLength.Statement (.fnclex) := fun _ _ => (len_ob2 _ _).mono (by decide) (by decide)
theorem EncodeLength.fnstswAx : EncodeLength.Statement (.fnstswAx) := fun _ _ => (len_ob2 _ _).mono (by decide) (by decide)
theorem EncodeLength.fincstp : EncodeLength.Statement (.fincstp) := fun _ _ => (len_ob2 _ _).mono (by decide) (by decide)
theorem EncodeLength.fdecstp : EncodeLength.Statement (.fdecstp) := fun _ _ => (len_ob2 _ _).mono (by decide) (by decide)
theorem EncodeLength.fnop : EncodeLength.Statement (.fnop) := fun _ _ => (len_ob2 _ _).mono (by decide) (by decide)
theorem EncodeLength.feni : EncodeLength.Statement (.feni) := fun _ _ => (len_ob2 _ _).mono (by decide) (by decide)
theorem EncodeLength.fdisi : EncodeLength.Statement (.fdisi) := fun _ _ => (len_ob2 _ _).mono (by decide) (by decide)
theorem EncodeLength.fsetpm : EncodeLength.Statement (.fsetpm) := fun _ _ => (len_ob2 _ _).mono (by decide) (by decide)
theorem EncodeLength.fldcwM16 (m : MemOp) : EncodeLength.Statement (.fldcwM16 m) := fun _ _ => ((len_ob1 _).cat (len_mem _ _)).mono (by decide) (by decide)
theorem EncodeLength.fnstcwM16 (m : MemOp) : EncodeLength.Statement (.fnstcwM16 m) := fun _ _ => ((len_ob1 _).cat (len_mem _ _)).mono (by decide) (by decide)
theorem EncodeLength.fnstswM16 (m : MemOp) : EncodeLength.Statement (.fnstswM16 m) := fun _ _ => ((len_ob1 _).cat (len_mem _ _)).mono (by decide) (by decide)
theorem EncodeLength.fnstenvM (m : MemOp) : EncodeLength.Statement (.fnstenvM m) := fun _ _ => ((len_ob1 _).cat (len_mem _ _)).mono (by decide) (by decide)
theorem EncodeLength.fldenvM (m : MemOp) : EncodeLength.Statement (.fldenvM m) := fun _ _ => ((len_ob1 _).cat (len_mem _ _)).mono (by decide) (by decide)
theorem EncodeLength.fnsaveM (m : MemOp) : EncodeLength.Statement (.fnsaveM m) := fun _ _ => ((len_ob1 _).cat (len_mem _ _)).mono (by decide) (by decide)
theorem EncodeLength.frstorM (m : MemOp) : EncodeLength.Statement (.frstorM m) := fun _ _ => ((len_ob1 _).cat (len_mem _ _)).mono (by decide) (by decide)
theorem EncodeLength.ffreeSti (i : BitVec 3) : EncodeLength.Statement (.ffreeSti i) := fun _ _ => (len_ob2r _ _ _).mono (by decide) (by decide)
theorem EncodeLength.finit : EncodeLength.Statement (.finit) := fun _ _ => (len_ob3 _ _ _).mono (by decide) (by decide)
theorem EncodeLength.fclex : EncodeLength.Statement (.fclex) := fun _ _ => (len_ob3 _ _ _).mono (by decide) (by decide)
theorem EncodeLength.fstswAx : EncodeLength.Statement (.fstswAx) := fun _ _ => (len_ob3 _ _ _).mono (by decide) (by decide)
theorem EncodeLength.fstcwM16 (m : MemOp) : EncodeLength.Statement (.fstcwM16 m) := fun _ _ => ((len_ob2 _ _).cat (len_mem _ _)).mono (by decide) (by decide)
theorem EncodeLength.fstswM16 (m : MemOp) : EncodeLength.Statement (.fstswM16 m) := fun _ _ => ((len_ob2 _ _).cat (len_mem _ _)).mono (by decide) (by decide)
theorem EncodeLength.fstenvM (m : MemOp) : EncodeLength.Statement (.fstenvM m) := fun _ _ => ((len_ob2 _ _).cat (len_mem _ _)).mono (by decide) (by decide)
theorem EncodeLength.fsaveM (m : MemOp) : EncodeLength.Statement (.fsaveM m) := fun _ _ => ((len_ob2 _ _).cat (len_mem _ _)).mono (by decide) (by decide)
theorem EncodeLength.prefixEs : EncodeLength.Statement (.prefixEs) := fun _ _ => (len_ob1 _).mono (by decide) (by decide)
theorem EncodeLength.prefixCs : EncodeLength.Statement (.prefixCs) := fun _ _ => (len_ob1 _).mono (by decide) (by decide)
theorem EncodeLength.prefixSs : EncodeLength.Statement (.prefixSs) := fun _ _ => (len_ob1 _).mono (by decide) (by decide)
theorem EncodeLength.prefixDs : EncodeLength.Statement (.prefixDs) := fun _ _ => (len_ob1 _).mono (by decide) (by decide)
theorem EncodeLength.prefixFs : EncodeLength.Statement (.prefixFs) := fun _ _ => (len_ob1 _).mono (by decide) (by decide)
theorem EncodeLength.prefixGs : EncodeLength.Statement (.prefixGs) := fun _ _ => (len_ob1 _).mono (by decide) (by decide)
theorem EncodeLength.prefixOpSize : EncodeLength.Statement (.prefixOpSize) := fun _ _ => (len_ob1 _).mono (by decide) (by decide)
theorem EncodeLength.prefixAdSize : EncodeLength.Statement (.prefixAdSize) := fun _ _ => (len_ob1 _).mono (by decide) (by decide)
theorem EncodeLength.prefixLock : EncodeLength.Statement (.prefixLock) := fun _ _ => (len_ob1 _).mono (by decide) (by decide)
theorem EncodeLength.prefixRepne : EncodeLength.Statement (.prefixRepne) := fun _ _ => (len_ob1 _).mono (by decide) (by decide)
theorem EncodeLength.prefixRep : EncodeLength.Statement (.prefixRep) := fun _ _ => (len_ob1 _).mono (by decide) (by decide)

end Sys2Proof.Laws

end
end

