-- ==== Sys2Proof/Tests/Slice0.lean ====
section
/-! SUPPORT. Tests: ill-formed terms refused, words of the encoding rules decoded, single steps whose results stand in the spec's own examples and
vectors (95_test_vectors.md), and for every statement with hypotheses a state and operands that meet them. -/

noncomputable section

namespace Sys2Proof.Tests

open Sys2Proof Sys2Proof.Machine Sys2Proof.Claims

set_option Elab.async false

/-! ## Building states -/

/-- Bytes at a physical address. -/
def bytesAt (s : State) (a : Nat) (bs : List Nat) : State :=
  { s with mem := placeBytes (BitVec.ofNat 32 a) (bs.map fun b => BitVec.ofNat 8 b) s.mem }

/-- General registers: EAX, ECX, EDX, EBX, ESP, EBP, ESI, EDI. -/
def regs (s : State) (a c d b sp bp si di : Word) : State := { s with regs := ⟨a, c, d, b, sp, bp, si, di⟩ }

/-- EAX alone. -/
def eax (s : State) (v : Word) : State := { s with regs := { s.regs with eax := v } }

/-- EFLAGS from its image. -/
def efl (s : State) (v : Word) : State := { s with flags := Flags.ofWord v }

/-- EIP. -/
def ipAt (s : State) (v : Word) : State := { s with eip := v }

/-- A flat segment of 4 gigabytes: selector, type, privilege level. -/
def flatSeg (sel : Half) (typ : BitVec 4) (dpl : BitVec 2) : Seg :=
  { sel := sel, base := 0, limit := 0xFFFFFFFF, attr := { typ := typ, s := true, dpl := dpl, p := true, avl := false, db := true, g := true }
    usable := true }

/-- Protected mode, flat 32-bit segments, level `pl`, paging off, EIP = 100H, general registers 0, the FPU as after FNINIT, no
model-specific registers. -/
def flatAt (pl : BitVec 2) : State :=
  let d := flatSeg (0x10 ||| pl.setWidth 16) 3 pl
  { State.reset with
    regs := ⟨0, 0, 0, 0, 0, 0, 0, 0⟩, eip := 0x100, cpl := pl
    segs := { es := d, cs := flatSeg (0x08 ||| pl.setWidth 16) 11 pl, ss := d, ds := d, fs := d, gs := d }
    cr := { cr0 := 0x60000031, cr2 := 0, cr3 := 0x2000, cr4 := 0 }, fpu := initialFpu Fpu.reset, msrs := [] }

/-- The same at level 0. -/
def flat : State := flatAt 0

/-- Real-address mode, every segment at 0 with limit FFFFH, IP = 100H, SP = 1000H. -/
def real : State :=
  { flat with
    regs := ⟨0, 0, 0, 0, 0x1000, 0, 0, 0⟩, cr := { cr0 := 0x60000030, cr2 := 0, cr3 := 0, cr4 := 0 }
    segs := { es := .reset, cs := .reset, ss := .reset, ds := .reset, fs := .reset, gs := .reset } }

/-- Virtual-8086 mode with every segment at 0 and this IOPL. -/
def v86 (iopl : BitVec 2) : State :=
  let g := Seg.ofV86 0
  { flatAt 3 with flags := { Flags.reset with vm := true, iopl := iopl }, segs := { es := g, cs := g, ss := g, ds := g, fs := g, gs := g } }

/-- A 32-bit operand size by prefix. -/
def wide (s : State) : State := { s with cur := { s.cur with opsz := true } }

/-- A repeat prefix. -/
def repeated (s : State) (r : Rep) : State := { s with cur := { s.cur with rep := some r } }

/-- Descriptors at 3000H: 08H code and 10H data of level 0, 18H and 20H of level 3, 28H the busy TSS at 10000H (the current one, with a stack
for level 0), 30H an available TSS at 30000H, 38H an LDT; IDT at 4000H. -/
def tables (s : State) : State :=
  let t : State := { s with
    gdtr := { base := 0x3000, limit := 0x3F }, idtr := { base := 0x4000, limit := 0x7FF }
    tr := { sel := 0x28, base := 0x10000, limit := 0x208B, usable := true
            attr := { typ := 11, s := false, dpl := 0, p := true, avl := false, db := false, g := false } } }
  let t := bytesAt t 0x3008 [0xFF, 0xFF, 0, 0, 0, 0x9B, 0xCF, 0, 0xFF, 0xFF, 0, 0, 0, 0x93, 0xCF, 0]
  let t := bytesAt t 0x3018 [0xFF, 0xFF, 0, 0, 0, 0xFB, 0xCF, 0, 0xFF, 0xFF, 0, 0, 0, 0xF3, 0xCF, 0]
  let t := bytesAt t 0x3028 [0x8B, 0x20, 0, 0, 1, 0x8B, 0, 0, 0x67, 0, 0, 0, 3, 0x89, 0, 0]
  let t := bytesAt t 0x3038 [0x07, 0, 0, 0x60, 0, 0x82, 0, 0]
  bytesAt t 0x10004 [0, 0x80, 0, 0, 0x10, 0]

/-- A 32-bit gate of this access byte in the IDT, to 0008:`off`. -/
def gate (s : State) (v off access : Nat) : State :=
  bytesAt s (0x4000 + 8 * v) [off % 256, off / 256 % 256, 8, 0, 0, access, off / 65536 % 256, 0]

/-- Protected mode at level 3 with the tables above and a gate for #GP to 9000H. -/
def user : State := gate (tables (regs (flatAt 3) 0 0 0 0 0x9000 0 0 0)) 13 0x9000 0x8E

/-- Paging on over `flat`: the page 403000H read-only for users at ABC000H, and page 0 at 0 (22_paging.md R276). -/
def paged : State :=
  let s : State := { flat with cr := { flat.cr with cr0 := 0xE0000031 } }
  bytesAt (bytesAt (bytesAt s 0x2000 [0x67, 0x60, 0, 0, 0x67, 0x50]) 0x500C [0x05, 0xC0, 0xAB]) 0x6000 [0x67]

/-- Values on the FPU stack, the last one on top. -/
def pushed (s : State) (vs : List (BitVec 80)) : State := { s with fpu := vs.foldl (fun f v => f.push v) s.fpu }

/-! ## Reading results -/

/-- What holds after one step that begins at the bytes `bs`. -/
def after (s : State) (bs : List Nat) (p : State → Bool) : Bool :=
  match step (bytesAt s (s.segs.cs.base + s.eip).toNat bs) with
  | .next t => p t
  | _ => false

/-- The step is refused. -/
def refused (s : State) (bs : List Nat) (r : Refusal) : Bool :=
  match step (bytesAt s (s.segs.cs.base + s.eip).toNat bs) with
  | .refused q => q == r
  | _ => false

/-- The byte, word and doubleword at a physical address. -/
def at8 (t : State) (a : Nat) : Nat := (Memory.read t.mem a).toNat
def at16 (t : State) (a : Nat) : Nat := at8 t a + 256 * at8 t (a + 1)
def at32 (t : State) (a : Nat) : Nat := at16 t a + 65536 * at16 t (a + 2)

/-- CF, PF, AF, ZF, SF, OF. -/
def status (t : State) : List Bool := [t.flags.cf, t.flags.pf, t.flags.af, t.flags.zf, t.flags.sf, t.flags.of]

/-- The step takes the exception `v` through a gate at level 0, with this error code or none, and saves EIP = 100H. -/
def faults (s : State) (bs : List Nat) (v : Nat) (code : Option Nat) : Bool :=
  after (gate (tables { s with regs := { s.regs with esp := 0x8000 } }) v 0x9000 0x8E) bs fun t =>
    t.eip == 0x9000 && at32 t 0x7FF4 == 0x100 && (match code with
      | none => t.regs.esp == 0x7FF4
      | some c => at32 t 0x7FF0 == c)

/-- At level 3 the step takes #GP(0) on the stack of level 0. -/
def userGp (s : State) (bs : List Nat) : Bool :=
  after s bs fun t => t.eip == 0x9000 && t.cpl == 0 && t.regs.esp == 0x7FE8 && at32 t 0x7FE8 == 0 && at32 t 0x7FEC == 0x100

/-! ## Ill-formed terms are refused -/

theorem test_wf_field_too_large : (Instr.addEaxImm 0x10000).wf .s16 .s32 = false := by decide
theorem test_wf_field_fits : (Instr.addEaxImm 0xFFFF).wf .s16 .s32 = true := by decide
theorem test_wf_offset_too_large : (Instr.movAlMoffs8 0x10000).wf .s32 .s16 = false := by decide
theorem test_wf_rel_too_large : (Instr.jmpRel 0x10000).wf .s16 .s32 = false := by decide
theorem test_wf_far_offset_too_large : (Instr.jmpPtr 0x10000 8).wf .s16 .s32 = false := by decide
theorem test_wf_disp16_under_32 : (Disp.d16 0).wf .s32 false = false := by decide
theorem test_wf_disp32_under_16 : (Disp.d32 0).wf .s16 false = false := by decide
theorem test_wf_direct16_under_32 : (MemOp.direct16 0).wf .s32 = false := by decide
theorem test_wf_direct32_under_16 : (MemOp.direct32 0).wf .s16 = false := by decide
theorem test_wf_base16_under_32 : (MemOp.base16 .bx .none).wf .s32 = false := by decide
theorem test_wf_bp_without_disp : (MemOp.base16 .bp .none).wf .s16 = false := by decide
theorem test_wf_base32_under_16 : (MemOp.base32 .eax .none).wf .s16 = false := by decide
theorem test_wf_esp_without_sib : (MemOp.base32 .esp .none).wf .s32 = false := by decide
theorem test_wf_ebp_without_disp : (MemOp.base32 .ebp .none).wf .s32 = false := by decide
theorem test_wf_sib_under_16 : (MemOp.sib 0 .eax .eax .none).wf .s16 = false := by decide
theorem test_wf_sib_ebp_without_disp : (MemOp.sib 0 .eax .ebp .none).wf .s32 = false := by decide
theorem test_wf_sib_no_base_under_16 : (MemOp.sibNoBase 0 .eax 0).wf .s16 = false := by decide
theorem test_wf_rm : (RM.mem (.direct16 0)).wf .s32 = false := by decide
theorem test_wf_operand : (Instr.addRmR (.mem (.direct32 0)) .eax).wf .s32 .s16 = false := by decide
theorem test_wf_memory_operand : (Instr.lgdtM (.direct32 0)).wf .s32 .s16 = false := by decide
theorem test_wf_mov_cs : (Instr.movSregRm16 (.reg .eax) .cs).wf .s32 .s32 = false := by decide
theorem test_wf_xchg_eax_eax : (Instr.xchgEaxR .eax).wf .s32 .s32 = false := by decide

/-! ## Words of the encoding rules (30_encoding.md, 48_fpu_instructions.md) -/

theorem test_decode_add : decodeOne .s32 .s32 [0x01, 0xC8] = .ok (.addRmR (.reg .eax) .ecx) [] := by decide +kernel
theorem test_decode_imul : decodeOne .s32 .s32 [0x6B, 0xC8, 0xFD] = .ok (.imulRRmSImm8 (.reg .eax) .ecx 0xFD) [] := by decide +kernel
theorem test_decode_daa : decodeOne .s32 .s32 [0x27] = .ok .daa [] := by decide +kernel
theorem test_decode_mov_sib : decodeOne .s32 .s32 [0x8B, 0x44, 0x24, 0x08] = .ok (.movRRm (.mem (.sib 0 .esp .esp (.d8 0x08))) .eax) [] := by
  decide +kernel
theorem test_decode_mov_imm : decodeOne .s16 .s16 [0xB8, 0x34, 0x12] = .ok (.movRImm .eax 0x1234) [] := by decide +kernel
theorem test_decode_lea : decodeOne .s32 .s32 [0x8D, 0x44, 0xB3, 0x08] = .ok (.leaRM (.sib 2 .esi .ebx (.d8 8)) .eax) [] := by decide +kernel
theorem test_decode_push : decodeOne .s32 .s32 [0x54] = .ok (.pushR .esp) [] := by decide +kernel
theorem test_decode_shift : decodeOne .s32 .s32 [0xC1, 0xE0, 0x04] = .ok (.shlRmImm8 (.reg .eax) 4) [] := by decide +kernel
theorem test_decode_bts : decodeOne .s32 .s32 [0x0F, 0xAB, 0x03] = .ok (.btsRmR (.mem (.base32 .ebx .none)) .eax) [] := by decide +kernel
theorem test_decode_jcc : decodeOne .s16 .s32 [0x74, 0xFE, 0x90] = .ok (.jccRel8 .e 0xFE) [0x90] := by decide +kernel
theorem test_decode_call_far : decodeOne .s16 .s16 [0x9A, 0x00, 0x01, 0x00, 0xF0] = .ok (.callPtr 0x100 0xF000) [] := by decide +kernel
theorem test_decode_enter : decodeOne .s32 .s32 [0xC8, 8, 0, 2] = .ok (.enterImm16Imm8 8 2) [] := by decide +kernel
theorem test_decode_movs : decodeOne .s32 .s32 [0xA5] = .ok .movsw [] := by decide +kernel
theorem test_decode_in : decodeOne .s32 .s32 [0xE4, 0x60] = .ok (.inAlImm8 0x60) [] := by decide +kernel
theorem test_decode_lgdt : decodeOne .s16 .s16 [0x0F, 0x01, 0x16, 0x00, 0x10] = .ok (.lgdtM (.direct16 0x1000)) [] := by decide +kernel
theorem test_decode_mov_cr : decodeOne .s32 .s32 [0x0F, 0x22, 0xD8] = .ok (.movCrR32 3 .eax) [] := by decide +kernel
theorem test_decode_rsm : decodeOne .s32 .s32 [0x0F, 0xAA] = .ok .rsm [] := by decide +kernel
theorem test_decode_cmpxchg8b : decodeOne .s32 .s32 [0x0F, 0xC7, 0x0E] = .ok (.cmpxchg8bM64 (.base32 .esi .none)) [] := by decide +kernel
theorem test_decode_cpuid : decodeOne .s32 .s32 [0x0F, 0xA2] = .ok .cpuid [] := by decide +kernel
theorem test_decode_fadd : decodeOne .s32 .s32 [0xD8, 0xC1] = .ok (.faddStSti 1) [] := by decide +kernel
theorem test_decode_fild : decodeOne .s32 .s32 [0xDF, 0x06] = .ok (.fildM16 (.base32 .esi .none)) [] := by decide +kernel
theorem test_decode_fstsw : decode .s32 .s32 [0x9B, 0xDF, 0xE0] = .ok .fstswAx [] := by decide +kernel
theorem test_decode_wait : decode .s32 .s32 [0x9B, 0x90] = .ok .wait [0x90] := by decide +kernel
theorem test_decode_prefix : decodeOne .s32 .s32 [0xF3, 0xA4] = .ok .prefixRep [0xA4] := by decide +kernel
theorem test_decode_short : decodeOne .s32 .s32 [0x0F, 0x22] = .more := by decide +kernel
theorem test_decode_reserved : decodeOne .s32 .s32 [0xD6] = .bad .reserved := by decide +kernel
theorem test_decode_aliased : decodeOne .s32 .s32 [0xF6, 0xC8] = .bad .aliased := by decide +kernel
theorem test_decode_undefined : decodeOne .s32 .s32 [0x0F, 0xC7, 0xC8] = .bad .undefined := by decide +kernel
theorem test_encode_lea : encode .s32 .s32 (.leaRM (.sib 2 .esi .ebx (.d8 8)) .eax) = [0x8D, 0x44, 0xB3, 0x08] := by decide +kernel
theorem test_table_word : decodeTableWord 16 0xC801 = some (.addRmR (.reg .eax) .ecx) := by decide +kernel
theorem test_fetch_word : (match step (State.reset.withFetchWord 8 0xF9) with
    | .next t => t.flags.cf && t.eip == 0xFFF1
    | _ => false) = true := by decide +kernel

/-! ## Single steps: the vectors of 95_test_vectors.md and the examples of the rules -/

/-- 95_test_vectors.md M1. -/
theorem test_mov_imm32 : after flat [0xB8, 0x78, 0x56, 0x34, 0x12] (fun t => t.regs.eax == 0x12345678 &&
    t.eip == 0x105) = true := by decide +kernel

/-- 95_test_vectors.md M2. -/
theorem test_mov_imm16_keeps_upper_half : after (eax flat 0xAAAAAAAA) [0x66, 0xB8, 0x34, 0x12] (fun t => t.regs.eax == 0xAAAA1234 &&
    t.eip == 0x104) = true := by decide +kernel

/-- 95_test_vectors.md M4. -/
theorem test_xchg_memory : after (regs flat 1 0 0 0x1000 0 0 0 0) [0x87, 0x03] (fun t => t.regs.eax == 0 &&
    at32 t 0x1000 == 1) = true := by decide +kernel

/-- 95_test_vectors.md M5. -/
theorem test_push_sign_extends : after (regs flat 1 0 0 0 0x1000 0 0 0) [0x6A, 0xFF] (fun t => t.regs.esp == 0xFFC &&
    at32 t 0xFFC == 0xFFFFFFFF) = true := by decide +kernel

/-- 95_test_vectors.md M6. -/
theorem test_push_esp_before : after (regs flat 1 0 0 0 0x1000 0 0 0) [0x54] (fun t => t.regs.esp == 0xFFC &&
    at32 t 0xFFC == 0x1000) = true := by decide +kernel

/-- 95_test_vectors.md M7. -/
theorem test_pop_esp : after (bytesAt (regs flat 1 0 0 0 0x1000 0 0 0) 0x1001 [0x20]) [0x5C]
    (fun t => t.regs.esp == 0x2000) = true := by decide +kernel

/-- 95_test_vectors.md M9. -/
theorem test_cbw : after (eax flat 0x12340080) [0x66, 0x98] (fun t => t.regs.eax == 0x1234FF80) = true := by decide +kernel

/-- 95_test_vectors.md M10. -/
theorem test_cwde : after (eax flat 0x12348000) [0x98] (fun t => t.regs.eax == 0xFFFF8000) = true := by decide +kernel

/-- 95_test_vectors.md M11. -/
theorem test_cdq : after (eax flat 0x80000000) [0x99] (fun t => t.regs.edx == 0xFFFFFFFF) = true := by decide +kernel

/-- 95_test_vectors.md M12. -/
theorem test_movsx : after (regs flat 0 0 0 0xF0 0 0 0 0) [0x0F, 0xBE, 0xC3]
    (fun t => t.regs.eax == 0xFFFFFFF0) = true := by decide +kernel

/-- 95_test_vectors.md M13. -/
theorem test_movzx : after (regs flat 0 0 0 0xF0 0 0 0 0) [0x0F, 0xB6, 0xC3] (fun t => t.regs.eax == 0xF0) = true := by decide +kernel

/-- 95_test_vectors.md M14. -/
theorem test_bswap : after (eax flat 0x12345678) [0x0F, 0xC8] (fun t => t.regs.eax == 0x78563412) = true := by decide +kernel

/-- 95_test_vectors.md M15. -/
theorem test_xadd : after (bytesAt (regs flat 3 0 0 0x1000 0 0 0 0) 0x1000 [5]) [0x0F, 0xC1, 0x03] (fun t => t.regs.eax == 5 &&
    at32 t 0x1000 == 8 && status t == [false, false, false, false, false, false]) = true := by decide +kernel

/-- 95_test_vectors.md M16. -/
theorem test_cmpxchg_equal : after (regs flat 0 0 0 7 0 0 0x1000 0) [0x0F, 0xB1, 0x1E] (fun t => t.regs.eax == 0 &&
    at32 t 0x1000 == 7 && t.flags.zf) = true := by decide +kernel

/-- 95_test_vectors.md M17. -/
theorem test_cmpxchg_different : after (bytesAt (regs flat 0 0 0 7 0 0 0x1000 0) 0x1000 [7]) [0x0F, 0xB1, 0x1E]
    (fun t => t.regs.eax == 7 && at32 t 0x1000 == 7 && !t.flags.zf && t.flags.cf) = true := by decide +kernel

/-- 95_test_vectors.md M18. -/
theorem test_cmpxchg8b_equal : after (bytesAt (regs (efl flat 0x8D7) 0x55667788 0 0x11223344 1 0 0 0x1000 0) 0x1000
    [0x88,0x77,0x66,0x55,0x44,0x33,0x22,0x11]) [0x0F, 0xC7, 0x0E] (fun t => at32 t 0x1000 == 1 && at32 t 0x1004 == 0 && t.flags.zf &&
    t.flags.word == 0x8D7) = true := by decide +kernel

/-- 95_test_vectors.md M19. -/
theorem test_cmpxchg8b_different : after (bytesAt (regs flat 4 0 0 0 0 0 0x1000 0) 0x1000 [5]) [0x0F, 0xC7, 0x0E]
    (fun t => at32 t 0x1000 == 5 && t.regs.edx == 0 && t.regs.eax == 5 && !t.flags.zf) = true := by decide +kernel

/-- 95_test_vectors.md M21. -/
theorem test_lea : after (regs flat 0 0 0 0x1000 0 0 3 0) [0x8D, 0x44, 0xB3, 0x08]
    (fun t => t.regs.eax == 0x1014) = true := by decide +kernel

/-- 95_test_vectors.md A1. -/
theorem test_add_carry : after (eax flat 0xFF) [0x04, 0x01] (fun t => t.regs.eax == 0 &&
    status t == [true, true, true, true, false, false]) = true := by decide +kernel

/-- 95_test_vectors.md A2. -/
theorem test_add_overflow : after (eax flat 0x7F) [0x04, 0x01] (fun t => t.regs.eax == 0x80 &&
    status t == [false, false, true, false, true, true]) = true := by decide +kernel

/-- 95_test_vectors.md A3. -/
theorem test_add_quadword_low : after (regs flat 0xFFFFFFFF 0 1 0 0 0 0 0) [0x83, 0xC0, 1] (fun t => t.regs.eax == 0 &&
    t.flags.cf) = true := by decide +kernel

/-- 95_test_vectors.md A3. -/
theorem test_adc_quadword_high : after (regs (efl flat 3) 0 0 1 0 0 0 0 0) [0x83, 0xD2, 0] (fun t => t.regs.edx == 2 &&
    !t.flags.cf) = true := by decide +kernel

/-- 95_test_vectors.md A4. -/
theorem test_sub_borrow : after flat [0x2C, 0x01] (fun t => t.regs.eax == 0xFF &&
    status t == [true, true, true, false, true, false]) = true := by decide +kernel

/-- 95_test_vectors.md A5. -/
theorem test_sub_overflow : after (eax flat 0x80) [0x2C, 0x01] (fun t => t.regs.eax == 0x7F &&
    status t == [false, false, true, false, false, true]) = true := by decide +kernel

/-- 95_test_vectors.md A6. -/
theorem test_sbb_carry : after (efl flat 3) [0x19, 0xC0] (fun t => t.regs.eax == 0xFFFFFFFF &&
    status t == [true, true, true, false, true, false]) = true := by decide +kernel

/-- 95_test_vectors.md A8. -/
theorem test_inc_keeps_carry : after (eax (efl flat 3) 0x7FFF) [0x66, 0x40] (fun t => t.regs.eax == 0x8000 &&
    status t == [true, true, true, false, true, true]) = true := by decide +kernel

/-- 95_test_vectors.md A9. -/
theorem test_dec_keeps_carry : after flat [0xFE, 0xC8] (fun t => t.regs.eax == 0xFF && !t.flags.cf && t.flags.sf && t.flags.af &&
    !t.flags.of) = true := by decide +kernel

/-- 95_test_vectors.md A11. -/
theorem test_neg_least : after (eax flat 0x80) [0xF6, 0xD8] (fun t => t.regs.eax == 0x80 && t.flags.cf && t.flags.of && t.flags.sf &&
    !t.flags.zf) = true := by decide +kernel

/-- 95_test_vectors.md A13. -/
theorem test_mul8 : after (regs flat 0x10 0 0 0x10 0 0 0 0) [0xF6, 0xE3] (fun t => t.regs.eax == 0x100 && t.flags.cf &&
    t.flags.of) = true := by decide +kernel

/-- 95_test_vectors.md A14. -/
theorem test_mul32 : after (regs flat 0xFFFFFFFF 0 0 2 0 0 0 0) [0xF7, 0xE3] (fun t => t.regs.eax == 0xFFFFFFFE && t.regs.edx == 1 &&
    t.flags.cf && t.flags.of) = true := by decide +kernel

/-- 95_test_vectors.md A15. -/
theorem test_imul8 : after (regs flat 0xFF 0 0 2 0 0 0 0) [0xF6, 0xEB] (fun t => t.regs.eax == 0xFFFE && !t.flags.cf &&
    !t.flags.of) = true := by decide +kernel

/-- 95_test_vectors.md A16. -/
theorem test_imul_reg_overflow : after (regs flat 0x10000 0 0 2 0 0 0 0) [0x0F, 0xAF, 0xC0] (fun t => t.regs.eax == 0 &&
    t.flags.cf && t.flags.of) = true := by decide +kernel

/-- 95_test_vectors.md A17. -/
theorem test_imul_imm : after (regs flat 5 0 0 2 0 0 0 0) [0x6B, 0xC8, 0xFD] (fun t => t.regs.ecx == 0xFFFFFFF1 && !t.flags.cf &&
    !t.flags.of) = true := by decide +kernel

/-- 95_test_vectors.md A18. -/
theorem test_div8 : after (regs flat 0x100 0 0 2 0 0 0 0) [0xF6, 0xF3] (fun t => t.regs.eax == 0x80) = true := by decide +kernel

/-- 95_test_vectors.md A19. -/
theorem test_div_quotient_too_large : faults (regs flat 0x200 0 0 2 0 0 0 0) [0xF6, 0xF3] 0 none = true := by decide +kernel

/-- 95_test_vectors.md A21. -/
theorem test_idiv_truncates : after (regs flat 0xFFF7 0 0 4 0 0 0 0) [0xF6, 0xFB]
    (fun t => t.regs.eax == 0xFFFE) = true := by decide +kernel

/-- 95_test_vectors.md A23. -/
theorem test_idiv_quotient_too_large : faults (regs flat 0x80 0 0 1 0 0 0 0) [0xF6, 0xFB] 0 none = true := by decide +kernel

/-- 95_test_vectors.md A24. -/
theorem test_idiv32_quotient_too_large : faults (regs flat 0x80000000 0 0xFFFFFFFF 0xFFFFFFFF 0 0 0 0) [0xF7, 0xFB] 0 none = true :=
    by decide +kernel

/-- 95_test_vectors.md A25. -/
theorem test_daa : after (eax flat 0x7D) [0x27] (fun t => t.regs.eax == 0x83 && t.flags.af && !t.flags.cf && t.flags.sf &&
    !t.flags.zf && !t.flags.pf) = true := by decide +kernel

/-- 95_test_vectors.md A26. -/
theorem test_daa_carry : after (eax flat 0x9A) [0x27] (fun t => t.regs.eax == 0 && t.flags.af && t.flags.cf && t.flags.zf &&
    t.flags.pf) = true := by decide +kernel

/-- 95_test_vectors.md A27. -/
theorem test_das : after (eax (efl flat 0x13) 0xEE) [0x2F] (fun t => t.regs.eax == 0x88 && t.flags.af &&
    t.flags.cf) = true := by decide +kernel

/-- 95_test_vectors.md A28. -/
theorem test_aaa : after (eax flat 0x6D) [0x37] (fun t => t.regs.eax == 0x103 && t.flags.af && t.flags.cf) = true := by decide +kernel

/-- 95_test_vectors.md A29. -/
theorem test_aas : after (eax (efl flat 0x12) 0x1FD) [0x3F] (fun t => t.regs.eax == 7 && t.flags.af &&
    t.flags.cf) = true := by decide +kernel

/-- 95_test_vectors.md A30. -/
theorem test_aam : after (eax flat 0x3F) [0xD4, 0x0A] (fun t => t.regs.eax == 0x603 && !t.flags.sf && !t.flags.zf &&
    t.flags.pf) = true := by decide +kernel

/-- 95_test_vectors.md A31. -/
theorem test_aam_zero : faults flat [0xD4, 0] 0 none = true := by decide +kernel

/-- 95_test_vectors.md A32. -/
theorem test_aad : after (eax flat 0x603) [0xD5, 0x0A] (fun t => t.regs.eax == 0x3F && !t.flags.sf && !t.flags.zf &&
    t.flags.pf) = true := by decide +kernel

/-- 95_test_vectors.md L1. -/
theorem test_and : after (eax flat 0xF0) [0x24, 0x3C] (fun t => t.regs.eax == 0x30 && !t.flags.cf && !t.flags.of && !t.flags.zf &&
    !t.flags.sf && t.flags.pf) = true := by decide +kernel

/-- 95_test_vectors.md L2. -/
theorem test_xor_self : after (eax flat 0xF0) [0x31, 0xC0] (fun t => t.regs.eax == 0 && !t.flags.cf && !t.flags.of && t.flags.zf &&
    !t.flags.sf && t.flags.pf) = true := by decide +kernel

/-- 95_test_vectors.md L3. -/
theorem test_not_keeps_flags : after (eax (efl flat 0x8D7) 0x55) [0xF6, 0xD0] (fun t => t.regs.eax == 0xAA &&
    t.flags.word == 0x8D7) = true := by decide +kernel

/-- 95_test_vectors.md L4. -/
theorem test_test : after (eax flat 0x81) [0xA8, 0x80] (fun t => t.regs.eax == 0x81 && !t.flags.cf && !t.flags.of && !t.flags.zf &&
    t.flags.sf && !t.flags.pf) = true := by decide +kernel

/-- 95_test_vectors.md L5. -/
theorem test_shl_one : after (eax flat 0x8888888F) [0xD1, 0xE0] (fun t => t.regs.eax == 0x1111111E && t.flags.cf && t.flags.of &&
    !t.flags.zf && !t.flags.sf && t.flags.pf) = true := by decide +kernel

/-- 95_test_vectors.md L6. -/
theorem test_shl_ten : after (eax flat 0x8888888F) [0xC1, 0xE0, 0x0A] (fun t => t.regs.eax == 0x22223C00 && !t.flags.cf &&
    t.flags.pf) = true := by decide +kernel

/-- 95_test_vectors.md L7. -/
theorem test_shr_one : after (eax flat 0x8888888F) [0xD1, 0xE8] (fun t => t.regs.eax == 0x44444447 && t.flags.cf &&
    t.flags.of) = true := by decide +kernel

/-- 95_test_vectors.md L8. -/
theorem test_shr_ten : after (eax flat 0x8888888F) [0xC1, 0xE8, 0x0A] (fun t => t.regs.eax == 0x00222222 &&
    !t.flags.cf) = true := by decide +kernel

/-- 95_test_vectors.md L9. -/
theorem test_sar_one : after (eax flat 0xC4444447) [0xD1, 0xF8] (fun t => t.regs.eax == 0xE2222223 && t.flags.cf &&
    !t.flags.of) = true := by decide +kernel

/-- 95_test_vectors.md L10. -/
theorem test_sar_two : after (eax flat 0xF7) [0xC0, 0xF8, 2] (fun t => t.regs.eax == 0xFD && t.flags.cf) = true := by decide +kernel

/-- 95_test_vectors.md L12. -/
theorem test_shl_count_32 : after (regs (efl flat 0x8D7) 0xFF 0x20 0 0 0 0 0 0) [0xD2, 0xE0] (fun t => t.regs.eax == 0xFF &&
    t.flags.word == 0x8D7) = true := by decide +kernel

/-- 95_test_vectors.md L13. -/
theorem test_shld : after (regs flat 0x9ABCDEF0 0 0x12345678 0 0 0 0 0) [0x0F, 0xA4, 0xC2, 8] (fun t => t.regs.edx == 0x3456789A &&
    !t.flags.cf && t.regs.eax == 0x9ABCDEF0) = true := by decide +kernel

/-- 95_test_vectors.md L14. -/
theorem test_shrd : after (regs flat 0x12345678 0 0x9ABCDEF0 0 0 0 0 0) [0x0F, 0xAC, 0xD0, 4] (fun t => t.regs.eax == 0x01234567 &&
    t.flags.cf) = true := by decide +kernel

/-- 95_test_vectors.md L16. -/
theorem test_rol_one : after (eax (efl flat 0xD6) 0x81) [0xD0, 0xC0] (fun t => t.regs.eax == 3 &&
    status t == [true, true, true, true, true, true]) = true := by decide +kernel

/-- 95_test_vectors.md L17. -/
theorem test_rol_eight : after (eax flat 0x81) [0xC0, 0xC0, 8] (fun t => t.regs.eax == 0x81 && t.flags.cf) = true := by decide +kernel

/-- 95_test_vectors.md L18. -/
theorem test_ror_one : after (eax flat 1) [0xD0, 0xC8] (fun t => t.regs.eax == 0x80 && t.flags.cf &&
    t.flags.of) = true := by decide +kernel

/-- 95_test_vectors.md L19. -/
theorem test_rcl_one : after (eax flat 0x80) [0xD0, 0xD0] (fun t => t.regs.eax == 0 && t.flags.cf &&
    t.flags.of) = true := by decide +kernel

/-- 95_test_vectors.md L20. -/
theorem test_rcl_nine : after (eax (efl flat 3) 0x5A) [0xC0, 0xD0, 9] (fun t => t.regs.eax == 0x5A && t.flags.cf && !t.flags.zf &&
    !t.flags.pf) = true := by decide +kernel

/-- 95_test_vectors.md L21. -/
theorem test_rcr_one : after (eax (efl flat 3) 1) [0xD0, 0xD8] (fun t => t.regs.eax == 0x80 && t.flags.cf &&
    t.flags.of) = true := by decide +kernel

/-- 95_test_vectors.md L22. -/
theorem test_bt : after (eax flat 0x200000) [0x0F, 0xBA, 0xE0, 0x15] (fun t => t.flags.cf) = true := by decide +kernel

/-- 95_test_vectors.md L23. -/
theorem test_bt_modulo : after (eax flat 0x200000) [0x0F, 0xBA, 0xE0, 0x35] (fun t => t.flags.cf) = true := by decide +kernel

/-- 95_test_vectors.md L24. -/
theorem test_bts_below_address : after (regs flat 0xFFFFFFFF 0 0 0x1000 0 0 0 0) [0x0F, 0xAB, 0x03] (fun t => !t.flags.cf &&
    at32 t 0xFFC == 0x80000000) = true := by decide +kernel

/-- 95_test_vectors.md L25. -/
theorem test_btr : after (regs flat 0xFFFFFFFF 0 0 0x1000 0 0 0 0) [0x0F, 0xBA, 0xF0, 0] (fun t => t.flags.cf &&
    t.regs.eax == 0xFFFFFFFE) = true := by decide +kernel

/-- 95_test_vectors.md L26. -/
theorem test_btc_sets_carry : after (regs flat 1 0 0 0x1000 0 0 0 0) [0x0F, 0xBA, 0xF8, 0] (fun t => t.flags.cf &&
    t.regs.eax == 0) = true := by decide +kernel

/-- 95_test_vectors.md L26. -/
theorem test_btc_complements : after (regs flat 0 0 0 0x1000 0 0 0 0) [0x0F, 0xBA, 0xF8, 0] (fun t => !t.flags.cf &&
    t.regs.eax == 1) = true := by decide +kernel

/-- 95_test_vectors.md L27. -/
theorem test_bsf : after (regs flat 0 0 0 0x18 0 0 0 0) [0x0F, 0xBC, 0xC3] (fun t => !t.flags.zf &&
    t.regs.eax == 3) = true := by decide +kernel

/-- 95_test_vectors.md L28. -/
theorem test_bsr : after (regs flat 0 0 0 0x18 0 0 0 0) [0x0F, 0xBD, 0xC3] (fun t => !t.flags.zf &&
    t.regs.eax == 4) = true := by decide +kernel

/-- 95_test_vectors.md L29. -/
theorem test_bsf_zero : after (eax flat 0x77) [0x0F, 0xBC, 0xC3] (fun t => t.flags.zf) = true := by decide +kernel

/-- 95_test_vectors.md L30. -/
theorem test_setl : after (efl flat 0x82) [0x0F, 0x9C, 0xC1] (fun t => t.regs.ecx == 1) = true := by decide +kernel

/-- 95_test_vectors.md L31. -/
theorem test_setge : after (regs (efl flat 0x82) 0 0xFF 0 0 0 0 0 0) [0x0F, 0x9D, 0xC1]
    (fun t => t.regs.ecx == 0) = true := by decide +kernel

/-- 95_test_vectors.md T1. -/
theorem test_jmp_short : after (ipAt flat 0x1000) [0xEB, 0xFE] (fun t => t.eip == 0x1000) = true := by decide +kernel

/-- 95_test_vectors.md T2. -/
theorem test_call : after (regs flat 0 0 0 0 0x2000 0 0 0) [0xE8, 0x10, 0, 0, 0] (fun t => t.eip == 0x115 && t.regs.esp == 0x1FFC &&
    at32 t 0x1FFC == 0x105) = true := by decide +kernel

/-- 95_test_vectors.md T3. -/
theorem test_ret : after (bytesAt (regs flat 0 0 0 0 0x1FFC 0 0 0) 0x1FFC [5,1]) [0xC3] (fun t => t.eip == 0x105 &&
    t.regs.esp == 0x2000) = true := by decide +kernel

/-- 95_test_vectors.md T4. -/
theorem test_ret_imm : after (bytesAt (regs flat 0 0 0 0 0x1FFC 0 0 0) 0x1FFC [5,1]) [0xC2,8,0] (fun t => t.eip == 0x105 &&
    t.regs.esp == 0x2008) = true := by decide +kernel

/-- 95_test_vectors.md T5. -/
theorem test_jmp_cuts_to_16_bits : after (ipAt flat 0xFFF0) [0x66,0xE9,0xFD,0xFF] (fun t => t.eip == 0xFFF1) = true := by decide +kernel

/-- 95_test_vectors.md T6. -/
theorem test_jb_taken : after (efl (ipAt flat 0) 0x83) [0x72,0x10] (fun t => t.eip == 0x12) = true := by decide +kernel

/-- 95_test_vectors.md T6c. -/
theorem test_ja_not_taken : after (efl (ipAt flat 0) 0x83) [0x77,0x10] (fun t => t.eip == 2) = true := by decide +kernel

/-- 95_test_vectors.md T7. -/
theorem test_jecxz : after (ipAt flat 0) [0xE3,5] (fun t => t.eip == 7) = true := by decide +kernel

/-- 95_test_vectors.md T8. -/
theorem test_jcxz_16 : after (regs (ipAt flat 0) 0 0x10000 0 0 0 0 0 0) [0x67,0xE3,5] (fun t => t.eip == 8) = true := by decide +kernel

/-- 95_test_vectors.md T9. -/
theorem test_loop_last : after (regs (efl (ipAt flat 0) 0x8D7) 0 1 0 0 0 0 0 0) [0xE2,0xFE] (fun t => t.eip == 2 &&
    t.regs.ecx == 0 && t.flags.word == 0x8D7) = true := by decide +kernel

/-- 95_test_vectors.md T10. -/
theorem test_loop_wraps : after (ipAt flat 0) [0xE2,0xFE] (fun t => t.eip == 0 && t.regs.ecx == 0xFFFFFFFF) = true := by decide +kernel

/-- 95_test_vectors.md T11. -/
theorem test_loope_stops : after (regs (ipAt flat 0) 0 5 0 0 0 0 0 0) [0xE1,0xFE] (fun t => t.eip == 2 &&
    t.regs.ecx == 4) = true := by decide +kernel

/-- 95_test_vectors.md T12. -/
theorem test_loopne_goes_on : after (regs (ipAt flat 0) 0 5 0 0 0 0 0 0) [0xE0,0xFE] (fun t => t.eip == 0 &&
    t.regs.ecx == 4) = true := by decide +kernel

/-- 95_test_vectors.md T13. -/
theorem test_bound_inside : after (bytesAt (regs flat 5 0 0 0x1000 0 0 0 0) 0x1004 [9]) [0x62,3]
    (fun t => t.eip == 0x102) = true := by decide +kernel

/-- 95_test_vectors.md T14. -/
theorem test_bound_outside : faults (bytesAt (regs flat 10 0 0 0x1000 0 0 0 0) 0x1004 [9]) [0x62,3] 5 none = true := by decide +kernel

/-- 95_test_vectors.md T16. -/
theorem test_into_without_overflow : after flat [0xCE] (fun t => t.eip == 0x101) = true := by decide +kernel

/-- 95_test_vectors.md T18. -/
theorem test_iret_real : after (bytesAt (regs real 0 0 0 0 0xFA 0 0 0) 0xFA [7,0,0,0x10,2,2]) [0xCF] (fun t => t.eip == 7 &&
    t.segs.cs.sel == 0x1000 && t.segs.cs.base == 0x10000 && t.flags.word == 0x202 && t.regs.esp == 0x100) = true := by decide +kernel

/-- 95_test_vectors.md S2. -/
theorem test_rep_zero_count : after flat [0xF3,0xA5] (fun t => t.eip == 0x102 && t.regs == flat.regs) = true := by decide +kernel

/-- 95_test_vectors.md S5. -/
theorem test_lodsb_down : after (bytesAt (regs (efl flat 0x402) 0 0 0 0 0 0 0x1000 0) 0x1000 [0x7F]) [0xAC]
    (fun t => t.regs.eax == 0x7F && t.regs.esi == 0xFFF) = true := by decide +kernel

/-- 95_test_vectors.md S6. -/
theorem test_stosw_16 : after (regs flat 0x1234 0 0 0 0 0 0 0x2000) [0x66,0xAB] (fun t => at32 t 0x2000 == 0x1234 &&
    t.regs.edi == 0x2002) = true := by decide +kernel

/-- 95_test_vectors.md S7. -/
theorem test_stosw_16_wraps : after (regs (efl real 0x402) 0x1234 0 0 0 0 0 0 0xABCD0000) [0xAB] (fun t => at16 t 0 == 0x1234 &&
    t.regs.edi == 0xABCDFFFE) = true := by decide +kernel

/-- 95_test_vectors.md S8. -/
theorem test_rep_nop : refused flat [0xF3, 0x90] .repeatPrefixMisuse = true := by decide +kernel

/-- 95_test_vectors.md F1. -/
theorem test_stc : after flat [0xF9] (fun t => t.flags.cf) = true := by decide +kernel

/-- 95_test_vectors.md F1. -/
theorem test_cmc : after (efl flat 3) [0xF5] (fun t => !t.flags.cf) = true := by decide +kernel

/-- 95_test_vectors.md F1c. -/
theorem test_clc : after (efl flat 3) [0xF8] (fun t => !t.flags.cf) = true := by decide +kernel

/-- 95_test_vectors.md F3. -/
theorem test_lahf : after (efl flat 0x93) [0x9F] (fun t => t.regs.eax == 0x9300) = true := by decide +kernel

/-- 95_test_vectors.md F4. -/
theorem test_sahf : after (eax (efl flat 0x896) 0x4100) [0x9E]
    (fun t => status t == [true,false,false,true,false,true]) = true := by decide +kernel

/-- 95_test_vectors.md F5. -/
theorem test_pushfd_clears_rf : after (regs (efl flat 0x13202) 0 0 0 0 0x1000 0 0 0) [0x9C]
    (fun t => at32 t 0xFFC == 0x3202) = true := by decide +kernel

/-- 95_test_vectors.md F6. -/
theorem test_popfd : after (bytesAt (regs flat 0 0 0 0 0x1000 0 0 0) 0x1000 [2,0x32,0x24,0]) [0x9D]
    (fun t => t.flags.word == 0x243202) = true := by decide +kernel

/-- 95_test_vectors.md F10. -/
theorem test_cpuid_vendor : after flat [0x0F,0xA2] (fun t => t.regs.eax == 1 && t.regs.ebx == 0x756E6547 &&
    t.regs.edx == 0x49656E69 && t.regs.ecx == 0x6C65746E) = true := by decide +kernel

/-- 95_test_vectors.md F13. -/
theorem test_xlat : after (bytesAt (regs flat 5 0 0 0x1000 0 0 0 0) 0x1005 [0xC5]) [0xD7]
    (fun t => t.regs.eax == 0xC5) = true := by decide +kernel

/-- 95_test_vectors.md Y1. -/
theorem test_lgdt_32 : after (bytesAt real 0x1000 [0x27,0,0,0x10,0,0]) [0x66, 0x0F,1,0x16,0,0x10]
    (fun t => t.gdtr == { base := 0x1000, limit := 0x27 }) = true := by decide +kernel

/-- 95_test_vectors.md Y2. -/
theorem test_lgdt_24 : after (bytesAt real 0x1000 [0x27,0,0,0x10,0,0xFF]) [0x0F,1,0x16,0,0x10]
    (fun t => t.gdtr == { base := 0x1000, limit := 0x27 }) = true := by decide +kernel

/-- 95_test_vectors.md Y3. -/
theorem test_lgdt_register_form : faults flat [0x0F,1,0xD0] 6 none = true := by decide +kernel

/-- 95_test_vectors.md Y5. -/
theorem test_cr4_reserved_bit : faults (eax flat 0x80) [0x0F,0x22,0xE0] 13 (some 0) = true := by decide +kernel

/-- 95_test_vectors.md Y6. -/
theorem test_cr0_pg_without_pe : faults (eax flat 0x80000010) [0x0F,0x22,0xC0] 13 (some 0) = true := by decide +kernel

/-- 95_test_vectors.md Y7. -/
theorem test_arpl_raises : after (regs flat 8 0x23 0 0 0 0 0 0) [0x63,0xC8] (fun t => t.regs.eax == 0xB &&
    t.flags.zf) = true := by decide +kernel

/-- 95_test_vectors.md Y8. -/
theorem test_arpl_keeps : after (regs flat 0xB 8 0 0 0 0 0 0) [0x63,0xC8] (fun t => t.regs.eax == 0xB &&
    !t.flags.zf) = true := by decide +kernel

/-- 95_test_vectors.md Y10. -/
theorem test_in_imm : after { flat with inp := { flat.inp with ports := [0x1C] } } [0xE4,0x60]
    (fun t => t.regs.eax == 0x1C) = true := by decide +kernel

/-- 95_test_vectors.md Y11. -/
theorem test_out_dx : after (regs flat 0x80000000 0 0xCF8 0 0 0 0 0) [0xEF]
    (fun t => t.bus == [.ioWrite 0xCF8 4 0x80000000]) = true := by decide +kernel

/-- 95_test_vectors.md Y15. -/
theorem test_rdmsr_unknown : faults flat [0x0F,0x32] 13 (some 0) = true := by decide +kernel

/-- 95_test_vectors.md N1. -/
theorem test_fld1 : after flat [0xD9, 0xE8] (fun t => t.fpu.sw.top == 7 && t.fpu.regs[7] == 0x3FFF8000000000000000 &&
    t.fpu.tagWord == 0x3FFF && !t.fpu.sw.c1) = true := by decide +kernel

/-- 95_test_vectors.md N2. -/
theorem test_fld_sti : after (pushed flat [0x3FFF8000000000000000]) [0xD9, 0xC0] (fun t => t.fpu.sw.top == 6 &&
    t.fpu.regs[7] == 0x3FFF8000000000000000 && t.fpu.regs[6] == 0x3FFF8000000000000000 &&
    t.fpu.tagWord == 0x0FFF) = true := by decide +kernel

/-- 95_test_vectors.md N4. -/
theorem test_fdivp_by_zero_masked : after (pushed flat [0x3FFF8000000000000000, 0]) [0xDE, 0xF9] (fun t => t.fpu.sw.top == 7 &&
    t.fpu.st 0 == 0x7FFF8000000000000000 && !t.fpu.sw.ie && t.fpu.sw.ze && !t.fpu.sw.es) = true := by decide +kernel

/-- 95_test_vectors.md N5. -/
theorem test_fdivp_by_zero_unmasked : after (pushed { flat with fpu := { flat.fpu with cw := 0x037B } } [0x3FFF8000000000000000, 0])
    [0xDE, 0xF9] (fun t => t.fpu.sw.top == 6 && t.fpu.st 0 == 0 && t.fpu.st 1 == 0x3FFF8000000000000000 && t.fpu.sw.ze &&
    t.fpu.sw.es) = true := by decide +kernel

/-- 95_test_vectors.md N6. -/
theorem test_fld1_overflow : after (pushed flat (List.replicate 8 0x3FFF8000000000000000)) [0xD9, 0xE8]
    (fun t => t.fpu.sw.top == 7 && t.fpu.st 0 == 0xFFFFC000000000000000 && t.fpu.sw.ie && t.fpu.sw.sf &&
    t.fpu.sw.c1) = true := by decide +kernel

/-- 95_test_vectors.md N7. -/
theorem test_fadd_underflow : after flat [0xD8, 0xC1] (fun t => t.fpu.st 0 == 0xFFFFC000000000000000 && t.fpu.sw.ie && t.fpu.sw.sf &&
    !t.fpu.sw.c1) = true := by decide +kernel

/-- 95_test_vectors.md N8. -/
theorem test_fnstsw : after (pushed flat [0x3FFF8000000000000000]) [0xDF, 0xE0]
    (fun t => t.regs.eax == 0x3800) = true := by decide +kernel

/-- 95_test_vectors.md N9. -/
theorem test_fsubr_single : after (bytesAt (pushed flat [0x4001A000000000000000]) 0x1000 [0,0,0xC0,0x3F]) [0xD8,0x2D,0,0x10,0,0] (fun
    t => t.fpu.st 0 == 0xC000E000000000000000 && !t.fpu.sw.pe) = true := by decide +kernel

/-- 95_test_vectors.md N10. -/
theorem test_fild_word : after (bytesAt (regs flat 0 0 0 0 0 0 0x1000 0) 0x1000 [0x82,0xFF]) [0xDF,0x06]
    (fun t => t.fpu.st 0 == 0xC005FC00000000000000) = true := by decide +kernel

/-- 40_data_movement.md R530. -/
theorem test_pusha : after (regs flat 1 2 3 4 0x2000 5 6 7) [0x60] (fun t => t.regs.esp == 0x1FE0 &&
    (List.range 8).map (fun i => at32 t (0x1FE0 + 4 * i)) == [7, 6, 5, 0x2000, 4, 3, 2, 1]) = true := by decide +kernel

/-- 43_control_transfer.md R756. -/
theorem test_enter : after (bytesAt (regs flat 0 0 0 0 0x1000 0x2000 0 0) 0x1FFC [0, 0, 0xAA, 0xAA]) [0xC8, 8, 0, 2] (fun t =>
    t.regs.esp == 0xFEC && t.regs.ebp == 0xFFC && at32 t 0xFFC == 0x2000 && at32 t 0xFF8 == 0xAAAA0000 && at32 t 0xFF4 == 0xFFC) = true := by
  decide +kernel

/-- 43_control_transfer.md R756. -/
theorem test_leave : after (bytesAt (regs flat 0 0 0 0 0xFEC 0xFFC 0 0) 0xFFC [0, 0x20]) [0xC9] (fun t =>
    t.regs.esp == 0x1000 && t.regs.ebp == 0x2000) = true := by decide +kernel

/-- 60_exceptions.md R1271. -/
theorem test_int_real : after (bytesAt (efl { regs real 0 0 0 0 0x100 0 0 0 with
      eip := 5, segs := { real.segs with cs := { Seg.reset with sel := 0x1000, base := 0x10000 } } } 0x202) 0x84 [0x34, 0x12, 0x78, 0x56])
    [0xCD, 0x21] (fun t => at16 t 0xFE == 0x202 && at16 t 0xFC == 0x1000 && at16 t 0xFA == 7 && t.regs.esp == 0xFA && t.flags.word == 2 &&
      t.segs.cs.sel == 0x5678 && t.segs.cs.base == 0x56780 && t.eip == 0x1234) = true := by decide +kernel

/-- 44_string.md R770: the first of three iterations. -/
theorem test_rep_movsd : after (bytesAt (regs flat 0 3 0 0 0 0 0x1000 0x2000) 0x1000 [0x11, 0x11, 0x11, 0x11]) [0xF3, 0xA5] (fun t =>
    at32 t 0x2000 == 0x11111111 && t.regs == ⟨0, 2, 0, 0, 0, 0, 0x1004, 0x2004⟩ && t.eip == 0x100) = true := by decide +kernel

/-- 44_string.md R771: the third iteration of REPE CMPSB ends the repetition. -/
theorem test_repe_cmpsb : after (bytesAt (bytesAt (regs flat 0 2 0 0 0 0 0x1002 0x2002) 0x1002 [0x43]) 0x2002 [0x58]) [0xF3, 0xA6] (fun t =>
    t.regs == ⟨0, 1, 0, 0, 0, 0, 0x1003, 0x2003⟩ && !t.flags.zf && t.flags.cf && t.eip == 0x102) = true := by decide +kernel

/-- 95_test_vectors.md S4: the last iteration. -/
theorem test_repne_scasb : after (regs flat 0 0xFFFFFFFA 0 0 0 0 0 0x2005) [0xF2, 0xAE] (fun t =>
    t.regs.ecx == 0xFFFFFFF9 && t.regs.edi == 0x2006 && t.flags.zf && t.eip == 0x102) = true := by decide +kernel

/-- 45_flag_segment_misc.md R870 (a). -/
theorem test_popf_level3 : after (efl (regs (flatAt 3) 0 0 0 0 0x1000 0 0 0) 0x4ED7) [0x66, 0x9D] (fun t => t.flags.word == 0x202) = true := by
  decide +kernel

/-- 45_flag_segment_misc.md R811: INTR is held off for one instruction. -/
theorem test_sti_shadow : after { flat with inp := { flat.inp with intr := some 0x21 } } [0xFB] (fun t =>
    t.flags.ifl && t.inhibitSti && t.inp.intr == some 0x21) = true := by decide +kernel

/-- 95_test_vectors.md Y4. -/
theorem test_mov_cr_level3 : userGp user [0x0F, 0x20, 0xC0] = true := by decide +kernel

/-- 95_test_vectors.md Y13. -/
theorem test_hlt_level3 : userGp user [0xF4] = true := by decide +kernel

/-- 95_test_vectors.md Y14. -/
theorem test_rdtsc_disabled : userGp { user with cr := { user.cr with cr4 := 4 } } [0x0F, 0x31] = true := by decide +kernel

/-- 95_test_vectors.md F8. -/
theorem test_cli_level3 : userGp user [0xFA] = true := by decide +kernel

/-- 46_system_io.md R960: the bit in the map is set. -/
theorem test_in_forbidden : userGp (bytesAt (bytesAt user 0x10066 [0x68, 0]) 0x10076 [2, 0]) [0xE4, 0x71] = true := by decide +kernel

/-- 46_system_io.md R960: the bit in the map is clear. -/
theorem test_in_permitted : after { bytesAt user 0x10066 [0x68, 0] with inp := { user.inp with ports := [0x5A] } } [0xE4, 0x71] (fun t =>
    t.regs.eax == 0x5A && t.eip == 0x102) = true := by decide +kernel

/-- 60_exceptions.md R1270. -/
theorem test_divide_error_ring3 : after (gate (tables (efl (regs { flatAt 3 with
      eip := 0x1000, segs := { (flatAt 3).segs with cs := flatSeg 0x1B 11 3, ss := flatSeg 0x23 3 3 } } 0 0 0 0 0xFFF0 0 0 0) 0x246)) 0
      0x402000 0x8E) [0xF7, 0xF1] (fun t =>
    [at32 t 0x7FFC, at32 t 0x7FF8, at32 t 0x7FF4, at32 t 0x7FF0, at32 t 0x7FEC] == [0x23, 0xFFF0, 0x246, 0x1B, 0x1000] &&
    t.regs.esp == 0x7FEC && t.segs.ss.sel == 0x10 && t.segs.cs.sel == 8 && t.eip == 0x402000 && t.cpl == 0 && t.flags.word == 0x46) = true := by
  decide +kernel

/-- 21_segmentation.md R245. -/
theorem test_mov_ds : after (bytesAt (eax { flat with gdtr := { base := 0x1000, limit := 0x27 } } 0x10) 0x1010
    [0xFF, 0xFF, 0, 0, 0, 0x92, 0xCF, 0]) [0x8E, 0xD8] (fun t => at8 t 0x1015 == 0x93 && t.segs.ds.base == 0 &&
      t.segs.ds.limit == 0xFFFFFFFF && t.segs.ds.sel == 0x10) = true := by decide +kernel

/-- 46_system_io.md R961. -/
theorem test_lsl : after (regs (tables flat) 0 0x10 0 0 0 0 0 0) [0x0F, 0x03, 0xD9] (fun t => t.regs.ebx == 0xFFFFFFFF && t.flags.zf) = true := by
  decide +kernel

/-- 46_system_io.md R961: RPL 3 through a descriptor of level 0. -/
theorem test_lar_refused : after (regs (tables flat) 7 0x13 0 0 0 0 0 0) [0x0F, 0x02, 0xC1] (fun t => t.regs.eax == 7 && !t.flags.zf) = true := by
  decide +kernel

/-- 22_paging.md R276: a user read. -/
theorem test_translate : (match translate 0x403123 { write := false, user := true, fetch := false } paged with
    | .ok v t => v == 0xABC123 && at32 t 0x500C == 0xABC025
    | _ => false) = true := by decide +kernel

/-- 22_paging.md R276: a user write. -/
theorem test_translate_fault : (match translate 0x403123 { write := true, user := true, fetch := false } paged with
    | .error e t => e == .exc { vec := 14, code := some 7, dbg := none } && at32 t 0x500C == 0xABC005 && t.cr.cr2 == 0x403123
    | _ => false) = true := by decide +kernel

/-- 20_memory.md R225. -/
theorem test_push_16_wraps : after (regs real 0x1234 0 0 0 0x12340000 0 0 0) [0x50] (fun t =>
    at16 t 0xFFFE == 0x1234 && t.regs.esp == 0x1234FFFE) = true := by decide +kernel

/-- 23_protection.md R351: a data segment of limit FFFH, expand up and expand down. -/
theorem test_limits :
    let up : Seg := { flatSeg 0x10 3 0 with limit := 0xFFF, attr := { (flatSeg 0x10 3 0).attr with db := false } }
    let down : Seg := { up with attr := { up.attr with typ := 7 } }
    (inLimit up 0xFFF 1 && !inLimit up 0xFFF 2 && !inLimit up 0xFFD 4 && inLimit up 0xFFC 4 && !inLimit down 0xFFFF 2 &&
      !inLimit down 0xFFF 1 && inLimit down 0x1000 1) = true := by decide +kernel

/-- Task B's saved state in the TSS at 30000H. -/
def twoTasks : State :=
  let t := bytesAt (tables (regs flat 1 2 3 4 0x9000 6 7 8)) 0x30020 [0, 0x50, 0, 0, 2]
  bytesAt (bytesAt t 0x30048 [0x10, 0, 0, 0, 8, 0, 0, 0, 0x10, 0]) 0x30054 [0x10, 0, 0, 0, 0x10, 0, 0, 0, 0x10]

/-- 61_tasks.md R1350: the far CALL to a TSS. -/
theorem test_call_task : after twoTasks [0x9A, 0, 0, 0, 0, 0x30, 0] (fun t => at32 t 0x10020 == 0x107 && at32 t 0x10028 == 1 &&
    at8 t 0x3035 == 0x8B && at8 t 0x302D == 0x8B && at16 t 0x30000 == 0x28 && t.tr.sel == 0x30 && t.tsFlag && t.flags.nt &&
    t.eip == 0x5000) = true := by decide +kernel

/-- Task B runs: nested in task A, whose state the TSS at 10000H holds. -/
def nested : State :=
  let t : State := { efl twoTasks 0x4002 with tr := { twoTasks.tr with sel := 0x30, base := 0x30000, limit := 0x67 } }
  let t := bytesAt (bytesAt t 0x30000 [0x28]) 0x3035 [0x8B]
  bytesAt (bytesAt t 0x10020 [7, 1, 0, 0, 2, 0, 0, 0, 1]) 0x10048 [0x10, 0, 0, 0, 8, 0, 0, 0, 0x10, 0, 0, 0, 0x10]

/-- 61_tasks.md R1350: the IRET of the nested task. -/
theorem test_iret_task : after nested [0xCF] (fun t => t.tr.sel == 0x28 && t.eip == 0x107 && at8 t 0x3035 == 0x89 && !t.flags.nt &&
    t.regs.eax == 1 && at32 t 0x30024 == 2) = true := by decide +kernel

/-- A virtual-8086 task at 1000:0102 (62_v86.md R1430). -/
def task86 (f : Word) : State :=
  let s : State := { efl (regs flat 0 0 0 0 0xFFFE 0 0 0) f with
    cpl := 3, eip := 0x102
    segs := { es := .ofV86 0x4000, cs := .ofV86 0x1000, ss := .ofV86 0x2000, ds := .ofV86 0x3000, fs := .ofV86 0, gs := .ofV86 0 } }
  gate (gate (tables s) 0x21 0x401000 0xEF) 13 0x9000 0x8E

/-- 62_v86.md R1430, IOPL = 3. -/
theorem test_int_v86 : after (task86 0x23202) [0xCD, 0x21] (fun t =>
    (List.range 9).map (fun i => at32 t (0x7FFC - 4 * i)) == [0, 0, 0x3000, 0x4000, 0x2000, 0xFFFE, 0x23202, 0x1000, 0x104] &&
    t.regs.esp == 0x7FDC && t.segs.ss.sel == 0x10 && t.segs.cs.sel == 8 && t.eip == 0x401000 && t.cpl == 0 && t.flags.word == 0x3202 &&
    t.segs.ds.sel == 0 && !t.segs.ds.usable) = true := by decide +kernel

/-- 62_v86.md R1430, IOPL = 0. -/
theorem test_int_v86_iopl : after (task86 0x20202) [0xCD, 0x21] (fun t =>
    (List.range 10).map (fun i => at32 t (0x7FFC - 4 * i)) == [0, 0, 0x3000, 0x4000, 0x2000, 0xFFFE, 0x20202, 0x1000, 0x102, 0] &&
    t.eip == 0x9000) = true := by decide +kernel

/-- 45_flag_segment_misc.md R870 (c). -/
theorem test_popf_v86 : after (task86 0x22202) [0x9D] (fun t => t.eip == 0x9000 && at32 t 0x7FE8 == 0xFFFE && at32 t 0x7FDC == 0x102) = true := by
  decide +kernel

/-- The state of 64_debug.md R1497. -/
def watched : State :=
  gate (tables { regs flat 0x5A 0 0 0 0x8000 0 0 0 with dr := { DbgRegs.reset with dr0 := 0x12346, dr7 := 0xD0401 } }) 1 0x9000 0x8E

/-- 64_debug.md R1497: the store completes and leaves the trap pending. -/
theorem test_watchpoint : after watched [0xA2, 0x47, 0x23, 1, 0] (fun t => at8 t 0x12347 == 0x5A && t.eip == 0x105 &&
    t.pendingDb == some { DbgCause.none with b := 1, armed := true }) = true := by decide +kernel

/-- 64_debug.md R1497: then the debug exception is delivered. -/
theorem test_debug_trap : after { watched with eip := 0x105, pendingDb := some { DbgCause.none with b := 1, armed := true } } [] (fun t =>
    t.eip == 0x9000 && t.dr.dr6 == 0xFFFF0FF1 && at32 t 0x7FF4 == 0x105 && t.recurs == []) = true := by decide +kernel

/-- The trap of R1497 is due at 105H, or recurs there; the gate of vector 1 is not present if `p` is 0EH. -/
def dueAt (p : Nat) (recurs : Bool) : State :=
  let c : DbgCause := { DbgCause.none with b := 1, armed := true }
  let s := gate (gate watched 1 0x9000 p) 11 0xA000 0x8E
  { s with eip := 0x105, pendingDb := if recurs then none else some c, recurs := if recurs then [⟨0x105, c⟩] else [] }

/-- 60_exceptions.md R1232: the #NP met on the way is delivered, and the trap is kept. -/
theorem test_trap_kept : after (dueAt 0x0E false) [] (fun t => t.eip == 0xA000 && at32 t 0x7FF4 == 0x105 && at32 t 0x7FF0 == 0xB && t.pendingDb == none &&
    t.recurs == [⟨0x105, { DbgCause.none with b := 1, armed := true }⟩]) = true := by decide +kernel

/-- 60_exceptions.md R1232: the first exception recurs after the handler of the second returned. -/
theorem test_trap_recurs : after (dueAt 0x8E true) [0x90] (fun t => t.eip == 0x9000 && at32 t 0x7FF4 == 0x105 && t.recurs == []) = true := by
  decide +kernel

/-- 64_debug.md R1491, D51: with a trap held over a load of SS, a breakpoint that is not enabled and matched in the shadow is reported too. -/
theorem test_disabled_match :
    ({ flat with pendingDb := some { DbgCause.none with b := 1, armed := true } }).trapAfter { flat with cur := { flat.cur with hits := 2 } } =
      some { DbgCause.none with b := 3, armed := true } := by decide +kernel

/-- 64_debug.md R1498: an instruction that began with TF set leaves the trap. -/
theorem test_single_step : after (efl flat 0x102) [0x90] (fun t => t.pendingDb == some { b := 0, bd := false, bs := true, bt := false } &&
    t.eip == 0x101) = true := by decide +kernel

/-- 70_reset_and_hazards.md R1680: the first instruction after RESET. -/
theorem test_first_jump : after State.reset [0xEA, 0, 1, 0, 0xF0] (fun t => t.segs.cs.sel == 0xF000 && t.segs.cs.base == 0xF0000 &&
    t.eip == 0x100) = true := by decide +kernel

/-- 70_reset_and_hazards.md R1680. -/
theorem test_first_short_jump : after State.reset [0xEB, 0x0E] (fun t => t.segs.cs.base == 0xFFFF0000 && t.eip == 0) = true := by decide +kernel

/-- 95_test_vectors.md Program 5, FADDP. -/
theorem test_faddp : after (pushed flat [0x3FFF8000000000000000, 0x3FFF8000000000000000]) [0xDE, 0xC1] (fun t =>
    t.fpu.st 0 == 0x40008000000000000000 && t.fpu.sw.top == 7 && !t.fpu.sw.pe) = true := by decide +kernel

/-- 95_test_vectors.md Program 5, FISTP. -/
theorem test_fistp : after (pushed flat [0x40008000000000000000]) [0xDF, 0x1D, 0, 0x10, 0, 0] (fun t =>
    at16 t 0x1000 == 2 && t.fpu.sw.top == 0 && t.fpu.tagWord == 0xFFFF && t.fpu.fip == 0x100 && t.fpu.fdp == 0x1000 &&
    t.fpu.fop == 0x71D) = true := by decide +kernel

/-- 20_memory.md R204: the quadword at address 6. -/
theorem test_little_endian : (match physRead 6 8 (bytesAt flat 6 [0x0B, 0x23, 0xA4, 0x1F, 0x36, 0x06, 0xFE, 0x7A]) with
    | .ok v _ => v == 0x7AFE06361FA4230B
    | _ => false) = true := by decide +kernel

/-- 70_reset_and_hazards.md R1645, Program 4: PE is set and protected mode entered. -/
theorem test_enter_protected : after (eax real 0x60000011) [0x0F, 0x22, 0xC0] (fun t => t.pe && t.cpl == 0 && t.segs == real.segs) = true := by
  decide +kernel

/-- 62_v86.md R1401: PE set while VM is set. -/
theorem test_enter_v86_by_cr0 : after (eax (efl real 0x20002) 0x60000011) [0x0F, 0x22, 0xC0] (fun t => t.v86 && t.cpl == 3) = true := by
  decide +kernel

/-- 64_debug.md R1489: of two late matches the one of this instruction is reported. -/
theorem test_late_match : after { flat with late := [⟨0x200, 1, true⟩, ⟨0x100, 2, true⟩] } [0x90] (fun t =>
    t.pendingDb == some { DbgCause.none with b := 2, armed := true } && t.late == [⟨0x200, 1, true⟩]) = true := by decide +kernel

/-- 12_state_fpu.md R1010: FENI is no control instruction. -/
theorem test_feni_pointers : after flat [0xDB, 0xE0] (fun t => t.fpu.fip == 0x100 && t.fpu.fcs == 8 && t.fpu.fop == 0x3E0 && t.eip == 0x102) = true := by
  decide +kernel

/-- 47_fpu_numerics.md R1041: FYL2XP1 of minus infinity and plus infinity. -/
theorem test_fyl2xp1_inf : after (pushed flat [Ext.inf true, Ext.inf false]) [0xD9, 0xF9] (fun t => t.fpu.st 0 == Ext.inf true && !t.fpu.sw.ie) = true := by
  decide +kernel

/-! ## Witnesses: a state and operands that meet the hypotheses of each statement -/

/-- The computation answers with a value and a state that `c` accepts. -/
def okAnd {α : Type} (m : M α) (s : State) (c : α → State → Bool) : Bool :=
  match m s with
  | .ok a t => c a t
  | .error _ _ => false

theorem of_okAnd {α : Type} {m : M α} {s : State} {c : α → State → Bool} (h : okAnd m s c = true) : ∃ a t, m s = .ok a t ∧ c a t = true := by
  unfold okAnd at h
  split at h
  · exact ⟨_, _, ‹_›, h⟩
  · cases h

theorem ok1 {α : Type} {m : M α} {s : State} (h : okAnd m s (fun _ _ => true) = true) : ∃ a t, m s = .ok a t := by
  obtain ⟨a, t, h, -⟩ := of_okAnd h
  exact ⟨a, t, h⟩

theorem ok2 {α β : Type} {m : M α} {s : State} {f : α → M β} {c : β → State → Bool}
    (h : okAnd m s (fun a t => okAnd (f a) t c) = true) : ∃ a t b u, m s = .ok a t ∧ f a t = .ok b u ∧ c b u = true := by
  obtain ⟨a, t, h1, h⟩ := of_okAnd h
  obtain ⟨b, u, h2, h⟩ := of_okAnd h
  exact ⟨a, t, b, u, h1, h2, h⟩

theorem ok3 {α β γ : Type} {m : M α} {s : State} {f : α → M β} {g : α → β → M γ} {c : β → γ → State → Bool}
    (h : okAnd m s (fun a t => okAnd (f a) t fun b u => okAnd (g a b) u (c b)) = true) :
    ∃ a t b u x v, m s = .ok a t ∧ f a t = .ok b u ∧ g a b u = .ok x v ∧ c b x v = true := by
  obtain ⟨a, t, h1, h⟩ := of_okAnd h
  obtain ⟨b, u, h2, h⟩ := of_okAnd h
  obtain ⟨x, v, h3, h⟩ := of_okAnd h
  exact ⟨a, t, b, u, x, v, h1, h2, h3, h⟩

/-- An r/m operand of width `w` can be located for `k` in `s`, read, and `c` accepts its value. -/
def Readable (w : Nat) (rm : RM) (k : Kind) (s : State) (c : BitVec w → State → Bool) : Prop :=
  ∃ p s1 d s2, locate w rm k s = .ok p s1 ∧ p.get w s1 = .ok d s2 ∧ c d s2 = true

theorem readable {w : Nat} {rm : RM} {k : Kind} {s : State} {c : BitVec w → State → Bool}
    (h : okAnd (locate w rm k) s (fun (p : Place) t => okAnd (p.get w) t c) = true) : Readable w rm k s c := ok2 (f := fun p : Place => p.get w) h

/-- Operand bytes can be reached for `k` in `s` and read, and `c` accepts their value. -/
def Loadable (sz : Size) (sr : SReg) (off : Word) (n al : Nat) (k : Kind) (s : State) (c : Nat → State → Bool) : Prop :=
  ∃ ps s1 v s2, access sz sr off n al k s = .ok ps s1 ∧ load ps s1 = .ok v s2 ∧ c v s2 = true

theorem loadable {sz : Size} {sr : SReg} {off : Word} {n al : Nat} {k : Kind} {s : State} {c : Nat → State → Bool}
    (h : okAnd (access sz sr off n al k) s (fun ps t => okAnd (load ps) t c) = true) : Loadable sz sr off n al k s c := ok2 (f := load) h

/-- Operand bytes can be reached. -/
def Reachable (sz : Size) (sr : SReg) (off : Word) (n al : Nat) (k : Kind) (s : State) : Prop := ∃ ps s1, access sz sr off n al k s = .ok ps s1

theorem reachable {sz : Size} {sr : SReg} {off : Word} {n al : Nat} {k : Kind} {s : State}
    (h : okAnd (access sz sr off n al k) s (fun _ _ => true) = true) : Reachable sz sr off n al k s := ok1 h

/-- An operand that is read in two parts can be read, and `c` accepts its values. -/
theorem readTwice {m : MemOp} {n k : Nat} {s u : State} {c : Nat → Nat → State → Bool}
    (h : okAnd (access s.as (s.eaSeg m) (s.eaOff m) n n .r) u (fun ps t => okAnd (load ps) t fun v t =>
      decide ((s.eaOff m).toNat + n + k ≤ 2 ^ s.as.bits) && okAnd (access s.as (s.eaSeg m) (s.eaOff m + BitVec.ofNat 32 n) k k .r) t
        fun qs t => okAnd (load qs) t fun w t => c v w t) = true) : ∃ v w t, ReadTwice m n k s u v w t ∧ c v w t = true := by
  obtain ⟨ps, s1, h1, h⟩ := of_okAnd h
  obtain ⟨v, s2, h2, h⟩ := of_okAnd h
  simp only [Bool.and_eq_true, decide_eq_true_eq] at h
  obtain ⟨qs, s3, h3, h'⟩ := of_okAnd h.2
  obtain ⟨w, s4, h4, h'⟩ := of_okAnd h'
  exact ⟨v, w, s4, ⟨ps, s1, s2, qs, s3, h1, h2, h.1, h3, h4⟩, h'⟩

/-- The second part of such an operand runs past the last offset. -/
theorem readPast {m : MemOp} {n k : Nat} {s u : State} (hp : 2 ^ s.as.bits < (s.eaOff m).toNat + n + k)
    (h : okAnd (access s.as (s.eaSeg m) (s.eaOff m) n n .r) u (fun ps t => okAnd (load ps) t fun _ _ => true) = true) : ∃ t, ReadPast m n k s u t := by
  obtain ⟨ps, s1, v, t, h1, h2, -⟩ := ok2 (f := load) (c := fun _ _ => true) h
  exact ⟨t, ps, s1, v, h1, h2, hp⟩

/-- A descriptor is named and read, and `c` accepts it. -/
theorem named {s u : State} {sel : Half} {c : Desc → State → Bool} (h1 : 4 ≤ sel.toNat ∧ inTable s sel = true)
    (h : okAnd (readDescAt (descLinear s sel)) u c = true) : ∃ d t, Named s sel u d t ∧ c d t = true := by
  obtain ⟨d, t, h2, h⟩ := of_okAnd h
  exact ⟨d, t, ⟨h1.1, h1.2, h2⟩, h⟩

/-- The place of an Accessed bit is found. -/
theorem accessed {d : Desc} {u : State} {c : List Word → State → Bool} (h : okAnd (accessedPlace d) u c = true) :
    ∃ ps t, accessedAt d u ps t ∧ c ps t = true := by
  obtain ⟨ps, t, h1, h⟩ := of_okAnd h
  refine ⟨ps, t, ?_, h⟩
  unfold accessedPlace bit at h1
  unfold accessedAt
  split at h1
  · rename_i hb
    cases h1
    rw [if_pos hb]
    exact ⟨rfl, rfl⟩
  · rename_i hb
    rw [if_neg hb]
    exact h1

/-- The last word below the segment's limit. -/
def lastWord : RM := .mem (.direct16 0xFFFE)

theorem witness_BinaryToDestination :
    Readable (ToForm.width (.rmr lastWord .ecx) real) lastWord .rw real.enter (fun _ _ => true) ∧
    Readable (ToForm.width (.rm8imm8 (.reg .esp) 0xFF) real) (.reg .esp) .rw real.enter (fun _ _ => true) :=
  ⟨readable (by decide +kernel), readable (by decide +kernel)⟩

theorem witness_BinaryToRegister : Readable (width false real) lastWord .r real.enter (fun _ _ => true) := readable (by decide +kernel)

theorem witness_CompareSetsFlags :
    Readable (ToForm.width (.rmimm lastWord 1) real) lastWord .r real.enter (fun _ _ => true) ∧ testInstr (.rmimm lastWord 1) ≠ none ∧
    Readable (width true real) (.reg .edi) .r real.enter (fun _ _ => true) :=
  ⟨readable (by decide +kernel), by decide, readable (by decide +kernel)⟩

theorem witness_UnaryReadModifyWrite : Readable (width false real) lastWord .rw real.enter (fun _ _ => true) := readable (by decide +kernel)

theorem witness_ShiftAndRotate :
    Readable (width true (regs real 0 0x20 0 0 0 0 0 0)) lastWord .rw (regs real 0 0x20 0 0 0 0 0 0).enter
      (fun _ t => decide (Count.value .cl t = 0)) ∧
    Readable (width true real) lastWord .rw real.enter (fun _ t => decide (Count.value (.imm 0x1F) t ≠ 0)) :=
  ⟨readable (by decide +kernel), readable (by decide +kernel)⟩

theorem witness_DoubleShift :
    doubleInstr true lastWord .eax (.imm 16) ≠ none ∧ doubleInstr false lastWord .eax .cl ≠ none ∧
    Readable real.os.bits lastWord .rw real.enter (fun _ t => decide (Count.value (.imm 16) t = real.os.bits)) ∧
    Readable real.os.bits lastWord .rw real.enter (fun _ t => decide (Count.value (.imm 17) t = real.os.bits + 1)) ∧
    Readable real.os.bits lastWord .rw real.enter (fun _ t => decide (Count.value .cl t = 0)) :=
  ⟨by decide, by decide, readable (by decide +kernel), readable (by decide +kernel), readable (by decide +kernel)⟩

/-- A bit offset of -1 selects the word below the operand. -/
theorem witness_BitTestAndModify :
    Readable real.os.bits lastWord (BtOp.kind .bts) real.enter (fun _ _ => true) ∧
    Readable real.os.bits lastWord (BtOp.kind .bt) real.enter (fun _ _ => true) ∧
    (let s := regs real 0 0xFFFF 0 0 0x1000 0 0 0
     let off := (s.regs.read s.os.bits .ecx).toInt
     let ea := s.eaOff (.direct16 0x200) + BitVec.ofInt 32 (((s.os.bits / 8 : Nat) : Int) * (off / (s.os.bits : Int)))
     off = -1 ∧ ea = 0x1FE ∧
     Loadable s.as (s.eaSeg (.direct16 0x200)) (if s.as = .s16 then ea &&& 0xFFFF else ea) (s.os.bits / 8) 4 (BtOp.kind .btc)
       (s.enter) (fun _ _ => true)) :=
  ⟨readable (by decide +kernel), readable (by decide +kernel), by decide +kernel, by decide +kernel, loadable (by decide +kernel)⟩

theorem witness_BitScanAndSet :
    Readable real.os.bits (.reg .eax) .r real.enter (fun v _ => v == 0) ∧
    Readable real.os.bits (.reg .esp) .r real.enter (fun v _ => v != 0) ∧ ∃ p s1, locate 8 lastWord .w real.enter = .ok p s1 :=
  ⟨readable (by decide +kernel), readable (by decide +kernel), ok1 (by decide +kernel)⟩

theorem witness_Multiply :
    Readable (width true real) lastWord .r real.enter (fun _ _ => true) ∧ Readable real.os.bits lastWord .r real.enter (fun _ _ => true) :=
  ⟨readable (by decide +kernel), readable (by decide +kernel)⟩

/-- FFH by 1 is the greatest quotient of a byte division, 100H by 1 does not fit, nor does a division by 0. -/
theorem witness_Divide :
    Readable (width true real) (.reg .ebx) .r (regs real 0xFF 0 0 1 0 0 0 0).enter
      (fun v t => v == 1 && t.regs.get8 .eax == 0xFF && t.regs.get8 .esp == 0) ∧
    Readable (width true real) (.reg .ebx) .r (regs real 0x100 0 0 1 0 0 0 0).enter
      (fun v t => v == 1 && t.regs.get8 .eax == 0 && t.regs.get8 .esp == 1) ∧
    Readable (width true real) (.reg .ebx) .r real.enter (fun v _ => v == 0) :=
  ⟨readable (by decide +kernel), readable (by decide +kernel), readable (by decide +kernel)⟩

/-- AL = F9H is the greatest value that AAA adjusts without a carry into AH, AL = 6 the least that AAS adjusts without a borrow. -/
theorem witness_DecimalAdjust :
    (let s := eax (efl real 0x12) 0xF9
     (decide (9 < (s.regs.get8 .eax).toNat % 16) || s.flags.af) = true ∧ (s.regs.get8 .eax).toNat ≤ 0xF9) ∧
    (let s := eax (efl real 0x12) 6
     (decide (9 < (s.regs.get8 .eax).toNat % 16) || s.flags.af) = true ∧ 6 ≤ (s.regs.get8 .eax).toNat) ∧
    (let s := eax real 9
     (decide (9 < (s.regs.get8 .eax).toNat % 16) || s.flags.af) = false) ∧
    (0xFF : BitVec 8) ≠ 0 ∧ real.cur.committed = false := by decide +kernel

theorem witness_MoveData :
    (∃ p s1, locate (width false real) lastWord .w real.enter = .ok p s1) ∧
    Readable (width false real) lastWord .r real.enter (fun _ _ => true) ∧
    Loadable real.as (real.segOr .ds) 0xFFFE (width false real / 8) (width false real / 8) .r real.enter (fun _ _ => true) ∧
    Reachable real.as (real.segOr .ds) 0xFFFE (width false real / 8) (width false real / 8) .w real.enter ∧
    Readable 8 lastWord .r real.enter (fun _ _ => true) ∧ Readable 16 lastWord .r real.enter (fun _ _ => true) ∧
    Loadable real.as (real.segOr .ds) (if real.as = .s16 then (real.regs.ebx + (real.regs.get8 .eax).setWidth 32) &&& 0xFFFF
      else real.regs.ebx + (real.regs.get8 .eax).setWidth 32) 1 1 .r real.enter (fun _ _ => true) :=
  ⟨ok1 (by decide +kernel), readable (by decide +kernel), loadable (by decide +kernel), reachable (by decide +kernel),
    readable (by decide +kernel), readable (by decide +kernel), loadable (by decide +kernel)⟩

theorem witness_RegisterOnly : real.regs.eax = 0 ∧ (eax real 1).regs.eax = 1 := ⟨rfl, rfl⟩

theorem witness_ExchangeWithOperand :
    Readable (width false real) lastWord .rw real.enter (fun d t => d == t.regs.read _ .eax) ∧
    Readable (width false real) lastWord .rw (eax real 1).enter (fun d t => d != t.regs.read _ .eax) ∧
    Loadable real.as (real.eaSeg (.direct16 0xFFF8)) (real.eaOff (.direct16 0xFFF8)) 8 8 .rw real.enter (fun _ _ => true) :=
  ⟨readable (by decide +kernel), readable (by decide +kernel), loadable (by decide +kernel)⟩

/-- SP = 0: the slot is the last word of the stack segment. -/
theorem witness_PushStack :
    (let s := regs real 0 0 0 0 0 0 0 0
     Reachable s.ss .ss (wrapSp s.ss (s.spOff - BitVec.ofNat 32 s.os.bytes)) s.os.bytes s.os.bytes .w s.enter) ∧
    (.pushEs, real.segs.es.sel.setWidth 32) ∈ pushes real ∧ real.v86 = false ∧ ((v86 3).v86 = true ∧ (v86 3).flags.iopl = 3) ∧
    (∃ p s1 v s2 ps s3, locate real.os.bits lastWord .r real.enter = .ok p s1 ∧ p.get real.os.bits s1 = .ok v s2 ∧
      access real.ss .ss (wrapSp real.ss (real.spOff - BitVec.ofNat 32 real.os.bytes)) real.os.bytes real.os.bytes .w s2 = .ok ps s3 ∧ true = true) ∧
    ((v86 2).v86 = true ∧ (v86 2).flags.iopl ≠ 3 ∧ (v86 2).cur.committed = false) ∧
    ∃ slots s1, pushSlots real.ss real.os.bytes real.spOff 8 real.enter = .ok slots s1 :=
  ⟨reachable (by decide +kernel), .head _, by decide +kernel, by decide +kernel,
    ok3 (f := fun p : Place => p.get real.os.bits) (g := fun _ _ => access real.ss .ss _ _ _ .w) (c := fun _ _ _ => true) (by decide +kernel),
    by decide +kernel, ok1 (by decide +kernel)⟩

theorem witness_PopStack :
    Loadable real.ss .ss (wrapSp real.ss real.spOff) real.os.bytes real.os.bytes .r real.enter (fun _ _ => true) ∧
    (∃ ps s1 v s2 p s3, access real.ss .ss (wrapSp real.ss real.spOff) real.os.bytes real.os.bytes .r real.enter = .ok ps s1 ∧ load ps s1 = .ok v s2 ∧
      (do set (withSp s2 (real.spOff + BitVec.ofNat 32 real.os.bytes)); locate real.os.bits lastWord .w : M Place) s2 = .ok p s3) ∧
    (∃ low s1 x s2 high s3, peekSlots real.os.bits 3 0 real.enter = .ok low s1 ∧
      checkIf real.ss .ss (wrapSp real.ss (real.spOff + BitVec.ofNat 32 (3 * real.os.bytes))) real.os.bytes (fun lin => lin % real.os.bytes == 0) .r s1 =
        .ok x s2 ∧ peekSlots real.os.bits 4 4 s2 = .ok high s3 ∧ true = true) ∧ real.v86 = false ∧
    ((v86 2).v86 = true ∧ (v86 2).flags.iopl ≠ 3 ∧ (v86 2).cur.committed = false) := by
  refine ⟨loadable (by decide +kernel), ?_, ok3 (f := fun _ => checkIf real.ss .ss _ _ _ .r) (g := fun _ _ => peekSlots real.os.bits 4 4)
    (c := fun _ _ _ => true) (by decide +kernel), by decide +kernel, by decide +kernel⟩
  obtain ⟨ps, s1, v, s2, p, s3, h1, h2, h3, -⟩ := ok3 (m := access real.ss .ss (wrapSp real.ss real.spOff) real.os.bytes real.os.bytes .r)
    (s := real.enter) (f := load)
    (g := fun _ _ => do
      let t ← get
      set (withSp t (real.spOff + BitVec.ofNat 32 real.os.bytes))
      locate real.os.bits lastWord .w)
    (c := fun _ _ _ => true) (by decide +kernel)
  exact ⟨ps, s1, v, s2, p, s3, h1, h2, h3⟩

/-- Far pointers in the last four bytes below the limit, and half past them. -/
theorem witness_SegmentRegisterMoves :
    (∃ p s1 sel s2 x s3, locate 16 (.reg .ecx) .r real.enter = .ok p s1 ∧ p.get 16 s1 = .ok sel s2 ∧ loadSeg .ss sel s2 = .ok x s3 ∧
      true = true) ∧
    popSegInstr .ss = some .popSs ∧
    (∃ ps s1 v s2 x s3, access real.ss .ss (wrapSp real.ss real.spOff) real.os.bytes real.os.bytes .r real.enter = .ok ps s1 ∧ load ps s1 = .ok v s2 ∧
      loadSeg .es (BitVec.ofNat 16 v) s2 = .ok x s3 ∧ true = true) ∧
    loadFarInstr .ds (.direct16 0xFFFC) .esi = some (.ldsRFar (.direct16 0xFFFC) .esi) ∧
    (∃ v w s2, ReadTwice (.direct16 0xFFFC) real.os.bytes 2 real real.enter v w s2 ∧ okAnd (loadSeg .ds (BitVec.ofNat 16 w)) s2 (fun _ _ => true) = true) ∧
    (∃ t, ReadPast (.direct16 0xFFFE) real.os.bytes 2 real real.enter t) ∧
    flat.os = .s32 ∧ real.os = .s16 ∧ (∃ p s1, locate 16 lastWord .w real.enter = .ok p s1) ∧ real.cur.committed = false :=
  ⟨ok3 (f := fun p : Place => p.get 16) (g := fun _ sel => loadSeg .ss sel) (c := fun _ _ _ => true) (by decide +kernel), rfl,
    ok3 (f := load) (g := fun _ v => loadSeg .es (BitVec.ofNat 16 v)) (c := fun _ _ _ => true) (by decide +kernel), rfl,
    readTwice (by decide +kernel), readPast (by decide +kernel) (by decide +kernel),
    rfl, rfl, ok1 (by decide +kernel), rfl⟩

/-- Descriptor 10H with its Accessed bit clear, and not present. -/
def unmarked : State := bytesAt (tables flat) 0x3015 [0x92]
def absent : State := bytesAt (tables flat) 0x3015 [0x13]

/-- Selectors 3 (null), 4 (LDT, none usable), 10H and 20H (in the table), 40H (past its end); 8 names code, which SS cannot hold. -/
theorem witness_SegmentLoad :
    real.pe = false ∧ ((v86 0).pe = true ∧ (v86 0).flags.vm = true) ∧ ((tables flat).prot = true ∧ (3 : Half).toNat < 4) ∧
    (4 ≤ (0x40 : Half).toNat ∧ inTable (tables flat) 0x40 = false) ∧
    (∃ d s1, Named (tables flat) 0x10 (tables flat) d s1 ∧
      (d.hi.getLsbD 15 && d.hi.getLsbD 12 && d.hi.getLsbD 8 && !d.hi.getLsbD 11 && d.hi.getLsbD 9 && d.dpl == 0) = true) ∧
    (∃ d s1, Named user 0x23 user d s1 ∧
      (d.hi.getLsbD 15 && d.hi.getLsbD 12 && d.hi.getLsbD 8 && !d.hi.getLsbD 11 && d.hi.getLsbD 9 && d.dpl == 3) = true) ∧
    (∃ d s1, Named (tables flat) 8 (tables flat) d s1 ∧ (d.hi.getLsbD 11) = true) ∧
    (∃ d s1, Named absent 0x10 absent d s1 ∧ (!d.hi.getLsbD 15 && d.hi.getLsbD 12 && !d.hi.getLsbD 11 && d.hi.getLsbD 9 && d.dpl == 0) = true) ∧
    ∃ d s1, Named unmarked 0x10 unmarked d s1 ∧
      (d.hi.getLsbD 15 && d.hi.getLsbD 12 && !d.hi.getLsbD 8 && !d.hi.getLsbD 11 && d.hi.getLsbD 9 && d.dpl == 0 &&
        okAnd (accessedPlace d) s1 fun ps _ => ps.length == 4) = true :=
  ⟨by decide +kernel, by decide +kernel, by decide +kernel, by decide +kernel, named (by decide +kernel) (by decide +kernel),
    named (by decide +kernel) (by decide +kernel), named (by decide +kernel) (by decide +kernel), named (by decide +kernel) (by decide +kernel),
    named (by decide +kernel) (by decide +kernel)⟩

/-- Level 3 with IOPL 3, and with IOPL 2. -/
theorem witness_InterruptFlag :
    (let s := v86 3
     (if s.pe then if s.flags.vm then 3 else s.cpl.toNat else 0) ≤ s.flags.iopl.toNat) ∧
    (let s := v86 2
     s.flags.iopl.toNat < (if s.pe then if s.flags.vm then 3 else s.cpl.toNat else 0)) ∧ (v86 2).cur.committed = false := by decide +kernel

/-- A target at the limit FFFFH of CS, and one byte past it. -/
theorem witness_NearJumps :
    (let s := { wide real with cur := { (wide real).cur with len := 3 } }
     (nearTarget s (s.enter.eip + 0xFEFC)).toNat = s.segs.cs.limit.toNat ∧ s.segs.cs.limit.toNat < (nearTarget s (s.enter.eip + 0xFEFD)).toNat) ∧
    (.jccRel8 .e 0xFE, false, 0xFFFFFFFE) ∈ condJumps real .e 0xFE 0 ∧ (.jccRel8 .ne 0xFE, true, 0xFFFFFFFE) ∈ condJumps real .ne 0xFE 0 ∧
    (.loopRel8 0, true) ∈ loops real 0 ∧ (real.regs.read real.as.bits .ecx - 1 ≠ 0) ∧
    (let s := regs real 0 1 0 0 0 0 0 0
     s.regs.read s.as.bits .ecx - 1 = 0) ∧
    Readable real.os.bits lastWord .r real.enter (fun _ _ => true) ∧ real.cur.committed = false :=
  ⟨by decide +kernel, by decide +kernel, by decide +kernel, by decide +kernel, by decide +kernel, by decide +kernel,
    readable (by decide +kernel), rfl⟩

theorem witness_NearCallReturn :
    (let s := { wide real with cur := { (wide real).cur with len := 6 } }
     (nearTarget s (s.enter.eip + osDisp s 0xFEF9)).toNat = s.segs.cs.limit.toNat ∧
     s.segs.cs.limit.toNat < (nearTarget s (s.enter.eip + osDisp s 0xFEFA)).toNat) ∧
    Reachable real.ss .ss (wrapSp real.ss (real.spOff - BitVec.ofNat 32 real.os.bytes)) real.os.bytes real.os.bytes .w real.enter ∧
    (∃ p s1 v s2 ps s3, locate real.os.bits lastWord .r real.enter = .ok p s1 ∧ p.get real.os.bits s1 = .ok v s2 ∧
      access real.ss .ss (wrapSp real.ss (real.spOff - BitVec.ofNat 32 real.os.bytes)) real.os.bytes real.os.bytes .w s2 = .ok ps s3 ∧
      decide (v.toNat ≤ real.segs.cs.limit.toNat) = true) ∧
    Loadable real.ss .ss (wrapSp real.ss real.spOff) real.os.bytes real.os.bytes .r real.enter (fun v _ => decide (v ≤ real.segs.cs.limit.toNat)) ∧
    (let s := bytesAt (wide real) 0x1000 [0, 0, 1, 0]
     Loadable s.ss .ss (wrapSp s.ss s.spOff) s.os.bytes s.os.bytes .r s.enter (fun v _ => decide (s.segs.cs.limit.toNat + 1 = v))) :=
  ⟨by decide +kernel, reachable (by decide +kernel),
    ok3 (f := fun p : Place => p.get real.os.bits) (g := fun _ _ => access real.ss .ss _ _ _ .w)
      (c := fun v _ _ => decide (v.toNat ≤ real.segs.cs.limit.toNat)) (by decide +kernel),
    loadable (by decide +kernel), loadable (by decide +kernel)⟩

/-- CALL to a register that holds the offset past the limit FFFFH. -/
theorem witness_NearCallReturn_limit :
    Readable (wide real).os.bits (.reg .ecx) .r (regs (wide real) 0 0x10000 0 0 0 0 0 0).enter
      (fun v _ => decide (real.segs.cs.limit.toNat + 1 = v.toNat)) := readable (by decide +kernel)

theorem witness_FarTransfersReal :
    real.prot = false ∧ (v86 3).prot = false ∧ realBound (wide real) < (nearTarget (wide real) 0x10000).toNat ∧
    (nearTarget (wide real) 0xFFFF).toNat ≤ realBound (wide real) ∧
    (∃ slots s1, pushSlots real.ss real.os.bytes real.spOff 2 real.enter = .ok slots s1) ∧
    (∃ v w s2, ReadTwice (.direct16 0xFFFC) real.os.bytes 2 real real.enter v w s2 ∧ (decide (v ≤ realBound real) &&
      okAnd (pushSlots real.ss real.os.bytes real.spOff 2) s2 fun _ _ => true) = true) ∧
    (∃ ip s1 cs s2, slot real.os.bytes 0 0 real.enter = .ok ip s1 ∧ slot real.os.bytes 1 0 s1 = .ok cs s2 ∧ true = true) ∧
    (∃ ip s1 cs s2 fl s3, slot real.os.bytes 0 0 { real.enter with nmiBlocked := false, cur := { real.cur with keepRf := true } } = .ok ip s1 ∧
      slot real.os.bytes 1 0 s1 = .ok cs s2 ∧ slot real.os.bytes 2 0 s2 = .ok fl s3 ∧ true = true) ∧ real.v86 = false :=
  ⟨by decide +kernel, by decide +kernel, by decide +kernel, by decide +kernel, ok1 (by decide +kernel),
    readTwice (by decide +kernel),
    ok2 (f := fun _ => slot real.os.bytes 1 0) (c := fun _ _ => true) (by decide +kernel),
    ok3 (f := fun _ => slot real.os.bytes 1 0) (g := fun _ _ => slot real.os.bytes 2 0) (c := fun _ _ _ => true) (by decide +kernel),
    by decide +kernel⟩

/-- A pointer in memory, and return frames, that name the offset past FFFFH; IRET in virtual-8086 mode with IOPL below 3. -/
theorem witness_FarTransfersReal_beyond :
    (∃ v w s2, ReadTwice (.direct16 0x2000) (wide real).os.bytes 2 (bytesAt (wide real) 0x2002 [1]) (bytesAt (wide real) 0x2002 [1]).enter v w s2 ∧
      decide (realBound (wide real) + 1 = v) = true) ∧
    (let s := bytesAt (wide real) 0x1002 [1]
     okAnd (slot s.os.bytes 0 0) s.enter (fun ip s1 => okAnd (slot s.os.bytes 1 0) s1 fun _ s2 => okAnd (slot s.os.bytes 2 0) s2 fun _ _ =>
       decide (realBound s + 1 = ip.toNat)) = true) ∧
    (v86 2).prot = false ∧ (v86 2).v86 = true ∧ (v86 2).flags.iopl ≠ 3 ∧ (v86 2).cur.committed = false :=
  ⟨readTwice (by decide +kernel), by decide +kernel, by decide +kernel, by decide +kernel, by decide +kernel, rfl⟩

/-- `sel` names a descriptor of `s` that can be read in `u`, and `c` goes on from there. -/
def namedC (s u : State) (sel : Half) (c : Desc → State → Bool) : Bool :=
  decide (4 ≤ sel.toNat) && inTable s sel && okAnd (readDescAt (descLinear s sel)) u c

theorem of_named {s u : State} {sel : Half} {c : Desc → State → Bool} (h : namedC s u sel c = true) :
    ∃ d t, Named s sel u d t ∧ c d t = true := by
  simp only [namedC, Bool.and_eq_true, decide_eq_true_eq] at h
  exact named h.1 h.2

/-- The Accessed bit of a descriptor can be set, and `c` goes on from there. -/
def accessedC (d : Desc) (u : State) (c : State → Bool) : Bool := okAnd (accessedPlace d) u fun _ t => c t

theorem of_accessed {d : Desc} {u : State} {c : State → Bool} (h : accessedC d u c = true) : ∃ ps t, accessedAt d u ps t ∧ c t = true :=
  accessed h

/-- The TSS names a stack for a level, and `c` goes on from there. -/
def innerC (pl : BitVec 2) (u : State) (c : Desc → Half → Word → State → Bool) : Bool :=
  let n := if u.tr.attr.typ.getLsbD 3 then 4 else 2
  let off := n * (1 + 2 * pl.toNat)
  okAnd (tssAddrs (u.tr.base + BitVec.ofNat 32 off) (n + 2) { write := false, user := false, fetch := false }) u fun ps u1 =>
    okAnd (load (ps.take n)) u1 fun v u2 => okAnd (load (ps.drop n)) u2 fun w u3 =>
      decide (off + n + 1 ≤ u.tr.limit.toNat ∧ (BitVec.ofNat 16 w).toNat % 4 = pl.toNat) && namedC u u3 (BitVec.ofNat 16 w) fun d t =>
        decide (d.dpl = pl ∧ d.hi.getLsbD 15 = true ∧ d.hi.getLsbD 12 = true ∧ d.hi.getLsbD 11 = false ∧ d.hi.getLsbD 9 = true) &&
          c d (BitVec.ofNat 16 w) (BitVec.ofNat 32 v) t

theorem of_inner {pl : BitVec 2} {u : State} {c : Desc → Half → Word → State → Bool} (h : innerC pl u c = true) :
    ∃ d sel sp t, InnerStack pl u d sel sp t ∧ c d sel sp t = true := by
  obtain ⟨ps, u1, h1, h⟩ := of_okAnd h
  obtain ⟨v, u2, h2, h⟩ := of_okAnd h
  obtain ⟨w, u3, h3, h⟩ := of_okAnd h
  simp only [Bool.and_eq_true, decide_eq_true_eq] at h
  obtain ⟨⟨ho, hr⟩, h⟩ := h
  obtain ⟨d, t, h4, h⟩ := of_named h
  simp only [Bool.and_eq_true, decide_eq_true_eq] at h
  exact ⟨d, _, _, t, ⟨u3, ⟨ho, ps, v, w, u1, u2, h1, h2, h3, rfl, rfl⟩, h4, hr, h.1.1, h.1.2⟩, h.2⟩

/-- Two more descriptors: 40H a call gate of level 3 with one parameter to 0008:00009000, 48H a task gate to 30H. -/
def gates (s : State) : State :=
  bytesAt { s with gdtr := { base := 0x3000, limit := 0x4F } } 0x3040 [0, 0x90, 8, 0, 1, 0xEC, 0, 0, 0, 0, 0x30, 0, 0, 0xE5, 0, 0]

/-- The same with a conforming code segment at 8, its Accessed bit clear. -/
def conforming : State := bytesAt (tables flat) 0x300D [0x9E]

/-- Pointers to a null selector, as an immediate operand and in memory. -/
theorem witness_FarTransfersProtected_pointer :
    (tables flat).prot = true ∧ (3 : Half).toNat < 4 ∧
    FarPointer (tables flat) (.jmpPtr 0x9000 3) (.callPtr 0x9000 3) 0x9000 3 (tables flat).enter ∧
    ∃ off sel s1, FarPointer (tables flat) (.jmpFar (.direct32 0x20000)) (.callFar (.direct32 0x20000)) off sel s1 ∧
      decide (sel.toNat < 4) = true := by
  refine ⟨by decide +kernel, by decide, .inl ⟨0x9000, rfl, rfl, rfl, rfl⟩, ?_⟩
  obtain ⟨v, w, t, h, hw⟩ := readTwice (m := .direct32 0x20000) (n := (tables flat).os.bytes) (k := 2) (s := tables flat) (u := (tables flat).enter)
    (c := fun _ w _ => decide ((BitVec.ofNat 16 w).toNat < 4)) (by decide +kernel)
  exact ⟨_, _, t, .inr ⟨_, v, w, rfl, rfl, h, rfl, rfl⟩, hw⟩

/-- A code segment that `q` accepts can be entered, and the return address pushed. -/
theorem entersCode {s : State} {sel : Half} {q : Desc → Bool}
    (h : (namedC s s.enter sel fun d t => q d && okAnd (pushSlots s.ss s.os.bytes s.spOff 2) t fun _ v => accessedC d v fun _ => true) = true) :
    ∃ d t slots v ps w, Named s sel s.enter d t ∧ q d = true ∧ pushSlots s.ss s.os.bytes s.spOff 2 t = .ok slots v ∧ accessedAt d v ps w := by
  obtain ⟨d, t, h1, h⟩ := of_named h
  simp only [Bool.and_eq_true] at h
  obtain ⟨hq, h⟩ := h
  obtain ⟨slots, v, h2, h⟩ := of_okAnd h
  obtain ⟨ps, w, h3, -⟩ := of_accessed h
  exact ⟨d, t, slots, v, ps, w, h1, hq, h2, h3⟩

/-- A code segment at the current level with its last offset, and a conforming one whose Accessed bit is clear. -/
theorem witness_FarTransfersProtected_code :
    (∃ d t slots v ps w, Named (tables flat) 8 (tables flat).enter d t ∧
      (d.hi.getLsbD 15 && d.hi.getLsbD 12 && d.hi.getLsbD 11 && !d.hi.getLsbD 10 && d.dpl == (tables flat).cpl && d.limit == 0xFFFFFFFF) = true ∧
      pushSlots (tables flat).ss (tables flat).os.bytes (tables flat).spOff 2 t = .ok slots v ∧ accessedAt d v ps w) ∧
    ∃ d t slots v ps w, Named conforming 8 conforming.enter d t ∧
      (d.hi.getLsbD 15 && d.hi.getLsbD 12 && d.hi.getLsbD 11 && d.hi.getLsbD 10 && !d.hi.getLsbD 8 && d.dpl == 0) = true ∧
      pushSlots conforming.ss conforming.os.bytes conforming.spOff 2 t = .ok slots v ∧ accessedAt d v ps w :=
  ⟨entersCode (by decide +kernel), entersCode (by decide +kernel)⟩

/-- A call gate to the current level. -/
theorem witness_FarTransfersProtected_gate : ∃ d t cd u slots v ps w, Named (gates (tables flat)) 0x40 (gates (tables flat)).enter d t ∧
    Named (gates (tables flat)) d.gateSel t cd u ∧ pushSlots (gates (tables flat)).ss 4 (gates (tables flat)).spOff 2 u = .ok slots v ∧
    accessedAt cd v ps w ∧
    (!d.hi.getLsbD 12 && d.hi.getLsbD 15 && d.typ == 12 && d.dpl == 3 && cd.hi.getLsbD 15 && cd.hi.getLsbD 12 && cd.hi.getLsbD 11 &&
      cd.dpl == 0 && decide (d.gateOffset.toNat ≤ cd.limit.toNat)) = true := by
  have h : (namedC (gates (tables flat)) (gates (tables flat)).enter 0x40 fun d t => namedC (gates (tables flat)) t d.gateSel fun cd u =>
      okAnd (pushSlots (gates (tables flat)).ss 4 (gates (tables flat)).spOff 2) u fun _ v => accessedC cd v fun _ =>
        !d.hi.getLsbD 12 && d.hi.getLsbD 15 && d.typ == 12 && d.dpl == 3 && cd.hi.getLsbD 15 && cd.hi.getLsbD 12 && cd.hi.getLsbD 11 &&
          cd.dpl == 0 && decide (d.gateOffset.toNat ≤ cd.limit.toNat)) = true := by decide +kernel
  obtain ⟨d, t, h1, h⟩ := of_named h
  obtain ⟨cd, u, h2, h⟩ := of_named h
  obtain ⟨slots, v, h3, h⟩ := of_okAnd h
  obtain ⟨ps, w, h4, h⟩ := of_accessed h
  exact ⟨d, t, cd, u, slots, v, ps, w, h1, h2, h3, h4, h⟩

/-- The same call gate from level 3: an inner stack and one parameter. -/
theorem witness_FarTransfersProtected_inner : ∃ d s2 cd s3 sd ssel sp s4 params s5 slots s6 qs s7 ps s8,
    Named (gates user) 0x40 (gates user).enter d s2 ∧ Named (gates user) d.gateSel s2 cd s3 ∧ InnerStack cd.dpl s3 sd ssel sp s4 ∧
    ParamSlots (gates user) 4 1 s4 params s5 ∧
    pushSlots (switched cd.dpl sd ssel sp s5).ss 4 (switched cd.dpl sd ssel sp s5).spOff (4 + 1) (switched cd.dpl sd ssel sp s5) =
      .ok slots s6 ∧ accessedAt sd s6 qs s7 ∧ accessedAt cd s7 ps s8 ∧
    (d.gateCount == 1 && d.typ == 12 && d.dpl == 3 && cd.hi.getLsbD 15 && cd.hi.getLsbD 12 && cd.hi.getLsbD 11 && !cd.hi.getLsbD 10 &&
      decide (cd.dpl.toNat < (gates user).cpl.toNat)) = true := by
  have h : (namedC (gates user) (gates user).enter 0x40 fun d s2 => namedC (gates user) s2 d.gateSel fun cd s3 =>
      innerC cd.dpl s3 fun sd ssel sp s4 => okAnd (access (gates user).ss .ss (wrapSp (gates user).ss ((gates user).spOff + BitVec.ofNat 32 (4 * 0))) 4 4 .r)
        s4 fun _ s5 =>
      okAnd (pushSlots (switched cd.dpl sd ssel sp s5).ss 4 (switched cd.dpl sd ssel sp s5).spOff (4 + 1))
        (switched cd.dpl sd ssel sp s5) fun _ s6 => accessedC sd s6 fun s7 => accessedC cd s7 fun _ =>
        d.gateCount == 1 && d.typ == 12 && d.dpl == 3 && cd.hi.getLsbD 15 && cd.hi.getLsbD 12 && cd.hi.getLsbD 11 && !cd.hi.getLsbD 10 &&
          decide (cd.dpl.toNat < (gates user).cpl.toNat)) = true := by decide +kernel
  obtain ⟨d, s2, h1, h⟩ := of_named h
  obtain ⟨cd, s3, h2, h⟩ := of_named h
  obtain ⟨sd, ssel, sp, s4, h3, h⟩ := of_inner h
  obtain ⟨src, s5, h4, h⟩ := of_okAnd h
  obtain ⟨slots, s6, h5, h⟩ := of_okAnd h
  obtain ⟨qs, s7, h6, h⟩ := of_accessed h
  obtain ⟨ps, s8, h7, h⟩ := of_accessed h
  exact ⟨d, s2, cd, s3, sd, ssel, sp, s4, [src], s5, slots, s6, qs, s7, ps, s8, h1, h2, h3, ⟨src, s5, [], rfl, h4, rfl, rfl⟩, h5, h6, h7, h⟩

/-- A descriptor of this type leads to a task switch that completes. -/
theorem switches {s : State} {sel : Half} {k : Switch} {typ : BitVec 4} {q : Desc → Half}
    (h : (namedC s s.enter sel fun d t => decide (d.typ = typ) && d.hi.getLsbD 15 && okAnd (taskSwitch (q d) k s.enter.eip none) t fun _ _ => true)
      = true) : ∃ d s2 t, Named s sel s.enter d s2 ∧ d.typ = typ ∧ d.hi.getLsbD 15 = true ∧ taskSwitch (q d) k s.enter.eip none s2 = .ok () t := by
  obtain ⟨d, s2, h1, h⟩ := of_named h
  simp only [Bool.and_eq_true, decide_eq_true_eq] at h
  obtain ⟨_, t, h2, -⟩ := of_okAnd h.2
  exact ⟨d, s2, t, h1, h.1.1, h.1.2, h2⟩

/-- JMP and CALL to a TSS and to a task gate, IRET from a nested task. -/
theorem witness_FarTransfersProtected_task :
    (∃ d s2 t, Named twoTasks 0x30 twoTasks.enter d s2 ∧ d.typ = 9 ∧ d.hi.getLsbD 15 = true ∧
      taskSwitch 0x30 .jmp twoTasks.enter.eip none s2 = .ok () t) ∧
    (∃ d s2 t, Named twoTasks 0x30 twoTasks.enter d s2 ∧ d.typ = 9 ∧ d.hi.getLsbD 15 = true ∧
      taskSwitch 0x30 .call twoTasks.enter.eip none s2 = .ok () t) ∧
    (∃ d s2 t, Named (gates twoTasks) 0x48 (gates twoTasks).enter d s2 ∧ d.typ = 5 ∧ d.hi.getLsbD 15 = true ∧
      taskSwitch d.gateSel .jmp (gates twoTasks).enter.eip none s2 = .ok () t) ∧
    (∃ d s2 t, Named (gates twoTasks) 0x48 (gates twoTasks).enter d s2 ∧ d.typ = 5 ∧ d.hi.getLsbD 15 = true ∧
      taskSwitch d.gateSel .call (gates twoTasks).enter.eip none s2 = .ok () t) ∧
    nested.prot = true ∧ nested.flags.nt = true ∧
    ∃ link s1 x t, tssRead16 nested.tr.base { nested.enter with nmiBlocked := false, cur := { nested.cur with keepRf := true } } = .ok link s1 ∧
      taskSwitch link .iret nested.enter.eip none s1 = .ok x t ∧ true = true :=
  ⟨switches (by decide +kernel), switches (by decide +kernel), switches (q := Desc.gateSel) (by decide +kernel),
    switches (q := Desc.gateSel) (by decide +kernel), by decide +kernel, by decide +kernel,
    ok2 (f := fun link => taskSwitch link .iret nested.enter.eip none) (c := fun _ _ => true) (by decide +kernel)⟩

/-- A code segment that is present, or not. -/
def isCodeC (p : Bool) (d : Desc) : Bool := d.hi.getLsbD 15 == p && d.hi.getLsbD 12 && d.hi.getLsbD 11

/-- The code segment 8 ends at offset 8FFFH. -/
def ends8FFF (s : State) : State := bytesAt s 0x3008 [0xFF, 0x8F, 0, 0, 0, 0x9B, 0x40, 0]

/-- What refuses a far JMP or CALL at the descriptor it names: past the table, data, the wrong level, not present, an offset past the limit, an LDT,
a TSS out of reach, a gate out of reach, one that is not present. -/
theorem witness_FarTransfersProtected_refused :
    let named (s : State) (sel : Half) (c : Desc → Bool) : Bool := s.prot && namedC s s.enter sel fun d _ => c d
    inTable (tables flat) 0x40 = false ∧ FarPointer (tables flat) (.jmpPtr 0x9000 0x40) (.callPtr 0x9000 0x40) 0x9000 0x40 (tables flat).enter ∧
    named (tables flat) 0x10 (fun d => d.hi.getLsbD 12 && !d.hi.getLsbD 11) = true ∧
    named user 8 (fun d => isCodeC true d && !d.hi.getLsbD 10 && d.dpl != user.cpl) = true ∧
    named (tables flat) 11 (fun d => isCodeC true d && !d.hi.getLsbD 10 && decide ((tables flat).cpl.toNat < (11 : Half).toNat % 4)) = true ∧
    named (bytesAt (tables flat) 0x300D [0x1B]) 8 (fun d => isCodeC false d && !d.hi.getLsbD 10 && d.dpl == 0) = true ∧
    named (ends8FFF (tables flat)) 8 (fun d => isCodeC true d && d.limit == 0x8FFF) = true ∧
    named (tables flat) 0x38 (fun d => !d.hi.getLsbD 12 && d.typ == 2) = true ∧
    named user 0x30 (fun d => !d.hi.getLsbD 12 && d.typ == 9 && decide (d.dpl.toNat < user.cpl.toNat)) = true ∧
    named (bytesAt (gates user) 0x3045 [0xCC]) 0x40 (fun d => !d.hi.getLsbD 12 && d.typ == 12 && d.dpl == 2) = true ∧
    named (bytesAt (gates (tables flat)) 0x3045 [0x6C]) 0x40 (fun d => !d.hi.getLsbD 12 && d.typ == 12 && d.dpl == 3 && !d.hi.getLsbD 15) = true :=
  ⟨by decide +kernel, .inl ⟨0x9000, rfl, rfl, rfl, rfl⟩, by decide +kernel, by decide +kernel, by decide +kernel, by decide +kernel, by decide +kernel,
    by decide +kernel, by decide +kernel, by decide +kernel, by decide +kernel⟩

/-- A task switch that raises an exception before its commit: to a TSS that is not present. -/
theorem witness_FarTransfersProtected_taskRefused :
    let s := bytesAt twoTasks 0x3035 [0x09]
    (namedC s s.enter 0x30 fun d t => !d.hi.getLsbD 12 && d.typ == 9 && match taskSwitch 0x30 .jmp s.enter.eip none t with
      | .error (.exc e) u => !u.cur.committed && e.vec == 11
      | _ => false) = true := by decide +kernel

/-- What refuses a transfer through a call gate at its code segment: null, past the table, data, not present, for JMP a more privileged level, an
offset past the limit. -/
theorem witness_FarTransfersProtected_gateRefused :
    let g (s : State) (c : Desc → State → Bool) : Bool := namedC s s.enter 0x40 fun d t => !d.hi.getLsbD 12 && d.hi.getLsbD 15 && d.typ == 12 && c d t
    let at8 (s : State) (c : Desc → Desc → Bool) : Bool := g s fun d t => namedC s t d.gateSel fun cd _ => c d cd
    let G := gates (tables flat)
    g (bytesAt G 0x3042 [3]) (fun d _ => decide (d.gateSel.toNat < 4)) = true ∧
    g (bytesAt G 0x3042 [0x50]) (fun d t => decide (4 ≤ d.gateSel.toNat) && !inTable t d.gateSel) = true ∧
    at8 (bytesAt G 0x3042 [0x10]) (fun _ cd => cd.hi.getLsbD 12 && !cd.hi.getLsbD 11) = true ∧
    at8 (bytesAt G 0x300D [0x1B]) (fun _ cd => isCodeC false cd && cd.dpl == 0) = true ∧
    at8 (gates user) (fun _ cd => isCodeC true cd && !cd.hi.getLsbD 10 && decide (cd.dpl.toNat < user.cpl.toNat)) = true ∧
    at8 (ends8FFF G) (fun d cd => isCodeC true cd && cd.dpl == G.cpl && decide (cd.limit.toNat + 1 = d.gateOffset.toNat)) = true ∧
    at8 (ends8FFF (gates user)) (fun d cd => isCodeC true cd && decide (cd.dpl.toNat < user.cpl.toNat) && decide (cd.limit.toNat + 1 = d.gateOffset.toNat))
      = true := by decide +kernel

/-- The stack pointer of level 0 is read from the TSS, and `c` accepts its selector. -/
def pointerC (u : State) (c : Half → State → Bool) : Bool :=
  okAnd (tssAddrs (u.tr.base + 4) 6 { write := false, user := false, fetch := false }) u fun ps u1 =>
    okAnd (load (ps.take 4)) u1 fun _ u2 => okAnd (load (ps.drop 4)) u2 fun w u3 =>
      u.tr.attr.typ.getLsbD 3 && decide (9 ≤ u.tr.limit.toNat) && c (BitVec.ofNat 16 w) u3

/-- What refuses an inner stack (a CALL through a gate and a delivery alike): a TSS that ends at 8, a null selector, one past the table, a code segment,
a wrong RPL, a wrong DPL, one that is not present, and a segment without room. -/
theorem witness_FarTransfersProtected_stackRefused :
    let named (s : State) (c : Half → Desc → Bool) : Bool := pointerC s fun sel u => namedC s u sel fun d _ => c sel d
    pointerSize user = 4 ∧ pointerAt user 0 = 4 ∧ (8 : Nat) < pointerAt user 0 + pointerSize user + 1 ∧
    pointerC (bytesAt user 0x10008 [3]) (fun sel _ => decide (sel.toNat < 4)) = true ∧
    pointerC (bytesAt user 0x10008 [0x40]) (fun sel _ => !inTable user sel) = true ∧
    named (bytesAt user 0x10008 [8]) (fun sel d => d.hi.getLsbD 11 && sel.toNat % 4 == 0 && d.dpl == 0) = true ∧
    named (bytesAt user 0x10008 [0x13]) (fun sel d => sel.toNat % 4 == 3 && d.dpl == 0) = true ∧
    named (bytesAt user 0x10008 [0x20]) (fun sel d => sel.toNat % 4 == 0 && d.dpl == 3) = true ∧
    named (bytesAt user 0x3015 [0x13]) (fun sel d => sel.toNat % 4 == 0 && d.dpl == 0 && d.hi.getLsbD 12 && !d.hi.getLsbD 11 && d.hi.getLsbD 9 &&
      !d.hi.getLsbD 15) = true ∧
    innerC 0 (bytesAt user 0x3010 [0xFF, 0x7F, 0, 0, 0, 0x93, 0x40, 0]) (fun sd ssel sp s4 => s4.pe && stackRoom (segOf (marked sd) ssel) 4 sp 5) =
      true ∧
    innerC 0 (bytesAt user 0x3010 [0xFE, 0x7F, 0, 0, 0, 0x93, 0x40, 0]) (fun sd ssel sp s4 => s4.pe && !stackRoom (segOf (marked sd) ssel) 4 sp 5) =
      true := by decide +kernel

/-- At level 0 with these doublewords on the stack. -/
def frame (vs : List Nat) : State :=
  bytesAt (tables (regs flat 0 0 0 0 0x9000 0 0 0)) 0x9000 (vs.flatMap fun v => [v % 256, v / 256 % 256, v / 65536 % 256, 0])

/-- A stack segment that ends four bytes above ESP. -/
def short : State :=
  let s := tables (regs flat 0 0 0 0 0x9000 0 0 0)
  { s with segs := { s.segs with ss := { s.segs.ss with limit := 0x9003 } } }

theorem witness_FarTransfersProtected_retf :
    (short.prot = true ∧ ¬ frameIn short (2 * short.os.bytes)) ∧ frameIn (frame [0x100, 8]) (2 * (frame [0x100, 8]).os.bytes) ∧
    (∃ eip s1 cs s2 d s3, slot (frame [0x100, 8]).os.bytes 0 0 (frame [0x100, 8]).enter = .ok eip s1 ∧
      slot (frame [0x100, 8]).os.bytes 1 0 s1 = .ok cs s2 ∧ Named (frame [0x100, 8]) (cs.setWidth 16) s2 d s3 ∧
      ((d.hi.getLsbD 15 && d.hi.getLsbD 12 && d.hi.getLsbD 11 && !d.hi.getLsbD 10 && d.dpl == 0) && decide (cs.setWidth 16 = (8 : Half)) &&
        decide (eip.toNat ≤ d.limit.toNat)) = true ∧
      ∃ ps s4, accessedAt d (withSp s3 ((frame [0x100, 8]).spOff + BitVec.ofNat 32 (2 * (frame [0x100, 8]).os.bytes) + 0)) ps s4) := by
  refine ⟨⟨by decide +kernel, by unfold frameIn; decide +kernel⟩, by unfold frameIn; decide +kernel, ?_⟩
  have h : okAnd (slot (frame [0x100, 8]).os.bytes 0 0) (frame [0x100, 8]).enter (fun eip s1 => okAnd (slot (frame [0x100, 8]).os.bytes 1 0) s1
      fun cs s2 => namedC (frame [0x100, 8]) s2 (cs.setWidth 16) fun d s3 =>
        accessedC d (withSp s3 ((frame [0x100, 8]).spOff + BitVec.ofNat 32 (2 * (frame [0x100, 8]).os.bytes) + 0)) fun _ =>
        (d.hi.getLsbD 15 && d.hi.getLsbD 12 && d.hi.getLsbD 11 && !d.hi.getLsbD 10 && d.dpl == 0) && decide (cs.setWidth 16 = (8 : Half)) &&
          decide (eip.toNat ≤ d.limit.toNat)) = true := by decide +kernel
  obtain ⟨eip, s1, h1, h⟩ := of_okAnd h
  obtain ⟨cs, s2, h2, h⟩ := of_okAnd h
  obtain ⟨d, s3, h3, h⟩ := of_named h
  obtain ⟨ps, s4, h4, h⟩ := of_accessed h
  exact ⟨eip, s1, cs, s2, d, s3, h1, h2, h3, h, ps, s4, h4⟩

/-- A frame for level 3: EIP, CS, ESP, SS. -/
abbrev outer : State := frame [0x100, 0x1B, 0x9100, 0x23]

theorem witness_FarTransfersProtected_retfOuter :
    frameIn outer (2 * outer.os.bytes) ∧ frameIn outer (4 * outer.os.bytes) ∧
    ∃ eip s1 cs s2 d s3 ss s4 esp s5 sd s6 ps s7 qs s8, slot outer.os.bytes 0 0 outer.enter = .ok eip s1 ∧ slot outer.os.bytes 1 0 s1 = .ok cs s2 ∧
      Named outer (cs.setWidth 16) s2 d s3 ∧ slot outer.os.bytes 3 0 s3 = .ok ss s4 ∧ slot outer.os.bytes 2 0 s4 = .ok esp s5 ∧
      Named outer (ss.setWidth 16) s5 sd s6 ∧ accessedAt d s6 ps s7 ∧ accessedAt sd s7 qs s8 ∧
      (d.hi.getLsbD 15 && d.hi.getLsbD 12 && d.hi.getLsbD 11 && !d.hi.getLsbD 10 && d.dpl == 3 && cs.toNat % 4 == 3 && sd.hi.getLsbD 15 &&
        sd.hi.getLsbD 12 && !sd.hi.getLsbD 11 && sd.hi.getLsbD 9 && sd.dpl == 3 && ss.toNat % 4 == 3) = true := by
  refine ⟨by unfold frameIn; decide +kernel, by unfold frameIn; decide +kernel, ?_⟩
  have h : okAnd (slot outer.os.bytes 0 0) outer.enter (fun _ s1 => okAnd (slot outer.os.bytes 1 0) s1 fun cs s2 =>
      namedC outer s2 (cs.setWidth 16) fun d s3 => okAnd (slot outer.os.bytes 3 0) s3 fun ss s4 => okAnd (slot outer.os.bytes 2 0) s4 fun _ s5 =>
      namedC outer s5 (ss.setWidth 16) fun sd s6 => accessedC d s6 fun s7 => accessedC sd s7 fun _ =>
        d.hi.getLsbD 15 && d.hi.getLsbD 12 && d.hi.getLsbD 11 && !d.hi.getLsbD 10 && d.dpl == 3 && cs.toNat % 4 == 3 && sd.hi.getLsbD 15 &&
          sd.hi.getLsbD 12 && !sd.hi.getLsbD 11 && sd.hi.getLsbD 9 && sd.dpl == 3 && ss.toNat % 4 == 3) = true := by decide +kernel
  obtain ⟨eip, s1, h1, h⟩ := of_okAnd h
  obtain ⟨cs, s2, h2, h⟩ := of_okAnd h
  obtain ⟨d, s3, h3, h⟩ := of_named h
  obtain ⟨ss, s4, h4, h⟩ := of_okAnd h
  obtain ⟨esp, s5, h5, h⟩ := of_okAnd h
  obtain ⟨sd, s6, h6, h⟩ := of_named h
  obtain ⟨ps, s7, h7, h⟩ := of_accessed h
  obtain ⟨qs, s8, h8, h⟩ := of_accessed h
  exact ⟨eip, s1, cs, s2, d, s3, ss, s4, esp, s5, sd, s6, ps, s7, qs, s8, h1, h2, h3, h4, h5, h6, h7, h8, h⟩

/-- The state in which IRET reads its frame. -/
abbrev irets (s : State) : State := { s.enter with nmiBlocked := false, cur := { s.cur with keepRf := true } }

/-- Frames of IRET: to the same level, to level 3, to virtual-8086 mode. -/
abbrev same : State := frame [0x100, 8, 0x202]
abbrev outer3 : State := frame [0x100, 0x1B, 0x202, 0x9100, 0x23]
abbrev to86 : State := frame [0x100, 0x1000, 0x20202, 0xFFFE, 0x2000, 0x4000, 0x3000, 0, 0]

theorem witness_FarTransfersProtected_iret : same.flags.nt = false ∧
    ∃ eip s1 cs s2 fl s3 d s4 ps s5, slot same.os.bytes 0 0 (irets same) = .ok eip s1 ∧ slot same.os.bytes 1 0 s1 = .ok cs s2 ∧
      slot same.os.bytes 2 0 s2 = .ok fl s3 ∧ Named same (cs.setWidth 16) s3 d s4 ∧
      accessedAt d (withSp s4 (same.spOff + BitVec.ofNat 32 (3 * same.os.bytes))) ps s5 ∧
      (!fl.getLsbD 17 && d.hi.getLsbD 15 && d.hi.getLsbD 12 && d.hi.getLsbD 11 && !d.hi.getLsbD 10 && d.dpl == 0 && cs.toNat % 4 == 0 &&
        decide (eip.toNat ≤ d.limit.toNat)) = true := by
  refine ⟨by decide +kernel, ?_⟩
  have h : okAnd (slot same.os.bytes 0 0) (irets same) (fun eip s1 => okAnd (slot same.os.bytes 1 0) s1 fun cs s2 =>
      okAnd (slot same.os.bytes 2 0) s2 fun fl s3 => namedC same s3 (cs.setWidth 16) fun d s4 =>
      accessedC d (withSp s4 (same.spOff + BitVec.ofNat 32 (3 * same.os.bytes))) fun _ =>
        !fl.getLsbD 17 && d.hi.getLsbD 15 && d.hi.getLsbD 12 && d.hi.getLsbD 11 && !d.hi.getLsbD 10 && d.dpl == 0 && cs.toNat % 4 == 0 &&
          decide (eip.toNat ≤ d.limit.toNat)) = true := by decide +kernel
  obtain ⟨eip, s1, h1, h⟩ := of_okAnd h
  obtain ⟨cs, s2, h2, h⟩ := of_okAnd h
  obtain ⟨fl, s3, h3, h⟩ := of_okAnd h
  obtain ⟨d, s4, h4, h⟩ := of_named h
  obtain ⟨ps, s5, h5, h⟩ := of_accessed h
  exact ⟨eip, s1, cs, s2, fl, s3, d, s4, ps, s5, h1, h2, h3, h4, h5, h⟩

theorem witness_FarTransfersProtected_iretOuter :
    ∃ eip s1 cs s2 fl s3 d s4 esp s5 ss s6 sd s7 ps s8 qs s9, slot outer3.os.bytes 0 0 (irets outer3) = .ok eip s1 ∧
      slot outer3.os.bytes 1 0 s1 = .ok cs s2 ∧ slot outer3.os.bytes 2 0 s2 = .ok fl s3 ∧ Named outer3 (cs.setWidth 16) s3 d s4 ∧
      slot outer3.os.bytes 3 0 s4 = .ok esp s5 ∧ slot outer3.os.bytes 4 0 s5 = .ok ss s6 ∧ Named outer3 (ss.setWidth 16) s6 sd s7 ∧
      accessedAt d { s7 with flags := flagsReturned outer3 fl } ps s8 ∧ accessedAt sd s8 qs s9 ∧
      (!fl.getLsbD 17 && d.hi.getLsbD 15 && d.hi.getLsbD 12 && d.hi.getLsbD 11 && !d.hi.getLsbD 10 && d.dpl == 3 && cs.toNat % 4 == 3 &&
        sd.hi.getLsbD 15 && sd.hi.getLsbD 12 && !sd.hi.getLsbD 11 && sd.hi.getLsbD 9 && sd.dpl == 3 && ss.toNat % 4 == 3) = true := by
  have h : okAnd (slot outer3.os.bytes 0 0) (irets outer3) (fun _ s1 => okAnd (slot outer3.os.bytes 1 0) s1 fun cs s2 =>
      okAnd (slot outer3.os.bytes 2 0) s2 fun fl s3 => namedC outer3 s3 (cs.setWidth 16) fun d s4 =>
      okAnd (slot outer3.os.bytes 3 0) s4 fun _ s5 => okAnd (slot outer3.os.bytes 4 0) s5 fun ss s6 =>
      namedC outer3 s6 (ss.setWidth 16) fun sd s7 => accessedC d { s7 with flags := flagsReturned outer3 fl } fun s8 => accessedC sd s8 fun _ =>
        !fl.getLsbD 17 && d.hi.getLsbD 15 && d.hi.getLsbD 12 && d.hi.getLsbD 11 && !d.hi.getLsbD 10 && d.dpl == 3 && cs.toNat % 4 == 3 &&
          sd.hi.getLsbD 15 && sd.hi.getLsbD 12 && !sd.hi.getLsbD 11 && sd.hi.getLsbD 9 && sd.dpl == 3 && ss.toNat % 4 == 3) = true := by
    decide +kernel
  obtain ⟨eip, s1, h1, h⟩ := of_okAnd h
  obtain ⟨cs, s2, h2, h⟩ := of_okAnd h
  obtain ⟨fl, s3, h3, h⟩ := of_okAnd h
  obtain ⟨d, s4, h4, h⟩ := of_named h
  obtain ⟨esp, s5, h5, h⟩ := of_okAnd h
  obtain ⟨ss, s6, h6, h⟩ := of_okAnd h
  obtain ⟨sd, s7, h7, h⟩ := of_named h
  obtain ⟨ps, s8, h8, h⟩ := of_accessed h
  obtain ⟨qs, s9, h9, h⟩ := of_accessed h
  exact ⟨eip, s1, cs, s2, fl, s3, d, s4, esp, s5, ss, s6, sd, s7, ps, s8, qs, s9, h1, h2, h3, h4, h5, h6, h7, h8, h9, h⟩

/-- The two slots at the top of the stack are read, and `c` goes on from there. -/
def retC (s u : State) (c : Word → Half → State → Bool) : Bool :=
  okAnd (slot s.os.bytes 0 0) u fun eip s1 => okAnd (slot s.os.bytes 1 0) s1 fun cs s2 => c eip (cs.setWidth 16) s2

/-- What refuses a return: a null code selector, one past the table, data, a level inward, one not present, a segment of another level, an offset past the
limit; RETF to an outer level with a stack that ends too early. -/
theorem witness_FarTransfersProtected_returnRefused :
    let ret (s : State) (c : Word → Half → Desc → State → Bool) : Bool := retC s s.enter fun eip sel u => namedC s u sel fun d t => c eip sel d t
    retC (frame [0, 3]) (frame [0, 3]).enter (fun _ sel _ => decide (sel.toNat < 4)) = true ∧
    retC (frame [0, 0x40]) (frame [0, 0x40]).enter (fun _ sel u => decide (4 ≤ sel.toNat) && !inTable u sel) = true ∧
    ret (frame [0, 0x10]) (fun _ _ d _ => d.hi.getLsbD 12 && !d.hi.getLsbD 11) = true ∧
    (let s : State := { frame [0, 8] with cpl := 3 }
     ret s (fun _ sel d _ => isCodeC true d && decide (sel.toNat % 4 < s.cpl.toNat)) = true) ∧
    ret (frame [0, 0x18]) (fun _ sel d _ => isCodeC true d && !d.hi.getLsbD 10 && d.dpl.toNat != sel.toNat % 4) = true ∧
    ret (bytesAt (frame [0, 8]) 0x300D [0x1B]) (fun _ _ d _ => isCodeC false d && d.dpl == 0) = true ∧
    ret (ends8FFF (frame [0x9000, 8])) (fun eip sel d _ => isCodeC true d && d.dpl == 0 && sel == 8 && decide (d.limit.toNat + 1 = eip.toNat)) = true ∧
    (let s : State := { outer with segs := { outer.segs with ss := { outer.segs.ss with limit := 0x900E } } }
     frameIn s (2 * s.os.bytes) ∧ ¬ frameIn s (4 * s.os.bytes) ∧ ret s (fun _ sel d _ => isCodeC true d && d.dpl == 3 && sel.toNat % 4 == 3) = true) ∧
    (let s : State := { to86 with segs := { to86.segs with ss := { to86.segs.ss with limit := 0x9022 } } }
     ¬ frameIn s 36 ∧ s.cpl = 0) := by
  unfold frameIn
  decide +kernel

/-- What refuses the stack of an outer level, to RETF (slots 3 and 2) and to IRET (slots 3 and 4): null, past the table, not writable, not present, a
wrong DPL, a wrong RPL; and with a stack that is right, an offset past the limit. -/
theorem witness_FarTransfersProtected_outerRefused :
    let retf (s : State) (c : Word → Desc → Half → State → Bool) : Bool := retC s s.enter fun eip sel u => namedC s u sel fun d t =>
      okAnd (slot 4 3 0) t fun ss t1 => okAnd (slot 4 2 0) t1 fun _ t2 => s.os.bytes == 4 && isCodeC true d && c eip d (ss.setWidth 16) t2
    let iret (s : State) (c : Word → Desc → Half → State → Bool) : Bool := retC s (irets s) fun eip sel u => okAnd (slot 4 2 0) u fun _ u1 =>
      namedC s u1 sel fun d t => okAnd (slot 4 3 0) t fun _ t1 => okAnd (slot 4 4 0) t1 fun ss t2 =>
        s.os.bytes == 4 && isCodeC true d && c eip d (ss.setWidth 16) t2
    let both (ss : Nat) (f : State → State) (c : Word → Desc → Half → State → Bool) : Bool :=
      retf (f (frame [0x9000, 0x1B, 0x9100, ss])) c && iret (f (frame [0x9000, 0x1B, 0x202, 0x9100, ss])) c
    let stack (s : State) (c : Desc → Bool) (sel : Half) (t : State) : Bool := namedC s t sel fun d _ => c d
    let T := tables flat
    both 3 id (fun _ _ sel _ => decide (sel.toNat < 4)) = true ∧ both 0x43 id (fun _ _ sel t => decide (4 ≤ sel.toNat) && !inTable t sel) = true ∧
    both 0x1B id (fun _ _ => stack T fun d => d.hi.getLsbD 11) = true ∧
    both 0x23 (fun s => bytesAt s 0x3025 [0x73]) (fun _ _ => stack T fun d =>
      !d.hi.getLsbD 15 && d.hi.getLsbD 12 && !d.hi.getLsbD 11 && d.hi.getLsbD 9) = true ∧
    both 0x13 id (fun _ _ => stack T fun d => d.hi.getLsbD 15 && d.hi.getLsbD 12 && !d.hi.getLsbD 11 && d.hi.getLsbD 9 && d.dpl == 0) = true ∧
    both 0x20 id (fun _ _ sel => stack T (fun d => d.hi.getLsbD 15 && d.hi.getLsbD 12 && !d.hi.getLsbD 11 && d.hi.getLsbD 9 && d.dpl == 3 &&
      sel.toNat % 4 == 0) sel) = true ∧
    both 0x23 (fun s => bytesAt s 0x3018 [0xFF, 0x8F, 0, 0, 0, 0xFB, 0x40, 0]) (fun eip d => stack T fun sd =>
      decide (d.limit.toNat + 1 = eip.toNat) && sd.hi.getLsbD 15 && sd.hi.getLsbD 12 && !sd.hi.getLsbD 11 && sd.hi.getLsbD 9 && sd.dpl == 3) = true := by
  decide +kernel

theorem witness_FarTransfersProtected_iretV86 : to86.os = .s32 ∧ to86.cpl = 0 ∧ frameIn to86 36 ∧
    ∃ eip s1 cs s2 fl s3 vs s4, slot to86.os.bytes 0 0 (irets to86) = .ok eip s1 ∧ slot to86.os.bytes 1 0 s1 = .ok cs s2 ∧
      slot to86.os.bytes 2 0 s2 = .ok fl s3 ∧ peekSlots 32 6 3 s3 = .ok vs s4 ∧
      (fl.getLsbD 17 && vs == (List.range 6).map fun i => vs.getD i 0) = true := by
  refine ⟨by decide +kernel, by decide +kernel, by unfold frameIn; decide +kernel, ?_⟩
  have h : okAnd (slot to86.os.bytes 0 0) (irets to86) (fun _ s1 => okAnd (slot to86.os.bytes 1 0) s1 fun _ s2 =>
      okAnd (slot to86.os.bytes 2 0) s2 fun fl s3 => okAnd (peekSlots 32 6 3) s3 fun vs _ =>
        fl.getLsbD 17 && vs == (List.range 6).map fun i => vs.getD i 0) = true := by decide +kernel
  obtain ⟨eip, s1, h1, h⟩ := of_okAnd h
  obtain ⟨cs, s2, h2, h⟩ := of_okAnd h
  obtain ⟨fl, s3, h3, h⟩ := of_okAnd h
  obtain ⟨vs, s4, h4, h⟩ := of_okAnd h
  exact ⟨eip, s1, cs, s2, fl, s3, vs, s4, h1, h2, h3, h4, h⟩

/-- Real-address mode is ready to deliver an event once the three slots of its stack are found. -/
theorem realReady {ev : Event} {s : State} (h1 : s.pe = false ∧ s.pg = false ∧ s.inSmm = false ∧ 4 * ev.vec + 3 ≤ s.idtr.limit.toNat)
    (h2 : okAnd (pushSlots s.ss 2 s.spOff 3) (begun ev s) (fun _ _ => true) = true) : ∃ slots s1, RealReady ev s slots s1 := by
  obtain ⟨slots, s1, h⟩ := ok1 h2
  exact ⟨slots, s1, h1.1, h1.2.1, by simp [h1.2.2.1], h1.2.2.2, h⟩

/-- Vector 255, the last of the table. -/
theorem witness_RealModeDelivery :
    ∃ slots s1, RealReady { kind := .intr, vec := 255, code := none, retEip := 0x100, faultEip := 0x100, dbg := none }
      { real with idtr := { base := 0, limit := 0x3FF } } slots s1 := realReady (by decide +kernel) (by decide +kernel)

theorem witness_SoftwareInterrupts :
    (∃ slots s1, RealReady (softEvent real (softInstr (some 0xFF)).2) real slots s1) ∧ real.v86 = false ∧
    ((v86 2).v86 = true ∧ (v86 2).flags.iopl ≠ 3) ∧ real.flags.of = false ∧ (efl real 0x800).flags.of = true ∧
    ∃ slots s1, RealReady (softEvent (efl real 0x800) 4) (efl real 0x800) slots s1 :=
  ⟨realReady (by decide +kernel) (by decide +kernel), by decide +kernel, by decide +kernel, by decide +kernel, by decide +kernel,
    realReady (by decide +kernel) (by decide +kernel)⟩

/-- #GP(0). -/
def gpEvent : Event := { kind := .exc, vec := 13, code := some 0, retEip := 0x100, faultEip := 0x100, dbg := none }

/-- A delivery of #GP(0) in `s` reads its gate. -/
def gateC (s : State) (c : Desc → State → Bool) : Bool :=
  s.pe && !s.inSmm && decide (8 * 13 + 7 ≤ s.idtr.limit.toNat) &&
    okAnd (readDescAt (s.idtr.base + BitVec.ofNat 32 (8 * 13))) (begun gpEvent s) fun g t => !g.hi.getLsbD 12 && g.hi.getLsbD 15 && c g t

theorem of_gate {s : State} {c : Desc → State → Bool} (h : gateC s c = true) :
    s.pe = true ∧ (s.inSmm = true → s.smm.idtLoaded = true) ∧ 8 * gpEvent.vec + 7 ≤ s.idtr.limit.toNat ∧
    ∃ g t, readDescAt (s.idtr.base + BitVec.ofNat 32 (8 * gpEvent.vec)) (begun gpEvent s) = .ok g t ∧ g.hi.getLsbD 12 = false ∧
      g.hi.getLsbD 15 = true ∧ c g t = true := by
  simp only [gateC, Bool.and_eq_true, decide_eq_true_eq, Bool.not_eq_true'] at h
  obtain ⟨⟨⟨hp, hs⟩, hl⟩, h⟩ := h
  obtain ⟨g, t, h1, h⟩ := of_okAnd h
  simp only [Bool.and_eq_true, Bool.not_eq_true'] at h
  exact ⟨hp, by simp [hs], hl, g, t, h1, h.1.1, h.1.2, h.2⟩

/-- #GP through a task gate. -/
def taskGate : State := bytesAt twoTasks 0x4068 [0, 0, 0x30, 0, 0, 0x85, 0, 0]

theorem witness_GateDelivery_task :
    ∃ g t u, readDescAt (taskGate.idtr.base + BitVec.ofNat 32 (8 * gpEvent.vec)) (begun gpEvent taskGate) = .ok g t ∧ g.typ = 5 ∧
      g.hi.getLsbD 12 = false ∧ g.hi.getLsbD 15 = true ∧ taskSwitch g.gateSel .intr gpEvent.retEip gpEvent.code t = .ok () u := by
  have h : (gateC taskGate fun g t => decide (g.typ = 5) && okAnd (taskSwitch g.gateSel .intr 0x100 (some 0)) t fun _ _ => true) = true := by
    decide +kernel
  obtain ⟨-, -, -, g, t, h1, h12, h15, h⟩ := of_gate h
  simp only [Bool.and_eq_true, decide_eq_true_eq] at h
  obtain ⟨_, u, h2, -⟩ := of_okAnd h.2
  exact ⟨g, t, u, h1, h.1, h12, h15, h2⟩

/-- At level 0 with a 32-bit interrupt gate for #GP. -/
abbrev gp0Gate : State := gate (tables (regs flat 0 0 0 0 0x8000 0 0 0)) 13 0x9000 0x8E

theorem witness_GateDelivery_same :
    ∃ g t cd u slots v ps w, readDescAt (gp0Gate.idtr.base + BitVec.ofNat 32 (8 * gpEvent.vec)) (begun gpEvent gp0Gate) = .ok g t ∧
      Named gp0Gate g.gateSel t cd u ∧ pushSlots gp0Gate.ss 4 gp0Gate.spOff 4 u = .ok slots v ∧ accessedAt cd v ps w ∧
      (g.typ == 14 && cd.hi.getLsbD 15 && cd.hi.getLsbD 12 && cd.hi.getLsbD 11 && cd.dpl == gp0Gate.cpl && !gp0Gate.flags.vm &&
        decide (g.gateOffset.toNat ≤ cd.limit.toNat)) = true := by
  have h : (gateC gp0Gate fun g t => namedC gp0Gate t g.gateSel fun cd u => okAnd (pushSlots gp0Gate.ss 4 gp0Gate.spOff 4) u fun _ v =>
      accessedC cd v fun _ => g.typ == 14 && cd.hi.getLsbD 15 && cd.hi.getLsbD 12 && cd.hi.getLsbD 11 && cd.dpl == gp0Gate.cpl &&
        !gp0Gate.flags.vm && decide (g.gateOffset.toNat ≤ cd.limit.toNat)) = true := by decide +kernel
  obtain ⟨-, -, -, g, t, h1, -, -, h⟩ := of_gate h
  obtain ⟨cd, u, h2, h⟩ := of_named h
  obtain ⟨slots, v, h3, h⟩ := of_okAnd h
  obtain ⟨ps, w, h4, h⟩ := of_accessed h
  exact ⟨g, t, cd, u, slots, v, ps, w, h1, h2, h3, h4, h⟩

/-- An inner level is entered from `s`, with `n` items. -/
theorem entersInner {s : State} {n : Nat} {q : Desc → Desc → Bool}
    (h : (gateC s fun g t => namedC s t g.gateSel fun cd u => innerC cd.dpl u fun sd ssel sp v =>
      okAnd (pushSlots (switched cd.dpl sd ssel sp v).ss 4 (switched cd.dpl sd ssel sp v).spOff n) (switched cd.dpl sd ssel sp v) fun _ w =>
        accessedC sd w fun x => accessedC cd x fun _ => q g cd) = true) :
    ∃ g t cd u sd ssel sp v slots w qs x ps y,
      readDescAt (s.idtr.base + BitVec.ofNat 32 (8 * gpEvent.vec)) (begun gpEvent s) = .ok g t ∧ Named s g.gateSel t cd u ∧
      InnerStack cd.dpl u sd ssel sp v ∧
      pushSlots (switched cd.dpl sd ssel sp v).ss 4 (switched cd.dpl sd ssel sp v).spOff n (switched cd.dpl sd ssel sp v) = .ok slots w ∧
      accessedAt sd w qs x ∧ accessedAt cd x ps y ∧ q g cd = true := by
  obtain ⟨-, -, -, g, t, h1, -, -, h⟩ := of_gate h
  obtain ⟨cd, u, h2, h⟩ := of_named h
  obtain ⟨sd, ssel, sp, v, h3, h⟩ := of_inner h
  obtain ⟨slots, w, h4, h⟩ := of_okAnd h
  obtain ⟨qs, x, h5, h⟩ := of_accessed h
  obtain ⟨ps, y, h6, h⟩ := of_accessed h
  exact ⟨g, t, cd, u, sd, ssel, sp, v, slots, w, qs, x, ps, y, h1, h2, h3, h4, h5, h6, h⟩

/-- From level 3, and from virtual-8086 mode. -/
theorem witness_GateDelivery_inner :
    (∃ g t cd u sd ssel sp v slots w qs x ps y,
      readDescAt (user.idtr.base + BitVec.ofNat 32 (8 * gpEvent.vec)) (begun gpEvent user) = .ok g t ∧ Named user g.gateSel t cd u ∧
      InnerStack cd.dpl u sd ssel sp v ∧
      pushSlots (switched cd.dpl sd ssel sp v).ss 4 (switched cd.dpl sd ssel sp v).spOff 6 (switched cd.dpl sd ssel sp v) = .ok slots w ∧
      accessedAt sd w qs x ∧ accessedAt cd x ps y ∧
      (g.typ == 14 && cd.hi.getLsbD 15 && cd.hi.getLsbD 12 && cd.hi.getLsbD 11 && !cd.hi.getLsbD 10 && decide (cd.dpl.toNat < user.cpl.toNat) &&
        !user.flags.vm) = true) ∧
    ∃ g t cd u sd ssel sp v slots w qs x ps y,
      readDescAt ((task86 0x23202).idtr.base + BitVec.ofNat 32 (8 * gpEvent.vec)) (begun gpEvent (task86 0x23202)) = .ok g t ∧
      Named (task86 0x23202) g.gateSel t cd u ∧ InnerStack cd.dpl u sd ssel sp v ∧
      pushSlots (switched cd.dpl sd ssel sp v).ss 4 (switched cd.dpl sd ssel sp v).spOff 10 (switched cd.dpl sd ssel sp v) = .ok slots w ∧
      accessedAt sd w qs x ∧ accessedAt cd x ps y ∧
      (g.typ == 14 && cd.hi.getLsbD 15 && cd.hi.getLsbD 12 && cd.hi.getLsbD 11 && !cd.hi.getLsbD 10 && cd.dpl == 0 &&
        (task86 0x23202).flags.vm) = true :=
  ⟨entersInner (by decide +kernel), entersInner (by decide +kernel)⟩

/-- A task switch of each cause that completes where all is RAM. -/
theorem witness_GateDelivery_switch :
    (flatRam twoTasks ∧ flatRam nested) ∧ (∃ x t, taskSwitch 0x30 .jmp 0x107 none twoTasks = .ok x t) ∧
    (∃ x t, taskSwitch 0x30 .call 0x107 none twoTasks = .ok x t) ∧ (∃ x t, taskSwitch 0x30 .intr 0x107 (some 0) twoTasks = .ok x t) ∧
    ∃ x t, taskSwitch 0x28 .iret 0x107 none nested = .ok x t :=
  ⟨⟨by unfold flatRam; decide +kernel, by unfold flatRam; decide +kernel⟩, ok1 (by decide +kernel), ok1 (by decide +kernel),
    ok1 (by decide +kernel), ok1 (by decide +kernel)⟩

/-- What refuses a delivery at its vector: an IDT that ends one byte early, no gate, INT n through a gate of level 0 at level 3, one not present. -/
theorem witness_GateDelivery_vector :
    let entry (s : State) (c : Desc → Bool) : Bool := s.pe && !s.inSmm &&
      okAnd (readDescAt (s.idtr.base + BitVec.ofNat 32 (8 * 13))) (begun gpEvent s) fun g _ => c g
    ({ user with idtr := { user.idtr with limit := 0x6E } }.idtr.limit.toNat + 1 = 8 * gpEvent.vec + 7) ∧
    entry (tables flat) (fun g => g.typ == 0) = true ∧
    entry user (fun g => !g.hi.getLsbD 12 && g.typ == 14 && decide (g.dpl.toNat < user.cpl.toNat)) = true ∧
    entry (bytesAt user 0x406D [0x0E]) (fun g => !g.hi.getLsbD 12 && g.typ == 14 && !g.hi.getLsbD 15) = true := by decide +kernel

/-- A task gate whose task switch raises an exception: to a TSS that is not present. -/
theorem witness_GateDelivery_taskRefused :
    (gateC (bytesAt taskGate 0x3035 [0x09]) fun g t => g.typ == 5 && match taskSwitch g.gateSel .intr gpEvent.retEip gpEvent.code t with
      | .error (.exc e) _ => e.vec == 11
      | _ => false) = true := by decide +kernel

/-- What refuses a delivery through an interrupt gate: a null code selector, one past the table, data, a less privileged level, one not present; from
virtual-8086 mode a handler of level 3; a stack without room and an offset past the limit, at the same level and at an inner one. -/
theorem witness_GateDelivery_refused :
    let g (s : State) (c : Desc → State → Bool) : Bool := gateC s fun g t => g.typ == 14 && c g t
    let at8 (s : State) (c : Desc → Desc → State → Bool) : Bool := g s fun g t => namedC s t g.gateSel fun cd u => c g cd u
    g (bytesAt user 0x406A [3]) (fun g _ => decide (g.gateSel.toNat < 4)) = true ∧
    g (bytesAt user 0x406A [0x40]) (fun g t => decide (4 ≤ g.gateSel.toNat) && !inTable t g.gateSel) = true ∧
    at8 (bytesAt user 0x406A [0x10]) (fun _ cd _ => cd.hi.getLsbD 12 && !cd.hi.getLsbD 11) = true ∧
    at8 (bytesAt gp0Gate 0x406A [0x18]) (fun _ cd _ => isCodeC true cd && decide (gp0Gate.cpl.toNat < cd.dpl.toNat)) = true ∧
    at8 (bytesAt user 0x300D [0x1B]) (fun _ cd _ => isCodeC false cd && cd.dpl == 0) = true ∧
    at8 (bytesAt (task86 0x23202) 0x406A [0x18]) (fun _ cd _ => isCodeC true cd && cd.dpl == 3 && (task86 0x23202).flags.vm &&
      (task86 0x23202).cpl == 3) = true ∧
    at8 (bytesAt (task86 0x23202) 0x300D [0x9F]) (fun _ cd _ => isCodeC true cd && cd.hi.getLsbD 10) = true ∧
    (let s : State := { gp0Gate with segs := { gp0Gate.segs with ss := { gp0Gate.segs.ss with limit := 0x7FFE } } }
     at8 s (fun _ cd _ => isCodeC true cd && cd.dpl == s.cpl && s.pe && !s.flags.vm && !stackRoom s.segs.ss 4 s.spOff 4) = true) ∧
    at8 (ends8FFF gp0Gate) (fun g cd u => isCodeC true cd && decide (cd.limit.toNat + 1 = g.gateOffset.toNat) &&
      okAnd (pushSlots gp0Gate.ss 4 gp0Gate.spOff 4) u fun _ _ => true) = true ∧
    at8 (bytesAt user 0x3010 [0xFE, 0x7F, 0, 0, 0, 0x93, 0x40, 0]) (fun _ cd u => isCodeC true cd && cd.dpl == 0 && innerC 0 u fun sd ssel sp v =>
      v.pe && !stackRoom (segOf (marked sd) ssel) 4 sp 6) = true ∧
    at8 (ends8FFF user) (fun g cd u => isCodeC true cd && decide (cd.limit.toNat + 1 = g.gateOffset.toNat) && innerC 0 u fun sd ssel sp v =>
      okAnd (pushSlots (switched 0 sd ssel sp v).ss 4 (switched 0 sd ssel sp v).spOff 6) (switched 0 sd ssel sp v) fun _ _ => true) = true := by
  decide +kernel

/-- The delivery of an event of this kind and vector stops with an exception that `c` accepts. -/
def Raises (kind : EventKind) (vec : Nat) (s : State) (c : Exc → Bool) : Prop :=
  ∃ e t, deliverOnce { kind := kind, vec := vec, code := none, retEip := 0, faultEip := 0, dbg := none } s = .error (.exc e) t ∧
    t.cur.committed = false ∧ c e = true

theorem raises {kind : EventKind} {vec : Nat} {s : State} {c : Exc → Bool}
    (h : (match deliverOnce { kind := kind, vec := vec, code := none, retEip := 0, faultEip := 0, dbg := none } s with
      | .error (.exc e) t => !t.cur.committed && c e
      | _ => false) = true) : Raises kind vec s c := by
  unfold Raises
  split at h
  · rename_i e t he
    simp only [Bool.and_eq_true, Bool.not_eq_true'] at h
    exact ⟨e, t, he, h.1, h.2⟩
  · cases h

/-- The last vector that a table of real-address mode does not hold. -/
theorem witness_DoubleFaults_real :
    let s : State := { real with idtr := { base := 0, limit := 0x3FE } }
    s.pe = false ∧ s.inSmm = false ∧ s.idtr.limit.toNat + 1 = 4 * 255 + 3 := by decide +kernel

/-- An IDT of limit 0: each delivery raises #GP, and in real-address mode vector 8. -/
theorem witness_DoubleFaults :
    let s : State := { flat with idtr := { base := 0, limit := 0 } }
    Raises .exc 8 s (fun e => e.vec == 13) ∧ Raises .exc 10 s (fun e => e.vec == 13) ∧ Raises .exc 14 s (fun e => e.vec == 13) ∧
    Raises .exc 6 s (fun e => e.vec == 13) ∧ Raises .nmi 14 s (fun e => e.vec == 13) ∧
    Raises .exc 6 { real with idtr := { base := 0, limit := 0 } } (fun e => e.vec == 8) :=
  ⟨raises (by decide +kernel), raises (by decide +kernel), raises (by decide +kernel), raises (by decide +kernel), raises (by decide +kernel), raises (by decide +kernel)⟩

/-- The slots of the frame pointers that ENTER copies are found, and `c` accepts them. -/
theorem copySlots {s : State} {n : Nat} : ∀ {c k : Nat} {u : State} {q : List (List Word × List Word) → State → Bool},
    okAnd (Machine.copySlots s.ss n c (wrapSp s.ss (s.bpOff - BitVec.ofNat 32 (n * (k - 1)))) (wrapSp s.ss (s.spOff - BitVec.ofNat 32 (n * k)))) u q
      = true → c ≤ 1 → wrapSp s.ss (wrapSp s.ss (s.bpOff - BitVec.ofNat 32 (n * (k - 1))) - BitVec.ofNat 32 n) = wrapSp s.ss (s.bpOff - BitVec.ofNat 32 (n * k)) →
    wrapSp s.ss (wrapSp s.ss (s.spOff - BitVec.ofNat 32 (n * k)) - BitVec.ofNat 32 n) = wrapSp s.ss (s.spOff - BitVec.ofNat 32 (n * (k + 1))) →
    ∃ ps t, CopySlots s n c k u ps t ∧ q ps t = true := by
  intro c k u q h hc h1 h2
  match c with
  | 0 => exact ⟨[], u, ⟨rfl, rfl⟩, h⟩
  | 1 =>
    obtain ⟨ps, t, h, hq⟩ := of_okAnd h
    unfold Machine.copySlots at h
    obtain ⟨src, s1, ha, h⟩ := Laws.bind_eq_ok.1 h
    obtain ⟨dst, s2, hb, h⟩ := Laws.bind_eq_ok.1 h
    obtain ⟨rest, s3, hr, h⟩ := Laws.bind_eq_ok.1 h
    cases hr
    cases h
    exact ⟨_, _, ⟨src, s1, dst, _, [], rfl, h1 ▸ ha, h2 ▸ hb, rfl, rfl⟩, hq⟩

/-- BOUND at its upper limit and one past it, and with limits half past the last offset; ENTER with level 0 (32 modulo 32) and 2. -/
theorem witness_ProcedureFrames :
    (∃ v w t, ReadTwice (.direct16 0xFFFC) real.os.bytes real.os.bytes real real.enter v w t ∧
      (v == 0 && w == 0 && t.regs.read real.os.bits .eax == 0) = true) ∧
    (∃ v w t, ReadTwice (.direct16 0xFFFC) real.os.bytes real.os.bytes real (eax real 1).enter v w t ∧
      (v == 0 && w == 0 && t.regs.read real.os.bits .eax == 1) = true) ∧
    (∃ t, ReadPast (.direct16 0xFFFE) real.os.bytes real.os.bytes real real.enter t) ∧
    Reachable real.ss .ss (wrapSp real.ss (real.spOff - BitVec.ofNat 32 real.os.bytes)) real.os.bytes real.os.bytes .w real.enter ∧
    (32 : BitVec 8).toNat % 32 = 0 ∧
    (∃ copies s2, CopySlots real real.os.bytes ((2 : BitVec 8).toNat % 32 - 1) 1 real.enter copies s2 ∧
      okAnd (pushSlots real.ss real.os.bytes (wrapSp real.ss (wrapSp real.ss (real.spOff - BitVec.ofNat 32 2) - BitVec.ofNat 32 2)) 1) s2
        (fun _ _ => copies.length == 1) = true) ∧
    Loadable real.ss .ss real.bpOff real.os.bytes real.os.bytes .r real.enter (fun _ _ => true) :=
  ⟨readTwice (by decide +kernel), readTwice (by decide +kernel), readPast (by decide +kernel) (by decide +kernel), reachable (by decide +kernel),
    by decide, copySlots (by decide +kernel) (by decide) (by decide +kernel) (by decide +kernel), loadable (by decide +kernel)⟩

theorem witness_StringIteration :
    ((repeated real .rep).cur.rep ≠ none ∧ (repeated real .rep).counter = 0) ∧ iterates real ∧
    iterates (repeated (regs real 0 1 0 0 0 0 0 0) .repne) ∧
    (∃ ps s1 v s2 qs s3, access real.as (real.segOr .ds) (real.asReg .esi) 2 2 .r real.enter = .ok ps s1 ∧ load ps s1 = .ok v s2 ∧
      access real.as .es (real.asReg .edi) 2 2 .w s2 = .ok qs s3 ∧ true = true) ∧
    (∃ ps s1 v s2 qs s3, access real.as (real.segOr .ds) (real.asReg .esi) 2 2 .r real.enter = .ok ps s1 ∧ load ps s1 = .ok v s2 ∧
      access real.as .es (real.asReg .edi) 2 2 .r s2 = .ok qs s3 ∧ true = true) ∧
    Loadable real.as .es (real.asReg .edi) 2 2 .r real.enter (fun _ _ => true) ∧ Reachable real.as .es (real.asReg .edi) 2 2 .w real.enter :=
  ⟨by decide +kernel, .inl rfl, .inr (by decide +kernel),
    ok3 (f := load) (g := fun _ _ => access real.as .es _ _ _ .w) (c := fun _ _ _ => true) (by decide +kernel),
    ok3 (f := load) (g := fun _ _ => access real.as .es _ _ _ .r) (c := fun _ _ _ => true) (by decide +kernel),
    loadable (by decide +kernel), reachable (by decide +kernel)⟩

/-- Port access at level 0 with IOPL 0; level 3 with IOPL 2 and a TSS that ends at 66H. -/
theorem witness_PortInputOutput :
    (flat.flags.vm = false ∧ flat.cpl.toNat ≤ flat.flags.iopl.toNat) ∧
    (let s : State := efl { user with tr := { user.tr with limit := 0x66 } } 0x2002
     s.pe = true ∧ s.flags.iopl.toNat < s.cpl.toNat ∧ s.tr.limit.toNat < 0x67 ∧ s.cur.committed = false) ∧
    (.inAlImm8 0xFF, true, 0xFF) ∈ inForms flat 0xFF ∧ (.outImm8Al 0xFF, true, 0xFF) ∈ outForms flat 0xFF ∧
    (∃ x s1, ioPermitted 0xFF (width true flat / 8) (ioEnter flat) = .ok x s1) ∧
    (∃ x s1 qs s2, ioPermitted (flat.regs.read 16 .edx) 1 (ioEnter flat) = .ok x s1 ∧ access flat.as .es (flat.asReg .edi) 1 1 .w s1 = .ok qs s2 ∧
      true = true) ∧
    (∃ x s1 ps s2 v s3, ioPermitted (flat.regs.read 16 .edx) 1 (ioEnter flat) = .ok x s1 ∧
      access flat.as (flat.segOr .ds) (flat.asReg .esi) 1 1 .r s1 = .ok ps s2 ∧ load ps s2 = .ok v s3 ∧ true = true) ∧
    ((repeated real .rep).cur.rep ≠ none ∧ (repeated real .rep).counter = 0) :=
  ⟨by decide +kernel, by decide +kernel, by decide +kernel, by decide +kernel, ok1 (by decide +kernel),
    ok2 (f := fun _ => access flat.as .es _ _ _ .w) (c := fun _ _ => true) (by decide +kernel),
    ok3 (f := fun _ => access flat.as _ _ _ _ .r) (g := fun _ ps => load ps) (c := fun _ _ _ => true) (by decide +kernel), by decide +kernel⟩

/-- As `ok2`, the second part and the test depending on the first value. -/
theorem ok2map {α β : Type} {m : M α} {s : State} {f : α → M β} {c : α → β → State → Bool}
    (h : okAnd m s (fun a t => okAnd (f a) t (c a)) = true) : ∃ a t b u, m s = .ok a t ∧ f a t = .ok b u ∧ c a b u = true := by
  obtain ⟨a, t, h1, h⟩ := of_okAnd h
  obtain ⟨b, u, h2, h⟩ := of_okAnd h
  exact ⟨a, t, b, u, h1, h2, h⟩

/-- The I/O map of the TSS at 10000H: its base at 66H is 0; a port past its end, a port with a clear bit and one with a set bit. -/
theorem witness_PortInputOutput_map :
    let s : State := { user with tr := { user.tr with limit := 0x67 } }
    (s.pe = true ∧ s.flags.iopl.toNat < s.cpl.toNat ∧ s.tr.attr.typ = 11 ∧ 0x67 ≤ s.tr.limit.toNat) ∧
    (∃ map s1, tssRead16 (s.tr.base + 0x66) s = .ok map s1 ∧ decide (s.tr.limit.toNat ≤ map.toNat + (0x3F8 : Half).toNat / 8) = true) ∧
    (∃ map s1 bits s2, tssRead16 (s.tr.base + 0x66) s = .ok map s1 ∧
      tssRead16 (s.tr.base + BitVec.ofNat 32 (map.toNat + (0x2E : Half).toNat / 8)) s1 = .ok bits s2 ∧
      decide (map.toNat + (0x2E : Half).toNat / 8 < s.tr.limit.toNat ∧ bits.getLsbD ((0x2E : Half).toNat % 8) = false) = true) ∧
    ∃ map s1 bits s2, tssRead16 (s.tr.base + 0x66) s = .ok map s1 ∧
      tssRead16 (s.tr.base + BitVec.ofNat 32 (map.toNat + (0x2F : Half).toNat / 8)) s1 = .ok bits s2 ∧
      decide (map.toNat + (0x2F : Half).toNat / 8 < s.tr.limit.toNat ∧ bits.getLsbD ((0x2F : Half).toNat % 8) = true) = true :=
  ⟨by decide +kernel, of_okAnd (by decide +kernel),
    ok2map (by decide +kernel), ok2map (by decide +kernel)⟩

theorem witness_SystemTableRegisters :
    let s := tables flat
    (levelOf s = 0 ∧ s.prot = true ∧ s.cpl = 0 ∧ s.os = .s32 ∧ real.prot = false ∧ real.os = .s16) ∧
    (∃ ps s1 v s2, accessIf s.as (s.eaSeg (.direct32 0x1002)) (s.eaOff (.direct32 0x1002)) 6 pseudoAligned .r s.enter = .ok ps s1 ∧
      load ps s1 = .ok v s2 ∧ true = true) ∧
    (∃ ps s1, accessIf s.as (s.eaSeg (.direct32 0x1002)) (s.eaOff (.direct32 0x1002)) 6 pseudoAligned .w s.enter = .ok ps s1) ∧
    (∃ p s1, locate 16 (.mem (.direct32 0x1000)) .w s.enter = .ok p s1) ∧
    Readable 16 (.mem (.direct32 0x1000)) .r s.enter (fun sel _ => decide (sel.toNat < 4)) ∧
    (inTable s 0x38 = true ∧ inTable s 0x30 = true) ∧
    (∃ d s3, readDescAt (descLinear s 0x38) s = .ok d s3 ∧ (!d.hi.getLsbD 12 && d.hi.getLsbD 15 && d.typ == 2) = true) ∧
    ∃ d s3 ps s4, readDescAt (descLinear s 0x30) s = .ok d s3 ∧
      linAddrs (d.addr + 4) 4 { write := true, user := false, fetch := false } s3 = .ok ps s4 ∧ true = true :=
  ⟨by decide +kernel, ok2 (f := load) (c := fun _ _ => true) (by decide +kernel), ok1 (by decide +kernel), ok1 (by decide +kernel),
    readable (by decide +kernel), by decide +kernel, of_okAnd (by decide +kernel),
    ok2 (f := fun d : Desc => linAddrs (d.addr + 4) 4 { write := true, user := false, fetch := false }) (c := fun _ _ => true)
      (by decide +kernel)⟩

/-- ECX names a descriptor; the last byte of those at 30H and 38H is `p`, so that they are not present if `p` has no bit 7. -/
def naming (sel : Word) (p : Nat) : State := bytesAt (bytesAt (tables (regs flat 0 sel 0 0 0 0 0 0)) 0x303D [p + 2]) 0x3035 [p + 9]

/-- The operand ECX is read as a selector of the GDT, and its descriptor is one that `c` accepts. -/
def Names (s : State) (c : Desc → Bool) : Prop :=
  ∃ p s1 sel s2 d s3, locate 16 (.reg .ecx) .r s.enter = .ok p s1 ∧ p.get 16 s1 = .ok sel s2 ∧ readDescAt (descLinear s sel) s2 = .ok d s3 ∧
    (decide (4 ≤ sel.toNat) && !sel.getLsbD 2 && inTable s sel && c d) = true

theorem names {s : State} {c : Desc → Bool}
    (h : okAnd (locate 16 (.reg .ecx) .r) s.enter (fun p s1 => okAnd (p.get 16) s1 fun sel s2 => okAnd (readDescAt (descLinear s sel)) s2 fun d _ =>
      decide (4 ≤ sel.toNat) && !sel.getLsbD 2 && inTable s sel && c d) = true) : Names s c := by
  obtain ⟨p, s1, h1, h⟩ := of_okAnd h
  obtain ⟨sel, s2, h2, h⟩ := of_okAnd h
  obtain ⟨d, s3, h3, h⟩ := of_okAnd h
  exact ⟨p, s1, sel, s2, d, s3, h1, h2, h3, h⟩

/-- Selectors that LLDT and LTR refuse: 4 (an LDT), 40H (past the table), a TSS for LLDT, an LDT for LTR, and both not present. -/
theorem witness_SystemTableRegisters_faults :
    (let s := naming 4 0x80
     s.prot = true ∧ s.cpl = 0 ∧ Readable 16 (.reg .ecx) .r s.enter (fun sel _ => decide (4 ≤ sel.toNat) && sel.getLsbD 2)) ∧
    Readable 16 (.reg .ecx) .r (naming 0x40 0x80).enter (fun sel _ => decide (4 ≤ sel.toNat) && !inTable (naming 0x40 0x80) sel) ∧
    Names (naming 0x30 0x80) (fun d => !d.hi.getLsbD 12 && d.typ == 9) ∧ Names (naming 0x38 0x80) (fun d => !d.hi.getLsbD 12 && d.typ == 2) ∧
    Names (naming 0x38 0) (fun d => !d.hi.getLsbD 12 && d.typ == 2 && !d.hi.getLsbD 15) ∧
    Names (naming 0x30 0) (fun d => !d.hi.getLsbD 12 && d.typ == 9 && !d.hi.getLsbD 15) ∧ (naming 0x30 0).cur.committed = false :=
  ⟨⟨by decide +kernel, by decide +kernel, readable (by decide +kernel)⟩, readable (by decide +kernel), names (by decide +kernel),
    names (by decide +kernel), names (by decide +kernel), names (by decide +kernel), rfl⟩

/-- A state in an instruction of three bytes. -/
def three (s : State) : State := { s with cur := { s.cur with len := 3 } }

/-- Values for CR0 that turn paging on and off where page 0 is mapped to itself, values it refuses, reserved bits of CR4; a fetch right after
paging was turned on, at an address that the tables map elsewhere. -/
theorem witness_ControlRegisters :
    (let s : State := { paged with pgSwitched := true, eip := 0x403000 }
     segLinear .s32 .cs (s.eip + BitVec.ofNat 32 0) 1 .x s = .ok 0x403000 s ∧ identityMapped 0x403000 s = false) ∧
    levelOf flat = 0 ∧ levelOf real = 0 ∧
    (0x20 : Word) &&& 0xFFFFFFA0 ≠ 0 ∧ ((0x10 : Word) &&& 0xFFFFFFA0 = 0 ∧ (0x10 : Word) &&& 3 = 0) ∧
    ((0x80000000 : Word).getLsbD 31 = true ∧ (0x80000000 : Word).getLsbD 0 = false) ∧
    ((0x20000001 : Word).getLsbD 30 = false ∧ (0x20000001 : Word).getLsbD 29 = true) ∧
    (flat.cr.cr0.getLsbD 31 = (0x60000011 : Word).getLsbD 31) ∧
    (let s := three { paged with cr := { paged.cr with cr0 := 0x60000031 } }
     s.cr.cr0.getLsbD 31 ≠ (0xE0000011 : Word).getLsbD 31 ∧ ∀ k, k < s.cur.len →
      identityMapped (s.segs.cs.base + s.eip + BitVec.ofNat 32 k) { s.enter with cr := { s.cr with cr0 := 0xE0000011 ||| 0x10 } } = true) ∧
    (let s := three paged
     s.cr.cr0.getLsbD 31 ≠ (0x60000011 : Word).getLsbD 31 ∧ ∀ k, k < s.cur.len →
      identityMapped (s.segs.cs.base + s.eip + BitVec.ofNat 32 k) s.enter = true) ∧
    Readable 16 (.mem (.direct32 0x1000)) .r flat.enter (fun _ _ => true) ∧ flat.cur.committed = false :=
  ⟨⟨rfl, by decide +kernel⟩, by decide +kernel, by decide +kernel, by decide, by decide, by decide, by decide, by decide +kernel,
    by decide +kernel, by decide +kernel, readable (by decide +kernel), rfl⟩

theorem witness_DebugAndTestRegisters :
    levelOf flat = 0 ∧ { flat with cr := { flat.cr with cr4 := 8 } }.de4 = true ∧ flat.de4 = false ∧
    (let s : State := { flat with dr := { flat.dr with dr7 := 0x2400 } }
     s.dr.dr7.getLsbD 13 = true ∧ s.inhibitSs = false) ∧ flat.dr.dr7.getLsbD 13 = false ∧
    { flat with dr := { flat.dr with dr7 := 0x2400 }, inhibitSs := true }.inhibitSs = true ∧ flat.cur.committed = false ∧
    (∃ slots s1, RealReady (faultEvent ud6 real.eip) real slots s1) ∧
    (let ev := faultEvent { vec := 1, code := none, dbg := some DbgCause.none } flat.eip
     ev.vec = 1 ∧ ev.kind = .exc ∧ ev.dbg = some DbgCause.none ∧ breaksHere { flat with dr := { flat.dr with dr3 := 0x100 } } 3) ∧
    (softEvent flat 1).kind ≠ .exc :=
  ⟨by decide +kernel, by decide +kernel, by decide +kernel, by decide +kernel, by decide +kernel, rfl, rfl,
    realReady (by decide +kernel) (by decide +kernel), by unfold breaksHere here; decide +kernel, by decide +kernel⟩

/-- A state with the time stamp counter and one more register in its file, ECX naming the one or the other or none. -/
def withMsrs (i : Word) : State :=
  regs { flat with
    msrs := [{ index := 0x10, role := .tsc, value := 0, mask := 0xFFFFFFFFFFFFFFFF }, { index := 0, role := .mcAddr, value := 5, mask := 0 }] }
    0 i 0 0 0 0 0 0

theorem witness_CacheHaltAndMsr :
    levelOf (withMsrs 0) = 0 ∧ ((withMsrs 7).msrs.find? fun m => m.index == (withMsrs 7).regs.ecx) = none ∧
    ((withMsrs 0).msrs.find? fun m => m.index == (withMsrs 0).regs.ecx) = some { index := 0, role := .mcAddr, value := 5, mask := 0 } ∧
    ((withMsrs 0x10).msrs.find? fun m => m.index == (withMsrs 0x10).regs.ecx) =
      some { index := 0x10, role := .tsc, value := 0, mask := 0xFFFFFFFFFFFFFFFF } ∧
    flat.cr.cr4.getLsbD 2 = false ∧ ({ user with cr := { user.cr with cr4 := 4 } }.cr.cr4.getLsbD 2 = true ∧ levelOf user ≠ 0) ∧
    user.cur.committed = false := by decide +kernel

/-- LAR and the others through 10H at level 0 (data), through 13H (RPL 3), past the table, and 30H (a TSS). -/
theorem witness_PointerValidation :
    real.prot = false ∧ (tables flat).prot = true ∧
    Readable 16 (.reg .ecx) .r (tables flat).enter (fun sel _ => decide (sel.toNat < 4)) ∧ inTable (tables flat) 0x10 = true ∧
    (∃ d s3, readDescAt (descLinear (tables flat) 0x10) (tables flat) = .ok d s3 ∧
      (d.hi.getLsbD 12 && !d.hi.getLsbD 11 && d.hi.getLsbD 9 && d.dpl == 0) = true) ∧
    (∃ d s3, readDescAt (descLinear (tables flat) 0x30) (tables flat) = .ok d s3 ∧ (!d.hi.getLsbD 12 && d.typ == 9) = true) ∧
    Readable 16 (.reg .eax) .rw (eax flat 8).enter (fun d _ => decide (d.toNat % 4 < (3 : BitVec 16).toNat % 4)) ∧
    Readable 16 (.reg .eax) .rw (eax flat 3).enter (fun d _ => decide ((3 : BitVec 16).toNat % 4 ≤ d.toNat % 4)) ∧ real.cur.committed = false :=
  ⟨by decide +kernel, by decide +kernel, readable (by decide +kernel), by decide +kernel, of_okAnd (by decide +kernel),
    of_okAnd (by decide +kernel), readable (by decide +kernel), readable (by decide +kernel), rfl⟩

/-- In SMM with a dump of zeros but for the two restart slots. -/
def inSmm (io halt : Nat) : State :=
  bytesAt { real with
    inSmm := true
    smm := { SmmShadow.empty with base := 0x30000, dump := List.replicate 512 0, halted := halt == 1, ioRestart := some 0x200 } }
    0x3FF00 [io, 0, halt, 0]

/-- 11_state_system.md R152: RSM leaves ET set, whatever the dump holds. -/
theorem test_rsm_et : after (inSmm 0 0) [0x0F, 0xAA] (fun t => t.cr.cr0 == 0x10 && !t.inSmm && t.eip == 0) = true := by decide +kernel

/-- 63_smm.md R1460, 11_state_system.md R170: the CS selector comes from the dump, and the level in real-address mode is 0 (CR0 in the dump is 0). -/
theorem test_rsm_selectors :
    (let s := bytesAt (inSmm 0 0) 0x3FFAC [0x34, 0x12]
     after { s with smm := { s.smm with cpl := 3, dump := List.replicate 0x1AC 0 ++ [0x34, 0x12] ++ List.replicate 0x52 0 } } [0x0F, 0xAA]
       fun t => t.segs.cs.sel == 0x1234 && t.cpl == 0 && !t.inSmm) = true := by decide +kernel

/-- 23_protection.md R340: RSM in SMM above level 0, in a handler that has set PE and loaded an IDT. -/
theorem test_rsm_level : after { user with inSmm := true, smm := { SmmShadow.empty with idtLoaded := true } } [0x0F, 0xAA] (fun t =>
    t.eip == 0x9000 && t.inSmm && at32 t 0x7FEC == 0x100) = true := by decide +kernel

/-- What RSM reads, in its order: state dump base, CR0, the dump (the model's own look), the registers, the two restart slots. -/
def rsmReads (s : State) (c : Word → Word → List Byte → Saved → Half → Half → Bool) : Bool :=
  okAnd (dumpWord s.smm.base 0xFEF8) s.enter fun nb s1 => okAnd (dumpWord s.smm.base 0xFFFC) s1 fun cr0 s2 =>
    okAnd (readDump s.smm.base) s2 fun d s3 => okAnd (readSaved s.smm.base) { s3 with bus := s2.bus } fun v s4 =>
      okAnd (dumpHalf s.smm.base 0xFF02) s4 fun slot s5 => okAnd (dumpHalf s.smm.base 0xFF00) s5 fun io _ => c nb cr0 d v slot io

/-- The dump as RSM reads it is one that `c` accepts beside its legality. -/
def dumpC (s : State) (c : Word → Saved → Half → Half → Bool) : Bool :=
  rsmReads s fun nb cr0 d v slot io => dumpKept 0 d s.smm.dump && nb.toNat % 2 ^ 15 == 0 && s.smm.cr4 &&& 0xFFFFFFA0 == 0 &&
    !cr0.getLsbD 31 && !cr0.getLsbD 29 && c cr0 v slot io

/-- Slots 0 and FFH of the I/O restart, 0, 1 and FFFFH of the halt restart, 1 without a halt, a state dump base that is not a multiple of 8000H, and
CR0 with PE set: an EFLAGS image with VM set, CS as it was, CS unlike. -/
theorem witness_SystemManagement :
    flat.inSmm = false ∧ (flat.memMap = [] ∧ flat.inp.a20m = false ∧ Memory.wf flat.mem = true ∧ flat.smbase.toNat + 0x10000 ≤ 2 ^ 32) ∧
    ((inSmm 0 0).inSmm = true ∧ levelOf (inSmm 0 0) = 0 ∧ (inSmm 0 0).memMap = [] ∧ (inSmm 0 0).inp.a20m = false ∧
      (inSmm 0 0).smm.base.toNat + 0x10000 ≤ 2 ^ 32) ∧
    dumpC (inSmm 0 0) (fun cr0 _ slot io => !cr0.getLsbD 0 && slot == 0 && io == 0) = true ∧
    (inSmm 0xFF 0).smm.ioRestart = some 0x200 ∧ dumpC (inSmm 0xFF 0) (fun _ _ _ io => io == 0xFF) = true ∧
    (inSmm 0 1).smm.halted = true ∧ dumpC (inSmm 0 1) (fun _ _ slot io => slot == 1 && io == 0) = true ∧
    (let s : State := { inSmm 0 1 with smm := { (inSmm 0 1).smm with halted := false } }
     s.smm.halted = false ∧ dumpC s (fun _ _ slot _ => slot == 1) = true) ∧
    dumpC (inSmm 0 0xFF) (fun _ _ slot _ => decide (2 ≤ slot.toNat)) = true ∧
    rsmReads (bytesAt (inSmm 0 0) 0x3FEF8 [1]) (fun nb _ _ _ _ _ => nb.toNat % 2 ^ 15 != 0) = true ∧
    (let s := bytesAt (inSmm 0 0) 0x3FFFC [1]
     let u : State := { s with smm := { s.smm with dump := List.replicate 0x1FC 0 ++ [1, 0, 0, 0] } }
     dumpC (bytesAt u 0x3FFF6 [2]) (fun cr0 v _ _ => cr0.getLsbD 0 && v.eflags.getLsbD 17) = true ∧
     let cs (sel : Half) : State := { u with smm := { u.smm with segs := { u.smm.segs with cs := { u.smm.segs.cs with sel := sel } } } }
     (cs 0).smm.cpl = 0 ∧ dumpC (cs 0) (fun cr0 v _ _ => cr0.getLsbD 0 && !v.eflags.getLsbD 17 && v.cs == (cs 0).smm.segs.cs.sel) = true ∧
     dumpC (cs 8) (fun cr0 v _ _ => cr0.getLsbD 0 && !v.eflags.getLsbD 17 && v.cs != (cs 8).smm.segs.cs.sel) = true) :=
  ⟨rfl, by decide +kernel, by decide +kernel, by decide +kernel, rfl, by decide +kernel, rfl, by decide +kernel, by decide +kernel,
    by decide +kernel, by decide +kernel, by decide +kernel⟩

theorem witness_PrivilegedInstructions :
    privilegedInstr .hlt ∧ privilegedInstr (.movDrR32 7 .eax) ∧ levelOf (flatAt 1) ≠ 0 ∧ levelOf (v86 3) ≠ 0 ∧
    ((flatAt 1).prot = true ∧ (flatAt 1).cpl ≠ 0) ∧ (flatAt 1).cur.committed = false ∧
    (let s : State := { flatAt 1 with inSmm := true }
     s.inSmm = true ∧ levelOf s ≠ 0 ∧ s.cur.committed = false) :=
  ⟨.inl rfl, by simp [privilegedInstr], by decide +kernel, by decide +kernel, by decide +kernel, rfl, by decide +kernel⟩

/-- Two values on the stack. -/
def twoOnes : State := pushed flat [0x3FFF8000000000000000, 0x3FFF8000000000000000]

/-- 48_fpu_instructions.md R1120, R1123: an unmasked invalid comparison changes IE alone, C1 included. -/
theorem test_ftst_unmasked :
    (let s := pushed flat [0x7FFFC000000000000000]
     after { s with fpu := { s.fpu with cw := 0x037E, sw := { s.fpu.sw with c1 := true } } } [0xD9, 0xE4]
       fun t => t.fpu.sw.c1 && t.fpu.sw.ie && t.fpu.sw.es && t.fpu.sw.top == s.fpu.sw.top && !t.fpu.sw.c3) = true := by decide +kernel

theorem fpuOn_flat : fpuOn flat := ⟨rfl, rfl, .inl rfl⟩

/-- All of these tests pass. -/
def allOf (l : List Bool) : Bool := l.all id

theorem witness_FloatArithmetic :
    fpuOn twoOnes ∧ cwPc twoOnes.fpu.cw ≠ 1 ∧ cwPc { twoOnes.fpu with cw := 0x017F }.cw = 1 ∧
    Loadable twoOnes.as (twoOnes.eaSeg (.direct32 0x1000)) (twoOnes.eaOff (.direct32 0x1000)) (NumFmt.bytes .double) (NumFmt.bytes .double) .r
      (memStart (.direct32 0x1000) twoOnes) (fun _ _ => true) :=
  ⟨⟨rfl, rfl, .inl rfl⟩, by decide +kernel, by decide +kernel, loadable (by decide +kernel)⟩

theorem witness_FloatLoad :
    fpuOn flat ∧ Loadable flat.as (flat.eaSeg (.direct32 0x1000)) (flat.eaOff (.direct32 0x1000)) 10 8 .r (memStart (.direct32 0x1000) flat)
      (fun v _ => v == 0) ∧ fromDecimal 0 = some 0 ∧ fromDecimal 0xA = none ∧
    (twoOnes.fpu.isEmpty 7 = true ∧ (pushed flat (List.replicate 8 0)).fpu.isEmpty 7 = false) ∧
    (∃ c, (Instr.fld1, c) ∈ constForms) ∧ (loadForms (.direct32 0x1000)).length = 6 :=
  ⟨fpuOn_flat, loadable (by decide +kernel), by decide +kernel, by decide +kernel, by decide +kernel, ⟨_, .head _⟩, rfl⟩

theorem witness_FloatStore :
    fpuOn twoOnes ∧ Reachable twoOnes.as (twoOnes.eaSeg (.direct32 0x1000)) (twoOnes.eaOff (.direct32 0x1000)) 10 8 .w
      (memStart (.direct32 0x1000) twoOnes) ∧
    Reachable twoOnes.as (twoOnes.eaSeg (.direct32 0x1000)) (twoOnes.eaOff (.direct32 0x1000)) 2 2 .w (memStart (.direct32 0x1000) twoOnes) :=
  ⟨⟨rfl, rfl, .inl rfl⟩, reachable (by decide +kernel), reachable (by decide +kernel)⟩

/-- Classes of operands that the clauses on comparisons tell apart. -/
theorem witness_FloatCompare :
    fpuOn twoOnes ∧ Loadable flat.as (flat.eaSeg (.direct32 0x1000)) (flat.eaOff (.direct32 0x1000)) 4 4 .r (memStart (.direct32 0x1000) flat)
      (fun _ _ => true) ∧ fpuOn flat ∧ flat.fpu.isEmpty 0 = true ∧ twoOnes.fpu.isEmpty 0 = false ∧
    (Ext.cls 0x3FFF8000000000000000 = .normal ∧ Ext.cls 0x7FFF8000000000000001 = .snan ∧ Ext.cls 0x7FFFC000000000000000 = .qnan ∧
      Ext.cls 1 = .denormal ∧ ((0x037F : Half).getLsbD 0 = true ∧ (0x037F : Half).getLsbD 1 = true ∧ (0x037D : Half).getLsbD 1 = false) ∧
      Ext.cls 0 = .zero ∧ Ext.cls (Ext.inf true) = .inf ∧ Ext.cls 0x3FFF0000000000000000 = .unsupported) ∧
    extBelow (Ext.inf true) 0 ∧ extBelow 0 (Ext.inf false) :=
  ⟨⟨rfl, rfl, .inl rfl⟩, loadable (by decide +kernel), fpuOn_flat, by decide +kernel, by decide +kernel, by decide +kernel,
    .inl ⟨rfl, by decide⟩, .inr (.inl ⟨rfl, by decide⟩)⟩

/-- Classes of ST, full and empty registers, a precision that is reserved. -/
theorem witness_FloatUnary :
    fpuOn twoOnes ∧ allOf [cwPc twoOnes.fpu.cw != 1, cwPc { twoOnes.fpu with cw := 0x017F }.cw == 1, !twoOnes.fpu.isEmpty 0, !twoOnes.fpu.isEmpty 1,
      twoOnes.fpu.isEmpty 7, !(pushed flat (List.replicate 8 0)).fpu.isEmpty 7] = true ∧
    [twoOnes, pushed flat [0], pushed flat [Ext.inf true], pushed flat [Ext.indefinite]].map (fun s => Ext.cls (s.fpu.st 0)) =
      [.normal, .zero, .inf, .qnan] :=
  ⟨⟨rfl, rfl, .inl rfl⟩, by decide +kernel, by decide +kernel⟩

/-- Minus infinity in ST(1) under this value. -/
def infUnder (x : Ext) : State := pushed flat [Ext.inf true, x]

/-- Minus infinity under plus infinity, and under 1. -/
theorem witness_FloatTranscendental_inf :
    (fpuOn (infUnder (Ext.inf false)) ∧ (infUnder (Ext.inf false)).fpu.isEmpty 1 = false ∧ (infUnder (Ext.inf false)).fpu.st 0 = Ext.inf false) ∧
    (fpuOn twoOnes ∧ twoOnes.fpu.isEmpty 1 = false ∧ allMasked twoOnes.fpu) ∧ Ext.cls ((infUnder (Ext.inf false)).fpu.st 1) = .inf ∧
    (Ext.cls 0x3FFF8000000000000000 = .normal ∧ Ext.neg 0x3FFF8000000000000000 = false) :=
  ⟨⟨⟨rfl, rfl, .inl rfl⟩, by decide +kernel, by decide +kernel⟩, ⟨⟨rfl, rfl, .inl rfl⟩, by decide +kernel, by unfold allMasked; decide +kernel⟩,
    by decide +kernel, by decide +kernel⟩

/-- 2^63 is the least operand out of range. -/
theorem witness_FloatTranscendental :
    fpuOn twoOnes ∧ allMasked twoOnes.fpu ∧ twoOnes.fpu.isEmpty 0 = false ∧ twoOnes.fpu.isEmpty 1 = false ∧ twoOnes.fpu.isEmpty 7 = true ∧
    (Ext.cls 0x403E8000000000000000 = .normal ∧ 16383 + 63 ≤ Ext.be 0x403E8000000000000000) ∧
    (Ext.cls 0x403DFFFFFFFFFFFFFFFF = .normal ∧ ¬ 16383 + 63 ≤ Ext.be 0x403DFFFFFFFFFFFFFFFF) ∧
    Ext.neg 0xBFFF8000000000000000 = true :=
  ⟨⟨rfl, rfl, .inl rfl⟩, by unfold allMasked; decide +kernel, by decide +kernel, by decide +kernel, by decide +kernel, by decide +kernel,
    by decide +kernel, by decide +kernel⟩

theorem witness_FloatStackControl :
    fpuOn twoOnes ∧ { flat with cr := { flat.cr with cr0 := 0x6000003B } }.mp = true ∧
    { flat with cr := { flat.cr with cr0 := 0x6000003B } }.tsFlag = true ∧ ¬ (flat.mp = true ∧ flat.tsFlag = true) ∧
    flat.fpu.sw.es = false ∧ flat.cur.committed = false :=
  ⟨⟨rfl, rfl, .inl rfl⟩, by decide +kernel, by decide +kernel, by decide +kernel, by decide +kernel, rfl⟩

theorem witness_FloatControl :
    NoWait.ready .init flat ∧ NoWait.ready (.stcw (.direct32 0x1000)) flat ∧ NoWait.ready (.stenv (.direct32 0x1000)) flat ∧
    NoWait.ready (.save (.direct32 0x1000)) flat ∧ fpuOn flat ∧
    Loadable flat.as (flat.eaSeg (.direct32 0x1000)) (flat.eaOff (.direct32 0x1000)) 2 2 .r flat.enter (fun _ _ => true) ∧
    (∃ ps s1 v s2 w s3, access flat.as (flat.eaSeg (.direct32 0x1000)) (flat.eaOff (.direct32 0x1000)) (envSize flat true) flat.os.bytes .r flat.enter =
      .ok ps s1 ∧ load (ps.take (envSize flat false)) s1 = .ok v s2 ∧
      (do set { s2 with draws := s2.draws + 1 }; load (ps.drop (envSize flat false)) : M Nat) s2 = .ok w s3) := by
  refine ⟨⟨rfl, rfl, trivial⟩, ⟨rfl, rfl, ok1 (by decide +kernel)⟩, ⟨rfl, rfl, ok1 (by decide +kernel)⟩, ⟨rfl, rfl, ok1 (by decide +kernel)⟩,
    fpuOn_flat, loadable (by decide +kernel), ?_⟩
  obtain ⟨ps, s1, v, s2, w, s3, h1, h2, h3, -⟩ := ok3
    (m := access flat.as (flat.eaSeg (.direct32 0x1000)) (flat.eaOff (.direct32 0x1000)) (envSize flat true) flat.os.bytes .r) (s := flat.enter)
    (f := fun ps => load (ps.take (envSize flat false)))
    (g := fun ps _ => do
      let t ← get
      set { t with draws := t.draws + 1 }
      load (ps.drop (envSize flat false)))
    (c := fun _ _ _ => true) (by decide +kernel)
  exact ⟨ps, s1, v, s2, w, s3, h1, h2, h3⟩

/-- A WAIT with the trap flag set ends the step; without, the no-wait instruction follows. -/
theorem witness_FloatWaitingForms :
    let s : State := { flat with cur := { Latch.empty with len := 3 } }
    ¬ (s.mp = true ∧ s.tsFlag = true) ∧ s.fpu.sw.es = false ∧ (afterWait (efl s 0x102)).quiet = false ∧ (afterWait s).quiet = true ∧
    NoWait.ready .init (behindWait s) ∧ NoWait.ready (.stsw (.direct32 0x1000)) (behindWait s) :=
  ⟨by decide +kernel, rfl, by decide +kernel, by decide +kernel, ⟨rfl, rfl, trivial⟩, rfl, rfl, ok1 (by decide +kernel)⟩

/-- FABS with CR0.TS set, and with an exception pending. -/
theorem witness_FloatNotAvailable :
    isEsc .fabs ∧ ¬ noWait .fabs ∧ { flat with cr := { flat.cr with cr0 := 0x60000039 } }.tsFlag = true ∧ (flat.em = false ∧ flat.tsFlag = false) ∧
    { flat with fpu := { flat.fpu with sw := { flat.fpu.sw with es := true } } }.fpu.sw.es = true ∧ flat.ne = true ∧
    { flat with cr := { flat.cr with cr0 := 0x60000011 } }.ne = false ∧ flat.inp.ignne = false ∧ flat.cur.committed = false := by
  refine ⟨⟨.s32, .s32, 0xD9, [0xE1], by decide +kernel, by decide, by decide⟩, ?_, by decide +kernel, by decide +kernel, rfl, by decide +kernel,
    by decide +kernel, rfl, rfl⟩
  rintro ⟨x, h⟩
  cases x <;> cases h

/-- A significand of one bit, one of 25 bits halfway between two values of 24, and one a little above. -/
theorem witness_RoundToPrecision :
    (0 < 24 ∧ ({ neg := false, sig := 1, exp := 0, sticky := false } : Dy).sig ≠ 0 ∧ bitLen 1 ≤ 24) ∧
    (({ neg := true, sig := 0x1000001, exp := 0, sticky := false } : Dy).sig ≠ 0 ∧ 24 < bitLen 0x1000001) ∧
    (({ neg := true, sig := 0x1000001, exp := 0, sticky := true } : Dy).sticky = true ∧ 24 < bitLen 0x1000001) := by decide +kernel

theorem witness_DecodeEncode :
    (Instr.addRmR (.mem (.sib 3 .edi .ebp (.d32 0xFFFFFFFF))) .edi).wf .s16 .s32 = true ∧ (Instr.fstcwM16 (.direct16 0xFFFF)).wf .s32 .s16 = true ∧
    (∃ x : NoWait, Instr.fstcwM16 (.direct16 0xFFFF) = x.waiting) ∧ ¬ ∃ x : NoWait, Instr.nop = x.waiting := by
  refine ⟨by decide, by decide, ⟨.stcw (.direct16 0xFFFF), rfl⟩, ?_⟩
  rintro ⟨x, h⟩
  cases x <;> cases h

/-- 66H REP STOSW, FINIT, and a JMP after paging was turned on, in the code segment. -/
theorem witness_StepRunsDecoded :
    (let t := (bytesAt real 0x100 [0x66, 0xF3, 0xAB]).begin
     t.boundary = none ∧ latchOf [.prefixOpSize, .prefixRep] Latch.empty = some { Latch.empty with opsz := true, rep := some .rep } ∧
     sizesOf t { Latch.empty with opsz := true, rep := some .rep } = (.s32, .s16) ∧ prefixEffect .stosw = none ∧ Instr.stosw.wf .s32 .s16 = true ∧
     repAllowed .stosw .rep = true ∧ t.pgSwitched = false ∧ codeAt t [0x66, 0xF3, 0xAB]) ∧
    (let t := (bytesAt real 0x100 [0x9B, 0xDB, 0xE3]).begin
     t.boundary = none ∧ latchOf [] Latch.empty = some Latch.empty ∧ Instr.finit = NoWait.init.waiting ∧ codeAt t [0x9B, 0xDB, 0xE3]) ∧
    (let t := (bytesAt { paged with pgSwitched := true } 0x100 [0xEB, 0]).begin
     t.boundary = none ∧ t.pgSwitched = true ∧ jumpsAway (.jmpRel8 0) = true ∧ jumpsAway .nop = false ∧
     ∀ k, k < 2 → identityMapped (t.segs.cs.base + (t.eip + BitVec.ofNat 32 k)) { t with cur := Latch.empty } = true) := by
  refine ⟨⟨rfl, rfl, rfl, rfl, rfl, rfl, rfl, rfl, fun k h => ?_⟩, ⟨rfl, rfl, rfl, rfl, fun k h => ?_⟩, rfl, rfl, rfl, rfl, by decide +kernel⟩ <;>
    · have : k = 0 ∨ k = 1 ∨ k = 2 := by
        simp only [List.length_cons, List.length_nil] at h
        omega
      rcases this with rfl | rfl | rfl <;> exact ⟨rfl, rfl, rfl⟩

theorem witness_ResetAndInit :
    { flat with inp := { flat.inp with reset := some ⟨true⟩ } }.inp.reset = some ⟨true⟩ ∧
    ({ flat with inp := { flat.inp with init := true } }.inp.reset = none ∧ { flat with inp := { flat.inp with init := true } }.inp.init = true) :=
  ⟨rfl, rfl, rfl⟩

/-- A step that stores to memory. -/
theorem witness_MemoryStaysCanonical : ∃ t, Memory.wf (bytesAt flat 0x100 [0xA2, 0, 0x10, 0, 0]).mem = true ∧
    step (bytesAt flat 0x100 [0xA2, 0, 0x10, 0, 0]) = .next t := by
  have h : (match step (bytesAt flat 0x100 [0xA2, 0, 0x10, 0, 0]) with
    | .next _ => true
    | _ => false) = true := by decide +kernel
  split at h
  · exact ⟨_, by decide +kernel, ‹_›⟩
  · cases h

theorem witness_StepsEndAtBoundaries : ∃ t, (bytesAt flat 0x100 [0x90]).cur = Latch.empty ∧ step (bytesAt flat 0x100 [0x90]) = .next t := by
  have h : (match step (bytesAt flat 0x100 [0x90]) with
    | .next _ => true
    | _ => false) = true := by decide +kernel
  split at h
  · exact ⟨_, rfl, ‹_›⟩
  · cases h

theorem witness_ArithmeticFlags : (8 = 8 ∨ 8 = 16 ∨ 8 = 32) ∧ (16 = 8 ∨ 16 = 16 ∨ 16 = 32) ∧ (32 = 8 ∨ 32 = 16 ∨ 32 = 32) := by decide

/-- An access that is made, with paging on too, and one that faults. -/
theorem witness_AccessKeepsState : (∀ a ∈ addrs flat [0, 0xFFFFFFFF], regionAt flat.memMap a = none) ∧ flat.pg = false ∧
    Memory.wf flat.mem = true ∧ (∃ ps t, access flat.as .ds 0xFFFFFFFC 4 4 .r flat = .ok ps t) ∧ paged.pg = true ∧
    (∃ ps t, access paged.as .ds 0x403000 4 4 .r paged = .ok ps t) ∧
    (match access real.as .ds 0xFFFF 2 2 .r real with
      | .error _ _ => true
      | .ok _ _ => false) = true :=
  ⟨fun _ _ => rfl, by decide +kernel, by decide +kernel, ok1 (by decide +kernel), by decide +kernel, ok1 (by decide +kernel), by decide +kernel⟩

/-- `flat` with DS null, and with this SS. -/
def nullDs : State := { flat with segs := { flat.segs with ds := { flat.segs.ds with usable := false } } }
def downSs : State :=
  { flat with segs := { flat.segs with ss := { flat.segs.ss with limit := 0xFFF, attr := { flat.segs.ss.attr with typ := 7, db := false } } } }

/-- A state at level 3 that checks alignment. -/
def aligned : State := efl { user with cr := { user.cr with cr0 := 0x60040031 } } 0x40002

/-- A register with a null selector, a write through code; the last word below a limit and one past it, at the last offset and above a limit that
expands down; an access that is aligned and one that is not; a base (E)BP, and an index EBP. -/
theorem witness_AccessKeepsState_checks :
    (segBarred nullDs .ds .r ∧ segBarred flat .cs .w ∧ ¬ segBarred flat .cs .r ∧ ¬ segBarred real .ds .rw) ∧
    (segBeyond real .s16 .ds 0xFFFF 2 ∧ ¬ segBeyond real .s16 .ds 0xFFFE 2 ∧ segBeyond real .s32 .ss 0x10000 1) ∧
    (¬ segBarred downSs .ss .w ∧ segBeyond downSs .s32 .ss 0xFFF 1 ∧ ¬ segBeyond downSs .s32 .ss 0x1000 1 ∧ ¬ segBeyond downSs .s32 .ss 0xFFFE 2 ∧
      segBeyond downSs .s32 .ss 0xFFFF 2) ∧
    (misaligned aligned 0x1002 4 ∧ ¬ misaligned aligned 0x1002 2 ∧ ¬ segBarred aligned .ds .r ∧ ¬ segBeyond aligned .s32 .ds 0x1002 4 ∧
      okAnd (linAddrs ((aligned.segs.get .ds).base + 0x1002) 4 { write := false, user := true, fetch := false }) aligned (fun _ _ => true) = true) ∧
    (flat.cur.seg = none ∧ usesSs (.base32 .ebp .none) ∧ ¬ usesSs (.sib 0 .ebp .eax .none) ∧ usesSs (.base16 .bp (.d8 0)) ∧
      ¬ usesSs (.base16 .bxsi .none)) ∧ { flat with cur := { flat.cur with seg := some .es } }.cur.seg = some .es := by
  refine ⟨?_, ?_, ?_, ⟨?_, ?_, ?_, ?_, by decide +kernel⟩, ⟨rfl, .inr rfl, ?_, ?_, ?_⟩, rfl⟩
  · simp only [segBarred]
    decide +kernel
  · simp only [segBeyond]
    decide +kernel
  · simp only [segBarred, segBeyond]
    decide +kernel
  · simp only [misaligned]
    decide +kernel
  · simp only [misaligned]
    decide +kernel
  · simp only [segBarred]
    decide +kernel
  · simp only [segBeyond]
    decide +kernel
  all_goals
    simp only [usesSs]
    decide

/-- Two bytes that end a page, three that go on in the next; a lower page that is absent, and an upper one. -/
theorem witness_AccessKeepsState_pages :
    let a : Access := { write := false, user := false, fetch := false }
    (∃ p u, translate 0xFFE a flat = .ok p u) ∧ 2 ≤ 4096 - (0xFFE : Word).toNat % 4096 ∧ 4096 - (0xFFE : Word).toNat % 4096 < 3 ∧
    (∃ p u q t, translate 0x402FFE a (bytesAt paged 0x5008 [1]) = .ok p u ∧ translate (0x402FFE + BitVec.ofNat 32 2) a u = .ok q t ∧ true = true) ∧
    (match translate 0x800000 a paged with
      | .error _ _ => true
      | .ok _ _ => false) = true ∧
    okAnd (translate 0x403FFE a) paged (fun _ u => match translate (0x403FFE + BitVec.ofNat 32 2) a u with
      | .error _ _ => true
      | .ok _ _ => false) = true :=
  ⟨ok1 (by decide +kernel), by decide, by decide, ok2 (f := fun _ => translate (0x402FFE + BitVec.ofNat 32 2) _) (c := fun _ _ => true) (by decide +kernel),
    by decide +kernel, by decide +kernel⟩

/-- 64_debug.md R1496: the registers of Table 17-1. -/
def table171 : DbgRegs :=
  { DbgRegs.reset with dr0 := 0xA0001, dr1 := 0xA0002, dr2 := 0xB0002, dr3 := 0xC0000, dr7 := 0xF73304FF }

/-- 64_debug.md R1496, Table 17-1: accesses that trap and accesses that do not. -/
theorem test_table171 :
    ([(0xA0001, 1), (0xA0002, 1), (0xA0001, 2), (0xA0002, 2), (0xB0002, 2), (0xB0001, 4), (0xC0000, 4), (0xC0001, 2), (0xC0003, 1)].all fun p =>
      [0, 1, 2, 3].any fun n => rangeMatch table171 n p.1 p.2 (dataBreak .w)) = true ∧
    ([(0xA0000, 1), (0xA0003, 4), (0xB0000, 2), (0xC0004, 4)].all fun p =>
      [0, 1, 2, 3].all fun n => !rangeMatch table171 n p.1 p.2 (dataBreak .w)) = true := by decide +kernel

/-- A read that only reads answers in the state it began in. -/
theorem reads {m : M Word} {s : State} {v : Word} (h : okAnd m s (fun a t => a == v && decide (t = s)) = true) : m s = .ok v s := by
  obtain ⟨a, t, h1, h⟩ := of_okAnd h
  simp only [Bool.and_eq_true, beq_iff_eq, decide_eq_true_eq] at h
  rw [h1, h.1, h.2]

/-- The example of 22_paging.md R276, an address without a directory entry, and one without a table entry. -/
theorem witness_Paging :
    flat.pg = false ∧ paged.pg = true ∧ (∀ e ∈ paged.itlb ++ paged.dtlb, e.page ≠ (0x403123 : Word).extractLsb' 12 20) ∧
    physRead32 ((paged.cr.cr3 &&& 0xFFFFF000) + BitVec.ofNat 32 (4 * ((0x403123 : Word).toNat / 2 ^ 22))) paged = .ok 0x5067 paged ∧
    ((0x5067 : Word).getLsbD 0 = true ∧ paged.pse = false) ∧
    physRead32 (((0x5067 : Word) &&& 0xFFFFF000) + BitVec.ofNat 32 (4 * ((0x403123 : Word).toNat / 2 ^ 12 % 2 ^ 10))) paged =
      .ok 0xABC005 paged ∧ (0xABC005 : Word).getLsbD 0 = true ∧ pageAllows paged.wp 0x5067 0xABC005 false true ∧
    ¬ pageAllows paged.wp 0x5067 0xABC005 true true ∧
    physRead32 ((paged.cr.cr3 &&& 0xFFFFF000) + BitVec.ofNat 32 (4 * ((0x800000 : Word).toNat / 2 ^ 22))) paged = .ok 0 paged ∧
    physRead32 (((0x5067 : Word) &&& 0xFFFFF000) + BitVec.ofNat 32 (4 * ((0x404000 : Word).toNat / 2 ^ 12 % 2 ^ 10))) paged = .ok 0 paged ∧
    (Memory.wf paged.mem = true ∧ paged.inp.a20m = false ∧ paged.memMap = []) :=
  ⟨by decide +kernel, by decide +kernel, by decide +kernel, reads (by decide +kernel), by decide +kernel, reads (by decide +kernel),
    by decide, by unfold pageAllows; decide +kernel, by unfold pageAllows; decide +kernel, reads (by decide +kernel), reads (by decide +kernel),
    by decide +kernel⟩

/-- A directory entry of a 4-megabyte page over `paged`. -/
def bigPaged (b : Nat) (c : Nat) : State := bytesAt { paged with cr := { paged.cr with cr4 := 0x10 } } 0x2004 [b, c, 0x40, 0]

/-- A 4-megabyte page for user reads and writes, one with the highest and one with the lowest reserved bit set, one for the supervisor alone. -/
theorem witness_Paging_big :
    let pa : Word := (paged.cr.cr3 &&& 0xFFFFF000) + BitVec.ofNat 32 (4 * ((0x403123 : Word).toNat / 2 ^ 22))
    ((bigPaged 0x87 0).pg = true ∧ (bigPaged 0x87 0).pse = true ∧ (bigPaged 0x87 0).inp.a20m = false ∧ Memory.wf (bigPaged 0x87 0).mem = true) ∧
    (∀ e ∈ (bigPaged 0x87 0).itlb ++ (bigPaged 0x87 0).dtlb, e.page ≠ (0x403123 : Word).extractLsb' 12 20) ∧
    physRead32 pa (bigPaged 0x87 0) = .ok 0x400087 (bigPaged 0x87 0) ∧ (0x400087 : Word).toNat / 2 ^ 12 % 2 ^ 10 = 0 ∧
    pageAllows (bigPaged 0x87 0).wp 0x400087 0x400087 true true ∧
    physRead32 pa (bigPaged 0x87 0x10) = .ok 0x401087 (bigPaged 0x87 0x10) ∧ (0x401087 : Word).toNat / 2 ^ 12 % 2 ^ 10 ≠ 0 ∧
    (0x200087 : Word).toNat / 2 ^ 12 % 2 ^ 10 ≠ 0 ∧
    physRead32 pa (bigPaged 0x83 0) = .ok 0x400083 (bigPaged 0x83 0) ∧ ¬ pageAllows (bigPaged 0x83 0).wp 0x400083 0x400083 false true :=
  ⟨by decide +kernel, by decide +kernel, reads (by decide +kernel), by decide, by unfold pageAllows; decide +kernel, reads (by decide +kernel),
    by decide, by decide, reads (by decide +kernel), by unfold pageAllows; decide +kernel⟩

/-- A trap that recurs here, and one that does not; an instruction breakpoint here that is enabled, one that is not, one under RF, one in the shadow of
a load of SS. -/
theorem witness_BoundaryEvents_debug :
    (noEvent { { flat with recurs := [⟨0x100, DbgCause.none⟩] } with recurs := [] } ∧ (0x100 : Word) = here flat ∧ (0x101 : Word) ≠ here flat ∧
      flat.inhibitSs = false ∧ flat.run = .running ∧ flat.dr.dr7.toNat % 256 = 0) ∧
    (let s : State := { flat with dr := { DbgRegs.reset with dr3 := 0x100, dr7 := 0x480 } }
     noEvent s ∧ s.run = .running ∧ s.flags.rf = false ∧ s.inhibitSs = false ∧ breaksHere s 3 ∧ breakOn s.dr 3 ∧ ¬ breakOn s.dr 2) ∧
    (let s : State := { flat with dr := { DbgRegs.reset with dr0 := 0x100 } }
     noEvent s ∧ breaksHere s 0 ∧ ∀ j, j < 4 → ¬ breakOn s.dr j) ∧
    (efl flat 0x10002).flags.rf = true ∧ { flat with inhibitSs := true }.inhibitSs = true := by
  unfold noEvent breaksHere breakOn here
  decide +kernel

/-- A machine check with CR4.MCE clear and set; an instruction that leaves a trap of a breakpoint, and one that leaves none. -/
theorem witness_BoundaryEvents_mc :
    (let s : State := { flat with inp := { flat.inp with mc := true } }
     s.inp.mc = true ∧ s.cr.cr4.getLsbD 6 = false) ∧
    (let s : State := { flat with inp := { flat.inp with mc := true }, cr := { flat.cr with cr4 := 0x40 } }
     s.inp.mc = true ∧ s.cr.cr4.getLsbD 6 = true ∧ noEvent { s with inp := { s.inp with mc := false } } ∧ s.run = .running) ∧
    (flat.late = [] ∧ flat.pendingDb = none ∧ flat.cur.defer = false ∧ flat.cur.trap = false ∧ flat.flags.tf = false ∧ flat.cur.bt = false) ∧
    { flat with cur := { flat.cur with trap := true } }.cur.trap = true ∧ { flat with pendingDb := some DbgCause.none }.pendingDb ≠ none := by
  unfold noEvent
  decide +kernel

/-- Halted with a debug trap and a machine check pending and no interrupt, with NMI, and with INTR. -/
theorem witness_BoundaryEvents_halted :
    (let s : State := { flat with pendingDb := some DbgCause.none, run := .halted, inp := { flat.inp with mc := true } }
     s.inp.reset = none ∧ s.inp.init = false ∧ s.smiPending = false ∧ s.nmiPending = false ∧ s.flags.ifl = false ∧ s.run = .halted) ∧
    (let s : State := { flat with pendingDb := some DbgCause.none, run := .halted, nmiPending := true }
     s.run = .halted ∧ s.nmiPending = true ∧ s.nmiBlocked = false ∧ s.inSmm = false ∧ s.inhibitSs = false) ∧
    (let s : State := efl { flat with pendingDb := some DbgCause.none, run := .halted, inp := { flat.inp with intr := some 0xFF } } 0x202
     s.run = .halted ∧ s.inp.intr ≠ none ∧ s.flags.ifl = true ∧ s.inhibitSti = false ∧ s.inhibitSs = false) := by
  decide +kernel

/-- No event is pending where each of its sources is empty. -/
theorem calm_of {s : State} (h : (s.inp.reset.isNone && !s.inp.init && !s.inp.mc && s.inp.intr.isNone && !s.smiPending && !s.nmiPending &&
    s.pendingDb.isNone && s.recurs.isEmpty && s.dr.dr7.toNat % 256 == 0) = true) : calm s := by
  simpa [calm, noEvent, and_assoc] using h

/-- Each event alone, and what holds INTR off. -/
theorem witness_BoundaryEvents :
    (calm { flat with run := .halted } ∧ calm { flat with run := .shutdown } ∧ calm flat ∧ flat.run = .running) ∧
    (let s : State := { flat with pendingDb := some DbgCause.none }
     s.inp.reset = none ∧ s.inp.init = false ∧ s.smiPending = false ∧ s.recurs = [] ∧ s.inhibitSs = false ∧ s.run = .running) ∧
    (let s : State := { flat with nmiPending := true }
     s.pendingDb = none ∧ s.recurs = [] ∧ s.inp.mc = false ∧ s.nmiBlocked = false ∧ s.inhibitSs = false ∧ s.inSmm = false) ∧
    (let s : State := efl { flat with inp := { flat.inp with intr := some 0xFF } } 0x202
     calm { s with inp := { s.inp with intr := none } } ∧ s.inp.intr = some 0xFF ∧ s.flags.ifl = true ∧ s.inhibitSti = false) ∧
    (let s : State := { flat with inp := { flat.inp with intr := some 0 } }
     calm { s with inp := { s.inp with intr := none } } ∧ s.flags.ifl = false) ∧
    ({ flat with smiPending := true }.inSmm = false ∧ { flat with smiPending := true }.run ≠ .shutdown) ∧ (efl flat 0x102).flags.tf = true := by
  exact ⟨⟨calm_of (by decide +kernel), calm_of (by decide +kernel), calm_of (by decide +kernel), rfl⟩, by decide +kernel, by decide +kernel,
    ⟨calm_of (by decide +kernel), by decide +kernel⟩, ⟨calm_of (by decide +kernel), by decide +kernel⟩, by decide +kernel, by decide +kernel⟩

/-! Numbers for the statements about real values: 1, 1/4, -1, 2^64, the least denormal, and two whose product overflows or underflows. -/

/-- A normal number with significand 2^63: plus or minus a power of two. -/
def powerOf (neg : Bool) (e : Nat) : Ext := BitVec.ofNat 80 ((if neg then 2 ^ 79 else 0) + e * 2 ^ 64 + 2 ^ 63)

theorem powerOf_fields (neg : Bool) (e : Nat) (h : e < 2 ^ 15) :
    Ext.neg (powerOf neg e) = neg ∧ Ext.be (powerOf neg e) = e ∧ (Ext.sig (powerOf neg e)).toNat = 2 ^ 63 := by
  have ht : (powerOf neg e).toNat = (if neg then 2 ^ 79 else 0) + e * 2 ^ 64 + 2 ^ 63 := by
    rw [powerOf, BitVec.toNat_ofNat, Nat.mod_eq_of_lt]
    cases neg <;> simp only [if_true, if_false, Bool.false_eq_true] <;> omega
  refine ⟨?_, ?_, ?_⟩
  · rw [Ext.neg, BitVec.msb_eq_decide, ht]
    cases neg
    · exact decide_eq_false (by simp only [if_false, Bool.false_eq_true]; omega)
    · exact decide_eq_true (by simp only [if_true]; omega)
  · rw [Ext.be, BitVec.extractLsb'_toNat, ht, Nat.shiftRight_eq_div_pow]
    cases neg <;> simp only [if_true, if_false, Bool.false_eq_true] <;> omega
  · rw [Ext.sig, BitVec.extractLsb'_toNat, ht, Nat.shiftRight_eq_div_pow]
    cases neg <;> simp only [if_true, if_false, Bool.false_eq_true] <;> omega

theorem realOf_power (neg : Bool) (e : Nat) (h0 : 0 < e) (h : e < 2 ^ 15) :
    realOf (powerOf neg e) = (if neg then -1 else 1) * (2 : ℝ) ^ ((e : ℤ) - 16383) := by
  obtain ⟨hn, hb, hs⟩ := powerOf_fields neg e h
  have hm : max e 1 = e := by omega
  have hp (k : ℕ) (hk : k = 63) : ((2 ^ k : Nat) : ℝ) * (2 : ℝ) ^ ((e : ℤ) - 16446) = (2 : ℝ) ^ ((e : ℤ) - 16383) := by
    rw [Nat.cast_pow, ← zpow_natCast, Nat.cast_ofNat, ← zpow_add₀ (by norm_num), show (k : ℤ) + (e - 16446) = e - 16383 by omega]
  replace hp := hp 63 rfl
  simp only [realOf, finiteValue, hn, hb, hs, hm]
  generalize (2 ^ 63 : Nat) = k at hp
  rw [Rat.cast_mul, Rat.cast_mul, Rat.cast_zpow, Rat.cast_natCast, Rat.cast_ofNat, mul_assoc, hp]
  cases neg
  · rw [if_neg (by decide), if_neg (by decide), Rat.cast_one]
  · rw [if_pos rfl, if_pos rfl, Rat.cast_neg, Rat.cast_one]

theorem realOf_one : realOf (powerOf false 16383) = 1 := by rw [realOf_power _ _ (by decide) (by decide)]; norm_num

theorem realOf_zero (b : Bool) : realOf (Ext.zero b) = 0 := by
  have h : finiteValue (Ext.zero b) = 0 := by
    unfold finiteValue
    rw [show (Ext.sig (Ext.zero b)).toNat = 0 by cases b <;> decide]
    simp
  simp [realOf, h]

/-- 1 + 1, 1 / 0, 0 / 0, a product above and one below the range of the exponent; a denormal operand, masked and not. -/
theorem witness_FloatArithmetic_numbers :
    (cwPc 0x037F ≠ 1 ∧ finiteCls (powerOf false 16383) ∧ finiteCls (powerOf false 32766) ∧ finiteCls (powerOf true 1) ∧ finiteCls (Ext.zero true) ∧
      finiteCls 1) ∧
    (Ext.cls 1 = .denormal ∧ (0x037F : Half).getLsbD 1 = true ∧ (0x037D : Half).getLsbD 1 = false) ∧
    exactOp .add (realOf (powerOf false 16383)) (realOf (powerOf false 16383)) = 2 ∧
    exactOp .sub (realOf (powerOf false 16383)) (realOf (powerOf false 16383)) = 0 ∧
    (2 : ℝ) ^ (16384 : ℤ) ≤ exactOp .mul (realOf (powerOf false 32766)) (realOf (powerOf false 32766)) ∧
    (|exactOp .mul (realOf (powerOf true 1)) (realOf (powerOf false 1))| < (2 : ℝ) ^ (-16382 : ℤ) ∧
      exactOp .mul (realOf (powerOf true 1)) (realOf (powerOf false 1)) ≠ 0) ∧
    (realOf (Ext.zero true) = 0 ∧ realOf (powerOf false 16383) ≠ 0) := by
  have h1 := realOf_one
  have h2 := realOf_power false 32766 (by decide) (by decide)
  have h3 := realOf_power true 1 (by decide) (by decide)
  have h4 := realOf_power false 1 (by decide) (by decide)
  refine ⟨⟨by decide, ?_, ?_, ?_, ?_, ?_⟩, by decide, by simp only [exactOp, h1]; norm_num, by simp only [exactOp, h1]; norm_num, ?_, ⟨?_, ?_⟩,
    realOf_zero true, by simp [h1]⟩
  · exact .inr (.inr (by decide))
  · exact .inr (.inr (by decide))
  · exact .inr (.inr (by decide))
  · exact .inl (by decide)
  · exact .inr (.inl (by decide))
  · simp only [exactOp, h2]
    simp only [Bool.false_eq_true, if_false, one_mul, ← zpow_add₀ (two_ne_zero' ℝ)]
    exact zpow_le_zpow_right₀ (by norm_num) (by norm_num)
  · simp only [exactOp, h3, h4]
    simp only [Bool.false_eq_true, if_false, if_true, one_mul, neg_mul, abs_neg, ← zpow_add₀ (two_ne_zero' ℝ)]
    rw [abs_of_pos (by positivity)]
    exact zpow_lt_zpow_right₀ (by norm_num) (by norm_num)
  · simp only [exactOp, h3, h4]
    simp only [Bool.false_eq_true, if_false, if_true, one_mul, neg_mul, ← zpow_add₀ (two_ne_zero' ℝ), ne_eq, neg_eq_zero]
    positivity

/-- 1 fits every integer format; -2^63 is the least number of the 64-bit one alone. -/
theorem witness_FloatStore_numbers :
    finiteCls (powerOf false 16383) ∧ Ext.cls (powerOf false 16383) ≠ .zero ∧ realOf (powerOf false 16383) = 1 ∧
    finiteCls (powerOf true (16383 + 63)) ∧ realOf (powerOf true (16383 + 63)) = -2 ^ 63 := by
  refine ⟨.inr (.inr (by decide)), by decide, realOf_one, .inr (.inr (by decide)), ?_⟩
  rw [realOf_power _ _ (by decide) (by decide)]
  norm_num

/-- Square roots of 1 and of -1; scaling by 1; remainders with a gap of 0 and of 64 between the exponents. -/
theorem witness_FloatUnary_numbers :
    (finiteCls (powerOf false 16383) ∧ Ext.cls (powerOf false 16383) ≠ .denormal ∧ cwPc 0x037F ≠ 1 ∧ (0x037F : Half).getLsbD 4 = true) ∧
    0 < realOf (powerOf false 16383) ∧ realOf (powerOf true 16383) < 0 ∧ |realOf (powerOf false 16383)| ≤ 65536 ∧
    Int.log 2 |realOf (powerOf false 16383)| - Int.log 2 |realOf (powerOf false 16383)| < 64 ∧
    64 ≤ Int.log 2 |realOf (powerOf false (16383 + 64))| - Int.log 2 |realOf (powerOf false 16383)| := by
  have h1 := realOf_one
  have h2 : realOf (powerOf true 16383) = -1 := by rw [realOf_power _ _ (by decide) (by decide)]; norm_num
  have h3 : realOf (powerOf false (16383 + 64)) = ((2 : ℕ) : ℝ) ^ (64 : ℤ) := by rw [realOf_power _ _ (by decide) (by decide)]; norm_num
  refine ⟨⟨.inr (.inr (by decide)), by decide, by decide, by decide⟩, ?_, ?_, ?_, by omega, ?_⟩
  · rw [h1]; norm_num
  · rw [h2]; norm_num
  · rw [h1]; norm_num
  · rw [h1, h3, abs_of_pos (by positivity), Int.log_zpow (by norm_num)]
    simp

/-- 1/4 on the stack twice, all exceptions masked: every function of the last clause has its operands. -/
theorem witness_FloatTranscendental_numbers :
    let s := pushed flat [powerOf false 16381, powerOf false 16381]
    (fpuOn s ∧ allMasked s.fpu ∧ s.fpu.isEmpty 0 = false ∧ s.fpu.isEmpty 1 = false ∧ s.fpu.isEmpty 7 = true) ∧
    (s.fpu.st 0 = powerOf false 16381 ∧ s.fpu.st 1 = powerOf false 16381 ∧ Ext.cls (powerOf false 16381) = .normal ∧
      Ext.be (powerOf false 16381) < 16383 ∧ Ext.neg (powerOf false 16381) = false) ∧
    -(1 - √2 / 2) < realOf (powerOf false 16381) ∧ realOf (powerOf false 16381) < √2 - 1 := by
  have h : realOf (powerOf false 16381) = 1 / 4 := by rw [realOf_power _ _ (by decide) (by decide)]; norm_num
  have l : (1.4 : ℝ) < √2 := by rw [Real.lt_sqrt (by norm_num)]; norm_num
  have u : √2 < 1.5 := by rw [Real.sqrt_lt' (by norm_num)]; norm_num
  refine ⟨⟨⟨rfl, rfl, .inl rfl⟩, by unfold allMasked; decide +kernel, by decide +kernel, by decide +kernel, by decide +kernel⟩, by decide +kernel, ?_, ?_⟩
  · rw [h]; linarith
  · rw [h]; linarith

end Sys2Proof.Tests

end
end

section
/-! Decimal adjustments (41_arithmetic.md R570 to R575): byte registers, the flags that are draws, what each adjustment
leaves, and the statement about DAA, DAS, AAA, AAS, AAM and AAD. -/

namespace Sys2Proof.Laws

open Sys2Proof Sys2Proof.Machine Sys2Proof.Claims

/-! ## Byte registers -/

/-- A write at width 8 is the write of a byte register. -/
@[simp] theorem gregs_write_8 (g : GRegs) (r : Reg) (v : BitVec 8) : g.write 8 r v = g.set8 r v := by
  simp [GRegs.write]

/-- The bits of a word from position `k` up. -/
theorem getLsbD_upper (o : Word) {k n : Nat} (h : k + n = 32) (i : Nat) (hi : k ≤ i) :
    (o.extractLsb' k n).getLsbD (i - k) = o.getLsbD i := by
  rw [BitVec.getLsbD_extractLsb', Nat.add_sub_cancel' hi, Bool.and_eq_right_iff_imp]
  intro hb
  have := BitVec.lt_of_getLsbD hb
  exact decide_eq_true (by omega)

/-- The bits of a word whose low byte was replaced. -/
theorem getLsbD_mergeLow8 (o : Word) (v : Byte) (i : Nat) :
    (mergeLow8 o v).getLsbD i = if i < 8 then v.getLsbD i else o.getLsbD i := by
  rw [mergeLow8]
  erw [BitVec.getLsbD_append]
  split_ifs with h8
  · rfl
  · exact getLsbD_upper o rfl i (by omega)

/-- The bits of a word whose second byte was replaced. -/
theorem getLsbD_mergeHigh8 (o : Word) (v : Byte) (i : Nat) :
    (mergeHigh8 o v).getLsbD i = if i < 8 then o.getLsbD i else if i < 16 then v.getLsbD (i - 8) else o.getLsbD i := by
  have h16 (h : ¬ i < 8) : i - 8 < 8 ↔ i < 16 := by omega
  rw [mergeHigh8]
  erw [BitVec.getLsbD_append, BitVec.getLsbD_append]
  split_ifs with h8 hlow hhigh hhigh
  · simp [h8]
  · rfl
  · exact absurd ((h16 h8).mp hlow) hhigh
  · exact absurd ((h16 h8).mpr hhigh) hlow
  · rw [Nat.sub_sub]
    exact getLsbD_upper o rfl i (by omega)

/-- The bits of a word whose low half was replaced. -/
theorem getLsbD_mergeLow16 (o : Word) (v : Half) (i : Nat) :
    (mergeLow16 o v).getLsbD i = if i < 16 then v.getLsbD i else o.getLsbD i := by
  rw [mergeLow16]
  erw [BitVec.getLsbD_append]
  split_ifs with h16
  · rfl
  · exact getLsbD_upper o rfl i (by omega)

/-- Writing AL leaves AH. -/
@[simp] theorem gregs_ah_set8_al (g : GRegs) (v : Byte) : (g.set8 .eax v).get8 .esp = g.get8 .esp := by
  apply BitVec.eq_of_getLsbD_eq
  intro i hi
  simp [GRegs.get8, GRegs.set8, getLsbD_mergeLow8]

/-- Writing AH as it was is no change. -/
theorem gregs_set8_ah_self (g : GRegs) : g.set8 .esp (g.get8 .esp) = g := by
  have h : mergeHigh8 g.eax (g.eax.extractLsb' 8 8) = g.eax := by
    apply BitVec.eq_of_getLsbD_eq
    intro i hi
    rw [getLsbD_mergeHigh8, BitVec.getLsbD_extractLsb']
    split_ifs with h8 h16
    · rfl
    · simp [show i - 8 < 8 by omega, show 8 + (i - 8) = i by omega]
    · rfl
  simp [GRegs.set8, GRegs.get8, h]

/-- AX written with a zero-extended byte: AL holds the byte, AH is 0. -/
theorem gregs_write_ax_byte (g : GRegs) (v : Byte) :
    g.write 16 .eax (v.setWidth 16) = (g.set8 .eax v).set8 .esp 0 := by
  have h : mergeLow16 g.eax (v.setWidth 16) = mergeHigh8 (mergeLow8 g.eax v) 0 := by
    apply BitVec.eq_of_getLsbD_eq
    intro i hi
    rw [getLsbD_mergeLow16, getLsbD_mergeHigh8, getLsbD_mergeLow8]
    split_ifs with h16 h8
    · simp [h16]
    · simp [h16, BitVec.getLsbD_of_ge v i (by omega)]
    · omega
    · rfl
  simp [GRegs.write, GRegs.set8, GRegs.set, GRegs.get, h]

/-! ## Flags -/

/-- SF, ZF and PF of a byte (R105). -/
theorem szp_byte (f : Flags) (r : Byte) : f.szp r = { f with sf := r.msb, zf := r == 0, pf := evenParity r } := by
  simp [Flags.szp]

/-! ## What an adjustment leaves -/

/-- The low digit of AL needs the adjustment: it is above 9, or AF is set (R570 to R573). -/
def lowAdjusts (s : State) : Bool := decide (9 < s.al.toNat % 16) || s.flags.af

/-- The high digit of AL needs the adjustment: AL is above 99H, or CF is set (R570, R571). -/
def highAdjusts (s : State) : Bool := decide (0x99 < s.al.toNat) || s.flags.cf

/-- `fl` is what the flags `f` become where SF, ZF and PF are those of `r` and only status flags change. -/
def SzpOf (r : Byte) (f fl : Flags) : Prop := onlyStatus f fl ∧ fl.sf = r.msb ∧ fl.zf = (r == 0) ∧ fl.pf = evenParity r

/-- The flags of a result, with any AF, CF and OF. -/
theorem szpOf_with (r : Byte) (f : Flags) (a c o : Bool) : SzpOf r f { f.szp r with af := a, cf := c, of := o } := by
  simp [SzpOf, onlyStatus, szp_byte]

/-- DAA on AL and the flags; OF is a draw (R570). -/
theorem daaOp_run (s : State) (r : Byte)
    (hr : r = s.al + (if lowAdjusts s then 6 else 0) + (if highAdjusts s then 0x60 else 0)) :
    ∃ fl n, SzpOf r s.flags fl ∧ fl.cf = highAdjusts s ∧ fl.af = lowAdjusts s ∧
      daaOp s = .ok () { s with flags := fl, draws := n, regs := s.regs.set8 .eax r } := by
  subst hr
  refine ⟨_, s.draws + 1, szpOf_with _ s.flags (lowAdjusts s) (highAdjusts s) (Config.draw 1 s.draws == 1), rfl, rfl, ?_⟩
  rw [← gregs_write_8]
  rfl

/-- DAS on AL and the flags; OF is a draw (R571). -/
theorem dasOp_run (s : State) (r : Byte)
    (hr : r = s.al - (if lowAdjusts s then 6 else 0) - (if highAdjusts s then 0x60 else 0)) :
    ∃ fl n, SzpOf r s.flags fl ∧ fl.cf = (highAdjusts s || (lowAdjusts s && decide (s.al.toNat < 6))) ∧ fl.af = lowAdjusts s ∧
      dasOp s = .ok () { s with flags := fl, draws := n, regs := s.regs.set8 .eax r } := by
  subst hr
  refine ⟨_, s.draws + 1, szpOf_with _ s.flags (lowAdjusts s) (highAdjusts s || (lowAdjusts s && decide (s.al.toNat < 6)))
    (Config.draw 1 s.draws == 1), rfl, rfl, ?_⟩
  rw [← gregs_write_8]
  rfl

/-- AAM and AAD end with SF, ZF and PF of AL; AF, OF and CF are draws (R574, R575). -/
theorem decimalFlags_run (r : Byte) (s : State) :
    ∃ fl n, SzpOf r s.flags fl ∧ decimalFlags r s = .ok () { s with flags := fl, draws := n } :=
  ⟨_, _, szpOf_with r s.flags _ _ _, rfl⟩

/-- Other PF, ZF, SF and OF are other status flags. -/
theorem onlyStatus_with (f : Flags) (p z g o : Bool) : onlyStatus f { f with pf := p, zf := z, sf := g, of := o } := rfl

/-- AAA and AAS end with draws for OF, SF, ZF and PF (R572, R573). -/
theorem asciiFlags_run (s : State) : ∃ fl n, onlyStatus s.flags fl ∧ fl.cf = s.flags.cf ∧ fl.af = s.flags.af ∧
    (do drawOf; drawSf; drawZf; drawPf : M Unit) s = .ok () { s with flags := fl, draws := n } :=
  ⟨_, s.draws + 4, onlyStatus_with s.flags (Config.draw 1 (s.draws + 3) == 1) (Config.draw 1 (s.draws + 2) == 1)
    (Config.draw 1 (s.draws + 1) == 1) (Config.draw 1 s.draws == 1), rfl, rfl, rfl⟩

/-- AAA and AAS on AL, AH and the flags: AH is open where the carry into it is not known (R572, R573, U6). -/
theorem asciiAdjust_run (adj : Byte → Byte → Byte) (wild : Byte → Bool) (s : State) : ∃ fl n x,
    onlyStatus s.flags fl ∧ fl.cf = lowAdjusts s ∧ fl.af = lowAdjusts s ∧ (lowAdjusts s = false → x = s.ah) ∧
    (lowAdjusts s = true → wild s.al = false → x = adj s.ah 1) ∧
    asciiAdjust adj wild s = .ok () { s with
      flags := fl, draws := n
      regs := (s.regs.set8 .eax ((if lowAdjusts s then adj s.al 6 else s.al) &&& 0x0F)).set8 .esp x } := by
  cases hl : lowAdjusts s with
  | false =>
    obtain ⟨fl, n, hf, hc, ha, h⟩ := asciiFlags_run { s with
      flags := { s.flags with af := false, cf := false }, regs := s.regs.set8 .eax (s.al &&& 0x0F) }
    have hah : (s.regs.set8 .eax (s.al &&& 0x0F)).set8 .esp s.ah = s.regs.set8 .eax (s.al &&& 0x0F) := by
      simpa [State.ah] using gregs_set8_ah_self (s.regs.set8 .eax (s.al &&& 0x0F))
    refine ⟨fl, n, s.ah, hf, hc, ha, fun _ => rfl, nofun, ?_⟩
    rw [if_neg Bool.false_ne_true, hah]
    unfold lowAdjusts at hl
    rw [asciiAdjust, get_bind, hl, if_neg Bool.false_ne_true, bind_of_ok (writeReg_run ..), gregs_write_8,
      bind_of_ok (modifyFlags_run ..)]
    exact h
  | true =>
    obtain ⟨x, hx⟩ : ∃ x, x = if wild s.al then Config.draw 8 s.draws else adj s.ah 1 := ⟨_, rfl⟩
    obtain ⟨fl, n, hf, hc, ha, h⟩ := asciiFlags_run { s with
      flags := { s.flags with af := true, cf := true }, draws := s.draws + 1
      regs := (s.regs.set8 .eax (adj s.al 6 &&& 0x0F)).set8 .esp x }
    refine ⟨fl, n, x, hf, hc, ha, nofun, fun _ hw => by simp [hx, hw], ?_⟩
    unfold lowAdjusts at hl
    rw [if_pos rfl, asciiAdjust, get_bind, hl, if_pos rfl, bind_of_ok (draw_run ..), bind_of_ok (writeReg_run ..),
      bind_of_ok (writeReg_run ..), gregs_write_8, gregs_write_8, bind_of_ok (modifyFlags_run ..)]
    exact hx ▸ h

/-! ## The instructions, each run as its meaning -/

theorem exec_daa (s : State) : exec .daa s = execDaa s := rfl
theorem exec_das (s : State) : exec .das s = execDas s := rfl
theorem exec_aaa (s : State) : exec .aaa s = execAaa s := rfl
theorem exec_aas (s : State) : exec .aas s = execAas s := rfl
theorem exec_aamImm8 (imm : BitVec 8) (s : State) : exec (.aamImm8 imm) s = execAamImm8 imm s := rfl
theorem exec_aadImm8 (imm : BitVec 8) (s : State) : exec (.aadImm8 imm) s = execAadImm8 imm s := rfl

/-- DAA: the result as a sum of numbers, and the flags of R570. -/
theorem ran_daa (s : State) : ∃ (fl : Flags) (n : Nat), onlyStatus s.flags fl ∧ fl.cf = highAdjusts s ∧ fl.af = lowAdjusts s ∧
    (let r : Byte := BitVec.ofNat 8 (s.al.toNat + (if lowAdjusts s then 6 else 0) + if highAdjusts s then 0x60 else 0)
     fl.sf = r.msb ∧ fl.zf = (r == 0) ∧ fl.pf = evenParity r ∧
     Ran .daa s { s.enter with flags := fl, draws := n, regs := s.regs.set8 .eax r }) := by
  have hr : BitVec.ofNat 8 (s.al.toNat + (if lowAdjusts s then 6 else 0) + if highAdjusts s then 0x60 else 0) =
      s.al + (if lowAdjusts s then 6 else 0) + (if highAdjusts s then 0x60 else 0) := by
    simp [BitVec.ofNat_add, apply_ite (BitVec.ofNat 8)]
  obtain ⟨fl, n, ⟨hf, hs, hz, hp⟩, hc, ha, h⟩ := daaOp_run s.enter _ hr
  exact ⟨fl, n, hf, hc, ha, hs, hz, hp, (exec_daa s).trans (runInstr_ok h)⟩

/-- DAS: the result as a difference of numbers, and the flags of R571. -/
theorem ran_das (s : State) : ∃ (fl : Flags) (n : Nat), onlyStatus s.flags fl ∧
    fl.cf = (highAdjusts s || (lowAdjusts s && decide (s.al.toNat < 6))) ∧ fl.af = lowAdjusts s ∧
    (let r : Byte := BitVec.ofInt 8 (s.al.toNat - (if lowAdjusts s then 6 else 0) - if highAdjusts s then 0x60 else 0)
     fl.sf = r.msb ∧ fl.zf = (r == 0) ∧ fl.pf = evenParity r ∧
     Ran .das s { s.enter with flags := fl, draws := n, regs := s.regs.set8 .eax r }) := by
  have hr : BitVec.ofInt 8 (s.al.toNat - (if lowAdjusts s then 6 else 0) - if highAdjusts s then 0x60 else 0) =
      s.al - (if lowAdjusts s then 6 else 0) - (if highAdjusts s then 0x60 else 0) := by
    simp [sub_eq_add_neg, BitVec.ofInt_add, BitVec.ofInt_neg, apply_ite (BitVec.ofInt 8)]
  obtain ⟨fl, n, ⟨hf, hs, hz, hp⟩, hc, ha, h⟩ := dasOp_run s.enter _ hr
  exact ⟨fl, n, hf, hc, ha, hs, hz, hp, (exec_das s).trans (runInstr_ok h)⟩

/-- AAM with a base other than 0: quotient to AH, remainder to AL (R574). -/
theorem ran_aam (s : State) (imm : BitVec 8) (hb : imm ≠ 0) : ∃ (fl : Flags) (n : Nat), onlyStatus s.flags fl ∧
    (let r : Byte := BitVec.ofNat 8 (s.al.toNat % imm.toNat)
     fl.sf = r.msb ∧ fl.zf = (r == 0) ∧ fl.pf = evenParity r ∧
     Ran (.aamImm8 imm) s { s.enter with
       flags := fl, draws := n, regs := (s.regs.set8 .esp (BitVec.ofNat 8 (s.al.toNat / imm.toNat))).set8 .eax r }) := by
  have hb' : (imm.toNat != 0) = true := by simpa [← BitVec.toNat_inj] using hb
  obtain ⟨fl, n, ⟨hf, hs, hz, hp⟩, h⟩ := decimalFlags_run (BitVec.ofNat 8 (s.al.toNat % imm.toNat)) { s.enter with
    regs := (s.regs.set8 .esp (BitVec.ofNat 8 (s.al.toNat / imm.toNat))).set8 .eax (BitVec.ofNat 8 (s.al.toNat % imm.toNat)) }
  refine ⟨fl, n, hf, hs, hz, hp, (exec_aamImm8 imm s).trans (runInstr_ok ?_)⟩
  rw [get_bind, hb', require_true, pure_bind_run, bind_of_ok (writeReg_run ..), bind_of_ok (writeReg_run ..),
    gregs_write_8, gregs_write_8]
  exact h

/-- AAM with base 0 (R574). -/
theorem faults_aam_zero (s : State) : Faults (.aamImm8 0) s { vec := 0, code := none, dbg := none } s.enter :=
  fun hc => (exec_aamImm8 0 s).trans (runInstr_exc rfl hc)

/-- AAD: AL + AH * base to AL, 0 to AH (R575). -/
theorem ran_aad (s : State) (imm : BitVec 8) : ∃ (fl : Flags) (n : Nat), onlyStatus s.flags fl ∧
    (let r : Byte := BitVec.ofNat 8 (s.al.toNat + s.ah.toNat * imm.toNat)
     fl.sf = r.msb ∧ fl.zf = (r == 0) ∧ fl.pf = evenParity r ∧
     Ran (.aadImm8 imm) s { s.enter with flags := fl, draws := n, regs := (s.regs.set8 .eax r).set8 .esp 0 }) := by
  have hr : s.enter.al + s.enter.ah * imm = BitVec.ofNat 8 (s.al.toNat + s.ah.toNat * imm.toNat) := by
    simp [BitVec.ofNat_add, BitVec.ofNat_mul, State.al, State.ah]
  obtain ⟨fl, n, ⟨hf, hs, hz, hp⟩, h⟩ := decimalFlags_run (BitVec.ofNat 8 (s.al.toNat + s.ah.toNat * imm.toNat)) { s.enter with
    regs := (s.regs.set8 .eax (BitVec.ofNat 8 (s.al.toNat + s.ah.toNat * imm.toNat))).set8 .esp 0 }
  refine ⟨fl, n, hf, hs, hz, hp, (exec_aadImm8 imm s).trans (runInstr_ok ?_)⟩
  rw [get_bind, bind_of_ok (writeReg_run ..), hr, gregs_write_ax_byte]
  exact h

/-- The encodings of the six adjustments (R570 to R575). -/
theorem decodeOne_decimalAdjust (os as : Size) (b : Byte) :
    decodeOne os as [0x27] = .ok .daa [] ∧ decodeOne os as [0x2F] = .ok .das [] ∧ decodeOne os as [0x37] = .ok .aaa [] ∧
    decodeOne os as [0x3F] = .ok .aas [] ∧ decodeOne os as [0xD4, b] = .ok (.aamImm8 b) [] ∧
    decodeOne os as [0xD5, b] = .ok (.aadImm8 b) [] :=
  ⟨rfl, rfl, rfl, rfl, rfl, rfl⟩

/-- Settles O11: each clause is the lemma about its instruction; AAA and AAS are the one ASCII adjustment, with the values
of AL for which the carry into AH is known. -/
theorem decimalAdjust : Obligations.DecimalAdjust := by
  refine ⟨decodeOne_decimalAdjust, fun s => ⟨ran_daa s, ran_das s, ?aaa, ?aas, ran_aam s, faults_aam_zero s, ran_aad s⟩⟩
  case aaa =>
    obtain ⟨fl, n, x, hf, hc, ha, hx, hw, h⟩ :=
      asciiAdjust_run (fun a b => a + b) (fun al => decide (0xF9 < al.toNat)) s.enter
    exact ⟨fl, n, x, hf, hc, ha, hx, fun hl hle => hw hl (decide_eq_false (Nat.not_lt.mpr hle)), (exec_aaa s).trans (runInstr_ok h)⟩
  case aas =>
    obtain ⟨fl, n, x, hf, hc, ha, hx, hw, h⟩ :=
      asciiAdjust_run (fun a b => a - b) (fun al => decide (al.toNat < 6)) s.enter
    exact ⟨fl, n, x, hf, hc, ha, hx, fun hl hle => hw hl (decide_eq_false (Nat.not_lt.mpr hle)), (exec_aas s).trans (runInstr_ok h)⟩

end Sys2Proof.Laws

end

section
/-! Near jumps, conditional jumps and loops (43_control_transfer.md R700, R701, R711 to R715): what an access and a read of an
operand leave, the encodings, the limit check on a near target, and the statement about the nine instructions. -/

namespace Sys2Proof.Laws

open Sys2Proof Sys2Proof.Machine Sys2Proof.Claims

/-! ## What checking an access leaves -/

/-- `t` is `s` but for memory (the Accessed and Dirty bits of page entries), the TLBs, draws, the bus log and the data breakpoints
noted in the latch: all that an access may change (22_paging.md R264, R271, 64_debug.md R1486). -/
def OnlyAccess (s t : State) : Prop :=
  t = { s with mem := t.mem, itlb := t.itlb, dtlb := t.dtlb, draws := t.draws, bus := t.bus
               cur := { s.cur with hits := t.cur.hits, trap := t.cur.trap } }

theorem OnlyAccess.refl (s : State) : OnlyAccess s s := rfl

theorem OnlyAccess.trans {s t u : State} (h : OnlyAccess s t) (k : OnlyAccess t u) : OnlyAccess s u := by
  unfold OnlyAccess at *
  rw [k, h]

theorem OnlyAccess.segs_eq {s t : State} (h : OnlyAccess s t) : t.segs = s.segs := by
  rw [h]

theorem OnlyAccess.committed_eq {s t : State} (h : OnlyAccess s t) : t.cur.committed = s.cur.committed := by
  rw [h]

theorem OnlyMem.onlyAccess {s t : State} (h : OnlyMem s t) : OnlyAccess s t := by
  unfold OnlyMem at h
  rw [h]
  rfl

/-- A computation that, where it ends, has changed no more than an access may. -/
def ChecksOnly {α : Type} (m : M α) : Prop := ∀ ⦃s t a⦄, m s = .ok a t → OnlyAccess s t

section
variable {α β : Type}

theorem ChecksOnly.bind {m : M α} {f : α → M β} (hm : ChecksOnly m) (hf : ∀ a, ChecksOnly (f a)) : ChecksOnly (m >>= f) := by
  intro s u b h
  obtain ⟨a, t, ht, hu⟩ := bind_eq_ok.1 h
  exact (hm ht).trans (hf a hu)

theorem ChecksOnly.of_run {m : M α} (h : ∀ s, ∃ a t, m s = .ok a t ∧ OnlyAccess s t) : ChecksOnly m := by
  intro s u b hb
  obtain ⟨a, t, ht, hst⟩ := h s
  cases ht.symm.trans hb
  exact hst

theorem ChecksOnly.pure (a : α) : ChecksOnly (pure a : M α) := .of_run fun s => ⟨a, s, rfl, .refl s⟩
theorem ChecksOnly.get : ChecksOnly (get : M State) := .of_run fun s => ⟨s, s, rfl, .refl s⟩

theorem ChecksOnly.modify {f : State → State} (h : ∀ s, OnlyAccess s (f s)) : ChecksOnly (modify f : M PUnit) :=
  .of_run fun s => ⟨⟨⟩, f s, rfl, h s⟩

theorem ChecksOnly.ite {c : Prop} [Decidable c] {m k : M α} (hm : ChecksOnly m) (hk : ChecksOnly k) :
    ChecksOnly (if c then m else k) := by
  split
  · exact hm
  · exact hk

/-- What always raises never ends. -/
theorem ChecksOnly.raise (v : Nat) (c : Option Word) : ChecksOnly (raise v c : M α) := by
  intro s t a h
  rw [raise_run] at h
  nomatch h

theorem ChecksOnly.require {b : Bool} {els : M Unit} (h : ChecksOnly els) : ChecksOnly (require b els) := .ite (.pure ()) h

/-- The model's own look at memory. -/
theorem ChecksOnly.quietly {m : M α} (h : ChecksOnly m) : ChecksOnly (quietly m) :=
  .bind .get fun _ => .bind h fun _ => .bind (.modify fun _ => rfl) fun _ => .pure _

/-- A page fault never ends. -/
theorem pageFault_checksOnly (lin : Word) (a : Access) (p r : Bool) : ChecksOnly (pageFault lin a p r : M α) := by
  intro s t v h
  rw [pageFault, modify_bind, raise_run] at h
  nomatch h

end

theorem drawBool_checksOnly : ChecksOnly drawBool := .of_run fun s => ⟨_, _, drawBool_run s, rfl⟩

/-- Reading bytes of physical memory (R210). -/
theorem load_checksOnly (ps : List Word) : ChecksOnly (load ps) := .of_run fun s => by
  obtain ⟨v, n, l, h, -⟩ := load_effect ps s
  exact ⟨v, _, h, rfl⟩

theorem physRead32_checksOnly (a : Word) : ChecksOnly (physRead32 a) := .bind (load_checksOnly _) fun _ => .pure _

/-- Setting the Accessed and Dirty bits of a page entry (R264). -/
theorem setEntryBits_checksOnly (a o b : Word) : ChecksOnly (setEntryBits a o b) := by
  refine .ite (.pure _) (.bind (.of_run fun s => ?_) fun _ => .pure _)
  obtain ⟨t, h, hm, -⟩ := physWrite_effect a 4 (o ||| b).toNat s
  exact ⟨(), t, h, hm.onlyAccess⟩

/-- Keeping a translation in its buffer (R271). -/
theorem tlbInsert_checksOnly (fetch : Bool) (e : TlbEntry) : ChecksOnly (tlbInsert fetch e) := .modify fun s => by
  split <;> rfl

/-- The table walk (R262, R275). -/
theorem walk_checksOnly (lin : Word) (a : Access) : ChecksOnly (walk lin a) := by
  refine .bind .get fun s => .bind (physRead32_checksOnly _) fun pde => .bind (.require (pageFault_checksOnly ..)) fun _ =>
    .ite ?bigPage (.bind (physRead32_checksOnly _) fun pte => .bind (.require (pageFault_checksOnly ..)) fun _ =>
      .ite ?permitted ?refused)
  case bigPage =>
    exact .bind (.require (pageFault_checksOnly ..)) fun _ => .bind (.require (pageFault_checksOnly ..)) fun _ =>
      .bind (setEntryBits_checksOnly ..) fun _ => .bind (tlbInsert_checksOnly ..) fun _ => .pure _
  case permitted =>
    exact .bind (setEntryBits_checksOnly ..) fun _ => .bind (setEntryBits_checksOnly ..) fun _ =>
      .bind (tlbInsert_checksOnly ..) fun _ => .pure _
  case refused => exact .bind (setEntryBits_checksOnly ..) fun _ => pageFault_checksOnly ..

/-- Comparing a buffered translation with the tables (R271). -/
theorem tlbCurrent_checksOnly (e : TlbEntry) (lin : Word) (w : Bool) : ChecksOnly (tlbCurrent e lin w) :=
  .quietly (.bind .get fun _ => .bind (physRead32_checksOnly _) fun _ => .ite (.pure _) (.ite (.pure _)
    (.bind (physRead32_checksOnly _) fun _ => .pure _)))

/-- Translation (R262, R271). -/
theorem translate_checksOnly (lin : Word) (a : Access) : ChecksOnly (translate lin a) := by
  refine .bind .get fun s => .ite (.pure _) ?_
  dsimp only
  split
  · exact walk_checksOnly _ _
  · refine .bind (tlbCurrent_checksOnly ..) fun _ => .ite (walk_checksOnly ..) (.bind drawBool_checksOnly fun _ => .ite ?_ ?_)
    · exact .bind (.require (pageFault_checksOnly ..)) fun _ => .pure _
    · exact walk_checksOnly _ _

theorem linAddrs_checksOnly (lin : Word) (n : Nat) (a : Access) : ChecksOnly (linAddrs lin n a) :=
  .bind (translate_checksOnly ..) fun _ => .ite (.pure _) (.bind (translate_checksOnly ..) fun _ => .pure _)

/-- The segment checks of R330. -/
theorem segLinear_checksOnly (sz : Size) (sr : SReg) (off : Word) (n : Nat) (k : Kind) : ChecksOnly (segLinear sz sr off n k) := by
  have hf : ChecksOnly (segFault sr : M Unit) := .ite (.raise ..) (.raise ..)
  exact .bind .get fun _ => .ite
    (.bind (.require (.raise ..)) fun _ => .bind (.require (.raise ..)) fun _ => .bind (.require hf) fun _ => .pure _)
    (.bind (.require hf) fun _ => .pure _)

/-- Nothing, or one state put in place of another. -/
theorem onlyAccess_of_ite_set {c : Prop} [Decidable c] {s t u : State} {v : Unit}
    (h : (if c then pure () else set u : M Unit) s = .ok v t) (hu : OnlyAccess s u) : OnlyAccess s t := by
  split at h
  · cases h
    exact .refl s
  · cases h
    exact hu

/-- Noting the breakpoints that a range of bytes matches (R1486). -/
theorem noteBreaks_checksOnly (a k : Nat) (ok : BitVec 2 → Bool) : ChecksOnly (noteBreaks a k ok) := by
  intro s t v h
  rw [noteBreaks, get_bind] at h
  exact onlyAccess_of_ite_set h rfl

theorem noteRange_checksOnly (size a n : Nat) (ok : BitVec 2 → Bool) : ChecksOnly (noteRange size a n ok) :=
  .bind (noteBreaks_checksOnly ..) fun _ => .ite (.pure _) (noteBreaks_checksOnly ..)

/-- MemRead and MemWrite up to the transfer itself (R23). -/
theorem access_checksOnly (sz : Size) (sr : SReg) (off : Word) (n al : Nat) (k : Kind) : ChecksOnly (access sz sr off n al k) :=
  .bind
    (.bind (segLinear_checksOnly ..) fun _ => .bind .get fun _ => .bind (linAddrs_checksOnly ..) fun _ =>
      .bind (.require (.raise ..)) fun _ => .pure _)
    fun _ => .bind (noteRange_checksOnly ..) fun _ => .pure _

/-- Locating an operand (R500). -/
theorem locate_checksOnly (w : Nat) (rm : RM) (k : Kind) : ChecksOnly (locate w rm k) := by
  cases rm with
  | reg r => exact .pure _
  | mem m => exact .bind (.bind .get fun _ => access_checksOnly ..) fun _ => .pure _

/-- Reading an operand that has been located (R500). -/
theorem place_get_checksOnly (p : Place) (w : Nat) : ChecksOnly (p.get w) := .of_run fun s => by
  obtain ⟨v, n, l, h⟩ := place_get_effect p w s
  exact ⟨v, _, h, rfl⟩

/-! ## The encodings -/

/-- The opcode of the short conditional jump (R711). -/
theorem oneByte_jcc (cc : Cond) : oneByte (0x70#8 + cc.num.setWidth 8) = parseImm8 (.jccRel8 cc) := by
  cases cc <;> rfl

/-- The second opcode byte of the near conditional jump (R711). -/
theorem twoByte_jcc (cc : Cond) : twoByte (0x80#8 + cc.num.setWidth 8) = parseImmV (.jccRel cc) := by
  cases cc <;> rfl

theorem decodeOne_jccRel8 (os as : Size) (cc : Cond) (r : Byte) :
    decodeOne os as [0x70#8 + cc.num.setWidth 8, r] = .ok (.jccRel8 cc r) [] := by
  rw [decodeOne, runParse, oneByte_jcc]
  rfl

/-- The near conditional jump, its displacement of the operand size. -/
theorem decodeOne_jccRel {os as : Size} {bs : List Byte} {v : Word} (cc : Cond) (h : takeSized os bs = some (v, [])) :
    decodeOne os as (0x0F :: (0x80#8 + cc.num.setWidth 8) :: bs) = .ok (.jccRel cc v) [] := by
  change runParse os as (twoByte (0x80#8 + cc.num.setWidth 8)) bs = _
  rw [twoByte_jcc, parseImmV, runParse, h]
  rfl

/-! ## A near target -/

theorem cutTarget_eq (s : State) (t : Word) : cutTarget s.os.bits t = nearTarget s t := by
  unfold cutTarget nearTarget
  cases s.os <;> rfl

theorem relDisp_eq (s : State) (rel : BitVec 32) : relDisp rel s.os.bits = osDisp s rel := by
  unfold relDisp osDisp
  cases s.os <;> rfl

/-- The low half of a word, as a word. -/
theorem and_FFFF (x : Word) : x &&& 0xFFFF = (x.setWidth 16).setWidth 32 := by
  apply BitVec.eq_of_toNat_eq
  have h : (x &&& 0xFFFF).toNat = x.toNat % 2 ^ 16 := Nat.and_two_pow_sub_one_eq_mod x.toNat 16
  rw [h, BitVec.toNat_setWidth, BitVec.toNat_setWidth]
  omega

/-- A value of the operand size is its own target. -/
theorem nearTarget_setWidth (s : State) (v : BitVec s.os.bits) : nearTarget s (v.setWidth 32) = v.setWidth 32 := by
  unfold nearTarget
  generalize s.os = sz at v
  cases sz with
  | s16 => exact (and_FFFF _).trans (congrArg (BitVec.setWidth 32) (BitVec.setWidth_setWidth_of_le v (by decide)))
  | s32 => rfl

/-- A near transfer: inside the limit of CS it sets EIP, past it it raises #GP(0) and nothing happens (R700). -/
theorem jumpNear_run (t : Word) (w : Nat) (s : State) : jumpNear t w s =
    if (cutTarget w t).toNat ≤ s.segs.cs.limit.toNat then .ok () { s with eip := cutTarget w t } else .error (.exc gp0) s := by
  rw [jumpNear, checkNear, bind_assoc, get_bind, guard_gp]
  simp only [decide_eq_true_eq]
  rfl

/-! ## Running a near transfer -/

/-- An instruction whose computation comes to a near transfer in `u`, where CS and the task are still those of its start. -/
theorem transfers_of_jumpNear {i : Instr} {body : M Unit} {s u : State} {t : Word} (hi : exec i s = runInstr body s)
    (hb : body s.enter = jumpNear t s.os.bits u) (hs : u.segs = s.segs) (hc : u.cur.committed = s.cur.committed) :
    Transfers i s u (nearTarget s t) := by
  have hl : u.segs.cs.limit = s.segs.cs.limit := by rw [hs]
  rw [jumpNear_run, cutTarget_eq, hl] at hb
  constructor
  · intro hle
    rw [if_pos hle] at hb
    exact hi.trans (runInstr_ok hb)
  · intro hlt hcommitted
    rw [if_neg (Nat.not_le.mpr hlt)] at hb
    exact hi.trans (runInstr_exc hb (hc.trans hcommitted))

/-- An instruction whose computation comes to a jump on a condition in `u`: it jumps, or goes on (R711). -/
theorem transfers_or_ran {i : Instr} {body : M Unit} {s u : State} {c : Bool} {d : Word} (hi : exec i s = runInstr body s)
    (hb : body s.enter = jumpRelIf c d s.os.bits u) (hs : u.segs = s.segs) (hc : u.cur.committed = s.cur.committed) :
    if c = true then Transfers i s u (nearTarget s (u.eip + d)) else Ran i s u := by
  cases c with
  | true => exact transfers_of_jumpNear hi hb hs hc
  | false => exact hi.trans (runInstr_ok hb)

/-! ## The instructions, each run as its meaning -/

theorem exec_jmpRel8 (rel : BitVec 8) (s : State) : exec (.jmpRel8 rel) s = execJmpRel8 rel s := rfl
theorem exec_jmpRel (rel : BitVec 32) (s : State) : exec (.jmpRel rel) s = execJmpRel rel s := rfl
theorem exec_jmpRm (rm : RM) (s : State) : exec (.jmpRm rm) s = execJmpRm rm s := rfl
theorem exec_jccRel8 (cc : Cond) (rel : BitVec 8) (s : State) : exec (.jccRel8 cc rel) s = execJccRel8 cc rel s := rfl
theorem exec_jccRel (cc : Cond) (rel : BitVec 32) (s : State) : exec (.jccRel cc rel) s = execJccRel cc rel s := rfl
theorem exec_jcxzRel8 (rel : BitVec 8) (s : State) : exec (.jcxzRel8 rel) s = execJcxzRel8 rel s := rfl
theorem exec_loopRel8 (rel : BitVec 8) (s : State) : exec (.loopRel8 rel) s = execLoopRel8 rel s := rfl
theorem exec_loopeRel8 (rel : BitVec 8) (s : State) : exec (.loopeRel8 rel) s = execLoopeRel8 rel s := rfl
theorem exec_loopneRel8 (rel : BitVec 8) (s : State) : exec (.loopneRel8 rel) s = execLoopneRel8 rel s := rfl

/-- JMP rel8 (R701). -/
theorem transfers_jmpRel8 (s : State) (r8 : BitVec 8) :
    Transfers (.jmpRel8 r8) s s.enter (nearTarget s (s.enter.eip + r8.signExtend 32)) :=
  transfers_of_jumpNear (exec_jmpRel8 r8 s) rfl rfl rfl

/-- JMP rel16/32 (R701). -/
theorem transfers_jmpRel (s : State) (rel : BitVec 32) :
    Transfers (.jmpRel rel) s s.enter (nearTarget s (s.enter.eip + osDisp s rel)) :=
  relDisp_eq s rel ▸ transfers_of_jumpNear (exec_jmpRel rel s) rfl rfl rfl

/-- JMP r/m (R701). -/
theorem transfers_jmpRm {rm : RM} {s s1 s2 : State} {p : Place} {v : BitVec s.os.bits}
    (hl : locate s.os.bits rm .r s.enter = .ok p s1) (hg : p.get s.os.bits s1 = .ok v s2) :
    Transfers (.jmpRm rm) s s2 (v.setWidth 32) := by
  have ho : OnlyAccess s.enter s2 := (locate_checksOnly _ _ _ hl).trans (place_get_checksOnly _ _ hg)
  have hr : readRM s.os.bits rm s.enter = .ok v s2 := (readRM_ok hl).trans hg
  rw [← nearTarget_setWidth s v]
  exact transfers_of_jumpNear (exec_jmpRm rm s) (bind_of_ok hr) ho.segs_eq ho.committed_eq

/-- Jcc and J(E)CXZ jump where their condition holds, and go on where it does not (R711, R712). -/
theorem condJumps_transfer_or_ran (s : State) (cc : Cond) (r8 : BitVec 8) (rel : BitVec 32) : ∀ j ∈ condJumps s cc r8 rel,
    if j.2.1 then Transfers j.1 s s.enter (nearTarget s (s.enter.eip + j.2.2)) else Ran j.1 s s.enter := by
  intro j hj
  simp only [condJumps, List.mem_cons, List.not_mem_nil, or_false] at hj
  rcases hj with rfl | rfl | rfl
  · exact transfers_or_ran (exec_jccRel8 cc r8 s) rfl rfl rfl
  · exact relDisp_eq s rel ▸ transfers_or_ran (exec_jccRel cc rel s) rfl rfl rfl
  · exact transfers_or_ran (c := s.counter == 0) (exec_jcxzRel8 r8 s) rfl rfl rfl

/-- A size is at most a word. -/
theorem size_bits_le (sz : Size) : sz.bits ≤ 32 := by
  cases sz <;> decide

/-- A value of an address or operand size, widened to a word and cut back. -/
theorem setWidth_word_setWidth {sz : Size} (v : BitVec sz.bits) : (v.setWidth 32).setWidth sz.bits = v := by
  rw [BitVec.setWidth_setWidth_of_le v (size_bits_le sz), BitVec.setWidth_eq]

/-- Widening to a word keeps what is not 0. -/
theorem setWidth_word_eq_zero {sz : Size} (v : BitVec sz.bits) : v.setWidth 32 = 0 ↔ v = 0 := by
  constructor
  · intro h
    rw [← setWidth_word_setWidth v, h]
    exact BitVec.setWidth_zero ..
  · rintro rfl
    exact BitVec.setWidth_zero ..

/-- CX counted down in a word is CX counted down. -/
theorem and_FFFF_pred (c : Word) : (c &&& 0xFFFF) - 1 &&& 0xFFFF = (c.setWidth 16 - 1).setWidth 32 := by
  simp only [and_FFFF]
  apply congrArg
  apply BitVec.eq_of_toNat_eq
  simp only [BitVec.toNat_setWidth, BitVec.toNat_sub, BitVec.ofNat_eq_ofNat, BitVec.toNat_ofNat]
  omega

/-- (E)CX less 1, at the address size (R713 to R715). -/
def countDown (s : State) : BitVec s.as.bits := s.regs.read s.as.bits .ecx - 1

/-- The state in which LOOP has counted (E)CX down (R713 to R715). -/
def counted (s : State) : State := { s with regs := s.regs.write s.as.bits .ecx (countDown s) }

/-- The count of LOOP is written first; the word that holds it is (E)CX less 1. -/
theorem loopIf_setCounter (ok : Flags → Bool) (rel : BitVec 8) (w : Nat) (s : State) : loopIf ok rel w s =
    (do
      setCounter ((countDown s).setWidth 32)
      jumpRelIf ((countDown s).setWidth 32 != 0 && ok s.flags) (rel.signExtend 32) w : M Unit) s := by
  obtain ⟨c, hc, h⟩ : ∃ c, c = (countDown s).setWidth 32 ∧ loopIf ok rel w s =
      (do setCounter c; jumpRelIf (c != 0 && ok s.flags) (rel.signExtend 32) w : M Unit) s := by
    refine ⟨_, ?_, rfl⟩
    unfold countDown State.counter
    cases s.as with
    | s16 => exact and_FFFF_pred s.regs.ecx
    | s32 => exact (BitVec.setWidth_eq _).symm
  rw [h, hc]

/-- LOOP, LOOPE and LOOPNE count (E)CX down, then jump if it is not 0 and their test holds (R713 to R715). -/
theorem loopIf_run (ok : Flags → Bool) (rel : BitVec 8) (w : Nat) (s : State) :
    loopIf ok rel w s = jumpRelIf (countDown s != 0 && ok s.flags) (rel.signExtend 32) w (counted s) := by
  have hne : ((countDown s).setWidth 32 != 0) = (countDown s != 0) := by
    rw [Bool.eq_iff_iff, bne_iff_ne, bne_iff_ne, ne_eq, setWidth_word_eq_zero]
  have hset : setCounter ((countDown s).setWidth 32) s = .ok () (counted s) := by
    rw [setCounter, get_bind, setWidth_word_setWidth, writeReg_run]
    rfl
  rw [loopIf_setCounter, bind_of_ok hset, hne]

/-- One of LOOP, LOOPE and LOOPNE, by its test. -/
theorem loop_transfers_or_ran {i : Instr} {ok : Flags → Bool} {s : State} {r8 : BitVec 8}
    (hi : exec i s = runInstr (atOs (loopIf ok r8)) s) :
    if countDown s ≠ 0 ∧ ok s.flags = true then
      Transfers i s (counted s.enter) (nearTarget s (s.enter.eip + r8.signExtend 32)) else Ran i s (counted s.enter) := by
  have h := transfers_or_ran (c := countDown s != 0 && ok s.flags) hi (loopIf_run ok r8 s.os.bits s.enter) rfl rfl
  simp only [Bool.and_eq_true, bne_iff_ne] at h
  exact h

/-- Settles O21: the encodings, then each instruction as a near transfer from the state its operands were read in. -/
theorem nearJumps : Obligations.NearJumps := by
  refine ⟨fun os as cc r a b c d => ⟨decodeOne_jccRel8 os as cc r, decodeOne_jccRel cc rfl, decodeOne_jccRel cc rfl, rfl, rfl, rfl, rfl⟩,
    ?relative, condJumps_transfer_or_ran, ?loops, fun rm s p s1 v s2 => transfers_jmpRm⟩
  case relative =>
    rintro s i d (⟨r8, rfl, rfl⟩ | ⟨rel, rfl, rfl⟩)
    · exact transfers_jmpRel8 s r8
    · exact transfers_jmpRel s rel
  case loops =>
    intro s r8 j hj
    simp only [loops, List.mem_cons, List.not_mem_nil, or_false] at hj
    rcases hj with rfl | rfl | rfl
    · exact loop_transfers_or_ran (exec_loopRel8 r8 s)
    · exact loop_transfers_or_ran (exec_loopeRel8 r8 s)
    · exact loop_transfers_or_ran (exec_loopneRel8 r8 s)

end Sys2Proof.Laws

end

section
/-! The flag instructions STC, CLC, CMC, CLD and STD (45_flag_segment_misc.md R800 to R804): their encodings, each run as one
function on the flags, and the statement about the five. -/

namespace Sys2Proof.Laws

open Sys2Proof Sys2Proof.Machine Sys2Proof.Claims

/-- An instruction that is one function on the flags completes with that function applied, and changes nothing else. -/
theorem ran_modifyFlags {i : Instr} {f : Flags → Flags} {s : State} (hi : exec i s = runInstr (modifyFlags f) s) :
    Ran i s { s.enter with flags := f s.flags } :=
  hi.trans (runInstr_ok (modifyFlags_run f s.enter))

theorem exec_stc (s : State) : exec .stc s = runInstr (modifyFlags fun f => { f with cf := true }) s := rfl
theorem exec_clc (s : State) : exec .clc s = runInstr (modifyFlags fun f => { f with cf := false }) s := rfl
theorem exec_cmc (s : State) : exec .cmc s = runInstr (modifyFlags fun f => { f with cf := !f.cf }) s := rfl
theorem exec_cld (s : State) : exec .cld s = runInstr (modifyFlags fun f => { f with df := false }) s := rfl
theorem exec_std (s : State) : exec .std s = runInstr (modifyFlags fun f => { f with df := true }) s := rfl

/-- The encodings of the five flag instructions (R800 to R804). -/
theorem decodeOne_flagInstructions (os as : Size) :
    decodeOne os as [0xF9] = .ok .stc [] ∧ decodeOne os as [0xF8] = .ok .clc [] ∧ decodeOne os as [0xF5] = .ok .cmc [] ∧
    decodeOne os as [0xFC] = .ok .cld [] ∧ decodeOne os as [0xFD] = .ok .std [] :=
  ⟨rfl, rfl, rfl, rfl, rfl⟩

/-- Settles O19: the encodings, then each instruction as its function on the flags. -/
theorem flagInstructions : Obligations.FlagInstructions :=
  ⟨decodeOne_flagInstructions, fun s =>
    ⟨ran_modifyFlags (exec_stc s), ran_modifyFlags (exec_clc s), ran_modifyFlags (exec_cmc s), ran_modifyFlags (exec_cld s),
      ran_modifyFlags (exec_std s)⟩⟩

end Sys2Proof.Laws

end

section
/-! Taking an exception or interrupt in real-address mode (60_exceptions.md R1261): what a store leaves, the linear accesses without
paging, what the beginning of a delivery keeps, and the statement about the whole delivery. -/

namespace Sys2Proof.Laws

open Sys2Proof Sys2Proof.Machine Sys2Proof.Claims

/-! ## What a store leaves -/

/-- Only memory and the bus differ, so an operand has the same bytes (R210). -/
theorem OnlyMem.addrs_eq {s t : State} (h : OnlyMem s t) (ps : List Word) : addrs t ps = addrs s ps := by
  unfold OnlyMem at h
  rw [h]
  rfl

theorem OnlyMem.memMap_eq {s t : State} (h : OnlyMem s t) : t.memMap = s.memMap := by
  unfold OnlyMem at h
  rw [h]

theorem stored_nil (v : Nat) (s : State) : Stored [] v s s :=
  ⟨rfl, fun _ _ => rfl, id, fun _ k hk => absurd hk (Nat.not_lt_zero k), fun _ => rfl⟩

/-- The write of one byte (R210). -/
theorem physWriteByte_stored (a : Word) (v : Nat) (s : State) :
    ∃ t, physWriteByte a (BitVec.ofNat 8 v) s = .ok () t ∧ Stored [a] v s t := by
  obtain ⟨t, ht, hm, hwf, hother⟩ := physWriteByte_effect a (BitVec.ofNat 8 v) s
  have hram : regionAt s.memMap (s.a20 a).toNat = none → t = { s with mem := Memory.write s.mem (s.a20 a).toNat (BitVec.ofNat 8 v) } := by
    intro hr
    rw [physWriteByte_run, hr] at ht
    cases ht
    rfl
  refine ⟨t, ht, hm, fun b hb => hother b (by simpa [addrs] using hb), hwf, ?bytes, ?bus⟩
  case bytes =>
    intro hw k hk hr _
    obtain rfl : k = 0 := by simpa [addrs] using hk
    rw [hram hr]
    simpa [byteAt, addrs] using read_write_same _ _ hw
  case bus =>
    intro hr
    rw [hram (hr _ (by simp [addrs]))]

/-- The low byte and then the rest of a number (R201). -/
theorem stored_cons {a : Word} {as : List Word} {v : Nat} {s t u : State} (h : Stored [a] v s t) (k : Stored as (v / 256) t u) :
    Stored (a :: as) v s u := by
  obtain ⟨hm, hother, hwf, hbyte, hbus⟩ := h
  obtain ⟨km, kother, kwf, kbytes, kbus⟩ := k
  rw [OnlyMem.addrs_eq hm] at kother kbytes kbus
  rw [OnlyMem.memMap_eq hm] at kbytes kbus
  have hcons : addrs s (a :: as) = (s.a20 a).toNat :: addrs s as := rfl
  refine ⟨OnlyMem.trans hm km, fun b hb => ?other, kwf ∘ hwf, fun hw j hj hr hlast => ?bytes, fun hr => ?bus⟩
  case other =>
    simp only [hcons, List.mem_cons, not_or] at hb
    exact (kother b hb.2).trans (hother b (by simpa [addrs] using hb.1))
  case bytes =>
    cases j with
    | zero => exact (kother _ hlast).trans (hbyte hw 0 Nat.one_pos hr (List.not_mem_nil))
    | succ j =>
      have hj' : j < (addrs s as).length := Nat.lt_of_succ_lt_succ hj
      have := kbytes (hwf hw) j hj' hr hlast
      rw [Nat.div_div_eq_div_mul, ← Nat.pow_succ'] at this
      exact this
  case bus =>
    simp only [hcons, List.forall_mem_cons] at hr
    exact (kbus hr.2).trans (hbus (by simpa [addrs] using hr.1))

/-- A store never stops and leaves what `Stored` says (R201, R210). -/
theorem store_stored (ps : List Word) (v : Nat) (s : State) : ∃ t, store ps v s = .ok () t ∧ Stored ps v s t := by
  induction ps generalizing v s with
  | nil => exact ⟨s, rfl, stored_nil v s⟩
  | cons a as ih =>
    obtain ⟨t, ht, h⟩ := physWriteByte_stored a v s
    obtain ⟨u, hu, k⟩ := ih (v / 256) t
    exact ⟨u, by rw [store, bind_of_ok ht, hu], stored_cons h k⟩

/-- Storing values into slots never stops and leaves what `StoredAll` says (R220). -/
theorem storeAll_storedAll (pss : List (List Word)) (vs : List Nat) (s : State) : ∃ t, storeAll pss vs s = .ok () t ∧ StoredAll pss vs s t := by
  induction pss generalizing vs s with
  | nil => exact ⟨s, rfl, rfl⟩
  | cons ps pss ih =>
    cases vs with
    | nil => exact ⟨s, rfl, rfl⟩
    | cons v vs =>
      obtain ⟨t, ht, h⟩ := store_stored ps v s
      obtain ⟨u, hu, k⟩ := ih vs t
      exact ⟨u, by rw [storeAll, bind_of_ok ht, hu], t, h, k⟩

/-! ## The stack -/

/-- An access leaves the control registers (R1486). -/
theorem OnlyAccess.cr_eq {s t : State} (h : OnlyAccess s t) : t.cr = s.cr := by
  rw [h]

/-- Finding the slots of a push (R220). -/
theorem pushSlots_checksOnly (sz : Size) (n count : Nat) (sp : Word) : ChecksOnly (pushSlots sz n sp count) := by
  induction count generalizing sp with
  | zero => exact .pure _
  | succ c ih => exact .bind (access_checksOnly ..) fun _ => .bind (ih _) fun _ => .pure _

/-- The bits that wrapping to the stack address size drops are not part of a value of that size (R108, R220). -/
theorem wrapSp_setWidth (sz : Size) (v : Word) : (wrapSp sz v).setWidth sz.bits = v.setWidth sz.bits := by
  cases sz with
  | s16 => exact (congrArg (BitVec.setWidth 16) (and_FFFF v)).trans (setWidth_word_setWidth (sz := .s16) _)
  | s32 => rfl

/-- (E)SP keeps no more of a value than the stack address size holds (R108). -/
theorem withSp_wrapSp (u : State) (v : Word) : withSp u (wrapSp u.ss v) = withSp u v := by
  rw [withSp, wrapSp_setWidth, withSp]

/-- Once its slots are found nothing can stop a push: the values are stored there, then (E)SP moves (R220). -/
theorem pushList_stored {n : Nat} {vs : List Nat} {s s1 : State} {slots : List (List Word)}
    (h : pushSlots s.ss n s.spOff vs.length s = .ok slots s1) :
    ∃ u, StoredAll slots vs s1 u ∧ OnlyAccess s u ∧ pushList n vs s = .ok () (withSp u (s.spOff - BitVec.ofNat 32 (n * vs.length))) := by
  obtain ⟨u, hu, hstored⟩ := storeAll_storedAll slots vs s1
  obtain ⟨_, hu', hm, -⟩ := storeAll_effect slots vs s1
  cases hu.symm.trans hu'
  have hacc : OnlyAccess s u := (pushSlots_checksOnly _ _ _ _ h).trans hm.onlyAccess
  have hss : s.ss = u.ss := by rw [State.ss, State.ss, hacc.segs_eq]
  refine ⟨u, hstored, hacc, ?_⟩
  rw [pushList_ok h hu, hss, withSp_wrapSp]

/-! ## Without paging -/

/-- With CR0.PG = 0 a linear address is the physical one (R262). -/
theorem translate_pg_off {s : State} (h : s.pg = false) (lin : Word) (a : Access) : Machine.translate lin a s = .ok lin s := by
  unfold Machine.translate
  rw [get_bind, h]
  rfl

/-- With CR0.PG = 0 the bytes of an operand are always found, and finding them changes nothing (R262). -/
theorem linAddrs_pg_off {s : State} (h : s.pg = false) (lin : Word) (n : Nat) (a : Access) : ∃ ps, linAddrs lin n a s = .ok ps s := by
  unfold linAddrs
  rw [bind_of_ok (translate_pg_off h lin a)]
  split
  · exact ⟨_, rfl⟩
  · rw [bind_of_ok (translate_pg_off h _ a)]
    exact ⟨_, rfl⟩

/-- With CR0.PG = 0 a word of a system table is always read, and paging stays off (R23). -/
theorem sysRead16_pg_off {s : State} (h : s.pg = false) (lin : Word) : ∃ v t, sysRead16 lin s = .ok v t ∧ t.pg = false := by
  obtain ⟨ps, hps⟩ := linAddrs_pg_off h lin 2 (.system false)
  obtain ⟨v, n, l, hv, -⟩ := load_effect ps s
  exact ⟨BitVec.ofNat 16 v, { s with draws := n, bus := l }, by rw [sysRead16, sysRead, bind_assoc, bind_of_ok hps, bind_of_ok hv]; rfl, h⟩

/-! ## Beginning a delivery -/

/-- What the beginning of a delivery changes at most (R1204, R1232, 64_debug.md R1491). -/
theorem begun_eq (ev : Event) (s : State) : begun ev s =
    { s with run := .running, nmiBlocked := (begun ev s).nmiBlocked, recurs := (begun ev s).recurs, dr := (begun ev s).dr } := by
  unfold begun
  dsimp only
  split_ifs <;> rfl

@[simp] theorem begun_flags (ev : Event) (s : State) : (begun ev s).flags = s.flags := by rw [begun_eq]
@[simp] theorem begun_segs (ev : Event) (s : State) : (begun ev s).segs = s.segs := by rw [begun_eq]
@[simp] theorem begun_idtr (ev : Event) (s : State) : (begun ev s).idtr = s.idtr := by rw [begun_eq]
@[simp] theorem begun_pg (ev : Event) (s : State) : (begun ev s).pg = s.pg := by rw [begun_eq]; rfl
@[simp] theorem begun_ss (ev : Event) (s : State) : (begun ev s).ss = s.ss := by rw [begun_eq]; rfl
@[simp] theorem begun_spOff (ev : Event) (s : State) : (begun ev s).spOff = s.spOff := by rw [begun_eq]; rfl

/-! ## Delivery in real-address mode -/

/-- The base of a real-address selector is 16 times the selector (R232). -/
theorem realBase_eq (sel : Half) : realBase sel = BitVec.ofNat 32 (16 * sel.toNat) := by
  apply BitVec.eq_of_toNat_eq
  simp only [realBase, BitVec.toNat_shiftLeft, BitVec.toNat_setWidth, BitVec.toNat_ofNat, Nat.shiftLeft_eq]
  omega

/-- An attempt that succeeds raises nothing that EXT could mark (R1211). -/
theorem withExt_ok {ext : Bool} {m : M Unit} {s t : State} (h : m s = .ok () t) : withExt ext m s = .ok () t := by
  unfold withExt
  rw [h]

/-- Once the vector lies inside the table and the slots of the push are found, nothing can stop the delivery: the attempt ends at the
vector as the table holds it after the pushes (R1260, R1261). -/
theorem realDelivered_of_ready {ev : Event} {s s1 : State} {slots : List (List Word)} (n : Nat) (h : RealReady ev s slots s1) :
    RealDelivered (deliver (n + 1) ev s) ev s slots s1 := by
  obtain ⟨hpe, hpg, hsmm, hlimit, hslots⟩ := h
  rw [← begun_ss ev s, ← begun_spOff ev s] at hslots
  obtain ⟨u, hstored, hacc, hpush⟩ :=
    pushList_stored (vs := [s.flags.word.toNat, s.segs.cs.sel.toNat, ev.retEip.toNat]) hslots
  have hupg : u.pg = false := by rw [State.pg, hacc.cr_eq, ← State.pg, begun_pg, hpg]
  obtain ⟨cs, s2, hcs, hpg2⟩ := sysRead16_pg_off (s := withSp u (s.spOff - 6)) hupg (s.idtr.base + BitVec.ofNat 32 (4 * ev.vec) + 2)
  obtain ⟨ip, s3, hip, -⟩ := sysRead16_pg_off hpg2 (s.idtr.base + BitVec.ofNat 32 (4 * ev.vec))
  refine ⟨u, cs, s2, ip, s3, hstored, hcs, hip, ?_⟩
  rw [← begun_idtr ev s] at hlimit hcs hip
  rw [← begun_flags ev s, ← begun_segs ev s, begun_spOff] at hpush
  have hreal := deliverReal_ok hlimit hpush hcs hip
  rw [Seg.ofReal, realBase_eq] at hreal
  apply deliver_ok
  rw [deliverOnce_run hsmm, hpe]
  exact withExt_ok hreal

/-- Settles O25: a delivery that is ready is delivered. -/
theorem realModeDelivery : Obligations.RealModeDelivery :=
  fun _ _ _ _ n h => realDelivered_of_ready n h

end Sys2Proof.Laws

end

section
/-! RESET and INIT (70_reset_and_hazards.md R1601 to R1610, R1620): that each comes before everything else at a boundary, the words of the
values after RESET, the bits of CR0 that INIT keeps, and the statement about both. -/

namespace Sys2Proof.Laws

open Sys2Proof Sys2Proof.Machine Sys2Proof.Claims

/-! ## The event that comes first -/

/-- A RESET request is served before anything else (R1208, D52). -/
theorem step_of_reset {s : State} {r : ResetReq} (h : s.inp.reset = some r) : step s = .next (s.begin.onReset r) := by
  have hb : s.begin.inp.reset = some r := by simp [h]
  simp only [step, State.boundary, hb]

/-- An INIT request is served when there is no RESET, before everything else (R1208, D52). -/
theorem step_of_init {s : State} (hr : s.inp.reset = none) (hi : s.inp.init = true) : step s = .next s.begin.onInit := by
  have hbr : s.begin.inp.reset = none := by simp [hr]
  have hbi : s.begin.inp.init = true := by simp [hi]
  simp only [step, State.boundary, hbr, hbi, if_true]

/-! ## The values after RESET -/

/-- EDX identifies the processor: family 5 in DH, the stepping in DL (R1601). -/
theorem identification_eq (b : Byte) : (0x05#8 ++ b).setWidth 32 = 0x500 + b.setWidth 32 := by
  have hnat : (0x05#8 ++ b).toNat = 0x500 + b.toNat := by
    rw [BitVec.toNat_append, ← Nat.shiftLeft_add_eq_or_of_lt b.isLt]
    rfl
  bv_omega

/-- The general registers after RESET without the self test and after INIT (R1601). -/
theorem gregs_reset_eq : GRegs.reset =
    { eax := 0, ebx := 0, ecx := 0, edx := 0x500 + Config.steppingId.setWidth 32, esi := 0, edi := 0, ebp := 0, esp := 0 } := by
  rw [GRegs.reset, identification_eq]

/-- EFLAGS = 00000002H (R1601). -/
theorem flags_reset_word : Flags.reset.word = 2 := rfl

/-- DS, ES, FS, GS and SS after RESET (R1605). -/
theorem segs_reset_data : ∀ g ∈ [Segs.reset.ds, Segs.reset.es, Segs.reset.fs, Segs.reset.gs, Segs.reset.ss],
    g.sel = 0 ∧ g.base = 0 ∧ g.limit = 0xFFFF := by
  have hseg : [Segs.reset.ds, Segs.reset.es, Segs.reset.fs, Segs.reset.gs, Segs.reset.ss] = List.replicate 5 Seg.reset := rfl
  intro g hg
  rw [hseg] at hg
  rw [List.eq_of_mem_replicate hg]
  exact ⟨rfl, rfl, rfl⟩

/-- The status word is 0 (R1620). -/
theorem fpu_reset_statusWord : Fpu.reset.sw.word = 0 := rfl

/-- The registers of the FPU are +0 (R1620). -/
theorem fpu_reset_regs (i : Fin 8) : Fpu.reset.regs[i] = 0 := by
  simp [Fpu.reset]

/-- Every tag is 01 (R1620). -/
theorem fpu_reset_tagWord : Fpu.reset.tagWord = 0x5555 := rfl

/-- What RESET leaves in the general registers, with the self test or without (R1601, R1615). -/
theorem onReset_regs (s : State) (r : ResetReq) : (s.onReset r).regs =
    { eax := if r.bist then Config.bistResult else 0, ebx := 0, ecx := 0, edx := 0x500 + Config.steppingId.setWidth 32, esi := 0
      edi := 0, ebp := 0, esp := 0 } :=
  congrArg (fun g : GRegs => { g with eax := if r.bist then Config.bistResult else 0 }) gregs_reset_eq

/-! ## CR0 after INIT -/

/-- The mask that INIT applies is CD and NW (R1602). -/
theorem cdNw_getLsbD : ∀ j, j < 32 → (0x60000000 : Word).getLsbD j = decide (j = 30 ∨ j = 29) := by decide

/-- The mask that INIT adds is bit 4 (R1602). -/
theorem bit4_getLsbD : ∀ j, j < 32 → (0x10 : Word).getLsbD j = decide (j = 4) := by decide

/-- INIT keeps CD and NW, sets bit 4 and clears the other bits (R1602). -/
theorem initCr0_getLsbD (v : Word) : ∀ j, j < 32 →
    ((v &&& 0x60000000) ||| 0x10).getLsbD j = if j = 30 ∨ j = 29 then v.getLsbD j else j = 4 := by
  intro j hj
  rw [BitVec.getLsbD_or, BitVec.getLsbD_and, cdNw_getLsbD j hj, bit4_getLsbD j hj]
  split_ifs with hkept
  · have hne : j ≠ 4 := by omega
    simp [hkept, hne]
  · simp [hkept]

/-! ## RESET and INIT -/

/-- Settles O53: the step is the event itself, and each event's values are those of the lemmas above. -/
theorem resetAndInit : Obligations.ResetAndInit := by
  constructor
  · intro s r h
    exact ⟨s.begin.onReset r, step_of_reset h, onReset_regs s.begin r, flags_reset_word, rfl, rfl, rfl, rfl, rfl, segs_reset_data, rfl, rfl,
      rfl, rfl, fpu_reset_statusWord, fpu_reset_tagWord, fpu_reset_regs, rfl, rfl, rfl, rfl⟩
  · intro s hr hi
    exact ⟨s.begin.onInit, step_of_init hr hi, gregs_reset_eq, flags_reset_word, rfl, rfl, rfl, rfl, initCr0_getLsbD s.cr.cr0, rfl, rfl, rfl,
      rfl, rfl, rfl, rfl, rfl⟩

end Sys2Proof.Laws

end

section
/-! Every computation of the model, followed through its sequencing: it keeps memory in canonical form whether it ends or stops
(20_memory.md R200, R210). One lemma per operation, in the order in which they call each other; then every instruction, and the step. -/

namespace Sys2Proof.Laws

open Sys2Proof Sys2Proof.Machine Sys2Proof.Claims

/-- The state in which a computation ends or stops. -/
def endState {α : Type} : EStateM.Result Stop State α → State
  | .ok _ t => t
  | .error _ t => t

/-- A computation that keeps memory canonical, whether it ends or stops. -/
def Canonical {α : Type} (m : M α) : Prop := ∀ s : State, Memory.wf s.mem = true → Memory.wf (endState (m s)).mem = true

section
variable {α β : Type}

/-- The state that is read is canonical where the computation that goes on with it begins. -/
theorem Canonical.get_bind {f : State → M β} (hf : ∀ s, Memory.wf s.mem = true → Canonical (f s)) : Canonical (get >>= f) :=
  fun s h => hf s h s h

theorem Canonical.pure {a : α} : Canonical (pure a : M α) := fun _ h => h
theorem Canonical.stop {e : Stop} : Canonical (throw e : M α) := fun _ h => h
theorem Canonical.stop_bind {e : Stop} {f : α → M β} : Canonical ((throw e : M α) >>= f) := fun _ h => h
theorem Canonical.get : Canonical (get : M State) := fun _ h => h
theorem Canonical.set {t : State} (h : Memory.wf t.mem = true) : Canonical (set t : M PUnit) := fun _ _ => h
theorem Canonical.modify {f : State → State} (h : ∀ s, Memory.wf s.mem = true → Memory.wf (f s).mem = true) :
    Canonical (modify f : M PUnit) := fun s hs => h s hs

theorem Canonical.bind {m : M α} {f : α → M β} (hm : Canonical m) (hf : ∀ a, Canonical (f a)) : Canonical (m >>= f) := fun s h => by
  have hs := hm s h
  rw [bind_run]
  cases hr : m s with
  | ok a t =>
    rw [hr] at hs
    exact hf a t hs
  | error e t =>
    rw [hr] at hs
    exact hs

theorem Canonical.ite {c : Prop} [Decidable c] {m k : M α} (hm : Canonical m) (hk : Canonical k) : Canonical (if c then m else k) := by
  split
  · exact hm
  · exact hk

/-- A part that is run in one case only, before what both cases go on with. -/
theorem Canonical.ite_then_of {c : Prop} [Decidable c] {m : M α} {k : α → M β} {a : α} (hm : Canonical m) (hk : ∀ a, Canonical (k a)) :
    Canonical (if c then m >>= k else k a) := .ite (.bind hm hk) (hk a)

theorem Canonical.ite_then {c : Prop} [Decidable c] {m : M Unit} {k : Unit → M β} (hm : Canonical m) (hk : ∀ a, Canonical (k a)) :
    Canonical (if c then m >>= k else k ()) := .ite_then_of hm hk

/-- The same in the other case. -/
theorem Canonical.ite_else {c : Prop} [Decidable c] {m : M Unit} {k : Unit → M β} (hm : Canonical m) (hk : ∀ a, Canonical (k a)) :
    Canonical (if c then k () else m >>= k) := .ite (hk ()) (.bind hm hk)

/-- Two cases, each with a part of its own, that go on alike. -/
theorem Canonical.ite_both {c : Prop} [Decidable c] {m n : M α} {k : α → M β} (hm : Canonical m) (hn : Canonical n)
    (hk : ∀ a, Canonical (k a)) : Canonical (if c then m >>= k else n >>= k) := .ite (.bind hm hk) (.bind hn hk)

end

/-! ## The operations -/

theorem draw_canonical {w : Nat} : Canonical (draw w) := .get_bind fun _ hs => .bind (.set hs) fun _ => .pure

theorem emit_canonical {e : BusEvent} : Canonical (emit e) := .modify fun _ h => h

theorem physReadByte_canonical {a : Word} : Canonical (physReadByte a) := by
  refine .get_bind fun _ _ => ?_
  dsimp only
  split
  · exact .pure
  · exact .pure
  · exact .bind draw_canonical fun _ => .bind emit_canonical fun _ => .pure
  · exact draw_canonical

theorem physWriteByte_canonical {a : Word} {v : Byte} : Canonical (physWriteByte a v) := fun s h => by
  obtain ⟨t, ht, -, hw, -⟩ := physWriteByte_effect a v s
  rw [ht]
  exact hw h

theorem load_canonical {ps : List Word} : Canonical (load ps) := by
  induction ps with
  | nil => exact .pure
  | cons a as ih => exact .bind physReadByte_canonical fun _ => .bind ih fun _ => .pure

theorem store_canonical {ps : List Word} {v : Nat} : Canonical (store ps v) := by
  induction ps generalizing v with
  | nil => exact .pure
  | cons a as ih => exact .bind physWriteByte_canonical fun _ => ih

theorem require_canonical {ok : Bool} {els : M Unit} (hels : Canonical els) : Canonical (require ok els) := .ite .pure hels

theorem segFault_canonical {α : Type} {sr : SReg} : Canonical (segFault sr : M α) := .ite .stop .stop

theorem segLinear_canonical {sz : Size} {sr : SReg} {off : Word} {n : Nat} {k : Kind} : Canonical (segLinear sz sr off n k) :=
  .get_bind fun _ _ => .ite (.bind (require_canonical .stop) fun _ => .bind (require_canonical .stop) fun _ =>
      .bind (require_canonical segFault_canonical) fun _ => .pure) (.bind (require_canonical segFault_canonical) fun _ => .pure)

theorem physRead_canonical {a : Word} {n : Nat} : Canonical (physRead a n) := load_canonical

theorem physRead32_canonical {a : Word} : Canonical (physRead32 a) := .bind physRead_canonical fun _ => .pure

theorem pageFault_canonical {α : Type} {lin : Word} {a : Access} {present rsv : Bool} : Canonical (pageFault lin a present rsv : M α) :=
  .bind (.modify fun _ h => h) fun _ => .stop

theorem physWrite_canonical {a : Word} {n v : Nat} : Canonical (physWrite a n v) := store_canonical

theorem setEntryBits_canonical {addr old bits : Word} : Canonical (setEntryBits addr old bits) :=
  .ite .pure (.bind physWrite_canonical fun _ => .pure)

theorem tlbInsert_canonical {fetch : Bool} {e : TlbEntry} : Canonical (tlbInsert fetch e) :=
  .modify fun s h => by cases fetch <;> exact h

theorem walk_canonical {lin : Word} {a : Access} : Canonical (walk lin a) :=
  .get_bind fun _ _ => .bind physRead32_canonical fun _ => .bind (require_canonical pageFault_canonical) fun _ =>
      .ite (.bind (require_canonical pageFault_canonical) fun _ => .bind (require_canonical pageFault_canonical) fun _ =>
      .bind setEntryBits_canonical fun _ => .bind tlbInsert_canonical fun _ => .pure) (.bind physRead32_canonical fun _ =>
      .bind (require_canonical pageFault_canonical) fun _ => .ite (.bind setEntryBits_canonical fun _ =>
      .bind setEntryBits_canonical fun _ => .bind tlbInsert_canonical fun _ => .pure) (.bind setEntryBits_canonical fun _ =>
      pageFault_canonical))

theorem quietly_canonical {α : Type} {m : M α} (hm : Canonical m) : Canonical (quietly m) :=
  .get_bind fun _ _ => .bind hm fun _ => .bind (.modify fun _ h => h) fun _ => .pure

theorem tlbCurrent_canonical {e : TlbEntry} {lin : Word} {write : Bool} : Canonical (tlbCurrent e lin write) :=
  quietly_canonical (.get_bind fun _ _ => .bind physRead32_canonical fun _ => .ite .pure (.ite .pure (.bind physRead32_canonical fun _ =>
      .pure)))

theorem drawBool_canonical : Canonical drawBool := .bind draw_canonical fun _ => .pure

theorem translate_canonical {lin : Word} {a : Access} : Canonical (translate lin a) := by
  refine .get_bind fun _ _ => .ite .pure ?_
  dsimp only
  split
  · exact walk_canonical
  · exact .bind tlbCurrent_canonical fun _ => .ite walk_canonical (.bind drawBool_canonical fun _ =>
        .ite (.bind (require_canonical pageFault_canonical) fun _ => .pure) walk_canonical)

theorem linAddrs_canonical {lin : Word} {n : Nat} {a : Access} : Canonical (linAddrs lin n a) :=
  .bind translate_canonical fun _ => .ite .pure (.bind translate_canonical fun _ => .pure)

theorem checkIf_canonical {sz : Size} {sr : SReg} {off : Word} {n : Nat} {ok : Nat → Bool} {k : Kind} : Canonical (checkIf sz sr off n ok k) :=
  .bind segLinear_canonical fun _ => .get_bind fun _ _ => .bind linAddrs_canonical fun _ => .bind (require_canonical .stop) fun _ => .pure

theorem noteBreaks_canonical {a k : Nat} {ok : BitVec 2 → Bool} : Canonical (noteBreaks a k ok) := .get_bind fun _ hs => .ite .pure (.set hs)

theorem noteRange_canonical {size a n : Nat} {ok : BitVec 2 → Bool} : Canonical (noteRange size a n ok) :=
  .bind noteBreaks_canonical fun _ => .ite .pure noteBreaks_canonical

theorem accessIf_canonical {sz : Size} {sr : SReg} {off : Word} {n : Nat} {ok : Nat → Bool} {k : Kind}
    : Canonical (accessIf sz sr off n ok k) :=
  .bind checkIf_canonical fun ⟨_, _⟩ => .bind noteRange_canonical fun _ => .pure

theorem access_canonical {sz : Size} {sr : SReg} {off : Word} {n al : Nat} {k : Kind} : Canonical (access sz sr off n al k) :=
  accessIf_canonical

theorem setSeg_canonical {sr : SReg} {g : Seg} : Canonical (setSeg sr g) := .modify fun _ h => h

theorem setBits_canonical {ps : List Word} {m : Word} : Canonical (setBits ps m) := .bind load_canonical fun _ => store_canonical

theorem accessedPlace_canonical {d : Desc} : Canonical (accessedPlace d) := .ite .pure linAddrs_canonical

theorem accessedPlaces_canonical {ds : List Desc} : Canonical (accessedPlaces ds) := by
  induction ds with
  | nil => exact .pure
  | cons d ds ih => exact .bind accessedPlace_canonical fun _ => .bind ih fun _ => .pure

theorem markAccessed_canonical {ps : List (List Word)} : Canonical (markAccessed ps) := by
  induction ps with
  | nil => exact .pure
  | cons p ps ih => exact .bind setBits_canonical fun _ => ih

theorem setAccessedAll_canonical {ds : List Desc} : Canonical (setAccessedAll ds) :=
  .bind accessedPlaces_canonical fun _ => markAccessed_canonical

theorem setAccessed_canonical {d : Desc} : Canonical (setAccessed d) := setAccessedAll_canonical

theorem fetchByte_canonical {n : Nat} : Canonical (fetchByte n) :=
  .get_bind fun _ _ => .bind segLinear_canonical fun _ => .bind (require_canonical .stop) fun _ => .bind translate_canonical fun _ =>
      physReadByte_canonical

theorem modifyCur_canonical {f : Latch → Latch} : Canonical (modifyCur f) := .modify fun _ h => h

theorem memRead_canonical {sz : Size} {sr : SReg} {off : Word} {n : Nat} : Canonical (memRead sz sr off n) :=
  .bind access_canonical fun _ => load_canonical

theorem peek_canonical {k : Word} {n : Nat} : Canonical (peek k n) := .get_bind fun _ _ => memRead_canonical

theorem writeReg_canonical {w : Nat} {r : Reg} {v : BitVec w} : Canonical (writeReg w r v) := .modify fun _ h => h

theorem readReg_canonical {w : Nat} {r : Reg} : Canonical (readReg w r) := .get_bind fun _ _ => .pure

theorem withExt_canonical {ext : Bool} {m : M Unit} (hm : Canonical m) : Canonical (withExt ext m) := fun s h => by
  have hs := hm s h
  unfold withExt
  split <;> simp_all [endState]

theorem sysRead_canonical {lin : Word} {n : Nat} : Canonical (sysRead lin n) := .bind linAddrs_canonical fun _ => load_canonical

theorem sysRead32_canonical {lin : Word} : Canonical (sysRead32 lin) := .bind sysRead_canonical fun _ => .pure

theorem readDescAt_canonical {lin : Word} : Canonical (readDescAt lin) :=
  .bind sysRead32_canonical fun _ => .bind sysRead32_canonical fun _ => .pure

theorem readDesc_canonical {sel : Half} {bad : M Unit} (hbad : Canonical bad) : Canonical (readDesc sel bad) :=
  .get_bind fun _ _ => .bind (require_canonical hbad) fun _ => readDescAt_canonical

theorem checkTss_canonical {sel : Half} {k : Switch} : Canonical (checkTss sel k) :=
  .bind (require_canonical (.ite .stop .stop)) fun _ => .bind (readDesc_canonical (.ite .stop .stop)) fun _ =>
      .bind (require_canonical (.ite .stop .stop)) fun _ => .bind (require_canonical .stop) fun _ =>
      .bind (require_canonical (.ite .stop .stop)) fun _ => .bind (require_canonical .stop) fun _ => .pure

theorem tssAddrs_canonical {lin : Word} {n : Nat} {a : Access} : Canonical (tssAddrs lin n a) :=
  .ite linAddrs_canonical (.bind drawBool_canonical fun _ => .ite (.bind translate_canonical fun _ => .bind translate_canonical fun _ =>
      .pure) linAddrs_canonical)

theorem storeFields_canonical {n : Nat} {ps : List Word} {vs : List Nat} : Canonical (storeFields n ps vs) := by
  induction vs generalizing ps with
  | nil => exact .pure
  | cons v vs ih => exact .bind store_canonical fun _ => ih

theorem clearBits_canonical {ps : List Word} {m : Word} : Canonical (clearBits ps m) := .bind load_canonical fun _ => store_canonical

theorem taskLdt_canonical {sel : Half} : Canonical (taskLdt sel) :=
  .get_bind fun _ hs => .ite (.set hs) (.bind (.set hs) fun _ => .bind (require_canonical .stop) fun _ =>
      .bind (readDesc_canonical .stop) fun _ => .bind (require_canonical .stop) fun _ => .modify fun _ h => h)

theorem pushSlots_canonical {sz : Size} {n : Nat} {sp : Word} {c : Nat} : Canonical (pushSlots sz n sp c) := by
  induction c generalizing sp with
  | zero => exact .pure
  | succ c ih => exact .bind access_canonical fun _ => .bind ih fun _ => .pure

theorem storeAll_canonical {pss : List (List Word)} {vs : List Nat} : Canonical (storeAll pss vs) := by
  induction pss generalizing vs with
  | nil => exact .pure
  | cons ps pss ih =>
    cases vs with
    | nil => exact .pure
    | cons v vs => exact .bind store_canonical fun _ => ih

theorem setSp_canonical {v : Word} : Canonical (setSp v) := fun s h => by
  rw [setSp_run]
  exact h

theorem pushList_canonical {n : Nat} {vs : List Nat} : Canonical (pushList n vs) :=
  .get_bind fun _ _ => .bind pushSlots_canonical fun _ => .bind storeAll_canonical fun _ => setSp_canonical

theorem push_canonical {n v : Nat} : Canonical (push n v) := pushList_canonical

theorem lookDesc_canonical {sel : Half} : Canonical (lookDesc sel) :=
  .get_bind fun _ _ => .ite .pure (.bind readDescAt_canonical fun _ => .pure)

theorem checkEach_canonical {ds : List (SReg × Half × Option Desc)} {ok : Half → Option Desc → Bool} {els : Half → M Unit}
    (hels : ∀ a, Canonical (els a)) : Canonical (checkEach ds ok els) := by
  induction ds with
  | nil => exact .pure
  | cons d ds ih => exact .bind (require_canonical (hels _)) fun _ => ih

theorem loadEach_canonical {ds : List (SReg × Half × Option Desc)} : Canonical (loadEach ds) := by
  induction ds with
  | nil => exact .pure
  | cons d ds ih =>
    obtain ⟨sr, sel, d | d⟩ := d
    · exact .get_bind fun _ _ => .bind setSeg_canonical fun _ => ih
    · exact .get_bind fun _ _ => .bind setAccessed_canonical fun _ => .bind setSeg_canonical fun _ => ih

theorem taskSegs_canonical {t : TaskImage} : Canonical (taskSegs t) := by
  refine .bind lookDesc_canonical fun csd => ?_
  cases csd with
  | none =>
    refine .bind lookDesc_canonical fun ssd => ?_
    cases ssd with
    | none => exact .stop_bind
    | some _ =>
      exact .bind (require_canonical .stop) fun _ => .bind (require_canonical .stop) fun _ => .bind (require_canonical .stop) fun _ =>
          .get_bind fun _ _ => .bind (require_canonical .stop) fun _ => .stop_bind
  | some _ =>
    refine .bind (require_canonical .stop) fun _ => .bind lookDesc_canonical fun ssd => ?_
    cases ssd with
    | none => exact .stop_bind
    | some _ =>
      exact .bind (require_canonical .stop) fun _ => .bind (require_canonical .stop) fun _ => .bind (require_canonical .stop) fun _ =>
          .get_bind fun _ _ => .bind (require_canonical .stop) fun _ => .bind (require_canonical .stop) fun _ =>
          .bind (require_canonical .stop) fun _ => .bind setAccessed_canonical fun _ => .bind setSeg_canonical fun _ =>
          .bind (require_canonical .stop) fun _ => .bind setAccessed_canonical fun _ => .bind setSeg_canonical fun _ =>
          .bind lookDesc_canonical fun _ => .bind lookDesc_canonical fun _ => .bind lookDesc_canonical fun _ =>
          .bind lookDesc_canonical fun _ => .bind (checkEach_canonical fun _ => .stop) fun _ =>
          .bind (checkEach_canonical fun _ => .stop) fun _ => .bind (checkEach_canonical fun _ => .stop) fun _ => loadEach_canonical

theorem tlbFlush_canonical : Canonical tlbFlush := .modify fun _ h => h

theorem attempt_canonical {α : Type} {failed : Option Stop} {m : M α} (hm : Canonical m) : Canonical (attempt failed m) := fun s h => by
  have hs := hm s h
  unfold attempt
  split <;> simp_all [endState]

theorem writeLink_canonical {lin : Word} {old : Half} : Canonical (writeLink lin old) := by
  refine .bind (attempt_canonical tssAddrs_canonical) fun ⟨_, _⟩ => ?_
  dsimp -zeta only
  extract_lets +onlyGivenNames jp
  have hjp0 : ∀ r, Canonical (jp r) := fun _ => .pure
  split
  · exact .bind store_canonical fun _ => hjp0 ()
  · exact hjp0 ()

theorem physBytes_canonical {ps : List Word} : Canonical (physBytes ps) := by
  induction ps with
  | nil => exact .pure
  | cons a as ih => exact .bind physReadByte_canonical fun _ => .bind ih fun _ => .pure

theorem drawBytes_canonical {n : Nat} : Canonical (drawBytes n) := by
  induction n with
  | zero => exact .pure
  | succ n ih => exact .bind draw_canonical fun _ => .bind ih fun _ => .pure

theorem tssPart_canonical {failed : Option Stop} {lin : Word} {n : Nat} : Canonical (tssPart failed lin n) := by
  refine .bind (attempt_canonical translate_canonical) fun ⟨_, _⟩ => ?_
  dsimp -zeta only
  extract_lets +onlyGivenNames jp
  have hjp0 : ∀ r, Canonical (jp r) := fun _ => .pure
  split
  · exact .bind physBytes_canonical fun _ => hjp0 _
  · exact .bind drawBytes_canonical fun _ => hjp0 _

theorem readTss_canonical {failed : Option Stop} {lin : Word} {n : Nat} : Canonical (readTss failed lin n) :=
  .ite tssPart_canonical (.bind drawBool_canonical fun _ => .ite (.bind tssPart_canonical fun ⟨_, _⟩ =>
      .bind tssPart_canonical fun ⟨_, _⟩ => .pure) (.bind tssPart_canonical fun ⟨_, _⟩ => .bind tssPart_canonical fun ⟨_, _⟩ => .pure))

theorem readNested_canonical {lin : Word} {n : Nat} {old : Half} : Canonical (readNested lin n old) := by
  refine .ite_both .pure drawBool_canonical (fun _ => .ite (.bind writeLink_canonical fun _ =>
      readTss_canonical) (.bind readTss_canonical fun ⟨_, _⟩ => ?_))
  dsimp -zeta only
  split
  · exact .pure
  · exact .bind writeLink_canonical fun _ => .pure

theorem taskSwitch_canonical {sel : Half} {k : Switch} {retEip : Word} {err : Option Word} : Canonical (taskSwitch sel k retEip err) := by
  have hEnd : ∀ n : Nat, Canonical (do
      match err with
      | some c => push n c.toNat
      | none => pure ()
      let s ← get
      require (decide (s.eip.toNat ≤ s.segs.cs.limit.toNat)) (gp 0)) := fun n => by
    cases err with
    | none => exact .get_bind fun _ _ => require_canonical .stop
    | some _ => exact .bind push_canonical fun _ => .get_bind fun _ _ => require_canonical .stop
  refine .bind checkTss_canonical fun _ => .get_bind fun _ _ => .bind tssAddrs_canonical fun _ => .bind (require_canonical .stop) fun _ =>
      .ite_both linAddrs_canonical .pure (fun _ => .ite_both .pure linAddrs_canonical (fun _ => .bind storeFields_canonical fun _ =>
      .bind clearBits_canonical fun _ => .bind setBits_canonical fun _ => .bind (.modify fun _ h => h) fun _ =>
      .ite_both readNested_canonical readTss_canonical (fun read => ?_)))
  obtain ⟨bytes, failed⟩ := read
  refine .bind (.modify fun _ h => h) fun _ => .ite_then tlbFlush_canonical (fun _ => ?_)
  cases failed with
  | some _ => exact .stop_bind
  | none =>
    exact .bind taskLdt_canonical fun _ => .ite (.get_bind fun _ _ => .bind (require_canonical .stop) fun _ =>
        .bind (.modify fun _ h => h) fun _ => hEnd _) (.bind taskSegs_canonical fun _ => hEnd _)

theorem pushLoading_canonical {n count : Nat} {before after : List Desc} {check : M Unit} {write : List (List Word) → M Unit}
    (hcheck : Canonical check) (hwrite : ∀ a, Canonical (write a)) : Canonical (pushLoading n count before after check write) :=
  .get_bind fun _ _ => .bind pushSlots_canonical fun _ => .bind hcheck fun _ => .bind accessedPlaces_canonical fun _ =>
      .bind accessedPlaces_canonical fun _ => .bind markAccessed_canonical fun _ => .bind (hwrite _) fun _ =>
      .bind markAccessed_canonical fun _ => setSp_canonical

theorem innerStack_canonical {pl : BitVec 2} : Canonical (innerStack pl) :=
  .get_bind fun _ _ => .bind (require_canonical .stop) fun _ => .bind tssAddrs_canonical fun _ => .bind load_canonical fun _ =>
      .bind load_canonical fun _ => .bind (require_canonical .stop) fun _ => .bind (readDesc_canonical .stop) fun _ =>
      .bind (require_canonical .stop) fun _ => .bind (require_canonical .stop) fun _ => .bind (require_canonical .stop) fun _ =>
      .bind (require_canonical .stop) fun _ => .pure

theorem checkInner_canonical {pl : BitVec 2} {n count : Nat} : Canonical (checkInner pl n count) :=
  .get_bind fun _ _ => .bind innerStack_canonical fun ⟨_, _, _⟩ => .bind (require_canonical .stop) fun _ => .pure

theorem switchInner_canonical {pl : BitVec 2} {d : Desc} {sel : Half} {sp : Word} : Canonical (switchInner pl d sel sp) :=
  .modify fun _ h => h

theorem enterInner_canonical {pl : BitVec 2} {n count : Nat} : Canonical (enterInner pl n count) :=
  .bind checkInner_canonical fun ⟨_, _, _⟩ => .bind switchInner_canonical fun _ => .pure

theorem enterGate_canonical {g : Desc} {ev : Event} : Canonical (enterGate g ev) :=
  .get_bind fun _ _ => .bind (require_canonical .stop) fun _ => .bind (readDesc_canonical .stop) fun _ =>
      .bind (require_canonical .stop) fun _ => .bind (require_canonical .stop) fun _ => .bind (require_canonical .stop) fun _ =>
      .bind (require_canonical .stop) fun _ => .ite_both (.bind enterInner_canonical fun _ =>
      .pure) (.bind (require_canonical .stop) fun _ => .pure) (fun _ => .bind (pushLoading_canonical (require_canonical .stop) (fun _ =>
      storeAll_canonical)) fun _ => .ite_then (.modify fun _ h => h) (fun _ => .modify fun _ h => h))

theorem deliverProtected_canonical {ev : Event} : Canonical (deliverProtected ev) :=
  .get_bind fun _ _ => .bind (require_canonical .stop) fun _ => .bind readDescAt_canonical fun _ =>
      .bind (require_canonical .stop) fun _ => .bind (require_canonical .stop) fun _ => .bind (require_canonical .stop) fun _ =>
      .ite taskSwitch_canonical enterGate_canonical

theorem sysRead16_canonical {lin : Word} : Canonical (sysRead16 lin) := .bind sysRead_canonical fun _ => .pure

theorem deliverReal_canonical {ev : Event} : Canonical (deliverReal ev) :=
  .get_bind fun _ _ => .bind (require_canonical .stop) fun _ => .bind pushList_canonical fun _ => .bind sysRead16_canonical fun _ =>
      .bind sysRead16_canonical fun _ => .modify fun _ h => h

theorem deliverOnce_canonical {ev : Event} : Canonical (deliverOnce ev) :=
  .get_bind fun _ _ => .ite_then .stop (fun _ => .bind (.modify fun _ h => h) fun _ => .ite_then (.modify fun _ h => h) (fun _ =>
      .ite_then (.modify fun _ h => h) (fun _ => withExt_canonical (.ite deliverProtected_canonical deliverReal_canonical))))

theorem scanInstr_canonical {k : Nat} {bs : List Byte} : Canonical (scanInstr k bs) := by
  induction k generalizing bs with
  | zero => exact .stop
  | succ k ih =>
    refine .get_bind fun _ _ => .bind fetchByte_canonical fun _ => .bind modifyCur_canonical fun _ => ?_
    dsimp only
    split
    · exact ih
    · exact .pure
    · split
      · exact .bind modifyCur_canonical fun _ => ih
      · exact .bind modifyCur_canonical fun _ => .bind (.modify fun _ h => h) fun _ => .pure

theorem scanAfterWait_canonical {k : Nat} {bs : List Byte} : Canonical (scanAfterWait k bs) := by
  induction k generalizing bs with
  | zero => exact .pure
  | succ k ih =>
    refine .get_bind fun _ _ => .bind fetchByte_canonical fun _ => .bind modifyCur_canonical fun _ => ?_
    dsimp only
    split
    · exact ih
    · exact .pure
    · exact .bind modifyCur_canonical fun _ => .pure

theorem gate_canonical {f : Fetched} : Canonical (gate f) := by
  refine .get_bind fun _ _ => .ite .stop ?_
  split
  · exact .stop
  · exact .stop
  · exact .stop
  · refine .ite .stop ?_
    split
    · exact .pure
    · exact .ite .pure .stop

theorem joinWait_canonical {i : Instr} : Canonical (joinWait i) := by
  refine .get_bind fun s hs => .ite ?_ .pure
  have hw := scanAfterWait_canonical (k := 14) (bs := []) s hs
  split
  case h_1 j t h =>
    rw [h] at hw
    exact .bind (.set hw) fun _ => .pure
  case h_2 => exact .pure

theorem fetchInstr_canonical : Canonical fetchInstr :=
  .bind (.modify fun _ h => h) fun _ => .bind scanInstr_canonical fun _ => .bind gate_canonical fun _ => joinWait_canonical

theorem physWriteWords_canonical {a : Word} {vs : List Nat} : Canonical (physWriteWords a vs) := by
  induction vs generalizing a with
  | nil => exact .pure
  | cons v vs ih => exact .bind physWrite_canonical fun _ => ih

theorem readDump_canonical {base : Word} : Canonical (readDump base) := physBytes_canonical

theorem drawRegs_canonical : Canonical drawRegs :=
  .bind draw_canonical fun _ => .bind draw_canonical fun _ => .bind draw_canonical fun _ => .bind draw_canonical fun _ =>
      .bind draw_canonical fun _ => .bind draw_canonical fun _ => .bind draw_canonical fun _ => .bind draw_canonical fun _ => .pure

theorem drawTable_canonical : Canonical drawTable := .bind draw_canonical fun _ => .bind draw_canonical fun _ => .pure

theorem drawSeg_canonical : Canonical drawSeg :=
  .bind draw_canonical fun _ => .bind draw_canonical fun _ => .bind draw_canonical fun _ => .bind draw_canonical fun _ =>
      .bind draw_canonical fun _ => .bind drawBool_canonical fun _ => .bind drawBool_canonical fun _ => .bind drawBool_canonical fun _ =>
      .bind drawBool_canonical fun _ => .bind drawBool_canonical fun _ => .bind drawBool_canonical fun _ => .pure

theorem smmEntry_canonical : Canonical smmEntry :=
  .get_bind fun _ _ => .bind physWriteWords_canonical fun _ => .bind physWrite_canonical fun _ => .bind physWrite_canonical fun _ =>
      .bind physWrite_canonical fun _ => .bind physWrite_canonical fun _ => .bind (quietly_canonical readDump_canonical) fun _ =>
      .bind drawRegs_canonical fun _ => .bind draw_canonical fun _ => .bind drawTable_canonical fun _ => .bind drawTable_canonical fun _ =>
      .bind drawSeg_canonical fun _ => .bind drawSeg_canonical fun _ => .modify fun _ h => h

theorem reportPending_canonical : Canonical reportPending := .get_bind fun _ _ => .ite (.ite .stop (.ite .pure .stop)) .pure

theorem waitOp_canonical : Canonical waitOp := .get_bind fun _ _ => .bind (require_canonical .stop) fun _ => reportPending_canonical

theorem memAccess_canonical {m : MemOp} {n al : Nat} {k : Kind} : Canonical (memAccess m n al k) := .get_bind fun _ _ => access_canonical

theorem locate_canonical {w : Nat} {rm : RM} {k : Kind} : Canonical (locate w rm k) := by
  unfold locate
  split
  · exact .pure
  · exact .bind memAccess_canonical fun _ => .pure

theorem place_get_canonical {p : Place} {w : Nat} : Canonical (p.get w) := by
  cases p with
  | reg r => exact readReg_canonical
  | mem ps => exact .bind load_canonical fun _ => .pure

theorem place_put_canonical {p : Place} {w : Nat} {v : BitVec w} : Canonical (Place.put p w v) := by
  unfold Place.put
  split
  · exact writeReg_canonical
  · exact store_canonical

theorem modifyRM_canonical {w : Nat} {rm : RM} {f : BitVec w → M (BitVec w)} (hf : ∀ a, Canonical (f a)) : Canonical (modifyRM w rm f) :=
  .bind locate_canonical fun _ => .bind place_get_canonical fun _ => .bind (hf _) fun _ => place_put_canonical

theorem aluRmR_canonical {op : Alu} {rm : RM} {r : Reg} {w : Nat} (hop : ∀ a b c, Canonical (op a b c)) : Canonical (aluRmR op rm r w) :=
  modifyRM_canonical (fun _ => .bind readReg_canonical fun _ => hop _ _ _)

theorem modifyFlags_canonical {f : Flags → Flags} : Canonical (modifyFlags f) := .modify fun _ h => h

theorem aluAdd_canonical {x : Nat} {d s : BitVec x} : Canonical (aluAdd x d s) := .bind modifyFlags_canonical fun _ => .pure

theorem atOs_canonical {f : Nat → M Unit} (hf : ∀ a, Canonical (f a)) : Canonical (atOs f) := .get_bind fun _ _ => hf _

theorem readRM_canonical {w : Nat} {rm : RM} : Canonical (readRM w rm) := .bind locate_canonical fun _ => place_get_canonical

theorem aluRRm_canonical {op : Alu} {rm : RM} {r : Reg} {w : Nat} (hop : ∀ a b c, Canonical (op a b c)) : Canonical (aluRRm op rm r w) :=
  .bind readRM_canonical fun _ => .bind readReg_canonical fun _ => .bind (hop _ _ _) fun _ => writeReg_canonical

theorem aluAcc_canonical {op : Alu} {imm : (w : Nat) → BitVec w} {w : Nat}
    (hop : ∀ a b c, Canonical (op a b c)) : Canonical (aluAcc op imm w) :=
  .bind readReg_canonical fun _ => .bind (hop _ _ _) fun _ => writeReg_canonical

theorem aluRmImm_canonical {op : Alu} {rm : RM} {imm : (w : Nat) → BitVec w} {w : Nat}
    (hop : ∀ a b c, Canonical (op a b c)) : Canonical (aluRmImm op rm imm w) :=
  modifyRM_canonical (fun _ => hop _ _ _)

theorem drawAf_canonical : Canonical drawAf := .bind drawBool_canonical fun _ => modifyFlags_canonical

theorem logicFlags_canonical {w : Nat} {r : BitVec w} : Canonical (logicFlags r) := .bind modifyFlags_canonical fun _ => drawAf_canonical

theorem aluOr_canonical {x : Nat} {d s : BitVec x} : Canonical (aluOr x d s) := .bind logicFlags_canonical fun _ => .pure

theorem aluAdc_canonical {w : Nat} {d s : BitVec w} : Canonical (aluAdc w d s) :=
  .get_bind fun _ _ => .bind modifyFlags_canonical fun _ => .pure

theorem aluSbb_canonical {w : Nat} {d s : BitVec w} : Canonical (aluSbb w d s) :=
  .get_bind fun _ _ => .bind modifyFlags_canonical fun _ => .pure

theorem aluAnd_canonical {x : Nat} {d s : BitVec x} : Canonical (aluAnd x d s) := .bind logicFlags_canonical fun _ => .pure

theorem aluSub_canonical {x : Nat} {d s : BitVec x} : Canonical (aluSub x d s) := .bind modifyFlags_canonical fun _ => .pure

theorem aluXor_canonical {x : Nat} {d s : BitVec x} : Canonical (aluXor x d s) := .bind logicFlags_canonical fun _ => .pure

theorem cmpRmR_canonical {op : Cmp} {rm : RM} {r : Reg} {w : Nat} (hop : ∀ a b c, Canonical (op a b c)) : Canonical (cmpRmR op rm r w) :=
  .bind readRM_canonical fun _ => .bind readReg_canonical fun _ => hop _ _ _

theorem aluCmp_canonical {x : Nat} {d s : BitVec x} : Canonical (aluCmp x d s) := modifyFlags_canonical

theorem cmpRRm_canonical {op : Cmp} {rm : RM} {r : Reg} {w : Nat} (hop : ∀ a b c, Canonical (op a b c)) : Canonical (cmpRRm op rm r w) :=
  .bind readRM_canonical fun _ => .bind readReg_canonical fun _ => hop _ _ _

theorem cmpAcc_canonical {op : Cmp} {imm : (w : Nat) → BitVec w} {w : Nat}
    (hop : ∀ a b c, Canonical (op a b c)) : Canonical (cmpAcc op imm w) :=
  .bind readReg_canonical fun _ => hop _ _ _

theorem cmpRmImm_canonical {op : Cmp} {rm : RM} {imm : (w : Nat) → BitVec w} {w : Nat}
    (hop : ∀ a b c, Canonical (op a b c)) : Canonical (cmpRmImm op rm imm w) :=
  .bind readRM_canonical fun _ => hop _ _ _

theorem writeRM_canonical {w : Nat} {rm : RM} {v : BitVec w} : Canonical (writeRM w rm v) :=
  .bind locate_canonical fun _ => place_put_canonical

theorem movTo_canonical {rm : RM} {v : (w : Nat) → M (BitVec w)} {w : Nat} (hv : ∀ w, Canonical (v w)) : Canonical (movTo rm v w) :=
  .bind (hv _) fun _ => writeRM_canonical

theorem movFrom_canonical {rm : RM} {r : Reg} {w : Nat} : Canonical (movFrom rm r w) := .bind readRM_canonical fun _ => writeReg_canonical

theorem loadSs_canonical {sel : Half} : Canonical (loadSs sel) :=
  .get_bind fun _ _ => .bind (require_canonical .stop) fun _ => .bind (readDesc_canonical .stop) fun _ =>
      .bind (require_canonical .stop) fun _ => .bind (require_canonical .stop) fun _ => .bind (require_canonical .stop) fun _ =>
      .bind (require_canonical .stop) fun _ => .bind setAccessed_canonical fun _ => setSeg_canonical

theorem loadData_canonical {sr : SReg} {sel : Half} : Canonical (loadData sr sel) :=
  .get_bind fun _ _ => .ite setSeg_canonical (.bind (readDesc_canonical .stop) fun _ => .bind (require_canonical .stop) fun _ =>
      .bind (require_canonical .stop) fun _ => .bind (require_canonical .stop) fun _ => .bind setAccessed_canonical fun _ =>
      setSeg_canonical)

theorem loadSeg_canonical {sr : SReg} {sel : Half} : Canonical (loadSeg sr sel) :=
  .get_bind fun _ _ => .ite setSeg_canonical (.ite (.ite loadSs_canonical loadData_canonical) setSeg_canonical)

theorem shadowSs_canonical {sr : SReg} : Canonical (shadowSs sr) := .ite modifyCur_canonical .pure

theorem loadAcc_canonical {off : Word} {w : Nat} : Canonical (loadAcc off w) :=
  .get_bind fun _ _ => .bind memRead_canonical fun _ => writeReg_canonical

theorem memWrite_canonical {sz : Size} {sr : SReg} {off : Word} {n v : Nat} : Canonical (memWrite sz sr off n v) :=
  .bind access_canonical fun _ => store_canonical

theorem storeAcc_canonical {off : Word} {w : Nat} : Canonical (storeAcc off w) :=
  .get_bind fun _ _ => .bind readReg_canonical fun _ => memWrite_canonical

theorem exchange_canonical {rm : RM} {r : Reg} {w : Nat} : Canonical (exchange rm r w) :=
  .bind locate_canonical fun _ => .bind place_get_canonical fun _ => .bind readReg_canonical fun _ => .bind place_put_canonical fun _ =>
      writeReg_canonical

theorem exchangeAcc_canonical {r : Reg} {w : Nat} : Canonical (exchangeAcc r w) :=
  .bind readReg_canonical fun _ => .bind readReg_canonical fun _ => .bind writeReg_canonical fun _ => writeReg_canonical

theorem pushVal_canonical {v : (w : Nat) → M (BitVec w)} {w : Nat} (hv : ∀ w, Canonical (v w)) : Canonical (pushVal v w) :=
  .bind (hv _) fun _ => push_canonical

theorem pushSeg_canonical {sr : SReg} {w : Nat} : Canonical (pushSeg sr w) := .get_bind fun _ _ => push_canonical

theorem addSp_canonical {k : Word} : Canonical (addSp k) := .get_bind fun _ _ => setSp_canonical

theorem pop_canonical {n : Nat} : Canonical (pop n) := .bind peek_canonical fun _ => .bind addSp_canonical fun _ => .pure

theorem popTo_canonical {rm : RM} {w : Nat} : Canonical (popTo rm w) := .bind pop_canonical fun _ => writeRM_canonical

theorem setSpAs_canonical {sz : Size} {v : Word} : Canonical (setSpAs sz v) :=
  .modify fun s h => by cases sz <;> exact h

theorem popSeg_canonical {sr : SReg} {w : Nat} : Canonical (popSeg sr w) :=
  .get_bind fun _ _ => .bind peek_canonical fun _ => .bind loadSeg_canonical fun _ => .bind setSpAs_canonical fun _ => shadowSs_canonical

theorem pushAll_canonical {w : Nat} : Canonical (pushAll w) := .get_bind fun _ _ => pushList_canonical

theorem peekSlots_canonical {w n i : Nat} : Canonical (peekSlots w n i) := by
  induction n generalizing i with
  | zero => exact .pure
  | succ n ih => exact .bind peek_canonical fun _ => .bind ih fun _ => .pure

theorem checkSlot_canonical {k : Word} {n : Nat} : Canonical (checkSlot k n) := .get_bind fun _ _ => .bind checkIf_canonical fun _ => .pure

theorem writeRegs_canonical {w : Nat} {rs : List Reg} {vs : List (BitVec w)} : Canonical (writeRegs w rs vs) := by
  induction rs generalizing vs with
  | nil => exact .pure
  | cons r rs ih =>
    cases vs with
    | nil => exact .pure
    | cons v vs => exact .bind writeReg_canonical fun _ => ih

theorem popAll_canonical {w : Nat} : Canonical (popAll w) :=
  .bind peekSlots_canonical fun _ => .bind checkSlot_canonical fun _ => .bind peekSlots_canonical fun _ =>
      .bind writeRegs_canonical fun _ => .bind writeRegs_canonical fun _ => addSp_canonical

theorem extend_canonical {f : (w : Nat) → {n : Nat} → BitVec n → BitVec w} {n : Nat} {rm : RM} {r : Reg} {w : Nat} :
    Canonical (extend f n rm r w) :=
  .bind readRM_canonical fun _ => writeReg_canonical

theorem exchangeAdd_canonical {rm : RM} {r : Reg} {w : Nat} : Canonical (exchangeAdd rm r w) :=
  .bind locate_canonical fun _ => .bind place_get_canonical fun _ => .bind readReg_canonical fun _ => .bind modifyFlags_canonical fun _ =>
      .bind writeReg_canonical fun _ => place_put_canonical

theorem compareExchange_canonical {rm : RM} {r : Reg} {w : Nat} : Canonical (compareExchange rm r w) :=
  .bind locate_canonical fun _ => .bind place_get_canonical fun _ => .bind readReg_canonical fun _ => .bind readReg_canonical fun _ =>
      .bind modifyFlags_canonical fun _ => .ite place_put_canonical (.bind place_put_canonical fun _ => writeReg_canonical)

theorem compareExchange8_canonical {m : MemOp} : Canonical (compareExchange8 m) :=
  .bind memAccess_canonical fun _ => .bind load_canonical fun _ => .get_bind fun _ _ => .bind modifyFlags_canonical fun _ =>
      .ite store_canonical (.bind store_canonical fun _ => .bind writeReg_canonical fun _ => writeReg_canonical)

theorem readMem_canonical {m : MemOp} {n al : Nat} : Canonical (readMem m n al) := .bind memAccess_canonical fun _ => load_canonical

theorem readAbove_canonical {m : MemOp} {k n : Nat} : Canonical (readAbove m k n) :=
  .get_bind fun _ _ => .bind (require_canonical segFault_canonical) fun _ => memRead_canonical

theorem readFar_canonical {m : MemOp} {w : Nat} : Canonical (readFar m w) :=
  .bind readMem_canonical fun _ => .bind readAbove_canonical fun _ => .pure

theorem loadFar_canonical {sr : SReg} {m : MemOp} {r : Reg} {w : Nat} : Canonical (loadFar sr m r w) :=
  .bind readFar_canonical fun ⟨_, _⟩ => .bind loadSeg_canonical fun _ => writeReg_canonical

theorem loadAddress_canonical {m : MemOp} {r : Reg} {w : Nat} : Canonical (loadAddress m r w) := .get_bind fun _ _ => writeReg_canonical

theorem incr_canonical {rm : RM} {w : Nat} : Canonical (incr rm w) := modifyRM_canonical (fun _ => .bind modifyFlags_canonical fun _ => .pure)

theorem decr_canonical {rm : RM} {w : Nat} : Canonical (decr rm w) := modifyRM_canonical (fun _ => .bind modifyFlags_canonical fun _ => .pure)

theorem negate_canonical {rm : RM} {w : Nat} : Canonical (negate rm w) :=
  modifyRM_canonical (fun _ => .bind modifyFlags_canonical fun _ => .pure)

theorem wideSet_canonical {w p : Nat} : Canonical (wideSet w p) :=
  .ite writeReg_canonical (.bind writeReg_canonical fun _ => writeReg_canonical)

theorem drawSf_canonical : Canonical drawSf := .bind drawBool_canonical fun _ => modifyFlags_canonical

theorem drawZf_canonical : Canonical drawZf := .bind drawBool_canonical fun _ => modifyFlags_canonical

theorem drawPf_canonical : Canonical drawPf := .bind drawBool_canonical fun _ => modifyFlags_canonical

theorem mulFlags_canonical {c : Bool} : Canonical (mulFlags c) :=
  .bind modifyFlags_canonical fun _ => .bind drawSf_canonical fun _ => .bind drawZf_canonical fun _ => .bind drawAf_canonical fun _ =>
      drawPf_canonical

theorem mulOp_canonical {rm : RM} {w : Nat} : Canonical (mulOp rm w) :=
  .bind readRM_canonical fun _ => .bind readReg_canonical fun _ => .bind wideSet_canonical fun _ => mulFlags_canonical

theorem imulAcc_canonical {rm : RM} {w : Nat} : Canonical (imulAcc rm w) :=
  .bind readRM_canonical fun _ => .bind readReg_canonical fun _ => .bind wideSet_canonical fun _ => mulFlags_canonical

theorem imulTo_canonical {w : Nat} {r : Reg} {a b : BitVec w} : Canonical (imulTo w r a b) :=
  .bind writeReg_canonical fun _ => mulFlags_canonical

theorem divSet_canonical {w : Nat} {q r : BitVec w} : Canonical (divSet w q r) := .bind writeReg_canonical fun _ => writeReg_canonical

theorem drawOf_canonical : Canonical drawOf := .bind drawBool_canonical fun _ => modifyFlags_canonical

theorem drawCf_canonical : Canonical drawCf := .bind drawBool_canonical fun _ => modifyFlags_canonical

theorem drawStatus_canonical : Canonical drawStatus :=
  .bind drawOf_canonical fun _ => .bind drawSf_canonical fun _ => .bind drawZf_canonical fun _ => .bind drawAf_canonical fun _ =>
      .bind drawPf_canonical fun _ => drawCf_canonical

theorem divOp_canonical {rm : RM} {w : Nat} : Canonical (divOp rm w) :=
  .bind readRM_canonical fun _ => .get_bind fun _ _ => .bind (require_canonical .stop) fun _ => .bind (require_canonical .stop) fun _ =>
      .bind divSet_canonical fun _ => drawStatus_canonical

theorem idivOp_canonical {rm : RM} {w : Nat} : Canonical (idivOp rm w) :=
  .bind readRM_canonical fun _ => .get_bind fun _ _ => .bind (require_canonical .stop) fun _ => .bind (require_canonical .stop) fun _ =>
      .bind divSet_canonical fun _ => drawStatus_canonical

theorem daaOp_canonical : Canonical daaOp :=
  .get_bind fun _ _ => .bind writeReg_canonical fun _ => .bind modifyFlags_canonical fun _ => drawOf_canonical

theorem dasOp_canonical : Canonical dasOp :=
  .get_bind fun _ _ => .bind writeReg_canonical fun _ => .bind modifyFlags_canonical fun _ => drawOf_canonical

theorem asciiAdjust_canonical {adj : Byte → Byte → Byte} {wild : Byte → Bool} : Canonical (asciiAdjust adj wild) :=
  .get_bind fun _ _ => .ite (.bind draw_canonical fun _ => .bind writeReg_canonical fun _ => .bind writeReg_canonical fun _ =>
      .bind modifyFlags_canonical fun _ => .bind drawOf_canonical fun _ => .bind drawSf_canonical fun _ => .bind drawZf_canonical fun _ =>
      drawPf_canonical) (.bind writeReg_canonical fun _ => .bind modifyFlags_canonical fun _ => .bind drawOf_canonical fun _ =>
      .bind drawSf_canonical fun _ => .bind drawZf_canonical fun _ => drawPf_canonical)

theorem decimalFlags_canonical {al : Byte} : Canonical (decimalFlags al) :=
  .bind modifyFlags_canonical fun _ => .bind drawAf_canonical fun _ => .bind drawOf_canonical fun _ => drawCf_canonical

theorem invert_canonical {rm : RM} {w : Nat} : Canonical (invert rm w) := modifyRM_canonical (fun _ => .pure)

theorem aluTest_canonical {x : Nat} {d s : BitVec x} : Canonical (aluTest x d s) := logicFlags_canonical

theorem shiftRM_canonical {op : Shift} {rm : RM} {k : Count} {w : Nat}
    (hop : ∀ a b c, Canonical (op a b c)) : Canonical (shiftRM op rm k w) :=
  .bind locate_canonical fun _ => .bind place_get_canonical fun _ => .get_bind fun _ _ => .ite .pure (.bind (hop _ _ _) fun _ =>
      place_put_canonical)

theorem setOfOnce_canonical {c : Nat} {v : Bool} : Canonical (setOfOnce c v) := .bind drawBool_canonical fun _ => modifyFlags_canonical

theorem rotateFlags_canonical {c : Nat} {cf ov : Bool} : Canonical (rotateFlags c cf ov) :=
  .bind modifyFlags_canonical fun _ => setOfOnce_canonical

theorem rolOp_canonical {x : Nat} {d : BitVec x} {c : Nat} : Canonical (rolOp x d c) := .bind rotateFlags_canonical fun _ => .pure

theorem rorOp_canonical {w : Nat} {d : BitVec w} {c : Nat} : Canonical (rorOp w d c) := .bind rotateFlags_canonical fun _ => .pure

theorem rclOp_canonical {w : Nat} {d : BitVec w} {c : Nat} : Canonical (rclOp w d c) :=
  .get_bind fun _ _ => .bind rotateFlags_canonical fun _ => .pure

theorem rcrOp_canonical {w : Nat} {d : BitVec w} {c : Nat} : Canonical (rcrOp w d c) :=
  .get_bind fun _ _ => .bind rotateFlags_canonical fun _ => .pure

theorem shiftFlags_canonical {w : Nat} {r : BitVec w} {c : Nat} {cf ov : Bool} : Canonical (shiftFlags r c cf ov) :=
  .bind drawBool_canonical fun _ => .bind modifyFlags_canonical fun _ => .bind setOfOnce_canonical fun _ => drawAf_canonical

theorem shlOp_canonical {w : Nat} {d : BitVec w} {c : Nat} : Canonical (shlOp w d c) := .bind shiftFlags_canonical fun _ => .pure

theorem shrOp_canonical {x : Nat} {d : BitVec x} {c : Nat} : Canonical (shrOp x d c) := .bind shiftFlags_canonical fun _ => .pure

theorem sarOp_canonical {x : Nat} {d : BitVec x} {c : Nat} : Canonical (sarOp x d c) := .bind shiftFlags_canonical fun _ => .pure

theorem doubleShift_canonical {f : (w : Nat) → BitVec w → BitVec w → Nat → BitVec w × Bool} {rm : RM} {r : Reg} {k : Count} {w : Nat}
    : Canonical (doubleShift f rm r k w) := by
  refine .bind locate_canonical fun _ => .bind place_get_canonical fun _ => .bind readReg_canonical fun _ => .get_bind fun _ _ =>
      .ite .pure (.ite (.bind draw_canonical fun _ => .bind drawStatus_canonical fun _ => place_put_canonical) ?_)
  split
  · exact .bind modifyFlags_canonical fun _ => .bind setOfOnce_canonical fun _ => .bind drawAf_canonical fun _ => place_put_canonical

theorem bitFlags_canonical {b : Bool} : Canonical (bitFlags b) :=
  .bind modifyFlags_canonical fun _ => .bind drawOf_canonical fun _ => .bind drawSf_canonical fun _ => .bind drawZf_canonical fun _ =>
      .bind drawAf_canonical fun _ => drawPf_canonical

theorem bitAt_canonical {op : BitOp} {p : Place} {i w : Nat} : Canonical (bitAt op p i w) := by
  refine .bind place_get_canonical fun _ => .bind bitFlags_canonical fun _ => ?_
  split
  · exact .pure
  · exact place_put_canonical

theorem bitByReg_canonical {op : BitOp} {rm : RM} {r : Reg} {w : Nat} : Canonical (bitByReg op rm r w) := by
  refine .bind readReg_canonical fun _ => ?_
  split
  · exact bitAt_canonical
  · exact .get_bind fun _ _ => .bind access_canonical fun _ => bitAt_canonical

theorem bitByImm_canonical {op : BitOp} {rm : RM} {imm : BitVec 8} {w : Nat} : Canonical (bitByImm op rm imm w) :=
  .bind locate_canonical fun _ => bitAt_canonical

theorem bitScan_canonical {find : (w : Nat) → BitVec w → Option Nat} {rm : RM} {r : Reg} {w : Nat} : Canonical (bitScan find rm r w) := by
  refine .bind readRM_canonical fun _ => .bind drawOf_canonical fun _ => .bind drawSf_canonical fun _ => .bind drawAf_canonical fun _ =>
      .bind drawPf_canonical fun _ => .bind drawCf_canonical fun _ => ?_
  split
  · exact .bind draw_canonical fun _ => .bind modifyFlags_canonical fun _ => writeReg_canonical
  · exact .bind modifyFlags_canonical fun _ => writeReg_canonical

theorem relTarget_canonical {d : Word} : Canonical (relTarget d) := .get_bind fun _ _ => .pure

theorem checkNear_canonical {t : Word} : Canonical (checkNear t) := .get_bind fun _ _ => require_canonical .stop

theorem setEip_canonical {t : Word} : Canonical (setEip t) := .modify fun _ h => h

theorem jumpNear_canonical {t : Word} {w : Nat} : Canonical (jumpNear t w) := .bind checkNear_canonical fun _ => setEip_canonical

theorem jumpRel_canonical {d : Word} {w : Nat} : Canonical (jumpRel d w) := .bind relTarget_canonical fun _ => jumpNear_canonical

theorem checkCode_canonical {sel : Half} {d : Desc} : Canonical (checkCode sel d) :=
  .get_bind fun _ _ => .bind (require_canonical .stop) fun _ => require_canonical .stop

theorem setCodeSeg_canonical {sel : Half} {d : Desc} : Canonical (setCodeSeg sel d) := .get_bind fun _ _ => setSeg_canonical

theorem setCode_canonical {sel : Half} {d : Desc} : Canonical (setCode sel d) := .bind setAccessed_canonical fun _ => setCodeSeg_canonical

theorem farSame_canonical {call : Bool} {sel : Half} {d : Desc} {off : Word} {n : Nat} : Canonical (farSame call sel d off n) :=
  .get_bind fun _ _ => .bind (require_canonical .stop) fun _ => .ite (.bind (pushLoading_canonical .pure (fun _ =>
      storeAll_canonical)) fun _ => .bind setCodeSeg_canonical fun _ => setEip_canonical) (.bind setCode_canonical fun _ =>
      setEip_canonical)

theorem paramSlots_canonical {n c : Nat} : Canonical (paramSlots n c) := by
  induction c with
  | zero => exact .pure
  | succ c ih => exact .get_bind fun _ _ => .bind access_canonical fun _ => .bind ih fun _ => .pure

theorem copyAll_canonical {ps : List (List Word × List Word)} : Canonical (copyAll ps) := by
  induction ps with
  | nil => exact .pure
  | cons p ps ih => exact .bind load_canonical fun _ => .bind store_canonical fun _ => ih

theorem callInner_canonical {g cd : Desc} : Canonical (callInner g cd) :=
  .get_bind fun _ _ => .bind checkInner_canonical fun ⟨_, _, _⟩ => .bind (require_canonical .stop) fun _ =>
      .bind paramSlots_canonical fun _ => .bind switchInner_canonical fun _ => .bind (pushLoading_canonical .pure (fun _ =>
      .bind storeAll_canonical fun _ => .bind copyAll_canonical fun _ => storeAll_canonical)) fun _ => .bind setSeg_canonical fun _ =>
      setEip_canonical

theorem farGate_canonical {call : Bool} {gsel : Half} {g : Desc} : Canonical (farGate call gsel g) :=
  .get_bind fun _ _ => .bind (require_canonical .stop) fun _ => .bind (require_canonical .stop) fun _ =>
      .bind (require_canonical .stop) fun _ => .bind (readDesc_canonical .stop) fun _ => .bind (require_canonical .stop) fun _ =>
      .bind (require_canonical .stop) fun _ => .bind (require_canonical .stop) fun _ => .ite callInner_canonical farSame_canonical

theorem farProtected_canonical {call : Bool} {sel : Half} {off : Word} {w : Nat} : Canonical (farProtected call sel off w) :=
  .get_bind fun _ _ => .bind (require_canonical .stop) fun _ => .bind (readDesc_canonical .stop) fun _ =>
      .ite (.bind checkCode_canonical fun _ =>
      farSame_canonical) (.ite .stop (.ite farGate_canonical (.ite (.bind (require_canonical .stop) fun _ =>
      .bind (require_canonical .stop) fun _ => taskSwitch_canonical) (.ite (.bind (require_canonical .stop) fun _ =>
      taskSwitch_canonical) .stop))))

theorem checkOffset16_canonical {off : Word} : Canonical (checkOffset16 off) := .get_bind fun _ _ => require_canonical .stop

theorem setCsReal_canonical {sel : Half} : Canonical (setCsReal sel) := .get_bind fun _ _ => setSeg_canonical

theorem farTransfer_canonical {call : Bool} {sel : Half} {off : Word} {w : Nat} : Canonical (farTransfer call sel off w) :=
  .get_bind fun _ _ => .ite farProtected_canonical (.bind checkOffset16_canonical fun _ => .ite_then pushList_canonical (fun _ =>
      .bind setCsReal_canonical fun _ => setEip_canonical))

theorem callNear_canonical {t : Word} {w : Nat} : Canonical (callNear t w) :=
  .get_bind fun _ _ => .bind checkNear_canonical fun _ => .bind push_canonical fun _ => setEip_canonical

theorem retNear_canonical {n : BitVec 16} {w : Nat} : Canonical (retNear n w) :=
  .bind peek_canonical fun _ => .bind checkNear_canonical fun _ => .bind addSp_canonical fun _ => setEip_canonical

theorem slot_canonical {n k : Nat} {extra : Word} : Canonical (slot n k extra) := .bind peek_canonical fun _ => .pure

theorem checkReturn_canonical {rsel : Half} : Canonical (checkReturn rsel) :=
  .get_bind fun _ _ => .bind (require_canonical .stop) fun _ => .bind (readDesc_canonical .stop) fun _ =>
      .bind (require_canonical .stop) fun _ => .bind (require_canonical .stop) fun _ => .bind (require_canonical .stop) fun _ =>
      .bind (require_canonical .stop) fun _ => .pure

theorem stackFrame_canonical {n : Nat} : Canonical (stackFrame n) := .get_bind fun _ _ => require_canonical .stop

theorem checkOuterStack_canonical {osel : Half} {pl : BitVec 2} : Canonical (checkOuterStack osel pl) :=
  .bind (require_canonical .stop) fun _ => .bind (readDesc_canonical .stop) fun _ => .bind (require_canonical .stop) fun _ =>
      .bind (require_canonical .stop) fun _ => .bind (require_canonical .stop) fun _ => .bind (require_canonical .stop) fun _ => .pure

theorem returnOuter_canonical {rsel : Half} {d : Desc} {eip : Word} {osel : Half} {od : Desc} {esp : Word}
    : Canonical (returnOuter rsel d eip osel od esp) :=
  .bind (require_canonical .stop) fun _ => .bind setAccessedAll_canonical fun _ => .modify fun _ h => h

theorem retFar_canonical {imm : BitVec 16} {w : Nat} : Canonical (retFar imm w) :=
  .get_bind fun _ _ => .ite_then stackFrame_canonical (fun _ => .bind slot_canonical fun _ => .bind slot_canonical fun _ =>
      .ite (.bind checkReturn_canonical fun _ => .ite (.bind (require_canonical .stop) fun _ => .bind addSp_canonical fun _ =>
      .bind setCode_canonical fun _ => setEip_canonical) (.bind stackFrame_canonical fun _ => .bind slot_canonical fun _ =>
      .bind slot_canonical fun _ => .bind checkOuterStack_canonical fun _ =>
      returnOuter_canonical)) (.bind checkOffset16_canonical fun _ => .bind addSp_canonical fun _ => .bind setCsReal_canonical fun _ =>
      setEip_canonical))

theorem jumpRelIf_canonical {c : Bool} {d : Word} {w : Nat} : Canonical (jumpRelIf c d w) := .ite jumpRel_canonical .pure

theorem setCounter_canonical {v : Word} : Canonical (setCounter v) := .get_bind fun _ _ => writeReg_canonical

theorem loopIf_canonical {ok : Flags → Bool} {rel : BitVec 8} {w : Nat} : Canonical (loopIf ok rel w) :=
  .get_bind fun _ _ => .bind setCounter_canonical fun _ => jumpRelIf_canonical

theorem v86Iopl_canonical : Canonical v86Iopl := .get_bind fun _ _ => require_canonical .stop

theorem tssRead_canonical {lin : Word} {n : Nat} : Canonical (tssRead lin n) := .bind tssAddrs_canonical fun _ => load_canonical

theorem tssRead16_canonical {lin : Word} : Canonical (tssRead16 lin) := .bind tssRead_canonical fun _ => .pure

theorem iretToV86_canonical {eip cs fl : Word} : Canonical (iretToV86 eip cs fl) :=
  .bind stackFrame_canonical fun _ => .bind slot_canonical fun _ => .bind slot_canonical fun _ => .bind slot_canonical fun _ =>
      .bind slot_canonical fun _ => .bind slot_canonical fun _ => .bind slot_canonical fun _ => .modify fun _ h => h

theorem iretProtected_canonical {w : Nat} : Canonical (iretProtected w) :=
  .get_bind fun _ _ => .bind slot_canonical fun _ => .bind slot_canonical fun _ => .bind slot_canonical fun _ =>
      .ite iretToV86_canonical (.bind checkReturn_canonical fun _ => .ite (.bind (require_canonical .stop) fun _ =>
      .bind addSp_canonical fun _ => .bind setCode_canonical fun _ => .bind setEip_canonical fun _ =>
      modifyFlags_canonical) (.bind slot_canonical fun _ => .bind slot_canonical fun _ => .bind checkOuterStack_canonical fun _ =>
      .bind modifyFlags_canonical fun _ => returnOuter_canonical))

theorem iretReal_canonical {w : Nat} : Canonical (iretReal w) :=
  .get_bind fun _ _ => .bind slot_canonical fun _ => .bind slot_canonical fun _ => .bind slot_canonical fun _ =>
      .bind checkOffset16_canonical fun _ => .bind addSp_canonical fun _ => .bind setCsReal_canonical fun _ =>
      .bind setEip_canonical fun _ => modifyFlags_canonical

theorem iretOp_canonical {w : Nat} : Canonical (iretOp w) :=
  .get_bind fun _ _ => .bind v86Iopl_canonical fun _ => .bind (.modify fun _ h => h) fun _ => .bind modifyCur_canonical fun _ =>
      .ite (.ite (.bind tssRead16_canonical fun _ => taskSwitch_canonical) iretProtected_canonical) iretReal_canonical

theorem boundCheck_canonical {m : MemOp} {r : Reg} {w : Nat} : Canonical (boundCheck m r w) :=
  .bind readMem_canonical fun _ => .bind readAbove_canonical fun _ => .bind readReg_canonical fun _ => require_canonical .stop

theorem copySlots_canonical {sz : Size} {n c : Nat} {bp sp : Word} : Canonical (copySlots sz n c bp sp) := by
  induction c generalizing bp sp with
  | zero => exact .pure
  | succ c ih => exact .bind access_canonical fun _ => .bind access_canonical fun _ => .bind ih fun _ => .pure

theorem enterFrame_canonical {storage : BitVec 16} {level : BitVec 8} {w : Nat} : Canonical (enterFrame storage level w) :=
  .get_bind fun _ _ => .bind access_canonical fun _ => .bind copySlots_canonical fun _ => .bind pushSlots_canonical fun _ =>
      .bind store_canonical fun _ => .bind copyAll_canonical fun _ => .bind storeAll_canonical fun _ => .bind writeReg_canonical fun _ =>
      .bind writeReg_canonical fun _ => setSp_canonical

theorem leaveFrame_canonical {w : Nat} : Canonical (leaveFrame w) :=
  .get_bind fun _ _ => .bind memRead_canonical fun _ => .bind setSp_canonical fun _ => writeReg_canonical

theorem repeated_canonical {scan late : Bool} {body : M Unit} (hbody : Canonical body) : Canonical (repeated scan late body) := by
  refine .get_bind fun _ _ => ?_
  split
  · exact hbody
  · exact .ite .pure (.bind hbody fun _ => .bind setCounter_canonical fun _ => .get_bind fun _ _ =>
        .ite .pure (.bind setEip_canonical fun _ => modifyCur_canonical))

theorem advance_canonical {r : Reg} {n : Nat} : Canonical (advance r n) := .get_bind fun _ _ => writeReg_canonical

theorem movsOnce_canonical {w : Nat} : Canonical (movsOnce w) :=
  .get_bind fun _ _ => .bind memRead_canonical fun _ => .bind memWrite_canonical fun _ => .bind advance_canonical fun _ => advance_canonical

theorem cmpsOnce_canonical {w : Nat} : Canonical (cmpsOnce w) :=
  .get_bind fun _ _ => .bind memRead_canonical fun _ => .bind memRead_canonical fun _ => .bind modifyFlags_canonical fun _ =>
      .bind advance_canonical fun _ => advance_canonical

theorem stosOnce_canonical {w : Nat} : Canonical (stosOnce w) :=
  .get_bind fun _ _ => .bind readReg_canonical fun _ => .bind memWrite_canonical fun _ => advance_canonical

theorem lodsOnce_canonical {w : Nat} : Canonical (lodsOnce w) :=
  .get_bind fun _ _ => .bind memRead_canonical fun _ => .bind writeReg_canonical fun _ => advance_canonical

theorem scasOnce_canonical {w : Nat} : Canonical (scasOnce w) :=
  .get_bind fun _ _ => .bind memRead_canonical fun _ => .bind readReg_canonical fun _ => .bind modifyFlags_canonical fun _ =>
      advance_canonical

theorem noteLastIo_canonical : Canonical noteLastIo := .modify fun _ h => h

theorem portDx_canonical : Canonical portDx := readReg_canonical

theorem ioPermitted_canonical {port : Half} {n : Nat} : Canonical (ioPermitted port n) :=
  .get_bind fun _ _ => .ite .pure (.bind (require_canonical .stop) fun _ => .bind (require_canonical .stop) fun _ =>
      .bind tssRead16_canonical fun _ => .bind (require_canonical .stop) fun _ => .bind tssRead16_canonical fun _ =>
      require_canonical .stop)

theorem noteIo_canonical {port : Half} {n : Nat} : Canonical (noteIo port n) := .get_bind fun _ _ => noteRange_canonical

theorem ioRead_canonical {port : Half} {n : Nat} : Canonical (ioRead port n) := by
  refine .get_bind fun _ hs => ?_
  split
  · exact .bind (.set hs) fun _ => .bind emit_canonical fun _ => .bind noteIo_canonical fun _ => .pure
  · exact .bind draw_canonical fun _ => .bind emit_canonical fun _ => .bind noteIo_canonical fun _ => .pure

theorem insOnce_canonical {w : Nat} : Canonical (insOnce w) :=
  .bind portDx_canonical fun _ => .bind ioPermitted_canonical fun _ => .get_bind fun _ _ => .bind access_canonical fun _ =>
      .bind ioRead_canonical fun _ => .bind store_canonical fun _ => advance_canonical

theorem ioWrite_canonical {port : Half} {n v : Nat} : Canonical (ioWrite port n v) := .bind emit_canonical fun _ => noteIo_canonical

theorem outsOnce_canonical {w : Nat} : Canonical (outsOnce w) :=
  .bind portDx_canonical fun _ => .bind ioPermitted_canonical fun _ => .get_bind fun _ _ => .bind memRead_canonical fun _ =>
      .bind ioWrite_canonical fun _ => advance_canonical

theorem setIf_canonical {v : Bool} : Canonical (setIf v) :=
  .get_bind fun _ _ => .bind (require_canonical .stop) fun _ => modifyFlags_canonical

theorem protOnly_canonical : Canonical protOnly := .get_bind fun _ _ => require_canonical .stop

theorem storeSel_canonical {rm : RM} {v : Half} : Canonical (storeSel rm v) := by
  refine .get_bind fun _ _ => ?_
  split
  · exact writeReg_canonical
  · exact writeRM_canonical

theorem privileged_canonical : Canonical privileged := .get_bind fun _ _ => require_canonical .stop

theorem loadLdt_canonical {sel : Half} : Canonical (loadLdt sel) :=
  .ite (.modify fun _ h => h) (.bind (require_canonical .stop) fun _ => .bind (readDesc_canonical .stop) fun _ =>
      .bind (require_canonical .stop) fun _ => .bind (require_canonical .stop) fun _ => .modify fun _ h => h)

theorem loadTr_canonical {sel : Half} : Canonical (loadTr sel) :=
  .bind (require_canonical .stop) fun _ => .bind (readDesc_canonical .stop) fun _ => .bind (require_canonical .stop) fun _ =>
      .bind (require_canonical .stop) fun _ => .bind linAddrs_canonical fun _ => .bind setBits_canonical fun _ => .modify fun _ h => h

theorem probe_canonical {sel : Half} : Canonical (probe sel) := .get_bind fun _ _ => .ite .pure (.bind readDescAt_canonical fun _ => .pure)

theorem setZf_canonical {b : Bool} : Canonical (setZf b) := modifyFlags_canonical

theorem verify_canonical {ok : Desc → Bool} {rm : RM} : Canonical (verify ok rm) :=
  .bind protOnly_canonical fun _ => .bind readRM_canonical fun _ => .get_bind fun _ _ => .bind probe_canonical fun _ => setZf_canonical

theorem pseudoAccess_canonical {m : MemOp} {k : Kind} : Canonical (pseudoAccess m k) := .get_bind fun _ _ => accessIf_canonical

theorem storeTable_canonical {m : MemOp} {t : TableReg} : Canonical (storeTable m t) :=
  .bind pseudoAccess_canonical fun _ => store_canonical

theorem readTable_canonical {m : MemOp} : Canonical (readTable m) :=
  .bind privileged_canonical fun _ => .bind pseudoAccess_canonical fun _ => .bind load_canonical fun _ => .get_bind fun _ _ => .pure

theorem loadMsw_canonical {v : Half} : Canonical (loadMsw v) := .get_bind fun _ hs => .bind (.set hs) fun _ => .ite tlbFlush_canonical .pure

theorem invalidate_canonical {m : MemOp} : Canonical (invalidate m) := .bind privileged_canonical fun _ => .get_bind fun _ hs => .set hs

theorem validate_canonical {ok : Desc → Bool} {val : Desc → M Word} {rm : RM} {r : Reg} {w : Nat}
    (hval : ∀ a, Canonical (val a)) : Canonical (validate ok val rm r w) := by
  refine .bind protOnly_canonical fun _ => .bind readRM_canonical fun _ => .get_bind fun _ _ => .bind probe_canonical fun _ => ?_
  split
  · exact setZf_canonical
  · exact .ite (.bind (hval _) fun _ => .bind setZf_canonical fun _ => writeReg_canonical) setZf_canonical

theorem larValue_canonical {d : Desc} : Canonical (larValue d) := .bind draw_canonical fun _ => .pure

theorem readCr_canonical {n : BitVec 3} {r : Reg} : Canonical (readCr n r) :=
  .bind privileged_canonical fun _ => .bind (require_canonical .stop) fun _ => .get_bind fun _ _ => writeReg_canonical

theorem writeCr0_canonical {v : Word} : Canonical (writeCr0 v) :=
  .bind (require_canonical .stop) fun _ => .get_bind fun _ hs => .bind (.set hs) fun _ => .ite_then tlbFlush_canonical (fun _ =>
      .ite (.bind (require_canonical .stop) fun _ => modifyCur_canonical) .pure)

theorem writeCr4_canonical {v : Word} : Canonical (writeCr4 v) :=
  .bind (require_canonical .stop) fun _ => .ite_else .stop (fun _ => .get_bind fun _ hs => .bind (.set hs) fun _ =>
      .ite tlbFlush_canonical .pure)

theorem writeCr_canonical {n : BitVec 3} {r : Reg} : Canonical (writeCr n r) := by
  refine .bind privileged_canonical fun _ => .bind (require_canonical .stop) fun _ => .bind readReg_canonical fun _ => ?_
  split
  · exact writeCr0_canonical
  · exact .modify fun _ h => h
  · exact .bind (.modify fun _ h => h) fun _ => tlbFlush_canonical
  · exact writeCr4_canonical

theorem checkDr_canonical {n : BitVec 3} : Canonical (checkDr n) :=
  .bind privileged_canonical fun _ => .get_bind fun _ _ => .bind (require_canonical .stop) fun _ => require_canonical .stop

theorem readDr_canonical {n : BitVec 3} {r : Reg} : Canonical (readDr n r) :=
  .bind checkDr_canonical fun _ => .get_bind fun _ _ => writeReg_canonical

theorem writeDr_canonical {n : BitVec 3} {r : Reg} : Canonical (writeDr n r) :=
  .bind checkDr_canonical fun _ => .bind readReg_canonical fun _ => .modify fun _ h => h

theorem writeMsr_canonical : Canonical writeMsr := by
  refine .bind privileged_canonical fun _ => .get_bind fun _ hs => ?_
  dsimp only
  split
  · exact .stop
  · exact .ite (.set hs) (.set hs)

theorem readTsc_canonical : Canonical readTsc :=
  .get_bind fun _ _ => .bind (require_canonical .stop) fun _ => .bind writeReg_canonical fun _ => writeReg_canonical

theorem readMsr_canonical : Canonical readMsr := by
  refine .bind privileged_canonical fun _ => .get_bind fun _ _ => ?_
  split
  · exact .stop
  · exact .bind writeReg_canonical fun _ => writeReg_canonical

theorem dumpWord_canonical {base off : Word} : Canonical (dumpWord base off) := physRead32_canonical

theorem dumpHalf_canonical {base off : Word} : Canonical (dumpHalf base off) := .bind physRead_canonical fun _ => .pure

theorem readSaved_canonical {base : Word} : Canonical (readSaved base) :=
  .bind dumpWord_canonical fun _ => .bind dumpWord_canonical fun _ => .bind dumpWord_canonical fun _ => .bind dumpWord_canonical fun _ =>
      .bind dumpWord_canonical fun _ => .bind dumpWord_canonical fun _ => .bind dumpWord_canonical fun _ =>
      .bind dumpWord_canonical fun _ => .bind dumpWord_canonical fun _ => .bind dumpWord_canonical fun _ =>
      .bind dumpWord_canonical fun _ => .bind dumpWord_canonical fun _ => .bind dumpWord_canonical fun _ =>
      .bind dumpHalf_canonical fun _ => .bind dumpHalf_canonical fun _ => .bind dumpHalf_canonical fun _ =>
      .bind dumpHalf_canonical fun _ => .bind dumpHalf_canonical fun _ => .bind dumpHalf_canonical fun _ =>
      .bind dumpHalf_canonical fun _ => .bind dumpHalf_canonical fun _ => .pure

theorem haltRestart_canonical {halted : Bool} {slot : Half} : Canonical (haltRestart halted slot) :=
  .ite .pure (.ite (.ite .pure .stop) (.bind drawBool_canonical fun _ => .pure))

theorem resume_canonical : Canonical resume :=
  .get_bind fun _ _ => .bind (require_canonical .stop) fun _ => .bind privileged_canonical fun _ => .bind dumpWord_canonical fun _ =>
      .bind dumpWord_canonical fun _ => .ite_then .stop (fun _ => .bind (quietly_canonical readDump_canonical) fun _ =>
      .ite_else .stop (fun _ => .bind readSaved_canonical fun _ => .bind dumpHalf_canonical fun _ => .bind dumpHalf_canonical fun _ =>
      .ite_else .stop (fun _ => .bind haltRestart_canonical fun _ => .bind (.modify fun _ h => h) fun _ =>
      .bind modifyCur_canonical fun _ => .ite emit_canonical .pure)))

theorem halt_canonical : Canonical halt := .bind privileged_canonical fun _ => .bind (.modify fun _ h => h) fun _ => emit_canonical

theorem adjustRpl_canonical {rm : RM} {r : Reg} : Canonical (adjustRpl rm r) :=
  .bind protOnly_canonical fun _ => .bind locate_canonical fun _ => .bind place_get_canonical fun _ => .bind readReg_canonical fun _ =>
      .ite (.bind setZf_canonical fun _ => place_put_canonical) setZf_canonical

theorem inPort_canonical {port : M Half} {w : Nat} (hport : Canonical port) : Canonical (inPort port w) :=
  .bind noteLastIo_canonical fun _ => .bind hport fun _ => .bind ioPermitted_canonical fun _ => .bind ioRead_canonical fun _ =>
      writeReg_canonical

theorem outPort_canonical {port : M Half} {w : Nat} (hport : Canonical port) : Canonical (outPort port w) :=
  .bind noteLastIo_canonical fun _ => .bind hport fun _ => .bind ioPermitted_canonical fun _ => .bind readReg_canonical fun _ =>
      ioWrite_canonical

theorem escCheck_canonical {waiting : Bool} : Canonical (escCheck waiting) :=
  .get_bind fun _ _ => .bind (require_canonical .stop) fun _ => .ite reportPending_canonical .pure

theorem pointersMem_canonical {m : MemOp} : Canonical (pointersMem m) := .modify fun _ h => h

theorem modifyFpu_canonical {f : Fpu → Fpu} : Canonical (modifyFpu f) := .modify fun _ h => h

theorem summarise_canonical : Canonical summarise := modifyFpu_canonical

theorem escMem_canonical {m : MemOp} {n al : Nat} {k : Kind} {body : List Word → M Unit}
    (hbody : ∀ a, Canonical (body a)) : Canonical (escMem m n al k body) :=
  .bind escCheck_canonical fun _ => .bind pointersMem_canonical fun _ => .bind memAccess_canonical fun _ => .bind (hbody _) fun _ =>
      summarise_canonical

theorem modifySw_canonical {f : Fsw → Fsw} : Canonical (modifySw f) := modifyFpu_canonical

theorem drawC023_canonical : Canonical drawC023 :=
  .bind drawBool_canonical fun _ => .bind drawBool_canonical fun _ => .bind drawBool_canonical fun _ => modifySw_canonical

theorem noteNum_canonical {c : Bool} {n : Machine.Num} : Canonical (noteNum c n) := modifySw_canonical

theorem deliverWith_canonical {c : Bool} {n : Machine.Num} {k : Ext → M Unit} (hk : ∀ a, Canonical (k a)) : Canonical (deliverWith c n k) := by
  refine .bind noteNum_canonical fun _ => ?_
  split
  · exact hk _
  · exact .pure

theorem pushSt_canonical {v : Ext} : Canonical (pushSt v) := modifyFpu_canonical

theorem stackFault_canonical {ovf : Bool} {k : M Unit} (hk : Canonical k) : Canonical (stackFault ovf k) :=
  .bind modifySw_canonical fun _ => .get_bind fun _ _ => .ite hk .pure

theorem loadReal_canonical {v : Ext × Bool} : Canonical (loadReal v) :=
  .get_bind fun _ _ => .ite (.bind (deliverWith_canonical (fun _ => pushSt_canonical)) fun _ =>
      drawC023_canonical) (.bind (stackFault_canonical pushSt_canonical) fun _ => drawC023_canonical)

theorem fldSingle_canonical {ps : List Word} : Canonical (fldSingle ps) := .bind load_canonical fun _ => loadReal_canonical

theorem fldDouble_canonical {ps : List Word} : Canonical (fldDouble ps) := .bind load_canonical fun _ => loadReal_canonical

theorem setC1_canonical {b : Bool} : Canonical (setC1 b) := modifySw_canonical

theorem loadSt_canonical {v : Ext} : Canonical (loadSt v) :=
  .get_bind fun _ _ => .ite (.bind pushSt_canonical fun _ => setC1_canonical) (stackFault_canonical pushSt_canonical)

theorem fldPlain_canonical {f : Nat → Ext} {ps : List Word} : Canonical (fldPlain f ps) :=
  .bind load_canonical fun _ => .bind loadSt_canonical fun _ => drawC023_canonical

theorem pointersReg_canonical : Canonical pointersReg := .bind draw_canonical fun _ => .bind draw_canonical fun _ => .modify fun _ h => h

theorem escReg_canonical {body : M Unit} (hbody : Canonical body) : Canonical (escReg body) :=
  .bind escCheck_canonical fun _ => .bind pointersReg_canonical fun _ => .bind hbody fun _ => summarise_canonical

theorem fldReg_canonical {i : BitVec 3} : Canonical (fldReg i) :=
  .get_bind fun _ _ => .ite_both (stackFault_canonical pushSt_canonical) loadSt_canonical (fun _ => drawC023_canonical)

theorem popSt_canonical {n : Nat} : Canonical (popSt n) := modifyFpu_canonical

theorem storeMem_canonical {plain : Bool} {f : Half → Ext → Narrow} {indef pops : Nat} {ps : List Word}
    : Canonical (storeMem plain f indef pops ps) := by
  refine .bind drawBool_canonical fun _ => .get_bind fun _ _ => .ite (.bind (stackFault_canonical (.bind store_canonical fun _ =>
      popSt_canonical)) fun _ => drawC023_canonical) (.bind modifySw_canonical fun _ => ?_)
  split
  · exact .bind store_canonical fun _ => .bind popSt_canonical fun _ => drawC023_canonical
  · exact drawC023_canonical

theorem setSt_canonical {i : BitVec 3} {v : Ext} : Canonical (setSt i v) := modifyFpu_canonical

theorem storeReg_canonical {i : BitVec 3} {pops : Nat} : Canonical (storeReg i pops) :=
  .bind drawBool_canonical fun _ => .get_bind fun _ _ => .ite (.bind (stackFault_canonical (.bind setSt_canonical fun _ =>
      popSt_canonical)) fun _ => drawC023_canonical) (.bind setSt_canonical fun _ => .bind popSt_canonical fun _ =>
      .bind setC1_canonical fun _ => drawC023_canonical)

theorem fxch_canonical {i : BitVec 3} : Canonical (fxch i) :=
  .get_bind fun _ _ => .ite (.bind (stackFault_canonical (.bind setSt_canonical fun _ => setSt_canonical)) fun _ =>
      drawC023_canonical) (.bind (.bind setSt_canonical fun _ => setSt_canonical) fun _ => .bind setC1_canonical fun _ =>
      drawC023_canonical)

theorem fbld_canonical {ps : List Word} : Canonical (fbld ps) :=
  .bind load_canonical fun _ => .bind draw_canonical fun _ => .bind drawBool_canonical fun _ => .get_bind fun _ _ =>
      .bind loadSt_canonical fun _ => .ite_then modifyFpu_canonical (fun _ => drawC023_canonical)

theorem fbstp_canonical {ps : List Word} : Canonical (fbstp ps) := .bind draw_canonical fun _ => storeMem_canonical

theorem checkPc_canonical : Canonical checkPc := .get_bind fun _ _ => .ite .stop .pure

theorem deliverNum_canonical {n : Machine.Num} {k : Ext → M Unit} (hk : ∀ a, Canonical (k a)) : Canonical (deliverNum n k) :=
  .bind drawBool_canonical fun _ => deliverWith_canonical hk

theorem arithWith_canonical {op : FOp} {d : BitVec 3} {src : Ext} {den ready : Bool} {pops : Nat}
    : Canonical (arithWith op d src den ready pops) :=
  .bind checkPc_canonical fun _ => .get_bind fun _ _ => .bind drawBool_canonical fun _ => .ite_both (deliverNum_canonical (fun _ =>
      .bind setSt_canonical fun _ => popSt_canonical)) (stackFault_canonical (.bind setSt_canonical fun _ => popSt_canonical)) (fun _ =>
      drawC023_canonical)

theorem arithSingle_canonical {op : FOp} {ps : List Word} : Canonical (arithSingle op ps) :=
  .bind load_canonical fun _ => arithWith_canonical

theorem arithDouble_canonical {op : FOp} {ps : List Word} : Canonical (arithDouble op ps) :=
  .bind load_canonical fun _ => arithWith_canonical

theorem arithReg_canonical {op : FOp} {d i : BitVec 3} {pops : Nat} : Canonical (arithReg op d i pops) :=
  .get_bind fun _ _ => arithWith_canonical

theorem arithInt_canonical {op : FOp} {n : Nat} {ps : List Word} : Canonical (arithInt op n ps) :=
  .bind load_canonical fun _ => arithWith_canonical

theorem setOrder_canonical {c3 c2 c0 : Bool} : Canonical (setOrder c3 c2 c0) := modifySw_canonical

theorem compareWith_canonical {quiet : Bool} {src : Ext} {den ready : Bool} {pops : Nat}
    : Canonical (compareWith quiet src den ready pops) := by
  refine .get_bind fun _ _ => .ite (stackFault_canonical (.bind setOrder_canonical fun _ =>
      popSt_canonical)) (.bind modifySw_canonical fun _ => .ite .pure (.bind modifySw_canonical fun _ =>
      .ite setC1_canonical (.ite (.bind setOrder_canonical fun _ => popSt_canonical) ?_)))
  split
  · exact .bind setOrder_canonical fun _ => popSt_canonical

theorem compareSingle_canonical {pops : Nat} {ps : List Word} : Canonical (compareSingle pops ps) :=
  .bind load_canonical fun _ => compareWith_canonical

theorem compareDouble_canonical {pops : Nat} {ps : List Word} : Canonical (compareDouble pops ps) :=
  .bind load_canonical fun _ => compareWith_canonical

theorem compareReg_canonical {quiet : Bool} {i : BitVec 3} {pops : Nat} : Canonical (compareReg quiet i pops) :=
  .get_bind fun _ _ => compareWith_canonical

theorem compareInt_canonical {n pops : Nat} {ps : List Word} : Canonical (compareInt n pops ps) :=
  .bind load_canonical fun _ => compareWith_canonical

theorem fxam_canonical : Canonical fxam := by
  refine .get_bind fun _ _ => ?_
  split
  · exact modifySw_canonical

theorem unary_canonical {f : Half → Ext → Machine.Num} : Canonical (unary f) :=
  .get_bind fun _ _ => .ite_both (stackFault_canonical setSt_canonical) (deliverNum_canonical (fun _ => setSt_canonical)) (fun _ =>
      drawC023_canonical)

theorem fsqrt_canonical : Canonical fsqrt := .bind checkPc_canonical fun _ => unary_canonical

theorem fscale_canonical : Canonical fscale :=
  .get_bind fun _ _ => .bind drawBool_canonical fun _ => .bind drawBool_canonical fun _ => .bind drawBool_canonical fun _ =>
      .ite_both (stackFault_canonical setSt_canonical) (deliverNum_canonical (fun _ => setSt_canonical)) (fun _ => drawC023_canonical)

theorem fxtract_canonical : Canonical fxtract := by
  refine .get_bind fun _ _ => .ite (.bind (stackFault_canonical (.bind setSt_canonical fun _ => pushSt_canonical)) fun _ =>
      drawC023_canonical) (.ite (.bind (stackFault_canonical (.bind setSt_canonical fun _ => pushSt_canonical)) fun _ =>
      drawC023_canonical) ?_)
  split
  · exact .bind (deliverWith_canonical (fun _ => .bind setSt_canonical fun _ => pushSt_canonical)) fun _ => drawC023_canonical
  · split
    · exact .bind (deliverWith_canonical (fun _ => .bind setSt_canonical fun _ => pushSt_canonical)) fun _ => drawC023_canonical

theorem fprem_canonical {near : Bool} : Canonical (fprem near) :=
  .get_bind fun _ _ => .bind drawBool_canonical fun _ => .bind drawBool_canonical fun _ => .bind drawBool_canonical fun _ =>
      .bind drawBool_canonical fun _ => .ite (stackFault_canonical (.bind setSt_canonical fun _ =>
      modifySw_canonical)) (deliverWith_canonical (fun _ => .bind setSt_canonical fun _ => modifySw_canonical))

theorem signOp_canonical {f : Bool → Bool} : Canonical (signOp f) :=
  .get_bind fun _ _ => .ite (.bind (stackFault_canonical setSt_canonical) fun _ => drawC023_canonical) (.bind setSt_canonical fun _ =>
      .bind setC1_canonical fun _ => drawC023_canonical)

theorem fldConst_canonical {c : Const} : Canonical (fldConst c) := .get_bind fun _ _ => .bind loadSt_canonical fun _ => drawC023_canonical

theorem drawC03_canonical : Canonical drawC03 := .bind drawBool_canonical fun _ => .bind drawBool_canonical fun _ => modifySw_canonical

theorem setC2_canonical {b : Bool} : Canonical (setC2 b) := modifySw_canonical

theorem outOfRange_canonical : Canonical outOfRange := .bind drawBool_canonical fun _ => .bind setC1_canonical fun _ => setC2_canonical

theorem transNum_canonical {u : RoundedReal} {c : TCase} {den : Bool} : Canonical (transNum u c den) :=
  .get_bind fun _ _ => .bind draw_canonical fun _ => .bind drawBool_canonical fun _ => .bind drawBool_canonical fun _ => .pure

theorem trig_canonical {zero : Ext → Ext} : Canonical (trig zero) := by
  refine .get_bind fun _ _ => .ite (.bind (stackFault_canonical (.bind setSt_canonical fun _ => setC2_canonical)) fun _ =>
      drawC03_canonical) ?_
  split
  · exact .bind (deliverNum_canonical (fun _ => .bind setSt_canonical fun _ => setC2_canonical)) fun _ => drawC03_canonical
  · exact .ite (.bind outOfRange_canonical fun _ => drawC03_canonical) (.bind transNum_canonical fun _ =>
        .bind (deliverNum_canonical (fun _ => .bind setSt_canonical fun _ => setC2_canonical)) fun _ => drawC03_canonical)

theorem trigPush_canonical {second : Ext → M Machine.Num} (hsecond : ∀ a, Canonical (second a)) : Canonical (trigPush second) := by
  refine .get_bind fun _ hs => .ite (.bind (stackFault_canonical (.bind setSt_canonical fun _ => .bind pushSt_canonical fun _ =>
      setC2_canonical)) fun _ => drawC03_canonical) (.ite (.bind (stackFault_canonical (.bind setSt_canonical fun _ =>
      .bind pushSt_canonical fun _ => setC2_canonical)) fun _ => drawC03_canonical) ?_)
  split
  · exact .bind (deliverNum_canonical (fun _ => .bind setSt_canonical fun _ => .bind pushSt_canonical fun _ => setC2_canonical)) fun _ =>
        drawC03_canonical
  · exact .ite (.bind outOfRange_canonical fun _ => drawC03_canonical) (.bind transNum_canonical fun _ => .bind (hsecond _) fun _ =>
        .bind (deliverNum_canonical (fun _ => .bind setSt_canonical fun _ => .bind pushSt_canonical fun _ => setC2_canonical)) fun _ =>
        drawC03_canonical)

theorem cosOf_canonical {x : Ext} : Canonical (cosOf x) := .get_bind fun _ _ => transNum_canonical

theorem oneOf_canonical {x : Ext} : Canonical (oneOf x) := .pure

theorem transPop_canonical {case : Ext → Ext → TCase} : Canonical (transPop case) := by
  refine .get_bind fun _ _ => .bind drawBool_canonical fun _ => .ite (.bind (stackFault_canonical (.bind setSt_canonical fun _ =>
      popSt_canonical)) fun _ => drawC023_canonical) ?_
  split
  · exact .bind (deliverNum_canonical (fun _ => .bind setSt_canonical fun _ => popSt_canonical)) fun _ => drawC023_canonical
  · exact .bind transNum_canonical fun _ => .bind (deliverNum_canonical (fun _ => .bind setSt_canonical fun _ => popSt_canonical)) fun _ =>
        drawC023_canonical

theorem f2xm1_canonical : Canonical f2xm1 := by
  refine .get_bind fun _ _ => .ite (.bind (stackFault_canonical setSt_canonical) fun _ => drawC023_canonical) ?_
  split
  · exact .bind (deliverNum_canonical (fun _ => setSt_canonical)) fun _ => drawC023_canonical
  · exact .bind transNum_canonical fun _ => .bind (deliverNum_canonical (fun _ => setSt_canonical)) fun _ => drawC023_canonical

theorem fninitOp_canonical : Canonical fninitOp := .bind escCheck_canonical fun _ => modifyFpu_canonical

theorem drawCc_canonical : Canonical drawCc := .bind drawC023_canonical fun _ => .bind drawBool_canonical fun _ => modifySw_canonical

theorem fnclexOp_canonical : Canonical fnclexOp := .bind escCheck_canonical fun _ => .bind modifySw_canonical fun _ => drawCc_canonical

theorem fnstswAxOp_canonical : Canonical fnstswAxOp :=
  .bind escCheck_canonical fun _ => .get_bind fun _ _ => .bind writeReg_canonical fun _ => drawCc_canonical

theorem moveTop_canonical {d : BitVec 3} : Canonical (moveTop d) :=
  .bind modifyFpu_canonical fun _ => .bind drawC023_canonical fun _ => setC1_canonical

theorem legacyNop_canonical : Canonical legacyNop := .bind escCheck_canonical fun _ => pointersReg_canonical

theorem fldcwOp_canonical {m : MemOp} : Canonical (fldcwOp m) :=
  .bind escCheck_canonical fun _ => .bind readMem_canonical fun _ => .bind modifyFpu_canonical fun _ => .bind drawCc_canonical fun _ =>
      summarise_canonical

theorem writeMem_canonical {m : MemOp} {n al v : Nat} : Canonical (writeMem m n al v) := .bind memAccess_canonical fun _ => store_canonical

theorem storeWord_canonical {m : MemOp} {f : Fpu → Half} : Canonical (storeWord m f) :=
  .bind escCheck_canonical fun _ => .get_bind fun _ _ => .bind writeMem_canonical fun _ => drawCc_canonical

theorem storeEnv_canonical {ps : List Word} : Canonical (storeEnv ps) :=
  .bind draw_canonical fun _ => .bind draw_canonical fun _ => .bind draw_canonical fun _ => .bind draw_canonical fun _ =>
      .bind draw_canonical fun _ => .get_bind fun _ _ => storeFields_canonical

theorem fnstenvOp_canonical {m : MemOp} : Canonical (fnstenvOp m) :=
  .bind escCheck_canonical fun _ => .get_bind fun _ _ => .bind memAccess_canonical fun _ => .bind storeEnv_canonical fun _ =>
      .bind modifyFpu_canonical fun _ => .bind drawCc_canonical fun _ => summarise_canonical

theorem loadEnv_canonical {ps : List Word} : Canonical (loadEnv ps) :=
  .get_bind fun _ _ => .bind load_canonical fun _ => .bind draw_canonical fun _ => modifyFpu_canonical

theorem fldenvOp_canonical {m : MemOp} : Canonical (fldenvOp m) :=
  .bind escCheck_canonical fun _ => .get_bind fun _ _ => .bind memAccess_canonical fun _ => .bind loadEnv_canonical fun _ =>
      summarise_canonical

theorem fnsaveOp_canonical {m : MemOp} : Canonical (fnsaveOp m) :=
  .bind escCheck_canonical fun _ => .get_bind fun _ _ => .bind memAccess_canonical fun _ => .bind storeEnv_canonical fun _ =>
      .bind storeFields_canonical fun _ => modifyFpu_canonical

theorem frstorOp_canonical {m : MemOp} : Canonical (frstorOp m) :=
  .bind escCheck_canonical fun _ => .get_bind fun _ _ => .bind memAccess_canonical fun _ => .bind loadEnv_canonical fun _ =>
      .bind load_canonical fun _ => .bind modifyFpu_canonical fun _ => summarise_canonical

end Sys2Proof.Laws

end

section
/-! Every instruction is the run of a canonical computation; so every step keeps memory canonical, and ends with an empty latch
(20_memory.md R200, R210; 00_scope.md R11, R26). -/

namespace Sys2Proof.Laws

open Sys2Proof Sys2Proof.Machine Sys2Proof.Claims

/-- An instruction is the run of a canonical computation, after a WAIT or not. -/
inductive RunsCanonical (i : Instr) : Prop
  | run {body : M Unit} (meaning : State → Host.Outcome State Fault Refusal) (hi : ∀ s, exec i s = meaning s)
      (h : ∀ s, meaning s = runInstr body s) (hb : Canonical body)
  | wait {body : M Unit} (meaning : State → Host.Outcome State Fault Refusal) (hi : ∀ s, exec i s = meaning s)
      (h : ∀ s, meaning s = waitThen body s) (hb : Canonical body)

/-- EVERY INSTRUCTION but the prefixes, which no step executes. -/
theorem runsCanonical (i : Instr) (hi : prefixEffect i = none) : RunsCanonical i := by
  cases i with
  | addRm8R8 rm r => exact .run (execAddRm8R8 rm r) (fun _ => rfl) (fun _ => rfl) (aluRmR_canonical (fun _ _ _ => aluAdd_canonical))
  | addRmR rm r => exact .run (execAddRmR rm r) (fun _ => rfl) (fun _ => rfl) (atOs_canonical (fun _ => aluRmR_canonical (fun _ _ _ =>
    aluAdd_canonical)))
  | addR8Rm8 rm r => exact .run (execAddR8Rm8 rm r) (fun _ => rfl) (fun _ => rfl) (aluRRm_canonical (fun _ _ _ => aluAdd_canonical))
  | addRRm rm r => exact .run (execAddRRm rm r) (fun _ => rfl) (fun _ => rfl) (atOs_canonical (fun _ => aluRRm_canonical (fun _ _ _ =>
    aluAdd_canonical)))
  | addAlImm8 imm => exact .run (execAddAlImm8 imm) (fun _ => rfl) (fun _ => rfl) (aluAcc_canonical (fun _ _ _ => aluAdd_canonical))
  | addEaxImm imm => exact .run (execAddEaxImm imm) (fun _ => rfl) (fun _ => rfl) (atOs_canonical (fun _ => aluAcc_canonical (fun _ _ _ =>
    aluAdd_canonical)))
  | addRm8Imm8 rm imm => exact .run (execAddRm8Imm8 rm imm) (fun _ => rfl) (fun _ => rfl) (aluRmImm_canonical (fun _ _ _ =>
    aluAdd_canonical))
  | addRmImm rm imm => exact .run (execAddRmImm rm imm) (fun _ => rfl) (fun _ => rfl) (atOs_canonical (fun _ =>
    aluRmImm_canonical (fun _ _ _ => aluAdd_canonical)))
  | addRmSImm8 rm imm => exact .run (execAddRmSImm8 rm imm) (fun _ => rfl) (fun _ => rfl) (atOs_canonical (fun _ =>
    aluRmImm_canonical (fun _ _ _ => aluAdd_canonical)))
  | orRm8R8 rm r => exact .run (execOrRm8R8 rm r) (fun _ => rfl) (fun _ => rfl) (aluRmR_canonical (fun _ _ _ => aluOr_canonical))
  | orRmR rm r => exact .run (execOrRmR rm r) (fun _ => rfl) (fun _ => rfl) (atOs_canonical (fun _ => aluRmR_canonical (fun _ _ _ =>
    aluOr_canonical)))
  | orR8Rm8 rm r => exact .run (execOrR8Rm8 rm r) (fun _ => rfl) (fun _ => rfl) (aluRRm_canonical (fun _ _ _ => aluOr_canonical))
  | orRRm rm r => exact .run (execOrRRm rm r) (fun _ => rfl) (fun _ => rfl) (atOs_canonical (fun _ => aluRRm_canonical (fun _ _ _ =>
    aluOr_canonical)))
  | orAlImm8 imm => exact .run (execOrAlImm8 imm) (fun _ => rfl) (fun _ => rfl) (aluAcc_canonical (fun _ _ _ => aluOr_canonical))
  | orEaxImm imm => exact .run (execOrEaxImm imm) (fun _ => rfl) (fun _ => rfl) (atOs_canonical (fun _ => aluAcc_canonical (fun _ _ _ =>
    aluOr_canonical)))
  | orRm8Imm8 rm imm => exact .run (execOrRm8Imm8 rm imm) (fun _ => rfl) (fun _ => rfl) (aluRmImm_canonical (fun _ _ _ => aluOr_canonical))
  | orRmImm rm imm => exact .run (execOrRmImm rm imm) (fun _ => rfl) (fun _ => rfl) (atOs_canonical (fun _ =>
    aluRmImm_canonical (fun _ _ _ => aluOr_canonical)))
  | orRmSImm8 rm imm => exact .run (execOrRmSImm8 rm imm) (fun _ => rfl) (fun _ => rfl) (atOs_canonical (fun _ =>
    aluRmImm_canonical (fun _ _ _ => aluOr_canonical)))
  | adcRm8R8 rm r => exact .run (execAdcRm8R8 rm r) (fun _ => rfl) (fun _ => rfl) (aluRmR_canonical (fun _ _ _ => aluAdc_canonical))
  | adcRmR rm r => exact .run (execAdcRmR rm r) (fun _ => rfl) (fun _ => rfl) (atOs_canonical (fun _ => aluRmR_canonical (fun _ _ _ =>
    aluAdc_canonical)))
  | adcR8Rm8 rm r => exact .run (execAdcR8Rm8 rm r) (fun _ => rfl) (fun _ => rfl) (aluRRm_canonical (fun _ _ _ => aluAdc_canonical))
  | adcRRm rm r => exact .run (execAdcRRm rm r) (fun _ => rfl) (fun _ => rfl) (atOs_canonical (fun _ => aluRRm_canonical (fun _ _ _ =>
    aluAdc_canonical)))
  | adcAlImm8 imm => exact .run (execAdcAlImm8 imm) (fun _ => rfl) (fun _ => rfl) (aluAcc_canonical (fun _ _ _ => aluAdc_canonical))
  | adcEaxImm imm => exact .run (execAdcEaxImm imm) (fun _ => rfl) (fun _ => rfl) (atOs_canonical (fun _ => aluAcc_canonical (fun _ _ _ =>
    aluAdc_canonical)))
  | adcRm8Imm8 rm imm => exact .run (execAdcRm8Imm8 rm imm) (fun _ => rfl) (fun _ => rfl) (aluRmImm_canonical (fun _ _ _ =>
    aluAdc_canonical))
  | adcRmImm rm imm => exact .run (execAdcRmImm rm imm) (fun _ => rfl) (fun _ => rfl) (atOs_canonical (fun _ =>
    aluRmImm_canonical (fun _ _ _ => aluAdc_canonical)))
  | adcRmSImm8 rm imm => exact .run (execAdcRmSImm8 rm imm) (fun _ => rfl) (fun _ => rfl) (atOs_canonical (fun _ =>
    aluRmImm_canonical (fun _ _ _ => aluAdc_canonical)))
  | sbbRm8R8 rm r => exact .run (execSbbRm8R8 rm r) (fun _ => rfl) (fun _ => rfl) (aluRmR_canonical (fun _ _ _ => aluSbb_canonical))
  | sbbRmR rm r => exact .run (execSbbRmR rm r) (fun _ => rfl) (fun _ => rfl) (atOs_canonical (fun _ => aluRmR_canonical (fun _ _ _ =>
    aluSbb_canonical)))
  | sbbR8Rm8 rm r => exact .run (execSbbR8Rm8 rm r) (fun _ => rfl) (fun _ => rfl) (aluRRm_canonical (fun _ _ _ => aluSbb_canonical))
  | sbbRRm rm r => exact .run (execSbbRRm rm r) (fun _ => rfl) (fun _ => rfl) (atOs_canonical (fun _ => aluRRm_canonical (fun _ _ _ =>
    aluSbb_canonical)))
  | sbbAlImm8 imm => exact .run (execSbbAlImm8 imm) (fun _ => rfl) (fun _ => rfl) (aluAcc_canonical (fun _ _ _ => aluSbb_canonical))
  | sbbEaxImm imm => exact .run (execSbbEaxImm imm) (fun _ => rfl) (fun _ => rfl) (atOs_canonical (fun _ => aluAcc_canonical (fun _ _ _ =>
    aluSbb_canonical)))
  | sbbRm8Imm8 rm imm => exact .run (execSbbRm8Imm8 rm imm) (fun _ => rfl) (fun _ => rfl) (aluRmImm_canonical (fun _ _ _ =>
    aluSbb_canonical))
  | sbbRmImm rm imm => exact .run (execSbbRmImm rm imm) (fun _ => rfl) (fun _ => rfl) (atOs_canonical (fun _ =>
    aluRmImm_canonical (fun _ _ _ => aluSbb_canonical)))
  | sbbRmSImm8 rm imm => exact .run (execSbbRmSImm8 rm imm) (fun _ => rfl) (fun _ => rfl) (atOs_canonical (fun _ =>
    aluRmImm_canonical (fun _ _ _ => aluSbb_canonical)))
  | andRm8R8 rm r => exact .run (execAndRm8R8 rm r) (fun _ => rfl) (fun _ => rfl) (aluRmR_canonical (fun _ _ _ => aluAnd_canonical))
  | andRmR rm r => exact .run (execAndRmR rm r) (fun _ => rfl) (fun _ => rfl) (atOs_canonical (fun _ => aluRmR_canonical (fun _ _ _ =>
    aluAnd_canonical)))
  | andR8Rm8 rm r => exact .run (execAndR8Rm8 rm r) (fun _ => rfl) (fun _ => rfl) (aluRRm_canonical (fun _ _ _ => aluAnd_canonical))
  | andRRm rm r => exact .run (execAndRRm rm r) (fun _ => rfl) (fun _ => rfl) (atOs_canonical (fun _ => aluRRm_canonical (fun _ _ _ =>
    aluAnd_canonical)))
  | andAlImm8 imm => exact .run (execAndAlImm8 imm) (fun _ => rfl) (fun _ => rfl) (aluAcc_canonical (fun _ _ _ => aluAnd_canonical))
  | andEaxImm imm => exact .run (execAndEaxImm imm) (fun _ => rfl) (fun _ => rfl) (atOs_canonical (fun _ => aluAcc_canonical (fun _ _ _ =>
    aluAnd_canonical)))
  | andRm8Imm8 rm imm => exact .run (execAndRm8Imm8 rm imm) (fun _ => rfl) (fun _ => rfl) (aluRmImm_canonical (fun _ _ _ =>
    aluAnd_canonical))
  | andRmImm rm imm => exact .run (execAndRmImm rm imm) (fun _ => rfl) (fun _ => rfl) (atOs_canonical (fun _ =>
    aluRmImm_canonical (fun _ _ _ => aluAnd_canonical)))
  | andRmSImm8 rm imm => exact .run (execAndRmSImm8 rm imm) (fun _ => rfl) (fun _ => rfl) (atOs_canonical (fun _ =>
    aluRmImm_canonical (fun _ _ _ => aluAnd_canonical)))
  | subRm8R8 rm r => exact .run (execSubRm8R8 rm r) (fun _ => rfl) (fun _ => rfl) (aluRmR_canonical (fun _ _ _ => aluSub_canonical))
  | subRmR rm r => exact .run (execSubRmR rm r) (fun _ => rfl) (fun _ => rfl) (atOs_canonical (fun _ => aluRmR_canonical (fun _ _ _ =>
    aluSub_canonical)))
  | subR8Rm8 rm r => exact .run (execSubR8Rm8 rm r) (fun _ => rfl) (fun _ => rfl) (aluRRm_canonical (fun _ _ _ => aluSub_canonical))
  | subRRm rm r => exact .run (execSubRRm rm r) (fun _ => rfl) (fun _ => rfl) (atOs_canonical (fun _ => aluRRm_canonical (fun _ _ _ =>
    aluSub_canonical)))
  | subAlImm8 imm => exact .run (execSubAlImm8 imm) (fun _ => rfl) (fun _ => rfl) (aluAcc_canonical (fun _ _ _ => aluSub_canonical))
  | subEaxImm imm => exact .run (execSubEaxImm imm) (fun _ => rfl) (fun _ => rfl) (atOs_canonical (fun _ => aluAcc_canonical (fun _ _ _ =>
    aluSub_canonical)))
  | subRm8Imm8 rm imm => exact .run (execSubRm8Imm8 rm imm) (fun _ => rfl) (fun _ => rfl) (aluRmImm_canonical (fun _ _ _ =>
    aluSub_canonical))
  | subRmImm rm imm => exact .run (execSubRmImm rm imm) (fun _ => rfl) (fun _ => rfl) (atOs_canonical (fun _ =>
    aluRmImm_canonical (fun _ _ _ => aluSub_canonical)))
  | subRmSImm8 rm imm => exact .run (execSubRmSImm8 rm imm) (fun _ => rfl) (fun _ => rfl) (atOs_canonical (fun _ =>
    aluRmImm_canonical (fun _ _ _ => aluSub_canonical)))
  | xorRm8R8 rm r => exact .run (execXorRm8R8 rm r) (fun _ => rfl) (fun _ => rfl) (aluRmR_canonical (fun _ _ _ => aluXor_canonical))
  | xorRmR rm r => exact .run (execXorRmR rm r) (fun _ => rfl) (fun _ => rfl) (atOs_canonical (fun _ => aluRmR_canonical (fun _ _ _ =>
    aluXor_canonical)))
  | xorR8Rm8 rm r => exact .run (execXorR8Rm8 rm r) (fun _ => rfl) (fun _ => rfl) (aluRRm_canonical (fun _ _ _ => aluXor_canonical))
  | xorRRm rm r => exact .run (execXorRRm rm r) (fun _ => rfl) (fun _ => rfl) (atOs_canonical (fun _ => aluRRm_canonical (fun _ _ _ =>
    aluXor_canonical)))
  | xorAlImm8 imm => exact .run (execXorAlImm8 imm) (fun _ => rfl) (fun _ => rfl) (aluAcc_canonical (fun _ _ _ => aluXor_canonical))
  | xorEaxImm imm => exact .run (execXorEaxImm imm) (fun _ => rfl) (fun _ => rfl) (atOs_canonical (fun _ => aluAcc_canonical (fun _ _ _ =>
    aluXor_canonical)))
  | xorRm8Imm8 rm imm => exact .run (execXorRm8Imm8 rm imm) (fun _ => rfl) (fun _ => rfl) (aluRmImm_canonical (fun _ _ _ =>
    aluXor_canonical))
  | xorRmImm rm imm => exact .run (execXorRmImm rm imm) (fun _ => rfl) (fun _ => rfl) (atOs_canonical (fun _ =>
    aluRmImm_canonical (fun _ _ _ => aluXor_canonical)))
  | xorRmSImm8 rm imm => exact .run (execXorRmSImm8 rm imm) (fun _ => rfl) (fun _ => rfl) (atOs_canonical (fun _ =>
    aluRmImm_canonical (fun _ _ _ => aluXor_canonical)))
  | cmpRm8R8 rm r => exact .run (execCmpRm8R8 rm r) (fun _ => rfl) (fun _ => rfl) (cmpRmR_canonical (fun _ _ _ => aluCmp_canonical))
  | cmpRmR rm r => exact .run (execCmpRmR rm r) (fun _ => rfl) (fun _ => rfl) (atOs_canonical (fun _ => cmpRmR_canonical (fun _ _ _ =>
    aluCmp_canonical)))
  | cmpR8Rm8 rm r => exact .run (execCmpR8Rm8 rm r) (fun _ => rfl) (fun _ => rfl) (cmpRRm_canonical (fun _ _ _ => aluCmp_canonical))
  | cmpRRm rm r => exact .run (execCmpRRm rm r) (fun _ => rfl) (fun _ => rfl) (atOs_canonical (fun _ => cmpRRm_canonical (fun _ _ _ =>
    aluCmp_canonical)))
  | cmpAlImm8 imm => exact .run (execCmpAlImm8 imm) (fun _ => rfl) (fun _ => rfl) (cmpAcc_canonical (fun _ _ _ => aluCmp_canonical))
  | cmpEaxImm imm => exact .run (execCmpEaxImm imm) (fun _ => rfl) (fun _ => rfl) (atOs_canonical (fun _ => cmpAcc_canonical (fun _ _ _ =>
    aluCmp_canonical)))
  | cmpRm8Imm8 rm imm => exact .run (execCmpRm8Imm8 rm imm) (fun _ => rfl) (fun _ => rfl) (cmpRmImm_canonical (fun _ _ _ =>
    aluCmp_canonical))
  | cmpRmImm rm imm => exact .run (execCmpRmImm rm imm) (fun _ => rfl) (fun _ => rfl) (atOs_canonical (fun _ =>
    cmpRmImm_canonical (fun _ _ _ => aluCmp_canonical)))
  | cmpRmSImm8 rm imm => exact .run (execCmpRmSImm8 rm imm) (fun _ => rfl) (fun _ => rfl) (atOs_canonical (fun _ =>
    cmpRmImm_canonical (fun _ _ _ => aluCmp_canonical)))
  | movRm8R8 rm r => exact .run (execMovRm8R8 rm r) (fun _ => rfl) (fun _ => rfl) (movTo_canonical (fun _ => readReg_canonical))
  | movRmR rm r => exact .run (execMovRmR rm r) (fun _ => rfl) (fun _ => rfl) (atOs_canonical (fun _ => movTo_canonical (fun _ =>
    readReg_canonical)))
  | movR8Rm8 rm r => exact .run (execMovR8Rm8 rm r) (fun _ => rfl) (fun _ => rfl) movFrom_canonical
  | movRRm rm r => exact .run (execMovRRm rm r) (fun _ => rfl) (fun _ => rfl) (atOs_canonical (fun _ => movFrom_canonical))
  | movRm16Sreg rm sr =>
    refine .run (execMovRm16Sreg rm sr) (fun _ => rfl) (fun _ => rfl) ?_
    refine .get_bind fun _ _ => ?_
    dsimp only
    split
    · exact .bind draw_canonical fun _ => writeReg_canonical
    · exact writeRM_canonical
  | movSregRm16 rm sr => exact .run (execMovSregRm16 rm sr) (fun _ => rfl) (fun _ => rfl) (.bind (require_canonical .stop) fun _ =>
    .bind readRM_canonical fun _ => .bind loadSeg_canonical fun _ => shadowSs_canonical)
  | movAlMoffs8 off => exact .run (execMovAlMoffs8 off) (fun _ => rfl) (fun _ => rfl) loadAcc_canonical
  | movEaxMoffs off => exact .run (execMovEaxMoffs off) (fun _ => rfl) (fun _ => rfl) (atOs_canonical (fun _ => loadAcc_canonical))
  | movMoffs8Al off => exact .run (execMovMoffs8Al off) (fun _ => rfl) (fun _ => rfl) storeAcc_canonical
  | movMoffsEax off => exact .run (execMovMoffsEax off) (fun _ => rfl) (fun _ => rfl) (atOs_canonical (fun _ => storeAcc_canonical))
  | movR8Imm8 r imm => exact .run (execMovR8Imm8 r imm) (fun _ => rfl) (fun _ => rfl) writeReg_canonical
  | movRImm r imm => exact .run (execMovRImm r imm) (fun _ => rfl) (fun _ => rfl) (atOs_canonical (fun _ => writeReg_canonical))
  | movRm8Imm8 rm imm => exact .run (execMovRm8Imm8 rm imm) (fun _ => rfl) (fun _ => rfl) (movTo_canonical (fun _ => .pure))
  | movRmImm rm imm => exact .run (execMovRmImm rm imm) (fun _ => rfl) (fun _ => rfl) (atOs_canonical (fun _ => movTo_canonical (fun _ =>
    .pure)))
  | xchgRm8R8 rm r => exact .run (execXchgRm8R8 rm r) (fun _ => rfl) (fun _ => rfl) exchange_canonical
  | xchgRmR rm r => exact .run (execXchgRmR rm r) (fun _ => rfl) (fun _ => rfl) (atOs_canonical (fun _ => exchange_canonical))
  | xchgEaxR r => exact .run (execXchgEaxR r) (fun _ => rfl) (fun _ => rfl) (atOs_canonical (fun _ => exchangeAcc_canonical))
  | nop => exact .run execNop (fun _ => rfl) (fun _ => rfl) .pure
  | pushR r => exact .run (execPushR r) (fun _ => rfl) (fun _ => rfl) (atOs_canonical (fun _ => pushVal_canonical (fun _ =>
    readReg_canonical)))
  | pushRm rm => exact .run (execPushRm rm) (fun _ => rfl) (fun _ => rfl) (atOs_canonical (fun _ => pushVal_canonical (fun _ =>
    readRM_canonical)))
  | pushImm imm => exact .run (execPushImm imm) (fun _ => rfl) (fun _ => rfl) (atOs_canonical (fun _ => pushVal_canonical (fun _ => .pure)))
  | pushSImm8 imm => exact .run (execPushSImm8 imm) (fun _ => rfl) (fun _ => rfl) (atOs_canonical (fun _ => pushVal_canonical (fun _ =>
    .pure)))
  | pushEs => exact .run execPushEs (fun _ => rfl) (fun _ => rfl) (atOs_canonical (fun _ => pushSeg_canonical))
  | pushCs => exact .run execPushCs (fun _ => rfl) (fun _ => rfl) (atOs_canonical (fun _ => pushSeg_canonical))
  | pushSs => exact .run execPushSs (fun _ => rfl) (fun _ => rfl) (atOs_canonical (fun _ => pushSeg_canonical))
  | pushDs => exact .run execPushDs (fun _ => rfl) (fun _ => rfl) (atOs_canonical (fun _ => pushSeg_canonical))
  | pushFs => exact .run execPushFs (fun _ => rfl) (fun _ => rfl) (atOs_canonical (fun _ => pushSeg_canonical))
  | pushGs => exact .run execPushGs (fun _ => rfl) (fun _ => rfl) (atOs_canonical (fun _ => pushSeg_canonical))
  | popR r => exact .run (execPopR r) (fun _ => rfl) (fun _ => rfl) (atOs_canonical (fun _ => popTo_canonical))
  | popRm rm => exact .run (execPopRm rm) (fun _ => rfl) (fun _ => rfl) (atOs_canonical (fun _ => popTo_canonical))
  | popEs => exact .run execPopEs (fun _ => rfl) (fun _ => rfl) (atOs_canonical (fun _ => popSeg_canonical))
  | popSs => exact .run execPopSs (fun _ => rfl) (fun _ => rfl) (atOs_canonical (fun _ => popSeg_canonical))
  | popDs => exact .run execPopDs (fun _ => rfl) (fun _ => rfl) (atOs_canonical (fun _ => popSeg_canonical))
  | popFs => exact .run execPopFs (fun _ => rfl) (fun _ => rfl) (atOs_canonical (fun _ => popSeg_canonical))
  | popGs => exact .run execPopGs (fun _ => rfl) (fun _ => rfl) (atOs_canonical (fun _ => popSeg_canonical))
  | pusha => exact .run execPusha (fun _ => rfl) (fun _ => rfl) (atOs_canonical (fun _ => pushAll_canonical))
  | popa => exact .run execPopa (fun _ => rfl) (fun _ => rfl) (atOs_canonical (fun _ => popAll_canonical))
  | cbw => exact .run execCbw (fun _ => rfl) (fun _ => rfl) (atOs_canonical (fun _ => .bind readReg_canonical fun _ => writeReg_canonical))
  | cwd => exact .run execCwd (fun _ => rfl) (fun _ => rfl) (atOs_canonical (fun _ => .bind readReg_canonical fun _ => writeReg_canonical))
  | movsxRRm8 rm r => exact .run (execMovsxRRm8 rm r) (fun _ => rfl) (fun _ => rfl) (atOs_canonical (fun _ => extend_canonical))
  | movsxR32Rm16 rm r => exact .run (execMovsxR32Rm16 rm r) (fun _ => rfl) (fun _ => rfl) (atOs_canonical (fun _ => extend_canonical))
  | movzxRRm8 rm r => exact .run (execMovzxRRm8 rm r) (fun _ => rfl) (fun _ => rfl) (atOs_canonical (fun _ => extend_canonical))
  | movzxR32Rm16 rm r => exact .run (execMovzxR32Rm16 rm r) (fun _ => rfl) (fun _ => rfl) (atOs_canonical (fun _ => extend_canonical))
  | bswapR32 r =>
    refine .run (execBswapR32 r) (fun _ => rfl) (fun _ => rfl) ?_
    refine .get_bind fun _ _ => ?_
    split
    · exact writeReg_canonical
    · exact .bind draw_canonical fun _ => writeReg_canonical
  | xaddRm8R8 rm r => exact .run (execXaddRm8R8 rm r) (fun _ => rfl) (fun _ => rfl) exchangeAdd_canonical
  | xaddRmR rm r => exact .run (execXaddRmR rm r) (fun _ => rfl) (fun _ => rfl) (atOs_canonical (fun _ => exchangeAdd_canonical))
  | cmpxchgRm8R8 rm r => exact .run (execCmpxchgRm8R8 rm r) (fun _ => rfl) (fun _ => rfl) compareExchange_canonical
  | cmpxchgRmR rm r => exact .run (execCmpxchgRmR rm r) (fun _ => rfl) (fun _ => rfl) (atOs_canonical (fun _ => compareExchange_canonical))
  | cmpxchg8bM64 m => exact .run (execCmpxchg8bM64 m) (fun _ => rfl) (fun _ => rfl) compareExchange8_canonical
  | ldsRFar m r => exact .run (execLdsRFar m r) (fun _ => rfl) (fun _ => rfl) (atOs_canonical (fun _ => loadFar_canonical))
  | lesRFar m r => exact .run (execLesRFar m r) (fun _ => rfl) (fun _ => rfl) (atOs_canonical (fun _ => loadFar_canonical))
  | lssRFar m r => exact .run (execLssRFar m r) (fun _ => rfl) (fun _ => rfl) (atOs_canonical (fun _ => loadFar_canonical))
  | lfsRFar m r => exact .run (execLfsRFar m r) (fun _ => rfl) (fun _ => rfl) (atOs_canonical (fun _ => loadFar_canonical))
  | lgsRFar m r => exact .run (execLgsRFar m r) (fun _ => rfl) (fun _ => rfl) (atOs_canonical (fun _ => loadFar_canonical))
  | leaRM m r => exact .run (execLeaRM m r) (fun _ => rfl) (fun _ => rfl) (atOs_canonical (fun _ => loadAddress_canonical))
  | xlat => exact .run execXlat (fun _ => rfl) (fun _ => rfl) (.get_bind fun _ _ => .bind memRead_canonical fun _ => writeReg_canonical)
  | incR r => exact .run (execIncR r) (fun _ => rfl) (fun _ => rfl) (atOs_canonical (fun _ => incr_canonical))
  | incRm8 rm => exact .run (execIncRm8 rm) (fun _ => rfl) (fun _ => rfl) incr_canonical
  | incRm rm => exact .run (execIncRm rm) (fun _ => rfl) (fun _ => rfl) (atOs_canonical (fun _ => incr_canonical))
  | decR r => exact .run (execDecR r) (fun _ => rfl) (fun _ => rfl) (atOs_canonical (fun _ => decr_canonical))
  | decRm8 rm => exact .run (execDecRm8 rm) (fun _ => rfl) (fun _ => rfl) decr_canonical
  | decRm rm => exact .run (execDecRm rm) (fun _ => rfl) (fun _ => rfl) (atOs_canonical (fun _ => decr_canonical))
  | negRm8 rm => exact .run (execNegRm8 rm) (fun _ => rfl) (fun _ => rfl) negate_canonical
  | negRm rm => exact .run (execNegRm rm) (fun _ => rfl) (fun _ => rfl) (atOs_canonical (fun _ => negate_canonical))
  | mulRm8 rm => exact .run (execMulRm8 rm) (fun _ => rfl) (fun _ => rfl) mulOp_canonical
  | mulRm rm => exact .run (execMulRm rm) (fun _ => rfl) (fun _ => rfl) (atOs_canonical (fun _ => mulOp_canonical))
  | imulRm8 rm => exact .run (execImulRm8 rm) (fun _ => rfl) (fun _ => rfl) imulAcc_canonical
  | imulRm rm => exact .run (execImulRm rm) (fun _ => rfl) (fun _ => rfl) (atOs_canonical (fun _ => imulAcc_canonical))
  | imulRRm rm r => exact .run (execImulRRm rm r) (fun _ => rfl) (fun _ => rfl) (atOs_canonical (fun _ => .bind readRM_canonical fun _ =>
    .bind readReg_canonical fun _ => imulTo_canonical))
  | imulRRmImm rm r imm => exact .run (execImulRRmImm rm r imm) (fun _ => rfl) (fun _ => rfl) (atOs_canonical (fun _ =>
    .bind readRM_canonical fun _ => imulTo_canonical))
  | imulRRmSImm8 rm r imm => exact .run (execImulRRmSImm8 rm r imm) (fun _ => rfl) (fun _ => rfl) (atOs_canonical (fun _ =>
    .bind readRM_canonical fun _ => imulTo_canonical))
  | divRm8 rm => exact .run (execDivRm8 rm) (fun _ => rfl) (fun _ => rfl) divOp_canonical
  | divRm rm => exact .run (execDivRm rm) (fun _ => rfl) (fun _ => rfl) (atOs_canonical (fun _ => divOp_canonical))
  | idivRm8 rm => exact .run (execIdivRm8 rm) (fun _ => rfl) (fun _ => rfl) idivOp_canonical
  | idivRm rm => exact .run (execIdivRm rm) (fun _ => rfl) (fun _ => rfl) (atOs_canonical (fun _ => idivOp_canonical))
  | daa => exact .run execDaa (fun _ => rfl) (fun _ => rfl) daaOp_canonical
  | das => exact .run execDas (fun _ => rfl) (fun _ => rfl) dasOp_canonical
  | aaa => exact .run execAaa (fun _ => rfl) (fun _ => rfl) asciiAdjust_canonical
  | aas => exact .run execAas (fun _ => rfl) (fun _ => rfl) asciiAdjust_canonical
  | aamImm8 imm => exact .run (execAamImm8 imm) (fun _ => rfl) (fun _ => rfl) (.get_bind fun _ _ =>
    .bind (require_canonical .stop) fun _ => .bind writeReg_canonical fun _ => .bind writeReg_canonical fun _ => decimalFlags_canonical)
  | aadImm8 imm => exact .run (execAadImm8 imm) (fun _ => rfl) (fun _ => rfl) (.get_bind fun _ _ => .bind writeReg_canonical fun _ =>
    decimalFlags_canonical)
  | notRm8 rm => exact .run (execNotRm8 rm) (fun _ => rfl) (fun _ => rfl) invert_canonical
  | notRm rm => exact .run (execNotRm rm) (fun _ => rfl) (fun _ => rfl) (atOs_canonical (fun _ => invert_canonical))
  | testRm8R8 rm r => exact .run (execTestRm8R8 rm r) (fun _ => rfl) (fun _ => rfl) (cmpRmR_canonical (fun _ _ _ => aluTest_canonical))
  | testRmR rm r => exact .run (execTestRmR rm r) (fun _ => rfl) (fun _ => rfl) (atOs_canonical (fun _ => cmpRmR_canonical (fun _ _ _ =>
    aluTest_canonical)))
  | testAlImm8 imm => exact .run (execTestAlImm8 imm) (fun _ => rfl) (fun _ => rfl) (cmpAcc_canonical (fun _ _ _ => aluTest_canonical))
  | testEaxImm imm => exact .run (execTestEaxImm imm) (fun _ => rfl) (fun _ => rfl) (atOs_canonical (fun _ =>
    cmpAcc_canonical (fun _ _ _ => aluTest_canonical)))
  | testRm8Imm8 rm imm => exact .run (execTestRm8Imm8 rm imm) (fun _ => rfl) (fun _ => rfl) (cmpRmImm_canonical (fun _ _ _ =>
    aluTest_canonical))
  | testRmImm rm imm => exact .run (execTestRmImm rm imm) (fun _ => rfl) (fun _ => rfl) (atOs_canonical (fun _ =>
    cmpRmImm_canonical (fun _ _ _ => aluTest_canonical)))
  | rolRm8One rm => exact .run (execRolRm8One rm) (fun _ => rfl) (fun _ => rfl) (shiftRM_canonical (fun _ _ _ => rolOp_canonical))
  | rolRmOne rm => exact .run (execRolRmOne rm) (fun _ => rfl) (fun _ => rfl) (atOs_canonical (fun _ => shiftRM_canonical (fun _ _ _ =>
    rolOp_canonical)))
  | rolRm8Cl rm => exact .run (execRolRm8Cl rm) (fun _ => rfl) (fun _ => rfl) (shiftRM_canonical (fun _ _ _ => rolOp_canonical))
  | rolRmCl rm => exact .run (execRolRmCl rm) (fun _ => rfl) (fun _ => rfl) (atOs_canonical (fun _ => shiftRM_canonical (fun _ _ _ =>
    rolOp_canonical)))
  | rolRm8Imm8 rm imm => exact .run (execRolRm8Imm8 rm imm) (fun _ => rfl) (fun _ => rfl) (shiftRM_canonical (fun _ _ _ => rolOp_canonical))
  | rolRmImm8 rm imm => exact .run (execRolRmImm8 rm imm) (fun _ => rfl) (fun _ => rfl) (atOs_canonical (fun _ =>
    shiftRM_canonical (fun _ _ _ => rolOp_canonical)))
  | rorRm8One rm => exact .run (execRorRm8One rm) (fun _ => rfl) (fun _ => rfl) (shiftRM_canonical (fun _ _ _ => rorOp_canonical))
  | rorRmOne rm => exact .run (execRorRmOne rm) (fun _ => rfl) (fun _ => rfl) (atOs_canonical (fun _ => shiftRM_canonical (fun _ _ _ =>
    rorOp_canonical)))
  | rorRm8Cl rm => exact .run (execRorRm8Cl rm) (fun _ => rfl) (fun _ => rfl) (shiftRM_canonical (fun _ _ _ => rorOp_canonical))
  | rorRmCl rm => exact .run (execRorRmCl rm) (fun _ => rfl) (fun _ => rfl) (atOs_canonical (fun _ => shiftRM_canonical (fun _ _ _ =>
    rorOp_canonical)))
  | rorRm8Imm8 rm imm => exact .run (execRorRm8Imm8 rm imm) (fun _ => rfl) (fun _ => rfl) (shiftRM_canonical (fun _ _ _ => rorOp_canonical))
  | rorRmImm8 rm imm => exact .run (execRorRmImm8 rm imm) (fun _ => rfl) (fun _ => rfl) (atOs_canonical (fun _ =>
    shiftRM_canonical (fun _ _ _ => rorOp_canonical)))
  | rclRm8One rm => exact .run (execRclRm8One rm) (fun _ => rfl) (fun _ => rfl) (shiftRM_canonical (fun _ _ _ => rclOp_canonical))
  | rclRmOne rm => exact .run (execRclRmOne rm) (fun _ => rfl) (fun _ => rfl) (atOs_canonical (fun _ => shiftRM_canonical (fun _ _ _ =>
    rclOp_canonical)))
  | rclRm8Cl rm => exact .run (execRclRm8Cl rm) (fun _ => rfl) (fun _ => rfl) (shiftRM_canonical (fun _ _ _ => rclOp_canonical))
  | rclRmCl rm => exact .run (execRclRmCl rm) (fun _ => rfl) (fun _ => rfl) (atOs_canonical (fun _ => shiftRM_canonical (fun _ _ _ =>
    rclOp_canonical)))
  | rclRm8Imm8 rm imm => exact .run (execRclRm8Imm8 rm imm) (fun _ => rfl) (fun _ => rfl) (shiftRM_canonical (fun _ _ _ => rclOp_canonical))
  | rclRmImm8 rm imm => exact .run (execRclRmImm8 rm imm) (fun _ => rfl) (fun _ => rfl) (atOs_canonical (fun _ =>
    shiftRM_canonical (fun _ _ _ => rclOp_canonical)))
  | rcrRm8One rm => exact .run (execRcrRm8One rm) (fun _ => rfl) (fun _ => rfl) (shiftRM_canonical (fun _ _ _ => rcrOp_canonical))
  | rcrRmOne rm => exact .run (execRcrRmOne rm) (fun _ => rfl) (fun _ => rfl) (atOs_canonical (fun _ => shiftRM_canonical (fun _ _ _ =>
    rcrOp_canonical)))
  | rcrRm8Cl rm => exact .run (execRcrRm8Cl rm) (fun _ => rfl) (fun _ => rfl) (shiftRM_canonical (fun _ _ _ => rcrOp_canonical))
  | rcrRmCl rm => exact .run (execRcrRmCl rm) (fun _ => rfl) (fun _ => rfl) (atOs_canonical (fun _ => shiftRM_canonical (fun _ _ _ =>
    rcrOp_canonical)))
  | rcrRm8Imm8 rm imm => exact .run (execRcrRm8Imm8 rm imm) (fun _ => rfl) (fun _ => rfl) (shiftRM_canonical (fun _ _ _ => rcrOp_canonical))
  | rcrRmImm8 rm imm => exact .run (execRcrRmImm8 rm imm) (fun _ => rfl) (fun _ => rfl) (atOs_canonical (fun _ =>
    shiftRM_canonical (fun _ _ _ => rcrOp_canonical)))
  | shlRm8One rm => exact .run (execShlRm8One rm) (fun _ => rfl) (fun _ => rfl) (shiftRM_canonical (fun _ _ _ => shlOp_canonical))
  | shlRmOne rm => exact .run (execShlRmOne rm) (fun _ => rfl) (fun _ => rfl) (atOs_canonical (fun _ => shiftRM_canonical (fun _ _ _ =>
    shlOp_canonical)))
  | shlRm8Cl rm => exact .run (execShlRm8Cl rm) (fun _ => rfl) (fun _ => rfl) (shiftRM_canonical (fun _ _ _ => shlOp_canonical))
  | shlRmCl rm => exact .run (execShlRmCl rm) (fun _ => rfl) (fun _ => rfl) (atOs_canonical (fun _ => shiftRM_canonical (fun _ _ _ =>
    shlOp_canonical)))
  | shlRm8Imm8 rm imm => exact .run (execShlRm8Imm8 rm imm) (fun _ => rfl) (fun _ => rfl) (shiftRM_canonical (fun _ _ _ => shlOp_canonical))
  | shlRmImm8 rm imm => exact .run (execShlRmImm8 rm imm) (fun _ => rfl) (fun _ => rfl) (atOs_canonical (fun _ =>
    shiftRM_canonical (fun _ _ _ => shlOp_canonical)))
  | shrRm8One rm => exact .run (execShrRm8One rm) (fun _ => rfl) (fun _ => rfl) (shiftRM_canonical (fun _ _ _ => shrOp_canonical))
  | shrRmOne rm => exact .run (execShrRmOne rm) (fun _ => rfl) (fun _ => rfl) (atOs_canonical (fun _ => shiftRM_canonical (fun _ _ _ =>
    shrOp_canonical)))
  | shrRm8Cl rm => exact .run (execShrRm8Cl rm) (fun _ => rfl) (fun _ => rfl) (shiftRM_canonical (fun _ _ _ => shrOp_canonical))
  | shrRmCl rm => exact .run (execShrRmCl rm) (fun _ => rfl) (fun _ => rfl) (atOs_canonical (fun _ => shiftRM_canonical (fun _ _ _ =>
    shrOp_canonical)))
  | shrRm8Imm8 rm imm => exact .run (execShrRm8Imm8 rm imm) (fun _ => rfl) (fun _ => rfl) (shiftRM_canonical (fun _ _ _ => shrOp_canonical))
  | shrRmImm8 rm imm => exact .run (execShrRmImm8 rm imm) (fun _ => rfl) (fun _ => rfl) (atOs_canonical (fun _ =>
    shiftRM_canonical (fun _ _ _ => shrOp_canonical)))
  | sarRm8One rm => exact .run (execSarRm8One rm) (fun _ => rfl) (fun _ => rfl) (shiftRM_canonical (fun _ _ _ => sarOp_canonical))
  | sarRmOne rm => exact .run (execSarRmOne rm) (fun _ => rfl) (fun _ => rfl) (atOs_canonical (fun _ => shiftRM_canonical (fun _ _ _ =>
    sarOp_canonical)))
  | sarRm8Cl rm => exact .run (execSarRm8Cl rm) (fun _ => rfl) (fun _ => rfl) (shiftRM_canonical (fun _ _ _ => sarOp_canonical))
  | sarRmCl rm => exact .run (execSarRmCl rm) (fun _ => rfl) (fun _ => rfl) (atOs_canonical (fun _ => shiftRM_canonical (fun _ _ _ =>
    sarOp_canonical)))
  | sarRm8Imm8 rm imm => exact .run (execSarRm8Imm8 rm imm) (fun _ => rfl) (fun _ => rfl) (shiftRM_canonical (fun _ _ _ => sarOp_canonical))
  | sarRmImm8 rm imm => exact .run (execSarRmImm8 rm imm) (fun _ => rfl) (fun _ => rfl) (atOs_canonical (fun _ =>
    shiftRM_canonical (fun _ _ _ => sarOp_canonical)))
  | shldRmRImm8 rm r imm => exact .run (execShldRmRImm8 rm r imm) (fun _ => rfl) (fun _ => rfl) (atOs_canonical (fun _ =>
    doubleShift_canonical))
  | shldRmRCl rm r => exact .run (execShldRmRCl rm r) (fun _ => rfl) (fun _ => rfl) (atOs_canonical (fun _ => doubleShift_canonical))
  | shrdRmRImm8 rm r imm => exact .run (execShrdRmRImm8 rm r imm) (fun _ => rfl) (fun _ => rfl) (atOs_canonical (fun _ =>
    doubleShift_canonical))
  | shrdRmRCl rm r => exact .run (execShrdRmRCl rm r) (fun _ => rfl) (fun _ => rfl) (atOs_canonical (fun _ => doubleShift_canonical))
  | btRmR rm r => exact .run (execBtRmR rm r) (fun _ => rfl) (fun _ => rfl) (atOs_canonical (fun _ => bitByReg_canonical))
  | btRmImm8 rm imm => exact .run (execBtRmImm8 rm imm) (fun _ => rfl) (fun _ => rfl) (atOs_canonical (fun _ => bitByImm_canonical))
  | btsRmR rm r => exact .run (execBtsRmR rm r) (fun _ => rfl) (fun _ => rfl) (atOs_canonical (fun _ => bitByReg_canonical))
  | btsRmImm8 rm imm => exact .run (execBtsRmImm8 rm imm) (fun _ => rfl) (fun _ => rfl) (atOs_canonical (fun _ => bitByImm_canonical))
  | btrRmR rm r => exact .run (execBtrRmR rm r) (fun _ => rfl) (fun _ => rfl) (atOs_canonical (fun _ => bitByReg_canonical))
  | btrRmImm8 rm imm => exact .run (execBtrRmImm8 rm imm) (fun _ => rfl) (fun _ => rfl) (atOs_canonical (fun _ => bitByImm_canonical))
  | btcRmR rm r => exact .run (execBtcRmR rm r) (fun _ => rfl) (fun _ => rfl) (atOs_canonical (fun _ => bitByReg_canonical))
  | btcRmImm8 rm imm => exact .run (execBtcRmImm8 rm imm) (fun _ => rfl) (fun _ => rfl) (atOs_canonical (fun _ => bitByImm_canonical))
  | bsfRRm rm r => exact .run (execBsfRRm rm r) (fun _ => rfl) (fun _ => rfl) (atOs_canonical (fun _ => bitScan_canonical))
  | bsrRRm rm r => exact .run (execBsrRRm rm r) (fun _ => rfl) (fun _ => rfl) (atOs_canonical (fun _ => bitScan_canonical))
  | setccRm8 cc rm => exact .run (execSetccRm8 cc rm) (fun _ => rfl) (fun _ => rfl) (.get_bind fun _ _ => writeRM_canonical)
  | jmpRel8 rel => exact .run (execJmpRel8 rel) (fun _ => rfl) (fun _ => rfl) (atOs_canonical (fun _ => jumpRel_canonical))
  | jmpRel rel => exact .run (execJmpRel rel) (fun _ => rfl) (fun _ => rfl) (atOs_canonical (fun _ => jumpRel_canonical))
  | jmpRm rm => exact .run (execJmpRm rm) (fun _ => rfl) (fun _ => rfl) (atOs_canonical (fun _ => .bind readRM_canonical fun _ =>
    jumpNear_canonical))
  | jmpPtr off sel => exact .run (execJmpPtr off sel) (fun _ => rfl) (fun _ => rfl) (atOs_canonical (fun _ => farTransfer_canonical))
  | jmpFar m => exact .run (execJmpFar m) (fun _ => rfl) (fun _ => rfl) (atOs_canonical (fun _ => .bind readFar_canonical fun ⟨_, _⟩ =>
    farTransfer_canonical))
  | callRel rel => exact .run (execCallRel rel) (fun _ => rfl) (fun _ => rfl) (atOs_canonical (fun _ => .bind relTarget_canonical fun _ =>
    callNear_canonical))
  | callRm rm => exact .run (execCallRm rm) (fun _ => rfl) (fun _ => rfl) (atOs_canonical (fun _ => .bind readRM_canonical fun _ =>
    callNear_canonical))
  | callPtr off sel => exact .run (execCallPtr off sel) (fun _ => rfl) (fun _ => rfl) (atOs_canonical (fun _ => farTransfer_canonical))
  | callFar m => exact .run (execCallFar m) (fun _ => rfl) (fun _ => rfl) (atOs_canonical (fun _ => .bind readFar_canonical fun ⟨_, _⟩ =>
    farTransfer_canonical))
  | ret => exact .run execRet (fun _ => rfl) (fun _ => rfl) (atOs_canonical (fun _ => retNear_canonical))
  | retImm16 imm => exact .run (execRetImm16 imm) (fun _ => rfl) (fun _ => rfl) (atOs_canonical (fun _ => retNear_canonical))
  | retf => exact .run execRetf (fun _ => rfl) (fun _ => rfl) (atOs_canonical (fun _ => retFar_canonical))
  | retfImm16 imm => exact .run (execRetfImm16 imm) (fun _ => rfl) (fun _ => rfl) (atOs_canonical (fun _ => retFar_canonical))
  | jccRel8 cc rel => exact .run (execJccRel8 cc rel) (fun _ => rfl) (fun _ => rfl) (.get_bind fun _ _ => atOs_canonical (fun _ =>
    jumpRelIf_canonical))
  | jccRel cc rel => exact .run (execJccRel cc rel) (fun _ => rfl) (fun _ => rfl) (.get_bind fun _ _ => atOs_canonical (fun _ =>
    jumpRelIf_canonical))
  | jcxzRel8 rel => exact .run (execJcxzRel8 rel) (fun _ => rfl) (fun _ => rfl) (.get_bind fun _ _ => atOs_canonical (fun _ =>
    jumpRelIf_canonical))
  | loopRel8 rel => exact .run (execLoopRel8 rel) (fun _ => rfl) (fun _ => rfl) (atOs_canonical (fun _ => loopIf_canonical))
  | loopeRel8 rel => exact .run (execLoopeRel8 rel) (fun _ => rfl) (fun _ => rfl) (atOs_canonical (fun _ => loopIf_canonical))
  | loopneRel8 rel => exact .run (execLoopneRel8 rel) (fun _ => rfl) (fun _ => rfl) (atOs_canonical (fun _ => loopIf_canonical))
  | iret => exact .run execIret (fun _ => rfl) (fun _ => rfl) (atOs_canonical (fun _ => iretOp_canonical))
  | intImm8 imm => exact .run (execIntImm8 imm) (fun _ => rfl) (fun _ => rfl) (.bind v86Iopl_canonical fun _ => .stop)
  | int3 => exact .run execInt3 (fun _ => rfl) (fun _ => rfl) .stop
  | into => exact .run execInto (fun _ => rfl) (fun _ => rfl) (.get_bind fun _ _ => .ite .stop .pure)
  | boundRM m r => exact .run (execBoundRM m r) (fun _ => rfl) (fun _ => rfl) (atOs_canonical (fun _ => boundCheck_canonical))
  | enterImm16Imm8 imm lvl => exact .run (execEnterImm16Imm8 imm lvl) (fun _ => rfl) (fun _ => rfl) (atOs_canonical (fun _ =>
    enterFrame_canonical))
  | leave => exact .run execLeave (fun _ => rfl) (fun _ => rfl) (atOs_canonical (fun _ => leaveFrame_canonical))
  | movsb => exact .run execMovsb (fun _ => rfl) (fun _ => rfl) (repeated_canonical movsOnce_canonical)
  | movsw => exact .run execMovsw (fun _ => rfl) (fun _ => rfl) (repeated_canonical (atOs_canonical (fun _ => movsOnce_canonical)))
  | cmpsb => exact .run execCmpsb (fun _ => rfl) (fun _ => rfl) (repeated_canonical cmpsOnce_canonical)
  | cmpsw => exact .run execCmpsw (fun _ => rfl) (fun _ => rfl) (repeated_canonical (atOs_canonical (fun _ => cmpsOnce_canonical)))
  | stosb => exact .run execStosb (fun _ => rfl) (fun _ => rfl) (repeated_canonical stosOnce_canonical)
  | stosw => exact .run execStosw (fun _ => rfl) (fun _ => rfl) (repeated_canonical (atOs_canonical (fun _ => stosOnce_canonical)))
  | lodsb => exact .run execLodsb (fun _ => rfl) (fun _ => rfl) (repeated_canonical lodsOnce_canonical)
  | lodsw => exact .run execLodsw (fun _ => rfl) (fun _ => rfl) (repeated_canonical (atOs_canonical (fun _ => lodsOnce_canonical)))
  | scasb => exact .run execScasb (fun _ => rfl) (fun _ => rfl) (repeated_canonical scasOnce_canonical)
  | scasw => exact .run execScasw (fun _ => rfl) (fun _ => rfl) (repeated_canonical (atOs_canonical (fun _ => scasOnce_canonical)))
  | insb => exact .run execInsb (fun _ => rfl) (fun _ => rfl) (.bind noteLastIo_canonical fun _ => repeated_canonical insOnce_canonical)
  | insw => exact .run execInsw (fun _ => rfl) (fun _ => rfl) (.bind noteLastIo_canonical fun _ =>
    repeated_canonical (atOs_canonical (fun _ => insOnce_canonical)))
  | outsb => exact .run execOutsb (fun _ => rfl) (fun _ => rfl) (.bind noteLastIo_canonical fun _ => repeated_canonical outsOnce_canonical)
  | outsw => exact .run execOutsw (fun _ => rfl) (fun _ => rfl) (.bind noteLastIo_canonical fun _ =>
    repeated_canonical (atOs_canonical (fun _ => outsOnce_canonical)))
  | stc => exact .run execStc (fun _ => rfl) (fun _ => rfl) modifyFlags_canonical
  | clc => exact .run execClc (fun _ => rfl) (fun _ => rfl) modifyFlags_canonical
  | cmc => exact .run execCmc (fun _ => rfl) (fun _ => rfl) modifyFlags_canonical
  | cld => exact .run execCld (fun _ => rfl) (fun _ => rfl) modifyFlags_canonical
  | std => exact .run execStd (fun _ => rfl) (fun _ => rfl) modifyFlags_canonical
  | cli => exact .run execCli (fun _ => rfl) (fun _ => rfl) setIf_canonical
  | sti => exact .run execSti (fun _ => rfl) (fun _ => rfl) (.get_bind fun _ _ => .bind setIf_canonical fun _ => modifyCur_canonical)
  | lahf => exact .run execLahf (fun _ => rfl) (fun _ => rfl) (.get_bind fun _ _ => writeReg_canonical)
  | sahf => exact .run execSahf (fun _ => rfl) (fun _ => rfl) (.get_bind fun _ _ => modifyFlags_canonical)
  | pushf => exact .run execPushf (fun _ => rfl) (fun _ => rfl) (.bind v86Iopl_canonical fun _ => .get_bind fun _ _ => push_canonical)
  | popf => exact .run execPopf (fun _ => rfl) (fun _ => rfl) (.bind v86Iopl_canonical fun _ => .get_bind fun _ _ =>
    .bind pop_canonical fun _ => modifyFlags_canonical)
  | cpuid => exact .run execCpuid (fun _ => rfl) (fun _ => rfl) (.get_bind fun _ _ => .ite (.modify fun _ h =>
    h) (.ite (.bind draw_canonical fun _ => .bind draw_canonical fun _ => .modify fun _ h => h) (.bind draw_canonical fun _ =>
    .bind draw_canonical fun _ => .bind draw_canonical fun _ => .bind draw_canonical fun _ => .modify fun _ h => h)))
  | sldtRm16 rm => exact .run (execSldtRm16 rm) (fun _ => rfl) (fun _ => rfl) (.bind protOnly_canonical fun _ => .get_bind fun _ _ =>
    storeSel_canonical)
  | strRm16 rm => exact .run (execStrRm16 rm) (fun _ => rfl) (fun _ => rfl) (.bind protOnly_canonical fun _ => .get_bind fun _ _ =>
    storeSel_canonical)
  | lldtRm16 rm => exact .run (execLldtRm16 rm) (fun _ => rfl) (fun _ => rfl) (.bind protOnly_canonical fun _ =>
    .bind privileged_canonical fun _ => .bind readRM_canonical fun _ => loadLdt_canonical)
  | ltrRm16 rm => exact .run (execLtrRm16 rm) (fun _ => rfl) (fun _ => rfl) (.bind protOnly_canonical fun _ =>
    .bind privileged_canonical fun _ => .bind readRM_canonical fun _ => loadTr_canonical)
  | verrRm16 rm => exact .run (execVerrRm16 rm) (fun _ => rfl) (fun _ => rfl) verify_canonical
  | verwRm16 rm => exact .run (execVerwRm16 rm) (fun _ => rfl) (fun _ => rfl) verify_canonical
  | sgdtM m => exact .run (execSgdtM m) (fun _ => rfl) (fun _ => rfl) (.get_bind fun _ _ => storeTable_canonical)
  | sidtM m => exact .run (execSidtM m) (fun _ => rfl) (fun _ => rfl) (.get_bind fun _ _ => storeTable_canonical)
  | lgdtM m => exact .run (execLgdtM m) (fun _ => rfl) (fun _ => rfl) (.bind readTable_canonical fun _ => .modify fun _ h => h)
  | lidtM m => exact .run (execLidtM m) (fun _ => rfl) (fun _ => rfl) (.bind readTable_canonical fun _ => .modify fun _ h => h)
  | smswRm16 rm =>
    refine .run (execSmswRm16 rm) (fun _ => rfl) (fun _ => rfl) ?_
    refine .get_bind fun _ _ => ?_
    dsimp only
    split
    · exact .bind draw_canonical fun _ => writeReg_canonical
    · exact writeRM_canonical
  | lmswRm16 rm => exact .run (execLmswRm16 rm) (fun _ => rfl) (fun _ => rfl) (.bind privileged_canonical fun _ =>
    .bind readRM_canonical fun _ => loadMsw_canonical)
  | invlpgM m => exact .run (execInvlpgM m) (fun _ => rfl) (fun _ => rfl) invalidate_canonical
  | larRRm16 rm r => exact .run (execLarRRm16 rm r) (fun _ => rfl) (fun _ => rfl) (atOs_canonical (fun _ => validate_canonical (fun _ =>
    larValue_canonical)))
  | lslRRm16 rm r => exact .run (execLslRRm16 rm r) (fun _ => rfl) (fun _ => rfl) (atOs_canonical (fun _ => validate_canonical (fun _ =>
    .pure)))
  | clts => exact .run execClts (fun _ => rfl) (fun _ => rfl) (.bind privileged_canonical fun _ => .modify fun _ h => h)
  | invd => exact .run execInvd (fun _ => rfl) (fun _ => rfl) (.bind privileged_canonical fun _ => emit_canonical)
  | wbinvd => exact .run execWbinvd (fun _ => rfl) (fun _ => rfl) (.bind privileged_canonical fun _ => .bind emit_canonical fun _ =>
    emit_canonical)
  | movR32Cr n r => exact .run (execMovR32Cr n r) (fun _ => rfl) (fun _ => rfl) readCr_canonical
  | movCrR32 n r => exact .run (execMovCrR32 n r) (fun _ => rfl) (fun _ => rfl) writeCr_canonical
  | movR32Dr n r => exact .run (execMovR32Dr n r) (fun _ => rfl) (fun _ => rfl) readDr_canonical
  | movDrR32 n r => exact .run (execMovDrR32 n r) (fun _ => rfl) (fun _ => rfl) writeDr_canonical
  | movR32Tr n r => exact .run (execMovR32Tr n r) (fun _ => rfl) (fun _ => rfl) .stop
  | movTrR32 n r => exact .run (execMovTrR32 n r) (fun _ => rfl) (fun _ => rfl) .stop
  | wrmsr => exact .run execWrmsr (fun _ => rfl) (fun _ => rfl) writeMsr_canonical
  | rdtsc => exact .run execRdtsc (fun _ => rfl) (fun _ => rfl) readTsc_canonical
  | rdmsr => exact .run execRdmsr (fun _ => rfl) (fun _ => rfl) readMsr_canonical
  | rsm => exact .run execRsm (fun _ => rfl) (fun _ => rfl) resume_canonical
  | hlt => exact .run execHlt (fun _ => rfl) (fun _ => rfl) halt_canonical
  | arplRm16R16 rm r => exact .run (execArplRm16R16 rm r) (fun _ => rfl) (fun _ => rfl) adjustRpl_canonical
  | inAlImm8 imm => exact .run (execInAlImm8 imm) (fun _ => rfl) (fun _ => rfl) (inPort_canonical .pure)
  | inEaxImm8 imm => exact .run (execInEaxImm8 imm) (fun _ => rfl) (fun _ => rfl) (atOs_canonical (fun _ => inPort_canonical .pure))
  | inAlDx => exact .run execInAlDx (fun _ => rfl) (fun _ => rfl) (inPort_canonical portDx_canonical)
  | inEaxDx => exact .run execInEaxDx (fun _ => rfl) (fun _ => rfl) (atOs_canonical (fun _ => inPort_canonical portDx_canonical))
  | outImm8Al imm => exact .run (execOutImm8Al imm) (fun _ => rfl) (fun _ => rfl) (outPort_canonical .pure)
  | outImm8Eax imm => exact .run (execOutImm8Eax imm) (fun _ => rfl) (fun _ => rfl) (atOs_canonical (fun _ => outPort_canonical .pure))
  | outDxAl => exact .run execOutDxAl (fun _ => rfl) (fun _ => rfl) (outPort_canonical portDx_canonical)
  | outDxEax => exact .run execOutDxEax (fun _ => rfl) (fun _ => rfl) (atOs_canonical (fun _ => outPort_canonical portDx_canonical))
  | wait => exact .run execWait (fun _ => rfl) (fun _ => rfl) waitOp_canonical
  | fldM32 m => exact .run (execFldM32 m) (fun _ => rfl) (fun _ => rfl) (escMem_canonical (fun _ => fldSingle_canonical))
  | fldM64 m => exact .run (execFldM64 m) (fun _ => rfl) (fun _ => rfl) (escMem_canonical (fun _ => fldDouble_canonical))
  | fldM80 m => exact .run (execFldM80 m) (fun _ => rfl) (fun _ => rfl) (escMem_canonical (fun _ => fldPlain_canonical))
  | fldSti k => exact .run (execFldSti k) (fun _ => rfl) (fun _ => rfl) (escReg_canonical fldReg_canonical)
  | fstM32 m => exact .run (execFstM32 m) (fun _ => rfl) (fun _ => rfl) (escMem_canonical (fun _ => storeMem_canonical))
  | fstM64 m => exact .run (execFstM64 m) (fun _ => rfl) (fun _ => rfl) (escMem_canonical (fun _ => storeMem_canonical))
  | fstSti k => exact .run (execFstSti k) (fun _ => rfl) (fun _ => rfl) (escReg_canonical storeReg_canonical)
  | fstpM32 m => exact .run (execFstpM32 m) (fun _ => rfl) (fun _ => rfl) (escMem_canonical (fun _ => storeMem_canonical))
  | fstpM64 m => exact .run (execFstpM64 m) (fun _ => rfl) (fun _ => rfl) (escMem_canonical (fun _ => storeMem_canonical))
  | fstpM80 m => exact .run (execFstpM80 m) (fun _ => rfl) (fun _ => rfl) (escMem_canonical (fun _ => storeMem_canonical))
  | fstpSti k => exact .run (execFstpSti k) (fun _ => rfl) (fun _ => rfl) (escReg_canonical storeReg_canonical)
  | fxchSti k => exact .run (execFxchSti k) (fun _ => rfl) (fun _ => rfl) (escReg_canonical fxch_canonical)
  | fildM16 m => exact .run (execFildM16 m) (fun _ => rfl) (fun _ => rfl) (escMem_canonical (fun _ => fldPlain_canonical))
  | fildM32 m => exact .run (execFildM32 m) (fun _ => rfl) (fun _ => rfl) (escMem_canonical (fun _ => fldPlain_canonical))
  | fildM64 m => exact .run (execFildM64 m) (fun _ => rfl) (fun _ => rfl) (escMem_canonical (fun _ => fldPlain_canonical))
  | fistM16 m => exact .run (execFistM16 m) (fun _ => rfl) (fun _ => rfl) (escMem_canonical (fun _ => storeMem_canonical))
  | fistM32 m => exact .run (execFistM32 m) (fun _ => rfl) (fun _ => rfl) (escMem_canonical (fun _ => storeMem_canonical))
  | fistpM16 m => exact .run (execFistpM16 m) (fun _ => rfl) (fun _ => rfl) (escMem_canonical (fun _ => storeMem_canonical))
  | fistpM32 m => exact .run (execFistpM32 m) (fun _ => rfl) (fun _ => rfl) (escMem_canonical (fun _ => storeMem_canonical))
  | fistpM64 m => exact .run (execFistpM64 m) (fun _ => rfl) (fun _ => rfl) (escMem_canonical (fun _ => storeMem_canonical))
  | fbldM80 m => exact .run (execFbldM80 m) (fun _ => rfl) (fun _ => rfl) (escMem_canonical (fun _ => fbld_canonical))
  | fbstpM80 m => exact .run (execFbstpM80 m) (fun _ => rfl) (fun _ => rfl) (escMem_canonical (fun _ => fbstp_canonical))
  | faddM32 m => exact .run (execFaddM32 m) (fun _ => rfl) (fun _ => rfl) (escMem_canonical (fun _ => arithSingle_canonical))
  | faddM64 m => exact .run (execFaddM64 m) (fun _ => rfl) (fun _ => rfl) (escMem_canonical (fun _ => arithDouble_canonical))
  | faddStSti k => exact .run (execFaddStSti k) (fun _ => rfl) (fun _ => rfl) (escReg_canonical arithReg_canonical)
  | faddStiSt k => exact .run (execFaddStiSt k) (fun _ => rfl) (fun _ => rfl) (escReg_canonical arithReg_canonical)
  | faddpStiSt k => exact .run (execFaddpStiSt k) (fun _ => rfl) (fun _ => rfl) (escReg_canonical arithReg_canonical)
  | fiaddM32 m => exact .run (execFiaddM32 m) (fun _ => rfl) (fun _ => rfl) (escMem_canonical (fun _ => arithInt_canonical))
  | fiaddM16 m => exact .run (execFiaddM16 m) (fun _ => rfl) (fun _ => rfl) (escMem_canonical (fun _ => arithInt_canonical))
  | fmulM32 m => exact .run (execFmulM32 m) (fun _ => rfl) (fun _ => rfl) (escMem_canonical (fun _ => arithSingle_canonical))
  | fmulM64 m => exact .run (execFmulM64 m) (fun _ => rfl) (fun _ => rfl) (escMem_canonical (fun _ => arithDouble_canonical))
  | fmulStSti k => exact .run (execFmulStSti k) (fun _ => rfl) (fun _ => rfl) (escReg_canonical arithReg_canonical)
  | fmulStiSt k => exact .run (execFmulStiSt k) (fun _ => rfl) (fun _ => rfl) (escReg_canonical arithReg_canonical)
  | fmulpStiSt k => exact .run (execFmulpStiSt k) (fun _ => rfl) (fun _ => rfl) (escReg_canonical arithReg_canonical)
  | fimulM32 m => exact .run (execFimulM32 m) (fun _ => rfl) (fun _ => rfl) (escMem_canonical (fun _ => arithInt_canonical))
  | fimulM16 m => exact .run (execFimulM16 m) (fun _ => rfl) (fun _ => rfl) (escMem_canonical (fun _ => arithInt_canonical))
  | fsubM32 m => exact .run (execFsubM32 m) (fun _ => rfl) (fun _ => rfl) (escMem_canonical (fun _ => arithSingle_canonical))
  | fsubM64 m => exact .run (execFsubM64 m) (fun _ => rfl) (fun _ => rfl) (escMem_canonical (fun _ => arithDouble_canonical))
  | fsubStSti k => exact .run (execFsubStSti k) (fun _ => rfl) (fun _ => rfl) (escReg_canonical arithReg_canonical)
  | fsubStiSt k => exact .run (execFsubStiSt k) (fun _ => rfl) (fun _ => rfl) (escReg_canonical arithReg_canonical)
  | fsubpStiSt k => exact .run (execFsubpStiSt k) (fun _ => rfl) (fun _ => rfl) (escReg_canonical arithReg_canonical)
  | fisubM32 m => exact .run (execFisubM32 m) (fun _ => rfl) (fun _ => rfl) (escMem_canonical (fun _ => arithInt_canonical))
  | fisubM16 m => exact .run (execFisubM16 m) (fun _ => rfl) (fun _ => rfl) (escMem_canonical (fun _ => arithInt_canonical))
  | fsubrM32 m => exact .run (execFsubrM32 m) (fun _ => rfl) (fun _ => rfl) (escMem_canonical (fun _ => arithSingle_canonical))
  | fsubrM64 m => exact .run (execFsubrM64 m) (fun _ => rfl) (fun _ => rfl) (escMem_canonical (fun _ => arithDouble_canonical))
  | fsubrStSti k => exact .run (execFsubrStSti k) (fun _ => rfl) (fun _ => rfl) (escReg_canonical arithReg_canonical)
  | fsubrStiSt k => exact .run (execFsubrStiSt k) (fun _ => rfl) (fun _ => rfl) (escReg_canonical arithReg_canonical)
  | fsubrpStiSt k => exact .run (execFsubrpStiSt k) (fun _ => rfl) (fun _ => rfl) (escReg_canonical arithReg_canonical)
  | fisubrM32 m => exact .run (execFisubrM32 m) (fun _ => rfl) (fun _ => rfl) (escMem_canonical (fun _ => arithInt_canonical))
  | fisubrM16 m => exact .run (execFisubrM16 m) (fun _ => rfl) (fun _ => rfl) (escMem_canonical (fun _ => arithInt_canonical))
  | fdivM32 m => exact .run (execFdivM32 m) (fun _ => rfl) (fun _ => rfl) (escMem_canonical (fun _ => arithSingle_canonical))
  | fdivM64 m => exact .run (execFdivM64 m) (fun _ => rfl) (fun _ => rfl) (escMem_canonical (fun _ => arithDouble_canonical))
  | fdivStSti k => exact .run (execFdivStSti k) (fun _ => rfl) (fun _ => rfl) (escReg_canonical arithReg_canonical)
  | fdivStiSt k => exact .run (execFdivStiSt k) (fun _ => rfl) (fun _ => rfl) (escReg_canonical arithReg_canonical)
  | fdivpStiSt k => exact .run (execFdivpStiSt k) (fun _ => rfl) (fun _ => rfl) (escReg_canonical arithReg_canonical)
  | fidivM32 m => exact .run (execFidivM32 m) (fun _ => rfl) (fun _ => rfl) (escMem_canonical (fun _ => arithInt_canonical))
  | fidivM16 m => exact .run (execFidivM16 m) (fun _ => rfl) (fun _ => rfl) (escMem_canonical (fun _ => arithInt_canonical))
  | fdivrM32 m => exact .run (execFdivrM32 m) (fun _ => rfl) (fun _ => rfl) (escMem_canonical (fun _ => arithSingle_canonical))
  | fdivrM64 m => exact .run (execFdivrM64 m) (fun _ => rfl) (fun _ => rfl) (escMem_canonical (fun _ => arithDouble_canonical))
  | fdivrStSti k => exact .run (execFdivrStSti k) (fun _ => rfl) (fun _ => rfl) (escReg_canonical arithReg_canonical)
  | fdivrStiSt k => exact .run (execFdivrStiSt k) (fun _ => rfl) (fun _ => rfl) (escReg_canonical arithReg_canonical)
  | fdivrpStiSt k => exact .run (execFdivrpStiSt k) (fun _ => rfl) (fun _ => rfl) (escReg_canonical arithReg_canonical)
  | fidivrM32 m => exact .run (execFidivrM32 m) (fun _ => rfl) (fun _ => rfl) (escMem_canonical (fun _ => arithInt_canonical))
  | fidivrM16 m => exact .run (execFidivrM16 m) (fun _ => rfl) (fun _ => rfl) (escMem_canonical (fun _ => arithInt_canonical))
  | fcomM32 m => exact .run (execFcomM32 m) (fun _ => rfl) (fun _ => rfl) (escMem_canonical (fun _ => compareSingle_canonical))
  | fcomM64 m => exact .run (execFcomM64 m) (fun _ => rfl) (fun _ => rfl) (escMem_canonical (fun _ => compareDouble_canonical))
  | fcomSti k => exact .run (execFcomSti k) (fun _ => rfl) (fun _ => rfl) (escReg_canonical compareReg_canonical)
  | fcompM32 m => exact .run (execFcompM32 m) (fun _ => rfl) (fun _ => rfl) (escMem_canonical (fun _ => compareSingle_canonical))
  | fcompM64 m => exact .run (execFcompM64 m) (fun _ => rfl) (fun _ => rfl) (escMem_canonical (fun _ => compareDouble_canonical))
  | fcompSti k => exact .run (execFcompSti k) (fun _ => rfl) (fun _ => rfl) (escReg_canonical compareReg_canonical)
  | fcompp => exact .run execFcompp (fun _ => rfl) (fun _ => rfl) (escReg_canonical compareReg_canonical)
  | fucomSti k => exact .run (execFucomSti k) (fun _ => rfl) (fun _ => rfl) (escReg_canonical compareReg_canonical)
  | fucompSti k => exact .run (execFucompSti k) (fun _ => rfl) (fun _ => rfl) (escReg_canonical compareReg_canonical)
  | fucompp => exact .run execFucompp (fun _ => rfl) (fun _ => rfl) (escReg_canonical compareReg_canonical)
  | ficomM16 m => exact .run (execFicomM16 m) (fun _ => rfl) (fun _ => rfl) (escMem_canonical (fun _ => compareInt_canonical))
  | ficomM32 m => exact .run (execFicomM32 m) (fun _ => rfl) (fun _ => rfl) (escMem_canonical (fun _ => compareInt_canonical))
  | ficompM16 m => exact .run (execFicompM16 m) (fun _ => rfl) (fun _ => rfl) (escMem_canonical (fun _ => compareInt_canonical))
  | ficompM32 m => exact .run (execFicompM32 m) (fun _ => rfl) (fun _ => rfl) (escMem_canonical (fun _ => compareInt_canonical))
  | ftst => exact .run execFtst (fun _ => rfl) (fun _ => rfl) (escReg_canonical compareWith_canonical)
  | fxam => exact .run execFxam (fun _ => rfl) (fun _ => rfl) (escReg_canonical fxam_canonical)
  | fsqrt => exact .run execFsqrt (fun _ => rfl) (fun _ => rfl) (escReg_canonical fsqrt_canonical)
  | fscale => exact .run execFscale (fun _ => rfl) (fun _ => rfl) (escReg_canonical fscale_canonical)
  | fxtract => exact .run execFxtract (fun _ => rfl) (fun _ => rfl) (escReg_canonical fxtract_canonical)
  | fprem => exact .run execFprem (fun _ => rfl) (fun _ => rfl) (escReg_canonical fprem_canonical)
  | fprem1 => exact .run execFprem1 (fun _ => rfl) (fun _ => rfl) (escReg_canonical fprem_canonical)
  | frndint => exact .run execFrndint (fun _ => rfl) (fun _ => rfl) (escReg_canonical unary_canonical)
  | fabs => exact .run execFabs (fun _ => rfl) (fun _ => rfl) (escReg_canonical signOp_canonical)
  | fchs => exact .run execFchs (fun _ => rfl) (fun _ => rfl) (escReg_canonical signOp_canonical)
  | fld1 => exact .run execFld1 (fun _ => rfl) (fun _ => rfl) (escReg_canonical fldConst_canonical)
  | fldl2t => exact .run execFldl2t (fun _ => rfl) (fun _ => rfl) (escReg_canonical fldConst_canonical)
  | fldl2e => exact .run execFldl2e (fun _ => rfl) (fun _ => rfl) (escReg_canonical fldConst_canonical)
  | fldpi => exact .run execFldpi (fun _ => rfl) (fun _ => rfl) (escReg_canonical fldConst_canonical)
  | fldlg2 => exact .run execFldlg2 (fun _ => rfl) (fun _ => rfl) (escReg_canonical fldConst_canonical)
  | fldln2 => exact .run execFldln2 (fun _ => rfl) (fun _ => rfl) (escReg_canonical fldConst_canonical)
  | fldz => exact .run execFldz (fun _ => rfl) (fun _ => rfl) (escReg_canonical fldConst_canonical)
  | fsin => exact .run execFsin (fun _ => rfl) (fun _ => rfl) (escReg_canonical trig_canonical)
  | fcos => exact .run execFcos (fun _ => rfl) (fun _ => rfl) (escReg_canonical trig_canonical)
  | fsincos => exact .run execFsincos (fun _ => rfl) (fun _ => rfl) (escReg_canonical (trigPush_canonical (fun _ => cosOf_canonical)))
  | fptan => exact .run execFptan (fun _ => rfl) (fun _ => rfl) (escReg_canonical (trigPush_canonical (fun _ => oneOf_canonical)))
  | fpatan => exact .run execFpatan (fun _ => rfl) (fun _ => rfl) (escReg_canonical transPop_canonical)
  | f2xm1 => exact .run execF2xm1 (fun _ => rfl) (fun _ => rfl) (escReg_canonical f2xm1_canonical)
  | fyl2x => exact .run execFyl2x (fun _ => rfl) (fun _ => rfl) (escReg_canonical transPop_canonical)
  | fyl2xp1 => exact .run execFyl2xp1 (fun _ => rfl) (fun _ => rfl) (escReg_canonical transPop_canonical)
  | fninit => exact .run execFninit (fun _ => rfl) (fun _ => rfl) fninitOp_canonical
  | fnclex => exact .run execFnclex (fun _ => rfl) (fun _ => rfl) fnclexOp_canonical
  | fnstswAx => exact .run execFnstswAx (fun _ => rfl) (fun _ => rfl) fnstswAxOp_canonical
  | fincstp => exact .run execFincstp (fun _ => rfl) (fun _ => rfl) (escReg_canonical moveTop_canonical)
  | fdecstp => exact .run execFdecstp (fun _ => rfl) (fun _ => rfl) (escReg_canonical moveTop_canonical)
  | fnop => exact .run execFnop (fun _ => rfl) (fun _ => rfl) (escReg_canonical .pure)
  | feni => exact .run execFeni (fun _ => rfl) (fun _ => rfl) legacyNop_canonical
  | fdisi => exact .run execFdisi (fun _ => rfl) (fun _ => rfl) legacyNop_canonical
  | fsetpm => exact .run execFsetpm (fun _ => rfl) (fun _ => rfl) legacyNop_canonical
  | fldcwM16 m => exact .run (execFldcwM16 m) (fun _ => rfl) (fun _ => rfl) fldcwOp_canonical
  | fnstcwM16 m => exact .run (execFnstcwM16 m) (fun _ => rfl) (fun _ => rfl) storeWord_canonical
  | fnstswM16 m => exact .run (execFnstswM16 m) (fun _ => rfl) (fun _ => rfl) storeWord_canonical
  | fnstenvM m => exact .run (execFnstenvM m) (fun _ => rfl) (fun _ => rfl) fnstenvOp_canonical
  | fldenvM m => exact .run (execFldenvM m) (fun _ => rfl) (fun _ => rfl) fldenvOp_canonical
  | fnsaveM m => exact .run (execFnsaveM m) (fun _ => rfl) (fun _ => rfl) fnsaveOp_canonical
  | frstorM m => exact .run (execFrstorM m) (fun _ => rfl) (fun _ => rfl) frstorOp_canonical
  | ffreeSti k => exact .run (execFfreeSti k) (fun _ => rfl) (fun _ => rfl) (escReg_canonical (.bind modifyFpu_canonical fun _ =>
    drawCc_canonical))
  | finit => exact .wait execFinit (fun _ => rfl) (fun _ => rfl) fninitOp_canonical
  | fclex => exact .wait execFclex (fun _ => rfl) (fun _ => rfl) fnclexOp_canonical
  | fstswAx => exact .wait execFstswAx (fun _ => rfl) (fun _ => rfl) fnstswAxOp_canonical
  | fstcwM16 m => exact .wait (execFstcwM16 m) (fun _ => rfl) (fun _ => rfl) storeWord_canonical
  | fstswM16 m => exact .wait (execFstswM16 m) (fun _ => rfl) (fun _ => rfl) storeWord_canonical
  | fstenvM m => exact .wait (execFstenvM m) (fun _ => rfl) (fun _ => rfl) fnstenvOp_canonical
  | fsaveM m => exact .wait (execFsaveM m) (fun _ => rfl) (fun _ => rfl) fnsaveOp_canonical
  | prefixEs => nomatch hi
  | prefixCs => nomatch hi
  | prefixSs => nomatch hi
  | prefixDs => nomatch hi
  | prefixFs => nomatch hi
  | prefixGs => nomatch hi
  | prefixOpSize => nomatch hi
  | prefixAdSize => nomatch hi
  | prefixLock => nomatch hi
  | prefixRepne => nomatch hi
  | prefixRep => nomatch hi

/-- An outcome of a step that began with memory canonical or not: no fault of the machine, and a next state at an instruction boundary. -/
def EndsWell (canonical : Prop) (o : Host.Outcome State Fault Refusal) : Prop :=
  (∀ f, o ≠ .fault f) ∧ ∀ t, o = .next t → t.cur = Latch.empty ∧ (canonical → Memory.wf t.mem = true)

theorem EndsWell.next {p : Prop} {t : State} (hc : t.cur = Latch.empty) (hm : p → Memory.wf t.mem = true) : EndsWell p (.next t) :=
  ⟨(fun _ h => nomatch h), fun u h => by cases h; exact ⟨hc, hm⟩⟩

theorem EndsWell.refused {p : Prop} {r : Refusal} : EndsWell p (.refused r) := ⟨(fun _ h => nomatch h), (fun _ h => nomatch h)⟩

theorem EndsWell.mono {p q : Prop} {o : Host.Outcome State Fault Refusal} (h : EndsWell p o) (hpq : q → p) : EndsWell q o :=
  ⟨h.1, fun t ht => ⟨(h.2 t ht).1, fun hq => (h.2 t ht).2 (hpq hq)⟩⟩

/-- A delivery, whatever is met on the way. -/
theorem deliver_endsWell (k : Nat) (ev : Event) (s : State) : EndsWell (Memory.wf s.mem = true) (deliver k ev s) := by
  induction k generalizing ev s with
  | zero => exact .next rfl id
  | succ k ih =>
    have hmem := deliverOnce_canonical (ev := ev) s
    unfold deliver
    split
    case h_1 _ t h => exact .next rfl fun hs => by simpa [h, endState] using hmem hs
    case h_2 => exact .refused
    case h_3 e t h =>
      have hbase : Memory.wf s.mem = true → Memory.wf
          (if t.cur.committed then { t with cur := { t.cur with committed := false, bt := false } } else rollback s t).mem = true :=
        fun hs => by rw [h] at hmem; split <;> exact hmem hs
      dsimp only
      split
      · exact .next rfl hbase
      · exact (ih _ _).mono hbase
    case h_4 t _ _ h => exact .next rfl fun hs => by simpa [h, endState] using hmem hs

/-- The run of a canonical computation. -/
theorem runInstr_endsWell {body : M Unit} (hb : Canonical body) (s : State) : EndsWell (Memory.wf s.mem = true) (runInstr body s) := by
  have hmem := hb s.enter
  unfold runInstr
  split <;> rename_i h <;> rw [h] at hmem
  · exact .next rfl hmem
  · split
    · exact (deliver_endsWell _ _ _).mono hmem
    · exact (deliver_endsWell _ _ _).mono hmem
  · exact (deliver_endsWell _ _ _).mono hmem
  · exact .refused
  · exact .next rfl hmem
  · exact .next rfl hmem

/-- A WAIT and what it is joined to. -/
theorem waitThen_endsWell {body : M Unit} (hb : Canonical body) (s : State) : EndsWell (Memory.wf s.mem = true) (waitThen body s) := by
  have hmem := waitOp_canonical ({ s with cur := { s.cur with len := 1 } } : State).enter
  unfold waitThen
  dsimp only
  split
  case h_1 t h =>
    rw [h] at hmem
    split
    · exact (runInstr_endsWell hb _).mono hmem
    · exact .next rfl hmem
  case h_2 => exact runInstr_endsWell waitOp_canonical _

theorem exec_endsWell {i : Instr} (hi : prefixEffect i = none) (s : State) : EndsWell (Memory.wf s.mem = true) (exec i s) := by
  cases runsCanonical i hi with
  | run _ hi h hb => rw [hi, h]; exact runInstr_endsWell hb s
  | wait _ hi h hb => rw [hi, h]; exact waitThen_endsWell hb s

/-! ## The instruction that is fetched -/

/-- What is read at CS:EIP is no prefix. -/
theorem scanInstr_not_prefix {k : Nat} {acc : List Byte} {s t : State} {i : Instr} (h : scanInstr k acc s = .ok (.instr i) t) :
    prefixEffect i = none := by
  induction k generalizing acc s with
  | zero => nomatch h
  | succ k ih =>
    rw [scanInstr, get_bind, bind_eq_ok] at h
    obtain ⟨b, u, -, h⟩ := h
    rw [bind_eq_ok] at h
    obtain ⟨_, v, -, h⟩ := h
    cases hd : decodeOne s.os s.as (acc ++ [b]) with
    | more => rw [hd] at h; exact ih h
    | bad w => rw [hd] at h; nomatch h
    | ok j rest =>
      rw [hd] at h
      cases hp : prefixEffect j with
      | some f =>
        simp only [hp, bind_eq_ok] at h
        obtain ⟨_, _, -, h⟩ := h
        exact ih h
      | none =>
        simp only [hp, bind_eq_ok, modify_bind] at h
        obtain ⟨_, _, -, h⟩ := h
        cases h
        exact hp

/-- The gate lets through what was read. -/
theorem gate_eq_ok {f : Fetched} {s t : State} {i : Instr} (h : gate f s = .ok i t) : f = .instr i := by
  rw [gate, get_bind] at h
  split at h
  · nomatch h
  · rcases f with i' | w
    · cases hr : s.cur.rep with
      | none =>
        simp only [hr] at h
        split at h
        · nomatch h
        · cases h; rfl
      | some r =>
        simp only [hr] at h
        split at h
        · nomatch h
        · split at h
          · cases h; rfl
          · nomatch h
    · cases w <;> nomatch h

/-- What is joined to a WAIT is no prefix. -/
theorem decodeAfterWait_not_prefix {os as : Size} {bs rest : List Byte} {i : Instr} (h : decodeAfterWait os as bs = .ok i rest) :
    prefixEffect i = none := by
  cases bs with
  | nil => nomatch h
  | cons b bs =>
    simp only [decodeAfterWait, parseAfterWait, runParse] at h
    split at h
    · split at h <;> first | (cases h; rfl) | nomatch h
    · nomatch h

theorem scanAfterWait_not_prefix {k : Nat} {acc : List Byte} {s t : State} {i : Instr} (h : scanAfterWait k acc s = .ok (some i) t) :
    prefixEffect i = none := by
  induction k generalizing acc s with
  | zero => nomatch h
  | succ k ih =>
    rw [scanAfterWait, get_bind, bind_eq_ok] at h
    obtain ⟨b, u, -, h⟩ := h
    rw [bind_eq_ok] at h
    obtain ⟨_, v, -, h⟩ := h
    cases hd : decodeAfterWait s.os s.as (acc ++ [b]) with
    | more => rw [hd] at h; exact ih h
    | bad w => rw [hd] at h; nomatch h
    | ok j rest =>
      simp only [hd, bind_eq_ok] at h
      obtain ⟨_, _, -, h⟩ := h
      cases h
      exact decodeAfterWait_not_prefix hd

theorem joinWait_not_prefix {i j : Instr} {s t : State} (hi : prefixEffect i = none) (h : joinWait i s = .ok j t) : prefixEffect j = none := by
  rw [joinWait, get_bind] at h
  split at h
  · cases hw : scanAfterWait 14 [] s with
    | ok o u =>
      rw [hw] at h
      cases o with
      | some k => cases h; exact scanAfterWait_not_prefix hw
      | none => cases h; exact hi
    | error e u => rw [hw] at h; cases h; exact hi
  · cases h; exact hi

theorem fetchInstr_not_prefix {s t : State} {i : Instr} (h : fetchInstr s = .ok i t) : prefixEffect i = none := by
  rw [fetchInstr, modify_bind, bind_eq_ok] at h
  obtain ⟨f, u, hf, h⟩ := h
  rw [bind_eq_ok] at h
  obtain ⟨j, v, hg, hj⟩ := h
  rw [gate_eq_ok hg] at hf
  exact joinWait_not_prefix (scanInstr_not_prefix hf) hj

theorem withUnit_mem (i : Instr) (s : State) : (withUnit i s).mem = s.mem := by
  unfold withUnit
  split <;> rfl

/-! ## The step -/

/-- The instruction at CS:EIP. -/
theorem runNext_endsWell (s : State) : EndsWell (Memory.wf s.mem = true) (runNext s) := by
  have hmem := fetchInstr_canonical s
  unfold runNext
  split <;> rename_i h
  · rw [h] at hmem
    exact (exec_endsWell (fetchInstr_not_prefix h) _).mono fun hs => by rw [withUnit_mem]; exact hmem hs
  · rw [h] at hmem
    exact (deliver_endsWell _ _ _).mono hmem
  · exact .refused
  · exfalso
    obtain ⟨_, rfl⟩ | ⟨_, rfl⟩ := fetchInstr_stops h
    · rename_i hx _
      exact hx _ rfl
    · rename_i hx
      exact hx _ rfl

/-! ## The boundary -/

/-- A computation that leaves the latch alone, whether it ends or stops. -/
def KeepsLatch {α : Type} (m : M α) : Prop := ∀ s : State, (endState (m s)).cur = s.cur

theorem KeepsLatch.bind {α β : Type} {m : M α} {f : α → M β} (hm : KeepsLatch m) (hf : ∀ a, KeepsLatch (f a)) : KeepsLatch (m >>= f) :=
  fun s => by
    have hs := hm s
    rw [bind_run]
    cases hr : m s with
    | ok a t =>
      rw [hr] at hs
      exact (hf a t).trans hs
    | error e t =>
      rw [hr] at hs
      exact hs

theorem physRead_keepsLatch (a : Word) : KeepsLatch (physReadByte a) := fun s => by
  obtain ⟨_, _, _, h, -⟩ := physReadByte_run a s
  rw [h]
  rfl

theorem physBytes_keepsLatch (ps : List Word) : KeepsLatch (physBytes ps) := by
  induction ps with
  | nil => exact fun _ => rfl
  | cons a as ih => exact .bind (physRead_keepsLatch a) fun _ => .bind ih fun _ _ => rfl

theorem physWrite_keepsLatch (a : Word) (n v : Nat) : KeepsLatch (physWrite a n v) := fun s => by
  obtain ⟨t, h, hm, -⟩ := store_effect (consecutive a n) v s
  rw [physWrite, h]
  unfold OnlyMem at hm
  rw [hm]
  rfl

theorem physWriteWords_keepsLatch (a : Word) (vs : List Nat) : KeepsLatch (physWriteWords a vs) := by
  induction vs generalizing a with
  | nil => exact fun _ => rfl
  | cons v vs ih => exact .bind (physWrite_keepsLatch _ _ _) fun _ => ih _

/-- Entering system management mode leaves the latch as it was (R1451 to R1455). -/
theorem smmEntry_keepsLatch : KeepsLatch smmEntry := fun s =>
  KeepsLatch.bind (physWriteWords_keepsLatch _ _) (fun _ => .bind (physWrite_keepsLatch _ _ _) fun _ => .bind (physWrite_keepsLatch _ _ _)
    fun _ => .bind (physWrite_keepsLatch _ _ _) fun _ => .bind (physWrite_keepsLatch _ _ _) fun _ =>
    .bind (.bind (fun _ => rfl) fun _ => .bind (physBytes_keepsLatch _) fun _ => .bind (fun _ => rfl) fun _ _ => rfl) fun _ =>
    .bind (fun _ => rfl) fun _ => .bind (fun _ => rfl) fun _ => .bind (fun _ => rfl) fun _ => .bind (fun _ => rfl) fun _ =>
    .bind (fun _ => rfl) fun _ => .bind (fun _ => rfl) fun _ _ => rfl) s

/-- An outcome of a step that began at an instruction boundary or not, with memory canonical or not. -/
def EndsAsBegun (atBoundary canonical : Prop) (o : Host.Outcome State Fault Refusal) : Prop :=
  (∀ f, o ≠ .fault f) ∧ ∀ t, o = .next t → (atBoundary → t.cur = Latch.empty) ∧ (canonical → Memory.wf t.mem = true)

theorem EndsWell.asBegun {p q : Prop} {o : Host.Outcome State Fault Refusal} (h : EndsWell p o) : EndsAsBegun q p o :=
  ⟨h.1, fun t ht => ⟨fun _ => (h.2 t ht).1, (h.2 t ht).2⟩⟩

theorem EndsAsBegun.next {p q : Prop} {t : State} (hc : q → t.cur = Latch.empty) (hm : p → Memory.wf t.mem = true) :
    EndsAsBegun q p (.next t) :=
  ⟨(fun _ h => nomatch h), fun u h => by cases h; exact ⟨hc, hm⟩⟩

/-- What an outcome of the machine in `s` must be. -/
abbrev EndsFrom (s : State) (o : Host.Outcome State Fault Refusal) : Prop := EndsAsBegun (s.cur = Latch.empty) (Memory.wf s.mem = true) o

theorem takeSmi_ends (s : State) : EndsFrom s s.takeSmi := by
  have hl := smmEntry_keepsLatch s
  have hm := smmEntry_canonical s
  unfold State.takeSmi
  split <;> rename_i h <;> rw [h] at hl hm <;> exact .next (fun hs => hl.trans hs) hm

/-- A debug trap, a machine check, an interrupt or an instruction breakpoint. -/
theorem interrupts_ends {s : State} {o : Host.Outcome State Fault Refusal} (h : s.interrupts = some o) : EndsFrom s o := by
  have delivered (ev : Event) (t : State) (ht : t.mem = s.mem) : EndsFrom s (deliver deliverFuel ev t) :=
    ((deliver_endsWell _ ev t).mono fun hs => ht ▸ hs).asBegun
  unfold State.interrupts at h
  split at h
  · cases h; exact .next id id
  · split at h
    · cases h; exact delivered _ _ rfl
    · split at h
      · cases h; exact delivered _ _ rfl
      · split at h
        · cases h; exact delivered _ _ rfl
        · split at h
          · cases h; exact delivered _ _ rfl
          · split at h
            · cases h; exact delivered _ _ rfl
            · nomatch h

theorem boundary_ends {s : State} {o : Host.Outcome State Fault Refusal} (h : s.boundary = some o) : EndsFrom s o := by
  unfold State.boundary at h
  split at h
  · cases h; exact .next (fun _ => rfl) id
  · split at h
    · cases h; exact .next (fun _ => rfl) id
    · split at h
      · split at h
        · cases h; exact (deliver_endsWell _ _ _).asBegun
        · cases h; exact .next id id
      · split at h
        · cases h; exact takeSmi_ends s
        · exact interrupts_ends h

/-- EVERY STEP ends at an instruction boundary if it began at one, keeps memory canonical, and is no fault of the machine. -/
theorem step_ends (s : State) : EndsFrom s (step s) := by
  unfold step
  split
  case h_1 h => exact boundary_ends (s := s.begin) h
  case h_2 => exact (runNext_endsWell _).asBegun

/-- Settles O54: every computation of the model keeps the list of cells in canonical form (`Canonical`), so every instruction, delivery and
boundary event does. -/
theorem memoryStaysCanonical : Obligations.MemoryStaysCanonical :=
  fun s t hs h => ((step_ends s).2 t h).2 hs

/-- Settles O56: an instruction ends in `State.complete`, a delivery in `delivered`, `undelivered` or `shutdown`, all with an empty latch, and the
fetch stops only with exceptions and refusals. -/
theorem stepsEndAtBoundaries : Obligations.StepsEndAtBoundaries :=
  ⟨fun s t hs h => ((step_ends s).2 t h).1 hs, fun s => (step_ends s).1⟩

/-- Settles O55: nothing is listed in memory after RESET, and the latch is empty. -/
theorem resetIsCanonical : Obligations.ResetIsCanonical := ⟨rfl, rfl⟩

end Sys2Proof.Laws

end

section
/-! The flags of additions and subtractions are those of the exact result (10_state.md R105). -/

namespace Sys2Proof.Laws

open Sys2Proof Sys2Proof.Machine Sys2Proof.Claims

/-- The parity of eight bits: their exclusive or is 0 when an even number of them is set. -/
theorem xor_of_eight_bits : ∀ b0 b1 b2 b3 b4 b5 b6 b7 : Bool, (!(b0 ^^ b1 ^^ b2 ^^ b3 ^^ b4 ^^ b5 ^^ b6 ^^ b7)) = true ↔
    (b7.toNat + (b6.toNat + (b5.toNat + (b4.toNat + (b3.toNat + (b2.toNat + (b1.toNat + b0.toNat))))))) % 2 = 0 := by
  decide

/-- PF counts the bits of the low byte. -/
theorem evenParity_iff {w : Nat} (r : BitVec w) :
    evenParity (r.setWidth 8) = true ↔ ((List.range 8).filter fun j => r.getLsbD j).length % 2 = 0 := by
  have count (b : Bool) : (if b = true then 1 else 0) = b.toNat := by cases b <;> rfl
  simp only [evenParity, bit, BitVec.getLsbD_setWidth, Nat.reduceLT, decide_true, Bool.true_and, xor_of_eight_bits]
  rw [← List.countP_eq_length_filter, show List.range 8 = [0, 1, 2, 3, 4, 5, 6, 7] from rfl]
  simp only [List.countP_cons, List.countP_nil, count, Nat.zero_add, Nat.add_assoc]

section
variable {w : Nat} (a b : BitVec w) (c : Bool)

/-- OF of an addition: both operands have the same sign and the result has the other one. -/
theorem add_overflow_iff (hw : w = 8 ∨ w = 16 ∨ w = 32) :
    (a.msb == b.msb && (a + b + BitVec.ofNat w c.toNat).msb != a.msb) = true ↔
      a.toInt + b.toInt + c.toNat < -(2 ^ (w - 1)) ∨ 2 ^ (w - 1) ≤ a.toInt + b.toInt + c.toNat := by
  have hc : c.toNat ≤ 1 := c.toNat_le
  have ha := a.isLt
  have hb := b.isLt
  simp only [BitVec.msb_eq_decide, BitVec.toInt_eq_toNat_cond, BitVec.toNat_add, BitVec.toNat_ofNat, Bool.and_eq_true, beq_iff_eq,
    bne_iff_ne, ne_eq, decide_eq_decide]
  rcases hw with rfl | rfl | rfl <;> simp only [Nat.reducePow, Nat.reduceSub, Int.reducePow] at * <;> split <;> split <;> omega

/-- OF of a subtraction: the operands have different signs and the result has not that of the first. -/
theorem sub_overflow_iff (hw : w = 8 ∨ w = 16 ∨ w = 32) :
    (a.msb != b.msb && (a - b - BitVec.ofNat w c.toNat).msb != a.msb) = true ↔
      a.toInt - b.toInt - c.toNat < -(2 ^ (w - 1)) ∨ 2 ^ (w - 1) ≤ a.toInt - b.toInt - c.toNat := by
  have hc : c.toNat ≤ 1 := c.toNat_le
  have ha := a.isLt
  have hb := b.isLt
  simp only [BitVec.msb_eq_decide, BitVec.toInt_eq_toNat_cond, BitVec.toNat_sub, BitVec.toNat_ofNat, Bool.and_eq_true,
    bne_iff_ne, ne_eq, decide_eq_decide]
  rcases hw with rfl | rfl | rfl <;> simp only [Nat.reducePow, Nat.reduceSub, Int.reducePow] at * <;> split <;> split <;> omega

end

theorem beq_zero_iff {w : Nat} (r : BitVec w) : (r == 0) = true ↔ r.toNat = 0 := by
  rw [beq_iff_eq, ← BitVec.toNat_inj]
  simp

/-- Settles O57. -/
theorem arithmeticFlags : Obligations.ArithmeticFlags := by
  intro w f a b c hw
  have sign (r : BitVec w) : r.msb = true ↔ r.toInt < 0 := by rw [BitVec.msb_eq_toInt, decide_eq_true_iff]
  exact ⟨⟨rfl, decide_eq_true_iff, add_overflow_iff a b c hw, decide_eq_true_iff, beq_zero_iff _, sign _, evenParity_iff _⟩,
    rfl, decide_eq_true_iff, sub_overflow_iff a b c hw, decide_eq_true_iff, beq_zero_iff _, sign _, evenParity_iff _⟩

end Sys2Proof.Laws

end

section
/-! Words of the encoding rules, and what the prefixes put into the latch (30_encoding.md R400 to R450). -/

namespace Sys2Proof.Laws

open Sys2Proof Sys2Proof.Machine Sys2Proof.Claims

/-- Settles O50: the words by running the decoder, the prefixes by their meanings. -/
theorem decodeWords : Obligations.DecodeWords := by
  refine ⟨rfl, rfl, rfl, rfl, rfl, rfl, rfl, rfl, rfl, rfl, rfl, rfl, rfl, rfl, fun s => ⟨?_, rfl, rfl, rfl, ?_⟩⟩
  · simp only [List.forall_mem_cons, List.not_mem_nil, false_implies, implies_true, and_true]
    exact ⟨rfl, rfl, rfl, rfl, rfl, rfl⟩
  · simp only [List.forall_mem_cons, List.not_mem_nil, false_implies, implies_true, and_true]
    exact ⟨rfl, rfl⟩

end Sys2Proof.Laws

end

section
/-! Decoding is the inverse of encoding (30_encoding.md): each part of an encoding is read back by the item of the decoder that asks for it, and no
shorter part of it is; then every instruction. -/

noncomputable section

namespace Sys2Proof.Laws

open Sys2Proof Sys2Proof.Machine Sys2Proof.Claims

/-! ## Cut short, a field is not read -/

/-- A field of an instruction's size. -/
theorem takeSized_take (sz : Size) (v : Word) (n : Nat) (h : n < (encSized sz v).length) : takeSized sz ((encSized sz v).take n) = none := by
  cases sz
  · match n, h with
    | 0, _ => rfl
    | 1, _ => rfl
    | _ + 2, h => simp [encSized, enc16] at h
  · match n, h with
    | 0, _ => rfl
    | 1, _ => rfl
    | 2, _ => rfl
    | 3, _ => rfl
    | _ + 4, h => simp [encSized, enc32] at h

/-- A displacement. -/
theorem takeDisp_take (as : Size) (d : Disp) (needed : Bool) (n : Nat) (h : d.wf as needed = true) (hn : n < d.enc.length) :
    takeDisp as d.mod (d.enc.take n) = none := by
  cases d with
  | none => simp [Disp.enc] at hn
  | d8 v =>
    obtain rfl : n = 0 := by simpa [Disp.enc] using hn
    rfl
  | d16 v =>
    obtain rfl : as = .s16 := by simpa [Disp.wf] using h
    match n, hn with
    | 0, _ => rfl
    | 1, _ => rfl
    | _ + 2, hn => simp [Disp.enc, enc16] at hn
  | d32 v =>
    obtain rfl : as = .s32 := by simpa [Disp.wf] using h
    match n, hn with
    | 0, _ => rfl
    | 1, _ => rfl
    | 2, _ => rfl
    | 3, _ => rfl
    | _ + 4, hn => simp [Disp.enc, enc32] at hn

/-- [BP] and [EBP] have no form without a displacement, so `mod` and `rm` do not name the direct address. -/
theorem not_direct {as : Size} {d : Disp} {needed : Bool} {n direct : BitVec 3} (hd : d.wf as needed = true)
    (hb : n = direct → needed = true) : ¬ (d.mod = 0#2 ∧ n = direct) := by
  rintro ⟨h0, hn⟩
  rw [hb hn] at hd
  exact disp_mod_ne_zero hd h0

/-- ModR/M, SIB and displacement of a memory operand. -/
theorem takeModrm_mem_take (as : Size) (m : MemOp) (reg : BitVec 3) (n : Nat) (h : m.wf as = true) (hn : n < (m.enc reg).length) :
    takeModrm as ((m.enc reg).take n) = none := by
  cases n with
  | zero => rfl
  | succ n =>
    cases m with
    | direct16 d =>
      obtain rfl : as = .s16 := by simpa [MemOp.wf] using h
      match n, hn with
      | 0, _ => simp [MemOp.enc, takeModrm, takeMem16]
      | 1, _ => simp [MemOp.enc, enc16, takeModrm, takeMem16]
      | _ + 2, hn =>
        simp only [MemOp.enc, enc16, List.length_cons, List.length_nil] at hn
        omega
    | direct32 d =>
      obtain rfl : as = .s32 := by simpa [MemOp.wf] using h
      have := takeSized_take .s32 d n (by simpa [MemOp.enc, encSized] using hn)
      simp only [encSized] at this
      simp [MemOp.enc, takeModrm, takeMem32, this]
    | sibNoBase s i d =>
      obtain rfl : as = .s32 := by simpa [MemOp.wf] using h
      cases n with
      | zero => simp [MemOp.enc, takeModrm, takeMem32]
      | succ n =>
        have := takeSized_take .s32 d n (by simpa [MemOp.enc, encSized] using hn)
        simp only [encSized] at this
        simp [MemOp.enc, takeModrm, takeMem32, this]
    | base16 b d =>
      simp only [MemOp.wf, Bool.and_eq_true, beq_iff_eq] at h
      obtain ⟨rfl, hd⟩ := h
      have h6 := not_direct (n := b.num) (direct := 6#3) hd (by cases b <;> decide)
      have := takeDisp_take .s16 d _ n hd (by simpa [MemOp.enc] using hn)
      simp [MemOp.enc, takeModrm, takeMem16, disp_mod_ne_three, h6, this]
    | base32 b d =>
      simp only [MemOp.wf, Bool.and_eq_true, beq_iff_eq, bne_iff_ne, ne_eq] at h
      obtain ⟨⟨rfl, hb⟩, hd⟩ := h
      have h5 := not_direct (n := b.num) (direct := 5#3) hd (by cases b <;> decide)
      have h4 : b.num ≠ 4#3 := by cases b <;> first | exact absurd rfl hb | decide
      have := takeDisp_take .s32 d _ n hd (by simpa [MemOp.enc] using hn)
      simp [MemOp.enc, takeModrm, takeMem32, disp_mod_ne_three, h5, h4, this]
    | sib s i b d =>
      simp only [MemOp.wf, Bool.and_eq_true, beq_iff_eq] at h
      obtain ⟨rfl, hd⟩ := h
      cases n with
      | zero => simp [MemOp.enc, takeModrm, takeMem32, disp_mod_ne_three]
      | succ n =>
        have h5 := not_direct (n := b.num) (direct := 5#3) hd (by cases b <;> decide)
        have := takeDisp_take .s32 d _ n hd (by simpa [MemOp.enc] using hn)
        simp [MemOp.enc, takeModrm, takeMem32, disp_mod_ne_three, h5, this]

/-- ModR/M and what it brings. -/
theorem takeModrm_take (as : Size) (rm : RM) (reg : BitVec 3) (n : Nat) (h : rm.wf as = true) (hn : n < (rm.enc reg).length) :
    takeModrm as ((rm.enc reg).take n) = none := by
  cases rm with
  | reg r =>
    obtain rfl : n = 0 := by simpa [RM.enc] using hn
    rfl
  | mem m => exact takeModrm_mem_take as m reg n h hn

/-! ## Parts of an encoding -/

section
variable {os as : Size} {bs : List Byte} {i : Instr}

/-- The decoder, having come to `p`, reads the instruction `i` from the bytes `bs`, whatever follows, and from no shorter part of them. -/
def Parses (os as : Size) (p : Parse) (bs : List Byte) (i : Instr) : Prop :=
  (∀ rest, runParse os as p (bs ++ rest) = .ok i rest) ∧ ∀ n, n < bs.length → runParse os as p (bs.take n) = .more

/-- An item that `read` reads from the bytes `part`, whatever follows, and from no shorter part of them. -/
theorem Parses.item {α : Type} {read : List Byte → Option (α × List Byte)} {k : α → Parse} {p : Parse} {v : α} {part : List Byte}
    (hrun : ∀ bs, runParse os as p bs = match read bs with
      | some (v, bs) => runParse os as (k v) bs
      | none => .more)
    (hread : ∀ rest, read (part ++ rest) = some (v, rest)) (hcut : ∀ n, n < part.length → read (part.take n) = none)
    (hk : Parses os as (k v) bs i) : Parses os as p (cat part bs) i := by
  refine ⟨fun rest => ?_, fun n hn => ?_⟩
  · rw [cat, List.append_assoc, hrun, hread]
    exact hk.1 rest
  · rw [cat, List.take_append, hrun]
    by_cases h : n < part.length
    · rw [Nat.sub_eq_zero_of_le h.le, List.take_zero, List.append_nil, hcut n h]
    · rw [List.take_of_length_le (not_lt.mp h), hread]
      refine hk.2 _ ?_
      rw [cat, List.length_append] at hn
      omega

theorem Parses.done : Parses os as (.done i) [] i := ⟨fun _ => rfl, fun _ h => nomatch h⟩

theorem Parses.byte {k : Byte → Parse} {b : Byte} (hk : Parses os as (k b) bs i) : Parses os as (.byte k) (b :: bs) i :=
  ⟨hk.1, fun n hn => match n, hn with
    | 0, _ => rfl
    | n + 1, hn => hk.2 n (Nat.lt_of_succ_lt_succ hn)⟩

theorem Parses.imm8 {k : BitVec 8 → Parse} {v : BitVec 8} (hk : Parses os as (k v) bs i) : Parses os as (.imm8 k) (v :: bs) i :=
  ⟨hk.1, fun n hn => match n, hn with
    | 0, _ => rfl
    | n + 1, hn => hk.2 n (Nat.lt_of_succ_lt_succ hn)⟩

theorem Parses.imm16 {k : BitVec 16 → Parse} {v : BitVec 16} (hk : Parses os as (k v) bs i) :
    Parses os as (.imm16 k) (cat (enc16 v) bs) i :=
  ⟨fun rest => by
    rw [show cat (enc16 v) bs ++ rest = v.extractLsb' 0 8 :: v.extractLsb' 8 8 :: (bs ++ rest) from rfl, runParse, le16_bytes]
    exact hk.1 rest,
  fun n hn => match n, hn with
    | 0, _ => rfl
    | 1, _ => rfl
    | n + 2, hn => by
      rw [show (cat (enc16 v) bs).take (n + 2) = v.extractLsb' 0 8 :: v.extractLsb' 8 8 :: bs.take n from rfl, runParse, le16_bytes]
      exact hk.2 n (Nat.lt_of_succ_lt_succ (Nat.lt_of_succ_lt_succ hn))⟩

theorem Parses.immV {k : BitVec 32 → Parse} {v : BitVec 32} (hv : os.fits v = true) (hk : Parses os as (k v) bs i) :
    Parses os as (.immV k) (cat (encSized os v) bs) i :=
  .item (fun bs => by rw [runParse]; cases takeSized os bs <;> rfl) (fun _ => takeSized_enc os v _ hv) (takeSized_take os v) hk

theorem Parses.immA {k : BitVec 32 → Parse} {v : BitVec 32} (hv : as.fits v = true) (hk : Parses os as (k v) bs i) :
    Parses os as (.immA k) (cat (encSized as v) bs) i :=
  .item (fun bs => by rw [runParse]; cases takeSized as bs <;> rfl) (fun _ => takeSized_enc as v _ hv) (takeSized_take as v) hk

/-- The ModR/M byte with what it brings, as one item. -/
def takeModrmPair (as : Size) (bs : List Byte) : Option ((RM × BitVec 3) × List Byte) :=
  (takeModrm as bs).map fun (rm, n, bs) => ((rm, n), bs)

theorem Parses.modrm {k : RM → BitVec 3 → Parse} {rm : RM} {n : BitVec 3} (hrm : rm.wf as = true) (hk : Parses os as (k rm n) bs i) :
    Parses os as (.modrm k) (cat (rm.enc n) bs) i :=
  .item (read := takeModrmPair as) (k := fun v => k v.1 v.2) (v := (rm, n))
    (fun bs => by rw [runParse, takeModrmPair]; cases takeModrm as bs <;> rfl)
    (fun rest => by rw [takeModrmPair, takeModrm_enc as rm n rest hrm]; rfl)
    (fun j hj => by rw [takeModrmPair, takeModrm_take as rm n j hrm hj]; rfl) hk

/-- The `reg` field holds a general register. -/
theorem Parses.modrmReg {k : RM → BitVec 3 → Parse} {rm : RM} {r : Reg} {f : Reg → Instr} (hrm : rm.wf as = true)
    (hk : ∀ n, Parses os as (k rm n) bs (f (Reg.ofNum n))) : Parses os as (.modrm k) (cat (rm.enc r.num) bs) (f r) := by
  have := Parses.modrm hrm (hk r.num)
  rwa [reg_ofNum_num] at this

/-- What ends an encoding. -/
theorem Parses.last {p : Parse} (h : Parses os as p (cat bs []) i) : Parses os as p bs i := by
  rwa [cat, List.append_nil] at h

theorem Parses.lastModrm {k : RM → BitVec 3 → Parse} {rm : RM} {n : BitVec 3} (hrm : rm.wf as = true) (hk : k rm n = .done i) :
    Parses os as (.modrm k) (rm.enc n) i := .last (.modrm hrm (hk ▸ .done))

/-- A memory operand where the decoder asks for any r/m operand. -/
theorem Parses.lastMem {k : RM → BitVec 3 → Parse} {m : MemOp} {n : BitVec 3} (hm : m.wf as = true) (hk : k (.mem m) n = .done i) :
    Parses os as (.modrm k) (m.enc n) i := .lastModrm (rm := .mem m) hm hk

/-- A ModR/M byte that names a register. -/
theorem Parses.lastReg {k : RM → BitVec 3 → Parse} {b : Byte} (hb : b.extractLsb' 6 2 = 3)
    (hk : k (.reg (Reg.ofNum (b.extractLsb' 0 3))) (b.extractLsb' 3 3) = .done i) : Parses os as (.modrm k) [b] i := by
  have parts : ∀ b : Byte, b.extractLsb' 6 2 = 3 → [b] = (RM.reg (Reg.ofNum (b.extractLsb' 0 3))).enc (b.extractLsb' 3 3) := by decide
  rw [parts b hb]
  exact .lastModrm rfl hk

end

/-- The second byte of an ESC instruction with a stack operand is a ModR/M byte with `mod` 3. -/
theorem Parses.stack {os as : Size} {k : RM → BitVec 3 → Parse} {b : Nat} {n : BitVec 3} {f : BitVec 3 → Instr} (j : BitVec 3)
    (hb : ∀ j, opPlus (BitVec.ofNat 8 b) j = fields233 3 n j) (hk : ∀ r : Reg, k (.reg r) n = .done (f r.num)) :
    Parses os as (.modrm k) [opPlus (BitVec.ofNat 8 b) j] (f j) := by
  rw [hb]
  refine .lastReg (fields233_hi ..) ?_
  rw [fields233_mid, fields233_lo, hk, reg_num_ofNum]

/-! ## Every instruction -/

/-- EVERY INSTRUCTION, prefix by prefix and form by form; the forms with WAIT are read in two parts. -/
theorem parses_encode (os as : Size) (i : Instr) (hw : i.wf os as = true) (hi : ¬ ∃ x : NoWait, i = x.waiting) :
    Parses os as (.byte oneByte) (encode os as i) i := by
  cases i with
  | addRm8R8 => exact .byte (.last (.modrmReg hw fun _ => .done))
  | addRmR => exact .byte (.last (.modrmReg hw fun _ => .done))
  | addR8Rm8 => exact .byte (.last (.modrmReg hw fun _ => .done))
  | addRRm => exact .byte (.last (.modrmReg hw fun _ => .done))
  | addAlImm8 => exact .byte (.imm8 .done)
  | addEaxImm => exact .byte (.last (.immV hw .done))
  | addRm8Imm8 => exact .byte (.modrm hw (.imm8 .done))
  | addRmImm => exact have hw := Bool.and_eq_true_iff.mp hw; .byte (.modrm hw.1 (.last (.immV hw.2 .done)))
  | addRmSImm8 => exact .byte (.modrm hw (.imm8 .done))
  | orRm8R8 => exact .byte (.last (.modrmReg hw fun _ => .done))
  | orRmR => exact .byte (.last (.modrmReg hw fun _ => .done))
  | orR8Rm8 => exact .byte (.last (.modrmReg hw fun _ => .done))
  | orRRm => exact .byte (.last (.modrmReg hw fun _ => .done))
  | orAlImm8 => exact .byte (.imm8 .done)
  | orEaxImm => exact .byte (.last (.immV hw .done))
  | orRm8Imm8 => exact .byte (.modrm hw (.imm8 .done))
  | orRmImm => exact have hw := Bool.and_eq_true_iff.mp hw; .byte (.modrm hw.1 (.last (.immV hw.2 .done)))
  | orRmSImm8 => exact .byte (.modrm hw (.imm8 .done))
  | adcRm8R8 => exact .byte (.last (.modrmReg hw fun _ => .done))
  | adcRmR => exact .byte (.last (.modrmReg hw fun _ => .done))
  | adcR8Rm8 => exact .byte (.last (.modrmReg hw fun _ => .done))
  | adcRRm => exact .byte (.last (.modrmReg hw fun _ => .done))
  | adcAlImm8 => exact .byte (.imm8 .done)
  | adcEaxImm => exact .byte (.last (.immV hw .done))
  | adcRm8Imm8 => exact .byte (.modrm hw (.imm8 .done))
  | adcRmImm => exact have hw := Bool.and_eq_true_iff.mp hw; .byte (.modrm hw.1 (.last (.immV hw.2 .done)))
  | adcRmSImm8 => exact .byte (.modrm hw (.imm8 .done))
  | sbbRm8R8 => exact .byte (.last (.modrmReg hw fun _ => .done))
  | sbbRmR => exact .byte (.last (.modrmReg hw fun _ => .done))
  | sbbR8Rm8 => exact .byte (.last (.modrmReg hw fun _ => .done))
  | sbbRRm => exact .byte (.last (.modrmReg hw fun _ => .done))
  | sbbAlImm8 => exact .byte (.imm8 .done)
  | sbbEaxImm => exact .byte (.last (.immV hw .done))
  | sbbRm8Imm8 => exact .byte (.modrm hw (.imm8 .done))
  | sbbRmImm => exact have hw := Bool.and_eq_true_iff.mp hw; .byte (.modrm hw.1 (.last (.immV hw.2 .done)))
  | sbbRmSImm8 => exact .byte (.modrm hw (.imm8 .done))
  | andRm8R8 => exact .byte (.last (.modrmReg hw fun _ => .done))
  | andRmR => exact .byte (.last (.modrmReg hw fun _ => .done))
  | andR8Rm8 => exact .byte (.last (.modrmReg hw fun _ => .done))
  | andRRm => exact .byte (.last (.modrmReg hw fun _ => .done))
  | andAlImm8 => exact .byte (.imm8 .done)
  | andEaxImm => exact .byte (.last (.immV hw .done))
  | andRm8Imm8 => exact .byte (.modrm hw (.imm8 .done))
  | andRmImm => exact have hw := Bool.and_eq_true_iff.mp hw; .byte (.modrm hw.1 (.last (.immV hw.2 .done)))
  | andRmSImm8 => exact .byte (.modrm hw (.imm8 .done))
  | subRm8R8 => exact .byte (.last (.modrmReg hw fun _ => .done))
  | subRmR => exact .byte (.last (.modrmReg hw fun _ => .done))
  | subR8Rm8 => exact .byte (.last (.modrmReg hw fun _ => .done))
  | subRRm => exact .byte (.last (.modrmReg hw fun _ => .done))
  | subAlImm8 => exact .byte (.imm8 .done)
  | subEaxImm => exact .byte (.last (.immV hw .done))
  | subRm8Imm8 => exact .byte (.modrm hw (.imm8 .done))
  | subRmImm => exact have hw := Bool.and_eq_true_iff.mp hw; .byte (.modrm hw.1 (.last (.immV hw.2 .done)))
  | subRmSImm8 => exact .byte (.modrm hw (.imm8 .done))
  | xorRm8R8 => exact .byte (.last (.modrmReg hw fun _ => .done))
  | xorRmR => exact .byte (.last (.modrmReg hw fun _ => .done))
  | xorR8Rm8 => exact .byte (.last (.modrmReg hw fun _ => .done))
  | xorRRm => exact .byte (.last (.modrmReg hw fun _ => .done))
  | xorAlImm8 => exact .byte (.imm8 .done)
  | xorEaxImm => exact .byte (.last (.immV hw .done))
  | xorRm8Imm8 => exact .byte (.modrm hw (.imm8 .done))
  | xorRmImm => exact have hw := Bool.and_eq_true_iff.mp hw; .byte (.modrm hw.1 (.last (.immV hw.2 .done)))
  | xorRmSImm8 => exact .byte (.modrm hw (.imm8 .done))
  | cmpRm8R8 => exact .byte (.last (.modrmReg hw fun _ => .done))
  | cmpRmR => exact .byte (.last (.modrmReg hw fun _ => .done))
  | cmpR8Rm8 => exact .byte (.last (.modrmReg hw fun _ => .done))
  | cmpRRm => exact .byte (.last (.modrmReg hw fun _ => .done))
  | cmpAlImm8 => exact .byte (.imm8 .done)
  | cmpEaxImm => exact .byte (.last (.immV hw .done))
  | cmpRm8Imm8 => exact .byte (.modrm hw (.imm8 .done))
  | cmpRmImm => exact have hw := Bool.and_eq_true_iff.mp hw; .byte (.modrm hw.1 (.last (.immV hw.2 .done)))
  | cmpRmSImm8 => exact .byte (.modrm hw (.imm8 .done))
  | movRm8R8 => exact .byte (.last (.modrmReg hw fun _ => .done))
  | movRmR => exact .byte (.last (.modrmReg hw fun _ => .done))
  | movR8Rm8 => exact .byte (.last (.modrmReg hw fun _ => .done))
  | movRRm => exact .byte (.last (.modrmReg hw fun _ => .done))
  | movRm16Sreg rm sr => cases sr <;> exact .byte (.lastModrm hw rfl)
  | movSregRm16 rm sr =>
    cases sr with
    | cs => exact absurd (Bool.and_eq_true_iff.mp hw).2 (by decide)
    | _ => exact .byte (.lastModrm (Bool.and_eq_true_iff.mp hw).1 rfl)
  | movAlMoffs8 => exact .byte (.last (.immA hw .done))
  | movEaxMoffs => exact .byte (.last (.immA hw .done))
  | movMoffs8Al => exact .byte (.last (.immA hw .done))
  | movMoffsEax => exact .byte (.last (.immA hw .done))
  | movR8Imm8 r imm => cases r <;> exact .byte (.imm8 .done)
  | movRImm r imm => cases r <;> exact .byte (.last (.immV hw .done))
  | movRm8Imm8 => exact .byte (.modrm hw (.imm8 .done))
  | movRmImm => exact have hw := Bool.and_eq_true_iff.mp hw; .byte (.modrm hw.1 (.last (.immV hw.2 .done)))
  | xchgRm8R8 => exact .byte (.last (.modrmReg hw fun _ => .done))
  | xchgRmR => exact .byte (.last (.modrmReg hw fun _ => .done))
  | xchgEaxR r =>
    cases r with
    | eax => exact absurd hw (show ¬ (Reg.eax != Reg.eax) = true by decide)
    | _ => exact .byte .done
  | nop => exact .byte .done
  | pushR r => cases r <;> exact .byte .done
  | pushRm => exact .byte (.lastModrm hw rfl)
  | pushImm => exact .byte (.last (.immV hw .done))
  | pushSImm8 => exact .byte (.imm8 .done)
  | pushEs => exact .byte .done
  | pushCs => exact .byte .done
  | pushSs => exact .byte .done
  | pushDs => exact .byte .done
  | pushFs => exact .byte (.byte .done)
  | pushGs => exact .byte (.byte .done)
  | popR r => cases r <;> exact .byte .done
  | popRm => exact .byte (.lastModrm hw rfl)
  | popEs => exact .byte .done
  | popSs => exact .byte .done
  | popDs => exact .byte .done
  | popFs => exact .byte (.byte .done)
  | popGs => exact .byte (.byte .done)
  | pusha => exact .byte .done
  | popa => exact .byte .done
  | cbw => exact .byte .done
  | cwd => exact .byte .done
  | movsxRRm8 => exact .byte (.byte (.last (.modrmReg hw fun _ => .done)))
  | movsxR32Rm16 => exact .byte (.byte (.last (.modrmReg hw fun _ => .done)))
  | movzxRRm8 => exact .byte (.byte (.last (.modrmReg hw fun _ => .done)))
  | movzxR32Rm16 => exact .byte (.byte (.last (.modrmReg hw fun _ => .done)))
  | bswapR32 r => cases r <;> exact .byte (.byte .done)
  | xaddRm8R8 => exact .byte (.byte (.last (.modrmReg hw fun _ => .done)))
  | xaddRmR => exact .byte (.byte (.last (.modrmReg hw fun _ => .done)))
  | cmpxchgRm8R8 => exact .byte (.byte (.last (.modrmReg hw fun _ => .done)))
  | cmpxchgRmR => exact .byte (.byte (.last (.modrmReg hw fun _ => .done)))
  | cmpxchg8bM64 => exact .byte (.byte (.lastMem hw rfl))
  | ldsRFar m _ => exact .byte (.last (.modrmReg (rm := .mem m) hw fun _ => .done))
  | lesRFar m _ => exact .byte (.last (.modrmReg (rm := .mem m) hw fun _ => .done))
  | lssRFar m _ => exact .byte (.byte (.last (.modrmReg (rm := .mem m) hw fun _ => .done)))
  | lfsRFar m _ => exact .byte (.byte (.last (.modrmReg (rm := .mem m) hw fun _ => .done)))
  | lgsRFar m _ => exact .byte (.byte (.last (.modrmReg (rm := .mem m) hw fun _ => .done)))
  | leaRM m _ => exact .byte (.last (.modrmReg (rm := .mem m) hw fun _ => .done))
  | xlat => exact .byte .done
  | incR r => cases r <;> exact .byte .done
  | incRm8 => exact .byte (.lastModrm hw rfl)
  | incRm => exact .byte (.lastModrm hw rfl)
  | decR r => cases r <;> exact .byte .done
  | decRm8 => exact .byte (.lastModrm hw rfl)
  | decRm => exact .byte (.lastModrm hw rfl)
  | negRm8 => exact .byte (.lastModrm hw rfl)
  | negRm => exact .byte (.lastModrm hw rfl)
  | mulRm8 => exact .byte (.lastModrm hw rfl)
  | mulRm => exact .byte (.lastModrm hw rfl)
  | imulRm8 => exact .byte (.lastModrm hw rfl)
  | imulRm => exact .byte (.lastModrm hw rfl)
  | imulRRm => exact .byte (.byte (.last (.modrmReg hw fun _ => .done)))
  | imulRRmImm rm r imm => exact have hw := Bool.and_eq_true_iff.mp hw; .byte (.modrmReg (f := fun r => .imulRRmImm rm r imm) hw.1 fun _ =>
    (.last (.immV hw.2 .done)))
  | imulRRmSImm8 rm r imm => exact .byte (.modrmReg (f := fun r => .imulRRmSImm8 rm r imm) hw fun _ => (.imm8 .done))
  | divRm8 => exact .byte (.lastModrm hw rfl)
  | divRm => exact .byte (.lastModrm hw rfl)
  | idivRm8 => exact .byte (.lastModrm hw rfl)
  | idivRm => exact .byte (.lastModrm hw rfl)
  | daa => exact .byte .done
  | das => exact .byte .done
  | aaa => exact .byte .done
  | aas => exact .byte .done
  | aamImm8 => exact .byte (.imm8 .done)
  | aadImm8 => exact .byte (.imm8 .done)
  | notRm8 => exact .byte (.lastModrm hw rfl)
  | notRm => exact .byte (.lastModrm hw rfl)
  | testRm8R8 => exact .byte (.last (.modrmReg hw fun _ => .done))
  | testRmR => exact .byte (.last (.modrmReg hw fun _ => .done))
  | testAlImm8 => exact .byte (.imm8 .done)
  | testEaxImm => exact .byte (.last (.immV hw .done))
  | testRm8Imm8 => exact .byte (.modrm hw (.imm8 .done))
  | testRmImm => exact have hw := Bool.and_eq_true_iff.mp hw; .byte (.modrm hw.1 (.last (.immV hw.2 .done)))
  | rolRm8One => exact .byte (.lastModrm hw rfl)
  | rolRmOne => exact .byte (.lastModrm hw rfl)
  | rolRm8Cl => exact .byte (.lastModrm hw rfl)
  | rolRmCl => exact .byte (.lastModrm hw rfl)
  | rolRm8Imm8 => exact .byte (.modrm hw (.imm8 .done))
  | rolRmImm8 => exact .byte (.modrm hw (.imm8 .done))
  | rorRm8One => exact .byte (.lastModrm hw rfl)
  | rorRmOne => exact .byte (.lastModrm hw rfl)
  | rorRm8Cl => exact .byte (.lastModrm hw rfl)
  | rorRmCl => exact .byte (.lastModrm hw rfl)
  | rorRm8Imm8 => exact .byte (.modrm hw (.imm8 .done))
  | rorRmImm8 => exact .byte (.modrm hw (.imm8 .done))
  | rclRm8One => exact .byte (.lastModrm hw rfl)
  | rclRmOne => exact .byte (.lastModrm hw rfl)
  | rclRm8Cl => exact .byte (.lastModrm hw rfl)
  | rclRmCl => exact .byte (.lastModrm hw rfl)
  | rclRm8Imm8 => exact .byte (.modrm hw (.imm8 .done))
  | rclRmImm8 => exact .byte (.modrm hw (.imm8 .done))
  | rcrRm8One => exact .byte (.lastModrm hw rfl)
  | rcrRmOne => exact .byte (.lastModrm hw rfl)
  | rcrRm8Cl => exact .byte (.lastModrm hw rfl)
  | rcrRmCl => exact .byte (.lastModrm hw rfl)
  | rcrRm8Imm8 => exact .byte (.modrm hw (.imm8 .done))
  | rcrRmImm8 => exact .byte (.modrm hw (.imm8 .done))
  | shlRm8One => exact .byte (.lastModrm hw rfl)
  | shlRmOne => exact .byte (.lastModrm hw rfl)
  | shlRm8Cl => exact .byte (.lastModrm hw rfl)
  | shlRmCl => exact .byte (.lastModrm hw rfl)
  | shlRm8Imm8 => exact .byte (.modrm hw (.imm8 .done))
  | shlRmImm8 => exact .byte (.modrm hw (.imm8 .done))
  | shrRm8One => exact .byte (.lastModrm hw rfl)
  | shrRmOne => exact .byte (.lastModrm hw rfl)
  | shrRm8Cl => exact .byte (.lastModrm hw rfl)
  | shrRmCl => exact .byte (.lastModrm hw rfl)
  | shrRm8Imm8 => exact .byte (.modrm hw (.imm8 .done))
  | shrRmImm8 => exact .byte (.modrm hw (.imm8 .done))
  | sarRm8One => exact .byte (.lastModrm hw rfl)
  | sarRmOne => exact .byte (.lastModrm hw rfl)
  | sarRm8Cl => exact .byte (.lastModrm hw rfl)
  | sarRmCl => exact .byte (.lastModrm hw rfl)
  | sarRm8Imm8 => exact .byte (.modrm hw (.imm8 .done))
  | sarRmImm8 => exact .byte (.modrm hw (.imm8 .done))
  | shldRmRImm8 rm r imm => exact .byte (.byte (.modrmReg (f := fun r => .shldRmRImm8 rm r imm) hw fun _ => (.imm8 .done)))
  | shldRmRCl => exact .byte (.byte (.last (.modrmReg hw fun _ => .done)))
  | shrdRmRImm8 rm r imm => exact .byte (.byte (.modrmReg (f := fun r => .shrdRmRImm8 rm r imm) hw fun _ => (.imm8 .done)))
  | shrdRmRCl => exact .byte (.byte (.last (.modrmReg hw fun _ => .done)))
  | btRmR => exact .byte (.byte (.last (.modrmReg hw fun _ => .done)))
  | btRmImm8 => exact .byte (.byte (.modrm hw (.imm8 .done)))
  | btsRmR => exact .byte (.byte (.last (.modrmReg hw fun _ => .done)))
  | btsRmImm8 => exact .byte (.byte (.modrm hw (.imm8 .done)))
  | btrRmR => exact .byte (.byte (.last (.modrmReg hw fun _ => .done)))
  | btrRmImm8 => exact .byte (.byte (.modrm hw (.imm8 .done)))
  | btcRmR => exact .byte (.byte (.last (.modrmReg hw fun _ => .done)))
  | btcRmImm8 => exact .byte (.byte (.modrm hw (.imm8 .done)))
  | bsfRRm => exact .byte (.byte (.last (.modrmReg hw fun _ => .done)))
  | bsrRRm => exact .byte (.byte (.last (.modrmReg hw fun _ => .done)))
  | setccRm8 cc rm => cases cc <;> exact .byte (.byte (.lastModrm hw rfl))
  | jmpRel8 => exact .byte (.imm8 .done)
  | jmpRel => exact .byte (.last (.immV hw .done))
  | jmpRm => exact .byte (.lastModrm hw rfl)
  | jmpPtr => exact .byte (.immV hw (.last (.imm16 .done)))
  | jmpFar => exact .byte (.lastMem hw rfl)
  | callRel => exact .byte (.last (.immV hw .done))
  | callRm => exact .byte (.lastModrm hw rfl)
  | callPtr => exact .byte (.immV hw (.last (.imm16 .done)))
  | callFar => exact .byte (.lastMem hw rfl)
  | ret => exact .byte .done
  | retImm16 => exact .byte (.last (.imm16 .done))
  | retf => exact .byte .done
  | retfImm16 => exact .byte (.last (.imm16 .done))
  | jccRel8 cc rel => cases cc <;> exact .byte (.imm8 .done)
  | jccRel cc rel => cases cc <;> exact .byte (.byte (.last (.immV hw .done)))
  | jcxzRel8 => exact .byte (.imm8 .done)
  | loopRel8 => exact .byte (.imm8 .done)
  | loopeRel8 => exact .byte (.imm8 .done)
  | loopneRel8 => exact .byte (.imm8 .done)
  | iret => exact .byte .done
  | intImm8 => exact .byte (.imm8 .done)
  | int3 => exact .byte .done
  | into => exact .byte .done
  | boundRM m _ => exact .byte (.last (.modrmReg (rm := .mem m) hw fun _ => .done))
  | enterImm16Imm8 => exact .byte (.imm16 (.imm8 .done))
  | leave => exact .byte .done
  | movsb => exact .byte .done
  | movsw => exact .byte .done
  | cmpsb => exact .byte .done
  | cmpsw => exact .byte .done
  | stosb => exact .byte .done
  | stosw => exact .byte .done
  | lodsb => exact .byte .done
  | lodsw => exact .byte .done
  | scasb => exact .byte .done
  | scasw => exact .byte .done
  | insb => exact .byte .done
  | insw => exact .byte .done
  | outsb => exact .byte .done
  | outsw => exact .byte .done
  | stc => exact .byte .done
  | clc => exact .byte .done
  | cmc => exact .byte .done
  | cld => exact .byte .done
  | std => exact .byte .done
  | cli => exact .byte .done
  | sti => exact .byte .done
  | lahf => exact .byte .done
  | sahf => exact .byte .done
  | pushf => exact .byte .done
  | popf => exact .byte .done
  | cpuid => exact .byte (.byte .done)
  | sldtRm16 => exact .byte (.byte (.lastModrm hw rfl))
  | strRm16 => exact .byte (.byte (.lastModrm hw rfl))
  | lldtRm16 => exact .byte (.byte (.lastModrm hw rfl))
  | ltrRm16 => exact .byte (.byte (.lastModrm hw rfl))
  | verrRm16 => exact .byte (.byte (.lastModrm hw rfl))
  | verwRm16 => exact .byte (.byte (.lastModrm hw rfl))
  | sgdtM => exact .byte (.byte (.lastMem hw rfl))
  | sidtM => exact .byte (.byte (.lastMem hw rfl))
  | lgdtM => exact .byte (.byte (.lastMem hw rfl))
  | lidtM => exact .byte (.byte (.lastMem hw rfl))
  | smswRm16 => exact .byte (.byte (.lastModrm hw rfl))
  | lmswRm16 => exact .byte (.byte (.lastModrm hw rfl))
  | invlpgM => exact .byte (.byte (.lastMem hw rfl))
  | larRRm16 => exact .byte (.byte (.last (.modrmReg hw fun _ => .done)))
  | lslRRm16 => exact .byte (.byte (.last (.modrmReg hw fun _ => .done)))
  | clts => exact .byte (.byte .done)
  | invd => exact .byte (.byte .done)
  | wbinvd => exact .byte (.byte .done)
  | movR32Cr n r => exact .byte (.byte (.byte (by rw [fields233_mid, fields233_lo, reg_ofNum_num]; exact .done)))
  | movCrR32 n r => exact .byte (.byte (.byte (by rw [fields233_mid, fields233_lo, reg_ofNum_num]; exact .done)))
  | movR32Dr n r => exact .byte (.byte (.byte (by rw [fields233_mid, fields233_lo, reg_ofNum_num]; exact .done)))
  | movDrR32 n r => exact .byte (.byte (.byte (by rw [fields233_mid, fields233_lo, reg_ofNum_num]; exact .done)))
  | movR32Tr n r => exact .byte (.byte (.byte (by rw [fields233_mid, fields233_lo, reg_ofNum_num]; exact .done)))
  | movTrR32 n r => exact .byte (.byte (.byte (by rw [fields233_mid, fields233_lo, reg_ofNum_num]; exact .done)))
  | wrmsr => exact .byte (.byte .done)
  | rdtsc => exact .byte (.byte .done)
  | rdmsr => exact .byte (.byte .done)
  | rsm => exact .byte (.byte .done)
  | hlt => exact .byte .done
  | arplRm16R16 => exact .byte (.last (.modrmReg hw fun _ => .done))
  | inAlImm8 => exact .byte (.imm8 .done)
  | inEaxImm8 => exact .byte (.imm8 .done)
  | inAlDx => exact .byte .done
  | inEaxDx => exact .byte .done
  | outImm8Al => exact .byte (.imm8 .done)
  | outImm8Eax => exact .byte (.imm8 .done)
  | outDxAl => exact .byte .done
  | outDxEax => exact .byte .done
  | wait => exact .byte .done
  | fldM32 => exact .byte (.lastMem hw rfl)
  | fldM64 => exact .byte (.lastMem hw rfl)
  | fldM80 => exact .byte (.lastMem hw rfl)
  | fldSti i => exact .byte (.stack (n := 0) (f := .fldSti) i (by decide) fun _ => rfl)
  | fstM32 => exact .byte (.lastMem hw rfl)
  | fstM64 => exact .byte (.lastMem hw rfl)
  | fstSti i => exact .byte (.stack (n := 2) (f := .fstSti) i (by decide) fun _ => rfl)
  | fstpM32 => exact .byte (.lastMem hw rfl)
  | fstpM64 => exact .byte (.lastMem hw rfl)
  | fstpM80 => exact .byte (.lastMem hw rfl)
  | fstpSti i => exact .byte (.stack (n := 3) (f := .fstpSti) i (by decide) fun _ => rfl)
  | fxchSti i => exact .byte (.stack (n := 1) (f := .fxchSti) i (by decide) fun _ => rfl)
  | fildM16 => exact .byte (.lastMem hw rfl)
  | fildM32 => exact .byte (.lastMem hw rfl)
  | fildM64 => exact .byte (.lastMem hw rfl)
  | fistM16 => exact .byte (.lastMem hw rfl)
  | fistM32 => exact .byte (.lastMem hw rfl)
  | fistpM16 => exact .byte (.lastMem hw rfl)
  | fistpM32 => exact .byte (.lastMem hw rfl)
  | fistpM64 => exact .byte (.lastMem hw rfl)
  | fbldM80 => exact .byte (.lastMem hw rfl)
  | fbstpM80 => exact .byte (.lastMem hw rfl)
  | faddM32 => exact .byte (.lastMem hw rfl)
  | faddM64 => exact .byte (.lastMem hw rfl)
  | faddStSti i => exact .byte (.stack (n := 0) (f := .faddStSti) i (by decide) fun _ => rfl)
  | faddStiSt i => exact .byte (.stack (n := 0) (f := .faddStiSt) i (by decide) fun _ => rfl)
  | faddpStiSt i => exact .byte (.stack (n := 0) (f := .faddpStiSt) i (by decide) fun _ => rfl)
  | fiaddM32 => exact .byte (.lastMem hw rfl)
  | fiaddM16 => exact .byte (.lastMem hw rfl)
  | fmulM32 => exact .byte (.lastMem hw rfl)
  | fmulM64 => exact .byte (.lastMem hw rfl)
  | fmulStSti i => exact .byte (.stack (n := 1) (f := .fmulStSti) i (by decide) fun _ => rfl)
  | fmulStiSt i => exact .byte (.stack (n := 1) (f := .fmulStiSt) i (by decide) fun _ => rfl)
  | fmulpStiSt i => exact .byte (.stack (n := 1) (f := .fmulpStiSt) i (by decide) fun _ => rfl)
  | fimulM32 => exact .byte (.lastMem hw rfl)
  | fimulM16 => exact .byte (.lastMem hw rfl)
  | fsubM32 => exact .byte (.lastMem hw rfl)
  | fsubM64 => exact .byte (.lastMem hw rfl)
  | fsubStSti i => exact .byte (.stack (n := 4) (f := .fsubStSti) i (by decide) fun _ => rfl)
  | fsubStiSt i => exact .byte (.stack (n := 5) (f := .fsubStiSt) i (by decide) fun _ => rfl)
  | fsubpStiSt i => exact .byte (.stack (n := 5) (f := .fsubpStiSt) i (by decide) fun _ => rfl)
  | fisubM32 => exact .byte (.lastMem hw rfl)
  | fisubM16 => exact .byte (.lastMem hw rfl)
  | fsubrM32 => exact .byte (.lastMem hw rfl)
  | fsubrM64 => exact .byte (.lastMem hw rfl)
  | fsubrStSti i => exact .byte (.stack (n := 5) (f := .fsubrStSti) i (by decide) fun _ => rfl)
  | fsubrStiSt i => exact .byte (.stack (n := 4) (f := .fsubrStiSt) i (by decide) fun _ => rfl)
  | fsubrpStiSt i => exact .byte (.stack (n := 4) (f := .fsubrpStiSt) i (by decide) fun _ => rfl)
  | fisubrM32 => exact .byte (.lastMem hw rfl)
  | fisubrM16 => exact .byte (.lastMem hw rfl)
  | fdivM32 => exact .byte (.lastMem hw rfl)
  | fdivM64 => exact .byte (.lastMem hw rfl)
  | fdivStSti i => exact .byte (.stack (n := 6) (f := .fdivStSti) i (by decide) fun _ => rfl)
  | fdivStiSt i => exact .byte (.stack (n := 7) (f := .fdivStiSt) i (by decide) fun _ => rfl)
  | fdivpStiSt i => exact .byte (.stack (n := 7) (f := .fdivpStiSt) i (by decide) fun _ => rfl)
  | fidivM32 => exact .byte (.lastMem hw rfl)
  | fidivM16 => exact .byte (.lastMem hw rfl)
  | fdivrM32 => exact .byte (.lastMem hw rfl)
  | fdivrM64 => exact .byte (.lastMem hw rfl)
  | fdivrStSti i => exact .byte (.stack (n := 7) (f := .fdivrStSti) i (by decide) fun _ => rfl)
  | fdivrStiSt i => exact .byte (.stack (n := 6) (f := .fdivrStiSt) i (by decide) fun _ => rfl)
  | fdivrpStiSt i => exact .byte (.stack (n := 6) (f := .fdivrpStiSt) i (by decide) fun _ => rfl)
  | fidivrM32 => exact .byte (.lastMem hw rfl)
  | fidivrM16 => exact .byte (.lastMem hw rfl)
  | fcomM32 => exact .byte (.lastMem hw rfl)
  | fcomM64 => exact .byte (.lastMem hw rfl)
  | fcomSti i => exact .byte (.stack (n := 2) (f := .fcomSti) i (by decide) fun _ => rfl)
  | fcompM32 => exact .byte (.lastMem hw rfl)
  | fcompM64 => exact .byte (.lastMem hw rfl)
  | fcompSti i => exact .byte (.stack (n := 3) (f := .fcompSti) i (by decide) fun _ => rfl)
  | fcompp => exact .byte (.lastReg rfl rfl)
  | fucomSti i => exact .byte (.stack (n := 4) (f := .fucomSti) i (by decide) fun _ => rfl)
  | fucompSti i => exact .byte (.stack (n := 5) (f := .fucompSti) i (by decide) fun _ => rfl)
  | fucompp => exact .byte (.lastReg rfl rfl)
  | ficomM16 => exact .byte (.lastMem hw rfl)
  | ficomM32 => exact .byte (.lastMem hw rfl)
  | ficompM16 => exact .byte (.lastMem hw rfl)
  | ficompM32 => exact .byte (.lastMem hw rfl)
  | ftst => exact .byte (.lastReg rfl rfl)
  | fxam => exact .byte (.lastReg rfl rfl)
  | fsqrt => exact .byte (.lastReg rfl rfl)
  | fscale => exact .byte (.lastReg rfl rfl)
  | fxtract => exact .byte (.lastReg rfl rfl)
  | fprem => exact .byte (.lastReg rfl rfl)
  | fprem1 => exact .byte (.lastReg rfl rfl)
  | frndint => exact .byte (.lastReg rfl rfl)
  | fabs => exact .byte (.lastReg rfl rfl)
  | fchs => exact .byte (.lastReg rfl rfl)
  | fld1 => exact .byte (.lastReg rfl rfl)
  | fldl2t => exact .byte (.lastReg rfl rfl)
  | fldl2e => exact .byte (.lastReg rfl rfl)
  | fldpi => exact .byte (.lastReg rfl rfl)
  | fldlg2 => exact .byte (.lastReg rfl rfl)
  | fldln2 => exact .byte (.lastReg rfl rfl)
  | fldz => exact .byte (.lastReg rfl rfl)
  | fsin => exact .byte (.lastReg rfl rfl)
  | fcos => exact .byte (.lastReg rfl rfl)
  | fsincos => exact .byte (.lastReg rfl rfl)
  | fptan => exact .byte (.lastReg rfl rfl)
  | fpatan => exact .byte (.lastReg rfl rfl)
  | f2xm1 => exact .byte (.lastReg rfl rfl)
  | fyl2x => exact .byte (.lastReg rfl rfl)
  | fyl2xp1 => exact .byte (.lastReg rfl rfl)
  | fninit => exact .byte (.lastReg rfl rfl)
  | fnclex => exact .byte (.lastReg rfl rfl)
  | fnstswAx => exact .byte (.lastReg rfl rfl)
  | fincstp => exact .byte (.lastReg rfl rfl)
  | fdecstp => exact .byte (.lastReg rfl rfl)
  | fnop => exact .byte (.lastReg rfl rfl)
  | feni => exact .byte (.lastReg rfl rfl)
  | fdisi => exact .byte (.lastReg rfl rfl)
  | fsetpm => exact .byte (.lastReg rfl rfl)
  | fldcwM16 => exact .byte (.lastMem hw rfl)
  | fnstcwM16 => exact .byte (.lastMem hw rfl)
  | fnstswM16 => exact .byte (.lastMem hw rfl)
  | fnstenvM => exact .byte (.lastMem hw rfl)
  | fldenvM => exact .byte (.lastMem hw rfl)
  | fnsaveM => exact .byte (.lastMem hw rfl)
  | frstorM => exact .byte (.lastMem hw rfl)
  | ffreeSti i => exact .byte (.stack (n := 0) (f := .ffreeSti) i (by decide) fun _ => rfl)
  | finit => exact absurd ⟨.init, rfl⟩ hi
  | fclex => exact absurd ⟨.clex, rfl⟩ hi
  | fstswAx => exact absurd ⟨.stswAx, rfl⟩ hi
  | fstcwM16 m => exact absurd ⟨.stcw m, rfl⟩ hi
  | fstswM16 m => exact absurd ⟨.stsw m, rfl⟩ hi
  | fstenvM m => exact absurd ⟨.stenv m, rfl⟩ hi
  | fsaveM m => exact absurd ⟨.save m, rfl⟩ hi
  | prefixEs => exact .byte .done
  | prefixCs => exact .byte .done
  | prefixSs => exact .byte .done
  | prefixDs => exact .byte .done
  | prefixFs => exact .byte .done
  | prefixGs => exact .byte .done
  | prefixOpSize => exact .byte .done
  | prefixAdSize => exact .byte .done
  | prefixLock => exact .byte .done
  | prefixRepne => exact .byte .done
  | prefixRep => exact .byte .done

/-! ## The waiting forms -/

/-- The part of a waiting form that follows the WAIT. -/
theorem parses_waiting (os as : Size) (x : NoWait) (hw : x.waiting.wf os as = true) :
    ∃ bs, encode os as x.waiting = 0x9B :: bs ∧ Parses os as parseAfterWait bs x.waiting := by
  cases x with
  | init => exact ⟨_, rfl, .byte (.lastReg rfl rfl)⟩
  | clex => exact ⟨_, rfl, .byte (.lastReg rfl rfl)⟩
  | stswAx => exact ⟨_, rfl, .byte (.lastReg rfl rfl)⟩
  | stcw m => exact ⟨_, rfl, .byte (.lastMem hw rfl)⟩
  | stsw m => exact ⟨_, rfl, .byte (.lastMem hw rfl)⟩
  | stenv m => exact ⟨_, rfl, .byte (.lastMem hw rfl)⟩
  | save m => exact ⟨_, rfl, .byte (.lastMem hw rfl)⟩

/-- Settles O51: what the encoder writes for each item of an instruction, the decoder reads back. -/
theorem decodeEncode : Obligations.DecodeEncode := by
  refine fun os as i rest hw => ⟨?_, fun hi => ⟨(parses_encode os as i hw hi).1 rest, (parses_encode os as i hw hi).2⟩⟩
  rintro ⟨x, rfl⟩
  obtain ⟨bs, he, hp⟩ := parses_waiting os as x hw
  have hwait : decodeOne os as (encode os as x.waiting ++ rest) = .ok .wait (bs ++ rest) := by rw [he]; rfl
  have hafter : decodeAfterWait os as (bs ++ rest) = .ok x.waiting rest := hp.1 rest
  simp only [decode, hwait, hafter]

end Sys2Proof.Laws

end
end

section
/-! A step runs the decoded instruction (00_scope.md R11, 30_encoding.md R400 to R408): the bytes at CS:EIP, read one by one, are those of the prefixes
and then those of the instruction, and no shorter part of either decodes. -/

namespace Sys2Proof.Laws

open Sys2Proof Sys2Proof.Machine Sys2Proof.Claims

/-- The state with a latch put in. -/
def latched (t : State) (l : Latch) : State := { t with cur := l }

/-! ## Reading the bytes at CS:EIP -/

/-- The bytes at CS:EIP are read one after the other, whatever is in the latch. -/
def Fetchable (t : State) (bytes : List Byte) : Prop := ∀ (l : Latch) (pre : List Byte) (b : Byte) (rest : List Byte),
  bytes = pre ++ b :: rest → fetchByte pre.length (latched t l) = .ok b (latched t l)

/-- A guard that stops where it does not hold. -/
theorem require_bind_eq_ok {α : Type} {c : Bool} {e : M Unit} {f : Unit → M α} {s t : State} {a : α}
    (he : ∀ u, e s ≠ .ok () u) : (require c e >>= f) s = .ok a t ↔ c = true ∧ f () s = .ok a t := by
  cases c with
  | true => exact ⟨fun h => ⟨rfl, h⟩, fun h => h.2⟩
  | false =>
    refine ⟨fun h => ?_, fun h => nomatch h.1⟩
    obtain ⟨_, u, hu, -⟩ := bind_eq_ok.mp h
    exact absurd hu (he u)

theorem gp_ne_ok (c : Word) (s u : State) : (gp c : M Unit) s ≠ .ok () u := fun h => nomatch h

theorem segFault_ne_ok (sr : SReg) (s u : State) : segFault sr s ≠ .ok () u := by cases sr <;> exact fun h => nomatch h

/-- The checks of an access through a segment register that is allowed (23_protection.md R330). -/
theorem segLinear_eq_ok {sz : Size} {sr : SReg} {off lin : Word} {n : Nat} {k : Kind} {s t : State} :
    segLinear sz sr off n k s = .ok lin t ↔
      (if s.pe = true then (s.segs.get sr).usable = true ∧ typeAllows (s.segs.get sr).attr k = true ∧
          inReach sz (s.segs.get sr) off.toNat n = true
        else (noWrap sz off.toNat n && inLimitReal (s.segs.get sr) off.toNat n) = true) ∧
      lin = (s.segs.get sr).base + off ∧ t = s := by
  have done : (pure ((s.segs.get sr).base + off) : M Word) s = .ok lin t ↔ lin = (s.segs.get sr).base + off ∧ t = s :=
    ⟨fun h => by cases h; exact ⟨rfl, rfl⟩, fun ⟨h, k⟩ => by rw [h, k]; rfl⟩
  unfold segLinear
  rw [get_bind]
  split
  · rw [require_bind_eq_ok (gp_ne_ok 0 s), require_bind_eq_ok (gp_ne_ok 0 s), require_bind_eq_ok (segFault_ne_ok sr s), done]
    simp only [and_assoc]
  · rw [require_bind_eq_ok (segFault_ne_ok sr s), done]

theorem fetchable_of_codeAt {t : State} {bytes : List Byte} (h : codeAt t bytes)
    (hid : t.pgSwitched = true → ∀ (l : Latch) k, k < bytes.length →
      identityMapped (t.segs.cs.base + (t.eip + BitVec.ofNat 32 k)) (latched t l) = true) : Fetchable t bytes := by
  obtain ⟨hpg, hbytes⟩ := h
  rintro l pre b rest rfl
  have hk : pre.length < (pre ++ b :: rest).length := by simp
  obtain ⟨hseg, hram, hbyte⟩ := hbytes pre.length hk
  simp only [List.getElem_append_right (Nat.le_refl pre.length), Nat.sub_self, List.getElem_cons_zero] at hbyte
  have hseg' : segLinear .s32 .cs (t.eip + BitVec.ofNat 32 pre.length) 1 .x (latched t l) =
      .ok (t.segs.cs.base + (t.eip + BitVec.ofNat 32 pre.length)) (latched t l) :=
    segLinear_eq_ok.mpr ⟨(segLinear_eq_ok.mp hseg).1, rfl, rfl⟩
  have hmapped : (!t.pgSwitched || identityMapped (t.segs.cs.base + (t.eip + BitVec.ofNat 32 pre.length)) (latched t l)) = true := by
    rw [Bool.or_eq_true, Bool.not_eq_true']
    exact t.pgSwitched.eq_false_or_eq_true.symm.imp id fun hp => hid hp l _ hk
  obtain ⟨v, n, bus, hrun, hplain⟩ := physReadByte_run (t.segs.cs.base + (t.eip + BitVec.ofNat 32 pre.length)) (latched t l)
  obtain ⟨rfl, rfl, rfl⟩ := hplain (.inl hram)
  rw [fetchByte, get_bind, show (latched t l).eip = t.eip from rfl, bind_of_ok hseg', show (latched t l).pgSwitched = t.pgSwitched from rfl, hmapped, require_true, pure_bind_run,
    bind_of_ok (translate_pg_off (s := latched t l) hpg _ _), hrun, ← hbyte]
  rfl

/-! ## The prefixes and the instruction -/

/-- The latch after `n` bytes in all. -/
def withLen (l : Latch) (n : Nat) : Latch := { l with len := n }

section
variable {t : State} {l : Latch} {acc : List Byte} {b : Byte} {k : Nat} (hfetch : fetchByte l.len (latched t l) = .ok b (latched t l))
include hfetch

/-- Bytes that are not yet an instruction. -/
theorem scanInstr_more (hd : decodeOne (sizesOf t l).1 (sizesOf t l).2 (acc ++ [b]) = .more) :
    scanInstr (k + 1) acc (latched t l) = scanInstr k (acc ++ [b]) (latched t (withLen l (l.len + 1))) := by
  have hd' : decodeOne (latched t l).os (latched t l).as (acc ++ [b]) = .more := hd
  rw [scanInstr, get_bind, show (latched t l).cur.len = l.len from rfl, bind_of_ok hfetch]
  simp only [hd']
  rfl

/-- A prefix. -/
theorem scanInstr_prefix {p : Instr} {f : Latch → Latch} (hp : prefixEffect p = some f)
    (hd : decodeOne (sizesOf t l).1 (sizesOf t l).2 (acc ++ [b]) = .ok p []) :
    scanInstr (k + 1) acc (latched t l) = scanInstr k [] (latched t (f (withLen l (l.len + 1)))) := by
  have hd' : decodeOne (latched t l).os (latched t l).as (acc ++ [b]) = .ok p [] := hd
  rw [scanInstr, get_bind, show (latched t l).cur.len = l.len from rfl, bind_of_ok hfetch]
  simp only [hd', hp]
  rfl

/-- An instruction. -/
theorem scanInstr_instr {i : Instr} (hi : prefixEffect i = none)
    (hd : decodeOne (sizesOf t l).1 (sizesOf t l).2 (acc ++ [b]) = .ok i []) :
    scanInstr (k + 1) acc (latched t l) = .ok (.instr i)
      { t with cur := { l with len := l.len + 1, fop := fopOf (acc ++ [b]) }, pgSwitched := t.pgSwitched && !jumpsAway i } := by
  have hd' : decodeOne (latched t l).os (latched t l).as (acc ++ [b]) = .ok i [] := hd
  rw [scanInstr, get_bind, show (latched t l).cur.len = l.len from rfl, bind_of_ok hfetch]
  simp only [hd', hi]
  rfl

end

/-- The bytes of an instruction, the part `acc` of which is in hand, are read one by one until they decode. -/
theorem scanInstr_code {t : State} {bytes pre acc rest : List Byte} {l : Latch} {i : Instr} {k : Nat} (hf : Fetchable t bytes)
    (hb : bytes = pre ++ (acc ++ rest)) (hl : l.len = pre.length + acc.length) (hr : rest ≠ []) (hk : rest.length ≤ k)
    (hi : prefixEffect i = none) (hp : Parses (sizesOf t l).1 (sizesOf t l).2 (.byte oneByte) (acc ++ rest) i) :
    scanInstr k acc (latched t l) = .ok (.instr i)
      { t with cur := { l with len := bytes.length, fop := fopOf (acc ++ rest) }, pgSwitched := t.pgSwitched && !jumpsAway i } := by
  induction rest generalizing acc l k with
  | nil => exact absurd rfl hr
  | cons b rest ih =>
    cases k with
    | zero => nomatch hk
    | succ k =>
      have hfetch : fetchByte l.len (latched t l) = .ok b (latched t l) := by
        rw [hl, ← List.length_append]
        exact hf l _ _ rest (by rw [hb, List.append_assoc])
      have hacc : acc ++ b :: rest = (acc ++ [b]) ++ rest := by rw [List.append_assoc]; rfl
      cases rest with
      | nil =>
        have hd := hp.1 []
        rw [List.append_nil] at hd
        have hlen : bytes.length = l.len + 1 := by rw [hb, List.length_append, List.length_append, hl]; rfl
        rw [scanInstr_instr hfetch hi hd, hlen]
      | cons c rest =>
        have hd := hp.2 (acc ++ [b]).length (by simp)
        rw [hacc, List.take_left] at hd
        rw [scanInstr_more hfetch hd, hacc]
        refine ih (l := withLen l (l.len + 1)) (by rw [hb, hacc]) ?_ (by simp) (Nat.le_of_succ_le_succ hk) (by rw [← hacc]; exact hp)
        rw [List.length_append, ← Nat.add_assoc, ← hl]
        rfl

/-- A prefix is one byte, the same at every size. -/
theorem encode_prefix {p : Instr} {f : Latch → Latch} (h : prefixEffect p = some f) :
    ∃ b, encode .s16 .s16 p = [b] ∧ ∀ os as, decodeOne os as [b] = .ok p [] := by
  cases p <;> first | exact ⟨_, rfl, fun _ _ => rfl⟩ | nomatch h

/-- What a prefix puts into the latch does not depend on the length, and leaves it. -/
theorem prefixEffect_withLen {p : Instr} {f : Latch → Latch} (h : prefixEffect p = some f) (c : Latch) (n : Nat) :
    f (withLen c n) = withLen (f c) n := by
  cases p <;> first | (cases h; rfl) | nomatch h

/-- The prefixes go into the latch one after the other. -/
theorem scanInstr_prefixes {t : State} {bytes pre rest : List Byte} {ps : List Instr} {l c : Latch} {k : Nat} (hf : Fetchable t bytes)
    (hb : bytes = pre ++ ((ps.flatMap fun p => encode .s16 .s16 p) ++ rest)) (hl : latchOf ps l = some c) :
    scanInstr ((ps.flatMap fun p => encode .s16 .s16 p).length + k) [] (latched t (withLen l pre.length)) =
      scanInstr k [] (latched t (withLen c (pre.length + (ps.flatMap fun p => encode .s16 .s16 p).length))) := by
  induction ps generalizing pre l with
  | nil =>
    cases hl
    rw [List.flatMap_nil, List.length_nil, Nat.zero_add, Nat.add_zero]
  | cons p ps ih =>
    rw [latchOf] at hl
    cases hp : prefixEffect p with
    | none => rw [hp] at hl; nomatch hl
    | some f =>
      rw [hp] at hl
      obtain ⟨b, hbyte, hdec⟩ := encode_prefix hp
      rw [List.flatMap_cons, hbyte] at hb ⊢
      have hnext := ih (pre := pre ++ [b]) (l := f l) (by rw [hb]; simp) hl
      have hfetch : fetchByte (withLen l pre.length).len (latched t (withLen l pre.length)) = .ok b (latched t (withLen l pre.length)) :=
        hf _ pre b _ hb
      have hstep := scanInstr_prefix (acc := []) (k := (ps.flatMap fun p => encode .s16 .s16 p).length + k) hfetch hp (hdec _ _)
      rw [show withLen (withLen l pre.length) ((withLen l pre.length).len + 1) = withLen l (pre ++ [b]).length by simp [withLen],
        prefixEffect_withLen hp, hnext] at hstep
      have hfuel : ([b] ++ ps.flatMap fun p => encode .s16 .s16 p).length + k = (ps.flatMap fun p => encode .s16 .s16 p).length + k + 1 := by
        simp only [List.length_append, List.length_singleton]
        omega
      have hend : pre.length + ([b] ++ ps.flatMap fun p => encode .s16 .s16 p).length =
          (pre ++ [b]).length + (ps.flatMap fun p => encode .s16 .s16 p).length := by
        simp only [List.length_append, List.length_singleton]
        omega
      rw [hfuel, hend]
      exact hstep

/-! ## The instruction behind a WAIT -/

section
variable {t : State} {l : Latch} {acc : List Byte} {b : Byte} {k : Nat} (hfetch : fetchByte l.len (latched t l) = .ok b (latched t l))
include hfetch

theorem scanAfterWait_more (hd : decodeAfterWait (sizesOf t l).1 (sizesOf t l).2 (acc ++ [b]) = .more) :
    scanAfterWait (k + 1) acc (latched t l) = scanAfterWait k (acc ++ [b]) (latched t (withLen l (l.len + 1))) := by
  have hd' : decodeAfterWait (latched t l).os (latched t l).as (acc ++ [b]) = .more := hd
  rw [scanAfterWait, get_bind, show (latched t l).cur.len = l.len from rfl, bind_of_ok hfetch]
  simp only [hd']
  rfl

theorem scanAfterWait_instr {i : Instr} (hd : decodeAfterWait (sizesOf t l).1 (sizesOf t l).2 (acc ++ [b]) = .ok i []) :
    scanAfterWait (k + 1) acc (latched t l) = .ok (some i) (latched t { l with len := l.len + 1, fop := fopOf (acc ++ [b]) }) := by
  have hd' : decodeAfterWait (latched t l).os (latched t l).as (acc ++ [b]) = .ok i [] := hd
  rw [scanAfterWait, get_bind, show (latched t l).cur.len = l.len from rfl, bind_of_ok hfetch]
  simp only [hd']
  rfl

end

/-- The bytes of a no-wait instruction behind a WAIT. -/
theorem scanAfterWait_code {t : State} {bytes pre acc rest : List Byte} {l : Latch} {i : Instr} {k : Nat} (hf : Fetchable t bytes)
    (hb : bytes = pre ++ (acc ++ rest)) (hl : l.len = pre.length + acc.length) (hr : rest ≠ []) (hk : rest.length ≤ k)
    (hp : Parses (sizesOf t l).1 (sizesOf t l).2 parseAfterWait (acc ++ rest) i) :
    scanAfterWait k acc (latched t l) = .ok (some i) (latched t { l with len := bytes.length, fop := fopOf (acc ++ rest) }) := by
  induction rest generalizing acc l k with
  | nil => exact absurd rfl hr
  | cons b rest ih =>
    cases k with
    | zero => nomatch hk
    | succ k =>
      have hfetch : fetchByte l.len (latched t l) = .ok b (latched t l) := by
        rw [hl, ← List.length_append]
        exact hf l _ _ rest (by rw [hb, List.append_assoc])
      have hacc : acc ++ b :: rest = (acc ++ [b]) ++ rest := by rw [List.append_assoc]; rfl
      cases rest with
      | nil =>
        have hd := hp.1 []
        rw [List.append_nil] at hd
        have hlen : bytes.length = l.len + 1 := by rw [hb, List.length_append, List.length_append, hl]; rfl
        rw [scanAfterWait_instr hfetch hd, hlen]
      | cons c rest =>
        have hd := hp.2 (acc ++ [b]).length (by simp)
        rw [hacc, List.take_left] at hd
        rw [scanAfterWait_more hfetch hd, hacc]
        refine ih (l := withLen l (l.len + 1)) (by rw [hb, hacc]) ?_ (by simp) (Nat.le_of_succ_le_succ hk) (by rw [← hacc]; exact hp)
        rw [List.length_append, ← Nat.add_assoc, ← hl]
        rfl

/-! ## The step -/

/-- Nothing stops an instruction whose prefixes are allowed. -/
theorem gate_run {i : Instr} {s : State} (hred : s.cur.redundant = false) (hlock : s.cur.lock = true → lockable i = true)
    (hrep : ∀ r, s.cur.rep = some r → repAllowed i r = true) : gate (.instr i) s = .ok i s := by
  have hl : (s.cur.lock && !lockable i) = false := by
    cases h : s.cur.lock with
    | false => rfl
    | true => rw [hlock h]; rfl
  cases h : s.cur.rep with
  | none =>
    simp only [gate, get_bind, hred, hl, h, Bool.false_eq_true, if_false]
    rfl
  | some r =>
    simp only [gate, get_bind, hred, hl, h, hrep r h, Bool.false_eq_true, if_false, if_true]
    rfl

theorem joinWait_other {i : Instr} (hi : i ≠ .wait) (s : State) : joinWait i s = .ok i s := by
  have : (decide (i = .wait) && s.cur.len == 1) = false := by rw [decide_eq_false hi]; rfl
  rw [joinWait, get_bind, if_neg (by rw [this]; exact Bool.false_ne_true)]
  rfl

/-- A WAIT is joined to the no-wait instruction behind it. -/
theorem joinWait_joined {j : Instr} {s u : State} (hlen : s.cur.len = 1) (h : scanAfterWait 14 [] s = .ok (some j) u) :
    joinWait .wait s = .ok j u := by
  have : (decide (Instr.wait = .wait) && s.cur.len == 1) = true := by rw [hlen]; rfl
  rw [joinWait, get_bind, if_pos this]
  simp only [h]
  rfl

/-- At a boundary without an event the instruction that is fetched is executed. -/
theorem step_of_fetch {s u : State} {i : Instr} (hb : s.begin.boundary = none) (hf : fetchInstr s.begin = .ok i u) :
    step s = exec i (withUnit i u) := by
  simp only [step, hb, runNext, hf]

/-- What the prefixes leave in the latch does not hold the length. -/
theorem latchOf_len {ps : List Instr} {l c : Latch} (h : latchOf ps l = some c) : c.len = l.len := by
  induction ps generalizing l with
  | nil => cases h; rfl
  | cons p ps ih =>
    rw [latchOf] at h
    cases hp : prefixEffect p with
    | none => rw [hp] at h; nomatch h
    | some f =>
      rw [hp] at h
      refine (ih h).trans ?_
      cases p <;> first | (cases hp; rfl) | nomatch hp

theorem encode_ne_nil (os as : Size) {i : Instr} (hw : i.wf os as = true) (hi : ¬ ∃ x : NoWait, i = x.waiting) : encode os as i ≠ [] := by
  intro h
  have := (parses_encode os as i hw hi).1 []
  rw [h] at this
  nomatch this

/-- Settles O52: the fetch reads the prefixes and then the instruction, which the decoder recognises at its last byte. -/
theorem stepRunsDecoded : Obligations.StepRunsDecoded := by
  intro s ps c i t z code bytes hbound hlatch hi hwait hw hlen hcode hid
  have hf : Fetchable t bytes := fetchable_of_codeAt hcode fun h l => hid h l
  refine ⟨fun hno hred hlock hrep => ?_, ?_⟩
  · refine (step_of_fetch hbound ?_)
    have hscan : scanInstr 15 [] (latched t Latch.empty) = .ok (.instr i)
        { t with cur := { c with len := bytes.length, fop := fopOf code }, pgSwitched := t.pgSwitched && !jumpsAway i } := by
      have hsplit : bytes.length = (ps.flatMap fun p => encode .s16 .s16 p).length + code.length := List.length_append
      have hk : code.length ≤ 15 - (ps.flatMap fun p => encode .s16 .s16 p).length := by omega
      have hpre := scanInstr_prefixes (k := 15 - (ps.flatMap fun p => encode .s16 .s16 p).length) (pre := []) (rest := code) hf rfl hlatch
      rw [Nat.add_sub_cancel' (hsplit ▸ hlen |> Nat.le_of_add_right_le)] at hpre
      refine Eq.trans hpre ?_
      refine scanInstr_code (pre := ps.flatMap fun p => encode .s16 .s16 p) (acc := []) hf rfl ?_ (encode_ne_nil _ _ hw hno) hk hi (parses_encode _ _ i hw hno)
      simp [withLen]
    rw [fetchInstr, modify_bind, show ({ t with cur := Latch.empty } : State) = latched t Latch.empty from rfl, bind_of_ok hscan,
      bind_of_ok (gate_run hred hlock hrep)]
    exact joinWait_other hwait _
  · rintro x rfl rfl
    cases hlatch
    obtain ⟨bs, he, hp⟩ := parses_waiting z.1 z.2 x hw
    have hbytes : bytes = 0x9B :: bs := he
    have hne : bs ≠ [] := by
      rintro rfl
      nomatch hp.1 []
    have hunit : ∀ u, withUnit x.waiting u = u := by cases x <;> exact fun _ => rfl
    have hfetch : fetchInstr t = .ok x.waiting (latched t { Latch.empty with len := bytes.length, fop := fopOf bs }) := by
      have h1 : fetchByte Latch.empty.len (latched t Latch.empty) = .ok 0x9B (latched t Latch.empty) := hf Latch.empty [] 0x9B bs hbytes
      have hwaits : scanInstr 15 [] (latched t Latch.empty) = .ok (.instr .wait) (latched t (withLen Latch.empty 1)) := by
        have := scanInstr_instr (acc := []) (k := 14) h1 (i := .wait) rfl rfl
        rwa [show (!jumpsAway .wait) = true from rfl, Bool.and_true] at this
      have hafter := scanAfterWait_code (k := 14) (l := withLen Latch.empty 1) (pre := [0x9B]) (acc := []) hf hbytes rfl hne
        (by rw [hbytes, List.length_cons] at hlen; omega) hp
      rw [fetchInstr, modify_bind, show ({ t with cur := Latch.empty } : State) = latched t Latch.empty from rfl, bind_of_ok hwaits,
        bind_of_ok (gate_run (s := latched t (withLen Latch.empty 1)) rfl nofun nofun)]
      exact joinWait_joined rfl hafter
    rw [step_of_fetch hbound hfetch, hunit, show code.drop 1 = bs by rw [show code = 0x9B :: bs from he]; rfl]
    rfl

end Sys2Proof.Laws

end

section
/-! Two-operand arithmetic and logic, CMP and TEST, INC, DEC, NEG and NOT (41_arithmetic.md R550 to R558, 42_logical_shift_bit.md R620 to R625): the
shape in which they read and write their operands, stated once, and then each operation on values. -/

noncomputable section

namespace Sys2Proof.Laws

open Sys2Proof Sys2Proof.Machine Sys2Proof.Claims

/-! ## Running an instruction -/

/-- An instruction whose computation ends. -/
theorem ran_of_run {i : Instr} {body : M Unit} {s t : State} (hi : exec i s = runInstr body s) (hb : body s.enter = .ok () t) : Ran i s t :=
  hi.trans (runInstr_ok hb)

/-- An instruction whose computation raises an exception. -/
theorem faults_of_run {i : Instr} {body : M Unit} {s t : State} {e : Exc} (hi : exec i s = runInstr body s)
    (hb : body s.enter = .error (.exc e) t) (hc : t.cur.committed = s.cur.committed) : Faults i s e t :=
  fun hs => hi.trans (runInstr_exc hb (hc.trans hs))

/-- Of an instruction's computation only what it does in the state entered counts. -/
theorem runInstr_congr {m k : M Unit} {s : State} (h : m s.enter = k s.enter) : runInstr m s = runInstr k s := by
  unfold runInstr
  rw [h]

/-- Writing to a place does what `PutAt` says. -/
theorem place_put_putAt (p : Place) (w : Nat) (v : BitVec w) (s : State) : ∃ t, p.put w v s = .ok () t ∧ PutAt p w v s t := by
  cases p with
  | reg r => exact ⟨_, rfl, rfl⟩
  | mem ps => exact store_stored ps v.toNat s

/-- A read-modify-write that is allowed. -/
theorem modifyRM_run {w : Nat} {rm : RM} {f : BitVec w → M (BitVec w)} {s s1 s2 s3 : State} {p : Place} {d r : BitVec w}
    (h1 : locate w rm .rw s = .ok p s1) (h2 : p.get w s1 = .ok d s2) (h3 : f d s2 = .ok r s3) :
    ∃ t, modifyRM w rm f s = .ok () t ∧ PutAt p w r s3 t := by
  rw [modifyRM_ok h1 h2 h3]
  exact place_put_putAt p w r s3

theorem readRM_run {w : Nat} {rm : RM} {s s1 s2 : State} {p : Place} {v : BitVec w} (h1 : locate w rm .r s = .ok p s1)
    (h2 : p.get w s1 = .ok v s2) : readRM w rm s = .ok v s2 := (readRM_ok h1).trans h2

/-! ## Two operands -/

/-- The operation on values. -/
def BinOp.alu : BinOp → Alu
  | .add => aluAdd
  | .or => aluOr
  | .adc => aluAdc
  | .sbb => aluSbb
  | .and => aluAnd
  | .sub => aluSub
  | .xor => aluXor

/-- An operation gives its result and its flags (R551 to R555, R620 to R623). -/
theorem alu_run (o : BinOp) (w : Nat) (d v : BitVec w) (s : State) : ∃ (fl : Flags) (n : Nat),
    BinOp.alu o w d v s = .ok (o.result s.flags.cf d v) { s with flags := fl, draws := n } ∧ o.flags s.flags d v fl := by
  cases o with
  | add => exact ⟨_, s.draws, rfl, rfl⟩
  | adc => exact ⟨_, s.draws, rfl, rfl⟩
  | sub => exact ⟨_, s.draws, rfl, rfl⟩
  | sbb => exact ⟨_, s.draws, rfl, rfl⟩
  | and => exact ⟨_, s.draws + 1, rfl, _, rfl⟩
  | or => exact ⟨_, s.draws + 1, rfl, _, rfl⟩
  | xor => exact ⟨_, s.draws + 1, rfl, _, rfl⟩

/-- The instruction of an operation and a form, as the opcode table gives it. -/
def toBody (op : Alu) : ToForm → M Unit
  | .rm8r8 rm r => aluRmR op rm r 8
  | .rmr rm r => atOs (aluRmR op rm r)
  | .al imm => aluAcc op (zimm8 imm) 8
  | .eax imm => atOs (aluAcc op (zimm imm))
  | .rm8imm8 rm imm => aluRmImm op rm (zimm8 imm) 8
  | .rmimm rm imm => atOs (aluRmImm op rm (zimm imm))
  | .rmsimm8 rm imm => atOs (aluRmImm op rm (simm8 imm))

theorem exec_toForm (o : BinOp) (f : ToForm) (s : State) : exec (o.instr f) s = runInstr (toBody (BinOp.alu o) f) s := by
  cases o <;> cases f <;> rfl

/-- Whatever the form: the destination is read and written at its place, the source found in between. -/
theorem toBody_run (op : Alu) (f : ToForm) (s : State) : toBody op f s.enter =
    modifyRM (f.width s) f.dst (fun d => get >>= fun u => op (f.width s) d (f.src (f.width s) u.regs)) s.enter := by
  cases f <;> rfl

/-- Settles O1. -/
theorem binaryToDestination : Obligations.BinaryToDestination := by
  intro o f s p s1 d s2 hloc hget
  obtain ⟨fl, n, hrun, hfl⟩ := alu_run o (f.width s) d (f.src (f.width s) s2.regs) s2
  obtain ⟨t, ht, hput⟩ := modifyRM_run (f := fun d => get >>= fun u => BinOp.alu o (f.width s) d (f.src (f.width s) u.regs)) hloc hget hrun
  exact ⟨fl, n, t, ran_of_run (exec_toForm o f s) ((toBody_run _ f s).trans ht), hfl, hput⟩

/-- The forms with a register destination, byte or `os`. -/
def atWidth (byte : Bool) (f : Nat → M Unit) : M Unit := if byte then f 8 else atOs f

theorem atWidth_run (byte : Bool) (f : Nat → M Unit) (s : State) : atWidth byte f s.enter = f (width byte s) s.enter := by
  cases byte <;> rfl

theorem exec_fromForm (o : BinOp) (byte : Bool) (rm : RM) (r : Reg) (s : State) :
    exec (o.fromInstr byte rm r) s = runInstr (atWidth byte (aluRRm (BinOp.alu o) rm r)) s := by
  cases o <;> cases byte <;> rfl

/-- Settles O2. -/
theorem binaryToRegister : Obligations.BinaryToRegister := by
  intro o byte rm r s p s1 v s2 hloc hget
  obtain ⟨fl, n, hrun, hfl⟩ := alu_run o (width byte s) (s2.regs.read (width byte s) r) v s2
  refine ⟨fl, n, hfl, ran_of_run (exec_fromForm o byte rm r s) ?_⟩
  rw [atWidth_run, aluRRm, bind_of_ok (readRM_run hloc hget), bind_of_ok (readReg_run _ _ _), bind_of_ok hrun]
  rfl

/-! ## CMP and TEST -/

/-- CMP or TEST in the forms of R550. -/
def cmpBody (op : Cmp) : ToForm → M Unit
  | .rm8r8 rm r => cmpRmR op rm r 8
  | .rmr rm r => atOs (cmpRmR op rm r)
  | .al imm => cmpAcc op (zimm8 imm) 8
  | .eax imm => atOs (cmpAcc op (zimm imm))
  | .rm8imm8 rm imm => cmpRmImm op rm (zimm8 imm) 8
  | .rmimm rm imm => atOs (cmpRmImm op rm (zimm imm))
  | .rmsimm8 rm imm => atOs (cmpRmImm op rm (simm8 imm))

/-- Whatever the form: both operands are read. -/
theorem cmpBody_run (op : Cmp) (f : ToForm) (s : State) : cmpBody op f s.enter =
    (readRM (f.width s) f.dst >>= fun d => get >>= fun u => op (f.width s) d (f.src (f.width s) u.regs)) s.enter := by
  cases f <;> rfl

/-- TEST sets the flags of AND (R625). -/
theorem aluTest_run (w : Nat) (d v : BitVec w) (s : State) : ∃ (fl : Flags) (n : Nat),
    aluTest w d v s = .ok () { s with flags := fl, draws := n } ∧ BinOp.and.flags s.flags d v fl := ⟨_, s.draws + 1, rfl, _, rfl⟩

theorem exec_cmp (f : ToForm) (s : State) : exec (cmpInstr f) s = runInstr (cmpBody aluCmp f) s := by
  cases f <;> rfl

theorem exec_test {f : ToForm} {i : Instr} (h : testInstr f = some i) (s : State) : exec i s = runInstr (cmpBody aluTest f) s := by
  cases f <;> cases h <;> rfl

theorem exec_cmpFrom (byte : Bool) (rm : RM) (r : Reg) (s : State) :
    exec (if byte then .cmpR8Rm8 rm r else .cmpRRm rm r) s = runInstr (atWidth byte (cmpRRm aluCmp rm r)) s := by
  cases byte <;> rfl

/-- Settles O3. -/
theorem compareSetsFlags : Obligations.CompareSetsFlags := by
  refine ⟨fun f s p s1 d s2 hloc hget => ⟨?_, fun i hi => ?_⟩, fun byte rm r s p s1 v s2 hloc hget => ?_⟩
  · refine ran_of_run (exec_cmp f s) ?_
    rw [cmpBody_run, bind_of_ok (readRM_run hloc hget)]
    rfl
  · obtain ⟨fl, n, hrun, hfl⟩ := aluTest_run (f.width s) d (f.src (f.width s) s2.regs) s2
    refine ⟨fl, n, hfl, ran_of_run (exec_test hi s) ?_⟩
    rw [cmpBody_run, bind_of_ok (readRM_run hloc hget)]
    exact hrun
  · refine ran_of_run (exec_cmpFrom byte rm r s) ?_
    rw [atWidth_run, cmpRRm, bind_of_ok (readRM_run hloc hget)]
    rfl

/-! ## One operand -/

/-- The operation on an r/m operand. -/
def UnOp.body (rm : RM) : UnOp → Nat → M Unit
  | .inc => incr rm
  | .dec => decr rm
  | .neg => negate rm
  | .not => invert rm

theorem exec_unary (o : UnOp) (byte : Bool) (rm : RM) (s : State) : exec (o.instr byte rm) s = runInstr (atWidth byte (UnOp.body rm o)) s := by
  cases o <;> cases byte <;> rfl

theorem unaryBody_run {o : UnOp} {w : Nat} {rm : RM} {s s1 s2 : State} {p : Place} {d : BitVec w}
    (hloc : locate w rm .rw s = .ok p s1) (hget : p.get w s1 = .ok d s2) :
    ∃ t, UnOp.body rm o w s = .ok () t ∧ PutAt p w (o.result d) { s2 with flags := o.flags s2.flags d } t := by
  cases o <;> exact modifyRM_run hloc hget rfl

theorem exec_incR (r : Reg) (s : State) : exec (.incR r) s = runInstr (atOs (UnOp.body (.reg r) .inc)) s := rfl
theorem exec_decR (r : Reg) (s : State) : exec (.decR r) s = runInstr (atOs (UnOp.body (.reg r) .dec)) s := rfl

/-- Settles O4. -/
theorem unaryReadModifyWrite : Obligations.UnaryReadModifyWrite := by
  refine ⟨fun o byte rm s p s1 d s2 hloc hget => ?_, fun r s => ⟨ran_of_run (exec_incR r s) rfl, ran_of_run (exec_decR r s) rfl⟩⟩
  obtain ⟨t, ht, hput⟩ := unaryBody_run (o := o) hloc hget
  exact ⟨t, ran_of_run (exec_unary o byte rm s) ((atWidth_run _ _ s).trans ht), hput⟩

end Sys2Proof.Laws

end
end

section
/-! Shifts and rotates (42_logical_shift_bit.md R630 to R639): the operations of the model, which move all positions at once, against single-bit
steps. A rotate is followed bit by bit around its ring: `w` bits, or `w + 1` with CF. -/

noncomputable section

namespace Sys2Proof.Laws

open Sys2Proof Sys2Proof.Machine Sys2Proof.Claims

/-! ## Rings of bits -/

/-- Rotating left by `c` is `c` times going one position down, which is `n - 1` positions up, around the ring. -/
theorem getLsbD_rotateLeft_ring {n : Nat} (x : BitVec n) (c i : Nat) (hi : i < n) :
    (x.rotateLeft c).getLsbD i = x.getLsbD ((i + c * (n - 1)) % n) := by
  obtain ⟨m, rfl⟩ : ∃ m, n = m + 1 := ⟨n - 1, by omega⟩
  have hc : c * m = c % (m + 1) * m + (m + 1) * (c / (m + 1) * m) := by
    conv_lhs => rw [← Nat.mod_add_div c (m + 1)]
    ring
  have hr : c % (m + 1) < m + 1 := Nat.mod_lt _ (by omega)
  rw [BitVec.getLsbD_rotateLeft, Nat.add_sub_cancel, Bool.cond_decide, hc, ← Nat.add_assoc, Nat.add_mul_mod_self_left]
  generalize c % (m + 1) = r at hr
  split
  · next h =>
    obtain ⟨r, rfl⟩ : ∃ r', r = r' + 1 := ⟨r - 1, by omega⟩
    have : i + (r + 1) * m = (m + 1 - (r + 1) + i) + (m + 1) * r := by
      have : r + (m - r) = m := by omega
      rw [Nat.add_sub_add_right]
      nlinarith
    rw [this, Nat.add_mul_mod_self_left, Nat.mod_eq_of_lt (by omega)]
  · next h =>
    have : i + r * m = (i - r) + (m + 1) * r := by
      have : i - r + r = i := by omega
      nlinarith
    rw [this, Nat.add_mul_mod_self_left, Nat.mod_eq_of_lt (by omega), decide_eq_true hi, Bool.true_and]

/-- Rotating right by `c` is going `c` positions up around the ring. -/
theorem getLsbD_rotateRight_ring {n : Nat} (x : BitVec n) (c i : Nat) (hi : i < n) :
    (x.rotateRight c).getLsbD i = x.getLsbD ((i + c) % n) := by
  have hr : c % n < n := Nat.mod_lt _ (by omega)
  rw [BitVec.getLsbD_rotateRight, ← Nat.add_mod_mod, Bool.cond_decide]
  generalize c % n = r at hr
  split
  · next h => rw [Nat.add_comm, Nat.mod_eq_of_lt (by omega)]
  · next h =>
    rw [Nat.mod_eq_sub_mod (by omega), Nat.mod_eq_of_lt (by omega), decide_eq_true hi, Bool.true_and,
      show i - (n - r) = i + r - n by omega]

section
variable {w : Nat} (o : ShOp) (x : BitVec w × Bool)

/-- A single-bit step that goes `k` positions around a ring of `n` bits, done `c` times. -/
theorem times_ring {n k : Nat} {ring : BitVec w × Bool → BitVec n}
    (hstep : ∀ y i, i < n → (ring (o.once y)).getLsbD i = (ring y).getLsbD ((i + k) % n)) (c i : Nat) (hi : i < n) :
    (ring (o.times c x)).getLsbD i = (ring x).getLsbD ((i + c * k) % n) := by
  induction c generalizing x i with
  | zero => rw [Nat.zero_mul, Nat.add_zero, Nat.mod_eq_of_lt hi, ShOp.times]
  | succ c ih =>
    rw [ShOp.times, ih _ _ hi, hstep _ _ (Nat.mod_lt _ (by omega)), Nat.mod_add_mod, Nat.add_mul, Nat.one_mul, Nat.add_assoc]

/-- A bit that comes in at the bottom of a shift left. -/
theorem getLsbD_in_low (y : BitVec w) (b : Bool) (i : Nat) (hi : i < w) :
    ((y <<< 1) ||| if b then 1#w <<< 0 else 0).getLsbD i = if i = 0 then b else y.getLsbD (i - 1) := by
  have h0 : 0 < w := by omega
  cases b <;> by_cases h : i = 0 <;> simp [h, hi, h0, BitVec.getLsbD_one, BitVec.getLsbD_shiftLeft, -BitVec.getLsbD_eq_getElem]

/-- A bit that comes in at the top of a shift right. -/
theorem getLsbD_in_high (y : BitVec w) (b : Bool) (i : Nat) (hi : i < w) :
    ((y >>> 1) ||| if b then 1#w <<< (w - 1) else 0).getLsbD i = if i = w - 1 then b else y.getLsbD (i + 1) := by
  have h0 : 0 < w := by omega
  have h1 : 1 + (w - 1) = w := by omega
  have hne : i ≠ w - 1 → i < w - 1 := by omega
  by_cases h : i = w - 1
  · subst h
    cases b <;> simp [BitVec.getLsbD_ushiftRight, BitVec.getLsbD_shiftLeft, h0, h1, hi, -BitVec.getLsbD_eq_getElem]
  · cases b <;> simp [BitVec.getLsbD_ushiftRight, BitVec.getLsbD_shiftLeft, h, hi, hne h, Nat.add_comm, -BitVec.getLsbD_eq_getElem]

/-! ## Rotates, step by step -/

/-- ROL goes around the ring of `w` bits. -/
theorem times_rol (c : Nat) : (ShOp.rol.times c x).1 = x.1.rotateLeft c := by
  refine BitVec.eq_of_getLsbD_eq fun i hi => ?_
  rw [getLsbD_rotateLeft_ring _ _ _ hi]
  refine times_ring .rol x (ring := Prod.fst) (fun y i hi => (getLsbD_in_low _ _ i hi).trans ?_) c i hi
  split
  · next h => rw [h, Nat.zero_add, Nat.mod_eq_of_lt (by omega), BitVec.msb_eq_getLsbD_last]
  · next h => rw [show i + (w - 1) = i - 1 + w by omega, Nat.add_mod_right, Nat.mod_eq_of_lt (by omega)]

/-- ROR goes around it the other way. -/
theorem times_ror (c : Nat) : (ShOp.ror.times c x).1 = x.1.rotateRight c := by
  refine BitVec.eq_of_getLsbD_eq fun i hi => ?_
  rw [getLsbD_rotateRight_ring _ _ _ hi]
  refine (times_ring .ror x (ring := Prod.fst) (k := 1) (fun y i hi => (getLsbD_in_high _ _ i hi).trans ?_) c i hi).trans
    (by rw [Nat.mul_one])
  split
  · next h => rw [h, Nat.sub_add_cancel (by omega), Nat.mod_self]
  · next h => rw [Nat.mod_eq_of_lt (by omega)]

/-- The ring of RCL: CF above the operand. -/
def ringLeft (y : BitVec w × Bool) : BitVec (w + 1) := .cons y.2 y.1

/-- The ring of RCR: CF below the operand. -/
def ringRight (y : BitVec w × Bool) : BitVec (w + 1) := .concat y.1 y.2

theorem times_rcl (hw : 0 < w) (c : Nat) : ringLeft (ShOp.rcl.times c x) = (ringLeft x).rotateLeft c := by
  refine BitVec.eq_of_getLsbD_eq fun i hi => ?_
  rw [getLsbD_rotateLeft_ring _ _ _ hi, Nat.add_sub_cancel]
  refine times_ring .rcl x (ring := ringLeft) (fun y i hi => ?_) c i hi
  have carry : (ShOp.rcl.once y).2 = y.1.msb := rfl
  have low : i < w → (ShOp.rcl.once y).1.getLsbD i = if i = 0 then y.2 else y.1.getLsbD (i - 1) := getLsbD_in_low _ _ i
  simp only [ringLeft, BitVec.getLsbD_cons, carry]
  by_cases h0 : i = 0
  · subst h0
    rw [Nat.zero_add, Nat.mod_eq_of_lt (Nat.lt_succ_self w), if_pos rfl, if_neg (by omega), low hw, if_pos rfl]
  · rw [show i + w = i - 1 + (w + 1) by omega, Nat.add_mod_right, Nat.mod_eq_of_lt (by omega), if_neg (show i - 1 ≠ w by omega)]
    split
    · next h => rw [h, BitVec.msb_eq_getLsbD_last]
    · next h => rw [low (by omega), if_neg h0]

theorem times_rcr (hw : 0 < w) (c : Nat) : ringRight (ShOp.rcr.times c x) = (ringRight x).rotateRight c := by
  refine BitVec.eq_of_getLsbD_eq fun i hi => ?_
  rw [getLsbD_rotateRight_ring _ _ _ hi]
  refine (times_ring .rcr x (ring := ringRight) (k := 1) (fun y i hi => ?_) c i hi).trans (by rw [Nat.mul_one])
  have carry : (ShOp.rcr.once y).2 = y.1.getLsbD 0 := rfl
  have high : i - 1 < w → (ShOp.rcr.once y).1.getLsbD (i - 1) = if i - 1 = w - 1 then y.2 else y.1.getLsbD (i - 1 + 1) :=
    getLsbD_in_high _ _ (i - 1)
  simp only [ringRight, BitVec.getLsbD_concat, carry]
  by_cases h0 : i = 0
  · subst h0
    rw [if_pos rfl, Nat.zero_add, Nat.mod_eq_of_lt (by omega), if_neg Nat.one_ne_zero]
  · rw [if_neg h0, high (by omega)]
    by_cases h : i = w
    · rw [if_pos (by omega), h, Nat.mod_self, if_pos rfl]
    · rw [if_neg (by omega), Nat.mod_eq_of_lt (by omega), if_neg (by omega), Nat.sub_add_cancel (by omega), Nat.add_sub_cancel]

/-! ## Shifts, step by step -/

theorem times_succ (c : Nat) : o.times (c + 1) x = o.once (o.times c x) := by
  induction c generalizing x with
  | zero => rfl
  | succ c ih => exact ih (o.once x)

theorem times_shl (c : Nat) : (ShOp.shl.times c x).1 = x.1 <<< c := by
  induction c with
  | zero => rw [BitVec.shiftLeft_zero]; rfl
  | succ c ih => rw [times_succ, BitVec.shiftLeft_add, ← ih]; rfl

theorem times_shr (c : Nat) : (ShOp.shr.times c x).1 = x.1 >>> c := by
  induction c with
  | zero => rw [BitVec.ushiftRight_zero]; rfl
  | succ c ih => rw [times_succ, BitVec.shiftRight_add, ← ih]; rfl

theorem times_sar (c : Nat) : (ShOp.sar.times c x).1 = x.1.sshiftRight c := by
  induction c with
  | zero => rw [BitVec.sshiftRight_zero]; rfl
  | succ c ih => rw [times_succ, BitVec.sshiftRight_add, ← ih]; rfl

end

/-! ## The last bit out -/

section
variable {w : Nat} (x : BitVec w × Bool) {c : Nat} (hc : 0 < c)
include hc

theorem exists_times_succ (o : ShOp) : ∃ c', c = c' + 1 ∧ o.times c x = o.once (o.times c' x) := by
  obtain ⟨c', rfl⟩ : ∃ c', c = c' + 1 := ⟨c - 1, by omega⟩
  exact ⟨c', rfl, times_succ o x c'⟩

theorem carry_rol (hw : 0 < w) : (ShOp.rol.times c x).2 = (x.1.rotateLeft c).getLsbD 0 := by
  obtain ⟨c', -, h⟩ := exists_times_succ x hc .rol
  rw [← times_rol x, h]
  exact ((getLsbD_in_low _ _ 0 hw).trans (if_pos rfl)).symm

theorem carry_ror (hw : 0 < w) : (ShOp.ror.times c x).2 = (x.1.rotateRight c).msb := by
  obtain ⟨c', -, h⟩ := exists_times_succ x hc .ror
  rw [← times_ror x, h, BitVec.msb_eq_getLsbD_last]
  exact ((getLsbD_in_high _ _ (w - 1) (by omega)).trans (if_pos rfl)).symm

theorem carry_shl (hcw : c < w) : (ShOp.shl.times c x).2 = x.1.getLsbD (w - c) := by
  obtain ⟨c', rfl, h⟩ := exists_times_succ x hc .shl
  rw [h, show (ShOp.shl.once (ShOp.shl.times c' x)).2 = (ShOp.shl.times c' x).1.msb from rfl, times_shl, BitVec.msb_eq_getLsbD_last,
    BitVec.getLsbD_shiftLeft, decide_eq_true (by omega), decide_eq_false (by omega), Bool.not_false, Bool.true_and, Bool.true_and,
    show w - 1 - c' = w - (c' + 1) by omega]

theorem carry_shr : (ShOp.shr.times c x).2 = x.1.getLsbD (c - 1) := by
  obtain ⟨c', rfl, h⟩ := exists_times_succ x hc .shr
  rw [h, show (ShOp.shr.once (ShOp.shr.times c' x)).2 = (ShOp.shr.times c' x).1.getLsbD 0 from rfl, times_shr, BitVec.getLsbD_ushiftRight]
  rfl

theorem carry_sar (hcw : c < w) : (ShOp.sar.times c x).2 = x.1.getLsbD (c - 1) := by
  obtain ⟨c', rfl, h⟩ := exists_times_succ x hc .sar
  rw [h, show (ShOp.sar.once (ShOp.sar.times c' x)).2 = (ShOp.sar.times c' x).1.getLsbD 0 from rfl, times_sar, BitVec.getLsbD_sshiftRight,
    decide_eq_false (by omega), Bool.not_false, Bool.true_and, if_pos (by omega), Nat.add_zero, Nat.add_sub_cancel]

end

/-! ## The operations -/

/-- The operation on values. -/
def ShOp.shift : ShOp → Shift
  | .rol => rolOp
  | .ror => rorOp
  | .rcl => rclOp
  | .rcr => rcrOp
  | .shl => shlOp
  | .shr => shrOp
  | .sar => sarOp

/-- CF, and OF for a count of 1; the rest as it was (R636). -/
theorem rotateFlags_run (c : Nat) (cf ov : Bool) (s : State) : ∃ b : Bool, rotateFlags c cf ov s =
    .ok () { s with flags := { s.flags with cf := cf, of := if c = 1 then ov else b }, draws := s.draws + 1 } := ⟨_, rfl⟩

/-- SF, ZF and PF of the result, CF below the width, OF for a count of 1, AF open (R631 to R633). -/
theorem shiftFlags_run {w : Nat} (r : BitVec w) (c : Nat) (cf ov : Bool) (s : State) : ∃ b b' a : Bool, shiftFlags r c cf ov s =
    .ok () { s with flags := { s.flags.szp r with cf := if c < w then cf else b, of := if c = 1 then ov else b', af := a }
                    draws := s.draws + 3 } := ⟨_, _, _, rfl⟩

section
variable {w : Nat} {d : BitVec w} {c : Nat} {s : State}

/-- A rotate with the result and the carry of the single-bit steps. -/
theorem rotate_run {o : ShOp} {r : BitVec w} {cf ov : Bool} (hrot : o.isRotate = true) (hr : (o.times c (d, s.flags.cf)).1 = r)
    (hcf : (o.times c (d, s.flags.cf)).2 = cf) (hov : c = 1 → ov = (d.msb != r.msb)) : ∃ (fl : Flags) (n : Nat),
    (rotateFlags c cf ov >>= fun _ => pure r : M (BitVec w)) s = .ok (o.times c (d, s.flags.cf)).1 { s with flags := fl, draws := n } ∧
      o.flags s.flags d (o.times c (d, s.flags.cf)).1 c (o.times c (d, s.flags.cf)).2 fl := by
  obtain ⟨b, h⟩ := rotateFlags_run c cf ov s
  refine ⟨_, _, by rw [bind_of_ok h, hr]; rfl, ?_, fun _ => hcf.symm, ?_⟩
  · rintro rfl
    rw [hr]
    exact hov rfl
  · rw [if_pos hrot]

/-- A shift likewise. -/
theorem shift_run {o : ShOp} {r : BitVec w} {cf ov : Bool} (hrot : o.isRotate = false) (hr : (o.times c (d, s.flags.cf)).1 = r)
    (hcf : c < w → (o.times c (d, s.flags.cf)).2 = cf) (hov : c = 1 → ov = (d.msb != r.msb)) : ∃ (fl : Flags) (n : Nat),
    (shiftFlags r c cf ov >>= fun _ => pure r : M (BitVec w)) s = .ok (o.times c (d, s.flags.cf)).1 { s with flags := fl, draws := n } ∧
      o.flags s.flags d (o.times c (d, s.flags.cf)).1 c (o.times c (d, s.flags.cf)).2 fl := by
  obtain ⟨b, b', a, h⟩ := shiftFlags_run r c cf ov s
  refine ⟨_, _, by rw [bind_of_ok h, hr]; rfl, ?_, ?_, ?_⟩
  · rintro rfl
    rw [hr]
    exact hov rfl
  · rintro (h | h)
    · rw [hrot] at h; nomatch h
    · exact (if_pos h).trans (hcf h).symm
  · rw [hrot, hr]
    rfl

/-- OF of a count of 1: the sign of the result against a bit that is the sign of the operand. -/
theorem xor_sign {a b m : Bool} (h : b = m) : (a ^^ b) = (m != a) := by
  subst h
  exact Bool.xor_comm a b

theorem ringLeft_parts (y : BitVec w × Bool) : (ringLeft y).setWidth w = y.1 ∧ (ringLeft y).msb = y.2 :=
  ⟨BitVec.setWidth_cons, BitVec.msb_cons ..⟩

theorem ringRight_parts (y : BitVec w × Bool) : (ringRight y).extractLsb' 1 w = y.1 ∧ bit (ringRight y) 0 = y.2 := by
  refine ⟨BitVec.eq_of_getLsbD_eq fun i hi => ?_, ?_⟩
  · rw [BitVec.getLsbD_extractLsb', ringRight, BitVec.getLsbD_concat, decide_eq_true hi, if_neg (by omega), Bool.true_and,
      Nat.add_sub_cancel_left]
  · rw [bit, ringRight, BitVec.getLsbD_concat, if_pos rfl]

/-- Every operation gives the result and the flags of `c` single-bit steps (R631 to R639). -/
theorem shiftOp_run (o : ShOp) (hw : 2 ≤ w) (hc : 0 < c) : ∃ (fl : Flags) (n : Nat),
    ShOp.shift o w d c s = .ok (o.times c (d, s.flags.cf)).1 { s with flags := fl, draws := n } ∧
      o.flags s.flags d (o.times c (d, s.flags.cf)).1 c (o.times c (d, s.flags.cf)).2 fl := by
  have hw0 : 0 < w := by omega
  cases o with
  | rol =>
    refine rotate_run rfl (times_rol _ _) (carry_rol _ hc hw0) ?_
    rintro rfl
    exact xor_sign (carry_rol (d, s.flags.cf) Nat.one_pos hw0).symm
  | ror =>
    refine rotate_run rfl (times_ror _ _) (carry_ror _ hc hw0) ?_
    rintro rfl
    refine xor_sign ?_
    rw [bit, getLsbD_rotateRight_ring _ _ _ (by omega), Nat.mod_eq_of_lt (by omega), BitVec.msb_eq_getLsbD_last,
      show w - 2 + 1 = w - 1 by omega]
  | rcl =>
    have hring : (BitVec.cons s.flags.cf d).rotateLeft (c % (w + 1)) = ringLeft (ShOp.rcl.times c (d, s.flags.cf)) := by
      rw [BitVec.rotateLeft_mod_eq_rotateLeft, times_rcl _ hw0]
      rfl
    obtain ⟨hr, hcf⟩ := ringLeft_parts (ShOp.rcl.times c (d, s.flags.cf))
    refine rotate_run rfl ?_ ?_ ?_
    · rw [hring, hr]
    · rw [hring, hcf]
    · rintro rfl
      rw [hring, hr, hcf]
      exact xor_sign rfl
  | rcr =>
    have hring : (BitVec.concat d s.flags.cf).rotateRight (c % (w + 1)) = ringRight (ShOp.rcr.times c (d, s.flags.cf)) := by
      rw [BitVec.rotateRight_mod_eq_rotateRight, times_rcr _ hw0]
      rfl
    obtain ⟨hr, hcf⟩ := ringRight_parts (ShOp.rcr.times c (d, s.flags.cf))
    refine rotate_run rfl ?_ ?_ ?_
    · rw [hring, hr]
    · rw [hring, hcf]
    · rintro rfl
      rw [hring, hr]
      refine xor_sign ((getLsbD_in_high _ _ (w - 2) (by omega)).trans ?_)
      rw [if_neg (by omega), BitVec.msb_eq_getLsbD_last, show w - 2 + 1 = w - 1 by omega]
  | shl =>
    refine shift_run rfl (times_shl _ _) (carry_shl _ hc) ?_
    rintro rfl
    exact xor_sign (BitVec.msb_eq_getLsbD_last d).symm
  | shr =>
    refine shift_run rfl (times_shr _ _) (fun _ => carry_shr _ hc) ?_
    rintro rfl
    rw [BitVec.msb_ushiftRight]
    cases d.msb <;> rfl
  | sar =>
    refine shift_run rfl (times_sar _ _) (carry_sar _ hc) ?_
    rintro rfl
    rw [BitVec.msb_sshiftRight, bne_self_eq_false]

end

/-! ## The instructions -/

theorem exec_shift (o : ShOp) (byte : Bool) (rm : RM) (k : Count) (s : State) :
    exec (o.instr byte rm k) s = runInstr (atWidth byte (shiftRM (ShOp.shift o) rm k)) s := by
  cases o <;> cases byte <;> cases k <;> rfl

theorem two_le_width (byte : Bool) (s : State) : 2 ≤ width byte s := by
  cases byte with
  | true => exact show 2 ≤ 8 by decide
  | false =>
    show 2 ≤ s.os.bits
    cases s.os <;> decide

/-- The count, read after the operand was found. -/
theorem shiftRM_run {op : Shift} {rm : RM} {k : Count} {w : Nat} {s s1 s2 : State} {p : Place} {d : BitVec w}
    (hloc : locate w rm .rw s = .ok p s1) (hget : p.get w s1 = .ok d s2) : shiftRM op rm k w s =
      (if k.value s2 = 0 then pure () else op w d (k.value s2) >>= fun r => p.put w r : M Unit) s2 := by
  rw [shiftRM, bind_of_ok hloc, bind_of_ok hget, get_bind]

/-- Settles O5. -/
theorem shiftAndRotate : Obligations.ShiftAndRotate := by
  intro o byte rm k s p s1 d s2 hloc hget
  have hbody := (atWidth_run byte (shiftRM (ShOp.shift o) rm k) s).trans (shiftRM_run hloc hget)
  split
  · next hk =>
    rw [if_pos hk] at hbody
    exact ran_of_run (exec_shift o byte rm k s) hbody
  · next hk =>
    obtain ⟨fl, n, hrun, hfl⟩ := shiftOp_run (d := d) (s := s2) o (two_le_width byte s) (Nat.pos_of_ne_zero hk)
    obtain ⟨t, ht, hput⟩ := place_put_putAt p _ (o.times (k.value s2) (d, s2.flags.cf)).1 { s2 with flags := fl, draws := n }
    rw [if_neg hk, bind_of_ok hrun, ht] at hbody
    exact ⟨fl, n, t, ran_of_run (exec_shift o byte rm k s) hbody, hfl, hput⟩

end Sys2Proof.Laws

end
end

section
/-! Double shifts, bit tests, bit scans and SETcc (42_logical_shift_bit.md R634, R635, R660 to R670), bit by bit. -/

noncomputable section

namespace Sys2Proof.Laws

open Sys2Proof Sys2Proof.Machine Sys2Proof.Claims

/-! ## Double shifts -/

/-- The operation of SHLD or SHRD. -/
def doubleFn (left : Bool) : (w : Nat) → BitVec w → BitVec w → Nat → BitVec w × Bool := if left then shldFn else shrdFn

/-- Bit `j` of a double shift (R634, R635). -/
theorem getLsbD_doubleFn (left : Bool) {w c j : Nat} (d v : BitVec w) (hj : j < w) (hc : c ≤ w) : (doubleFn left w d v c).1.getLsbD j =
    if left then (if j < c then v.getLsbD (w - c + j) else d.getLsbD (j - c))
    else (if j + c < w then d.getLsbD (j + c) else v.getLsbD (j + c - w)) := by
  cases left with
  | true =>
    show (((d ++ v) <<< c).extractLsb' w w).getLsbD j = _
    rw [BitVec.getLsbD_extractLsb', BitVec.getLsbD_shiftLeft, BitVec.getLsbD_append, decide_eq_true hj, decide_eq_true (by omega),
      decide_eq_false (by omega), if_pos rfl]
    by_cases h : j < c
    · rw [if_pos h, if_pos (by omega), show w + j - c = w - c + j by omega]; rfl
    · rw [if_neg h, if_neg (by omega), show w + j - c - w = j - c by omega]; rfl
  | false =>
    show (((v ++ d) >>> c).extractLsb' 0 w).getLsbD j = _
    rw [BitVec.getLsbD_extractLsb', BitVec.getLsbD_ushiftRight, BitVec.getLsbD_append, decide_eq_true hj, Bool.true_and, Nat.zero_add,
      Nat.add_comm c j, if_neg Bool.false_ne_true]

theorem doubleFn_carry (left : Bool) {w c : Nat} (d v : BitVec w) :
    (doubleFn left w d v c).2 = d.getLsbD (if left then w - c else c - 1) := by
  cases left <;> rfl

theorem exec_double {left : Bool} {rm : RM} {r : Reg} {k : Count} {i : Instr} (hi : doubleInstr left rm r k = some i) (s : State) :
    exec i s = runInstr (atOs (doubleShift (doubleFn left) rm r k)) s := by
  cases left <;> cases k <;> cases hi <;> rfl

/-- What follows once the operand was read: nothing, an open result, or the shift. -/
theorem doubleShift_run {f : (w : Nat) → BitVec w → BitVec w → Nat → BitVec w × Bool} {rm : RM} {r : Reg} {k : Count} {w : Nat}
    {s s1 s2 : State} {p : Place} {d : BitVec w} (hloc : locate w rm .rw s = .ok p s1) (hget : p.get w s1 = .ok d s2) :
    doubleShift f rm r k w s =
      (if k.value s2 = 0 then pure () else if w < k.value s2 then draw w >>= fun free => drawStatus >>= fun _ => p.put w free
        else modifyFlags (fun g => { g.szp (f w d (s2.regs.read w r) (k.value s2)).1 with cf := (f w d (s2.regs.read w r) (k.value s2)).2 })
          >>= fun _ => setOfOnce (k.value s2) ((f w d (s2.regs.read w r) (k.value s2)).1.msb ^^ d.msb) >>= fun _ => drawAf >>= fun _ =>
            p.put w (f w d (s2.regs.read w r) (k.value s2)).1 : M Unit) s2 := by
  rw [doubleShift, bind_of_ok hloc, bind_of_ok hget, bind_of_ok (readReg_run _ _ _), get_bind]

/-- Past the width: result and status flags are open. -/
theorem doubleShift_past {w : Nat} {p : Place} (s : State) : ∃ (fl : Flags) (n : Nat) (v : BitVec w) (t : State),
    (draw w >>= fun free => drawStatus >>= fun _ => p.put w free : M Unit) s = .ok () t ∧ onlyStatus s.flags fl ∧
      PutAt p w v { s with flags := fl, draws := n } t := by
  have hdraw : ∃ fl, drawStatus { s with draws := s.draws + 1 } = .ok () { s with flags := fl, draws := s.draws + 7 } ∧
      onlyStatus s.flags fl := ⟨_, rfl, rfl⟩
  obtain ⟨fl, hdraw, hfl⟩ := hdraw
  obtain ⟨t, ht, hput⟩ := place_put_putAt p w (Config.draw w s.draws) { s with flags := fl, draws := s.draws + 7 }
  exact ⟨fl, _, _, t, by rw [bind_of_ok (draw_run _ _), bind_of_ok hdraw, ht], hfl, hput⟩

/-- Within it: the result, and the flags it sets. -/
theorem doubleShift_within {w c : Nat} {p : Place} (d v : BitVec w) (cf : Bool) (s : State) : ∃ (fl : Flags) (n : Nat) (t : State),
    (modifyFlags (fun g => { g.szp v with cf := cf }) >>= fun _ => setOfOnce c (v.msb ^^ d.msb) >>= fun _ => drawAf >>= fun _ =>
      p.put w v : M Unit) s = .ok () t ∧ onlyStatus s.flags fl ∧ PutAt p w v { s with flags := fl, draws := n } t ∧
      fl.cf = cf ∧ (c = 1 → fl.of = (v.msb != d.msb)) ∧ fl.sf = v.msb ∧ fl.zf = (v == 0) ∧ fl.pf = evenParity (v.setWidth 8) := by
  obtain ⟨b, hb⟩ : ∃ b : Bool, setOfOnce c (v.msb ^^ d.msb) { s with flags := { s.flags.szp v with cf := cf } } =
      .ok () { s with flags := { s.flags.szp v with cf := cf, of := if c = 1 then v.msb ^^ d.msb else b }
                      draws := s.draws + 1 } := ⟨_, rfl⟩
  obtain ⟨a, ha⟩ : ∃ a : Bool, drawAf { s with flags := { s.flags.szp v with cf := cf, of := if c = 1 then v.msb ^^ d.msb else b }
                                               draws := s.draws + 1 } =
      .ok () { s with flags := { s.flags.szp v with cf := cf, of := if c = 1 then v.msb ^^ d.msb else b, af := a }
                      draws := s.draws + 2 } := ⟨_, rfl⟩
  obtain ⟨t, ht, hput⟩ := place_put_putAt p w v
    { s with flags := { s.flags.szp v with cf := cf, of := if c = 1 then v.msb ^^ d.msb else b, af := a }, draws := s.draws + 2 }
  refine ⟨_, _, t, ?_, ?_, hput, rfl, fun h => ?_, rfl, rfl, rfl⟩
  · rw [bind_of_ok (modifyFlags_run _ _), bind_of_ok hb, bind_of_ok ha, ht]
  · rfl
  · exact if_pos h

/-- Settles O6. -/
theorem doubleShift : Obligations.DoubleShift := by
  intro left rm r k i s p s1 d s2 hi hloc hget
  have hbody := doubleShift_run (f := doubleFn left) (r := r) (k := k) hloc hget
  have hran {t : State} (h : _ = EStateM.Result.ok () t) : Ran i s t :=
    ran_of_run (exec_double hi s) ((atOs_run _ _).trans (hbody.trans h))
  split
  · next hk => exact hran (by rw [if_pos hk]; rfl)
  · next hk =>
    by_cases hw : s.os.bits < k.value s2
    · obtain ⟨fl, n, v, t, ht, hfl, hput⟩ := doubleShift_past (p := p) (w := s.os.bits) s2
      exact ⟨fl, n, v, t, hran (by rw [if_neg hk, if_pos hw, ht]), hfl, hput, fun h => absurd hw (Nat.not_lt.mpr h)⟩
    · let y := doubleFn left s.os.bits d (s2.regs.read s.os.bits r) (k.value s2)
      obtain ⟨fl, n, t, ht, hfl, hput, hcf, hof, hszp⟩ := doubleShift_within (c := k.value s2) (p := p) d y.1 y.2 s2
      refine ⟨fl, n, y.1, t, hran (by rw [if_neg hk, if_neg hw, ht]), hfl, hput, fun h => ⟨fun j hj => ?_, ?_, hof, hszp⟩⟩
      · exact getLsbD_doubleFn left d _ hj h
      · exact hcf.trans (doubleFn_carry left d _)

end Sys2Proof.Laws

end
end

section
/-! Bit tests, bit scans and SETcc (42_logical_shift_bit.md R660 to R670), bit by bit. -/

noncomputable section

namespace Sys2Proof.Laws

open Sys2Proof Sys2Proof.Machine Sys2Proof.Claims

/-! ## Bit tests -/

/-- What the operation makes of the bit; BT writes nothing. -/
def BtOp.update : BtOp → BitOp
  | .bt => btOp
  | .bts => btsOp
  | .btr => btrOp
  | .btc => btcOp

theorem kind_update (o : BtOp) : BitOp.kind (BtOp.update o) = o.kind := by cases o <;> rfl

/-- Only bit `i` changes. -/
theorem getLsbD_withBit {w i j : Nat} (d : BitVec w) (b : Bool) (hj : j < w) :
    (withBit d i b).getLsbD j = if j = i then b else d.getLsbD j := by
  have hone : (1#w <<< i).getLsbD j = decide (j = i) := by
    rw [BitVec.getLsbD_shiftLeft, BitVec.getLsbD_one, decide_eq_true hj, decide_eq_true (show 0 < w by omega)]
    by_cases h : j < i <;> simp [h] <;> omega
  cases b with
  | true =>
    rw [withBit, if_pos rfl, BitVec.getLsbD_or, hone]
    by_cases h : j = i <;> simp [h]
  | false =>
    rw [withBit, if_neg Bool.false_ne_true, BitVec.getLsbD_and, BitVec.getLsbD_not, hone, decide_eq_true hj, Bool.true_and]
    by_cases h : j = i <;> simp [h]

/-- CF is the bit; the other status flags are open (R661). -/
theorem bitFlags_run (b : Bool) (s : State) : ∃ (fl : Flags) (n : Nat),
    bitFlags b s = .ok () { s with flags := fl, draws := n } ∧ onlyStatus s.flags fl ∧ fl.cf = b := ⟨_, _, rfl, rfl, rfl⟩

/-- What happens once the bit was read. -/
def BtOp.write (o : BtOp) (p : Place) {w : Nat} (d : BitVec w) (i : Nat) : M Unit :=
  if o = .bt then pure () else p.put w (withBit d i (o.newBit (bit d i)))

theorem bitAt_eq (o : BtOp) (p : Place) (i w : Nat) :
    bitAt (BtOp.update o) p i w = p.get w >>= fun d => bitFlags (bit d i) >>= fun _ => BtOp.write o p d i := by
  cases o <;> rfl

theorem write_wrote (o : BtOp) (p : Place) {w : Nat} (d : BitVec w) (i : Nat) (s : State) :
    ∃ t, BtOp.write o p d i s = .ok () t ∧ o.Wrote p w d i s t := by
  unfold BtOp.write BtOp.Wrote
  split
  · exact ⟨s, rfl, rfl⟩
  · obtain ⟨t, ht, hput⟩ := place_put_putAt p w (withBit d i (o.newBit (bit d i))) s
    exact ⟨t, ht, _, fun j hj => getLsbD_withBit d _ hj, hput⟩

/-- The bit goes to CF and its new value to the operand (R661 to R664). -/
theorem bitAt_run (o : BtOp) {p : Place} (i : Nat) {w : Nat} {s1 s2 : State} {d : BitVec w} (hget : p.get w s1 = .ok d s2) :
    ∃ (fl : Flags) (n : Nat) (t : State), bitAt (BtOp.update o) p i w s1 = .ok () t ∧ onlyStatus s2.flags fl ∧ fl.cf = d.getLsbD i ∧
      o.Wrote p w d i { s2 with flags := fl, draws := n } t := by
  obtain ⟨fl, n, hrun, hfl, hcf⟩ := bitFlags_run (bit d i) s2
  obtain ⟨t, ht, hwrote⟩ := write_wrote o p d i { s2 with flags := fl, draws := n }
  exact ⟨fl, n, t, by rw [bitAt_eq, bind_of_ok hget, bind_of_ok hrun, ht], hfl, hcf, hwrote⟩

theorem exec_bitByImm (o : BtOp) (rm : RM) (imm : BitVec 8) (s : State) :
    exec (o.instrI rm imm) s = runInstr (atOs (bitByImm (BtOp.update o) rm imm)) s := by
  cases o <;> rfl

theorem exec_bitByReg (o : BtOp) (rm : RM) (r : Reg) (s : State) :
    exec (o.instrR rm r) s = runInstr (atOs (bitByReg (BtOp.update o) rm r)) s := by
  cases o <;> rfl

/-- The bit within the operand: the offset modulo the width, signed or not. -/
theorem toInt_emod_bits (sz : Size) (v : BitVec sz.bits) : (v.toInt % (sz.bits : Int)).toNat = v.toNat % sz.bits := by
  have h := BitVec.toInt_eq_toNat_cond v
  by_cases hneg : 2 * v.toNat < 2 ^ sz.bits
  · rw [h, if_pos hneg]
    rfl
  · rw [h, if_neg hneg]
    cases sz <;> (simp only [Size.bits]; omega)

/-- The operand that holds the bit (R660). -/
theorem bitStringOff_eq (as sz : Size) (base : Word) (o : Int) : bitStringOff as base sz.bits o =
    if as = .s16 then (base + BitVec.ofInt 32 (((sz.bits / 8 : Nat) : Int) * (o / (sz.bits : Int)))) &&& 0xFFFF
    else base + BitVec.ofInt 32 (((sz.bits / 8 : Nat) : Int) * (o / (sz.bits : Int))) := by
  cases as <;> (unfold bitStringOff; rw [Int.fdiv_eq_ediv_of_nonneg _ (Int.natCast_nonneg _)]; rfl)

/-- Settles O7. -/
theorem bitTestAndModify : Obligations.BitTestAndModify := by
  refine ⟨fun o rm imm s p s1 d s2 hloc hget => ?_, fun o x r s => ?_, fun o m r s ps s1 d s2 hacc hget => ?_⟩
  · obtain ⟨fl, n, t, ht, h⟩ := bitAt_run o (imm.toNat % s.os.bits) hget
    refine ⟨fl, n, t, ran_of_run (exec_bitByImm o rm imm s) ?_, h⟩
    rw [atOs_run, bitByImm, kind_update]
    exact (bind_of_ok hloc).trans ht
  · obtain ⟨fl, n, t, ht, h⟩ := bitAt_run o ((s.regs.read s.os.bits r).toNat % s.os.bits) (place_get_reg x s.os.bits s.enter)
    refine ⟨fl, n, t, ran_of_run (exec_bitByReg o (.reg x) r s) ?_, h⟩
    rw [atOs_run]
    exact ht
  · obtain ⟨fl, n, t, ht, h⟩ := bitAt_run o ((s.regs.read s.os.bits r).toNat % s.os.bits) hget
    refine ⟨fl, n, t, ran_of_run (exec_bitByReg o (.mem m) r s) ?_, ?_⟩
    · rw [← bitStringOff_eq, ← kind_update] at hacc
      rw [atOs_run]
      exact (bind_of_ok hacc).trans ht
    · rw [toInt_emod_bits]
      exact h

/-! ## Bit scans -/

/-- The search finds the first index that satisfies `p`. -/
theorem firstFrom_eq_some {p : Nat → Bool} {n k i : Nat} (h : firstFrom p n k = some i) :
    k ≤ i ∧ i < k + n ∧ p i = true ∧ ∀ j, k ≤ j → j < i → p j = false := by
  induction n generalizing k with
  | zero => nomatch h
  | succ n ih =>
    rw [firstFrom] at h
    split at h
    · next hk =>
      obtain rfl : k = i := Option.some.inj h
      exact ⟨Nat.le_refl _, by omega, hk, fun j h1 h2 => by omega⟩
    · next hk =>
      obtain ⟨h1, h2, h3, h4⟩ := ih h
      refine ⟨by omega, by omega, h3, fun j hj1 hj2 => ?_⟩
      rcases Nat.eq_or_lt_of_le hj1 with rfl | hj
      · exact Bool.eq_false_iff.mpr hk
      · exact h4 j hj hj2

/-- It fails only where none does. -/
theorem firstFrom_eq_none {p : Nat → Bool} {n k : Nat} (h : firstFrom p n k = none) (j : Nat) (h1 : k ≤ j) (h2 : j < k + n) : p j = false := by
  induction n generalizing k with
  | zero => omega
  | succ n ih =>
    rw [firstFrom] at h
    split at h
    · nomatch h
    · next hk =>
      rcases Nat.eq_or_lt_of_le h1 with rfl | hj
      · exact Bool.eq_false_iff.mpr hk
      · exact ih h hj (by omega)

/-- The search of BSF or BSR. -/
def scanFn (up : Bool) : (w : Nat) → BitVec w → Option Nat := if up then scanForward else scanReverse

/-- The index found is that of a set bit, with none below it or, for BSR, above it. -/
theorem scanFn_eq_some {up : Bool} {w i : Nat} {v : BitVec w} (h : scanFn up w v = some i) :
    i < w ∧ v.getLsbD i = true ∧ ∀ j, (if up then j < i else i < j) → v.getLsbD j = false := by
  cases up with
  | true =>
    obtain ⟨-, hi, hbit, hlow⟩ := firstFrom_eq_some h
    exact ⟨by omega, hbit, fun j hj => hlow j (Nat.zero_le _) hj⟩
  | false =>
    obtain ⟨k, hk, rfl⟩ := Option.map_eq_some_iff.mp h
    obtain ⟨-, hi, hbit, hlow⟩ := firstFrom_eq_some hk
    refine ⟨by omega, hbit, fun j hj => ?_⟩
    rw [if_neg Bool.false_ne_true] at hj
    by_cases hjw : j < w
    · have := hlow (w - 1 - j) (Nat.zero_le _) (by omega)
      rwa [bit, show w - 1 - (w - 1 - j) = j by omega] at this
    · exact BitVec.getLsbD_of_ge v j (by omega)

/-- Nothing is found in 0 alone. -/
theorem scanFn_eq_none {up : Bool} {w : Nat} {v : BitVec w} (h : scanFn up w v = none) : v = 0 := by
  refine BitVec.eq_of_getLsbD_eq fun i hi => ?_
  rw [show (0 : BitVec w).getLsbD i = false from BitVec.getLsbD_zero]
  cases up with
  | true => exact firstFrom_eq_none h i (Nat.zero_le _) (by omega)
  | false =>
    have := firstFrom_eq_none (Option.map_eq_none_iff.mp h) (w - 1 - i) (Nat.zero_le _) (by omega)
    rwa [bit, show w - 1 - (w - 1 - i) = i by omega] at this

theorem exec_scan (up : Bool) (rm : RM) (r : Reg) (s : State) :
    exec (if up then .bsfRRm rm r else .bsrRRm rm r) s = runInstr (atOs (bitScan (scanFn up) rm r)) s := by
  cases up <;> rfl

/-- Once the operand was read: ZF and the index, or an open value. -/
theorem bitScan_run {find : (w : Nat) → BitVec w → Option Nat} {rm : RM} {r : Reg} {w : Nat} {s s2 : State} {v : BitVec w}
    (hread : readRM w rm s = .ok v s2) : ∃ (fl : Flags) (n : Nat) (x : BitVec w),
      bitScan find rm r w s = .ok () { s2 with flags := fl, draws := n, regs := s2.regs.write w r x } ∧
      onlyStatus s2.flags fl ∧ fl.zf = (find w v).isNone ∧ ∀ i, find w v = some i → x = BitVec.ofNat w i := by
  rw [bitScan, bind_of_ok hread]
  cases h : find w v with
  | none => exact ⟨_, _, _, rfl, rfl, rfl, nofun⟩
  | some i => exact ⟨_, _, _, rfl, rfl, rfl, fun j hj => by rw [Option.some.inj hj]⟩

/-- Settles O8. -/
theorem bitScanAndSet : Obligations.BitScanAndSet := by
  refine ⟨fun rm r up s p s1 v s2 hloc hget => ?_, fun cc rm s p s1 hloc => ?_, fun f cc => ?_⟩
  · obtain ⟨fl, n, x, hrun, hfl, hzf, hx⟩ := bitScan_run (find := scanFn up) (r := r) (readRM_run hloc hget)
    refine ⟨fl, n, x, ran_of_run (exec_scan up rm r s) ((atOs_run _ _).trans hrun), hfl, hzf.trans ?_, fun hv => ?_⟩
    · cases hs : scanFn up s.os.bits v with
      | none => rw [scanFn_eq_none hs]; rfl
      | some i =>
        obtain ⟨-, hbit, -⟩ := scanFn_eq_some hs
        refine (beq_eq_false_iff_ne.mpr ?_).symm
        rintro rfl
        rw [show (0 : BitVec s.os.bits).getLsbD i = false from BitVec.getLsbD_zero] at hbit
        nomatch hbit
    · cases hs : scanFn up s.os.bits v with
      | none => exact absurd (scanFn_eq_none hs) hv
      | some i =>
        obtain ⟨hi, hfound⟩ := scanFn_eq_some hs
        have hxi : x.toNat = i := by
          rw [hx i hs, BitVec.toNat_ofNat, Nat.mod_eq_of_lt (hi.trans Nat.lt_two_pow_self)]
        rw [hxi]
        exact hfound
  · obtain ⟨t, ht, hput⟩ := place_put_putAt p 8 (if Cond.holds s.flags cc then 1 else 0) s1
    refine ⟨t, ran_of_run (body := get >>= fun s => writeRM 8 rm (if Cond.holds s.flags cc then 1 else 0)) rfl ?_, hput⟩
    rw [get_bind]
    exact (writeRM_ok hloc).trans ht
  · cases cc with
    | ge =>
      show (!(f.sf ^^ f.of)) = (f.sf == f.of)
      cases f.sf <;> cases f.of <;> rfl
    | _ => rfl

end Sys2Proof.Laws

end
end

section
/-! Multiplication and division (41_arithmetic.md R559 to R562): the double-length accumulator against the exact integers. -/

noncomputable section

namespace Sys2Proof.Laws

open Sys2Proof Sys2Proof.Machine Sys2Proof.Claims

theorem width_eq_eight_iff (byte : Bool) (s : State) : width byte s = 8 ↔ byte = true := by
  cases byte with
  | true => exact iff_of_true rfl rfl
  | false =>
    refine iff_of_false (fun h : s.os.bits = 8 => ?_) Bool.false_ne_true
    cases hos : s.os <;> rw [hos] at h <;> nomatch h

/-! ## Multiplication -/

/-- CF and OF alike; the other status flags are open. -/
theorem mulFlags_run (c : Bool) (s : State) : ∃ (fl : Flags) (n : Nat),
    mulFlags c s = .ok () { s with flags := fl, draws := n } ∧ onlyStatus s.flags fl ∧ fl.cf = fl.of ∧ fl.cf = c :=
  ⟨_, _, rfl, rfl, rfl, rfl⟩

/-- Equal modulo the width is equal at that width. -/
theorem ofInt_congr {w : Nat} {x y k : Int} (h : x = y + 2 ^ w * k) : BitVec.ofInt w x = BitVec.ofInt w y := by
  refine BitVec.eq_of_toNat_eq ?_
  rw [BitVec.toNat_ofInt, BitVec.toNat_ofInt, h, Nat.cast_pow, Nat.cast_ofNat, Int.add_mul_emod_self_left]

/-- The double-length accumulator holds an integer, cut to its width. -/
def wideRegs (w : Nat) (p : Int) (g : GRegs) : GRegs :=
  if w = 8 then g.write 16 .eax (BitVec.ofInt 16 p)
  else (g.write w .eax (BitVec.ofInt w p)).write w .edx (BitVec.ofInt w (p / 2 ^ w))

/-- The double-length accumulator takes an integer that is given by a number equal to it modulo the double width. -/
theorem wideSet_run {w n : Nat} {p k : Int} (hn : (n : Int) = p + 2 ^ (2 * w) * k) (s : State) :
    wideSet w n s = .ok () { s with regs := wideRegs w p s.regs } := by
  unfold wideSet wideRegs
  split
  · next h =>
    subst h
    rw [← BitVec.ofInt_natCast, ofInt_congr (w := 16) hn]
    rfl
  · have hpow : (2 : Int) ^ (2 * w) * k = 2 ^ w * (2 ^ w * k) := by rw [Nat.two_mul, pow_add, mul_assoc]
    have hdiv : ((n / 2 ^ w : Nat) : Int) = p / 2 ^ w + 2 ^ w * k := by
      rw [Int.natCast_ediv, hn, hpow, Nat.cast_pow, Nat.cast_ofNat, Int.add_mul_ediv_left _ _ (pow_ne_zero _ (by decide))]
    rw [← BitVec.ofInt_natCast, ← BitVec.ofInt_natCast, ofInt_congr (hn.trans (by rw [hpow])), ofInt_congr hdiv]
    rfl

/-- The exact product of a multiplication of the accumulator. -/
def product (signed : Bool) {w : Nat} (a v : BitVec w) : Int := if signed then a.toInt * v.toInt else (a.toNat * v.toNat : Nat)

/-- MUL or IMUL of the accumulator. -/
def mulFn (signed : Bool) : RM → Nat → M Unit := if signed then imulAcc else mulOp

/-- The product goes to the accumulator; CF says whether its upper half is significant. -/
theorem mulFn_run (signed : Bool) {rm : RM} {w : Nat} {s s2 : State} {v : BitVec w} (hread : readRM w rm s = .ok v s2) :
    ∃ (fl : Flags) (n : Nat), mulFn signed rm w s = .ok () { s2 with
        flags := fl, draws := n, regs := wideRegs w (product signed (s2.regs.read w .eax) v) s2.regs } ∧
      onlyStatus s2.flags fl ∧ fl.cf = fl.of ∧
      (fl.cf = false ↔ if signed then product signed (s2.regs.read w .eax) v = (BitVec.ofInt w (product signed (s2.regs.read w .eax) v)).toInt
        else product signed (s2.regs.read w .eax) v < 2 ^ w) := by
  cases signed with
  | true =>
    have hn : ((BitVec.ofInt (2 * w) (product true (s2.regs.read w .eax) v)).toNat : Int) = product true (s2.regs.read w .eax) v +
        2 ^ (2 * w) * -(product true (s2.regs.read w .eax) v / 2 ^ (2 * w)) := by
      have := Int.emod_add_mul_ediv (product true (s2.regs.read w .eax) v) (2 ^ (2 * w))
      rw [BitVec.toNat_ofInt, Nat.cast_pow, Nat.cast_ofNat, Int.toNat_of_nonneg (Int.emod_nonneg _ (pow_ne_zero _ (by decide))), mul_neg]
      omega
    have hset := wideSet_run hn s2
    obtain ⟨fl, n, hfl, hrest, hof, hcf⟩ := mulFlags_run
      (decide (product true (s2.regs.read w .eax) v ≠ lowSigned w (product true (s2.regs.read w .eax) v)))
      { s2 with regs := wideRegs w (product true (s2.regs.read w .eax) v) s2.regs }
    refine ⟨fl, n, ?_, hrest, hof, ?_⟩
    · show imulAcc rm w s = _
      rw [imulAcc, bind_of_ok hread, bind_of_ok (readReg_run _ _ _)]
      exact (bind_of_ok hset).trans hfl
    · rw [hcf, decide_eq_false_iff_not, not_not]
      rfl
  | false =>
    have hset := wideSet_run (w := w) (n := (s2.regs.read w .eax).toNat * v.toNat) (p := product false (s2.regs.read w .eax) v) (k := 0)
      (by rw [mul_zero, add_zero]; rfl) s2
    obtain ⟨fl, n, hfl, hrest, hof, hcf⟩ := mulFlags_run (decide ((s2.regs.read w .eax).toNat * v.toNat / 2 ^ w ≠ 0))
      { s2 with regs := wideRegs w (product false (s2.regs.read w .eax) v) s2.regs }
    refine ⟨fl, n, ?_, hrest, hof, ?_⟩
    · show mulOp rm w s = _
      rw [mulOp, bind_of_ok hread, bind_of_ok (readReg_run _ _ _)]
      exact (bind_of_ok hset).trans hfl
    · rw [hcf, decide_eq_false_iff_not, not_not, Nat.div_eq_zero_iff_lt (Nat.two_pow_pos w)]
      exact Int.ofNat_lt.symm.trans (by rw [Nat.cast_pow, Nat.cast_ofNat]; exact Iff.rfl)

/-- The product cut to the width. -/
theorem imulTo_run {w : Nat} (r : Reg) (a b : BitVec w) (s : State) : ∃ (fl : Flags) (n : Nat),
    imulTo w r a b s = .ok () { s with flags := fl, draws := n, regs := s.regs.write w r (a * b) } ∧
      onlyStatus s.flags fl ∧ fl.cf = fl.of ∧ (fl.cf = false ↔ a.toInt * b.toInt = (a * b).toInt) := by
  have hprod : BitVec.ofInt w (a.toInt * b.toInt) = a * b := by rw [BitVec.ofInt_mul, BitVec.ofInt_toInt, BitVec.ofInt_toInt]
  obtain ⟨fl, n, hfl, hrest, hof, hcf⟩ := mulFlags_run (decide (a.toInt * b.toInt ≠ lowSigned w (a.toInt * b.toInt)))
    { s with regs := s.regs.write w r (a * b) }
  refine ⟨fl, n, ?_, hrest, hof, ?_⟩
  · show (writeReg w r (BitVec.ofInt w (a.toInt * b.toInt)) >>= fun _ => mulFlags _ : M Unit) s = _
    rw [hprod]
    exact hfl
  · rw [hcf, decide_eq_false_iff_not, not_not, lowSigned, hprod]

/-- Settles O9. -/
theorem multiply : Obligations.Multiply := by
  refine ⟨fun signed byte rm s p s1 v s2 hloc hget => ?_, fun rm r s p s1 v s2 hloc hget i b hi => ?_⟩
  · obtain ⟨fl, n, hrun, h1, h2, h3⟩ := mulFn_run signed (readRM_run hloc hget)
    refine ⟨_, fl, n, ran_of_run (body := atWidth byte (mulFn signed rm)) ?_ ((atWidth_run byte _ s).trans hrun), h1, h2, ?_, h3⟩
    · cases signed <;> cases byte <;> rfl
    · simp only [wideRegs, width_eq_eight_iff]
      cases byte <;> rfl
  · have hread := readRM_run hloc hget
    rcases hi with ⟨rfl, rfl⟩ | ⟨imm, rfl, rfl⟩ | ⟨imm, rfl, rfl⟩
    · obtain ⟨fl, n, hrun, h⟩ := imulTo_run r (s2.regs.read s.os.bits r) v s2
      refine ⟨fl, n, ran_of_run (body := atOs fun w => readRM w rm >>= fun v => readReg w r >>= fun d => imulTo w r d v) rfl ?_, ?_⟩
      · rw [BitVec.mul_comm]
        exact (atOs_run _ _).trans ((bind_of_ok hread).trans hrun)
      · rwa [mul_comm, BitVec.mul_comm] at h
    · obtain ⟨fl, n, hrun, h⟩ := imulTo_run r v (imm.setWidth s.os.bits) s2
      exact ⟨fl, n, ran_of_run (body := atOs fun w => readRM w rm >>= fun v => imulTo w r v (zimm imm w)) rfl
        ((atOs_run _ _).trans ((bind_of_ok hread).trans hrun)), h⟩
    · obtain ⟨fl, n, hrun, h⟩ := imulTo_run r v (imm.signExtend s.os.bits) s2
      exact ⟨fl, n, ran_of_run (body := atOs fun w => readRM w rm >>= fun v => imulTo w r v (simm8 imm w)) rfl
        ((atOs_run _ _).trans ((bind_of_ok hread).trans hrun)), h⟩

/-! ## Division -/

theorem toNat_append_eq {n w : Nat} (x : BitVec n) (y : BitVec w) : (x ++ y).toNat = x.toNat * 2 ^ w + y.toNat := by
  rw [BitVec.toNat_append, ← Nat.shiftLeft_add_eq_or_of_lt y.isLt, Nat.shiftLeft_eq]

/-- The upper half of the double-length accumulator: AH or (E)DX. -/
def wideHigh (w : Nat) (g : GRegs) : BitVec w := if w = 8 then g.read w .esp else g.read w .edx

theorem wideGet_eq (w : Nat) (g : GRegs) : wideGet w g = (wideHigh w g ++ g.read w .eax).toNat := by
  rw [toNat_append_eq, wideGet, wideHigh]
  split
  · next h =>
    subst h
    show (g.eax.setWidth 16).toNat = ((g.eax.extractLsb' 8 8).setWidth 8).toNat * 2 ^ 8 + ((g.eax.extractLsb' 0 8).setWidth 8).toNat
    simp only [BitVec.toNat_setWidth, BitVec.extractLsb'_toNat, Nat.shiftRight_eq_div_pow]
    omega
  · rfl

/-- The double-length accumulator as a signed number. -/
theorem wideGet_toInt (w : Nat) (g : GRegs) : (BitVec.ofNat (2 * w) (wideGet w g)).toInt = (wideHigh w g ++ g.read w .eax).toInt := by
  have hlt := (wideHigh w g ++ g.read w .eax).isLt
  rw [BitVec.toInt_eq_toNat_bmod, BitVec.toInt_eq_toNat_bmod, BitVec.toNat_ofNat, wideGet_eq, Nat.two_mul, Nat.mod_eq_of_lt hlt]

/-- The status flags are open. -/
theorem drawStatus_run (s : State) : ∃ (fl : Flags) (n : Nat), drawStatus s = .ok () { s with flags := fl, draws := n } ∧ onlyStatus s.flags fl :=
  ⟨_, _, rfl, rfl⟩

/-- The operands of a division as integers. -/
def dividend (signed : Bool) (w : Nat) (g : GRegs) : Int :=
  if signed then (wideHigh w g ++ g.read w .eax).toInt else ((wideHigh w g ++ g.read w .eax).toNat : Int)

def divisor (signed : Bool) {w : Nat} (v : BitVec w) : Int := if signed then v.toInt else (v.toNat : Int)

/-- There is a quotient, and it fits. -/
def Divides (signed : Bool) (w : Nat) (n d : Int) : Prop :=
  d ≠ 0 ∧ if signed then -(2 ^ (w - 1)) ≤ n.tdiv d ∧ n.tdiv d < 2 ^ (w - 1) else n.tdiv d < 2 ^ w

/-- DIV or IDIV. -/
def divFn (signed : Bool) : RM → Nat → M Unit := if signed then idivOp else divOp

/-- Quotient and remainder go to the accumulator. -/
theorem divSet_run {w : Nat} (q r : BitVec w) (s : State) : ∃ (fl : Flags) (n : Nat),
    (divSet w q r >>= fun _ => drawStatus : M Unit) s = .ok () { s with
      flags := fl, draws := n, regs := (s.regs.write w .eax q).write w (if w = 8 then .esp else .edx) r } ∧ onlyStatus s.flags fl := by
  obtain ⟨fl, n, h, hfl⟩ := drawStatus_run { s with regs := (s.regs.write w .eax q).write w (if w = 8 then .esp else .edx) r }
  exact ⟨fl, n, h, hfl⟩

section
variable (signed : Bool) {rm : RM} {w : Nat} {s s2 : State} {v : BitVec w} (hread : readRM w rm s = .ok v s2)
include hread

/-- Both divisions: two guards, then quotient and remainder of the exact integers. -/
theorem divFn_run : divFn signed rm w s = (require (v.toNat != 0) de >>= fun _ =>
    require (if signed then decide (-(2 ^ (w - 1) : Int) ≤ (dividend signed w s2.regs).tdiv (divisor signed v)) &&
        decide ((dividend signed w s2.regs).tdiv (divisor signed v) < (2 ^ (w - 1) : Int))
      else decide ((dividend signed w s2.regs).tdiv (divisor signed v) < 2 ^ w)) de >>= fun _ =>
    divSet w (BitVec.ofInt w ((dividend signed w s2.regs).tdiv (divisor signed v)))
      (BitVec.ofInt w ((dividend signed w s2.regs).tmod (divisor signed v))) >>= fun _ => drawStatus : M Unit) s2 := by
  cases signed with
  | true =>
    show idivOp rm w s = _
    rw [idivOp, bind_of_ok hread, get_bind, wideGet_toInt, Int.tmod_def, mul_comm]
    rfl
  | false =>
    show divOp rm w s = _
    have hq : ((wideGet w s2.regs / v.toNat : Nat) : Int) = (dividend false w s2.regs).tdiv (divisor false v) := by
      rw [wideGet_eq]; rfl
    have hr : ((wideGet w s2.regs % v.toNat : Nat) : Int) = (dividend false w s2.regs).tmod (divisor false v) := by
      rw [wideGet_eq]; rfl
    have hlt : decide (wideGet w s2.regs / v.toNat < 2 ^ w) = decide ((dividend false w s2.regs).tdiv (divisor false v) < 2 ^ w) := by
      rw [← hq]
      exact decide_eq_decide.mpr (by exact_mod_cast Iff.rfl)
    rw [divOp, bind_of_ok hread, get_bind]
    dsimp only
    rw [hlt, ← BitVec.ofInt_natCast, ← BitVec.ofInt_natCast, hq, hr]
    rfl

omit hread in
/-- The guards of a division are that there is a quotient that fits. -/
theorem divides_iff : Divides signed w (dividend signed w s2.regs) (divisor signed v) ↔ (v.toNat != 0) = true ∧
    (if signed then decide (-(2 ^ (w - 1) : Int) ≤ (dividend signed w s2.regs).tdiv (divisor signed v)) &&
        decide ((dividend signed w s2.regs).tdiv (divisor signed v) < (2 ^ (w - 1) : Int))
      else decide ((dividend signed w s2.regs).tdiv (divisor signed v) < 2 ^ w)) = true := by
  have hzero : divisor signed v ≠ 0 ↔ (v.toNat != 0) = true := by
    rw [bne_iff_ne]
    cases signed with
    | true => exact not_congr ((show v.toInt = 0 ↔ v = 0#w by rw [← BitVec.toInt_inj, BitVec.toInt_zero]).trans
        (by rw [← BitVec.toNat_inj, BitVec.toNat_zero]))
    | false => exact not_congr Int.natCast_eq_zero
  rw [Divides, hzero]
  cases signed with
  | true => rw [if_pos rfl, if_pos rfl, Bool.and_eq_true, decide_eq_true_iff, decide_eq_true_iff]
  | false => rw [if_neg Bool.false_ne_true, if_neg Bool.false_ne_true, decide_eq_true_iff]

end

theorem wideHigh_width (byte : Bool) (s : State) (g : GRegs) :
    wideHigh (width byte s) g = if byte then g.read (width byte s) .esp else g.read (width byte s) .edx := by
  simp only [wideHigh, width_eq_eight_iff]

section
variable (signed byte : Bool) {rm : RM} {s s1 s2 : State} {p : Place} {v : BitVec (width byte s)}
variable (hloc : locate (width byte s) rm .r s.enter = .ok p s1) (hget : p.get (width byte s) s1 = .ok v s2)
variable {i : Instr} (hi : exec i s = runInstr (atWidth byte (divFn signed rm)) s)
include hloc hget hi

theorem ran_of_divides (h : Divides signed (width byte s) (dividend signed (width byte s) s2.regs) (divisor signed v)) :
    ∃ (fl : Flags) (n : Nat), onlyStatus s2.flags fl ∧ Ran i s { s2 with
      flags := fl, draws := n
      regs := (s2.regs.write (width byte s) .eax
          (BitVec.ofInt (width byte s) ((dividend signed (width byte s) s2.regs).tdiv (divisor signed v)))).write
        (width byte s) (if byte then .esp else .edx)
        (BitVec.ofInt (width byte s) ((dividend signed (width byte s) s2.regs).tmod (divisor signed v))) } := by
  have hread := readRM_run hloc hget
  obtain ⟨hzero, hfits⟩ := (divides_iff signed).mp h
  obtain ⟨fl, n, hset, hfl⟩ := divSet_run (BitVec.ofInt (width byte s) ((dividend signed (width byte s) s2.regs).tdiv (divisor signed v)))
    (BitVec.ofInt (width byte s) ((dividend signed (width byte s) s2.regs).tmod (divisor signed v))) s2
  refine ⟨fl, n, hfl, ran_of_run hi ?_⟩
  rw [atWidth_run, divFn_run signed hread, hzero, hfits, require_true, pure_bind, pure_bind, hset]
  simp only [width_eq_eight_iff]

/-- A guard that fails raises #DE before anything was written. -/
theorem faults_of_not_divides (h : ¬ Divides signed (width byte s) (dividend signed (width byte s) s2.regs) (divisor signed v)) :
    Faults i s { vec := 0, code := none, dbg := none } s2 := by
  have hread := readRM_run hloc hget
  refine faults_of_run hi ?_ (((locate_checksOnly _ _ _ hloc).trans (place_get_checksOnly _ _ hget)).committed_eq)
  rw [atWidth_run, divFn_run signed hread]
  rw [divides_iff signed, not_and, Bool.not_eq_true] at h
  cases hzero : v.toNat != 0 with
  | false => rfl
  | true =>
    rw [h hzero]
    rfl

end

/-- Settles O10. -/
theorem divide : Obligations.Divide := by
  intro signed byte rm s p s1 v s2 hloc hget
  have hran {i : Instr} (hi : exec i s = _) := ran_of_divides signed byte hloc hget hi
  have hfault {i : Instr} (hi : exec i s = _) := faults_of_not_divides signed byte hloc hget hi
  simp only [dividend, wideHigh_width] at hran hfault
  refine ⟨hran ?_, hfault ?_⟩ <;> (cases signed <;> cases byte <;> rfl)

end Sys2Proof.Laws

end
end

section
/-! Moves, exchanges and the instructions on registers alone (40_data_movement.md, 45_flag_segment_misc.md R815, R816, R850, R860, R861). -/

noncomputable section

namespace Sys2Proof.Laws

open Sys2Proof Sys2Proof.Machine Sys2Proof.Claims

/-! ## Moves -/

/-- An operand is written where its checks allow it. -/
theorem writeRM_run {w : Nat} {rm : RM} {v : BitVec w} {s s1 : State} {p : Place} (h : locate w rm .w s = .ok p s1) :
    ∃ t, writeRM w rm v s = .ok () t ∧ PutAt p w v s1 t := by
  rw [writeRM_ok h]
  exact place_put_putAt p w v s1

/-- MOV to an r/m operand. -/
theorem movTo_run {rm : RM} {f : (w : Nat) → M (BitVec w)} {w : Nat} {v : BitVec w} {s s1 : State} {p : Place} (hv : f w s = .ok v s)
    (h : locate w rm .w s = .ok p s1) : ∃ t, movTo rm f w s = .ok () t ∧ PutAt p w v s1 t := by
  rw [movTo, bind_of_ok hv]
  exact writeRM_run h

theorem movFrom_run {rm : RM} {r : Reg} {w : Nat} {v : BitVec w} {s s2 : State} (h : readRM w rm s = .ok v s2) :
    movFrom rm r w s = .ok () { s2 with regs := s2.regs.write w r v } := by
  rw [movFrom, bind_of_ok h]
  rfl

theorem extend_run {f : (w : Nat) → {n : Nat} → BitVec n → BitVec w} {n : Nat} {rm : RM} {r : Reg} {w : Nat} {v : BitVec n} {s s2 : State}
    (h : readRM n rm s = .ok v s2) : extend f n rm r w s = .ok () { s2 with regs := s2.regs.write w r (f w v) } := by
  rw [extend, bind_of_ok h]
  rfl

theorem memRead_run {sz : Size} {sr : SReg} {off : Word} {n : Nat} {s s1 s2 : State} {ps : List Word} {v : Nat}
    (h : access sz sr off n n .r s = .ok ps s1) (hl : load ps s1 = .ok v s2) : memRead sz sr off n s = .ok v s2 :=
  (bind_of_ok h).trans hl

theorem memWrite_run {sz : Size} {sr : SReg} {off : Word} {n v : Nat} {s s1 : State} {ps : List Word}
    (h : access sz sr off n n .w s = .ok ps s1) : ∃ t, memWrite sz sr off n v s = .ok () t ∧ Stored ps v s1 t := by
  obtain ⟨t, ht, hst⟩ := store_stored ps v s1
  exact ⟨t, (bind_of_ok h).trans ht, hst⟩

theorem write_eight (g : GRegs) (r : Reg) (v : Byte) : g.write 8 r v = g.set8 r v := by
  rw [GRegs.write, if_pos rfl, BitVec.setWidth_eq]

theorem write_thirtyTwo (g : GRegs) (r : Reg) (v : Word) : g.write 32 r v = g.set r v := by
  rw [GRegs.write, if_neg (by decide), if_neg (by decide), BitVec.setWidth_eq]

theorem writeReg8_run (r : Reg) (v : Byte) (s : State) : writeReg 8 r v s = .ok () { s with regs := s.regs.set8 r v } := by
  rw [← write_eight]
  rfl

/-- Settles O12. -/
theorem moveData : Obligations.MoveData := by
  refine ⟨fun byte rm s p s1 x i hloc hi => ?_, fun byte rm r s p s1 x s2 hloc hget => ?_, fun r s => ⟨fun imm => ?_, fun imm => ?_, fun m => ?_⟩,
    fun byte off s ps s1 => ⟨fun hacc v s2 hload => ?_, fun hacc => ?_⟩, fun n rm r s p s1 v s2 hloc hget => ⟨?_, ?_⟩,
    fun s ps s1 v s2 hacc hload => ?_⟩
  · rcases hi with ⟨r, rfl, rfl⟩ | ⟨rfl, imm, rfl, rfl⟩ | ⟨rfl, imm, rfl, rfl⟩
    · obtain ⟨t, ht, hput⟩ := movTo_run (f := fun w => readReg w r) (readReg_run _ _ _) hloc
      refine ⟨t, ran_of_run (body := atWidth byte (movTo rm fun w => readReg w r)) ?_ ((atWidth_run _ _ s).trans ht), hput⟩
      cases byte <;> rfl
    · obtain ⟨t, ht, hput⟩ := movTo_run (f := fun w => pure (imm.setWidth w)) rfl hloc
      exact ⟨t, ran_of_run (body := movTo rm (fun w => pure (imm.setWidth w)) 8) rfl ht, hput⟩
    · obtain ⟨t, ht, hput⟩ := movTo_run (f := fun w => pure (imm.setWidth w)) rfl hloc
      exact ⟨t, ran_of_run (body := atOs (movTo rm fun w => pure (imm.setWidth w))) rfl ((atOs_run _ _).trans ht), hput⟩
  · refine ran_of_run (body := atWidth byte (movFrom rm r)) ?_ ((atWidth_run _ _ s).trans (movFrom_run (readRM_run hloc hget)))
    cases byte <;> rfl
  · exact ran_of_run (body := writeReg 8 r imm) rfl rfl
  · exact ran_of_run (body := atOs fun w => writeReg w r (imm.setWidth w)) rfl rfl
  · exact ran_of_run (body := atOs (loadAddress m r)) rfl rfl
  · refine ran_of_run (body := atWidth byte (loadAcc off)) ?_ ((atWidth_run _ _ s).trans (bind_of_ok (memRead_run hacc hload)))
    cases byte <;> rfl
  · obtain ⟨t, ht, hst⟩ := memWrite_run (v := (s.regs.read (width byte s) .eax).toNat) hacc
    refine ⟨t, ran_of_run (body := atWidth byte (storeAcc off)) ?_ ((atWidth_run _ _ s).trans ht), hst⟩
    cases byte <;> rfl
  · rintro rfl
    have hread := readRM_run hloc hget
    exact ⟨ran_of_run (body := atOs (extend signExt 8 rm r)) rfl ((atOs_run _ _).trans (extend_run hread)),
      ran_of_run (body := atOs (extend zeroExt 8 rm r)) rfl ((atOs_run _ _).trans (extend_run hread))⟩
  · rintro rfl
    have hread := readRM_run hloc hget
    exact ⟨ran_of_run (body := atOs (extend signExt 16 rm r)) rfl ((atOs_run _ _).trans (extend_run hread)),
      ran_of_run (body := atOs (extend zeroExt 16 rm r)) rfl ((atOs_run _ _).trans (extend_run hread))⟩
  · refine ran_of_run (show execXlat s = _ from rfl) ((get_bind _ _).trans ((bind_of_ok (memRead_run ?_ hload)).trans (writeReg8_run _ _ _)))
    show access s.as (s.segOr .ds) (match s.as with
      | .s16 => s.regs.ebx + (s.regs.get8 .eax).setWidth 32 &&& 0xFFFF
      | .s32 => s.regs.ebx + (s.regs.get8 .eax).setWidth 32) 1 1 .r s.enter = _
    cases h : s.as <;> rw [h] at hacc <;> exact hacc

/-! ## Registers alone -/

/-- The bytes of a doubleword reversed, as a number. -/
theorem swapBytes_eq (v : Word) : swapBytes v = BitVec.ofNat 32 (v.toNat / 2 ^ 24 + v.toNat / 2 ^ 16 % 256 * 2 ^ 8 +
    v.toNat / 2 ^ 8 % 256 * 2 ^ 16 + v.toNat % 256 * 2 ^ 24) := by
  refine BitVec.eq_of_toNat_eq ?_
  have hv := v.isLt
  simp only [swapBytes, toNat_append_eq, BitVec.extractLsb'_toNat, Nat.shiftRight_eq_div_pow, BitVec.toNat_ofNat]
  have h16 : v.toNat / 2 ^ 16 = v.toNat / 2 ^ 8 / 2 ^ 8 := by omega
  have h24 : v.toNat / 2 ^ 24 = v.toNat / 2 ^ 8 / 2 ^ 8 / 2 ^ 8 := by omega
  rw [h16, h24, pow_zero, Nat.div_one]
  have ha := Nat.mod_lt v.toNat (show 0 < 256 by decide)
  have hb := Nat.mod_lt (v.toNat / 2 ^ 8) (show 0 < 256 by decide)
  have hc := Nat.mod_lt (v.toNat / 2 ^ 8 / 2 ^ 8) (show 0 < 256 by decide)
  have hd : v.toNat / 2 ^ 8 / 2 ^ 8 / 2 ^ 8 < 256 := by omega
  rw [show (2 : Nat) ^ 8 = 256 from rfl] at *
  rw [Nat.mod_eq_of_lt hd]
  generalize v.toNat % 256 = a at *
  generalize v.toNat / 256 % 256 = b at *
  generalize v.toNat / 256 / 256 % 256 = c at *
  omega

/-- The version word of CPUID (R850): its fields do not overlap. -/
theorem cpuidVersion_eq (m st : BitVec 4) : (0x500 ||| (m.setWidth 32 <<< 4) ||| st.setWidth 32 : Word) = 0x500 + 16 * m.setWidth 32 + st.setWidth 32 := by
  revert m st
  decide

/-- A flag at its place in the image. -/
theorem getLsbD_flagAt (x : Bool) (i j : Nat) (hj : j < 32) : (if x then 1#32 <<< i else 0 : Word).getLsbD j = (x && decide (j = i)) := by
  cases x with
  | true => rw [if_pos rfl, BitVec.getLsbD_shiftLeft, BitVec.getLsbD_one, decide_eq_true hj]; by_cases h : j < i <;> simp [h] <;> omega
  | false => rw [if_neg Bool.false_ne_true]; exact BitVec.getLsbD_zero

/-- The image of EFLAGS, bit by bit (R104). -/
theorem getLsbD_flags_word (f : Flags) (j : Nat) (hj : j < 32) : f.word.getLsbD j = (decide (j = 1) || (f.cf && decide (j = 0)) ||
    (f.pf && decide (j = 2)) || (f.af && decide (j = 4)) || (f.zf && decide (j = 6)) || (f.sf && decide (j = 7)) || (f.tf && decide (j = 8)) ||
    (f.ifl && decide (j = 9)) || (f.df && decide (j = 10)) || (f.of && decide (j = 11)) || (!decide (j < 12) && f.iopl.getLsbD (j - 12)) ||
    (f.nt && decide (j = 14)) || (f.rf && decide (j = 16)) || (f.vm && decide (j = 17)) || (f.ac && decide (j = 18)) ||
    (f.vif && decide (j = 19)) || (f.vip && decide (j = 20)) || (f.id && decide (j = 21))) := by
  have htwo : (0x2 : Word).getLsbD j = decide (j = 1) := getLsbD_flagAt true 1 j hj
  have hiopl : (f.iopl.setWidth 32 <<< 12 : Word).getLsbD j = (!decide (j < 12) && f.iopl.getLsbD (j - 12)) := by
    rw [BitVec.getLsbD_shiftLeft, BitVec.getLsbD_setWidth, decide_eq_true hj, decide_eq_true (show j - 12 < 32 by omega), Bool.true_and,
      Bool.true_and]
  simp only [Flags.word, BitVec.getLsbD_or, getLsbD_flagAt _ _ j hj, hiopl]
  rw [← htwo]
  rfl

/-- The flags in AH (R815). -/
theorem flags_ah (f : Flags) : f.ah.getLsbD 7 = f.sf ∧ f.ah.getLsbD 6 = f.zf ∧ f.ah.getLsbD 4 = f.af ∧ f.ah.getLsbD 2 = f.pf ∧
    f.ah.getLsbD 0 = f.cf := by
  have hah (j : Nat) (hj : j < 8) (hm : (0xD7 : Byte).getLsbD j = true) : f.ah.getLsbD j = f.word.getLsbD j := by
    rw [Flags.ah, BitVec.getLsbD_and, hm, Bool.and_true, BitVec.getLsbD_extractLsb', decide_eq_true hj, Bool.true_and, Nat.zero_add]
  refine ⟨?_, ?_, ?_, ?_, ?_⟩ <;> (rw [hah _ (by decide) rfl, getLsbD_flags_word _ _ (by decide)]; simp)

/-- CPUID (R850) changes the four registers, from draws where the rule gives no value. -/
theorem cpuid_run (s : State) : ∃ (a b c d : Word) (n : Nat),
    Ran .cpuid s { s.enter with draws := n, regs := { s.regs with eax := a, ebx := b, ecx := c, edx := d } } ∧
      (s.regs.eax = 0 → a = 1 ∧ b = 0x756E6547 ∧ d = 0x49656E69 ∧ c = 0x6C65746E) ∧
      (s.regs.eax = 1 → a = 0x500 + 16 * Config.cpuidModel.setWidth 32 + Config.cpuidStepping.setWidth 32 ∧ d = Config.cpuidFeatures) := by
  have hbody {t : State} (h : (if s.regs.eax = 0 then
      modify fun s => { s with regs := { s.regs with eax := 1, ebx := 0x756E6547, edx := 0x49656E69, ecx := 0x6C65746E } }
    else if s.regs.eax = 1 then draw 32 >>= fun b => draw 32 >>= fun c => modify fun s => { s with regs := { s.regs with
        eax := 0x500 ||| (Config.cpuidModel.setWidth 32 <<< 4) ||| Config.cpuidStepping.setWidth 32
        ebx := b, ecx := c, edx := Config.cpuidFeatures } }
    else draw 32 >>= fun a => draw 32 >>= fun b => draw 32 >>= fun c => draw 32 >>= fun d =>
      modify fun s => { s with regs := { s.regs with eax := a, ebx := b, ecx := c, edx := d } } : M Unit) s.enter = .ok () t) : Ran .cpuid s t :=
    ran_of_run (show execCpuid s = _ from rfl) h
  by_cases h0 : s.regs.eax = 0
  · rw [if_pos h0] at hbody
    exact ⟨1, _, _, _, s.draws, hbody rfl, fun _ => ⟨rfl, rfl, rfl, rfl⟩, fun h1 => absurd (h0.symm.trans h1) (by decide)⟩
  · rw [if_neg h0] at hbody
    by_cases h1 : s.regs.eax = 1
    · rw [if_pos h1, cpuidVersion_eq] at hbody
      exact ⟨_, _, _, _, s.draws + 2, hbody rfl, fun h => absurd h h0, fun _ => ⟨rfl, rfl⟩⟩
    · rw [if_neg h1] at hbody
      exact ⟨_, _, _, _, s.draws + 4, hbody rfl, fun h => absurd h h0, fun h => absurd h h1⟩

theorem cwd_run (s : State) : Ran .cwd s { s.enter with
    regs := s.regs.write s.os.bits .edx (BitVec.ofInt s.os.bits (if (s.regs.read s.os.bits .eax).msb then -1 else 0)) } := by
  refine ran_of_run (show execCwd s = _ from rfl) ?_
  show writeReg s.os.bits .edx (if (s.regs.read s.os.bits .eax).msb then BitVec.allOnes s.os.bits else 0) s.enter = _
  cases (s.regs.read s.os.bits .eax).msb with
  | true => rw [if_pos rfl, if_pos rfl, ← BitVec.neg_one_eq_allOnes, BitVec.ofInt_neg]; rfl
  | false => rfl

/-- BSWAP (R512): of a 16-bit register the result is open. -/
theorem bswap_run (r : Reg) (s : State) : ∃ (n : Nat) (x : Half), Ran (.bswapR32 r) s { s.enter with
    draws := n, regs := if s.os = .s16 then s.regs.write 16 r x else s.regs.set r (swapBytes (s.regs.get r)) } := by
  cases hos : s.os with
  | s16 =>
    refine ⟨s.draws + 1, Config.draw 16 s.draws, ran_of_run (show execBswapR32 r s = _ from rfl) ?_⟩
    rw [get_bind, show s.enter.os = .s16 from hos]
    rfl
  | s32 =>
    refine ⟨s.draws, 0, ran_of_run (show execBswapR32 r s = _ from rfl) ?_⟩
    rw [get_bind, show s.enter.os = .s32 from hos, if_neg nofun, ← write_thirtyTwo]
    rfl

theorem lahf_run (s : State) : Ran .lahf s { s.enter with regs := s.regs.set8 .esp s.flags.ah } :=
  ran_of_run (show execLahf s = _ from rfl) ((get_bind _ _).trans (writeReg8_run .esp s.flags.ah s.enter))

theorem sahf_run (s : State) : Ran .sahf s { s.enter with flags := { s.flags with
    sf := (s.regs.get8 .esp).getLsbD 7, zf := (s.regs.get8 .esp).getLsbD 6, af := (s.regs.get8 .esp).getLsbD 4
    pf := (s.regs.get8 .esp).getLsbD 2, cf := (s.regs.get8 .esp).getLsbD 0 } } :=
  ran_of_run (show execSahf s = _ from rfl) rfl

theorem cbw_run (s : State) : Ran .cbw s { s.enter with
    regs := s.regs.write s.os.bits .eax ((s.regs.read (s.os.bits / 2) .eax).signExtend s.os.bits) } :=
  ran_of_run (show execCbw s = _ from rfl) rfl

theorem xchgEaxR_run (r : Reg) (s : State) : Ran (.xchgEaxR r) s { s.enter with
      regs := (s.regs.write s.os.bits .eax (s.regs.read s.os.bits r)).write s.os.bits r (s.regs.read s.os.bits .eax) } :=
  ran_of_run (body := atOs (exchangeAcc r)) rfl rfl

theorem nop_run (s : State) : Ran .nop s s.enter := ran_of_run (body := pure ()) rfl rfl

/-- Settles O13. -/
theorem registerOnly : Obligations.RegisterOnly := fun s =>
  ⟨nop_run s, cbw_run s, cwd_run s, fun r => swapBytes_eq (s.regs.get r) ▸ bswap_run r s, ⟨s.flags.ah, lahf_run s, flags_ah s.flags⟩, sahf_run s, cpuid_run s,
    fun r => xchgEaxR_run r s⟩

end Sys2Proof.Laws

end
end

section
/-! Exchanges with an r/m operand (40_data_movement.md R513 to R516). -/

noncomputable section

namespace Sys2Proof.Laws

open Sys2Proof Sys2Proof.Machine Sys2Proof.Claims

/-! ## As many addresses as bytes -/

theorem consecutive_length (p : Word) (n : Nat) : (consecutive p n).length = n := by
  induction n generalizing p with
  | zero => rfl
  | succ n ih => rw [consecutive, List.length_cons, ih]

theorem linAddrs_length {lin : Word} {n : Nat} {a : Access} {s t : State} {ps : List Word} (h : linAddrs lin n a s = .ok ps t) : ps.length = n := by
  obtain ⟨p0, s1, -, h1⟩ := bind_eq_ok.mp h
  split at h1
  · obtain ⟨rfl, -⟩ : consecutive p0 n = ps ∧ s1 = t := by simpa using h1
    exact consecutive_length ..
  · next hn =>
    obtain ⟨p1, s2, -, h2⟩ := bind_eq_ok.mp h1
    obtain ⟨rfl, -⟩ : acrossPages lin n p0 p1 = ps ∧ s2 = t := by simpa using h2
    rw [acrossPages, List.length_append, consecutive_length, consecutive_length]
    omega

theorem accessIf_length {sz : Size} {sr : SReg} {off : Word} {n : Nat} {ok : Nat → Bool} {k : Kind} {s t : State} {ps : List Word}
    (h : accessIf sz sr off n ok k s = .ok ps t) : ps.length = n := by
  obtain ⟨⟨lin, ps'⟩, s1, hc, h1⟩ := bind_eq_ok.mp h
  obtain ⟨-, s2, -, h2⟩ := bind_eq_ok.mp h1
  obtain ⟨lin', s3, -, h3⟩ := bind_eq_ok.mp hc
  obtain ⟨qs, s4, hl, h4⟩ := bind_eq_ok.mp ((get_bind _ _).symm.trans h3)
  obtain ⟨-, s5, -, h5⟩ := bind_eq_ok.mp h4
  obtain ⟨rfl, -⟩ : ps' = ps ∧ s2 = t := by simpa using h2
  obtain ⟨⟨-, rfl⟩, -⟩ : (lin' = lin ∧ qs = ps') ∧ s5 = s1 := by simpa using h5
  exact linAddrs_length hl

/-- What is read of an operand fits its size. -/
theorem load_lt {ps : List Word} {s t : State} {v : Nat} (h : load ps s = .ok v t) : v < 256 ^ ps.length := by
  obtain ⟨v', n, l, h', hlt⟩ := load_effect ps s
  rw [h] at h'
  cases h'
  exact hlt

/-! ## Exchanges -/

section
variable {w : Nat} {rm : RM} (r : Reg) {s s1 s2 : State} {p : Place} {d : BitVec w}
variable (hloc : locate w rm .rw s = .ok p s1) (hget : p.get w s1 = .ok d s2)
include hloc hget

/-- XCHG (R513). -/
theorem exchange_run : ∃ u, PutAt p w (s2.regs.read w r) s2 u ∧ exchange rm r w s = .ok () { u with regs := u.regs.write w r d } := by
  obtain ⟨u, hu, hput⟩ := place_put_putAt p w (s2.regs.read w r) s2
  refine ⟨u, hput, ?_⟩
  rw [exchange, bind_of_ok hloc, bind_of_ok hget, bind_of_ok (readReg_run _ _ _), bind_of_ok hu]
  rfl

/-- XADD (R514). -/
theorem exchangeAdd_run : ∃ t, PutAt p w (d + s2.regs.read w r)
      { s2 with flags := s2.flags.add d (s2.regs.read w r) false, regs := s2.regs.write w r d } t ∧ exchangeAdd rm r w s = .ok () t := by
  obtain ⟨t, ht, hput⟩ := place_put_putAt p w (d + s2.regs.read w r)
    { s2 with flags := s2.flags.add d (s2.regs.read w r) false, regs := s2.regs.write w r d }
  refine ⟨t, hput, ?_⟩
  rw [exchangeAdd, bind_of_ok hloc, bind_of_ok hget, bind_of_ok (readReg_run _ _ _)]
  exact ht

/-- CMPXCHG (R515). -/
theorem compareExchange_run : ∃ u,
    PutAt p w (if s2.regs.read w .eax = d then s2.regs.read w r else d) { s2 with flags := s2.flags.sub (s2.regs.read w .eax) d false } u ∧
      compareExchange rm r w s = .ok () (if s2.regs.read w .eax = d then u else { u with regs := u.regs.write w .eax d }) := by
  obtain ⟨u, hu, hput⟩ := place_put_putAt p w (if s2.regs.read w .eax = d then s2.regs.read w r else d)
    { s2 with flags := s2.flags.sub (s2.regs.read w .eax) d false }
  refine ⟨u, hput, ?_⟩
  rw [compareExchange, bind_of_ok hloc, bind_of_ok hget, bind_of_ok (readReg_run _ _ _), bind_of_ok (readReg_run _ _ _),
    bind_of_ok (modifyFlags_run _ _)]
  change (if s2.regs.read w .eax = d then _ else _ : M Unit) _ = _
  split
  · next h =>
    rw [if_pos h] at hu
    exact hu
  · next h =>
    rw [if_neg h] at hu
    exact bind_of_ok hu

end

theorem write_thirtyTwo_edx_eax (g : GRegs) (d a : Word) : (g.write 32 .edx d).write 32 .eax a = { g with edx := d, eax := a } := by
  rw [write_thirtyTwo, write_thirtyTwo]
  rfl

/-- CMPXCHG8B (R516). -/
theorem compareExchange8_run {m : MemOp} {s s1 s2 : State} {ps : List Word} {v : Nat} (hacc : memAccess m 8 8 .rw s = .ok ps s1)
    (hload : load ps s1 = .ok v s2) (hv : v < 2 ^ 64) : ∃ u,
      Stored ps (if v == s2.regs.edx.toNat * 2 ^ 32 + s2.regs.eax.toNat then s2.regs.ecx.toNat * 2 ^ 32 + s2.regs.ebx.toNat else v)
        { s2 with flags := { s2.flags with zf := v == s2.regs.edx.toNat * 2 ^ 32 + s2.regs.eax.toNat } } u ∧
      compareExchange8 m s = .ok () (if v == s2.regs.edx.toNat * 2 ^ 32 + s2.regs.eax.toNat then u else { u with
        regs := { u.regs with edx := BitVec.ofNat 32 (v / 2 ^ 32), eax := BitVec.ofNat 32 v } }) := by
  have hd : (BitVec.ofNat 64 v).toNat = v := by rw [BitVec.toNat_ofNat, Nat.mod_eq_of_lt hv]
  have hhit : (BitVec.ofNat 64 v == s2.regs.edx ++ s2.regs.eax) = (v == s2.regs.edx.toNat * 2 ^ 32 + s2.regs.eax.toNat) := by
    rw [Bool.eq_iff_iff, beq_iff_eq, beq_iff_eq, ← BitVec.toNat_inj, hd, toNat_append_eq]
  have hlow : (BitVec.ofNat 64 v).extractLsb' 0 32 = BitVec.ofNat 32 v := by
    refine BitVec.eq_of_toNat_eq ?_
    rw [BitVec.extractLsb'_toNat, hd, Nat.shiftRight_zero, BitVec.toNat_ofNat]
  have hhigh : (BitVec.ofNat 64 v).extractLsb' 32 32 = BitVec.ofNat 32 (v / 2 ^ 32) := by
    refine BitVec.eq_of_toNat_eq ?_
    rw [BitVec.extractLsb'_toNat, hd, Nat.shiftRight_eq_div_pow, BitVec.toNat_ofNat]
  generalize hb : (v == s2.regs.edx.toNat * 2 ^ 32 + s2.regs.eax.toNat) = hit at hhit
  rw [compareExchange8, bind_of_ok hacc, bind_of_ok hload, get_bind]
  dsimp only
  rw [bind_of_ok (modifyFlags_run _ _), hhit, hlow, hhigh, hd, toNat_append_eq]
  cases hit with
  | true =>
    obtain ⟨u, hu, hst⟩ := store_stored ps (s2.regs.ecx.toNat * 2 ^ 32 + s2.regs.ebx.toNat) { s2 with flags := { s2.flags with zf := true } }
    exact ⟨u, hst, hu⟩
  | false =>
    obtain ⟨u, hu, hst⟩ := store_stored ps v { s2 with flags := { s2.flags with zf := false } }
    refine ⟨u, hst, (bind_of_ok hu).trans ?_⟩
    rw [if_neg Bool.false_ne_true, ← write_thirtyTwo_edx_eax]
    rfl

/-- Settles O14. -/
theorem exchangeWithOperand : Obligations.ExchangeWithOperand := by
  refine ⟨fun byte rm r s p s1 d s2 hloc hget => ⟨?_, ?_, ?_⟩, fun m s ps s1 v s2 hacc hload => ?_⟩
  · obtain ⟨u, hput, hu⟩ := exchange_run r hloc hget
    refine ⟨u, hput, ran_of_run (body := atWidth byte (exchange rm r)) ?_ ((atWidth_run _ _ s).trans hu)⟩
    cases byte <;> rfl
  · obtain ⟨t, hput, ht⟩ := exchangeAdd_run r hloc hget
    refine ⟨t, hput, ran_of_run (body := atWidth byte (exchangeAdd rm r)) ?_ ((atWidth_run _ _ s).trans ht)⟩
    cases byte <;> rfl
  · obtain ⟨u, hput, hu⟩ := compareExchange_run r hloc hget
    refine ⟨u, hput, ran_of_run (body := atWidth byte (compareExchange rm r)) ?_ ((atWidth_run _ _ s).trans hu)⟩
    cases byte <;> rfl
  · have hv : v < 256 ^ 8 := accessIf_length hacc ▸ load_lt hload
    obtain ⟨u, hst, hu⟩ := compareExchange8_run (m := m) hacc hload hv
    exact ⟨u, hst, ran_of_run (body := compareExchange8 m) rfl hu⟩

end Sys2Proof.Laws

end
end

section
/-! Pushes and pops (40_data_movement.md R503 to R507, 45_flag_segment_misc.md R817, R820). -/

noncomputable section

namespace Sys2Proof.Laws

open Sys2Proof Sys2Proof.Machine Sys2Proof.Claims

/-! ## What an access leaves of the stack pointer -/

theorem OnlyAccess.regs_eq {s t : State} (h : OnlyAccess s t) : t.regs = s.regs := by rw [h]
theorem OnlyAccess.flags_eq {s t : State} (h : OnlyAccess s t) : t.flags = s.flags := by rw [h]
theorem OnlyAccess.ss_eq {s t : State} (h : OnlyAccess s t) : t.ss = s.ss := by rw [State.ss, h.segs_eq, State.ss]
theorem OnlyAccess.spOff_eq {s t : State} (h : OnlyAccess s t) : t.spOff = s.spOff := by rw [State.spOff, h.ss_eq, h.regs_eq, State.spOff]

theorem bytes_eq (sz : Size) : sz.bits / 8 = sz.bytes := by cases sz <;> rfl
theorem bits_ne_eight (sz : Size) : sz.bits ≠ 8 := by cases sz <;> decide
theorem bits_le (sz : Size) : 16 ≤ sz.bits ∧ sz.bits ≤ 32 := by cases sz <;> decide

/-! ## Pushes -/

/-- push_n (R220): once its slot is found nothing can stop it. -/
theorem push_stored {n v : Nat} {s s1 : State} {ps : List Word}
    (h : access s.ss .ss (wrapSp s.ss (s.spOff - BitVec.ofNat 32 n)) n n .w s = .ok ps s1) :
    ∃ u, Stored ps v s1 u ∧ push n v s = .ok () (withSp u (s.spOff - BitVec.ofNat 32 n)) := by
  have hslots : pushSlots s.ss n s.spOff [v].length s = .ok [ps] s1 := (bind_of_ok h).trans rfl
  obtain ⟨u, ⟨_, hst, rfl⟩, -, hrun⟩ := pushList_stored hslots
  exact ⟨u, hst, by rw [push, hrun, List.length_singleton, Nat.mul_one]⟩

/-- The instruction pushes this value at the operand size. -/
def Pushes (i : Instr) (v : Word) (s : State) : Prop :=
  ∃ body, exec i s = runInstr body s ∧ body s.enter = push s.os.bytes (v.toNat % 2 ^ s.os.bits) s.enter

theorem Pushes.of_val {i : Instr} {v : Word} {s : State} {f : (w : Nat) → M (BitVec w)} {x : BitVec s.os.bits}
    (hi : exec i s = runInstr (atOs (pushVal f)) s) (hf : f s.os.bits s.enter = .ok x s.enter) (hx : x.toNat = v.toNat % 2 ^ s.os.bits) :
    Pushes i v s := by
  refine ⟨_, hi, ?_⟩
  rw [atOs_run, ← hx, ← bytes_eq]
  exact bind_of_ok hf

theorem Pushes.of_seg {i : Instr} {s : State} {sr : SReg} (hi : exec i s = runInstr (atOs (pushSeg sr)) s) :
    Pushes i ((s.segs.get sr).sel.setWidth 32) s := by
  refine ⟨_, hi, ?_⟩
  have hlt : (s.segs.get sr).sel.toNat < 2 ^ s.os.bits :=
    (s.segs.get sr).sel.isLt.trans_le (Nat.pow_le_pow_right (by decide) (bits_le s.os).1)
  rw [atOs_run, BitVec.toNat_setWidth, Nat.mod_eq_of_lt ((s.segs.get sr).sel.isLt.trans (by decide)), Nat.mod_eq_of_lt hlt, ← bytes_eq]
  rfl

/-- The image that PUSHF makes: without RF and VM (R817). -/
theorem pushfImage_eq (f : Flags) : (f.word &&& 0x00FCFFFF) = { f with rf := false, vm := false }.word := by
  refine BitVec.eq_of_getLsbD_eq fun j hj => ?_
  rw [BitVec.getLsbD_and, getLsbD_flags_word _ _ hj, getLsbD_flags_word _ _ hj]
  interval_cases j <;> simp [BitVec.getLsbD_of_ge]

theorem v86Iopl_run (s : State) : v86Iopl s = if s.v86 = true → s.flags.iopl = 3 then .ok () s else .error (.exc gp0) s := by
  rw [v86Iopl, get_bind, require_run]
  congr 1
  rw [Bool.or_eq_true, Bool.not_eq_true', beq_iff_eq, ← Bool.not_eq_true, imp_iff_not_or]

theorem pushf_pushes {s : State} (h : s.v86 = true → s.flags.iopl = 3) : Pushes .pushf { s.flags with rf := false, vm := false }.word s := by
  refine ⟨_, show execPushf s = _ from rfl, ?_⟩
  have hv : v86Iopl s.enter = .ok () s.enter := (v86Iopl_run s.enter).trans (if_pos h)
  rw [bind_of_ok hv, get_bind, ← pushfImage_eq]
  show push s.os.bytes (s.flags.word &&& (match s.os with
    | .s16 => 0x0000FFFF
    | .s32 => 0x00FCFFFF)).toNat s.enter = _
  have hlow (x : Word) : (x &&& 0xFFFF).toNat = x.toNat % 2 ^ 16 := Nat.and_two_pow_sub_one_eq_mod x.toNat 16
  cases hos : s.os with
  | s16 =>
    have hand : s.flags.word &&& 0x00FCFFFF &&& 0xFFFF = s.flags.word &&& 0xFFFF := by rw [BitVec.and_assoc]; rfl
    rw [show Size.s16.bits = 16 from rfl, ← hlow, hand]
  | s32 => rw [show Size.s32.bits = 32 from rfl, Nat.mod_eq_of_lt (BitVec.isLt _)]

/-- Every operand of PUSH, and the flags. -/
theorem pushes_of {i : Instr} {v : Word} {s : State} (h : (i, v) ∈ pushes s ∨ (∃ r, i = .pushR r ∧ v = s.regs.get r) ∨
    (∃ imm, i = .pushImm imm ∧ v = imm) ∨ (∃ imm, i = .pushSImm8 imm ∧ v = imm.signExtend 32) ∨
    (i = .pushf ∧ (s.v86 = true → s.flags.iopl = 3) ∧ v = { s.flags with rf := false, vm := false }.word)) : Pushes i v s := by
  rcases h with h | ⟨r, rfl, rfl⟩ | ⟨imm, rfl, rfl⟩ | ⟨imm, rfl, rfl⟩ | ⟨rfl, h, rfl⟩
  · simp only [pushes, List.mem_cons, Prod.mk.injEq, List.not_mem_nil, or_false] at h
    rcases h with ⟨rfl, rfl⟩ | ⟨rfl, rfl⟩ | ⟨rfl, rfl⟩ | ⟨rfl, rfl⟩ | ⟨rfl, rfl⟩ | ⟨rfl, rfl⟩
    · exact .of_seg (sr := .es) rfl
    · exact .of_seg (sr := .cs) rfl
    · exact .of_seg (sr := .ss) rfl
    · exact .of_seg (sr := .ds) rfl
    · exact .of_seg (sr := .fs) rfl
    · exact .of_seg (sr := .gs) rfl
  · refine .of_val (f := fun w => readReg w r) rfl (readReg_run _ _ _) ?_
    show (s.regs.read s.os.bits r).toNat = _
    rw [GRegs.read, if_neg (bits_ne_eight s.os), BitVec.toNat_setWidth]
  · exact .of_val (f := fun w => pure (v.setWidth w)) rfl rfl (BitVec.toNat_setWidth ..)
  · refine .of_val (f := fun w => pure (imm.signExtend w)) rfl rfl ?_
    generalize s.os = sz
    cases sz <;> (revert imm; decide)
  · exact pushf_pushes h

/-- PUSHA (R506): the saved registers, EAX first. -/
theorem pushAll_run (w : Nat) (s : State) : pushAll w s = pushList (w / 8) (pushaValues w s.regs) s := rfl

/-- Settles O15. -/
theorem pushStack : Obligations.PushStack := by
  refine ⟨fun s hv hi => ?_, fun i v s ps s1 h hacc => ?_, fun rm s p s1 v s2 ps s3 hloc hget hacc => ?_, fun s slots s1 hslots => ?_⟩
  · refine faults_of_run (show execPushf s = _ from rfl) (bind_of_error ((v86Iopl_run s.enter).trans (if_neg fun h => hi (h hv)))) rfl
  · obtain ⟨body, hi, hbody⟩ := pushes_of h
    obtain ⟨u, hst, hu⟩ := push_stored (v := v.toNat % 2 ^ s.os.bits) hacc
    exact ⟨u, hst, ran_of_run hi (hbody.trans hu)⟩
  · have hread := readRM_run hloc hget
    have hacc2 : OnlyAccess s.enter s2 := (locate_checksOnly _ _ _ hloc).trans (place_get_checksOnly _ _ hget)
    have hss : s2.ss = s.ss := hacc2.ss_eq
    have hsp : s2.spOff = s.spOff := hacc2.spOff_eq
    rw [← hss, ← hsp] at hacc
    obtain ⟨u, hst, hu⟩ := push_stored (v := v.toNat) hacc
    rw [hsp] at hu
    refine ⟨u, hst, ran_of_run (body := atOs (pushVal fun w => readRM w rm)) rfl ?_⟩
    rw [← bytes_eq] at *
    exact (bind_of_ok hread).trans hu
  · obtain ⟨u, hst, -, hu⟩ := pushList_stored (vs := pushaValues s.os.bits s.regs) hslots
    refine ⟨u, hst, ran_of_run (body := atOs pushAll) rfl ?_⟩
    rw [atOs_run, pushAll_run, bytes_eq]
    refine hu.trans ?_
    exact congrArg (fun k => EStateM.Result.ok () (withSp u (s.spOff - BitVec.ofNat 32 k))) (Nat.mul_comm _ _)

end Sys2Proof.Laws

end
end

section
/-! Pops (40_data_movement.md R505, R507, 45_flag_segment_misc.md R820). -/

noncomputable section

namespace Sys2Proof.Laws

open Sys2Proof Sys2Proof.Machine Sys2Proof.Claims

/-! ## Slots -/

theorem peek_checksOnly (k : Word) (n : Nat) : ChecksOnly (peek k n) :=
  .bind .get fun _ => .bind (access_checksOnly ..) fun _ => load_checksOnly _

theorem peekSlots_checksOnly (w n i : Nat) : ChecksOnly (peekSlots w n i) := by
  induction n generalizing i with
  | zero => exact .pure _
  | succ n ih => exact .bind (peek_checksOnly ..) fun _ => .bind (ih _) fun _ => .pure _

theorem peekSlots_length {w n i : Nat} {s t : State} {vs : List (BitVec w)} (h : peekSlots w n i s = .ok vs t) : vs.length = n := by
  induction n generalizing i s t vs with
  | zero =>
    obtain ⟨rfl, -⟩ : [] = vs ∧ s = t := by simpa [peekSlots] using h
    rfl
  | succ n ih =>
    obtain ⟨v, s1, -, h1⟩ := bind_eq_ok.mp h
    obtain ⟨rest, s2, h2, h3⟩ := bind_eq_ok.mp h1
    obtain ⟨rfl, -⟩ : BitVec.ofNat w v :: rest = vs ∧ s2 = t := by simpa using h3
    rw [List.length_cons, ih h2]

/-- pop_n (R220). -/
theorem pop_run {n v : Nat} {s s1 s2 : State} {ps : List Word} (h : access s.ss .ss (wrapSp s.ss s.spOff) n n .r s = .ok ps s1)
    (hl : load ps s1 = .ok v s2) : pop n s = .ok v (withSp s2 (s.spOff + BitVec.ofNat 32 n)) := by
  have hacc : OnlyAccess s s2 := (access_checksOnly _ _ _ _ _ _ h).trans (load_checksOnly _ hl)
  rw [pop_ok (memRead_run h hl), withSp_wrapSp, hacc.spOff_eq]

/-! ## POPF -/

theorem testBit_image (v i : Nat) (hi : i < 32) : bit (BitVec.ofNat 32 v) i = v.testBit i := by
  rw [bit, BitVec.getLsbD_ofNat, decide_eq_true hi, Bool.true_and]

/-- The level in force as POPF compares it with IOPL. -/
theorem level_le_iopl (s : State) : (!s.flags.iopl.ult s.level) =
    decide ((if s.pe then if s.flags.vm then 3 else s.cpl.toNat else 0) ≤ s.flags.iopl.toNat) := by
  have hlevel : s.level.toNat = if s.pe then if s.flags.vm then 3 else s.cpl.toNat else 0 := by
    unfold State.level
    cases s.pe <;> cases s.flags.vm <;> rfl
  rw [← hlevel, BitVec.ult, Bool.not_eq_eq_eq_not, ← decide_not, decide_eq_decide, Nat.not_le]

/-- IOPL changes at level 0 alone, outside virtual-8086 mode. -/
theorem level_zero_iff (s : State) : (s.level == 0 && !s.v86) = decide (s.pe = false ∨ (s.flags.vm = false ∧ s.cpl = 0)) := by
  unfold State.level State.v86
  cases s.pe <;> cases s.flags.vm <;> (rw [Bool.eq_iff_iff]; simp)

/-- What POPF makes of the flags, flag by flag (R820). -/
theorem popfFlags_spec (s : State) (v : Nat) :
    let f := popfFlags s.level s.v86 (s.os == .s32) s.flags (Flags.ofWord (BitVec.ofNat 32 v))
    f.cf = v.testBit 0 ∧ f.pf = v.testBit 2 ∧ f.af = v.testBit 4 ∧ f.zf = v.testBit 6 ∧ f.sf = v.testBit 7 ∧ f.tf = v.testBit 8 ∧
      f.df = v.testBit 10 ∧ f.of = v.testBit 11 ∧ f.nt = v.testBit 14 ∧
      f.iopl = (if s.pe = false ∨ (s.flags.vm = false ∧ s.cpl = 0) then BitVec.ofNat 2 (v / 2 ^ 12) else s.flags.iopl) ∧
      f.ifl = (if (if s.pe then if s.flags.vm then 3 else s.cpl.toNat else 0) ≤ s.flags.iopl.toNat then v.testBit 9 else s.flags.ifl) ∧
      f.ac = (if s.os = .s32 then v.testBit 18 else s.flags.ac) ∧ f.id = (if s.os = .s32 then v.testBit 21 else s.flags.id) ∧
      f.rf = s.flags.rf ∧ f.vm = s.flags.vm ∧ f.vif = s.flags.vif ∧ f.vip = s.flags.vip := by
  have hiopl : (BitVec.ofNat 32 v).extractLsb' 12 2 = BitVec.ofNat 2 (v / 2 ^ 12) := by
    refine BitVec.eq_of_toNat_eq ?_
    rw [BitVec.extractLsb'_toNat, BitVec.toNat_ofNat, BitVec.toNat_ofNat, Nat.shiftRight_eq_div_pow]
    omega
  have hos : (s.os == .s32) = decide (s.os = .s32) := by cases s.os <;> rfl
  simp only [popfFlags, Flags.ofWord, testBit_image, level_zero_iff, level_le_iopl, hiopl, hos, decide_eq_true_eq, Nat.reduceLT, and_self]

/-! ## POPA -/

/-- A write at the operand size leaves the other registers. -/
theorem esp_write {sz : Size} {r : Reg} {v : BitVec sz.bits} (g : GRegs) (h : r ≠ .esp) : (g.write sz.bits r v).esp = g.esp := by
  rw [GRegs.write, if_neg (bits_ne_eight sz)]
  cases r with
  | esp => exact absurd rfl h
  | _ => split <;> rfl

theorem spOff_congr {s t : State} (hsegs : t.segs = s.segs) (hesp : t.regs.esp = s.regs.esp) : t.spOff = s.spOff := by
  rw [State.spOff, State.ss, hsegs, hesp]
  rfl

theorem addSp_run (k : Word) (s : State) : addSp k s = .ok () (withSp s (s.spOff + k)) := by
  rw [addSp, get_bind, setSp_run, withSp_wrapSp]

theorem checkIf_checksOnly (sz : Size) (sr : SReg) (off : Word) (n : Nat) (ok : Nat → Bool) (k : Kind) : ChecksOnly (checkIf sz sr off n ok k) :=
  .bind (segLinear_checksOnly ..) fun _ => .bind .get fun _ => .bind (linAddrs_checksOnly ..) fun _ => .bind (.require (.raise ..)) fun _ => .pure _

/-- POPA once its slots were read: the registers, then (E)SP (R507). -/
theorem popAll_run {sz : Size} {di si bp bx dx cx ax : BitVec sz.bits} {s s1 s2 s3 : State} {x : Word × List Word}
    (hlow : peekSlots sz.bits 3 0 s = .ok [di, si, bp] s1)
    (hslot : checkIf s.ss .ss (wrapSp s.ss (s.spOff + BitVec.ofNat 32 (3 * sz.bytes))) sz.bytes (fun lin => lin % sz.bytes == 0) .r s1 = .ok x s2)
    (hhigh : peekSlots sz.bits 4 4 s2 = .ok [bx, dx, cx, ax] s3) : popAll sz.bits s = .ok () (withSp { s3 with
        regs := ((((((s3.regs.write sz.bits .edi di).write sz.bits .esi si).write sz.bits .ebp bp).write sz.bits .ebx bx).write
          sz.bits .edx dx).write sz.bits .ecx cx).write sz.bits .eax ax } (s.spOff + BitVec.ofNat 32 (8 * sz.bytes))) := by
  have h1 : OnlyAccess s s1 := peekSlots_checksOnly _ _ _ hlow
  have h3 : OnlyAccess s s3 := (h1.trans (checkIf_checksOnly _ _ _ _ _ _ hslot)).trans (peekSlots_checksOnly _ _ _ hhigh)
  have hcheck : checkSlot (BitVec.ofNat 32 (sz.bits / 8 * 3)) (sz.bits / 8) s1 = .ok () s2 := by
    rw [checkSlot, get_bind, h1.ss_eq, h1.spOff_eq, bytes_eq, Nat.mul_comm]
    exact bind_of_ok hslot
  let u : State := { s3 with
    regs := ((((((s3.regs.write sz.bits .edi di).write sz.bits .esi si).write sz.bits .ebp bp).write sz.bits .ebx bx).write
      sz.bits .edx dx).write sz.bits .ecx cx).write sz.bits .eax ax }
  have hesp : u.regs.esp = s3.regs.esp := by simp only [u, esp_write, ne_eq, reduceCtorEq, not_false_eq_true]
  have hsp : u.spOff = s.spOff := (spOff_congr (s := s3) (t := u) rfl hesp).trans h3.spOff_eq
  rw [popAll, bind_of_ok hlow, bind_of_ok hcheck, bind_of_ok hhigh, bytes_eq, Nat.mul_comm sz.bytes, ← hsp]
  exact addSp_run _ u

/-- Settles O16. -/
theorem popStack : Obligations.PopStack := by
  refine ⟨fun s hv hi => ?_, fun s ps s1 v s2 hacc hload => ⟨fun r => ?_, fun rm p s3 hloc => ?_, fun hiopl => ?_⟩,
    fun s low high s1 s2 s3 x hlow hslot hhigh => ?_⟩
  · exact faults_of_run (show execPopf s = _ from rfl) (bind_of_error ((v86Iopl_run s.enter).trans (if_neg fun h => hi (h hv)))) rfl
  · refine ran_of_run (body := atOs (popTo (.reg r))) rfl ?_
    rw [atOs_run, popTo, bytes_eq]
    exact bind_of_ok (pop_run hacc hload)
  · obtain ⟨t, ht, hput⟩ := writeRM_run (v := BitVec.ofNat s.os.bits v) hloc
    refine ⟨t, hput, ran_of_run (body := atOs (popTo rm)) rfl ?_⟩
    rw [atOs_run, popTo, bytes_eq]
    exact (bind_of_ok (pop_run hacc hload)).trans ht
  · refine ⟨_, ran_of_run (show execPopf s = _ from rfl) ?_, popfFlags_spec s v⟩
    have hacc2 : OnlyAccess s.enter s2 := (access_checksOnly _ _ _ _ _ _ hacc).trans (load_checksOnly _ hload)
    rw [bind_of_ok ((v86Iopl_run s.enter).trans (if_pos hiopl)), get_bind]
    refine (bind_of_ok (pop_run hacc hload)).trans ?_
    rw [← show s2.flags = s.flags from hacc2.flags_eq]
    rfl
  · obtain ⟨di, si, bp, rfl⟩ := List.length_eq_three.mp (peekSlots_length hlow)
    obtain ⟨bx, dx, cx, ax, rfl⟩ : ∃ bx dx cx ax, high = [bx, dx, cx, ax] := List.length_eq_four.mp (peekSlots_length hhigh)
    exact ⟨di, si, bp, bx, dx, cx, ax, rfl, rfl, ran_of_run (body := atOs popAll) rfl (popAll_run hlow hslot hhigh)⟩

end Sys2Proof.Laws

end
end

section
/-! CLI and STI, near calls and returns, software interrupts (45_flag_segment_misc.md R810, R811, 43_control_transfer.md R700 to R703, R735). -/

noncomputable section

namespace Sys2Proof.Laws

open Sys2Proof Sys2Proof.Machine Sys2Proof.Claims

/-! ## CLI and STI -/

theorem iopOk_iff (s : State) :
    s.iopOk = true ↔ (if s.pe then if s.flags.vm then 3 else s.cpl.toNat else 0) ≤ s.flags.iopl.toNat := by
  rw [State.iopOk, level_le_iopl, decide_eq_true_iff]

theorem setIf_run (v : Bool) (s : State) :
    setIf v s = if s.iopOk = true then .ok () { s with flags := { s.flags with ifl := v } } else .error (.exc gp0) s := by
  rw [setIf, get_bind, guard_gp]
  rfl

theorem exec_cli (s : State) : exec .cli s = runInstr (setIf false) s := rfl

theorem exec_sti (s : State) : exec .sti s =
    runInstr (setIf true >>= fun _ => modifyCur fun c => { c with setStiShadow := !s.flags.ifl }) s := rfl

/-- Settles O20. -/
theorem interruptFlag : Obligations.InterruptFlag := by
  refine fun s => ⟨fun h => ?_, fun h => ?_⟩
  · have hset (v : Bool) := (setIf_run v s.enter).trans (if_pos ((iopOk_iff s.enter).mpr h))
    exact ⟨ran_of_run (exec_cli s) (hset false), ran_of_run (exec_sti s) (bind_of_ok (hset true))⟩
  · have hset (v : Bool) := (setIf_run v s.enter).trans (if_neg (mt (iopOk_iff s.enter).mp (Nat.not_le.mpr h)))
    exact ⟨faults_of_run (exec_cli s) (hset false) rfl, faults_of_run (exec_sti s) (bind_of_error (hset true)) rfl⟩

/-! ## CALL and RET near -/

theorem checkNear_run (t : Word) (s : State) :
    checkNear t s = if t.toNat ≤ s.segs.cs.limit.toNat then .ok () s else .error (.exc gp0) s := by
  rw [checkNear, get_bind, require_run]
  simp only [decide_eq_true_eq]
  rfl

section
variable {i : Instr} {body : M Unit} {s u : State} {t : Word} (hi : exec i s = runInstr body s)
variable (hb : body s.enter = callNear t s.os.bits u) (ho : OnlyAccess s.enter u)
include hi hb ho

/-- An instruction whose computation comes to a near call in `u`: where the target is in the limit, the return address is pushed (R702). -/
theorem ran_of_callNear {s1 : State} {ps : List Word} (hle : (nearTarget s t).toNat ≤ s.segs.cs.limit.toNat)
    (hacc : access s.ss .ss (wrapSp s.ss (s.spOff - BitVec.ofNat 32 s.os.bytes)) s.os.bytes s.os.bytes .w u = .ok ps s1) :
    ∃ v, Stored ps s.enter.eip.toNat s1 v ∧ Ran i s { withSp v (s.spOff - BitVec.ofNat 32 s.os.bytes) with eip := nearTarget s t } := by
  have hss : u.ss = s.ss := ho.ss_eq
  have hsp : u.spOff = s.spOff := ho.spOff_eq
  have heip : u.eip = s.enter.eip := by rw [ho]
  rw [← hss, ← hsp] at hacc
  obtain ⟨v, hst, hv⟩ := push_stored (v := u.eip.toNat) hacc
  rw [heip] at hst
  refine ⟨v, hst, ran_of_run hi ?_⟩
  have hcs : u.segs.cs.limit = s.segs.cs.limit := by rw [ho.segs_eq]; rfl
  rw [hb, callNear, get_bind, cutTarget_eq, bind_of_ok ((checkNear_run _ u).trans (if_pos (by rwa [hcs]))), bytes_eq, bind_of_ok hv, hsp]
  rfl

theorem faults_of_callNear (hlt : s.segs.cs.limit.toNat < (nearTarget s t).toNat) : Faults i s gp0 u := by
  have hcs : u.segs.cs.limit = s.segs.cs.limit := by rw [ho.segs_eq]; rfl
  refine faults_of_run hi ?_ ho.committed_eq
  rw [hb, callNear, get_bind, cutTarget_eq, bind_of_error ((checkNear_run _ u).trans (if_neg (by rw [hcs]; exact Nat.not_le.mpr hlt)))]

end

/-- RET: the return address is checked before (E)SP moves (R703). -/
theorem retNear_run {sz : Size} {n : BitVec 16} {s s1 s2 : State} {ps : List Word} {v : Nat}
    (hacc : access s.ss .ss (wrapSp s.ss s.spOff) sz.bytes sz.bytes .r s = .ok ps s1) (hload : load ps s1 = .ok v s2) :
    retNear n sz.bits s = if v ≤ s2.segs.cs.limit.toNat then
        .ok () { withSp s2 (s.spOff + BitVec.ofNat 32 sz.bytes + n.setWidth 32) with eip := BitVec.ofNat 32 v }
      else .error (.exc gp0) s2 := by
  have ho : OnlyAccess s s2 := (access_checksOnly _ _ _ _ _ _ hacc).trans (load_checksOnly _ hload)
  have hpeek : peek 0 sz.bytes s = .ok v s2 := by
    rw [peek, get_bind, show s.spOff + 0 = s.spOff from BitVec.add_zero _]
    exact memRead_run hacc hload
  have hv : (BitVec.ofNat 32 v).toNat = v := by
    have hlt := accessIf_length hacc ▸ load_lt hload
    rw [BitVec.toNat_ofNat, Nat.mod_eq_of_lt (hlt.trans_le (by cases sz <;> decide))]
  have hcheck := checkNear_run (BitVec.ofNat 32 v) s2
  rw [hv] at hcheck
  rw [retNear, bytes_eq, bind_of_ok hpeek]
  split
  · next h =>
    rw [if_pos h] at hcheck
    rw [bind_of_ok hcheck, bind_of_ok (addSp_run _ _), ho.spOff_eq, BitVec.add_assoc]
    rfl
  · next h =>
    rw [if_neg h] at hcheck
    rw [bind_of_error hcheck]

/-- Settles O22. -/
theorem nearCallReturn : Obligations.NearCallReturn := by
  refine ⟨fun rel s ps s1 => ?_, fun rm s p s1 v s2 ps s3 hloc hget => ?_, fun i n s ps s1 v s2 hi hacc hload => ?_⟩
  · have hb : (atOs fun w => relTarget (relDisp rel w) >>= fun t => callNear t w) s.enter =
        callNear (s.enter.eip + osDisp s rel) s.os.bits s.enter := by
      rw [← relDisp_eq]
      rfl
    exact ⟨ran_of_callNear (i := .callRel rel) rfl hb (.refl _), faults_of_callNear (i := .callRel rel) rfl hb (.refl _)⟩
  · have ho : OnlyAccess s.enter s2 := (locate_checksOnly _ _ _ hloc).trans (place_get_checksOnly _ _ hget)
    have hb : (atOs fun w => readRM w rm >>= fun v => callNear (v.setWidth 32) w) s.enter = callNear (v.setWidth 32) s.os.bits s2 :=
      bind_of_ok (readRM_run hloc hget)
    have hran := ran_of_callNear (i := .callRm rm) rfl hb ho (s1 := s3) (ps := ps)
    have hfault := faults_of_callNear (i := .callRm rm) rfl hb ho
    have hv : (v.setWidth 32).toNat = v.toNat := by
      rw [BitVec.toNat_setWidth, Nat.mod_eq_of_lt (v.isLt.trans_le (Nat.pow_le_pow_right (by decide) (bits_le s.os).2))]
    rw [nearTarget_setWidth, hv] at hran hfault
    exact ⟨hran, hfault⟩
  · have hbody : exec i s = runInstr (atOs (retNear n)) s := by
      rcases hi with ⟨rfl, rfl⟩ | rfl <;> rfl
    have ho : OnlyAccess s.enter s2 := (access_checksOnly _ _ _ _ _ _ hacc).trans (load_checksOnly _ hload)
    have hrun := retNear_run (n := n) hacc hload
    have hcs : s2.segs.cs.limit = s.segs.cs.limit := by rw [ho.segs_eq]; rfl
    rw [hcs] at hrun
    exact ⟨fun h => ran_of_run hbody (hrun.trans (if_pos h)),
      fun h => faults_of_run hbody (hrun.trans (if_neg (Nat.not_le.mpr h))) ho.committed_eq⟩

/-! ## Software interrupts -/

theorem exec_intImm8 (v : BitVec 8) (s : State) : exec (.intImm8 v) s = runInstr (v86Iopl >>= fun _ => softInt v.toNat) s := rfl
theorem exec_into (s : State) : exec .into s = runInstr (get >>= fun s => if s.flags.of then softInt 4 else pure ()) s := rfl

/-- What a software interrupt raises is delivered as a trap, from the state of its start (R735). -/
theorem exec_of_soft {i : Instr} {body : M Unit} {s : State} {v : Nat} (hi : exec i s = runInstr body s)
    (hb : body s.enter = .error (.soft v) s.enter) : exec i s = deliver deliverFuel (softEvent s v) (rollback s s.enter) :=
  hi.trans (runInstr_soft hb)

theorem realDelivered_of_soft {i : Instr} {s s1 : State} {v : Nat} {slots : List (List Word)}
    (h : exec i s = deliver deliverFuel (softEvent s v) (rollback s s.enter)) (hr : RealReady (softEvent s v) s slots s1) :
    RealDelivered (exec i s) (softEvent s v) s slots s1 := by
  rw [h, rollback_enter]
  exact realDelivered_of_ready _ hr

/-- Settles O26. -/
theorem softwareInterrupts : Obligations.SoftwareInterrupts := by
  refine ⟨fun s v h => ?_, fun s v hv hi => ?_, fun s h => ?_, fun s h => ?_⟩
  · have hsoft : exec (softInstr v).1 s = deliver deliverFuel (softEvent s (softInstr v).2) (rollback s s.enter) := by
      cases v with
      | none => exact exec_of_soft (body := softInt 3) rfl rfl
      | some v =>
        exact exec_of_soft (exec_intImm8 v s) (bind_of_ok ((v86Iopl_run s.enter).trans (if_pos (h.resolve_left nofun))))
    exact ⟨hsoft, fun _ _ => realDelivered_of_soft hsoft⟩
  · exact faults_of_run (exec_intImm8 v s)
      (bind_of_error ((v86Iopl_run s.enter).trans (if_neg fun h => hi (h hv)))) rfl
  · refine ran_of_run (exec_into s) ?_
    rw [get_bind, show s.enter.flags.of = false from h]
    rfl
  · have hsoft : exec .into s = deliver deliverFuel (softEvent s 4) (rollback s s.enter) := by
      refine exec_of_soft (exec_into s) ?_
      rw [get_bind, show s.enter.flags.of = true from h]
      rfl
    exact ⟨hsoft, fun _ _ => realDelivered_of_soft hsoft⟩

end Sys2Proof.Laws

end
end

section
/-! Double faults and privilege (60_exceptions.md R1232, R1260, 23_protection.md R340). -/

noncomputable section

namespace Sys2Proof.Laws

open Sys2Proof Sys2Proof.Machine Sys2Proof.Claims

/-! ## A second exception -/

/-- The exceptions of the contributory class (Table 14-3). -/
def Contributory (v : Nat) : Prop := v = 0 ∨ v = 10 ∨ v = 11 ∨ v = 12 ∨ v = 13

theorem faultClass_eq_one (v : Nat) : faultClass v = 1 ↔ Contributory v := by
  unfold faultClass Contributory
  split_ifs <;> simp <;> omega

theorem faultClass_eq_two (v : Nat) : faultClass v = 2 ↔ v = 14 := by
  unfold faultClass
  split_ifs <;> simp <;> omega

/-- Table 14-4. -/
theorem isDouble_iff (ev : Event) (v : Nat) : isDouble ev v = true ↔
    ev.kind = .exc ∧ ((Contributory ev.vec ∧ Contributory v) ∨ (ev.vec = 14 ∧ (Contributory v ∨ v = 14))) := by
  rw [isDouble, ← faultClass_eq_one, ← faultClass_eq_one, ← faultClass_eq_two, ← faultClass_eq_two]
  cases hk : ev.kind <;> simp

/-- Settles O28. -/
theorem doubleFaults : Obligations.DoubleFaults := by
  refine ⟨fun ev s hpe hsmm hlimit => ?_, fun ev s n e t h hc => ⟨fun hk hv => ?_, fun hk => ⟨fun hd => ?_, fun hd h8 => ?_⟩, ?_⟩⟩
  · have hreal : deliverReal ev (begun ev s) = .error (.exc { vec := 8, code := none, dbg := none }) (begun ev s) :=
      deliverReal_limit (by rwa [begun_idtr])
    rw [deliverOnce_run hsmm, hpe]
    refine (withExt_exc (ev := ev) hreal).trans ?_
    rw [extFault]
    cases ev.kind <;> rfl
  · exact ⟨_, deliver_triple h hc hk hv, rfl⟩
  · rw [deliver_next h hc hk, nextEvent, if_pos]
    rw [Bool.or_eq_true, isDouble_iff, beq_iff_eq]
    exact hd
  · rw [deliver_next h hc hk, nextEvent, if_neg]
    rw [Bool.or_eq_true, isDouble_iff, beq_iff_eq, not_or]
    exact ⟨hd, h8⟩
  · exact ⟨_, rfl, rfl⟩

/-! ## Privileged instructions -/

theorem level_toNat (s : State) : s.level.toNat = levelOf s := by
  unfold State.level levelOf
  cases s.pe <;> cases s.flags.vm <;> rfl

theorem level_eq_zero_iff (s : State) : s.level = 0 ↔ levelOf s = 0 := by
  rw [← level_toNat, ← BitVec.toNat_inj]
  rfl

/-- Above level 0 nothing of a privileged instruction happens but the fault (R340). -/
theorem privileged_fails {s : State} (h : levelOf s ≠ 0) : privileged s.enter = .error (.exc gp0) s.enter :=
  (privileged_run s.enter).trans (if_neg fun h0 => h ((level_eq_zero_iff s).mp h0))

theorem privileged_passes {s : State} (h : levelOf s = 0) : privileged s.enter = .ok () s.enter :=
  (privileged_run s.enter).trans (if_pos ((level_eq_zero_iff s).mpr h))

theorem faults_of_privileged {i : Instr} {f : Unit → M Unit} {s : State} (hi : exec i s = runInstr (privileged >>= f) s) (h : levelOf s ≠ 0) :
    Faults i s gp0 s.enter := faults_of_run hi (bind_of_error (privileged_fails h)) rfl

/-- Settles O38. -/
theorem privilegedInstructions : Obligations.PrivilegedInstructions := by
  refine ⟨fun i s hi h => ?_, fun rm s hp hc => ?_, fun s hsmm h => ?_⟩
  · rcases hi with rfl | rfl | rfl | rfl | rfl | rfl | ⟨rm, rfl⟩ | ⟨m, rfl⟩ | ⟨m, rfl⟩ | ⟨m, rfl⟩ | ⟨n, r, rfl⟩ | ⟨n, r, rfl⟩ | ⟨n, r, rfl⟩ | ⟨n, r, rfl⟩
    · exact faults_of_privileged (show execHlt s = _ from rfl) h
    · exact faults_of_privileged (show execClts s = _ from rfl) h
    · exact faults_of_privileged (show execInvd s = _ from rfl) h
    · exact faults_of_privileged (show execWbinvd s = _ from rfl) h
    · exact faults_of_privileged (show execRdmsr s = _ from rfl) h
    · exact faults_of_privileged (show execWrmsr s = _ from rfl) h
    · exact faults_of_privileged (show execLmswRm16 rm s = _ from rfl) h
    · exact faults_of_run (show execLgdtM m s = _ from rfl) (bind_of_error (bind_of_error (privileged_fails h))) rfl
    · exact faults_of_run (show execLidtM m s = _ from rfl) (bind_of_error (bind_of_error (privileged_fails h))) rfl
    · exact faults_of_privileged (show execInvlpgM m s = _ from rfl) h
    · exact faults_of_privileged (show execMovR32Cr n r s = _ from rfl) h
    · exact faults_of_privileged (show execMovCrR32 n r s = _ from rfl) h
    · exact faults_of_run (show execMovR32Dr n r s = _ from rfl) (bind_of_error (bind_of_error (privileged_fails h))) rfl
    · exact faults_of_run (show execMovDrR32 n r s = _ from rfl) (bind_of_error (bind_of_error (privileged_fails h))) rfl
  · have hprot : protOnly s.enter = .ok () s.enter := (protOnly_run s.enter).trans (if_pos hp)
    have hlevel : levelOf s ≠ 0 := by
      obtain ⟨hpe, hvm⟩ : s.pe = true ∧ s.flags.vm = false := by simpa [State.prot] using hp
      rw [levelOf, hpe, hvm]
      exact fun h0 => hc (BitVec.eq_of_toNat_eq h0)
    exact ⟨faults_of_run (show execLldtRm16 rm s = _ from rfl) ((bind_of_ok hprot).trans (bind_of_error (privileged_fails hlevel))) rfl,
      faults_of_run (show execLtrRm16 rm s = _ from rfl) ((bind_of_ok hprot).trans (bind_of_error (privileged_fails hlevel))) rfl⟩
  · refine faults_of_run (show execRsm s = _ from rfl) ?_ rfl
    rw [resume, get_bind, show s.enter.inSmm = true from hsmm, require_true, pure_bind]
    exact bind_of_error (privileged_fails h)

end Sys2Proof.Laws

end
end

section
/-! Cache, halt, TLB and model-specific register instructions (46_system_io.md R915 to R918, R930 to R932, 22_paging.md R272). -/

noncomputable section

namespace Sys2Proof.Laws

open Sys2Proof Sys2Proof.Machine Sys2Proof.Claims

/-- A privileged instruction at level 0. -/
theorem ran_of_privileged {i : Instr} {f : Unit → M Unit} {s t : State} (hi : exec i s = runInstr (privileged >>= f) s) (h : levelOf s = 0)
    (hf : f () s.enter = .ok () t) : Ran i s t := ran_of_run hi ((bind_of_ok (privileged_passes h)).trans hf)

/-! ## INVLPG -/

/-- An entry maps the page of an address: the page frames of both agree, above bit 22 for a 4-megabyte page (R272). -/
theorem maps_iff (e : TlbEntry) (big : Bool) (lin : Word) : e.maps big lin = true ↔
    if big = true ∧ e.pde.getLsbD 7 = true then e.page.toNat / 2 ^ 10 = lin.toNat / 2 ^ 22 else e.page.toNat = lin.toNat / 2 ^ 12 := by
  have hpage := e.page.isLt
  have hlin := lin.isLt
  have hbig : (e.page.extractLsb' 10 10 == lin.extractLsb' 22 10) = true ↔ e.page.toNat / 2 ^ 10 = lin.toNat / 2 ^ 22 := by
    rw [beq_iff_eq, ← BitVec.toNat_inj, BitVec.extractLsb'_toNat, BitVec.extractLsb'_toNat, Nat.shiftRight_eq_div_pow,
      Nat.shiftRight_eq_div_pow, Nat.mod_eq_of_lt (by omega), Nat.mod_eq_of_lt (by omega)]
  have hsmall : (e.page == lin.extractLsb' 12 20) = true ↔ e.page.toNat = lin.toNat / 2 ^ 12 := by
    rw [beq_iff_eq, ← BitVec.toNat_inj, BitVec.extractLsb'_toNat, Nat.shiftRight_eq_div_pow, Nat.mod_eq_of_lt (by omega)]
  rw [TlbEntry.maps, ← hbig, ← hsmall, bit]
  by_cases h : big = true ∧ e.pde.getLsbD 7 = true
  · rw [if_pos h, if_pos (Bool.and_eq_true_iff.mpr h)]
  · rw [if_neg h, if_neg (mt Bool.and_eq_true_iff.mp h)]

/-- INVLPG keeps the entries that do not map the page. -/
theorem mem_filter_maps (l : List TlbEntry) (big : Bool) (lin : Word) (e : TlbEntry) :
    e ∈ l.filter (fun e => !e.maps big lin) ↔ e ∈ l ∧ ¬ if big = true ∧ e.pde.getLsbD 7 = true then e.page.toNat / 2 ^ 10 = lin.toNat / 2 ^ 22
      else e.page.toNat = lin.toNat / 2 ^ 12 := by
  rw [List.mem_filter, Bool.not_eq_true', ← Bool.not_eq_true, maps_iff]

/-! ## 64-bit registers in EDX:EAX -/

/-- A 64-bit value goes to EDX:EAX. -/
theorem write_edx_eax (g : GRegs) (v : BitVec 64) : (g.write 32 .edx (v.extractLsb' 32 32)).write 32 .eax (v.extractLsb' 0 32) =
    { g with eax := v.setWidth 32, edx := (v >>> 32).setWidth 32 } := by
  have hhigh : v.extractLsb' 32 32 = (v >>> 32).setWidth 32 := rfl
  have hlow : v.extractLsb' 0 32 = v.setWidth 32 := BitVec.setWidth_eq_extractLsb' (by decide) |>.symm
  rw [write_thirtyTwo_edx_eax, hhigh, hlow]

theorem getLsbD_maskWrite (old new mask : BitVec 64) (j : Nat) (hj : j < 64) :
    (maskWrite old new mask).getLsbD j = if mask.getLsbD j then new.getLsbD j else old.getLsbD j := by
  rw [maskWrite, BitVec.getLsbD_or, BitVec.getLsbD_and, BitVec.getLsbD_and, BitVec.getLsbD_not, decide_eq_true hj]
  cases mask.getLsbD j <;> simp

section
variable {s : State} (h : levelOf s = 0)
include h

/-- An index that names no register (R930). -/
theorem msr_faults (hf : s.msrs.find? (fun m => m.index == s.regs.ecx) = none) : Faults .rdmsr s gp0 s.enter ∧ Faults .wrmsr s gp0 s.enter := by
  have hfind : findMsr s.enter.msrs s.enter.regs.ecx = none := hf
  refine ⟨faults_of_run (show execRdmsr s = _ from rfl) ((bind_of_ok (privileged_passes h)).trans ?_) rfl,
    faults_of_run (show execWrmsr s = _ from rfl) ((bind_of_ok (privileged_passes h)).trans ?_) rfl⟩
  · rw [get_bind, hfind]
    rfl
  · rw [get_bind, hfind]
    rfl

section
variable {m : Msr} (hf : s.msrs.find? (fun m => m.index == s.regs.ecx) = some m)
include hf

/-- RDMSR (R930). -/
theorem rdmsr_run : Ran .rdmsr s { s.enter with regs := { s.regs with
    eax := (if m.role = .tsc then s.tsc else m.value).setWidth 32
    edx := ((if m.role = .tsc then s.tsc else m.value) >>> 32).setWidth 32 } } := by
  have hfind : findMsr s.enter.msrs s.enter.regs.ecx = some m := hf
  refine ran_of_privileged (show execRdmsr s = _ from rfl) h ?_
  rw [get_bind, hfind, ← write_edx_eax]
  rfl

/-- WRMSR of the time stamp counter (R931). -/
theorem wrmsr_tsc_run (hr : m.role = .tsc) : Ran .wrmsr s { s.enter with tsc := maskWrite s.tsc (s.regs.edx ++ s.regs.eax) m.mask } := by
  have hfind : findMsr s.enter.msrs s.enter.regs.ecx = some m := hf
  refine ran_of_privileged (show execWrmsr s = _ from rfl) h ?_
  rw [get_bind, hfind]
  exact congrFun (if_pos hr) _

/-- WRMSR of another register: the writable bits of all that have its index. -/
theorem wrmsr_run (hr : m.role ≠ .tsc) : Ran .wrmsr s { s.enter with msrs := s.msrs.map fun x =>
    if x.index = s.regs.ecx then { x with value := maskWrite x.value (s.regs.edx ++ s.regs.eax) x.mask } else x } := by
  have hfind : findMsr s.enter.msrs s.enter.regs.ecx = some m := hf
  have hindex : m.index = s.regs.ecx := beq_iff_eq.mp (List.find?_some (p := fun x : Msr => x.index == s.regs.ecx) hf)
  refine ran_of_privileged (show execWrmsr s = _ from rfl) h ?_
  rw [get_bind, hfind, ← hindex]
  exact congrFun (if_neg hr) _

end

end

/-- RDTSC (R932). -/
theorem rdtsc_run (s : State) : readTsc s = if s.tsd = true → s.level = 0 then
    .ok () { s with regs := { s.regs with eax := s.tsc.setWidth 32, edx := (s.tsc >>> 32).setWidth 32 } } else .error (.exc gp0) s := by
  rw [readTsc, get_bind, guard_gp, ← write_edx_eax]
  congr 1
  rw [Bool.or_eq_true, Bool.not_eq_true', beq_iff_eq, ← Bool.not_eq_true, imp_iff_not_or]

/-- Settles O35. -/
theorem cacheHaltAndMsr : Obligations.CacheHaltAndMsr := by
  refine fun s => ⟨fun h => ⟨?_, ?_, ?_, fun m => ?_, msr_faults h, fun m hf => ⟨rdmsr_run h hf, fun hr => ?_, fun hr => ?_⟩⟩, fun h => ?_, fun ht h => ?_⟩
  · exact ran_of_privileged (show execInvd s = _ from rfl) h rfl
  · exact ran_of_privileged (show execWbinvd s = _ from rfl) h rfl
  · exact ran_of_privileged (show execHlt s = _ from rfl) h rfl
  · exact ⟨_, _, ran_of_privileged (show execInvlpgM m s = _ from rfl) h rfl, fun e => ⟨mem_filter_maps .., mem_filter_maps ..⟩⟩
  · exact ⟨_, wrmsr_tsc_run h hf hr, getLsbD_maskWrite _ _ _⟩
  · refine ⟨_, wrmsr_run h hf hr, List.length_map .., fun k hk hk' => ?_⟩
    rw [List.getElem_map]
    split
    · exact ⟨rfl, getLsbD_maskWrite _ _ _⟩
    · rfl
  · refine ran_of_run (show execRdtsc s = _ from rfl) ((rdtsc_run s.enter).trans (if_pos fun ht => ?_))
    rcases h with h | h
    · rw [show s.enter.tsd = s.cr.cr4.getLsbD 2 from rfl, h] at ht
      nomatch ht
    · exact (level_eq_zero_iff s).mpr h
  · exact faults_of_run (show execRdtsc s = _ from rfl)
      ((rdtsc_run s.enter).trans (if_neg fun h0 => h ((level_eq_zero_iff s).mp (h0 ht)))) rfl

end Sys2Proof.Laws

end
end

section
/-! Control registers (46_system_io.md R910, R912, R913, 22_paging.md R272, 70_reset_and_hazards.md R1640). -/

noncomputable section

namespace Sys2Proof.Laws

open Sys2Proof Sys2Proof.Machine Sys2Proof.Claims

/-! ## MOV from and to a control register -/

theorem readReg32_run (r : Reg) (s : State) : readReg 32 r s = .ok (s.regs.get r) s := by
  rw [readReg_run, GRegs.read, if_neg (by decide), BitVec.setWidth_eq]

theorem writeReg32_run (r : Reg) (v : Word) (s : State) : writeReg 32 r v s = .ok () { s with regs := s.regs.set r v } := by
  rw [← write_thirtyTwo]
  rfl

theorem crExists_iff (n : BitVec 3) : crExists n = false ↔ n = 1 ∨ 5 ≤ n.toNat := by
  revert n
  decide

section
variable {n : BitVec 3} {r : Reg} {s : State} (h : levelOf s = 0)
include h

theorem movFromCr_run (hn : crExists n = true) : Ran (.movR32Cr n r) s { s.enter with regs := s.regs.set r (s.cr.get n) } := by
  refine ran_of_privileged (show execMovR32Cr n r s = _ from rfl) h ?_
  rw [hn, require_true, pure_bind, get_bind]
  exact writeReg32_run r _ s.enter

/-- CR1 and CR5 to CR7 do not exist. -/
theorem movCr_faults (hn : crExists n = false) : Faults (.movR32Cr n r) s ud6 s.enter ∧ Faults (.movCrR32 n r) s ud6 s.enter := by
  refine ⟨faults_of_run (show execMovR32Cr n r s = _ from rfl) ((bind_of_ok (privileged_passes h)).trans ?_) rfl,
    faults_of_run (show execMovCrR32 n r s = _ from rfl) ((bind_of_ok (privileged_passes h)).trans ?_) rfl⟩
  · rw [hn]
    rfl
  · rw [hn]
    rfl

end

theorem tlbFlush_if (b : Bool) (s : State) : (if b then tlbFlush else pure () : M Unit) s = .ok () (flushed b s) := by
  cases b <;> rfl

/-! ## CR4 -/

theorem writeCr4_faults {v : Word} (s : State) (hv : v &&& 0xFFFFFFA0 ≠ 0) : writeCr4 v s = .error (.exc gp0) s := by
  rw [writeCr4, beq_eq_false_iff_ne.mpr hv]
  rfl

theorem writeCr4_run {v : Word} (s : State) (hv : v &&& 0xFFFFFFA0 = 0) (h3 : v &&& 3 = 0) :
    writeCr4 v s = .ok () (flushed (s.cr.cr4.getLsbD 4 != v.getLsbD 4) { s with cr := { s.cr with cr4 := v } }) := by
  rw [writeCr4, beq_iff_eq.mpr hv, require_true, pure_bind, if_pos h3]
  exact tlbFlush_if _ _

/-! ## CR0 -/

/-- The combinations that CR0 forbids: PG without PE, NW without CD. -/
def BadCr0 (v : Word) : Prop := (v.getLsbD 31 = true ∧ v.getLsbD 0 = false) ∨ (v.getLsbD 30 = false ∧ v.getLsbD 29 = true)

theorem badCr0_iff (v : Word) : (!(bit v 31 && !bit v 0) && !(!bit v 30 && bit v 29)) = false ↔ BadCr0 v := by
  unfold BadCr0 bit
  cases v.getLsbD 31 <;> cases v.getLsbD 0 <;> cases v.getLsbD 30 <;> cases v.getLsbD 29 <;> decide

theorem bit_set_et (v : Word) : bit (v ||| 0x10) 0 = v.getLsbD 0 := by
  rw [bit, BitVec.getLsbD_or]
  exact Bool.or_false _

/-- All bytes of a range are mapped to themselves. -/
theorem allIdentity_iff (s : State) (lin : Word) (n : Nat) :
    allIdentity s lin n = true ↔ ∀ k, k < n → identityMapped (lin + BitVec.ofNat 32 k) s = true := by
  induction n generalizing lin with
  | zero => exact iff_of_true rfl fun k hk => absurd hk (Nat.not_lt_zero k)
  | succ n ih =>
    rw [allIdentity, Bool.and_eq_true, ih]
    refine ⟨fun ⟨h0, h⟩ k hk => ?_, fun h => ⟨by simpa using h 0 (Nat.succ_pos n), fun k hk => ?_⟩⟩
    · cases k with
      | zero => simpa using h0
      | succ k =>
        have := h k (by omega)
        rwa [BitVec.add_assoc, show (1 : Word) + BitVec.ofNat 32 k = BitVec.ofNat 32 (k + 1) by rw [Nat.add_comm, BitVec.ofNat_add]; rfl] at this
    · have := h (k + 1) (by omega)
      rwa [BitVec.add_assoc, show (1 : Word) + BitVec.ofNat 32 k = BitVec.ofNat 32 (k + 1) by rw [Nat.add_comm, BitVec.ofNat_add]; rfl]

theorem writeCr0_faults {v : Word} (s : State) (hv : BadCr0 v) : writeCr0 v s = .error (.exc gp0) s := by
  rw [writeCr0, (badCr0_iff v).mpr hv]
  rfl

section
variable {v : Word} (s : State) (hv : ¬ BadCr0 v)
include hv

theorem guard_of_not_bad : (!(bit v 31 && !bit v 0) && !(!bit v 30 && bit v 29)) = true :=
  Bool.not_eq_false _ ▸ mt (badCr0_iff v).mp hv

/-- PG as it was: the TLBs are flushed if PE changes. -/
theorem writeCr0_run (hpg : s.cr.cr0.getLsbD 31 = v.getLsbD 31) :
    writeCr0 v s = .ok () (flushed (s.cr.cr0.getLsbD 0 != v.getLsbD 0) (s.withCr0 (v ||| 0x10))) := by
  have h31 : (bit s.cr.cr0 31 != bit v 31) = false := bne_eq_false_iff_eq.mpr hpg
  rw [writeCr0, guard_of_not_bad hv, require_true, pure_bind, get_bind, set_bind, h31]
  change _ = EStateM.Result.ok () (flushed (bit s.cr.cr0 0 != bit v 0) _)
  cases bit s.cr.cr0 0 != bit v 0 <;> rfl

/-- PG changes: the instruction is mapped to itself while PG is 1. -/
theorem writeCr0_pg_run (hpg : s.cr.cr0.getLsbD 31 ≠ v.getLsbD 31)
    (hid : allIdentity (if bit v 31 then s.withCr0 (v ||| 0x10) else s) (s.segs.cs.base + s.startEip) s.cur.len = true) :
    writeCr0 v s = .ok () { flushed true (s.withCr0 (v ||| 0x10)) with cur := { s.cur with pgSwitch := true } } := by
  have h31 : (bit s.cr.cr0 31 != bit v 31) = true := bne_iff_ne.mpr hpg
  rw [writeCr0, guard_of_not_bad hv, require_true, pure_bind, get_bind, set_bind, h31, hid]
  rfl

end

/-! ## The machine status word -/

/-- LMSW sets PE and never clears it (R912). -/
theorem loadMsw_run (v : Half) (s : State) : loadMsw v s = .ok () (flushed (v.getLsbD 0 && !s.pe) { s with
    cr := { s.cr with cr0 := (s.cr.cr0 &&& 0xFFFFFFF1) ||| (v.setWidth 32 &&& 0xF) }
    cpl := if (v.getLsbD 0 || s.pe) && s.flags.vm then 3 else s.cpl }) := by
  have hv : bit (v.setWidth 32 : Word) 0 = v.getLsbD 0 := by
    rw [bit, BitVec.getLsbD_setWidth]
    rfl
  have hpe : bit ((s.cr.cr0 &&& 0xFFFFFFF1) ||| (v.setWidth 32 &&& 0xF)) 0 = (v.getLsbD 0 || s.pe) := by
    rw [bit, BitVec.getLsbD_or, BitVec.getLsbD_and, BitVec.getLsbD_and, BitVec.getLsbD_setWidth, Bool.or_comm]
    simp [State.pe, bit]
  rw [loadMsw, get_bind]
  dsimp only
  rw [set_bind, hv, State.withCr0, hpe]
  exact tlbFlush_if _ _

theorem startEip_enter (s : State) : s.enter.startEip = s.eip := BitVec.add_sub_cancel _ _

theorem exec_movToCr (n : BitVec 3) (r : Reg) (s : State) : exec (.movCrR32 n r) s = runInstr (writeCr n r) s := rfl

/-- MOV to a control register that exists: `m` is what its write does. -/
theorem writeCr_run {n : BitVec 3} {r : Reg} {m : Word → M Unit} {s : State} (h : levelOf s = 0)
    (hm : writeCr n r = privileged >>= fun _ => require true ud >>= fun _ => readReg 32 r >>= m) :
    writeCr n r s.enter = m (s.regs.get r) s.enter := by
  rw [hm, bind_of_ok (privileged_passes h), require_true, pure_bind]
  exact bind_of_ok (readReg32_run r s.enter)

/-- MOV to CR0 (R913, R1640). -/
theorem movToCr0_run {r : Reg} {s : State} (h : levelOf s = 0) :
    let v := s.regs.get r
    let t : State := { s.enter with cr := { s.cr with cr0 := v ||| 0x10 }, cpl := if v.getLsbD 0 && s.flags.vm then 3 else s.cpl }
    (BadCr0 v → Faults (.movCrR32 0 r) s gp0 s.enter) ∧
    (¬ BadCr0 v → s.cr.cr0.getLsbD 31 = v.getLsbD 31 → Ran (.movCrR32 0 r) s (flushed (s.cr.cr0.getLsbD 0 != v.getLsbD 0) t)) ∧
    (¬ BadCr0 v → s.cr.cr0.getLsbD 31 ≠ v.getLsbD 31 →
      (∀ k, k < s.cur.len → identityMapped (s.segs.cs.base + s.eip + BitVec.ofNat 32 k) (if v.getLsbD 31 then t else s.enter) = true) →
      Ran (.movCrR32 0 r) s { flushed true t with cur := { s.cur with pgSwitch := true } }) := by
  intro v t
  have ht : s.enter.withCr0 (v ||| 0x10) = t := by
    rw [State.withCr0, bit_set_et]
    rfl
  have hi := exec_movToCr 0 r s
  have hbody := writeCr_run (n := 0) (r := r) (m := writeCr0) h rfl
  refine ⟨fun hv => faults_of_run hi (hbody.trans (writeCr0_faults _ hv)) rfl, fun hv hpg => ?_, fun hv hpg hid => ?_⟩
  · rw [← ht]
    exact ran_of_run hi (hbody.trans (writeCr0_run s.enter hv hpg))
  · rw [← ht]
    refine ran_of_run hi (hbody.trans (writeCr0_pg_run s.enter hv hpg ?_))
    rw [startEip_enter, allIdentity_iff, ht]
    exact hid

/-- Settles O33. -/
theorem controlRegisters : Obligations.ControlRegisters := by
  refine ⟨fun s k lin hpg hlin hid => ?_, fun s h => ⟨fun r => ⟨movFromCr_run h rfl, movFromCr_run h rfl, movFromCr_run h rfl, movFromCr_run h rfl,
    fun n hn => movCr_faults h ((crExists_iff n).mpr hn), ?_, ?_, fun hv => ?_, fun hv h3 => ?_, movToCr0_run h⟩, ?_, fun rm p s1 v s2 hloc hget => ?_⟩⟩
  · rw [fetchByte, get_bind, bind_of_ok hlin, hpg, hid]
    rfl
  · exact ran_of_run (exec_movToCr 2 r s) (writeCr_run (n := 2) (m := fun v => modify fun s => { s with cr := { s.cr with cr2 := v } }) h rfl)
  · exact ran_of_run (exec_movToCr 3 r s)
      (writeCr_run (n := 3) (m := fun v => modify (fun s => { s with cr := { s.cr with cr3 := v } }) >>= fun _ => tlbFlush) h rfl)
  · exact faults_of_run (exec_movToCr 4 r s) ((writeCr_run (n := 4) (m := writeCr4) h rfl).trans (writeCr4_faults _ hv)) rfl
  · exact ran_of_run (exec_movToCr 4 r s) ((writeCr_run (n := 4) (m := writeCr4) h rfl).trans (writeCr4_run _ hv h3))
  · exact ran_of_privileged (show execClts s = _ from rfl) h rfl
  · exact ran_of_privileged (show execLmswRm16 rm s = _ from rfl) h ((bind_of_ok (readRM_run hloc hget)).trans (loadMsw_run v s2))

end Sys2Proof.Laws

end
end

section
/-! Debug and test registers (46_system_io.md R914, R919, 64_debug.md R1482 to R1491). -/

noncomputable section

namespace Sys2Proof.Laws

open Sys2Proof Sys2Proof.Machine Sys2Proof.Claims

/-! ## The checks -/

/-- DR4 and DR5 do not exist with CR4.DE. -/
def DrMissing (n : BitVec 3) (s : State) : Prop := (n = 4 ∨ n = 5) ∧ s.de4 = true

/-- The general-detect fault (R1490). -/
def bdExc : Exc := { vec := 1, code := none, dbg := some { b := 0, bd := true, bs := false, bt := false } }

theorem drMissing_iff (n : BitVec 3) (s : State) : (!((n == 4 || n == 5) && s.de4)) = false ↔ DrMissing n s := by
  unfold DrMissing
  cases s.de4 <;> simp [or_iff_not_imp_left]

section
variable {n : BitVec 3} {s : State} (h : levelOf s = 0)
include h

theorem checkDr_missing (hn : DrMissing n s) : checkDr n s.enter = .error (.exc ud6) s.enter := by
  rw [checkDr, bind_of_ok (privileged_passes h), get_bind, show (!((n == 4 || n == 5) && s.enter.de4)) = false from (drMissing_iff n s).mpr hn]
  rfl

variable (hn : ¬ DrMissing n s)
include hn

theorem checkDr_exists : checkDr n s.enter =
    require (!bit s.dr.dr7 13 || s.inhibitSs) (throw (.exc { vec := 1, code := none, dbg := some { DbgCause.none with bd := true } })) s.enter := by
  have hd : (!((n == 4 || n == 5) && s.enter.de4)) = true := Bool.not_eq_false _ ▸ mt (drMissing_iff n s).mp hn
  rw [checkDr, bind_of_ok (privileged_passes h), get_bind, hd]
  rfl

theorem checkDr_detect (hgd : s.dr.dr7.getLsbD 13 = true) (hss : s.inhibitSs = false) : checkDr n s.enter = .error (.exc bdExc) s.enter := by
  rw [checkDr_exists h hn, bit, hgd, hss]
  rfl

theorem checkDr_passes (hgd : s.dr.dr7.getLsbD 13 = false ∨ s.inhibitSs = true) : checkDr n s.enter = .ok () s.enter := by
  rw [checkDr_exists h hn, bit, show (!s.dr.dr7.getLsbD 13 || s.inhibitSs) = true by simpa using hgd]
  rfl

end

/-! ## The moves -/

theorem exec_movFromDr (n : BitVec 3) (r : Reg) (s : State) : exec (.movR32Dr n r) s = runInstr (readDr n r) s := rfl
theorem exec_movToDr (n : BitVec 3) (r : Reg) (s : State) : exec (.movDrR32 n r) s = runInstr (writeDr n r) s := rfl

/-- What the checks raise, both moves raise. -/
theorem movDr_faults {n : BitVec 3} {e : Exc} {s : State} (r : Reg) (hc : checkDr n s.enter = .error (.exc e) s.enter) :
    Faults (.movR32Dr n r) s e s.enter ∧ Faults (.movDrR32 n r) s e s.enter :=
  ⟨faults_of_run (exec_movFromDr n r s) (bind_of_error hc) rfl, faults_of_run (exec_movToDr n r s) (bind_of_error hc) rfl⟩

theorem movDr_run {n : BitVec 3} {s : State} (r : Reg) (hc : checkDr n s.enter = .ok () s.enter) :
    Ran (.movR32Dr n r) s { s.enter with regs := s.regs.set r (s.dr.get n) } ∧
      Ran (.movDrR32 n r) s { s.enter with dr := s.dr.set n (s.regs.get r) } := by
  refine ⟨ran_of_run (exec_movFromDr n r s) ((bind_of_ok hc).trans ?_), ran_of_run (exec_movToDr n r s) ((bind_of_ok hc).trans ?_)⟩
  · exact writeReg32_run r _ s.enter
  · exact bind_of_ok (readReg32_run r s.enter)

/-- The bits of DR6 that are fixed (R1484). -/
theorem getLsbD_dr6 (v : Word) (j : Nat) (hj : j < 32) :
    ((v &&& 0x0000E00F) ||| 0xFFFF0FF0).getLsbD j = if j < 4 ∨ 13 ≤ j ∧ j < 16 then v.getLsbD j else j ≠ 12 := by
  rw [BitVec.getLsbD_or, BitVec.getLsbD_and]
  interval_cases j <;> simp

/-- The bits of DR7 that are fixed (R1483). -/
theorem getLsbD_dr7 (v : Word) (j : Nat) (hj : j < 32) : ((v &&& 0xFFFF23FF) ||| 0x00000400).getLsbD j =
    if j = 10 then true else if j = 11 ∨ j = 12 ∨ j = 14 ∨ j = 15 then false else v.getLsbD j := by
  rw [BitVec.getLsbD_or, BitVec.getLsbD_and]
  interval_cases j <;> simp

/-! ## What a debug exception notes -/

theorem drField_eq_zero (d : Word) (n : Nat) : (drRw d n == 0 && drLen d n == 0) = true ↔ d.toNat / 2 ^ (16 + 4 * n) % 16 = 0 := by
  have hlen : d.toNat / 2 ^ (18 + 4 * n) = d.toNat / 2 ^ (16 + 4 * n) / 4 := by
    rw [Nat.div_div_eq_div_mul, show 18 + 4 * n = 16 + 4 * n + 2 by omega, Nat.pow_add]
  rw [Bool.and_eq_true, beq_iff_eq, beq_iff_eq, ← BitVec.toNat_inj, ← BitVec.toNat_inj, drRw, drLen, BitVec.extractLsb'_toNat,
    BitVec.extractLsb'_toNat, Nat.shiftRight_eq_div_pow, Nat.shiftRight_eq_div_pow, hlen]
  simp only [BitVec.ofNat_eq_ofNat, BitVec.toNat_ofNat]
  omega

/-- A set of flags, one per position. -/
theorem getLsbD_bitIf {w : Nat} (x : Bool) (i j : Nat) (hj : j < w) : (if x then 1#w <<< i else 0 : BitVec w).getLsbD j = (x && decide (j = i)) := by
  cases x with
  | true =>
    rw [if_pos rfl, BitVec.getLsbD_shiftLeft, BitVec.getLsbD_one, decide_eq_true hj, decide_eq_true (show 0 < w by omega)]
    by_cases h : j < i <;> simp [h] <;> omega
  | false => rw [if_neg Bool.false_ne_true]; exact BitVec.getLsbD_zero

/-- The instruction breakpoints at CS:EIP (R1487). -/
theorem getLsbD_codeHits (s : State) (j : Nat) (hj : j < 4) : s.codeHits.getLsbD j = true ↔ breaksHere s j := by
  have hm (n : Nat) : (drRw s.dr.dr7 n == 0 && drLen s.dr.dr7 n == 0 && s.dr.addr n == s.segs.cs.base + s.eip) = true ↔ breaksHere s n := by
    rw [Bool.and_eq_true, drField_eq_zero, beq_iff_eq]
    rfl
  rw [← hm]
  simp only [State.codeHits, BitVec.getLsbD_or, getLsbD_bitIf _ _ _ hj]
  interval_cases j <;> simp

/-- The causes of a debug exception in DR6 (R1491, R1494). -/
theorem noteDebug_dr6 (s : State) (c : DbgCause) (j : Nat) (hj : j < 32) : (s.noteDebug c).dr.dr6.getLsbD j = true ↔
    s.dr.dr6.getLsbD j = true ∨ (j < 4 ∧ (c.b.getLsbD j = true ∨ breaksHere s j)) ∨ (j = 13 ∧ c.bd = true) ∨ (j = 14 ∧ c.bs = true) ∨
      (j = 15 ∧ c.bt = true) := by
  have hbd : (if c.bd then 0x2000 else 0 : Word).getLsbD j = (c.bd && decide (j = 13)) := getLsbD_bitIf c.bd 13 j hj
  have hbs : (if c.bs then 0x4000 else 0 : Word).getLsbD j = (c.bs && decide (j = 14)) := getLsbD_bitIf c.bs 14 j hj
  have hbt : (if c.bt then 0x8000 else 0 : Word).getLsbD j = (c.bt && decide (j = 15)) := getLsbD_bitIf c.bt 15 j hj
  have hlow : ((c.b ||| s.codeHits).setWidth 32).getLsbD j = true ↔ j < 4 ∧ (c.b.getLsbD j = true ∨ breaksHere s j) := by
    rw [BitVec.getLsbD_setWidth, decide_eq_true hj, Bool.true_and, BitVec.getLsbD_or, Bool.or_eq_true]
    by_cases h4 : j < 4
    · rw [getLsbD_codeHits s j h4]
      exact (and_iff_right h4).symm
    · simp [h4, BitVec.getLsbD_of_ge _ _ (Nat.not_lt.mp h4)]
  simp only [State.noteDebug, BitVec.getLsbD_or, hbd, hbs, hbt, Bool.or_eq_true, hlow, Bool.and_eq_true, decide_eq_true_eq, or_assoc,
    and_comm (a := c.bd = true), and_comm (a := c.bs = true), and_comm (a := c.bt = true)]

/-- Of the debug registers the beginning of a delivery changes what a debug exception notes (R1491). -/
theorem begun_dr (ev : Event) (s : State) :
    (begun ev s).dr = if ev.vec = 1 ∧ ev.kind = .exc then (s.noteDebug (ev.dbg.getD .none)).dr else s.dr := by
  unfold begun
  split_ifs <;> rfl

/-- Settles O34. -/
theorem debugAndTestRegisters : Obligations.DebugAndTestRegisters := by
  refine ⟨fun n r s h => ⟨fun hn hde => movDr_faults r (checkDr_missing h ⟨hn, hde⟩), fun hn hgd hss => movDr_faults r (checkDr_detect h hn hgd hss),
    fun hn hgd => ?_⟩, fun n r s i hi => ?_, fun ev s => ⟨fun c hv hk hc => ?_, fun h => ?_⟩⟩
  · obtain ⟨hfrom, hto⟩ := movDr_run r (checkDr_passes h hn hgd)
    refine ⟨?_, ?_, ?_, ?_, ?_, ?_⟩
    · rintro rfl
      exact ⟨hfrom, hto⟩
    · rintro rfl
      exact ⟨hfrom, hto⟩
    · rintro rfl
      exact ⟨hfrom, hto⟩
    · rintro rfl
      exact ⟨hfrom, hto⟩
    · rintro (rfl | rfl)
      · exact ⟨hfrom, _, hto, getLsbD_dr6 _⟩
      · exact ⟨hfrom, _, hto, getLsbD_dr6 _⟩
    · rintro (rfl | rfl)
      · exact ⟨hfrom, _, hto, getLsbD_dr7 _⟩
      · exact ⟨hfrom, _, hto, getLsbD_dr7 _⟩
  · have hbody : exec i s = runInstr ud s := by
      rcases hi with rfl | rfl <;> rfl
    have hfault : Faults i s ud6 s.enter := faults_of_run hbody rfl rfl
    refine ⟨hfault, fun slots s1 hc hr => ?_⟩
    rw [hfault hc, rollback_enter]
    exact realDelivered_of_ready _ hr
  · refine ⟨(s.noteDebug c).dr.dr6, ?_, noteDebug_dr6 s c⟩
    rw [begun_dr, if_pos ⟨hv, hk⟩, hc]
    rfl
  · rw [begun_dr, if_neg h]

end Sys2Proof.Laws

end
end

section
/-! Table registers, LDTR, TR and the machine status word (46_system_io.md R900 to R911). -/

noncomputable section

namespace Sys2Proof.Laws

open Sys2Proof Sys2Proof.Machine Sys2Proof.Claims

/-! ## Reads of the processor's own -/

theorem OnlyAccess.os_eq {s t : State} (h : OnlyAccess s t) : t.os = s.os := by
  rw [h]
  rfl

theorem OnlyAccess.sameTables {s t : State} (h : OnlyAccess s t) : SameTables s t := by
  rw [h]
  exact ⟨rfl, rfl, rfl⟩

theorem accessIf_checksOnly (sz : Size) (sr : SReg) (off : Word) (n : Nat) (ok : Nat → Bool) (k : Kind) :
    ChecksOnly (accessIf sz sr off n ok k) :=
  .bind (checkIf_checksOnly ..) fun _ => .bind (noteRange_checksOnly ..) fun _ => .pure _

theorem sysRead32_checksOnly (lin : Word) : ChecksOnly (sysRead32 lin) :=
  .bind (.bind (linAddrs_checksOnly ..) fun _ => load_checksOnly _) fun _ => .pure _

theorem readDescAt_checksOnly (lin : Word) : ChecksOnly (readDescAt lin) :=
  .bind (sysRead32_checksOnly _) fun _ => .bind (sysRead32_checksOnly _) fun _ => .pure _

/-- A locked read-modify-write does what `BitsSet` says (R241, R1545). -/
theorem setBits_bitsSet (ps : List Word) (m : Word) (s : State) : ∃ t, setBits ps m s = .ok () t ∧ BitsSet ps m s t := by
  obtain ⟨v, n, l, hload, -⟩ := load_effect ps s
  obtain ⟨t, ht, hst⟩ := store_stored ps (BitVec.ofNat 32 v ||| m).toNat { s with draws := n, bus := l }
  exact ⟨t, (bind_of_ok hload).trans ht, v, _, hload, hst⟩

/-! ## Pseudo-descriptors -/

/-- The base of a 16-bit LGDT or LIDT is cut to 24 bits (R900). -/
theorem tableBase_eq (sz : Size) (n : Nat) : (match sz with
    | .s16 => BitVec.ofNat 32 n &&& 0x00FFFFFF
    | .s32 => BitVec.ofNat 32 n) = BitVec.ofNat 32 (if sz = .s16 then n % 2 ^ 24 else n) := by
  cases sz with
  | s16 =>
    refine BitVec.eq_of_toNat_eq ((Nat.and_two_pow_sub_one_eq_mod _ 24).trans ?_)
    rw [BitVec.toNat_ofNat, BitVec.toNat_ofNat, if_pos rfl]
    omega
  | s32 => rfl

/-- The operand of LGDT and LIDT. -/
theorem readTable_run {m : MemOp} {s s1 s2 : State} {ps : List Word} {v : Nat} (h : levelOf s = 0)
    (hacc : accessIf s.as (s.eaSeg m) (s.eaOff m) 6 pseudoAligned .r s.enter = .ok ps s1) (hload : load ps s1 = .ok v s2) :
    readTable m s.enter = .ok
      { limit := BitVec.ofNat 16 v, base := BitVec.ofNat 32 (if s.os = .s16 then v / 2 ^ 16 % 2 ^ 24 else v / 2 ^ 16) } s2 := by
  have hos : s2.os = s.os := ((accessIf_checksOnly _ _ _ _ _ _ hacc).trans (load_checksOnly _ hload)).os_eq
  rw [readTable, bind_of_ok (privileged_passes h), bind_of_ok (show pseudoAccess m .r s.enter = _ from hacc), bind_of_ok hload, get_bind,
    ← tableBase_eq, ← hos]
  rfl

theorem storeTable_run {m : MemOp} {s s1 : State} {ps : List Word} (t : TableReg)
    (hacc : accessIf s.as (s.eaSeg m) (s.eaOff m) 6 pseudoAligned .w s.enter = .ok ps s1) :
    ∃ u, Stored ps (t.limit.toNat + 2 ^ 16 * t.base.toNat) s1 u ∧ storeTable m t s.enter = .ok () u := by
  obtain ⟨u, hu, hst⟩ := store_stored ps (t.limit.toNat + 2 ^ 16 * t.base.toNat) s1
  exact ⟨u, hst, (bind_of_ok (show pseudoAccess m .w s.enter = _ from hacc)).trans hu⟩

/-! ## Selectors stored -/

theorem exec_sldt (rm : RM) (s : State) : exec (.sldtRm16 rm) s = runInstr (protOnly >>= fun _ => get >>= fun s => storeSel rm s.ldtr.sel) s := rfl
theorem exec_str (rm : RM) (s : State) : exec (.strRm16 rm) s = runInstr (protOnly >>= fun _ => get >>= fun s => storeSel rm s.tr.sel) s := rfl

theorem protOnly_passes {s : State} (h : s.prot = true) : protOnly s.enter = .ok () s.enter := (protOnly_run s.enter).trans (if_pos h)
theorem protOnly_fails {s : State} (h : s.prot = false) : protOnly s.enter = .error (.exc ud6) s.enter :=
  (protOnly_run s.enter).trans (if_neg (by rw [show s.enter.prot = s.prot from rfl, h]; exact Bool.false_ne_true))

/-- A 32-bit register is zero-extended (D61). -/
theorem storeSel_reg (r : Reg) (v : Half) {s : State} (hos : s.os = .s32) :
    storeSel (.reg r) v s = .ok () { s with regs := s.regs.set r (v.setWidth 32) } := by
  rw [storeSel, get_bind, hos]
  exact writeReg32_run r _ s

/-- Any other operand takes 16 bits. -/
theorem storeSel_place {rm : RM} (v : Half) {s s1 : State} {p : Place} (hrm : (∃ m, rm = .mem m) ∨ s.os = .s16)
    (hloc : locate 16 rm .w s = .ok p s1) : ∃ t, PutAt p 16 v s1 t ∧ storeSel rm v s = .ok () t := by
  obtain ⟨t, ht, hput⟩ := writeRM_run (v := v) hloc
  refine ⟨t, hput, ?_⟩
  have hw : storeSel rm v s = writeRM 16 rm v s := by
    rcases hrm with ⟨m, rfl⟩ | hos
    · rfl
    · rw [storeSel, get_bind, hos]
      cases rm <;> rfl
  rw [hw, ht]

/-- SMSW to a 32-bit register: the upper half is open (R911). -/
theorem smsw_reg (r : Reg) {s : State} (hos : s.os = .s32) : ∃ (x : Half) (n : Nat),
    Ran (.smswRm16 (.reg r)) s { s.enter with draws := n, regs := s.regs.set r (x ++ s.cr.cr0.setWidth 16) } := by
  refine ⟨Config.draw 16 s.draws, s.draws + 1, ran_of_run (show execSmswRm16 (.reg r) s = _ from rfl) ?_⟩
  rw [get_bind, show s.enter.os = .s32 from hos]
  exact writeReg32_run r _ { s.enter with draws := s.draws + 1 }

theorem smsw_place {rm : RM} {s s1 : State} {p : Place} (hrm : (∃ m, rm = .mem m) ∨ s.os = .s16) (hloc : locate 16 rm .w s.enter = .ok p s1) :
    ∃ t, PutAt p 16 (s.cr.cr0.setWidth 16) s1 t ∧ Ran (.smswRm16 rm) s t := by
  obtain ⟨t, ht, hput⟩ := writeRM_run (v := s.cr.cr0.setWidth 16) hloc
  refine ⟨t, hput, ran_of_run (show execSmswRm16 rm s = _ from rfl) (Eq.trans ?_ ht)⟩
  rcases hrm with ⟨m, rfl⟩ | hos
  · rfl
  · rw [get_bind, show s.enter.os = .s16 from hos]
    cases rm <;> rfl

/-! ## LLDT and LTR -/

theorem exec_lldt (rm : RM) (s : State) : exec (.lldtRm16 rm) s =
    runInstr (protOnly >>= fun _ => privileged >>= fun _ => readRM 16 rm >>= fun sel => loadLdt sel) s := rfl
theorem exec_ltr (rm : RM) (s : State) : exec (.ltrRm16 rm) s =
    runInstr (protOnly >>= fun _ => privileged >>= fun _ => readRM 16 rm >>= fun sel => loadTr sel) s := rfl

theorem isSystem_iff (d : Desc) (t : BitVec 4) : d.isSystem t = true ↔ d.hi.getLsbD 12 = false ∧ d.typ = t := by
  rw [Desc.isSystem, Bool.and_eq_true, Bool.not_eq_true', beq_iff_eq]
  rfl

/-- A null selector has the error code 0. -/
theorem selCode_null {sel : Half} (h : sel.toNat < 4) : selCode sel = 0 := by
  rw [selCode_eq, Nat.div_eq_of_lt h, Nat.zero_mul]
  rfl

section
variable {sel : Half} {s : State}

theorem loadLdt_null (h : sel.toNat < 4) : loadLdt sel s = .ok () { s with ldtr := { s.ldtr with sel := sel, usable := false } } := by
  rw [loadLdt, isNull_eq, decide_eq_true h]
  rfl

theorem loadTr_null (h : sel.toNat < 4) : loadTr sel s = .error (.exc gp0) s := by
  rw [loadTr, isNull_eq, decide_eq_true h, selCode_null h]
  rfl

section
variable (h : 4 ≤ sel.toNat)
include h

/-- A selector of the LDT, or one outside its table. -/
theorem loadSystem_out (hbad : sel.getLsbD 2 = true ∨ inTable s sel = false) :
    loadLdt sel s = .error (.exc (selFault 13 sel)) s ∧ loadTr sel s = .error (.exc (selFault 13 sel)) s := by
  have hnull : isNull sel = false := by rw [isNull_eq, decide_eq_false (Nat.not_lt.mpr h)]
  rw [loadLdt, loadTr, hnull, if_neg Bool.false_ne_true, selTi, bit, selFault_eq]
  cases hti : sel.getLsbD 2 with
  | true => exact ⟨rfl, rfl⟩
  | false =>
    have hout : readDesc sel (gp (selCode sel)) s = .error (.exc { vec := 13, code := some (selCode sel), dbg := none }) s :=
      readDesc_out (hbad.resolve_left (by rw [hti]; exact Bool.false_ne_true)) rfl
    exact ⟨(bind_of_ok rfl).trans (bind_of_error hout), (bind_of_ok rfl).trans (bind_of_error hout)⟩

variable (hti : sel.getLsbD 2 = false) (hin : inTable s sel = true) {d : Desc} {s3 : State} (hd : readDescAt (descLinear s sel) s = .ok d s3)
include hti hin hd

/-- What LLDT checks once the descriptor was read (R904). -/
theorem loadLdt_named : loadLdt sel s = (require (d.isSystem 2) (gp (selCode sel)) >>= fun _ => require d.p (np (selCode sel)) >>= fun _ =>
    modify fun s => { s with ldtr := d.toSeg sel } : M Unit) s3 := by
  have hnull : isNull sel = false := by rw [isNull_eq, decide_eq_false (Nat.not_lt.mpr h)]
  rw [loadLdt, hnull, if_neg Bool.false_ne_true, selTi, bit, hti, Bool.not_false, require_true, pure_bind]
  exact bind_of_ok ((readDesc_in hin).trans hd)

/-- What LTR checks, and then does (R906). -/
theorem loadTr_named : loadTr sel s = (require (d.isSystem 1 || d.isSystem 9) (gp (selCode sel)) >>= fun _ =>
    require d.p (np (selCode sel)) >>= fun _ => linAddrs (d.addr + 4) 4 (.system true) >>= fun ps => setBits ps 0x200 >>= fun _ =>
    modify fun s => { s with tr := ({ d with hi := d.hi ||| 0x200 } : Desc).toSeg sel } : M Unit) s3 := by
  have hnull : isNull sel = false := by rw [isNull_eq, decide_eq_false (Nat.not_lt.mpr h)]
  rw [loadTr, hnull, selTi, bit, hti]
  exact bind_of_ok ((readDesc_in hin).trans hd)

end

end

section
variable {rm : RM} {s s1 s2 : State} {p : Place} {sel : BitVec 16}
variable (hp : s.prot = true) (hc : s.cpl = 0) (hloc : locate 16 rm .r s.enter = .ok p s1) (hget : p.get 16 s1 = .ok sel s2)
include hp hc

theorem levelOf_prot_zero : levelOf s = 0 := by
  obtain ⟨hpe, hvm⟩ : s.pe = true ∧ s.flags.vm = false := by simpa [State.prot] using hp
  rw [levelOf, hpe, hvm, hc]
  rfl

include hloc hget

theorem ran_lldt {t : State} (h : loadLdt sel s2 = .ok () t) : Ran (.lldtRm16 rm) s t :=
  ran_of_run (exec_lldt rm s) ((bind_of_ok (protOnly_passes hp)).trans ((bind_of_ok (privileged_passes (levelOf_prot_zero hp hc))).trans
    ((bind_of_ok (readRM_run hloc hget)).trans h)))

theorem ran_ltr {t : State} (h : loadTr sel s2 = .ok () t) : Ran (.ltrRm16 rm) s t :=
  ran_of_run (exec_ltr rm s) ((bind_of_ok (protOnly_passes hp)).trans ((bind_of_ok (privileged_passes (levelOf_prot_zero hp hc))).trans
    ((bind_of_ok (readRM_run hloc hget)).trans h)))

theorem faults_lldt {e : Exc} {t : State} (h : loadLdt sel s2 = .error (.exc e) t) (ht : OnlyAccess s2 t) : Faults (.lldtRm16 rm) s e t :=
  faults_of_run (exec_lldt rm s) ((bind_of_ok (protOnly_passes hp)).trans ((bind_of_ok (privileged_passes (levelOf_prot_zero hp hc))).trans
    ((bind_of_ok (readRM_run hloc hget)).trans h)))
    (((locate_checksOnly _ _ _ hloc).trans (place_get_checksOnly _ _ hget)).trans ht).committed_eq

theorem faults_ltr {e : Exc} {t : State} (h : loadTr sel s2 = .error (.exc e) t) (ht : OnlyAccess s2 t) : Faults (.ltrRm16 rm) s e t :=
  faults_of_run (exec_ltr rm s) ((bind_of_ok (protOnly_passes hp)).trans ((bind_of_ok (privileged_passes (levelOf_prot_zero hp hc))).trans
    ((bind_of_ok (readRM_run hloc hget)).trans h)))
    (((locate_checksOnly _ _ _ hloc).trans (place_get_checksOnly _ _ hget)).trans ht).committed_eq

end

/-- Settles O32. -/
theorem systemTableRegisters : Obligations.SystemTableRegisters := by
  refine ⟨fun m s ps s1 v s2 h hacc hload => ?_, fun m s ps s1 hacc => ⟨?_, ?_⟩, fun r s hos => ⟨fun hp => ⟨?_, ?_⟩, smsw_reg r hos⟩,
    fun rm s p s1 hrm hloc => ⟨fun hp => ⟨?_, ?_⟩, smsw_place hrm hloc⟩, fun rm s hp => ⟨?_, ?_, ?_, ?_⟩,
    fun rm s p s1 sel s2 hp hc hloc hget => ?_⟩
  · have hread := readTable_run h hacc hload
    exact ⟨ran_of_run (show execLgdtM m s = _ from rfl) (bind_of_ok hread), ran_of_run (show execLidtM m s = _ from rfl) (bind_of_ok hread)⟩
  · obtain ⟨u, hst, hu⟩ := storeTable_run s.gdtr hacc
    exact ⟨u, hst, ran_of_run (show execSgdtM m s = _ from rfl) hu⟩
  · obtain ⟨u, hst, hu⟩ := storeTable_run s.idtr hacc
    exact ⟨u, hst, ran_of_run (show execSidtM m s = _ from rfl) hu⟩
  · exact ran_of_run (exec_sldt _ s) ((bind_of_ok (protOnly_passes hp)).trans (storeSel_reg r s.ldtr.sel (s := s.enter) hos))
  · exact ran_of_run (exec_str _ s) ((bind_of_ok (protOnly_passes hp)).trans (storeSel_reg r s.tr.sel (s := s.enter) hos))
  · obtain ⟨t, hput, ht⟩ := storeSel_place s.ldtr.sel (s := s.enter) hrm hloc
    exact ⟨t, hput, ran_of_run (exec_sldt _ s) ((bind_of_ok (protOnly_passes hp)).trans ht)⟩
  · obtain ⟨t, hput, ht⟩ := storeSel_place s.tr.sel (s := s.enter) hrm hloc
    exact ⟨t, hput, ran_of_run (exec_str _ s) ((bind_of_ok (protOnly_passes hp)).trans ht)⟩
  · exact faults_of_run (exec_sldt rm s) (bind_of_error (protOnly_fails hp)) rfl
  · exact faults_of_run (exec_str rm s) (bind_of_error (protOnly_fails hp)) rfl
  · exact faults_of_run (exec_lldt rm s) (bind_of_error (protOnly_fails hp)) rfl
  · exact faults_of_run (exec_ltr rm s) (bind_of_error (protOnly_fails hp)) rfl
  · have hs : SameTables s s2 := ((locate_checksOnly _ _ _ hloc).trans (place_get_checksOnly _ _ hget)).sameTables
    refine ⟨fun h => ⟨?_, ?_⟩, fun h hbad => ?_, fun d s3 h hti hin hd => ?_⟩
    · exact ran_lldt hp hc hloc hget (loadLdt_null h)
    · exact faults_ltr hp hc hloc hget (loadTr_null h) (.refl _)
    · rw [← hs.inTable] at hbad
      obtain ⟨hl, ht⟩ := loadSystem_out h hbad
      exact ⟨faults_lldt hp hc hloc hget hl (.refl _), faults_ltr hp hc hloc hget ht (.refl _)⟩
    · rw [← hs.inTable] at hin
      rw [← hs.descLinear] at hd
      have hacc : OnlyAccess s2 s3 := readDescAt_checksOnly _ hd
      have hl := loadLdt_named h hti hin hd
      have ht := loadTr_named h hti hin hd
      have htss : (d.isSystem 1 || d.isSystem 9) = true ↔ d.hi.getLsbD 12 = false ∧ (d.typ = 1 ∨ d.typ = 9) := by
        rw [Bool.or_eq_true, isSystem_iff, isSystem_iff, and_or_left]
      have hpres : d.p = d.hi.getLsbD 15 := rfl
      refine ⟨fun hno => ?_, fun hno => ?_, fun hyes hp' => ?_, fun hyes hp' => ?_, fun hyes hp' => ?_, fun hyes hp' ps s4 hlin => ?_⟩
      · refine faults_lldt hp hc hloc hget (hl.trans ?_) hacc
        rw [guard_gp, if_neg (mt (isSystem_iff d 2).mp hno), selFault_eq]
      · refine faults_ltr hp hc hloc hget (ht.trans ?_) hacc
        rw [guard_gp, if_neg (mt htss.mp hno), selFault_eq]
      · refine faults_lldt hp hc hloc hget (hl.trans ?_) hacc
        rw [guard_gp, if_pos ((isSystem_iff d 2).mpr hyes), guard_np, hpres, if_neg hp', selFault_eq]
      · refine faults_ltr hp hc hloc hget (ht.trans ?_) hacc
        rw [guard_gp, if_pos (htss.mpr hyes), guard_np, hpres, if_neg hp', selFault_eq]
      · refine ran_lldt hp hc hloc hget (hl.trans ?_)
        rw [guard_gp, if_pos ((isSystem_iff d 2).mpr hyes), guard_np, hpres, if_pos hp']
        rfl
      · obtain ⟨u, hu, hbits⟩ := setBits_bitsSet ps 0x200 s4
        refine ⟨u, hbits, ran_ltr hp hc hloc hget (ht.trans ?_)⟩
        rw [guard_gp, if_pos (htss.mpr hyes), guard_np, hpres, if_pos hp']
        exact (bind_of_ok hlin).trans (bind_of_ok hu)

end Sys2Proof.Laws

end
end

section
/-! Pointer validation (46_system_io.md R920 to R924). -/

noncomputable section

namespace Sys2Proof.Laws

open Sys2Proof Sys2Proof.Machine Sys2Proof.Claims

/-! ## What may be probed -/

theorem reachable_iff {s u : State} (d : Desc) (sel : Half) (hc : u.cpl = s.cpl) : d.reachable u.cpl sel = true ↔ probeable s d sel := by
  have hconf : d.conforming = true ↔ d.hi.getLsbD 12 = true ∧ d.hi.getLsbD 11 = true ∧ d.hi.getLsbD 10 = true := by
    simp [Desc.conforming, Desc.isCode, Desc.s, Attr.isCode, Attr.bitC, Desc.attr, Desc.typ, bit, and_assoc]
  rw [Desc.reachable, Bool.or_eq_true, Bool.and_eq_true, hconf, ult_iff, ult_iff, rpl_toNat, hc]
  rfl

/-- The types that LAR accepts (R921). -/
theorem larValid_iff (d : Desc) : larValid d = true ↔ d.hi.getLsbD 12 = true ∨ d.typ = 1 ∨ d.typ = 2 ∨ d.typ = 3 ∨ d.typ = 4 ∨ d.typ = 5 ∨
    d.typ = 9 ∨ d.typ = 11 ∨ d.typ = 12 := by
  simp only [larValid, Bool.or_eq_true, beq_iff_eq, or_assoc]
  rfl

theorem lslValid_iff (d : Desc) : lslValid d = true ↔ d.hi.getLsbD 12 = true ∨ d.typ = 2 ∨ d.typ = 9 ∨ d.typ = 11 := by
  simp only [lslValid, Bool.or_eq_true, beq_iff_eq, or_assoc]
  rfl

theorem readable_iff (d : Desc) : (d.s && d.readable) = true ↔ d.hi.getLsbD 12 = true ∧ (¬ d.hi.getLsbD 11 = true ∨ d.hi.getLsbD 9 = true) := by
  simp [Desc.readable, Desc.s, Attr.isCode, Attr.bitR, Desc.attr, Desc.typ, bit]

theorem writable_iff_bits (d : Desc) : (d.s && d.writable) = true ↔
    d.hi.getLsbD 12 = true ∧ ¬ d.hi.getLsbD 11 = true ∧ d.hi.getLsbD 9 = true := by
  simp [Desc.writable, Desc.isData, Desc.s, Attr.isCode, Attr.bitR, Desc.attr, Desc.typ, bit, and_assoc]

/-! ## Probing -/

section
variable {sel : Half} {s : State}

theorem probe_none (h : sel.toNat < 4 ∨ inTable s sel = false) : probe sel s = .ok none s := by
  have hout : (isNull sel || !inTable s sel) = true := by
    rw [isNull_eq, Bool.or_eq_true, decide_eq_true_iff, Bool.not_eq_true']
    exact h
  rw [probe, get_bind, if_pos hout]
  rfl

theorem probe_some (h : 4 ≤ sel.toNat) (hin : inTable s sel = true) {d : Desc} {t : State} (hd : readDescAt (descLinear s sel) s = .ok d t) :
    probe sel s = .ok (some d) t := by
  have hin' : ¬ (isNull sel || !inTable s sel) = true := by
    rw [isNull_eq, Bool.or_eq_true, decide_eq_true_iff, Bool.not_eq_true', hin]
    exact fun h' => h'.elim (Nat.not_lt.mpr h) nofun
  rw [probe, get_bind, if_neg hin', bind_of_ok hd]
  rfl

end

section
variable {rm : RM} {sel : Half} {s s2 s3 : State} (hp : s.prot = true) (hread : readRM 16 rm s.enter = .ok sel s2)
include hp hread

theorem validate_none {ok : Desc → Bool} {val : Desc → M Word} {r : Reg} {w : Nat} (hprobe : probe sel s2 = .ok none s3) :
    validate ok val rm r w s.enter = .ok () { s3 with flags := { s3.flags with zf := false } } := by
  rw [validate, bind_of_ok (protOnly_passes hp), bind_of_ok hread, get_bind, bind_of_ok hprobe]
  rfl

theorem verify_run {ok : Desc → Bool} {d : Option Desc} (hprobe : probe sel s2 = .ok d s3) : verify ok rm s.enter =
    .ok () { s3 with flags := { s3.flags with zf := d.any fun d => d.s && ok d && d.reachable s2.cpl sel } } := by
  rw [verify, bind_of_ok (protOnly_passes hp), bind_of_ok hread, get_bind, bind_of_ok hprobe]
  rfl

variable {d : Desc} (hprobe : probe sel s2 = .ok (some d) s3)
include hprobe

theorem validate_ok {ok : Desc → Bool} {val : Desc → M Word} {r : Reg} {w : Nat} {v : Word} {s4 : State}
    (hok : (ok d && d.reachable s2.cpl sel) = true) (hv : val d s3 = .ok v s4) : validate ok val rm r w s.enter =
      .ok () { s4 with flags := { s4.flags with zf := true }, regs := s4.regs.write w r (v.setWidth w) } := by
  rw [validate, bind_of_ok (protOnly_passes hp), bind_of_ok hread, get_bind, bind_of_ok hprobe]
  dsimp only
  rw [if_pos hok, bind_of_ok hv]
  rfl

theorem validate_refused {ok : Desc → Bool} {val : Desc → M Word} {r : Reg} {w : Nat} (hok : ¬ (ok d && d.reachable s2.cpl sel) = true) :
    validate ok val rm r w s.enter = .ok () { s3 with flags := { s3.flags with zf := false } } := by
  rw [validate, bind_of_ok (protOnly_passes hp), bind_of_ok hread, get_bind, bind_of_ok hprobe]
  dsimp only
  rw [if_neg hok]
  rfl

end

/-! ## ARPL -/

theorem withRpl_eq (d v : Half) : withRpl d (rpl v) = BitVec.ofNat 16 (d.toNat / 4 * 4 + v.toNat % 4) := by
  have hd := d.isLt
  refine BitVec.eq_of_toNat_eq ?_
  rw [withRpl, toNat_append_eq, rpl_toNat, BitVec.extractLsb'_toNat, Nat.shiftRight_eq_div_pow, BitVec.toNat_ofNat]
  omega

/-! ## The instructions -/

theorem exec_lar (rm : RM) (r : Reg) (s : State) : exec (.larRRm16 rm r) s = runInstr (atOs (validate larValid larValue rm r)) s := rfl
theorem exec_lsl (rm : RM) (r : Reg) (s : State) : exec (.lslRRm16 rm r) s = runInstr (atOs (validate lslValid (fun d => pure d.limit) rm r)) s := rfl
theorem exec_verr (rm : RM) (s : State) : exec (.verrRm16 rm) s = runInstr (verify (fun d => d.readable) rm) s := rfl
theorem exec_verw (rm : RM) (s : State) : exec (.verwRm16 rm) s = runInstr (verify (fun d => d.writable) rm) s := rfl
theorem exec_arpl (rm : RM) (r : Reg) (s : State) : exec (.arplRm16R16 rm r) s = runInstr (adjustRpl rm r) s := rfl

/-- What LAR stores: bits 19 to 16 are open (R921). -/
theorem larValue_run (d : Desc) (s : State) : ∃ (x : Word), larValue d s = .ok x { s with draws := s.draws + 1 } ∧
    ∀ j, j < 32 → (j < 16 ∨ 20 ≤ j) → x.getLsbD j = (d.hi &&& 0x00F0FF00).getLsbD j := by
  refine ⟨(d.hi &&& 0x00F0FF00) ||| ((Config.draw 4 s.draws).setWidth 32 <<< 16), rfl, fun j hj hout => ?_⟩
  rw [BitVec.getLsbD_or, BitVec.getLsbD_shiftLeft, BitVec.getLsbD_setWidth]
  rcases hout with h | h
  · rw [decide_eq_true h, Bool.not_true, Bool.and_false, Bool.false_and, Bool.or_false]
    rfl
  · rw [BitVec.getLsbD_of_ge (Config.draw 4 s.draws) (j - 16) (by omega), Bool.and_false, Bool.and_false, Bool.or_false]
    rfl

theorem outside_prot_faults {rm : RM} {r : Reg} {s : State} (hp : s.prot = false) {i : Instr}
    (hi : i ∈ ([.larRRm16 rm r, .lslRRm16 rm r, .verrRm16 rm, .verwRm16 rm, .arplRm16R16 rm r] : List Instr)) : Faults i s ud6 s.enter := by
  simp only [List.mem_cons, List.not_mem_nil, or_false] at hi
  rcases hi with rfl | rfl | rfl | rfl | rfl
  · exact faults_of_run (exec_lar rm r s) ((atOs_run _ _).trans (bind_of_error (protOnly_fails hp))) rfl
  · exact faults_of_run (exec_lsl rm r s) ((atOs_run _ _).trans (bind_of_error (protOnly_fails hp))) rfl
  · exact faults_of_run (exec_verr rm s) (bind_of_error (protOnly_fails hp)) rfl
  · exact faults_of_run (exec_verw rm s) (bind_of_error (protOnly_fails hp)) rfl
  · exact faults_of_run (exec_arpl rm r s) (bind_of_error (protOnly_fails hp)) rfl

/-- A selector that names no descriptor: ZF = 0 (R920). -/
theorem ran_of_unnamed {rm : RM} {r : Reg} {sel : Half} {s s2 : State} (hp : s.prot = true) (hread : readRM 16 rm s.enter = .ok sel s2)
    (hprobe : probe sel s2 = .ok none s2) {i : Instr} (hi : i ∈ ([.larRRm16 rm r, .lslRRm16 rm r, .verrRm16 rm, .verwRm16 rm] : List Instr)) :
    Ran i s { s2 with flags := { s2.flags with zf := false } } := by
  simp only [List.mem_cons, List.not_mem_nil, or_false] at hi
  rcases hi with rfl | rfl | rfl | rfl
  · exact ran_of_run (exec_lar rm r s) (validate_none hp hread hprobe)
  · exact ran_of_run (exec_lsl rm r s) (validate_none hp hread hprobe)
  · exact ran_of_run (exec_verr rm s) (verify_run hp hread hprobe)
  · exact ran_of_run (exec_verw rm s) (verify_run hp hread hprobe)

/-- VERR or VERW of a named descriptor. -/
theorem verify_named {rm : RM} {sel : Half} {s s2 s3 : State} {d : Desc} {ok : Desc → Bool} {i : Instr} {P : Prop} (hp : s.prot = true)
    (hread : readRM 16 rm s.enter = .ok sel s2) (hprobe : probe sel s2 = .ok (some d) s3) (hi : exec i s = runInstr (verify ok rm) s)
    (hP : (d.s && ok d && d.reachable s2.cpl sel) = true ↔ P) :
    (P → Ran i s { s3 with flags := { s3.flags with zf := true } }) ∧ (¬ P → Ran i s { s3 with flags := { s3.flags with zf := false } }) := by
  have hrun := verify_run (ok := ok) hp hread hprobe
  refine ⟨fun h => ?_, fun h => ?_⟩
  · rw [← hP] at h
    rw [Option.any_some, h] at hrun
    exact ran_of_run hi hrun
  · rw [← hP, Bool.not_eq_true] at h
    rw [Option.any_some, h] at hrun
    exact ran_of_run hi hrun

/-- Settles O36. -/
theorem pointerValidation : Obligations.PointerValidation := by
  refine ⟨fun rm r s hp i hi => outside_prot_faults hp hi, fun rm r s p s1 sel s2 hp hloc hget => ?_, fun rm r s p s1 d s2 hp hloc hget => ?_⟩
  · have hread := readRM_run hloc hget
    have hacc : OnlyAccess s.enter s2 := (locate_checksOnly _ _ _ hloc).trans (place_get_checksOnly _ _ hget)
    have hs : SameTables s s2 := hacc.sameTables
    have hcpl : s2.cpl = s.cpl := hs.2.2
    refine ⟨fun h i hi => ran_of_unnamed hp hread (probe_none (by rwa [hs.inTable])) hi, fun d s3 h hin hd => ?_⟩
    have hprobe := probe_some h (by rwa [hs.inTable]) (by rwa [hs.descLinear])
    obtain ⟨x, hx, hbits⟩ := larValue_run d s3
    have hlar : (larValid d && d.reachable s2.cpl sel) = true ↔ _ := Bool.and_eq_true_iff.trans (and_congr (larValid_iff d) (reachable_iff d sel hcpl))
    have hlsl : (lslValid d && d.reachable s2.cpl sel) = true ↔ _ := Bool.and_eq_true_iff.trans (and_congr (lslValid_iff d) (reachable_iff d sel hcpl))
    obtain ⟨hr1, hr2⟩ := verify_named hp hread hprobe (exec_verr rm s)
      (Bool.and_eq_true_iff.trans ((and_congr (readable_iff d) (reachable_iff d sel hcpl)).trans and_assoc))
    obtain ⟨hw1, hw2⟩ := verify_named hp hread hprobe (exec_verw rm s)
      (Bool.and_eq_true_iff.trans ((and_congr (writable_iff_bits d) (reachable_iff d sel hcpl)).trans (by rw [and_assoc, and_assoc])))
    refine ⟨fun ho => ?_, fun ho => ?_, fun ho => ?_, fun ho => ?_, hr1, hr2, hw1, hw2⟩
    · exact ⟨s3.draws + 1, x, ran_of_run (exec_lar rm r s) (validate_ok hp hread hprobe (hlar.mpr ho) hx), hbits⟩
    · exact ran_of_run (exec_lar rm r s) (validate_refused hp hread hprobe (mt hlar.mp ho))
    · exact ran_of_run (exec_lsl rm r s) (validate_ok hp hread hprobe (hlsl.mpr ho) rfl)
    · exact ran_of_run (exec_lsl rm r s) (validate_refused hp hread hprobe (mt hlsl.mp ho))
  · have hbody : adjustRpl rm r s.enter = (if (rpl d).ult (rpl (s2.regs.read 16 r)) then
        setZf true >>= fun _ => p.put 16 (withRpl d (rpl (s2.regs.read 16 r))) else setZf false : M Unit) s2 := by
      rw [adjustRpl, bind_of_ok (protOnly_passes hp), bind_of_ok hloc, bind_of_ok hget, bind_of_ok (readReg_run _ _ _)]
    have hult : (rpl d).ult (rpl (s2.regs.read 16 r)) = decide (d.toNat % 4 < (s2.regs.read 16 r).toNat % 4) := by
      rw [BitVec.ult, rpl_toNat, rpl_toNat]
    rw [hult] at hbody
    refine ⟨fun h => ?_, fun h => ?_⟩
    · rw [if_pos (decide_eq_true h), withRpl_eq] at hbody
      obtain ⟨t, ht, hput⟩ := place_put_putAt p 16 (BitVec.ofNat 16 (d.toNat / 4 * 4 + (s2.regs.read 16 r).toNat % 4))
        { s2 with flags := { s2.flags with zf := true } }
      exact ⟨t, hput, ran_of_run (exec_arpl rm r s) (hbody.trans ht)⟩
    · rw [if_neg (by simpa using h)] at hbody
      exact ran_of_run (exec_arpl rm r s) hbody

end Sys2Proof.Laws

end
end

section
/-! Operands of two parts and the instructions on procedure frames (43_control_transfer.md R745, R750, R751). -/

noncomputable section

namespace Sys2Proof.Laws

open Sys2Proof Sys2Proof.Machine Sys2Proof.Claims

/-! ## Operands of two parts -/

theorem OnlyAccess.as_eq {s t : State} (h : OnlyAccess s t) : t.as = s.as := by
  rw [h]
  rfl

theorem OnlyAccess.eaSeg_eq {s t : State} (h : OnlyAccess s t) (m : MemOp) : t.eaSeg m = s.eaSeg m := by
  rw [h]
  rfl

theorem OnlyAccess.eaOff_eq {s t : State} (h : OnlyAccess s t) (m : MemOp) : t.eaOff m = s.eaOff m := by
  rw [h]
  rfl

theorem readMem_run {m : MemOp} {n v : Nat} {s s1 s2 : State} {ps : List Word} (h : access s.as (s.eaSeg m) (s.eaOff m) n n .r s = .ok ps s1)
    (hl : load ps s1 = .ok v s2) : readMem m n n s = .ok v s2 :=
  (bind_of_ok (a := ps) (t := s1) h).trans hl

/-- An operand in two parts (R520, R745). -/
theorem readTwice_run {m : MemOp} {n k v w : Nat} {s t : State} (h : ReadTwice m n k s s.enter v w t) :
    ∃ u, OnlyAccess s.enter t ∧ readMem m n n s.enter = .ok v u ∧ readAbove m n k u = .ok w t := by
  obtain ⟨ps, s1, s2, qs, s3, ha, hl, hroom, ha', hl'⟩ := h
  have hacc : OnlyAccess s.enter s2 := (access_checksOnly _ _ _ _ _ _ ha).trans (load_checksOnly _ hl)
  refine ⟨s2, hacc.trans ((access_checksOnly _ _ _ _ _ _ ha').trans (load_checksOnly _ hl')), readMem_run ha hl, ?_⟩
  have has : s2.as = s.as := hacc.as_eq
  have hseg : s2.eaSeg m = s.eaSeg m := hacc.eaSeg_eq m
  have hoff : s2.eaOff m = s.eaOff m := hacc.eaOff_eq m
  rw [readAbove, get_bind, has, hseg, hoff, decide_eq_true hroom, require_true]
  exact memRead_run ha' hl'

/-- An operand whose second part runs past the last offset (R211). -/
theorem readPast_run {m : MemOp} {n k : Nat} {s t : State} (h : ReadPast m n k s s.enter t) :
    ∃ v, OnlyAccess s.enter t ∧ readMem m n n s.enter = .ok v t ∧ readAbove m n k t = .error (.exc (limitFault (s.eaSeg m))) t := by
  obtain ⟨ps, s1, v, ha, hl, hroom⟩ := h
  have hacc : OnlyAccess s.enter t := (access_checksOnly _ _ _ _ _ _ ha).trans (load_checksOnly _ hl)
  have has : t.as = s.as := hacc.as_eq
  have hseg : t.eaSeg m = s.eaSeg m := hacc.eaSeg_eq m
  have hoff : t.eaOff m = s.eaOff m := hacc.eaOff_eq m
  refine ⟨v, hacc, readMem_run ha hl, ?_⟩
  rw [← hseg]
  exact readAbove_past (by rw [has, hoff]; exact hroom)

/-! ## BOUND -/

theorem ran_of_bound {m : MemOp} {r : Reg} {s s2 : State} {v w : Nat} (h : ReadTwice m s.os.bytes s.os.bytes s s.enter v w s2)
    (hlo : (BitVec.ofNat s.os.bits v).toInt ≤ (s.regs.read s.os.bits r).toInt)
    (hhi : (s.regs.read s.os.bits r).toInt ≤ (BitVec.ofNat s.os.bits w).toInt) : Ran (.boundRM m r) s s2 := by
  obtain ⟨u, hacc, hv, hw⟩ := readTwice_run h
  have hregs : s2.regs = s.regs := hacc.regs_eq
  refine ran_of_run (body := atOs (boundCheck m r)) rfl ?_
  rw [atOs_run, boundCheck, show s.enter.os = s.os from rfl, bytes_eq, bind_of_ok hv, bind_of_ok hw, bind_of_ok (readReg_run ..), hregs,
    require_run, decide_eq_true hlo, decide_eq_true hhi]
  rfl

theorem faults_of_bound {m : MemOp} {r : Reg} {s s2 : State} {v w : Nat} (h : ReadTwice m s.os.bytes s.os.bytes s s.enter v w s2)
    (hx : (s.regs.read s.os.bits r).toInt < (BitVec.ofNat s.os.bits v).toInt ∨
      (BitVec.ofNat s.os.bits w).toInt < (s.regs.read s.os.bits r).toInt) : Faults (.boundRM m r) s { vec := 5, code := none, dbg := none } s2 := by
  obtain ⟨u, hacc, hv, hw⟩ := readTwice_run h
  have hregs : s2.regs = s.regs := hacc.regs_eq
  have hout : (decide ((BitVec.ofNat s.os.bits v).toInt ≤ (s.regs.read s.os.bits r).toInt) &&
      decide ((s.regs.read s.os.bits r).toInt ≤ (BitVec.ofNat s.os.bits w).toInt)) = false := by
    rw [Bool.and_eq_false_iff, decide_eq_false_iff_not, decide_eq_false_iff_not, not_le, not_le]
    exact hx
  refine faults_of_run (body := atOs (boundCheck m r)) rfl ?_ hacc.committed_eq
  rw [atOs_run, boundCheck, show s.enter.os = s.os from rfl, bytes_eq, bind_of_ok hv, bind_of_ok hw, bind_of_ok (readReg_run ..), hregs,
    require_run, hout]
  rfl

theorem faults_of_bound_past {m : MemOp} {r : Reg} {s t : State} (h : ReadPast m s.os.bytes s.os.bytes s s.enter t) :
    Faults (.boundRM m r) s (limitFault (s.eaSeg m)) t := by
  obtain ⟨v, hacc, hv, hw⟩ := readPast_run h
  refine faults_of_run (body := atOs (boundCheck m r)) rfl ?_ hacc.committed_eq
  rw [atOs_run, boundCheck, show s.enter.os = s.os from rfl, bytes_eq, bind_of_ok hv, bind_of_error hw]

/-! ## ENTER -/

theorem onlyAccess_of_stored {ps : List Word} {v : Nat} {s t : State} (h : Stored ps v s t) : OnlyAccess s t := by
  obtain ⟨ht, -⟩ := h
  rw [ht]
  rfl

theorem onlyAccess_of_storedAll {pss : List (List Word)} {vs : List Nat} {s t : State} (h : StoredAll pss vs s t) : OnlyAccess s t := by
  induction pss generalizing vs s with
  | nil => exact h ▸ .refl s
  | cons ps pss ih =>
    cases vs with
    | nil => exact h ▸ .refl s
    | cons v vs =>
      obtain ⟨m, hm, hrest⟩ := h
      exact (onlyAccess_of_stored hm).trans (ih hrest)

theorem copyAll_copied (ps : List (List Word × List Word)) (s : State) : ∃ t, copyAll ps s = .ok () t ∧ Copied ps s t ∧ OnlyAccess s t := by
  induction ps generalizing s with
  | nil => exact ⟨s, rfl, rfl, .refl s⟩
  | cons p ps ih =>
    obtain ⟨src, dst⟩ := p
    obtain ⟨v, n, l, hv, -⟩ := load_effect src s
    obtain ⟨u, hu, hstored⟩ := store_stored dst v { s with draws := n, bus := l }
    obtain ⟨t, ht, hcopied, hacc⟩ := ih u
    exact ⟨t, by rw [copyAll, bind_of_ok hv, bind_of_ok hu, ht], ⟨v, _, u, hv, hstored, hcopied⟩,
      (load_checksOnly _ hv).trans ((onlyAccess_of_stored hstored).trans hacc)⟩

theorem wrapSp_sub_mul (sz : Size) (a : Word) (n k : Nat) :
    wrapSp sz (wrapSp sz (a - BitVec.ofNat 32 (n * k)) - BitVec.ofNat 32 n) = wrapSp sz (a - BitVec.ofNat 32 (n * (k + 1))) := by
  rw [wrapSp_sub, BitVec.sub_sub, Nat.mul_succ, BitVec.ofNat_add]

/-- The places of the copies, counted from the frame pointer and the top of the stack instead of one from the other (R750). -/
theorem copySlots_run {s : State} {n c k : Nat} {u t : State} {copies : List (List Word × List Word)} (h : CopySlots s n c (k + 1) u copies t) :
    copySlots s.ss n c (wrapSp s.ss (s.bpOff - BitVec.ofNat 32 (n * k))) (wrapSp s.ss (s.spOff - BitVec.ofNat 32 (n * (k + 1)))) u = .ok copies t := by
  induction c generalizing k u copies with
  | zero =>
    obtain ⟨rfl, rfl⟩ := h
    rfl
  | succ c ih =>
    obtain ⟨src, s1, dst, s2, rest, rfl, hsrc, hdst, hrest⟩ := h
    rw [copySlots, wrapSp_sub_mul, wrapSp_sub_mul, bind_of_ok hsrc, bind_of_ok hdst, bind_of_ok (ih hrest)]
    rfl

theorem copySlots_checksOnly (sz : Size) (n c : Nat) (b t : Word) : ChecksOnly (copySlots sz n c b t) := by
  induction c generalizing b t with
  | zero => exact .pure _
  | succ c ih => exact .bind (access_checksOnly ..) fun _ => .bind (access_checksOnly ..) fun _ => .bind (ih ..) fun _ => .pure _

theorem wrapSp_bpOff (s : State) (n : Nat) : wrapSp s.ss (s.bpOff - BitVec.ofNat 32 (n * 0)) = s.bpOff := by
  show wrapSp s.ss (wrapSp s.ss s.regs.ebp - BitVec.ofNat 32 0) = wrapSp s.ss s.regs.ebp
  rw [wrapSp_sub, BitVec.sub_zero]

theorem setSp_wrapSp_run {sz : Size} {s : State} (h : sz = s.ss) (v : Word) : setSp (wrapSp sz v) s = .ok () (withSp s v) := by
  rw [setSp_run, h, withSp_wrapSp]

/-- The registers that ENTER sets at its end (R750). -/
theorem setFrame_run {sz : Size} {s : State} (h : sz = s.ss) (os : Size) (bp frame sp : Word) :
    (do writeReg sz.bits .ebp (bp.setWidth sz.bits); writeReg os.bits .ebp (frame.setWidth os.bits); setSp (wrapSp sz sp) : M Unit) s =
      let x : State := { s with regs := s.regs.write sz.bits .ebp (bp.setWidth sz.bits) }
      .ok () (withSp { x with regs := x.regs.write os.bits .ebp (frame.setWidth os.bits) } sp) := by
  subst h
  rw [bind_of_ok (writeReg_run ..), bind_of_ok (writeReg_run ..)]
  exact setSp_wrapSp_run rfl sp

theorem ran_of_enter {storage : BitVec 16} {level : BitVec 8} {s s1 s2 s3 : State} {first : List Word} {copies : List (List Word × List Word)}
    {last : List (List Word)} {n lvl : Nat} {frame : Word} {down : Word → Nat → Word} (hn : n = s.os.bytes) (hlvl : lvl = level.toNat % 32)
    (hdown : ∀ a k, down a k = wrapSp s.ss (a - BitVec.ofNat 32 (n * k))) (hframe : frame = down s.spOff 1)
    (hf : access s.ss .ss frame n n .w s.enter = .ok first s1) (hc : CopySlots s n (lvl - 1) 1 s1 copies s2)
    (hp : pushSlots s.ss n (down frame (lvl - 1)) (min lvl 1) s2 = .ok last s3) :
    ∃ u v w, Stored first (s.regs.read s.os.bits .ebp).toNat s3 u ∧ Copied copies u v ∧ StoredAll last [frame.toNat] v w ∧
      let x : State := { w with regs := w.regs.write s.ss.bits .ebp ((down s.bpOff (lvl - 1)).setWidth s.ss.bits) }
      Ran (.enterImm16Imm8 storage level) s
        (withSp { x with regs := x.regs.write s.os.bits .ebp (frame.setWidth s.os.bits) } (down frame lvl - storage.setWidth 32)) := by
  obtain rfl : down = fun a k => wrapSp s.ss (a - BitVec.ofNat 32 (n * k)) := funext fun a => funext fun k => hdown a k
  subst hn hlvl hframe
  obtain ⟨u, hu, hstored⟩ := store_stored first (s.regs.read s.os.bits .ebp).toNat s3
  obtain ⟨v, hv, hcopied, hacc⟩ := copyAll_copied copies u
  obtain ⟨w, hw, hlast⟩ := storeAll_storedAll last [(wrapSp s.ss (s.spOff - BitVec.ofNat 32 (s.os.bytes * 1))).toNat] v
  have hcopies := copySlots_run hc
  rw [wrapSp_bpOff] at hcopies
  have hwhole : OnlyAccess s.enter w := (access_checksOnly _ _ _ _ _ _ hf).trans ((copySlots_checksOnly _ _ _ _ _ hcopies).trans
    ((pushSlots_checksOnly _ _ _ _ hp).trans ((onlyAccess_of_stored hstored).trans (hacc.trans (onlyAccess_of_storedAll hlast)))))
  have hss : s.ss = w.ss := hwhole.ss_eq.symm
  refine ⟨u, v, w, hstored, hcopied, hlast, ran_of_run (body := atOs (enterFrame storage level)) rfl ?_⟩
  rw [atOs_run, show s.enter.os = s.os from rfl, enterFrame, get_bind, bytes_eq]
  refine (bind_of_ok hf).trans <| (bind_of_ok hcopies).trans <| (bind_of_ok hp).trans <| (bind_of_ok hu).trans <| (bind_of_ok hv).trans <|
    (bind_of_ok hw).trans ?_
  exact setFrame_run hss s.os _ _ _

/-! ## LEAVE -/

theorem ran_of_leave {s s1 s2 : State} {ps : List Word} {v : Nat} (ha : access s.ss .ss s.bpOff s.os.bytes s.os.bytes .r s.enter = .ok ps s1)
    (hl : load ps s1 = .ok v s2) :
    let u := withSp s2 (s.bpOff + BitVec.ofNat 32 s.os.bytes)
    Ran .leave s { u with regs := u.regs.write s.os.bits .ebp (BitVec.ofNat s.os.bits v) } := by
  have hacc : OnlyAccess s.enter s2 := (access_checksOnly _ _ _ _ _ _ ha).trans (load_checksOnly _ hl)
  have hss : s.enter.ss = s2.ss := hacc.ss_eq.symm
  refine ran_of_run (body := atOs leaveFrame) rfl ?_
  rw [atOs_run, leaveFrame, get_bind, show s.enter.os = s.os from rfl, bytes_eq]
  refine (bind_of_ok (memRead_run ha hl)).trans <| (bind_of_ok (setSp_wrapSp_run hss _)).trans ?_
  exact writeReg_run ..

/-- Settles O29. -/
theorem procedureFrames : Obligations.ProcedureFrames := by
  refine ⟨fun m r s v w s2 h => ⟨fun ⟨hlo, hhi⟩ => ran_of_bound h hlo hhi, faults_of_bound h⟩, fun m r s t h => faults_of_bound_past h, ?_,
    fun s ps s1 v s2 ha hl => ran_of_leave ha hl⟩
  intro storage level s first s1 copies s2 last s3 n lvl down frame hf hc hp
  exact ran_of_enter (down := down) rfl rfl (fun _ _ => rfl) rfl hf hc hp

end Sys2Proof.Laws

end
end

section
/-! String instructions: one step, with or without a repeat prefix (44_string.md R760 to R767). -/

noncomputable section

namespace Sys2Proof.Laws

open Sys2Proof Sys2Proof.Machine Sys2Proof.Claims

/-! ## Registers at the address size -/

theorem and_low_half (x : Word) : x &&& 0xFFFF = (x.setWidth 16).setWidth 32 := and_FFFF x

theorem read_bits (g : GRegs) (sz : Size) (r : Reg) : g.read sz.bits r = (g.get r).setWidth sz.bits := if_neg (bits_ne_eight sz)

theorem asReg_eq (s : State) (r : Reg) : s.asReg r = (s.regs.read s.as.bits r).setWidth 32 := by
  rw [read_bits, State.asReg]
  cases s.as with
  | s16 => exact and_low_half _
  | s32 => exact (BitVec.setWidth_eq _).symm

theorem counter_eq (s : State) : s.counter = (s.regs.read s.as.bits .ecx).setWidth 32 := asReg_eq s .ecx

theorem setWidth_add_word {sz : Size} (x : BitVec sz.bits) (d : Word) : (x.setWidth 32 + d).setWidth sz.bits = x + d.setWidth sz.bits := by
  rw [BitVec.setWidth_add _ _ (bits_le sz).2, setWidth_word_setWidth]

theorem setWidth_ofNat_word (sz : Size) (n : Nat) : (BitVec.ofNat 32 n).setWidth sz.bits = BitVec.ofNat sz.bits n := by
  cases sz with
  | s16 => exact BitVec.setWidth_ofNat_of_le (by decide) n
  | s32 => exact BitVec.setWidth_eq _

theorem setWidth_neg_word (sz : Size) (n : Nat) : (0 - BitVec.ofNat 32 n).setWidth sz.bits = -BitVec.ofNat sz.bits n := by
  rw [show (0 : Word) - BitVec.ofNat 32 n = -BitVec.ofNat 32 n from BitVec.zero_sub _, BitVec.setWidth_neg_of_le (bits_le sz).2, setWidth_ofNat_word]

theorem counter_pred (s : State) : (s.counter - 1).setWidth s.as.bits = s.regs.read s.as.bits .ecx - 1 := by
  rw [counter_eq, BitVec.sub_eq_add_neg, setWidth_add_word, BitVec.sub_eq_add_neg]
  exact congrArg _ ((BitVec.setWidth_neg_of_le (bits_le s.as).2).trans (congrArg _ (setWidth_ofNat_word s.as 1)))

theorem get_write_ne {g : GRegs} {sz : Size} {q r : Reg} (v : BitVec sz.bits) (h : q ≠ r) : (g.write sz.bits r v).get q = g.get q := by
  rw [GRegs.write, if_neg (bits_ne_eight sz)]
  split
  · exact gregs_get_set_ne _ _ _ _ h
  · exact gregs_get_set_ne _ _ _ _ h

theorem get_write_eax {g : GRegs} {w : Nat} {q : Reg} (v : BitVec w) (h : q ≠ .eax) : (g.write w .eax v).get q = g.get q := by
  rw [GRegs.write]
  split
  · cases q with
    | eax => exact absurd rfl h
    | _ => rfl
  · split
    · exact gregs_get_set_ne _ _ _ _ h
    · exact gregs_get_set_ne _ _ _ _ h

theorem setWidth_mergeLow16 (old : Word) (v : Half) : (mergeLow16 old (v.setWidth 16)).setWidth 16 = v := by
  refine BitVec.eq_of_getLsbD_eq fun i hi => ?_
  rw [BitVec.getLsbD_setWidth, getLsbD_mergeLow16, if_pos hi, BitVec.setWidth_eq, decide_eq_true hi, Bool.true_and]

theorem reg_read_write_same {g : GRegs} {sz : Size} {r : Reg} (v : BitVec sz.bits) : (g.write sz.bits r v).read sz.bits r = v := by
  rw [read_bits, GRegs.write, if_neg (bits_ne_eight sz)]
  cases sz with
  | s16 =>
    rw [if_pos (show Size.s16.bits = 16 from rfl), gregs_get_set]
    exact setWidth_mergeLow16 _ v
  | s32 =>
    rw [if_neg (by decide), gregs_get_set]
    exact setWidth_word_setWidth v

/-! ## One iteration -/

/-- (E)SI or (E)DI moves from where it stood at the start (R761). -/
theorem advance_run {s u : State} {r : Reg} (n : Nat) (has : u.as = s.as) (hr : u.regs.get r = s.regs.get r) (hdf : u.flags.df = s.flags.df) :
    advance r n u = .ok () (stepIndex s u r n) := by
  have hreg : u.regs.read s.as.bits r = s.regs.read s.as.bits r := by rw [read_bits, read_bits, hr]
  rw [advance, get_bind, writeReg_run, stepIndex, asReg_eq, setWidth_add_word, has, hreg, State.delta, hdf]
  cases s.flags.df with
  | false => rw [if_neg (by decide), if_neg (by decide), setWidth_ofNat_word]
  | true => rw [if_pos rfl, if_pos rfl, setWidth_neg_word, ← BitVec.sub_eq_add_neg]

theorem setCounter_run {s : State} {sz : Size} (h : s.as = sz) (v : Word) :
    setCounter v s = .ok () { s with regs := s.regs.write sz.bits .ecx (v.setWidth sz.bits) } := by
  subst h
  rfl

theorem ends_iff {t : State} {scan : Bool} {r : Rep} (sz : Size) (c : BitVec sz.bits) (u : State) (hc : t.counter = c.setWidth 32) (hf : t.flags = u.flags) :
    (decide (t.counter = 0) || (scan && r.ends t.flags)) = true ↔
      c = 0 ∨ (scan = true ∧ r = .rep ∧ u.flags.zf = false) ∨ (scan = true ∧ r = .repne ∧ u.flags.zf = true) := by
  rw [Bool.or_eq_true, decide_eq_true_iff, hc, setWidth_word_eq_zero, hf, Bool.and_eq_true]
  cases r <;> simp [Rep.ends]

section
variable {scan late : Bool} {body : M Unit} {s u : State} {io : Option Word}

/-- With a repeat prefix and a counter of 0 nothing happens (R760). -/
theorem repeated_none (hrep : s.cur.rep ≠ none) (hc : s.counter = 0) :
    repeated scan late body { s.enter with lastIo := io } = .ok () { s.enter with lastIo := io } := by
  obtain ⟨r, hr⟩ := Option.ne_none_iff_exists'.mp hrep
  rw [repeated, get_bind, show State.cur { s.enter with lastIo := io } = s.cur from rfl, hr,
    show State.counter { s.enter with lastIo := io } = s.counter from rfl, hc]
  rfl

theorem startEip_iter (s : State) (io : Option Word) : State.startEip { s.enter with lastIo := io } = s.eip := BitVec.add_sub_cancel _ _

/-- An iteration ends as R760 says. -/
theorem repeated_run (hit : iterates s) (has : u.as = s.as) (hb : body { s.enter with lastIo := io } = .ok () u) :
    repeated scan late body { s.enter with lastIo := io } = .ok () (iterEnd scan late s u) := by
  rw [repeated, get_bind, show State.cur { s.enter with lastIo := io } = s.cur from rfl, iterEnd]
  cases hr : s.cur.rep with
  | none => exact hb
  | some r =>
    have hne : s.counter ≠ 0 := hit.resolve_left (by rw [hr]; exact Option.some_ne_none r)
    have hset := setCounter_run has (s.counter - 1)
    rw [counter_pred] at hset
    dsimp only
    rw [show State.counter { s.enter with lastIo := io } = s.counter from rfl, if_neg hne, bind_of_ok hb, bind_of_ok hset, get_bind, startEip_iter]
    have hcount : State.counter { u with regs := u.regs.write s.as.bits .ecx (s.regs.read s.as.bits .ecx - 1) } =
        (s.regs.read s.as.bits .ecx - 1).setWidth 32 := by
      rw [counter_eq, show State.as { u with regs := u.regs.write s.as.bits .ecx (s.regs.read s.as.bits .ecx - 1) } = s.as from has,
        reg_read_write_same]
    have hends := ends_iff (scan := scan) (r := r) s.as _ u hcount rfl
    split <;> rename_i h
    · rw [if_pos (hends.mp h)]
      rfl
    · rw [if_neg (mt hends.mpr h)]
      rfl

end

theorem repeated_run_enter {scan late : Bool} {body : M Unit} {s u : State} (hit : iterates s) (has : u.as = s.as) (hb : body s.enter = .ok () u) :
    repeated scan late body s.enter = .ok () (iterEnd scan late s u) := repeated_run (io := none) hit has hb

/-- One iteration of a string instruction at the width of the byte form or of the operand size. -/
theorem ran_iteration {i : Instr} {f : Nat → M Unit} {scan late byte : Bool} {s u : State}
    (hi : exec i s = runInstr (repeated scan late (atWidth byte f)) s) (hit : iterates s) (has : u.as = s.as) (hb : f (width byte s) s.enter = .ok () u) :
    Ran i s (iterEnd scan late s u) :=
  ran_of_run hi (repeated_run_enter hit has ((atWidth_run byte f s).trans hb))

/-! ## The five instructions -/

section
variable {s s1 s2 s3 s4 : State} {ps qs : List Word} {v x w : Nat}

theorem flags_sub_df {n : Nat} (f : Flags) (a b : BitVec n) (c : Bool) : (f.sub a b c).df = f.df := by
  rw [Flags.sub, Flags.subNoCarry, Flags.szp]

theorem movsOnce_run (ha : access s.as (s.segOr .ds) (s.asReg .esi) (w / 8) (w / 8) .r s = .ok ps s1) (hl : load ps s1 = .ok v s2)
    (hd : access s.as .es (s.asReg .edi) (w / 8) (w / 8) .w s2 = .ok qs s3) :
    ∃ u, Stored qs v s3 u ∧ OnlyAccess s u ∧ movsOnce w s = .ok () (stepIndex s (stepIndex s u .esi (w / 8)) .edi (w / 8)) := by
  obtain ⟨u, hu, hstored⟩ := store_stored qs v s3
  have hacc : OnlyAccess s u := (access_checksOnly _ _ _ _ _ _ ha).trans ((load_checksOnly _ hl).trans
    ((access_checksOnly _ _ _ _ _ _ hd).trans (onlyAccess_of_stored hstored)))
  have hdf : u.flags.df = s.flags.df := congrArg Flags.df hacc.flags_eq
  refine ⟨u, hstored, hacc, (bind_of_ok (memRead_run ha hl)).trans <| (bind_of_ok ((bind_of_ok hd).trans hu)).trans <|
    (bind_of_ok (advance_run _ (by exact hacc.as_eq) (by exact congrArg (GRegs.get · .esi) hacc.regs_eq) (by exact hdf))).trans ?_⟩
  exact advance_run _ hacc.as_eq ((get_write_ne _ (by decide)).trans (congrArg (GRegs.get · .edi) hacc.regs_eq)) (by exact hdf)

theorem cmpsOnce_run (ha : access s.as (s.segOr .ds) (s.asReg .esi) (w / 8) (w / 8) .r s = .ok ps s1) (hl : load ps s1 = .ok v s2)
    (hd : access s.as .es (s.asReg .edi) (w / 8) (w / 8) .r s2 = .ok qs s3) (hx : load qs s3 = .ok x s4) :
    OnlyAccess s s4 ∧ cmpsOnce w s = .ok () (stepIndex s (stepIndex s
      { s4 with flags := s.flags.sub (BitVec.ofNat w v) (BitVec.ofNat w x) false } .esi (w / 8)) .edi (w / 8)) := by
  have hacc : OnlyAccess s s4 := (access_checksOnly _ _ _ _ _ _ ha).trans ((load_checksOnly _ hl).trans
    ((access_checksOnly _ _ _ _ _ _ hd).trans (load_checksOnly _ hx)))
  have hdf : s4.flags.df = s.flags.df := congrArg Flags.df hacc.flags_eq
  have hsub := (flags_sub_df s4.flags (BitVec.ofNat w v) (BitVec.ofNat w x) false).trans hdf
  rw [← hacc.flags_eq]
  refine ⟨hacc, (bind_of_ok (memRead_run ha hl)).trans <| (bind_of_ok (memRead_run hd hx)).trans <| (bind_of_ok (modifyFlags_run ..)).trans <|
    (bind_of_ok (advance_run _ (by exact hacc.as_eq) (by exact congrArg (GRegs.get · .esi) hacc.regs_eq) (by exact hsub))).trans ?_⟩
  exact advance_run _ hacc.as_eq ((get_write_ne _ (by decide)).trans (congrArg (GRegs.get · .edi) hacc.regs_eq)) (by exact hsub)

theorem scasOnce_run (ha : access s.as .es (s.asReg .edi) (w / 8) (w / 8) .r s = .ok ps s1) (hl : load ps s1 = .ok v s2) :
    OnlyAccess s s2 ∧ scasOnce w s = .ok () (stepIndex s { s2 with flags := s.flags.sub (s.regs.read w .eax) (BitVec.ofNat w v) false } .edi (w / 8)) := by
  have hacc : OnlyAccess s s2 := (access_checksOnly _ _ _ _ _ _ ha).trans (load_checksOnly _ hl)
  have hsub := (flags_sub_df s2.flags (s2.regs.read w .eax) (BitVec.ofNat w v) false).trans (congrArg Flags.df hacc.flags_eq)
  rw [← hacc.flags_eq, ← hacc.regs_eq]
  refine ⟨hacc, (bind_of_ok (memRead_run ha hl)).trans <| (bind_of_ok (readReg_run ..)).trans <| (bind_of_ok (modifyFlags_run ..)).trans ?_⟩
  exact advance_run _ hacc.as_eq (congrArg (GRegs.get · .edi) hacc.regs_eq) hsub

theorem lodsOnce_run (ha : access s.as (s.segOr .ds) (s.asReg .esi) (w / 8) (w / 8) .r s = .ok ps s1) (hl : load ps s1 = .ok v s2) :
    OnlyAccess s s2 ∧ lodsOnce w s = .ok () (stepIndex s { s2 with regs := s2.regs.write w .eax (BitVec.ofNat w v) } .esi (w / 8)) := by
  have hacc : OnlyAccess s s2 := (access_checksOnly _ _ _ _ _ _ ha).trans (load_checksOnly _ hl)
  refine ⟨hacc, (bind_of_ok (memRead_run ha hl)).trans <| (bind_of_ok (writeReg_run ..)).trans ?_⟩
  exact advance_run _ hacc.as_eq ((get_write_eax _ (by decide)).trans (congrArg (GRegs.get · .esi) hacc.regs_eq)) (congrArg Flags.df hacc.flags_eq)

theorem stosOnce_run (ha : access s.as .es (s.asReg .edi) (w / 8) (w / 8) .w s = .ok ps s1) :
    ∃ u, Stored ps (s.regs.read w .eax).toNat s1 u ∧ OnlyAccess s u ∧ stosOnce w s = .ok () (stepIndex s u .edi (w / 8)) := by
  obtain ⟨u, hu, hstored⟩ := store_stored ps (s.regs.read w .eax).toNat s1
  have hacc : OnlyAccess s u := (access_checksOnly _ _ _ _ _ _ ha).trans (onlyAccess_of_stored hstored)
  rw [stosOnce, get_bind]
  refine ⟨u, hstored, hacc, (bind_of_ok (readReg_run w .eax s)).trans <| (bind_of_ok ((bind_of_ok ha).trans hu)).trans ?_⟩
  exact advance_run _ hacc.as_eq (congrArg (GRegs.get · .edi) hacc.regs_eq) (congrArg Flags.df hacc.flags_eq)

end

section
variable {byte : Bool} {s s1 s2 s3 s4 : State} {ps qs : List Word} {v x n : Nat}

theorem ran_movs (hit : iterates s) (hn : n = width byte s / 8)
    (ha : access s.as (s.segOr .ds) (s.asReg .esi) n n .r s.enter = .ok ps s1) (hl : load ps s1 = .ok v s2)
    (hd : access s.as .es (s.asReg .edi) n n .w s2 = .ok qs s3) :
    ∃ u, Stored qs v s3 u ∧ Ran (if byte then .movsb else .movsw) s (iterEnd false true s (stepIndex s (stepIndex s u .esi n) .edi n)) := by
  subst hn
  obtain ⟨u, hstored, hacc, hrun⟩ := movsOnce_run (s := s.enter) (w := width byte s) ha hl hd
  exact ⟨u, hstored, ran_iteration (by cases byte <;> rfl) hit hacc.as_eq hrun⟩

theorem ran_cmps (hit : iterates s) (hn : n = width byte s / 8)
    (ha : access s.as (s.segOr .ds) (s.asReg .esi) n n .r s.enter = .ok ps s1) (hl : load ps s1 = .ok v s2)
    (hd : access s.as .es (s.asReg .edi) n n .r s2 = .ok qs s3) (hx : load qs s3 = .ok x s4) :
    Ran (if byte then .cmpsb else .cmpsw) s (iterEnd true false s (stepIndex s (stepIndex s
      { s4 with flags := s.flags.sub (BitVec.ofNat (width byte s) v) (BitVec.ofNat (width byte s) x) false } .esi n) .edi n)) := by
  subst hn
  obtain ⟨hacc, hrun⟩ := cmpsOnce_run (s := s.enter) (w := width byte s) ha hl hd hx
  exact ran_iteration (by cases byte <;> rfl) hit hacc.as_eq hrun

theorem ran_scas (hit : iterates s) (hn : n = width byte s / 8)
    (ha : access s.as .es (s.asReg .edi) n n .r s.enter = .ok ps s1) (hl : load ps s1 = .ok v s2) :
    Ran (if byte then .scasb else .scasw) s (iterEnd true false s (stepIndex s
      { s2 with flags := s.flags.sub (s.regs.read (width byte s) .eax) (BitVec.ofNat (width byte s) v) false } .edi n)) := by
  subst hn
  obtain ⟨hacc, hrun⟩ := scasOnce_run (s := s.enter) (w := width byte s) ha hl
  exact ran_iteration (by cases byte <;> rfl) hit hacc.as_eq hrun

theorem ran_lods (hit : iterates s) (hn : n = width byte s / 8)
    (ha : access s.as (s.segOr .ds) (s.asReg .esi) n n .r s.enter = .ok ps s1) (hl : load ps s1 = .ok v s2) :
    Ran (if byte then .lodsb else .lodsw) s (iterEnd false false s (stepIndex s
      { s2 with regs := s2.regs.write (width byte s) .eax (BitVec.ofNat (width byte s) v) } .esi n)) := by
  subst hn
  obtain ⟨hacc, hrun⟩ := lodsOnce_run (s := s.enter) (w := width byte s) ha hl
  exact ran_iteration (by cases byte <;> rfl) hit hacc.as_eq hrun

theorem ran_stos (hit : iterates s) (hn : n = width byte s / 8) (ha : access s.as .es (s.asReg .edi) n n .w s.enter = .ok ps s1) :
    ∃ u, Stored ps (s.regs.read (width byte s) .eax).toNat s1 u ∧
      Ran (if byte then .stosb else .stosw) s (iterEnd false true s (stepIndex s u .edi n)) := by
  subst hn
  obtain ⟨u, hstored, hacc, hrun⟩ := stosOnce_run (s := s.enter) (w := width byte s) ha
  exact ⟨u, hstored, ran_iteration (by cases byte <;> rfl) hit hacc.as_eq hrun⟩

end

theorem strings_decode (os as : Size) :
    decodeOne os as [0xA4] = .ok .movsb [] ∧ decodeOne os as [0xA5] = .ok .movsw [] ∧ decodeOne os as [0xA6] = .ok .cmpsb [] ∧
    decodeOne os as [0xA7] = .ok .cmpsw [] ∧ decodeOne os as [0xAA] = .ok .stosb [] ∧ decodeOne os as [0xAB] = .ok .stosw [] ∧
    decodeOne os as [0xAC] = .ok .lodsb [] ∧ decodeOne os as [0xAD] = .ok .lodsw [] ∧ decodeOne os as [0xAE] = .ok .scasb [] ∧
    decodeOne os as [0xAF] = .ok .scasw [] :=
  ⟨rfl, rfl, rfl, rfl, rfl, rfl, rfl, rfl, rfl, rfl⟩

theorem ran_string_none {s : State} (hrep : s.cur.rep ≠ none) (hc : s.counter = 0) :
    ∀ i ∈ ([.movsb, .movsw, .cmpsb, .cmpsw, .stosb, .stosw, .lodsb, .lodsw, .scasb, .scasw] : List Instr), Ran i s s.enter := by
  have hran {i : Instr} {scan late : Bool} {body : M Unit} (hi : exec i s = runInstr (repeated scan late body) s) : Ran i s s.enter :=
    ran_of_run hi (repeated_none (io := none) hrep hc)
  simp only [List.forall_mem_cons, List.not_mem_nil, false_implies, implies_true, and_true]
  exact ⟨hran rfl, hran rfl, hran rfl, hran rfl, hran rfl, hran rfl, hran rfl, hran rfl, hran rfl, hran rfl⟩

/-- Settles O30. -/
theorem stringIteration : Obligations.StringIteration :=
  ⟨strings_decode, fun _ hrep hc => ran_string_none hrep hc, fun _ _ hit =>
    ⟨fun _ _ _ _ _ _ ha hl hd => ran_movs hit rfl ha hl hd, fun _ _ _ _ _ _ _ _ ha hl hd hx => ran_cmps hit rfl ha hl hd hx,
      fun _ _ _ _ ha hl => ran_scas hit rfl ha hl, fun _ _ _ _ ha hl => ran_lods hit rfl ha hl, fun _ _ ha => ran_stos hit rfl ha⟩⟩

end Sys2Proof.Laws

end
end

section
/-! What an access notes of the breakpoints that watch it (64_debug.md R1483 to R1489). -/

noncomputable section

namespace Sys2Proof.Laws

open Sys2Proof Sys2Proof.Machine Sys2Proof.Claims

/-- The latch `c'` is `c` after the breakpoints that `p` names were matched. -/
def Matched (d : DbgRegs) (p : Nat → Prop) (c c' : Latch) : Prop :=
  noted c c' ∧ (∀ j, j < 4 → (c'.hits.getLsbD j = true ↔ c.hits.getLsbD j = true ∨ p j)) ∧
  (c'.trap = true ↔ c.trap = true ∨ ∃ j, j < 4 ∧ p j ∧ breakOn d j)

theorem breaksNoted_iff (d : DbgRegs) (size a n : Nat) (ok : Nat → Prop) (c c' : Latch) :
    breaksNoted d size a n ok c c' ↔ Matched d (fun j => watches d j size a n ok) c c' := Iff.rfl

theorem Matched.congr {d : DbgRegs} {p q : Nat → Prop} {c c' : Latch} (h : Matched d p c c') (hpq : ∀ j, j < 4 → (p j ↔ q j)) :
    Matched d q c c' := by
  obtain ⟨hnoted, hhits, htrap⟩ := h
  refine ⟨hnoted, fun j hj => (hhits j hj).trans (or_congr_right (hpq j hj)), htrap.trans (or_congr_right (exists_congr fun j => ?_))⟩
  exact and_congr_right fun hj => and_congr_left' (hpq j hj)

theorem Matched.trans {d : DbgRegs} {p q : Nat → Prop} {c c' c'' : Latch} (h : Matched d p c c') (k : Matched d q c' c'') :
    Matched d (fun j => p j ∨ q j) c c'' := by
  obtain ⟨hnoted, hhits, htrap⟩ := h
  obtain ⟨knoted, khits, ktrap⟩ := k
  refine ⟨?_, fun j hj => by rw [khits j hj, hhits j hj, or_assoc], ?_⟩
  · rw [noted, knoted, hnoted]
  · rw [ktrap, htrap, or_assoc, ← exists_or]
    exact or_congr_right (exists_congr fun j => by rw [← and_or_left, or_and_right])

/-! ## One range -/

theorem field_toNat (d : Word) (k : Nat) : (d.extractLsb' k 2).toNat = d.toNat / 2 ^ k % 4 := by
  rw [BitVec.extractLsb'_toNat, Nat.shiftRight_eq_div_pow]

/-- A unit of `k` from `a` lies in the block of `b` units that is number `q` (R1486). -/
theorem exists_unit_in_block {a k b q : Nat} (hk : 0 < k) (hb : 0 < b) : (∃ i, i < k ∧ (a + i) / b = q) ↔ q * b < a + k ∧ a < q * b + b := by
  have hdiv (x : Nat) : x / b = q ↔ q * b ≤ x ∧ x < q * b + b := by
    rw [Nat.div_eq_iff hb]
    omega
  simp only [hdiv]
  constructor
  · rintro ⟨i, hi, hlo, hhi⟩
    omega
  · rintro ⟨hlo, hhi⟩
    exact ⟨q * b - a, by omega, by omega, by omega⟩

theorem rangeMatch_iff {d : DbgRegs} {j a k : Nat} {ok : BitVec 2 → Bool} {p : Nat → Prop} (hk : 0 < k) (hok : ∀ x, ok x = true ↔ p x.toNat) :
    rangeMatch d j a k ok = true ↔ d.dr7.toNat / 2 ^ (18 + 4 * j) % 4 ≠ 2 ∧ p (d.dr7.toNat / 2 ^ (16 + 4 * j) % 4) ∧
      ∃ i, i < k ∧ (a + i) / (d.dr7.toNat / 2 ^ (18 + 4 * j) % 4 + 1) = (d.addr j).toNat / (d.dr7.toNat / 2 ^ (18 + 4 * j) % 4 + 1) := by
  have hsome (b : Nat) (hb : 0 < b) : (ok (drRw d.dr7 j) && decide ((d.addr j).toNat / b * b < a + k) && decide (a < (d.addr j).toNat / b * b + b)) =
      true ↔ p (d.dr7.toNat / 2 ^ (16 + 4 * j) % 4) ∧ ∃ i, i < k ∧ (a + i) / b = (d.addr j).toNat / b := by
    rw [exists_unit_in_block hk hb, Bool.and_eq_true, Bool.and_eq_true, decide_eq_true_iff, decide_eq_true_iff, hok, drRw, field_toNat, and_assoc]
  rw [rangeMatch, drBytes, drLen, field_toNat]
  have hlen : d.dr7.toNat / 2 ^ (18 + 4 * j) % 4 < 4 := Nat.mod_lt _ (by decide)
  generalize d.dr7.toNat / 2 ^ (18 + 4 * j) % 4 = len at hlen
  match len, hlen with
  | 0, _ => exact (hsome 1 (by decide)).trans (by simp)
  | 1, _ => exact (hsome 2 (by decide)).trans (by simp)
  | 2, _ => simp
  | 3, _ => exact (hsome 4 (by decide)).trans (by simp)

theorem drEnabled_iff (d : DbgRegs) (j : Nat) : drEnabled d.dr7 j = true ↔ breakOn d j := Bool.or_eq_true_iff

theorem noteBreaks_matched (a k : Nat) (ok : BitVec 2 → Bool) (s : State) : ∃ c, noteBreaks a k ok s = .ok () { s with cur := c } ∧
    Matched s.dr (fun j => rangeMatch s.dr j a k ok = true) s.cur c := by
  have hbits (m : Nat → Bool) (j : Nat) (hj : j < 4) : ((if m 0 then 1#4 <<< 0 else 0) ||| (if m 1 then 1#4 <<< 1 else 0) |||
      (if m 2 then 1#4 <<< 2 else 0) ||| (if m 3 then 1#4 <<< 3 else 0) : BitVec 4).getLsbD j = m j := by
    simp only [BitVec.getLsbD_or, getLsbD_bitIf _ _ _ hj]
    interval_cases j <;> simp
  rw [noteBreaks, get_bind]
  generalize hm : (fun n => rangeMatch s.dr n a k ok) = m
  have hm' (j : Nat) : rangeMatch s.dr j a k ok = m j := congrFun hm j
  simp only [hm']
  have hhits := hbits m
  generalize ((if m 0 then 1#4 <<< 0 else 0) ||| (if m 1 then 1#4 <<< 1 else 0) ||| (if m 2 then 1#4 <<< 2 else 0) |||
    (if m 3 then 1#4 <<< 3 else 0) : BitVec 4) = hits at hhits
  by_cases h : hits = 0
  · rw [if_pos h]
    refine ⟨s.cur, rfl, ?_⟩
    have hfalse (j : Nat) (hj : j < 4) : m j = false := by rw [← hhits j hj, h]; exact BitVec.getLsbD_zero
    refine ⟨rfl, fun j hj => by simp [hfalse j hj], ⟨.inl, ?_⟩⟩
    rintro (ht | ⟨j, hj, hmj, -⟩)
    · exact ht
    · rw [hfalse j hj] at hmj
      cases hmj
  · rw [if_neg h]
    refine ⟨_, rfl, rfl, fun j hj => by rw [BitVec.getLsbD_or, hhits j hj, Bool.or_eq_true], ?_⟩
    simp only [Bool.or_eq_true, Bool.and_eq_true, drEnabled_iff]
    refine or_congr_right ⟨?_, ?_⟩
    · rintro (((h | h) | h) | h)
      · exact ⟨0, by decide, h⟩
      · exact ⟨1, by decide, h⟩
      · exact ⟨2, by decide, h⟩
      · exact ⟨3, by decide, h⟩
    · rintro ⟨j, hj, h⟩
      interval_cases j <;> simp [h]

/-! ## A range that may go on at 0 -/

/-- The units of a range past the last one of the space go on at 0 (D63). -/
theorem exists_unit_wrap {size a n : Nat} (f : Nat → Prop) (ha : a < size) (hn : n ≤ size) :
    (∃ i, i < n ∧ f ((a + i) % size)) ↔
      (∃ i, i < min n (size - a) ∧ f (a + i)) ∨ ∃ i, i < n - min n (size - a) ∧ f (0 + i) := by
  constructor
  · rintro ⟨i, hi, hf⟩
    rcases Nat.lt_or_ge (a + i) size with h | h
    · exact .inl ⟨i, by omega, by rwa [Nat.mod_eq_of_lt h] at hf⟩
    · refine .inr ⟨a + i - size, by omega, ?_⟩
      rwa [Nat.mod_eq_sub_mod h, Nat.mod_eq_of_lt (by omega), ← Nat.zero_add (a + i - size)] at hf
  · rintro (⟨i, hi, hf⟩ | ⟨i, hi, hf⟩)
    · exact ⟨i, by omega, by rwa [Nat.mod_eq_of_lt (by omega)]⟩
    · refine ⟨size - a + i, by omega, ?_⟩
      rwa [show a + (size - a + i) = i + size by omega, Nat.add_mod_right, Nat.mod_eq_of_lt (by omega), ← Nat.zero_add i]

/-- What an access to `n` units from `a` notes (R1486, R1489). -/
theorem noteRange_noted {size a n : Nat} {ok : BitVec 2 → Bool} {p : Nat → Prop} (hok : ∀ x, ok x = true ↔ p x.toNat) (ha : a < size) (h0 : 0 < n)
    (hn : n ≤ size) (s : State) : ∃ c, noteRange size a n ok s = .ok () { s with cur := c } ∧ breaksNoted s.dr size a n p s.cur c := by
  obtain ⟨c, hc, hfirst⟩ := noteBreaks_matched a (min n (size - a)) ok s
  have hwatch (j : Nat) : watches s.dr j size a n p ↔ s.dr.dr7.toNat / 2 ^ (18 + 4 * j) % 4 ≠ 2 ∧ p (s.dr.dr7.toNat / 2 ^ (16 + 4 * j) % 4) ∧ _ :=
    and_congr_right fun _ => and_congr_right fun _ =>
      exists_unit_wrap (fun x => x / (s.dr.dr7.toNat / 2 ^ (18 + 4 * j) % 4 + 1) = (s.dr.addr j).toNat / (s.dr.dr7.toNat / 2 ^ (18 + 4 * j) % 4 + 1)) ha hn
  rw [noteRange, bind_of_ok hc]
  split <;> rename_i h
  · refine ⟨c, rfl, hfirst.congr fun j _ => ?_⟩
    rw [hwatch, rangeMatch_iff (by omega) hok]
    simp [h]
  · obtain ⟨c', hc', hrest⟩ := noteBreaks_matched 0 (n - min n (size - a)) ok { s with cur := c }
    refine ⟨c', hc', (hfirst.trans hrest).congr fun j _ => ?_⟩
    rw [hwatch, rangeMatch_iff (by omega) hok, rangeMatch_iff (by omega) hok, ← and_or_left, ← and_or_left]

end Sys2Proof.Laws

end
end

section
/-! Ports: the permission check, IN, OUT, INS and OUTS (46_system_io.md R940 to R949). -/

noncomputable section

namespace Sys2Proof.Laws

open Sys2Proof Sys2Proof.Machine Sys2Proof.Claims

/-! ## The permission check -/

section
variable {port : Half} {n : Nat} {s : State}

theorem ioFree_iff (s : State) : (!s.pe || (!s.flags.vm && !s.flags.iopl.ult s.cpl)) = true ↔
    s.pe = false ∨ (s.flags.vm = false ∧ s.cpl.toNat ≤ s.flags.iopl.toNat) := by
  rw [Bool.or_eq_true, Bool.not_eq_true', Bool.and_eq_true, Bool.not_eq_true', ult_iff]

theorem not_ioFree (hpe : s.pe = true) (h : s.flags.vm = true ∨ s.flags.iopl.toNat < s.cpl.toNat) :
    ¬ (!s.pe || (!s.flags.vm && !s.flags.iopl.ult s.cpl)) = true := by
  rw [ioFree_iff, hpe]
  rintro (h' | ⟨hvm, hle⟩)
  · cases h'
  · rcases h with h | h
    · rw [hvm] at h
      cases h
    · omega

theorem ioPermitted_free (port : Half) (n : Nat) (h : s.pe = false ∨ (s.flags.vm = false ∧ s.cpl.toNat ≤ s.flags.iopl.toNat)) :
    ioPermitted port n s = .ok () s := by
  rw [ioPermitted, get_bind, if_pos ((ioFree_iff s).mpr h)]
  rfl

/-- The bits of a TSS with an I/O bit map (R940). -/
def HasIoMap (s : State) : Prop := (s.tr.attr.typ = 9 ∨ s.tr.attr.typ = 11) ∧ 0x67 ≤ s.tr.limit.toNat

theorem ioPermitted_noMap (port : Half) (n : Nat) (hpe : s.pe = true) (h : s.flags.vm = true ∨ s.flags.iopl.toNat < s.cpl.toNat)
    (hmap : ¬ HasIoMap s) : ioPermitted port n s = .error (.exc gp0) s := by
  have htyp : (s.tr.attr.typ == 9 || s.tr.attr.typ == 11) = true ↔ (s.tr.attr.typ = 9 ∨ s.tr.attr.typ = 11) := by
    rw [Bool.or_eq_true, beq_iff_eq, beq_iff_eq]
  rw [ioPermitted, get_bind, if_neg (not_ioFree hpe h), guard_gp]
  by_cases ht : s.tr.attr.typ = 9 ∨ s.tr.attr.typ = 11
  · rw [if_pos (htyp.mpr ht), guard_gp, if_neg (by rw [decide_eq_true_iff]; exact fun hl => hmap ⟨ht, hl⟩)]
    rfl
  · rw [if_neg (mt htyp.mp ht)]
    rfl

/-- With a bit map: its offset is read, then the bits of the ports (R940). -/
theorem ioPermitted_map {map : Half} {s1 : State} (hpe : s.pe = true) (h : s.flags.vm = true ∨ s.flags.iopl.toNat < s.cpl.toNat)
    (hmap : HasIoMap s) (hread : tssRead16 (s.tr.base + 0x66) s = .ok map s1) :
    ioPermitted port n s = (do
      require (decide (map.toNat + port.toNat / 8 + 1 ≤ s.tr.limit.toNat)) (gp 0)
      let m ← tssRead16 (s.tr.base + BitVec.ofNat 32 (map.toNat + port.toNat / 8))
      require ((m.toNat >>> (port.toNat % 8)) % 2 ^ n == 0) (gp 0) : M Unit) s1 := by
  obtain ⟨htyp, hlimit⟩ := hmap
  rw [ioPermitted, get_bind, if_neg (not_ioFree hpe h), guard_gp, if_pos (by rwa [Bool.or_eq_true, beq_iff_eq, beq_iff_eq]), guard_gp,
    if_pos (decide_eq_true hlimit), bind_of_ok hread]

/-- The bits of `n` ports are 0. -/
theorem portBits_clear_iff (bits : Half) (k n : Nat) :
    ((bits.toNat >>> k) % 2 ^ n == 0) = true ↔ ∀ j, j < n → bits.getLsbD (k + j) = false := by
  rw [beq_iff_eq]
  constructor
  · intro h j hj
    have hbit : ((bits.toNat >>> k) % 2 ^ n).testBit j = false := by rw [h]; exact Nat.zero_testBit j
    rwa [Nat.testBit_mod_two_pow, decide_eq_true hj, Bool.true_and, Nat.testBit_shiftRight] at hbit
  · intro h
    refine Nat.eq_of_testBit_eq fun j => ?_
    rw [Nat.testBit_mod_two_pow, Nat.testBit_shiftRight, Nat.zero_testBit, Bool.and_eq_false_iff, decide_eq_false_iff_not]
    exact (Nat.lt_or_ge j n).elim (fun hj => .inr (h j hj)) fun hj => .inl (by omega)

theorem ioPermitted_pastLimit {map : Half} {s1 : State} (hpe : s.pe = true) (h : s.flags.vm = true ∨ s.flags.iopl.toNat < s.cpl.toNat)
    (hmap : HasIoMap s) (hread : tssRead16 (s.tr.base + 0x66) s = .ok map s1) (hoff : s.tr.limit.toNat ≤ map.toNat + port.toNat / 8) :
    ioPermitted port n s = .error (.exc gp0) s1 := by
  rw [ioPermitted_map hpe h hmap hread, guard_gp, if_neg (by rw [decide_eq_true_iff]; omega)]
  rfl

theorem ioPermitted_bits {map bits : Half} {s1 s2 : State} (hpe : s.pe = true) (h : s.flags.vm = true ∨ s.flags.iopl.toNat < s.cpl.toNat)
    (hmap : HasIoMap s) (hread : tssRead16 (s.tr.base + 0x66) s = .ok map s1) (hoff : map.toNat + port.toNat / 8 < s.tr.limit.toNat)
    (hbits : tssRead16 (s.tr.base + BitVec.ofNat 32 (map.toNat + port.toNat / 8)) s1 = .ok bits s2) :
    ((∀ j, j < n → bits.getLsbD (port.toNat % 8 + j) = false) → ioPermitted port n s = .ok () s2) ∧
    ((∃ j, j < n ∧ bits.getLsbD (port.toNat % 8 + j) = true) → ioPermitted port n s = .error (.exc gp0) s2) := by
  have hrun : ioPermitted port n s = if ((bits.toNat >>> (port.toNat % 8)) % 2 ^ n == 0) = true then .ok () s2 else .error (.exc gp0) s2 := by
    rw [ioPermitted_map hpe h hmap hread, guard_gp, if_pos (decide_eq_true (Nat.succ_le_of_lt hoff)), bind_of_ok hbits, require_run]
    rfl
  refine ⟨fun hall => by rw [hrun, if_pos ((portBits_clear_iff ..).mpr hall)], fun ⟨j, hj, hset⟩ => ?_⟩
  rw [hrun, if_neg]
  intro hclear
  rw [(portBits_clear_iff ..).mp hclear j hj] at hset
  cases hset

theorem tssAddrs_checksOnly (lin : Word) (n : Nat) (a : Access) : ChecksOnly (tssAddrs lin n a) :=
  .ite (linAddrs_checksOnly ..) (.bind drawBool_checksOnly fun _ => .ite
    (.bind (translate_checksOnly ..) fun _ => .bind (translate_checksOnly ..) fun _ => .pure _) (linAddrs_checksOnly ..))

theorem tssRead_checksOnly (lin : Word) (n : Nat) : ChecksOnly (tssRead lin n) :=
  .bind (tssAddrs_checksOnly ..) fun _ => load_checksOnly _

theorem ioPermitted_checksOnly (port : Half) (n : Nat) : ChecksOnly (ioPermitted port n) :=
  .bind .get fun _ => .ite (.pure _) (.bind (.require (.raise ..)) fun _ => .bind (.require (.raise ..)) fun _ =>
    .bind (.bind (tssRead_checksOnly ..) fun _ => .pure _) fun _ => .bind (.require (.raise ..)) fun _ =>
    .bind (.bind (tssRead_checksOnly ..) fun _ => .pure _) fun _ => .require (.raise ..))

end

/-! ## The transfer -/

theorem noteIo_noted {port : Half} {n : Nat} (h0 : 0 < n) (hn : n ≤ 65536) (s : State) :
    ∃ c, noteIo port n s = .ok () { s with cur := c } ∧ portBreaksNoted s port n s.cur c := by
  rw [noteIo, get_bind]
  refine noteRange_noted (fun x => ?_) port.isLt h0 hn s
  rw [Bool.and_eq_true, beq_iff_eq, ← BitVec.toNat_inj]
  rfl

theorem ioRead_run {port : Half} {n : Nat} (h0 : 0 < n) (hn : n ≤ 65536) (s : State) :
    ∃ x u, ioRead port n s = .ok x u ∧ PortRead port n s x u := by
  rw [ioRead, get_bind]
  cases hports : s.inp.ports with
  | cons v vs =>
    obtain ⟨c, hc, hnoted⟩ := noteIo_noted (port := port) h0 hn
      { s with inp := { s.inp with ports := vs }, bus := .ioRead port n (v.toNat % 2 ^ (8 * n)) :: s.bus }
    refine ⟨_, _, (set_bind ..).trans <| (bind_of_ok (emit_run ..)).trans (bind_of_ok hc), ?_, hnoted, Nat.mod_lt _ (by positivity), ?_⟩
    · rw [hports]
      rfl
    · intro v' vs' h'
      rw [hports] at h'
      obtain ⟨rfl, rfl⟩ := List.cons.inj h'
      rfl
  | nil =>
    obtain ⟨c, hc, hnoted⟩ := noteIo_noted (port := port) h0 hn
      { s with draws := s.draws + 1, bus := .ioRead port n ((Config.draw 32 s.draws : Word).toNat % 2 ^ (8 * n)) :: s.bus }
    refine ⟨_, _, (bind_of_ok (draw_run ..)).trans <| (bind_of_ok (emit_run ..)).trans (bind_of_ok hc), ?_, hnoted, Nat.mod_lt _ (by positivity), ?_⟩
    · rw [hports, List.tail_nil, ← hports]
    · intro v' vs' h'
      rw [hports] at h'
      cases h'

theorem ioWrite_run {port : Half} {n v : Nat} (h0 : 0 < n) (hn : n ≤ 65536) (s : State) :
    ∃ u, ioWrite port n v s = .ok () u ∧ PortWrite port n v s u := by
  obtain ⟨c, hc, hnoted⟩ := noteIo_noted (port := port) h0 hn { s with bus := .ioWrite port n v :: s.bus }
  exact ⟨_, (bind_of_ok (emit_run ..)).trans hc, rfl, hnoted⟩

theorem width_div_pos (byte : Bool) (s : State) : 0 < width byte s / 8 ∧ width byte s / 8 ≤ 65536 := by
  cases byte with
  | true =>
    show 0 < 8 / 8 ∧ 8 / 8 ≤ 65536
    decide
  | false =>
    show 0 < s.os.bits / 8 ∧ s.os.bits / 8 ≤ 65536
    cases s.os <;> decide

/-! ## IN and OUT -/

theorem noteLastIo_run (s : State) : noteLastIo s.enter = .ok () (ioEnter s) := by
  rw [noteLastIo, modify_run, ioEnter]
  exact congrArg (fun e => EStateM.Result.ok () { s.enter with lastIo := some e }) (startEip_iter s none)

theorem exec_inForm {s : State} {imm : BitVec 8} {f : Instr × Bool × Half} (hf : f ∈ inForms s imm) :
    ∃ p : M Half, p (ioEnter s) = .ok f.2.2 (ioEnter s) ∧ exec f.1 s = runInstr (atWidth f.2.1 (inPort p)) s := by
  simp only [inForms, List.mem_cons, List.not_mem_nil, or_false] at hf
  rcases hf with rfl | rfl | rfl | rfl
  · exact ⟨pure (imm.setWidth 16), rfl, rfl⟩
  · exact ⟨pure (imm.setWidth 16), rfl, rfl⟩
  · exact ⟨portDx, rfl, rfl⟩
  · exact ⟨portDx, rfl, rfl⟩

theorem exec_outForm {s : State} {imm : BitVec 8} {f : Instr × Bool × Half} (hf : f ∈ outForms s imm) :
    ∃ p : M Half, p (ioEnter s) = .ok f.2.2 (ioEnter s) ∧ exec f.1 s = runInstr (atWidth f.2.1 (outPort p)) s := by
  simp only [outForms, List.mem_cons, List.not_mem_nil, or_false] at hf
  rcases hf with rfl | rfl | rfl | rfl
  · exact ⟨pure (imm.setWidth 16), rfl, rfl⟩
  · exact ⟨pure (imm.setWidth 16), rfl, rfl⟩
  · exact ⟨portDx, rfl, rfl⟩
  · exact ⟨portDx, rfl, rfl⟩

theorem faults_of_port {s : State} {imm : BitVec 8} {f : Instr × Bool × Half} (hf : f ∈ inForms s imm ++ outForms s imm)
    (h : ∀ (port : Half) (n : Nat), ioPermitted port n (ioEnter s) = .error (.exc gp0) (ioEnter s)) : Faults f.1 s gp0 (ioEnter s) := by
  rcases List.mem_append.mp hf with hf | hf
  · obtain ⟨p, hp, hi⟩ := exec_inForm hf
    refine faults_of_run hi ?_ rfl
    rw [atWidth_run, inPort, bind_of_ok (noteLastIo_run s), bind_of_ok hp, bind_of_error (h _ _)]
  · obtain ⟨p, hp, hi⟩ := exec_outForm hf
    refine faults_of_run hi ?_ rfl
    rw [atWidth_run, outPort, bind_of_ok (noteLastIo_run s), bind_of_ok hp, bind_of_error (h _ _)]

theorem ran_of_in {s s1 : State} {imm : BitVec 8} {f : Instr × Bool × Half} (hf : f ∈ inForms s imm)
    (h : ioPermitted f.2.2 (width f.2.1 s / 8) (ioEnter s) = .ok () s1) :
    ∃ x u, PortRead f.2.2 (width f.2.1 s / 8) s1 x u ∧
      Ran f.1 s { u with regs := u.regs.write (width f.2.1 s) .eax (BitVec.ofNat (width f.2.1 s) x) } := by
  obtain ⟨p, hp, hi⟩ := exec_inForm hf
  obtain ⟨h0, hn⟩ := width_div_pos f.2.1 s
  obtain ⟨x, u, hx, hread⟩ := ioRead_run (port := f.2.2) h0 hn s1
  refine ⟨x, u, hread, ran_of_run hi ?_⟩
  rw [atWidth_run, inPort, bind_of_ok (noteLastIo_run s), bind_of_ok hp, bind_of_ok h, bind_of_ok hx, writeReg_run]
  rfl

theorem ran_of_out {s s1 : State} {imm : BitVec 8} {f : Instr × Bool × Half} (hf : f ∈ outForms s imm)
    (h : ioPermitted f.2.2 (width f.2.1 s / 8) (ioEnter s) = .ok () s1) :
    ∃ u, PortWrite f.2.2 (width f.2.1 s / 8) (s.regs.read (width f.2.1 s) .eax).toNat s1 u ∧ Ran f.1 s u := by
  obtain ⟨p, hp, hi⟩ := exec_outForm hf
  obtain ⟨h0, hn⟩ := width_div_pos f.2.1 s
  have hregs : s1.regs = s.regs := OnlyAccess.regs_eq (s := ioEnter s) (ioPermitted_checksOnly _ _ h)
  obtain ⟨u, hu, hwrite⟩ := ioWrite_run (port := f.2.2) (v := (s.regs.read (width f.2.1 s) .eax).toNat) h0 hn s1
  refine ⟨u, hwrite, ran_of_run hi ?_⟩
  rw [atWidth_run, outPort, bind_of_ok (noteLastIo_run s), bind_of_ok hp, bind_of_ok h, bind_of_ok (readReg_run ..), hregs]
  exact hu

/-! ## INS and OUTS -/

theorem portRead_frame {port : Half} {n x : Nat} {s u : State} (h : PortRead port n s x u) :
    u.as = s.as ∧ u.regs = s.regs ∧ u.flags = s.flags := by
  obtain ⟨hu, ⟨hnoted, -⟩, -⟩ := h
  have hcur : u.cur.adsz = s.cur.adsz := by rw [hnoted]
  have hsegs : u.segs = s.segs := by rw [hu]
  exact ⟨by rw [State.as, State.as, hcur, hsegs], by rw [hu], by rw [hu]⟩

theorem portWrite_frame {port : Half} {n v : Nat} {s u : State} (h : PortWrite port n v s u) :
    u.as = s.as ∧ u.regs = s.regs ∧ u.flags = s.flags := by
  obtain ⟨hu, ⟨hnoted, -⟩⟩ := h
  have hcur : u.cur.adsz = s.cur.adsz := by rw [hnoted]
  have hsegs : u.segs = s.segs := by rw [hu]
  exact ⟨by rw [State.as, State.as, hcur, hsegs], by rw [hu], by rw [hu]⟩

theorem OnlyAccess.asReg_eq {s t : State} (h : OnlyAccess s t) (r : Reg) : t.asReg r = s.asReg r := by
  rw [h]
  rfl

theorem OnlyAccess.segOr_eq {s t : State} (h : OnlyAccess s t) (d : SReg) : t.segOr d = s.segOr d := by
  rw [h]
  rfl

section
variable {s s1 s2 s3 : State} {ps qs : List Word} {v w : Nat}

theorem insOnce_run (h0 : 0 < w / 8) (hn : w / 8 ≤ 65536) (hperm : ioPermitted (s.regs.read 16 .edx) (w / 8) s = .ok () s1)
    (ha : access s.as .es (s.asReg .edi) (w / 8) (w / 8) .w s1 = .ok qs s2) :
    ∃ x s3 u, PortRead (s.regs.read 16 .edx) (w / 8) s2 x s3 ∧ Stored qs x s3 u ∧ u.as = s.as ∧ insOnce w s = .ok () (stepIndex s u .edi (w / 8)) := by
  have hperm1 : OnlyAccess s s1 := ioPermitted_checksOnly _ _ hperm
  have hacc : OnlyAccess s s2 := hperm1.trans (access_checksOnly _ _ _ _ _ _ ha)
  obtain ⟨x, s3, hx, hread⟩ := ioRead_run (port := s.regs.read 16 .edx) h0 hn s2
  obtain ⟨u, hu, hstored⟩ := store_stored qs x s3
  obtain ⟨has3, hregs3, hflags3⟩ := portRead_frame hread
  have hst := onlyAccess_of_stored hstored
  have has : u.as = s.as := hst.as_eq.trans (has3.trans hacc.as_eq)
  have hregs : u.regs = s.regs := hst.regs_eq.trans (hregs3.trans hacc.regs_eq)
  have hflags : u.flags = s.flags := hst.flags_eq.trans (hflags3.trans hacc.flags_eq)
  rw [← hperm1.as_eq, ← hperm1.asReg_eq] at ha
  refine ⟨x, s3, u, hread, hstored, has, ?_⟩
  refine (bind_of_ok (readReg_run 16 .edx s)).trans <| (bind_of_ok hperm).trans <| (get_bind ..).trans <| (bind_of_ok ha).trans <|
    (bind_of_ok hx).trans <| (bind_of_ok hu).trans ?_
  exact advance_run _ has (congrArg (GRegs.get · .edi) hregs) (congrArg Flags.df hflags)

theorem outsOnce_run (h0 : 0 < w / 8) (hn : w / 8 ≤ 65536) (hperm : ioPermitted (s.regs.read 16 .edx) (w / 8) s = .ok () s1)
    (ha : access s.as (s.segOr .ds) (s.asReg .esi) (w / 8) (w / 8) .r s1 = .ok ps s2) (hl : load ps s2 = .ok v s3) :
    ∃ u, PortWrite (s.regs.read 16 .edx) (w / 8) v s3 u ∧ u.as = s.as ∧ outsOnce w s = .ok () (stepIndex s u .esi (w / 8)) := by
  have hperm1 : OnlyAccess s s1 := ioPermitted_checksOnly _ _ hperm
  have hacc : OnlyAccess s s3 := hperm1.trans ((access_checksOnly _ _ _ _ _ _ ha).trans (load_checksOnly _ hl))
  obtain ⟨u, hu, hwrite⟩ := ioWrite_run (port := s.regs.read 16 .edx) (v := v) h0 hn s3
  obtain ⟨has3, hregs3, hflags3⟩ := portWrite_frame hwrite
  have has : u.as = s.as := has3.trans hacc.as_eq
  rw [← hperm1.as_eq, ← hperm1.asReg_eq, ← hperm1.segOr_eq] at ha
  refine ⟨u, hwrite, has, ?_⟩
  refine (bind_of_ok (readReg_run 16 .edx s)).trans <| (bind_of_ok hperm).trans <| (get_bind ..).trans <|
    (bind_of_ok (memRead_run ha hl)).trans <| (bind_of_ok hu).trans ?_
  exact advance_run _ has (congrArg (GRegs.get · .esi) (hregs3.trans hacc.regs_eq)) (congrArg Flags.df (hflags3.trans hacc.flags_eq))

end

/-- The computation of an INS or OUTS. -/
def ioRepeated (byte : Bool) (f : Nat → M Unit) : M Unit := do
  noteLastIo
  repeated false false (atWidth byte f)

theorem atWidth_run_io (byte : Bool) (f : Nat → M Unit) (s : State) : atWidth byte f (ioEnter s) = f (width byte s) (ioEnter s) := by
  cases byte <;> rfl

theorem ran_ioIteration {i : Instr} {f : Nat → M Unit} {byte : Bool} {s u : State} (hi : exec i s = runInstr (ioRepeated byte f) s)
    (hit : iterates s) (has : u.as = s.as) (hb : f (width byte s) (ioEnter s) = .ok () u) : Ran i s (iterEnd false false s u) :=
  ran_of_run hi ((bind_of_ok (noteLastIo_run s)).trans (repeated_run (io := some s.eip) hit has ((atWidth_run_io byte f s).trans hb)))

section
variable {byte : Bool} {s s1 s2 s3 : State} {ps qs : List Word} {v n : Nat}

theorem ran_ins (hit : iterates s) (hn : n = width byte s / 8) (hperm : ioPermitted (s.regs.read 16 .edx) n (ioEnter s) = .ok () s1)
    (ha : access s.as .es (s.asReg .edi) n n .w s1 = .ok qs s2) :
    ∃ x s3 u, PortRead (s.regs.read 16 .edx) n s2 x s3 ∧ Stored qs x s3 u ∧
      Ran (if byte then .insb else .insw) s (iterEnd false false s (stepIndex s u .edi n)) := by
  subst hn
  obtain ⟨h0, hle⟩ := width_div_pos byte s
  obtain ⟨x, s3, u, hread, hstored, has, hrun⟩ := insOnce_run (s := ioEnter s) (w := width byte s) h0 hle hperm ha
  exact ⟨x, s3, u, hread, hstored, ran_ioIteration (f := insOnce) (byte := byte) (by cases byte <;> rfl) hit has hrun⟩

theorem ran_outs (hit : iterates s) (hn : n = width byte s / 8) (hperm : ioPermitted (s.regs.read 16 .edx) n (ioEnter s) = .ok () s1)
    (ha : access s.as (s.segOr .ds) (s.asReg .esi) n n .r s1 = .ok ps s2) (hl : load ps s2 = .ok v s3) :
    ∃ u, PortWrite (s.regs.read 16 .edx) n v s3 u ∧
      Ran (if byte then .outsb else .outsw) s (iterEnd false false s (stepIndex s u .esi n)) := by
  subst hn
  obtain ⟨h0, hle⟩ := width_div_pos byte s
  obtain ⟨u, hwrite, has, hrun⟩ := outsOnce_run (s := ioEnter s) (w := width byte s) h0 hle hperm ha hl
  exact ⟨u, hwrite, ran_ioIteration (f := outsOnce) (byte := byte) (by cases byte <;> rfl) hit has hrun⟩

end

theorem ran_io_none {s : State} (hrep : s.cur.rep ≠ none) (hc : s.counter = 0) :
    ∀ i ∈ ([.insb, .insw, .outsb, .outsw] : List Instr), Ran i s (ioEnter s) := by
  have hran {i : Instr} (byte : Bool) (f : Nat → M Unit) (hi : exec i s = runInstr (ioRepeated byte f) s) : Ran i s (ioEnter s) :=
    ran_of_run hi ((bind_of_ok (noteLastIo_run s)).trans (repeated_none (io := some s.eip) hrep hc))
  simp only [List.forall_mem_cons, List.not_mem_nil, false_implies, implies_true, and_true]
  exact ⟨hran true insOnce rfl, hran false insOnce rfl, hran true outsOnce rfl, hran false outsOnce rfl⟩

/-- Settles O31. -/
theorem portInputOutput : Obligations.PortInputOutput := by
  refine ⟨fun port n s h => ioPermitted_free port n h, fun imm s f hf hpe h hlimit => ?_, fun port n s hpe h => ⟨ioPermitted_noMap port n hpe h, ?_⟩,
    fun imm s s1 f hf h => ran_of_in hf h, fun imm s s1 f hf h => ran_of_out hf h, fun s hrep hc => ran_io_none hrep hc,
    fun byte s s1 hit hperm => ⟨fun qs s2 ha => ran_ins hit rfl hperm ha, fun ps s2 v s3 ha hl => ran_outs hit rfl hperm ha hl⟩⟩
  · refine faults_of_port hf fun port n => ioPermitted_noMap port n hpe h fun ⟨_, hl⟩ => ?_
    exact absurd hl (Nat.not_le_of_lt hlimit)
  · intro map s1 htyp hlimit hread off
    exact ⟨ioPermitted_pastLimit hpe h ⟨htyp, hlimit⟩ hread, fun bits s2 hoff hbits => ioPermitted_bits hpe h ⟨htyp, hlimit⟩ hread hoff hbits⟩

end Sys2Proof.Laws

end
end

section
/-! Bytes of loads and stores, and the entries of the page tables (22_paging.md R262, R264). -/

noncomputable section

namespace Sys2Proof.Laws

open Sys2Proof Sys2Proof.Machine Sys2Proof.Claims

/-! ## Loads and stores, byte by byte -/

/-- From `s` to `t` nothing but reads and writes of devices went to the bus. -/
def DeviceTraffic (s t : State) : Prop := ∃ l, t.bus = l ++ s.bus ∧ ∀ e ∈ l, ∃ a v, e = .devRead a v ∨ e = .devWrite a v

theorem DeviceTraffic.of_eq {s t : State} (h : t.bus = s.bus) : DeviceTraffic s t := ⟨[], h, fun _ he => nomatch he⟩

theorem DeviceTraffic.cons {s t : State} {a : Word} {v : Byte} {e : BusEvent} (he : e = .devRead a v ∨ e = .devWrite a v) (h : t.bus = e :: s.bus) :
    DeviceTraffic s t := ⟨[e], h, fun _ h' => List.mem_singleton.mp h' ▸ ⟨a, v, he⟩⟩

theorem DeviceTraffic.trans {s t u : State} (h : DeviceTraffic s t) (k : DeviceTraffic t u) : DeviceTraffic s u := by
  obtain ⟨l, hl, he⟩ := h
  obtain ⟨l', hl', he'⟩ := k
  exact ⟨l' ++ l, by rw [hl', hl, List.append_assoc], fun e h => (List.mem_append.mp h).elim (he' e) (he e)⟩

/-- The physical address of a byte, after A20M#. -/
def physAt (s : State) (a : Word) : Nat := (s.a20 a).toNat

/-- Memory answers a read of the byte at `a`: RAM or ROM (R210). -/
def held (s : State) (a : Nat) : Prop := regionAt s.memMap a = none ∨ regionAt s.memMap a = some .rom

theorem physReadByte_bytes (a : Word) (s : State) : ∃ v n b, physReadByte a s = .ok v { s with draws := n, bus := b } ∧
    DeviceTraffic s { s with draws := n, bus := b } ∧ (held s (physAt s a) → v = byteAt s (physAt s a)) ∧
    (regionAt s.memMap (physAt s a) = none → n = s.draws ∧ b = s.bus) := by
  unfold physReadByte held physAt
  simp only [get_bind]
  rcases regionAt s.memMap (s.a20 a).toNat with _ | _ | _ | _
  · exact ⟨_, s.draws, s.bus, rfl, .of_eq rfl, fun _ => rfl, fun _ => ⟨rfl, rfl⟩⟩
  · exact ⟨_, s.draws, s.bus, rfl, .of_eq rfl, fun _ => rfl, fun _ => ⟨rfl, rfl⟩⟩
  · exact ⟨_, s.draws + 1, _, rfl, .cons (.inl rfl) rfl, by simp, by simp⟩
  · exact ⟨_, s.draws + 1, s.bus, rfl, .of_eq rfl, by simp, by simp⟩

theorem load_bytes (ps : List Word) (s : State) : ∃ v n b, load ps s = .ok v { s with draws := n, bus := b } ∧
    DeviceTraffic s { s with draws := n, bus := b } ∧
    (∀ j (h : j < ps.length), held s (physAt s ps[j]) → v / 256 ^ j % 256 = (byteAt s (physAt s ps[j])).toNat) ∧
    ((∀ a ∈ ps, regionAt s.memMap (physAt s a) = none) → n = s.draws ∧ b = s.bus) := by
  induction ps generalizing s with
  | nil => exact ⟨0, s.draws, s.bus, rfl, .of_eq rfl, fun _ h => absurd h (Nat.not_lt_zero _), fun _ => ⟨rfl, rfl⟩⟩
  | cons a as ih =>
    obtain ⟨x, k, l, hx, htraffic, hbyte, hram⟩ := physReadByte_bytes a s
    obtain ⟨v, n, b, hv, htraffic', hbytes, hram'⟩ := ih { s with draws := k, bus := l }
    refine ⟨x.toNat + 256 * v, n, b, by rw [load, bind_of_ok hx, bind_of_ok hv]; rfl, htraffic.trans htraffic', fun j hj hheld => ?_, fun hall => ?_⟩
    · have hlt := x.isLt
      cases j with
      | zero =>
        rw [show (a :: as)[0] = a from rfl, ← hbyte hheld]
        omega
      | succ j =>
        have hrest := hbytes j (Nat.lt_of_succ_lt_succ hj) hheld
        rw [pow_succ', ← Nat.div_div_eq_div_mul, show (x.toNat + 256 * v) / 256 = v by omega]
        exact hrest
    · obtain ⟨ha, has⟩ := List.forall_mem_cons.mp hall
      obtain ⟨hk, hl⟩ := hram ha
      obtain ⟨hn, hb⟩ := hram' has
      exact ⟨hn.trans hk, hb.trans hl⟩

theorem physWriteByte_bytes (a : Word) (v : Byte) (s : State) : ∃ t, physWriteByte a v s = .ok () t ∧ OnlyMem s t ∧ DeviceTraffic s t ∧
    (Memory.wf s.mem = true → Memory.wf t.mem = true ∧
      ∀ b, byteAt t b = byteAt s b ∨ (b = physAt s a ∧ regionAt s.memMap b = none ∧ byteAt t b = v)) := by
  refine ⟨_, physWriteByte_run a v s, ?_⟩
  unfold physAt
  rcases hr : regionAt s.memMap (s.a20 a).toNat with _ | _ | _ | _
  · refine ⟨rfl, .of_eq rfl, fun hw => ⟨write_wf_word _ _ hw, fun b => ?_⟩⟩
    by_cases hb : b = (s.a20 a).toNat
    · exact .inr ⟨hb, hb ▸ hr, hb ▸ read_write_same _ _ hw⟩
    · exact .inl (read_write_ne _ _ _ _ hb)
  · exact ⟨rfl, .of_eq rfl, fun hw => ⟨hw, fun _ => .inl rfl⟩⟩
  · exact ⟨rfl, .cons (.inr rfl) rfl, fun hw => ⟨hw, fun _ => .inl rfl⟩⟩
  · exact ⟨rfl, .of_eq rfl, fun hw => ⟨hw, fun _ => .inl rfl⟩⟩

theorem OnlyMem.physAt_eq {s t : State} (h : OnlyMem s t) (a : Word) : physAt t a = physAt s a := by
  rw [h]
  rfl

/-- Every byte after a store is what it was, or RAM and one of the bytes stored. -/
theorem store_bytes (ps : List Word) (v : Nat) (s : State) : ∃ t, store ps v s = .ok () t ∧ OnlyMem s t ∧ DeviceTraffic s t ∧
    (Memory.wf s.mem = true → Memory.wf t.mem = true ∧ ∀ b, byteAt t b = byteAt s b ∨
      ∃ k, ∃ h : k < ps.length, b = physAt s ps[k] ∧ regionAt s.memMap b = none ∧ byteAt t b = BitVec.ofNat 8 (v / 256 ^ k)) := by
  induction ps generalizing v s with
  | nil => exact ⟨s, rfl, .refl s, .of_eq rfl, fun hw => ⟨hw, fun _ => .inl rfl⟩⟩
  | cons a as ih =>
    obtain ⟨u, hu, hm, htraffic, hbytes⟩ := physWriteByte_bytes a (BitVec.ofNat 8 v) s
    obtain ⟨t, ht, hm', htraffic', hbytes'⟩ := ih (v / 256) u
    refine ⟨t, by rw [store, bind_of_ok hu, ht], hm.trans hm', htraffic.trans htraffic', fun hw => ?_⟩
    obtain ⟨hwu, hu⟩ := hbytes hw
    obtain ⟨hwt, ht⟩ := hbytes' hwu
    refine ⟨hwt, fun b => ?_⟩
    rcases ht b with h | ⟨k, hk, hb, hr, hv⟩
    · rcases hu b with h' | ⟨hb, hr, hv⟩
      · exact .inl (h.trans h')
      · exact .inr ⟨0, Nat.succ_pos _, hb, hr, h.trans (by rw [hv, pow_zero, Nat.div_one])⟩
    · rw [hm.physAt_eq] at hb
      rw [OnlyMem.memMap_eq hm] at hr
      exact .inr ⟨k + 1, Nat.succ_lt_succ hk, hb, hr, by rw [hv, pow_succ', Nat.div_div_eq_div_mul]⟩

theorem consecutive_eq_map (p : Word) (n : Nat) : consecutive p n = (List.range n).map fun j => p + BitVec.ofNat 32 j := by
  induction n generalizing p with
  | zero => rfl
  | succ n ih =>
    rw [consecutive, ih, List.range_succ_eq_map, List.map_cons, List.map_map]
    refine congrArg₂ _ (BitVec.add_zero p).symm (List.map_congr_left fun j _ => ?_)
    rw [Function.comp_apply, Nat.succ_eq_one_add, BitVec.ofNat_add, BitVec.add_assoc]
    rfl

theorem getElem_consecutive (p : Word) (n k : Nat) (h : k < (consecutive p n).length) : (consecutive p n)[k] = p + BitVec.ofNat 32 k := by
  simp only [consecutive_eq_map, List.getElem_map, List.getElem_range]

/-! ## Entries -/

theorem ofNat_byte (x : Word) (j : Nat) : BitVec.ofNat 8 (x.toNat / 256 ^ j) = x.extractLsb' (8 * j) 8 := by
  apply BitVec.eq_of_toNat_eq
  rw [BitVec.toNat_ofNat, BitVec.extractLsb'_toNat, Nat.shiftRight_eq_div_pow, pow_mul]
  rfl

/-- What a doubleword in physical memory reads as (R262). -/
theorem physRead32_bytes (a : Word) (s : State) : ∃ v n b, physRead32 a s = .ok v { s with draws := n, bus := b } ∧
    DeviceTraffic s { s with draws := n, bus := b } ∧
    (∀ j, j < 4 → held s (physAt s (a + BitVec.ofNat 32 j)) → v.extractLsb' (8 * j) 8 = byteAt s (physAt s (a + BitVec.ofNat 32 j))) := by
  obtain ⟨v, n, b, hv, htraffic, hbytes, -⟩ := load_bytes (consecutive a 4) s
  have hlt : v < 2 ^ 32 := by
    have h := load_lt hv
    rwa [consecutive_length] at h
  refine ⟨BitVec.ofNat 32 v, n, b, by rw [physRead32, physRead, bind_of_ok hv]; rfl, htraffic, fun j hj hheld => ?_⟩
  have h := hbytes j (by rwa [consecutive_length]) (by rwa [getElem_consecutive])
  rw [getElem_consecutive] at h
  rw [← ofNat_byte, BitVec.toNat_ofNat, Nat.mod_eq_of_lt hlt]
  exact BitVec.eq_of_toNat_eq ((BitVec.toNat_ofNat ..).trans h)

theorem a20_mod_four (s : State) (a : Word) : physAt s a % 4 = a.toNat % 4 := by
  unfold physAt State.a20
  split
  · rw [BitVec.toNat_and, show (4 : Nat) = 2 ^ 2 from rfl, Nat.and_mod_two_pow]
    exact (Nat.and_two_pow_sub_one_eq_mod (a.toNat % 2 ^ 2) 2).trans (Nat.mod_mod _ _)
  · rfl

theorem aligned_add {a : Word} (h : a.toNat % 4 = 0) (j : Nat) : (a + BitVec.ofNat 32 j).toNat % 4 = j % 4 := by
  rw [BitVec.toNat_add, BitVec.toNat_ofNat]
  omega

/-- The first byte of an aligned doubleword is none of the others of an aligned doubleword. -/
theorem physAt_ne {a b : Word} (s : State) (ha : a.toNat % 4 = 0) (hb : b.toNat % 4 = 0) {j : Nat} (h1 : 1 ≤ j) (h4 : j < 4) :
    physAt s (b + BitVec.ofNat 32 j) ≠ physAt s a := by
  intro h
  have h' := congrArg (· % 4) h
  simp only [a20_mod_four, aligned_add hb, ha] at h'
  omega

theorem masked_aligned (x : Word) : (x &&& 0xFFFFF000).toNat % 4 = 0 := by
  rw [BitVec.toNat_and, show (4 : Nat) = 2 ^ 2 from rfl, Nat.and_mod_two_pow]
  exact Nat.and_zero _

theorem shifted_aligned (x : Word) : (x <<< 2).toNat % 4 = 0 := by
  rw [BitVec.toNat_shiftLeft, Nat.shiftLeft_eq]
  omega

theorem add_aligned {x y : Word} (hx : x.toNat % 4 = 0) (hy : y.toNat % 4 = 0) : (x + y).toNat % 4 = 0 := by
  rw [BitVec.toNat_add]
  omega

theorem pdeAddr_aligned (cr3 lin : Word) : (pdeAddr cr3 lin).toNat % 4 = 0 :=
  add_aligned (masked_aligned _) (shifted_aligned _)

theorem pteAddr_aligned (pde lin : Word) : (pteAddr pde lin).toNat % 4 = 0 :=
  add_aligned (masked_aligned _) (shifted_aligned _)

/-- The bits that a walk sets in an entry: A, or A and D (R264). -/
def entryBits (write : Bool) : Word := if write then 0x60 else 0x20

theorem entryBits_high (write : Bool) {j : Nat} (h1 : 1 ≤ j) (h4 : j < 4) : (entryBits write).extractLsb' (8 * j) 8 = 0 := by
  cases write <;> interval_cases j <;> rfl

theorem entryBits_low (write : Bool) (x : Byte) : (x ||| (entryBits write).extractLsb' 0 8) ||| 0x60 = x ||| 0x60 := by
  cases write with
  | false => exact (BitVec.or_assoc x 0x20 0x60)
  | true => exact (BitVec.or_assoc x 0x60 0x60)

theorem or_eq_self_of_and_eq {x y : Word} (h : x &&& y = y) : x ||| y = x := by
  refine BitVec.eq_of_getLsbD_eq fun i _ => ?_
  have hi := congrArg (BitVec.getLsbD · i) h
  simp only [BitVec.getLsbD_and] at hi
  rw [BitVec.getLsbD_or, ← hi]
  cases x.getLsbD i <;> simp

theorem setEntryBits_run (a old bits : Word) (u : State) : setEntryBits a old bits u =
    if old &&& bits = bits then .ok (old ||| bits) u else (do physWrite a 4 (old ||| bits).toNat; pure (old ||| bits) : M Word) u := by
  rw [setEntryBits]
  split <;> rename_i h
  · rw [or_eq_self_of_and_eq h]
    rfl
  · rfl

/-- Setting the Accessed and Dirty bits of an entry that memory holds changes those two bits of its first byte at most. -/
theorem setEntryBits_bytes {a old : Word} {u : State} (write : Bool)
    (hhigh : Memory.wf u.mem = true → ∀ j, 1 ≤ j → j < 4 → regionAt u.memMap (physAt u (a + BitVec.ofNat 32 j)) = none →
      old.extractLsb' (8 * j) 8 = byteAt u (physAt u (a + BitVec.ofNat 32 j)))
    (hlow : Memory.wf u.mem = true → regionAt u.memMap (physAt u a) = none →
      old.extractLsb' 0 8 ||| 0x60 = byteAt u (physAt u a) ||| 0x60) :
    ∃ t, setEntryBits a old (entryBits write) u = .ok (old ||| entryBits write) t ∧ OnlyMem u t ∧ DeviceTraffic u t ∧
      (Memory.wf u.mem = true → Memory.wf t.mem = true ∧
        ∀ b, byteAt t b = byteAt u b ∨ (b = physAt u a ∧ byteAt t b ||| 0x60 = byteAt u b ||| 0x60)) := by
  rw [setEntryBits_run]
  split
  · exact ⟨u, rfl, .refl u, .of_eq rfl, fun hw => ⟨hw, fun _ => .inl rfl⟩⟩
  · obtain ⟨t, ht, hm, htraffic, hbytes⟩ := store_bytes (consecutive a 4) (old ||| entryBits write).toNat u
    refine ⟨t, by rw [physWrite, bind_of_ok ht]; rfl, hm, htraffic, fun hw => ?_⟩
    obtain ⟨hwt, hb⟩ := hbytes hw
    refine ⟨hwt, fun b => (hb b).elim .inl ?_⟩
    rintro ⟨k, hk, rfl, hr, hv⟩
    rw [consecutive_length] at hk
    rw [getElem_consecutive] at hr hv ⊢
    rw [ofNat_byte, BitVec.extractLsb'_or] at hv
    rcases Nat.eq_zero_or_pos k with rfl | hpos
    · rw [show a + BitVec.ofNat 32 0 = a from BitVec.add_zero a] at hr hv ⊢
      exact .inr ⟨rfl, by rw [hv, Nat.mul_zero, entryBits_low, hlow hw hr]⟩
    · left
      rw [hv, entryBits_high write hpos hk, hhigh hw k hpos hk hr]
      exact BitVec.or_zero

end Sys2Proof.Laws

end
end

section
/-! Address translation (22_paging.md R262, R264, R269, R275). -/

noncomputable section

namespace Sys2Proof.Laws

open Sys2Proof Sys2Proof.Machine Sys2Proof.Claims

/-! ## The parts of an address -/

theorem shift_scaled (x : Word) (k : Nat) : (x >>> k) <<< 2 = BitVec.ofNat 32 (4 * (x.toNat / 2 ^ k)) := by
  apply BitVec.eq_of_toNat_eq
  rw [BitVec.toNat_shiftLeft, BitVec.toNat_ushiftRight, Nat.shiftRight_eq_div_pow, Nat.shiftLeft_eq, BitVec.toNat_ofNat, Nat.mul_comm]

theorem pdeAddr_eq (cr3 lin : Word) : pdeAddr cr3 lin = (cr3 &&& 0xFFFFF000) + BitVec.ofNat 32 (4 * (lin.toNat / 2 ^ 22)) := by
  rw [pdeAddr, shift_scaled]
  rfl

theorem and_mask_toNat (x : Word) (k : Nat) (hk : k ≤ 32) : (x &&& BitVec.ofNat 32 (2 ^ k - 1)).toNat = x.toNat % 2 ^ k := by
  have hle : 2 ^ k ≤ 2 ^ 32 := Nat.pow_le_pow_right (by decide) hk
  have hpos : 0 < 2 ^ k := by positivity
  rw [BitVec.toNat_and, BitVec.toNat_ofNat, Nat.mod_eq_of_lt (show 2 ^ k - 1 < 2 ^ 32 by omega), Nat.and_two_pow_sub_one_eq_mod]

theorem pteAddr_eq (pde lin : Word) : pteAddr pde lin = (pde &&& 0xFFFFF000) + BitVec.ofNat 32 (4 * (lin.toNat / 2 ^ 12 % 2 ^ 10)) := by
  have hmask : ((lin >>> 12) &&& 0x3FF).toNat = lin.toNat / 2 ^ 12 % 2 ^ 10 := by
    refine (and_mask_toNat (lin >>> 12) 10 (by decide)).trans ?_
    rw [BitVec.toNat_ushiftRight, Nat.shiftRight_eq_div_pow]
  have hshift : ((lin >>> 12) &&& 0x3FF) <<< 2 = BitVec.ofNat 32 (4 * (lin.toNat / 2 ^ 12 % 2 ^ 10)) := by
    apply BitVec.eq_of_toNat_eq
    rw [BitVec.toNat_shiftLeft, hmask, Nat.shiftLeft_eq, BitVec.toNat_ofNat, Nat.mul_comm]
  rw [pteAddr, hshift]
  rfl

/-- Bits that the mask drops do not matter. -/
theorem or_and_of_and_eq_zero {x y m : Word} (h : y &&& m = 0) : (x ||| y) &&& m = x &&& m := by
  refine BitVec.eq_of_getLsbD_eq fun i _ => ?_
  have hi := congrArg (BitVec.getLsbD · i) h
  simp only [BitVec.getLsbD_and, BitVec.ofNat_eq_ofNat, BitVec.getLsbD_zero] at hi
  rw [BitVec.getLsbD_and, BitVec.getLsbD_or, BitVec.getLsbD_and, Bool.and_or_distrib_right, hi, Bool.or_false]

theorem frameAddr_small (pde pte lin : Word) (write : Bool) : frameAddr false pde (pte ||| entryBits write) lin =
    (pte &&& 0xFFFFF000) ||| BitVec.ofNat 32 (lin.toNat % 2 ^ 12) := by
  have hlow : lin &&& 0xFFF = BitVec.ofNat 32 (lin.toNat % 2 ^ 12) := by
    apply BitVec.eq_of_toNat_eq
    refine (and_mask_toNat lin 12 (by decide)).trans ?_
    rw [BitVec.toNat_ofNat]
    omega
  rw [frameAddr, if_neg Bool.false_ne_true, or_and_of_and_eq_zero (by cases write <;> rfl), hlow]

theorem frameAddr_big (pde pte lin : Word) (write : Bool) : frameAddr true (pde ||| entryBits write) pte lin =
    BitVec.ofNat 32 (pde.toNat / 2 ^ 22 * 2 ^ 22 + lin.toNat % 2 ^ 22) := by
  have hhigh : (pde &&& 0xFFC00000).toNat = 2 ^ 22 * (pde.toNat / 2 ^ 22) := by
    have h := congrArg BitVec.toNat (BitVec.shiftLeft_ushiftRight (x := pde) (n := 22)).symm
    rw [BitVec.toNat_shiftLeft, BitVec.toNat_ushiftRight, Nat.shiftRight_eq_div_pow, Nat.shiftLeft_eq] at h
    refine Eq.trans h ?_
    have := pde.isLt
    omega
  have hlow : (lin &&& 0x003FFFFF).toNat = lin.toNat % 2 ^ 22 := and_mask_toNat lin 22 (by decide)
  rw [frameAddr, if_pos rfl, or_and_of_and_eq_zero (by cases write <;> rfl)]
  apply BitVec.eq_of_toNat_eq
  rw [BitVec.toNat_or, hhigh, hlow, ← Nat.two_pow_add_eq_or_of_lt (Nat.mod_lt _ (by positivity)), BitVec.toNat_ofNat]
  have := pde.isLt
  omega

theorem reserved_iff (pde : Word) : pde &&& 0x003FF000 = 0 ↔ pde.toNat / 2 ^ 12 % 2 ^ 10 = 0 := by
  have hbits : ∀ i : Fin 32, (0x003FF000 : Word).getLsbD i = decide (12 ≤ i.val ∧ i.val < 22) := by decide
  have hfield : pde.toNat / 2 ^ 12 % 2 ^ 10 = (pde.extractLsb' 12 10).toNat := by
    rw [BitVec.extractLsb'_toNat, Nat.shiftRight_eq_div_pow]
  rw [hfield, show (0 : Nat) = (0 : BitVec 10).toNat from rfl, BitVec.toNat_inj]
  constructor
  · intro h
    refine BitVec.eq_of_getLsbD_eq fun i hi => ?_
    have hi' := congrArg (BitVec.getLsbD · (12 + i)) h
    simp only [BitVec.getLsbD_and, BitVec.ofNat_eq_ofNat, BitVec.getLsbD_zero] at hi'
    rw [show (BitVec.ofNat 32 4190208).getLsbD (12 + i) = _ from hbits ⟨12 + i, by omega⟩, decide_eq_true (by dsimp only; omega), Bool.and_true] at hi'
    rw [BitVec.getLsbD_extractLsb', hi', Bool.and_false]
    exact BitVec.getLsbD_zero.symm
  · intro h
    refine BitVec.eq_of_getLsbD_eq fun i hi => ?_
    rw [BitVec.getLsbD_and, hbits ⟨i, hi⟩]
    by_cases hin : 12 ≤ i ∧ i < 22
    · have hi' := congrArg (BitVec.getLsbD · (i - 12)) h
      simp only [BitVec.getLsbD_extractLsb', BitVec.ofNat_eq_ofNat, BitVec.getLsbD_zero, Bool.and_eq_false_iff, decide_eq_false_iff_not] at hi'
      have hbit := hi'.resolve_left (by omega)
      rw [show 12 + (i - 12) = i by omega] at hbit
      rw [hbit, Bool.false_and]
      exact BitVec.getLsbD_zero.symm
    · rw [decide_eq_false hin, Bool.and_false]
      exact BitVec.getLsbD_zero.symm

/-! ## Rights and faults -/

theorem permitted_iff (wp : Bool) (pde pte : Word) (a : Access) : permitted wp pde pte a = true ↔ pageAllows wp pde pte a.write a.user := by
  unfold permitted pageAllows bit
  cases a.user <;> cases a.write <;> cases wp <;> simp [and_assoc]

theorem pageFault_run {α : Type} (lin : Word) (a : Access) (present : Bool) (s : State) : (pageFault lin a present false : M α) s =
    .error (.exc { vec := 14, code := some (pfCode present a.write a.user), dbg := none }) { s with cr := { s.cr with cr2 := lin } } := by
  rw [pageFault, modify_bind, raise_run]
  cases present <;> cases a.write <;> cases a.user <;> rfl

theorem pageFault_run_reserved {α : Type} (lin : Word) (a : Access) (s : State) : (pageFault lin a true true : M α) s =
    .error (.exc { vec := 14, code := some (pfCode true a.write a.user + 8), dbg := none }) { s with cr := { s.cr with cr2 := lin } } := by
  rw [pageFault, modify_bind, raise_run]
  cases a.write <;> cases a.user <;> rfl

/-! ## The walk -/

section
variable {lin : Word} {a : Access} {s : State} {pde pte : Word}

theorem translate_walk (hpg : s.pg = true) (h : ∀ e ∈ s.itlb ++ s.dtlb, e.page ≠ lin.extractLsb' 12 20) : Machine.translate lin a s = walk lin a s := by
  have hnone (l : List TlbEntry) (hl : ∀ e ∈ l, e ∈ s.itlb ++ s.dtlb) : (l.find? fun e => e.page == lin.extractLsb' 12 20) = none :=
    List.find?_eq_none.mpr fun e he hp => h e (hl e he) (beq_iff_eq.mp hp)
  have hfind : ((if a.fetch then s.itlb else s.dtlb).find? fun e => e.page == lin.extractLsb' 12 20) = none := by
    split
    · exact hnone _ fun e he => List.mem_append_left _ he
    · exact hnone _ fun e he => List.mem_append_right _ he
  rw [Machine.translate, get_bind, hpg, if_neg (by decide)]
  rw [hfind]

theorem walk_absent (hpde : physRead32 (pdeAddr s.cr.cr3 lin) s = .ok pde s) (h : pde.getLsbD 0 = false) : walk lin a s =
    .error (.exc { vec := 14, code := some (pfCode false a.write a.user), dbg := none }) { s with cr := { s.cr with cr2 := lin } } := by
  rw [walk, get_bind, bind_of_ok hpde, show bit pde 0 = false from h, require_false, bind_of_error (pageFault_run ..)]

/-- The end of a walk through a directory entry at `pa` and a table entry at `ta` (R262). -/
def walkSmall (lin : Word) (a : Access) (wp : Bool) (pa ta pde pte : Word) : M Word := do
  require (bit pte 0) (pageFault lin a false false)
  if permitted wp pde pte a then
    let pde ← setEntryBits pa pde (entryBits false)
    let pte ← setEntryBits ta pte (entryBits a.write)
    tlbInsert a.fetch { page := lin.extractLsb' 12 20, pde := pde, pte := pte }
    pure (frameAddr false pde pte lin)
  else
    let _ ← setEntryBits pa pde (entryBits false)
    pageFault lin a true false

/-- The end of a walk through a directory entry that maps a 4-megabyte page (R275). -/
def walkBig (lin : Word) (a : Access) (wp : Bool) (pa pde : Word) : M Word := do
  require (pde &&& 0x003FF000 = 0) (pageFault lin a true true)
  require (permitted wp pde pde a) (pageFault lin a true false)
  let pde ← setEntryBits pa pde (entryBits a.write)
  tlbInsert a.fetch { page := lin.extractLsb' 12 20, pde := pde, pte := pde }
  pure (frameAddr true pde pde lin)

theorem walk_run (lin : Word) (a : Access) (s : State) : walk lin a s = (do
    let pde ← physRead32 (pdeAddr s.cr.cr3 lin)
    require (bit pde 0) (pageFault lin a false false)
    if bigPage s pde then walkBig lin a s.wp (pdeAddr s.cr.cr3 lin) pde
    else do
      let pte ← physRead32 (pteAddr pde lin)
      walkSmall lin a s.wp (pdeAddr s.cr.cr3 lin) (pteAddr pde lin) pde pte : M Word) s := rfl

theorem walk_small (hpde : physRead32 (pdeAddr s.cr.cr3 lin) s = .ok pde s) (h : pde.getLsbD 0 = true) (hsmall : s.pse = true → pde.getLsbD 7 = false)
    (hpte : physRead32 (pteAddr pde lin) s = .ok pte s) :
    walk lin a s = walkSmall lin a s.wp (pdeAddr s.cr.cr3 lin) (pteAddr pde lin) pde pte s := by
  have hbig : bigPage s pde = false := by
    rw [bigPage, Bool.and_eq_false_iff]
    exact (Bool.eq_false_or_eq_true s.pse).symm.imp id hsmall
  rw [walk_run, bind_of_ok hpde, show bit pde 0 = true from h, require_true, pure_bind, hbig, if_neg Bool.false_ne_true, bind_of_ok hpte]

theorem walk_big (hpde : physRead32 (pdeAddr s.cr.cr3 lin) s = .ok pde s) (h : pde.getLsbD 0 = true) (hpse : s.pse = true) (h7 : pde.getLsbD 7 = true) :
    walk lin a s = walkBig lin a s.wp (pdeAddr s.cr.cr3 lin) pde s := by
  have hbig : bigPage s pde = true := by
    rw [bigPage, Bool.and_eq_true]
    exact ⟨hpse, h7⟩
  rw [walk_run, bind_of_ok hpde, show bit pde 0 = true from h, require_true, pure_bind, hbig, if_pos rfl]

end

/-! ## Entries in RAM -/

/-- All of physical memory is RAM, read as it is. -/
def PlainMemory (s : State) : Prop := Memory.wf s.mem = true ∧ s.inp.a20m = false ∧ s.memMap = []

theorem PlainMemory.physAt_eq {s : State} (h : PlainMemory s) (a : Word) : physAt s a = a.toNat := by
  obtain ⟨-, ha20, -⟩ := h
  rw [physAt, State.a20, ha20]
  rfl

theorem PlainMemory.region {s : State} (h : PlainMemory s) (a : Nat) : regionAt s.memMap a = none := by
  obtain ⟨-, -, hmap⟩ := h
  rw [hmap, regionAt]

/-- An entry as memory holds it: all of its bits in its first byte are set there, and its other bytes stand behind it. -/
def EntryHeld (s : State) (a e : Word) : Prop :=
  (∀ i, i < 8 → e.getLsbD i = true → (byteAt s a.toNat).getLsbD i = true) ∧ e.extractLsb' 0 8 ||| 0x60 = byteAt s a.toNat ||| 0x60 ∧
  ∀ j, 1 ≤ j → j < 4 → e.extractLsb' (8 * j) 8 = byteAt s (a + BitVec.ofNat 32 j).toNat

theorem entryHeld_of_read {s : State} (hplain : PlainMemory s) {a e : Word} (h : physRead32 a s = .ok e s) : EntryHeld s a e := by
  obtain ⟨v, n, b, hv, -, hbytes⟩ := physRead32_bytes a s
  obtain rfl : e = v := by
    rw [h] at hv
    injection hv
  have hbyte (j : Nat) (hj : j < 4) : e.extractLsb' (8 * j) 8 = byteAt s (a + BitVec.ofNat 32 j).toNat := by
    have h' := hbytes j hj (.inl (hplain.region _))
    rwa [hplain.physAt_eq] at h'
  have hzero := hbyte 0 (by decide)
  rw [show a + BitVec.ofNat 32 0 = a from BitVec.add_zero a, Nat.mul_zero] at hzero
  refine ⟨fun i hi he => ?_, by rw [hzero], fun j _ hj => hbyte j hj⟩
  rw [← hzero, BitVec.getLsbD_extractLsb', decide_eq_true hi, Nat.zero_add, he, Bool.and_true]

/-- Setting A and D of an entry in RAM (R264). -/
theorem setEntryBits_plain {s : State} (hplain : PlainMemory s) {a e : Word} (hheld : EntryHeld s a e) (write : Bool) :
    ∃ t, setEntryBits a e (entryBits write) s = .ok (e ||| entryBits write) t ∧ OnlyMem s t ∧ Memory.wf t.mem = true ∧
      (∀ b, b ≠ a.toNat → byteAt t b = byteAt s b) ∧ byteAt t a.toNat ||| 0x60 = byteAt s a.toNat ||| 0x60 ∧
      ∀ i, i < 8 → (e ||| entryBits write).getLsbD i = true → (byteAt t a.toNat).getLsbD i = true := by
  have hsame (j : Nat) : physAt s (a + BitVec.ofNat 32 j) = (a + BitVec.ofNat 32 j).toNat := hplain.physAt_eq _
  obtain ⟨hcover, hlow, hhigh⟩ := hheld
  obtain ⟨t, ht, hm, -, hbytes⟩ := setEntryBits_bytes (a := a) (old := e) (u := s) write (fun _ j h1 h4 _ => by rw [hsame, hhigh j h1 h4])
    (fun _ _ => by rw [hplain.physAt_eq, hlow])
  obtain ⟨hwf, hb⟩ := hbytes hplain.1
  rw [hplain.physAt_eq] at hb
  refine ⟨t, ht, hm, hwf, fun b hne => (hb b).resolve_right fun ⟨h, _⟩ => hne h, (hb _).elim (fun h => by rw [h]) And.right, fun i hi hbit => ?_⟩
  rw [setEntryBits_run] at ht
  split at ht <;> rename_i hset
  · cases ht
    rw [or_eq_self_of_and_eq hset] at hbit
    exact hcover i hi hbit
  · obtain ⟨t', ht', -, -, -, hstored, -⟩ := store_stored (consecutive a 4) (e ||| entryBits write).toNat s
    rw [physWrite, bind_of_ok ht'] at ht
    cases ht
    have haddrs : addrs s (consecutive a 4) = [a.toNat, (a + 1).toNat, (a + 1 + 1).toNat, (a + 1 + 1 + 1).toNat] := by
      simp only [addrs, consecutive, List.map_cons, List.map_nil, show ∀ x, (s.a20 x).toNat = x.toNat from hplain.physAt_eq]
    have hfirst := hstored hplain.1 0 (by rw [haddrs]; exact Nat.succ_pos _) (hplain.region _)
    simp only [haddrs, List.getElem_cons_zero] at hfirst
    rw [hfirst (by have := a.isLt; simp [BitVec.toNat_add]; omega), pow_zero, Nat.div_one, BitVec.getLsbD_ofNat, decide_eq_true hi, Bool.true_and]
    exact hbit

/-- What the entry at `a'` holds after A was set in the entry at `a`, which was read before. -/
theorem EntryHeld.after {s t : State} {a a' e e' : Word} (ha : a.toNat % 4 = 0) (ha' : a'.toNat % 4 = 0) (h : EntryHeld s a' e')
    (hsame : a' = a → e' = e) (hother : ∀ b, b ≠ a.toNat → byteAt t b = byteAt s b)
    (hlow : byteAt t a.toNat ||| 0x60 = byteAt s a.toNat ||| 0x60) (hcover : ∀ i, i < 8 → e.getLsbD i = true → (byteAt t a.toNat).getLsbD i = true) :
    EntryHeld t a' e' := by
  obtain ⟨hc, hl, hh⟩ := h
  have hne (j : Nat) (h1 : 1 ≤ j) (h4 : j < 4) : (a' + BitVec.ofNat 32 j).toNat ≠ a.toNat := by
    intro heq
    have h' := aligned_add ha' j
    rw [heq] at h'
    omega
  refine ⟨?_, ?_, fun j h1 h4 => by rw [hh j h1 h4, hother _ (hne j h1 h4)]⟩
  · by_cases heq : a' = a
    · subst heq
      rw [hsame rfl]
      exact hcover
    · rwa [hother _ (mt BitVec.eq_of_toNat_eq heq)]
  · by_cases heq : a' = a
    · subst heq
      rw [hl, hlow]
    · rwa [hother _ (mt BitVec.eq_of_toNat_eq heq)]

theorem OnlyMem.plain {s t : State} (h : OnlyMem s t) (hplain : PlainMemory s) (hwf : Memory.wf t.mem = true) : PlainMemory t := by
  obtain ⟨-, ha20, hmap⟩ := hplain
  refine ⟨hwf, ?_, ?_⟩
  · rw [h]
    exact ha20
  · rw [h]
    exact hmap

/-- Keeping a translation does not touch memory (R271). -/
theorem tlbInsert_run (fetch : Bool) (e : TlbEntry) (s : State) : ∃ t, tlbInsert fetch e s = .ok () t ∧ t.mem = s.mem := by
  refine ⟨_, modify_run .., ?_⟩
  split <;> rfl

/-! ## Outcomes of a walk -/

section
variable {lin : Word} {a : Access} {s : State} {pde pte pa ta : Word} {wp : Bool}

theorem setEntryBits_total (a e bits : Word) (s : State) : ∃ t, setEntryBits a e bits s = .ok (e ||| bits) t ∧ OnlyMem s t := by
  rw [setEntryBits_run]
  split
  · exact ⟨s, rfl, .refl s⟩
  · obtain ⟨t, ht, hm, -⟩ := physWrite_effect a 4 (e ||| bits).toNat s
    exact ⟨t, by rw [bind_of_ok ht]; rfl, hm⟩

theorem walkSmall_absent (h : pte.getLsbD 0 = false) : walkSmall lin a wp pa ta pde pte s =
    .error (.exc { vec := 14, code := some (pfCode false a.write a.user), dbg := none }) { s with cr := { s.cr with cr2 := lin } } := by
  rw [walkSmall, show bit pte 0 = false from h, require_false, bind_of_error (pageFault_run ..)]

theorem accessed_bit (e : Word) (write : Bool) : (e ||| entryBits write).getLsbD 5 = true := by
  rw [BitVec.getLsbD_or]
  cases write <;> exact Bool.or_true _

theorem dirty_bit (e : Word) : (e ||| entryBits true).getLsbD 6 = true := by
  rw [BitVec.getLsbD_or]
  exact Bool.or_true _

/-- A lack of rights still marks the directory entry (R262). -/
theorem walkSmall_refused (hp : pte.getLsbD 0 = true) (h : ¬ pageAllows wp pde pte a.write a.user) : ∃ t, walkSmall lin a wp pa ta pde pte s =
      .error (.exc { vec := 14, code := some (pfCode true a.write a.user), dbg := none }) t ∧ t.cr.cr2 = lin ∧
    (PlainMemory s → physRead32 pa s = .ok pde s →
      (byteAt t pa.toNat).getLsbD 5 = true ∧ ∀ b, b ≠ pa.toNat → byteAt t b = byteAt s b) := by
  obtain ⟨t, ht, -⟩ := setEntryBits_total pa pde (entryBits false) s
  refine ⟨{ t with cr := { t.cr with cr2 := lin } }, ?_, rfl, fun hplain hread => ?_⟩
  · rw [walkSmall, show bit pte 0 = true from hp, require_true, pure_bind, if_neg (mt (permitted_iff ..).mp h), bind_of_ok ht, pageFault_run]
  · obtain ⟨t', ht', -, -, hother, -, hset⟩ := setEntryBits_plain hplain (entryHeld_of_read hplain hread) false
    rw [ht] at ht'
    cases ht'
    exact ⟨hset 5 (by decide) (accessed_bit ..), hother⟩

theorem walkSmall_allowed (hp : pte.getLsbD 0 = true) (h : pageAllows wp pde pte a.write a.user) : ∃ t, walkSmall lin a wp pa ta pde pte s =
      .ok ((pte &&& 0xFFFFF000) ||| BitVec.ofNat 32 (lin.toNat % 2 ^ 12)) t ∧
    (PlainMemory s → physRead32 pa s = .ok pde s → physRead32 ta s = .ok pte s → pa.toNat % 4 = 0 → ta.toNat % 4 = 0 →
      (byteAt t pa.toNat).getLsbD 5 = true ∧ (byteAt t ta.toNat).getLsbD 5 = true ∧ (a.write = true → (byteAt t ta.toNat).getLsbD 6 = true) ∧
      ∀ b, b ≠ pa.toNat → b ≠ ta.toNat → byteAt t b = byteAt s b) := by
  obtain ⟨u, hu, -⟩ := setEntryBits_total pa pde (entryBits false) s
  obtain ⟨t, ht, -⟩ := setEntryBits_total ta pte (entryBits a.write) u
  obtain ⟨t', ht', hmem⟩ := tlbInsert_run a.fetch
    { page := lin.extractLsb' 12 20, pde := pde ||| entryBits false, pte := pte ||| entryBits a.write } t
  refine ⟨t', ?_, fun hplain hpde hpte hpa hta => ?_⟩
  · rw [walkSmall, show bit pte 0 = true from hp, require_true, pure_bind, if_pos ((permitted_iff ..).mpr h), bind_of_ok hu, bind_of_ok ht,
      bind_of_ok ht', frameAddr_small]
    rfl
  · have hbyte (b : Nat) : byteAt t' b = byteAt t b := by rw [byteAt, hmem, byteAt]
    simp only [hbyte]
    obtain ⟨u', hu', hm, hwf, hother, hlow, hset⟩ := setEntryBits_plain hplain (entryHeld_of_read hplain hpde) false
    rw [hu] at hu'
    cases hu'
    have hheld : EntryHeld u ta pte := (entryHeld_of_read hplain hpte).after (e := pde) hpa hta
      (fun heq => by rw [heq, hpde] at hpte; cases hpte; rfl) hother hlow
      (fun i hi hbit => hset i hi (by rw [BitVec.getLsbD_or, hbit, Bool.true_or]))
    obtain ⟨t'', ht'', -, -, hother', -, hset'⟩ := setEntryBits_plain (hm.plain hplain hwf) hheld a.write
    rw [ht] at ht''
    cases ht''
    have hta5 := hset' 5 (by decide) (accessed_bit ..)
    refine ⟨?_, hta5, fun hw => hset' 6 (by decide) (by rw [hw]; exact dirty_bit pte), fun b h1 h2 => (hother' b h2).trans (hother b h1)⟩
    by_cases heq : pa.toNat = ta.toNat
    · rw [heq]
      exact hta5
    · rw [hother' _ heq]
      exact hset 5 (by decide) (accessed_bit ..)

theorem walkBig_reserved (h : pde.toNat / 2 ^ 12 % 2 ^ 10 ≠ 0) : walkBig lin a wp pa pde s =
    .error (.exc { vec := 14, code := some (pfCode true a.write a.user + 8), dbg := none }) { s with cr := { s.cr with cr2 := lin } } := by
  rw [walkBig, decide_eq_false (mt (reserved_iff pde).mp h), require_false, bind_of_error (pageFault_run_reserved ..)]

theorem walkBig_refused (h : ¬ pde.toNat / 2 ^ 12 % 2 ^ 10 ≠ 0) (hno : ¬ pageAllows wp pde pde a.write a.user) : walkBig lin a wp pa pde s =
    .error (.exc { vec := 14, code := some (pfCode true a.write a.user), dbg := none }) { s with cr := { s.cr with cr2 := lin } } := by
  rw [walkBig, decide_eq_true ((reserved_iff pde).mpr (not_not.mp h)), require_true, pure_bind,
    Bool.eq_false_iff.mpr (mt (permitted_iff ..).mp hno), require_false, bind_of_error (pageFault_run ..)]

theorem walkBig_allowed (h : ¬ pde.toNat / 2 ^ 12 % 2 ^ 10 ≠ 0) (hok : pageAllows wp pde pde a.write a.user) : ∃ t, walkBig lin a wp pa pde s =
      .ok (BitVec.ofNat 32 (pde.toNat / 2 ^ 22 * 2 ^ 22 + lin.toNat % 2 ^ 22)) t ∧
    (PlainMemory s → physRead32 pa s = .ok pde s →
      (byteAt t pa.toNat).getLsbD 5 = true ∧ (a.write = true → (byteAt t pa.toNat).getLsbD 6 = true) ∧
      ∀ b, b ≠ pa.toNat → byteAt t b = byteAt s b) := by
  obtain ⟨t, ht, -⟩ := setEntryBits_total pa pde (entryBits a.write) s
  obtain ⟨t', ht', hmem⟩ := tlbInsert_run a.fetch
    { page := lin.extractLsb' 12 20, pde := pde ||| entryBits a.write, pte := pde ||| entryBits a.write } t
  refine ⟨t', ?_, fun hplain hread => ?_⟩
  · rw [walkBig, decide_eq_true ((reserved_iff pde).mpr (not_not.mp h)), require_true, pure_bind, (permitted_iff ..).mpr hok, require_true, pure_bind,
      bind_of_ok ht, bind_of_ok ht', frameAddr_big]
    rfl
  · have hbyte (b : Nat) : byteAt t' b = byteAt t b := by rw [byteAt, hmem, byteAt]
    simp only [hbyte]
    obtain ⟨u, hu, -, -, hother, -, hset⟩ := setEntryBits_plain hplain (entryHeld_of_read hplain hread) a.write
    rw [ht] at hu
    cases hu
    exact ⟨hset 5 (by decide) (accessed_bit ..), fun hw => hset 6 (by decide) (by rw [hw]; exact dirty_bit pde), hother⟩

end

/-- Settles O59. -/
theorem paging : Obligations.Paging := by
  intro lin a s
  refine ⟨fun hpg => translate_pg_off hpg lin a, fun pde hpg hmiss hpde => ?_, fun pde hpg hmiss hpse hpde hp h7 => ?_⟩
  · rw [← pdeAddr_eq] at hpde ⊢
    rw [translate_walk hpg hmiss]
    refine ⟨fun h => walk_absent hpde h, fun pte hp hsmall hpte => ?_⟩
    rw [← pteAddr_eq] at hpte ⊢
    rw [walk_small hpde hp hsmall hpte]
    refine ⟨fun h => walkSmall_absent h, fun hpp hno => ?_, fun hpp hok => ?_⟩
    · obtain ⟨t, ht, hcr2, hram⟩ := walkSmall_refused (lin := lin) (s := s) (pa := pdeAddr s.cr.cr3 lin) (ta := pteAddr pde lin) hpp hno
      exact ⟨t, ht, hcr2, fun hwf ha20 hmap => hram ⟨hwf, ha20, hmap⟩ hpde⟩
    · obtain ⟨t, ht, hram⟩ := walkSmall_allowed (lin := lin) (s := s) (pa := pdeAddr s.cr.cr3 lin) (ta := pteAddr pde lin) hpp hok
      exact ⟨t, ht, fun hwf ha20 hmap => hram ⟨hwf, ha20, hmap⟩ hpde hpte (pdeAddr_aligned ..) (pteAddr_aligned ..)⟩
  · rw [← pdeAddr_eq] at hpde ⊢
    rw [translate_walk hpg hmiss, walk_big hpde hp hpse h7]
    refine ⟨fun h => walkBig_reserved h, fun h hno => walkBig_refused h hno, fun h hok => ?_⟩
    obtain ⟨t, ht, hram⟩ := walkBig_allowed (lin := lin) (s := s) (pa := pdeAddr s.cr.cr3 lin) h hok
    exact ⟨t, ht, fun hwf ha20 hmap => hram ⟨hwf, ha20, hmap⟩ hpde⟩

end Sys2Proof.Laws

end
end

section
/-! Checking and reading leave the machine alone but for the Accessed and Dirty bits of the page entries used
(00_scope.md R23, 22_paging.md R264, R271). -/

noncomputable section

namespace Sys2Proof.Laws

open Sys2Proof Sys2Proof.Machine Sys2Proof.Claims

/-! ## Kept states -/

/-- The first bytes of page entries lie at multiples of 4. -/
theorem pageEntryByte_aligned {s : State} {lin : Word} {a : Nat} (h : pageEntryByte s lin a) : a % 4 = 0 := by
  rcases h with h | ⟨pde, h, -⟩
  · rw [h]
    exact (a20_mod_four s _).trans (pdeAddr_aligned ..)
  · rw [h]
    exact (a20_mod_four s _).trans (pteAddr_aligned ..)

theorem noted_refl (c : Latch) : noted c c := rfl

theorem noted_trans {c c' c'' : Latch} (h : noted c c') (k : noted c' c'') : noted c c'' := by
  rw [noted, k, h]

section
variable {L : Word → Prop} {s t u : State}

theorem kept_refl (L : Word → Prop) (s : State) : Kept L s s :=
  ⟨rfl, rfl, ⟨[], rfl, fun _ h => nomatch h⟩, fun hw => ⟨hw, fun _ => .inl rfl⟩, fun _ => rfl⟩

theorem kept_mono {L' : Word → Prop} (h : Kept L s t) (hL : ∀ x, L x → L' x) : Kept L' s t := by
  obtain ⟨hframe, hnoted, hbus, hmem, hpg⟩ := h
  refine ⟨hframe, hnoted, hbus, fun hw => ⟨(hmem hw).1, fun a => ((hmem hw).2 a).imp_right ?_⟩, hpg⟩
  rintro ⟨hbits, hp, lin, hlin, hentry⟩
  exact ⟨hbits, hp, lin, hL lin hlin, hentry⟩

/-- Of a page entry that translation uses only the first byte may have changed: what it leads to is what it led to. -/
theorem kept_pageEntryByte_of (h : Kept L s t) (hw : Memory.wf s.mem = true) {lin : Word} {a : Nat} (he : pageEntryByte t lin a) :
    pageEntryByte s lin a := by
  obtain ⟨hframe, -, -, hmem, -⟩ := h
  have ha20 (x : Word) : t.a20 x = s.a20 x := by rw [hframe]; rfl
  have hcr : t.cr = s.cr := by rw [hframe]
  have hmap : t.memMap = s.memMap := by rw [hframe]
  unfold pageEntryByte at he ⊢
  simp only [ha20, hcr, hmap] at he
  refine he.imp_right fun ⟨pde, ha, hbytes⟩ => ⟨pde, ha, fun j h1 h4 hheld => ?_⟩
  rw [hbytes j h1 h4 hheld]
  refine ((hmem hw).2 _).resolve_right fun ⟨_, _, lin', _, hentry⟩ => ?_
  have h0 : physAt s (pdeAddr s.cr.cr3 lin + BitVec.ofNat 32 j) % 4 = 0 := pageEntryByte_aligned hentry
  rw [a20_mod_four, aligned_add (pdeAddr_aligned ..)] at h0
  omega

theorem kept_pg_eq (h : Kept L s t) : t.pg = s.pg := by
  obtain ⟨hframe, -⟩ := h
  rw [hframe]
  rfl

theorem kept_trans (h : Kept L s t) (k : Kept L t u) : Kept L s u := by
  have hentries (hw : Memory.wf s.mem = true) {lin : Word} {a : Nat} := kept_pageEntryByte_of (lin := lin) (a := a) h hw
  have hpgt := kept_pg_eq h
  obtain ⟨hframe, hnoted, htraffic, hmem, hpg⟩ := h
  obtain ⟨kframe, knoted, ktraffic, kmem, kpg⟩ := k
  refine ⟨?_, noted_trans hnoted knoted, DeviceTraffic.trans htraffic ktraffic, fun hw => ⟨(kmem (hmem hw).1).1, fun a => ?_⟩, fun hoff => ?_⟩
  · rw [kframe, hframe]
  · rcases (kmem (hmem hw).1).2 a with ka | ⟨kbits, kp, lin, hlin, kentry⟩
    · rw [ka]
      exact (hmem hw).2 a
    · right
      refine ⟨?_, hpgt ▸ kp, lin, hlin, hentries hw kentry⟩
      rcases (hmem hw).2 a with ha | ⟨hbits, -⟩
      · rw [kbits, ha]
      · rw [kbits, hbits]
  · rw [kpg (hpgt.trans hoff), hpg hoff]

theorem kept_with_cr2 (h : Kept L s t) (c : Word) : Kept L { s with cr := { s.cr with cr2 := c } } { t with cr := { t.cr with cr2 := c } } := by
  obtain ⟨hframe, hnoted, htraffic, hmem, hpg⟩ := h
  refine ⟨?_, hnoted, htraffic, hmem, fun hoff => ?_⟩
  · rw [hframe]
  · rw [hpg hoff]

/-- Draws, device traffic and breakpoints matched. -/
theorem kept_of_traffic (h : t = { s with bus := t.bus, draws := t.draws, cur := t.cur }) (hnoted : noted s.cur t.cur) (htraffic : DeviceTraffic s t) :
    Kept L s t :=
  ⟨by rw [h], hnoted, htraffic, fun hw => ⟨by rw [h]; exact hw, fun _ => .inl (by rw [h]; rfl)⟩, fun _ => h⟩

end

/-! ## Computations that keep -/

/-- From `s` the computation ends in a kept state, or raises an exception in one but for CR2. -/
def KeepsAt {α : Type} (L : Word → Prop) (s : State) (m : M α) : Prop :=
  (∀ v t, m s = .ok v t → Kept L s t) ∧ ∀ e t, m s = .error e t → (∃ x, e = .exc x) ∧ Kept L { s with cr := { s.cr with cr2 := t.cr.cr2 } } t

theorem keepsOrFaults_iff {α : Type} (L : State → Word → Prop) (m : M α) : KeepsOrFaults L m ↔ ∀ s, KeepsAt (L s) s m := Iff.rfl

section
variable {α β : Type} {L : Word → Prop} {s : State}

theorem KeepsAt.of_ok {m : M α} {v : α} {t : State} (h : m s = .ok v t) (hk : Kept L s t) : KeepsAt L s m := by
  refine ⟨fun v' t' h' => ?_, fun e t' h' => ?_⟩
  · rw [h] at h'
    cases h'
    exact hk
  · rw [h] at h'
    cases h'

theorem KeepsAt.bind {m : M α} {f : α → M β} (hm : KeepsAt L s m) (hf : ∀ a t, m s = .ok a t → KeepsAt L t (f a)) : KeepsAt L s (m >>= f) := by
  obtain ⟨hok, herr⟩ := hm
  unfold KeepsAt
  rw [bind_run]
  cases hr : m s with
  | error e t =>
    refine ⟨fun v' t' h => (nomatch h), fun e' t' h => ?_⟩
    cases h
    exact herr e t hr
  | ok a t =>
    obtain ⟨hok', herr'⟩ := hf a t hr
    have hk := hok a t hr
    refine ⟨fun v u h => kept_trans hk (hok' v u h), fun e u h => ?_⟩
    obtain ⟨hexc, hu⟩ := herr' e u h
    exact ⟨hexc, kept_trans (kept_with_cr2 hk u.cr.cr2) hu⟩

theorem KeepsAt.pure (a : α) : KeepsAt L s (pure a : M α) := .of_ok rfl (kept_refl L s)

theorem KeepsAt.get_bind {f : State → M β} (h : KeepsAt L s (f s)) : KeepsAt L s (get >>= f) := h

theorem KeepsAt.raise (v : Nat) (c : Option Word) : KeepsAt L s (raise v c : M α) := by
  refine ⟨fun v' t' h => (nomatch h), fun e' t' h => ?_⟩
  cases h
  exact ⟨⟨_, rfl⟩, kept_refl L s⟩

theorem KeepsAt.ite {c : Prop} [Decidable c] {m k : M α} (hm : c → KeepsAt L s m) (hk : ¬ c → KeepsAt L s k) : KeepsAt L s (if c then m else k) := by
  split <;> rename_i h
  · exact hm h
  · exact hk h

/-- A guard that raises. -/
theorem KeepsAt.require {b : Bool} {els : M Unit} {f : Unit → M β} (he : KeepsAt L s els) (hstop : ∀ a t, els s ≠ .ok a t)
    (hf : b = true → KeepsAt L s (f ())) : KeepsAt L s (require b els >>= f) := by
  cases b with
  | true => exact hf rfl
  | false => exact .bind he fun a t h => absurd h (hstop a t)

theorem KeepsAt.require_raise {b : Bool} {v : Nat} {c : Option Word} {f : Unit → M β} (hf : b = true → KeepsAt L s (f ())) :
    KeepsAt L s (Machine.require b (Machine.raise v c) >>= f) := .require (.raise v c) (fun _ _ h => nomatch h) hf

theorem KeepsAt.load (ps : List Word) : KeepsAt L s (load ps) := by
  obtain ⟨v, n, b, h, htraffic, -⟩ := load_bytes ps s
  exact .of_ok h (kept_of_traffic rfl rfl htraffic)

theorem KeepsAt.physRead32 (a : Word) : KeepsAt L s (physRead32 a) := by
  obtain ⟨v, n, b, h, htraffic, -⟩ := physRead32_bytes a s
  exact .of_ok h (kept_of_traffic rfl rfl htraffic)

theorem KeepsAt.drawBool : KeepsAt L s drawBool := .of_ok (drawBool_run s) (kept_of_traffic rfl rfl (.of_eq rfl))

theorem pageFault_error (lin : Word) (a : Access) (p r : Bool) (s : State) : ∃ c, (pageFault lin a p r : M α) s =
    .error (.exc { vec := 14, code := some c, dbg := none }) { s with cr := { s.cr with cr2 := lin } } :=
  ⟨_, by rw [pageFault, modify_bind, raise_run]⟩

theorem KeepsAt.pageFault (lin : Word) (a : Access) (p r : Bool) : KeepsAt L s (pageFault lin a p r : M α) := by
  obtain ⟨c, h⟩ := pageFault_error (α := α) lin a p r s
  refine ⟨fun v t h' => ?_, fun e t h' => ?_⟩
  · rw [h] at h'
    cases h'
  · rw [h] at h'
    cases h'
    exact ⟨⟨_, rfl⟩, kept_refl L _⟩

theorem KeepsAt.require_pageFault {lin : Word} {a : Access} {p r b : Bool} {f : Unit → M β} (hf : b = true → KeepsAt L s (f ())) :
    KeepsAt L s (Machine.require b (Machine.pageFault lin a p r) >>= f) :=
  .require (.pageFault lin a p r) (fun _ _ h => by obtain ⟨c, h'⟩ := pageFault_error (α := Unit) lin a p r s; rw [h'] at h; cases h) hf

theorem KeepsAt.quietly {m : M α} (h : KeepsAt L s m) : KeepsAt L s (quietly m) := by
  obtain ⟨hok, herr⟩ := h
  unfold KeepsAt
  rw [quietly_run]
  cases hr : m s with
  | error e t => exact ⟨fun v' t' h => (nomatch h), fun e' t' h => by cases h; exact herr e t hr⟩
  | ok a t =>
    obtain ⟨hframe, hnoted, -, hmem, hpg⟩ := hok a t hr
    refine ⟨fun v' t' h => ?_, fun e' t' h => (nomatch h)⟩
    cases h
    exact ⟨by rw [hframe], hnoted, ⟨[], rfl, fun _ h => nomatch h⟩, hmem, fun hoff => by rw [hpg hoff]⟩

end

/-! ## Page entries -/

section
variable {L : Word → Prop} {lin : Word} {s : State}

theorem kept_onlyMem {t : State} {a : Nat} (hm : OnlyMem s t) (htraffic : DeviceTraffic s t) (hpg : s.pg = true)
    (hbytes : Memory.wf s.mem = true → Memory.wf t.mem = true ∧
      ∀ b, byteAt t b = byteAt s b ∨ (b = a ∧ byteAt t b ||| 0x60 = byteAt s b ||| 0x60))
    (hentry : Memory.wf s.mem = true → pageEntryByte s lin a) (hL : L lin) : Kept L s t := by
  refine ⟨?_, ?_, htraffic, fun hw => ⟨(hbytes hw).1, fun b => ((hbytes hw).2 b).imp_right ?_⟩, fun hoff => ?_⟩
  · unfold OnlyMem at hm
    rw [hm]
  · unfold OnlyMem at hm
    rw [hm]
    rfl
  · rintro ⟨rfl, hbits⟩
    exact ⟨hbits, hpg, lin, hL, hentry hw⟩
  · rw [hpg] at hoff
    cases hoff

theorem KeepsAt.tlbInsert (fetch : Bool) (e : TlbEntry) (hpg : s.pg = true) : KeepsAt L s (tlbInsert fetch e) := by
  refine .of_ok (modify_run ..) ?_
  refine ⟨?_, ?_, ?_, ?_, fun hoff => by rw [hpg] at hoff; cases hoff⟩
  · split <;> rfl
  · split <;> rfl
  · split <;> exact ⟨[], rfl, fun _ h => nomatch h⟩
  · split <;> exact fun hw => ⟨hw, fun _ => .inl rfl⟩

/-- The entry `e` was read at `a` and stands there still, but for A and D. -/
def EntryStands (s : State) (a e : Word) : Prop :=
  (∀ j, 1 ≤ j → j < 4 → held s (physAt s (a + BitVec.ofNat 32 j)) → e.extractLsb' (8 * j) 8 = byteAt s (physAt s (a + BitVec.ofNat 32 j))) ∧
  (held s (physAt s a) → e.extractLsb' 0 8 ||| 0x60 = byteAt s (physAt s a) ||| 0x60)

theorem EntryStands.of_read {a e : Word} {t : State} (h : physRead32 a s = .ok e t) : EntryStands t a e := by
  obtain ⟨v, n, b, hv, -, hbytes⟩ := physRead32_bytes a s
  rw [h] at hv
  cases hv
  refine ⟨fun j _ h4 => hbytes j h4, fun hheld => ?_⟩
  have h0 := hbytes 0 (by decide) (by rwa [show a + BitVec.ofNat 32 0 = a from BitVec.add_zero a])
  rw [show a + BitVec.ofNat 32 0 = a from BitVec.add_zero a, Nat.mul_zero] at h0
  rw [h0]
  rfl

theorem EntryStands.kept {a e : Word} {t : State} (h : EntryStands s a e) (ha : a.toNat % 4 = 0) (hk : Kept L s t) (hw : Memory.wf s.mem = true) :
    EntryStands t a e := by
  obtain ⟨hframe, -, -, hmem, -⟩ := hk
  have hphys (x : Word) : physAt t x = physAt s x := by rw [hframe]; rfl
  have hheld (x : Nat) : held t x ↔ held s x := by rw [hframe]; rfl
  obtain ⟨hhigh, hlow⟩ := h
  refine ⟨fun j h1 h4 hj => ?_, fun h0 => ?_⟩
  · rw [hphys] at hj ⊢
    rw [hhigh j h1 h4 ((hheld _).mp hj)]
    refine (((hmem hw).2 _).resolve_right fun ⟨_, _, lin', _, hentry⟩ => ?_).symm
    have h0 := pageEntryByte_aligned hentry
    rw [a20_mod_four, aligned_add ha] at h0
    omega
  · rw [hphys] at h0 ⊢
    rw [hlow ((hheld _).mp h0)]
    rcases (hmem hw).2 (physAt s a) with h | ⟨h, -⟩
    · rw [h]
    · rw [h]

theorem KeepsAt.setEntryBits {a e : Word} (write : Bool) (hpg : s.pg = true) (hL : L lin) (hstands : Memory.wf s.mem = true → EntryStands s a e)
    (hentry : Memory.wf s.mem = true → pageEntryByte s lin (physAt s a)) : KeepsAt L s (setEntryBits a e (entryBits write)) := by
  obtain ⟨t, ht, hm, htraffic, hbytes⟩ := setEntryBits_bytes (a := a) (old := e) (u := s) write
    (fun hw j h1 h4 hr => (hstands hw).1 j h1 h4 (.inl hr)) (fun hw hr => (hstands hw).2 (.inl hr))
  exact .of_ok ht (kept_onlyMem hm htraffic hpg hbytes hentry hL)

theorem pageEntryByte_pde (s : State) (lin : Word) : pageEntryByte s lin (physAt s (pdeAddr s.cr.cr3 lin)) := .inl rfl

theorem pageEntryByte_pte {pde : Word} (h : EntryStands s (pdeAddr s.cr.cr3 lin) pde) : pageEntryByte s lin (physAt s (pteAddr pde lin)) :=
  .inr ⟨pde, rfl, fun j h1 h4 hheld => h.1 j h1 h4 hheld⟩

theorem setEntryBits_traffic (a e bits : Word) (s : State) : ∃ t, Machine.setEntryBits a e bits s = .ok (e ||| bits) t ∧ OnlyMem s t ∧ DeviceTraffic s t := by
  rw [setEntryBits_run]
  split
  · exact ⟨s, rfl, .refl s, .of_eq rfl⟩
  · obtain ⟨t, ht, hm, htraffic, -⟩ := store_bytes (consecutive a 4) (e ||| bits).toNat s
    exact ⟨t, by rw [physWrite, bind_of_ok ht]; rfl, hm, htraffic⟩

/-- A computation that starts with one that ends in a kept state. -/
theorem KeepsAt.of_run_eq {α : Type} {m m' : M α} {t : State} (h : m s = m' t) (hk : Kept L s t) (hm : KeepsAt L t m') : KeepsAt L s m := by
  obtain ⟨hok, herr⟩ := hm
  refine ⟨fun v u hu => kept_trans hk (hok v u (h ▸ hu)), fun e u hu => ?_⟩
  obtain ⟨hexc, hku⟩ := herr e u (h ▸ hu)
  exact ⟨hexc, kept_trans (kept_with_cr2 hk u.cr.cr2) hku⟩

/-- Marking the directory entry and the table entry of one translation (R262). -/
theorem setEntries_kept {pde pte : Word} (write : Bool) (hpg : s.pg = true) (hL : L lin) (hpde : EntryStands s (pdeAddr s.cr.cr3 lin) pde)
    (hpte : EntryStands s (pteAddr pde lin) pte) :
    ∃ t u, Machine.setEntryBits (pdeAddr s.cr.cr3 lin) pde (entryBits false) s = .ok (pde ||| entryBits false) t ∧
      Machine.setEntryBits (pteAddr pde lin) pte (entryBits write) t = .ok (pte ||| entryBits write) u ∧ Kept L s u := by
  obtain ⟨t, ht, hm, htraffic⟩ := setEntryBits_traffic (pdeAddr s.cr.cr3 lin) pde (entryBits false) s
  obtain ⟨u, hu, hm', htraffic'⟩ := setEntryBits_traffic (pteAddr pde lin) pte (entryBits write) t
  have hk : Kept L s t := (KeepsAt.setEntryBits false hpg hL (fun _ => hpde) fun _ => pageEntryByte_pde s lin).1 _ _ ht
  refine ⟨t, u, ht, hu, ?_⟩
  by_cases hw : Memory.wf s.mem = true
  · have hcr : t.cr.cr3 = s.cr.cr3 := by
      unfold OnlyMem at hm
      rw [hm]
    have hpde' := hpde.kept (pdeAddr_aligned ..) hk hw
    rw [← hcr] at hpde'
    exact kept_trans hk ((KeepsAt.setEntryBits write ((kept_pg_eq hk).trans hpg) hL (fun _ => hpte.kept (pteAddr_aligned ..) hk hw)
      fun _ => pageEntryByte_pte hpde').1 _ _ hu)
  · refine ⟨?_, ?_, htraffic.trans htraffic', fun h => absurd h hw, fun hoff => by rw [hpg] at hoff; cases hoff⟩
    · have h := hm.trans hm'
      unfold OnlyMem at h
      rw [h]
    · have h := hm.trans hm'
      unfold OnlyMem at h
      rw [h]
      rfl

/-! ## Translation -/

theorem KeepsAt.walkSmall {a : Access} {wp : Bool} {pde pte : Word} (hpg : s.pg = true) (hL : L lin)
    (hpde : EntryStands s (pdeAddr s.cr.cr3 lin) pde) (hpte : EntryStands s (pteAddr pde lin) pte) :
    KeepsAt L s (walkSmall lin a wp (pdeAddr s.cr.cr3 lin) (pteAddr pde lin) pde pte) := by
  refine .require_pageFault fun _ => .ite (fun _ => ?_) fun _ => ?_
  · obtain ⟨t, u, ht, hu, hk⟩ := setEntries_kept a.write hpg hL hpde hpte
    refine .of_run_eq ((bind_of_ok ht).trans (bind_of_ok hu)) hk ?_
    exact .bind (.tlbInsert _ _ ((kept_pg_eq hk).trans hpg)) fun _ _ _ => .pure _
  · exact .bind (.setEntryBits false hpg hL (fun _ => hpde) fun _ => pageEntryByte_pde s lin) fun _ _ _ => .pageFault ..

theorem KeepsAt.walkBig {a : Access} {wp : Bool} {pde : Word} (hpg : s.pg = true) (hL : L lin)
    (hpde : EntryStands s (pdeAddr s.cr.cr3 lin) pde) : KeepsAt L s (walkBig lin a wp (pdeAddr s.cr.cr3 lin) pde) :=
  .require_pageFault fun _ => .require_pageFault fun _ =>
    .bind (.setEntryBits a.write hpg hL (fun _ => hpde) fun _ => pageEntryByte_pde s lin) fun _ _ ht =>
      .bind (.tlbInsert _ _ ((kept_pg_eq ((KeepsAt.setEntryBits a.write hpg hL (fun _ => hpde) fun _ => pageEntryByte_pde s lin).1 _ _ ht)).trans hpg))
        fun _ _ _ => .pure _

theorem physRead32_frame {a v : Word} {t : State} (h : Machine.physRead32 a s = .ok v t) : t = { s with draws := t.draws, bus := t.bus } := by
  obtain ⟨v', n, b, h', -⟩ := physRead32_bytes a s
  rw [h] at h'
  cases h'
  rfl

theorem KeepsAt.walk (a : Access) (hpg : s.pg = true) (hL : L lin) : KeepsAt L s (walk lin a) := by
  refine .of_run_eq (walk_run lin a s) (kept_refl L s) ?_
  refine .bind (.physRead32 _) fun pde t ht => .require_pageFault fun _ => ?_
  have hpde := EntryStands.of_read ht
  have hframe := physRead32_frame ht
  have hcr : t.cr = s.cr := by rw [hframe]
  have hpgt : t.pg = true := by rw [hframe]; exact hpg
  rw [← hcr] at hpde ⊢
  refine .ite (fun _ => .walkBig hpgt hL hpde) fun _ => .bind (.physRead32 _) fun pte u hu => ?_
  have hframe' := physRead32_frame hu
  have hcr' : u.cr = t.cr := by rw [hframe']
  have hpde' : EntryStands u (pdeAddr t.cr.cr3 lin) pde := by rw [hframe']; exact hpde
  rw [← hcr'] at hpde' ⊢
  exact .walkSmall (by rw [hframe']; exact hpgt) hL hpde' (.of_read hu)

theorem KeepsAt.tlbCurrent (e : TlbEntry) (lin' : Word) (w : Bool) : KeepsAt L s (tlbCurrent e lin' w) :=
  .quietly (.get_bind (.bind (.physRead32 _) fun _ _ _ => .ite (fun _ => .pure _) fun _ => .ite (fun _ => .pure _) fun _ =>
    .bind (.physRead32 _) fun _ _ _ => .pure _))

theorem KeepsAt.translate (a : Access) (hL : L lin) : KeepsAt L s (Machine.translate lin a) := by
  refine .get_bind (.ite (fun _ => .pure _) fun hpg => ?_)
  rw [Bool.not_eq_true', Bool.not_eq_false] at hpg
  dsimp only
  split
  · exact .walk a hpg hL
  · refine .bind (.tlbCurrent ..) fun _ t ht => ?_
    have hpgt := (kept_pg_eq ((KeepsAt.tlbCurrent (L := L) ..).1 _ _ ht)).trans hpg
    refine .ite (fun _ => .walk a hpgt hL) fun _ => .bind .drawBool fun _ u hu => ?_
    have hpgu := (kept_pg_eq (KeepsAt.drawBool (L := L) |>.1 _ _ hu)).trans hpgt
    exact .ite (fun _ => .require_pageFault fun _ => .pure _) fun _ => .walk a hpgu hL

end

end Sys2Proof.Laws

end
end

section
/-! What an access checks, which bytes it gives, and what it keeps (23_protection.md R330, R335, 30_encoding.md R423, R425). -/

noncomputable section

namespace Sys2Proof.Laws

open Sys2Proof Sys2Proof.Machine Sys2Proof.Claims

/-! ## Effective addresses -/

theorem disp_ofInt (d : Disp) : Disp.value d = BitVec.ofInt 32 (dispInt d) := by
  cases d with
  | none => rfl
  | d8 v => rfl
  | d16 v => rfl
  | d32 v => exact BitVec.ofInt_toInt.symm

theorem word_ofInt (x : Word) : x = BitVec.ofInt 32 (x.toNat : Int) := by
  rw [BitVec.ofInt_natCast, BitVec.ofNat_toNat, BitVec.setWidth_eq]

theorem sibIndex_ofInt (g : GRegs) (sc : BitVec 2) (i : Reg) : sibIndex g sc i = BitVec.ofInt 32 (indexInt g sc i) := by
  unfold sibIndex indexInt
  split
  · rfl
  · rw [show ((g.get i).toNat : Int) * 2 ^ sc.toNat = ((g.get i).toNat * 2 ^ sc.toNat : Nat) by push_cast; rfl, BitVec.ofInt_natCast]
    apply BitVec.eq_of_toNat_eq
    rw [BitVec.toNat_shiftLeft, Nat.shiftLeft_eq, BitVec.toNat_ofNat]

theorem ofInt_toNat (z : Int) : ((BitVec.ofInt 32 z).toNat : Int) = z % 2 ^ 32 := by
  rw [BitVec.toNat_ofInt]
  omega

theorem base16_sum (g : GRegs) (b : Base16) : ∃ z : Int, Base16.sum g b = BitVec.ofInt 32 z ∧
    z % 2 ^ 16 = ((formRegs b).map fun r => ((g.read 16 r).toNat : Int)).sum % 2 ^ 16 := by
  have hread (r : Reg) : ((g.read 16 r).toNat : Int) = (g.get r).toNat % 2 ^ 16 := by
    show ((g.read Size.s16.bits r).toNat : Int) = _
    rw [read_bits]
    exact congrArg Nat.cast (BitVec.toNat_setWidth 16 (g.get r))
  have htwo (x y : Reg) : ∃ z : Int, g.get x + g.get y = BitVec.ofInt 32 z ∧
      z % 2 ^ 16 = (((g.read 16 x).toNat : Int) + ((g.read 16 y).toNat + 0)) % 2 ^ 16 := by
    refine ⟨(g.get x).toNat + (g.get y).toNat, ?_, by rw [hread, hread]; omega⟩
    rw [BitVec.ofInt_add, ← word_ofInt, ← word_ofInt]
  have hone (x : Reg) : ∃ z : Int, g.get x = BitVec.ofInt 32 z ∧ z % 2 ^ 16 = (((g.read 16 x).toNat : Int) + 0) % 2 ^ 16 :=
    ⟨(g.get x).toNat, word_ofInt _, by rw [hread]; omega⟩
  cases b with
  | bxsi => exact htwo .ebx .esi
  | bxdi => exact htwo .ebx .edi
  | bpsi => exact htwo .ebp .esi
  | bpdi => exact htwo .ebp .edi
  | si => exact hone .esi
  | di => exact hone .edi
  | bp => exact hone .ebp
  | bx => exact hone .ebx

theorem and_FFFF_toNat (x : Word) : (x &&& 0xFFFF).toNat = x.toNat % 2 ^ 16 := by
  rw [and_low_half, BitVec.toNat_setWidth, BitVec.toNat_setWidth]
  omega

/-- The offset of a memory operand is the sum of its parts cut to the address size (R425). -/
theorem offset_eq_formSum (g : GRegs) (m : MemOp) : ((MemOp.offset g m).toNat : Int) = (formSum g m).2 % 2 ^ (formSum g m).1 := by
  cases m with
  | direct16 d =>
    have hd := d.isLt
    show ((d.setWidth 32).toNat : Int) = (d.toNat : Int) % 2 ^ 16
    rw [BitVec.toNat_setWidth]
    omega
  | base16 b d =>
    obtain ⟨z, hz, hmod⟩ := base16_sum g b
    show (((Base16.sum g b + Disp.value d) &&& 0xFFFF).toNat : Int) = (_ + dispInt d) % 2 ^ 16
    rw [and_FFFF_toNat, hz, disp_ofInt, ← BitVec.ofInt_add]
    have hlow := ofInt_toNat (z + dispInt d)
    omega
  | direct32 d =>
    have hd := d.isLt
    show (d.toNat : Int) = (d.toNat : Int) % 2 ^ 32
    omega
  | base32 b d =>
    show ((g.get b + Disp.value d).toNat : Int) = ((g.get b).toNat + dispInt d) % 2 ^ 32
    rw [← ofInt_toNat, BitVec.ofInt_add, ← word_ofInt, disp_ofInt]
  | sib sc i b d =>
    show ((g.get b + sibIndex g sc i + Disp.value d).toNat : Int) = ((g.get b).toNat + indexInt g sc i + dispInt d) % 2 ^ 32
    rw [← ofInt_toNat, BitVec.ofInt_add, BitVec.ofInt_add, ← word_ofInt, disp_ofInt, sibIndex_ofInt]
  | sibNoBase sc i d =>
    show ((sibIndex g sc i + d).toNat : Int) = (indexInt g sc i + d.toNat) % 2 ^ 32
    rw [← ofInt_toNat, BitVec.ofInt_add, ← word_ofInt, sibIndex_ofInt]

theorem defaultSeg_eq (m : MemOp) : (usesSs m → MemOp.defaultSeg m = .ss) ∧ (¬ usesSs m → MemOp.defaultSeg m = .ds) := by
  cases m with
  | direct16 d => exact ⟨False.elim, fun _ => rfl⟩
  | base16 b d => cases b <;> simp [usesSs, formRegs, MemOp.defaultSeg]
  | direct32 d => exact ⟨False.elim, fun _ => rfl⟩
  | base32 b d => cases b <;> simp [usesSs, MemOp.defaultSeg]
  | sib sc i b d => cases b <;> simp [usesSs, MemOp.defaultSeg]
  | sibNoBase sc i d => exact ⟨False.elim, fun _ => rfl⟩

theorem eaSeg_override {s : State} {m : MemOp} {sr : SReg} (h : s.cur.seg = some sr) : s.eaSeg m = sr := by
  rw [State.eaSeg, State.segOr, h]
  rfl

theorem eaSeg_default {s : State} {m : MemOp} (h : s.cur.seg = none) : s.eaSeg m = MemOp.defaultSeg m := by
  rw [State.eaSeg, State.segOr, h]
  rfl

/-! ## The segment checks -/

section
variable {s : State} {sz : Size} {sr : SReg} {off : Word} {n : Nat} {k : Kind}

theorem typeAllows_iff (a : Attr) (hk : k ≠ .x) : typeAllows a k = true ↔
    ¬ (if k = .r then a.typ.getLsbD 3 = true ∧ ¬ a.typ.getLsbD 1 = true else a.typ.getLsbD 3 = true ∨ ¬ a.typ.getLsbD 1 = true) := by
  cases k with
  | x => exact absurd rfl hk
  | _ =>
    unfold typeAllows Attr.isCode Attr.bitR bit
    generalize a.typ.getLsbD 3 = code
    generalize a.typ.getLsbD 1 = bit1
    cases code <;> cases bit1 <;> simp

theorem segBarred_iff (hk : k ≠ .x) : segBarred s sr k ↔
    s.pe = true ∧ ¬ ((s.segs.get sr).usable = true ∧ typeAllows (s.segs.get sr).attr k = true) := by
  rw [typeAllows_iff _ hk]
  refine and_congr_right fun _ => ?_
  rw [not_and_or, not_not]
  simp only [Bool.not_eq_true]

theorem noWrap_iff (sz : Size) (off n : Nat) : noWrap sz off n = true ↔ ¬ (sz = .s16 ∧ 2 ^ 16 < off + n) := by
  cases sz with
  | s16 => simp [noWrap]
  | s32 => simp [noWrap]

theorem inLimit_iff {g : Seg} {o : Nat} (h0 : 0 < n) : inLimit g o n = true ↔
    ¬ if g.attr.typ.getLsbD 3 = false ∧ g.attr.typ.getLsbD 2 = true then o ≤ g.limit.toNat ∨ (if g.attr.db then 2 ^ 32 else 2 ^ 16) < o + n
      else g.limit.toNat + 1 < o + n := by
  have hdown : g.attr.expandDown = true ↔ g.attr.typ.getLsbD 3 = false ∧ g.attr.typ.getLsbD 2 = true := by
    simp [Attr.expandDown, Attr.isCode, Attr.bitC, bit]
  by_cases h : g.attr.typ.getLsbD 3 = false ∧ g.attr.typ.getLsbD 2 = true
  · rw [inLimit, if_pos (hdown.mpr h), if_pos h, Bool.and_eq_true, decide_eq_true_iff, decide_eq_true_iff]
    split <;> omega
  · rw [inLimit, if_neg (mt hdown.mp h), if_neg h, decide_eq_true_iff]
    omega

/-- The limit checks of both modes against the words of R330 and R1262. -/
theorem segBeyond_iff (h0 : 0 < n) : segBeyond s sz sr off.toNat n ↔
    ¬ (if s.pe = true then inReach sz (s.segs.get sr) off.toNat n = true
      else (noWrap sz off.toNat n && inLimitReal (s.segs.get sr) off.toNat n) = true) := by
  unfold segBeyond
  dsimp only
  by_cases hpe : s.pe = true
  · rw [if_pos hpe, inReach, Bool.and_eq_true, noWrap_iff, inLimit_iff h0, not_and_or, not_not, not_not]
    simp only [hpe, true_and]
  · rw [if_neg hpe, Bool.and_eq_true, noWrap_iff, inLimitReal, decide_eq_true_iff, not_and_or, not_not, if_neg (fun h => hpe h.1)]
    exact or_congr_right (by omega)

theorem segFault_run (sr : SReg) (s : State) : (segFault sr : M Unit) s = .error (.exc (limitFault sr)) s := by
  cases sr <;> rfl

theorem segLinear_barred (hk : k ≠ .x) (h : segBarred s sr k) : segLinear sz sr off n k s = .error (.exc gp0) s := by
  obtain ⟨hpe, hno⟩ := (segBarred_iff hk).mp h
  rw [segLinear, get_bind, if_pos hpe, guard_gp]
  by_cases hu : (s.segs.get sr).usable = true
  · rw [if_pos hu, guard_gp, if_neg fun ht => hno ⟨hu, ht⟩]
    rfl
  · rw [if_neg hu]
    rfl

theorem segLinear_beyond (hk : k ≠ .x) (h0 : 0 < n) (hb : ¬ segBarred s sr k) (h : segBeyond s sz sr off.toNat n) :
    segLinear sz sr off n k s = .error (.exc (limitFault sr)) s := by
  rw [segBeyond_iff h0] at h
  rw [segLinear, get_bind]
  by_cases hpe : s.pe = true
  · have hok : (s.segs.get sr).usable = true ∧ typeAllows (s.segs.get sr).attr k = true := by
      by_contra hno
      exact hb ((segBarred_iff hk).mpr ⟨hpe, hno⟩)
    rw [if_pos hpe] at h
    rw [if_pos hpe, hok.1, require_true, pure_bind, hok.2, require_true, pure_bind, Bool.eq_false_iff.mpr h, require_false,
      bind_of_error (segFault_run ..)]
  · rw [if_neg hpe] at h
    rw [if_neg hpe, Bool.eq_false_iff.mpr h, require_false, bind_of_error (segFault_run ..)]

theorem segLinear_passes (hk : k ≠ .x) (h0 : 0 < n) (hb : ¬ segBarred s sr k) (h : ¬ segBeyond s sz sr off.toNat n) :
    segLinear sz sr off n k s = .ok ((s.segs.get sr).base + off) s := by
  rw [segBeyond_iff h0, not_not] at h
  refine segLinear_eq_ok.mpr ⟨?_, rfl, rfl⟩
  by_cases hpe : s.pe = true
  · have hok : (s.segs.get sr).usable = true ∧ typeAllows (s.segs.get sr).attr k = true := by
      by_contra hno
      exact hb ((segBarred_iff hk).mpr ⟨hpe, hno⟩)
    rw [if_pos hpe] at h ⊢
    exact ⟨hok.1, hok.2, h⟩
  · rw [if_neg hpe] at h ⊢
    exact h

end

/-! ## The latch -/

theorem load_keepsLatch (ps : List Word) : KeepsLatch (load ps) := fun s => by
  obtain ⟨v, n, b, h, -⟩ := load_effect ps s
  rw [h]
  rfl

theorem KeepsLatch.ite {α : Type} {c : Prop} [Decidable c] {m k : M α} (hm : KeepsLatch m) (hk : KeepsLatch k) : KeepsLatch (if c then m else k) := by
  split
  · exact hm
  · exact hk

theorem pageFault_keepsLatch {α : Type} (lin : Word) (a : Access) (p r : Bool) : KeepsLatch (pageFault lin a p r : M α) := fun _ => rfl

theorem require_keepsLatch {b : Bool} {els : M Unit} (h : KeepsLatch els) : KeepsLatch (Machine.require b els) := .ite (fun _ => rfl) h

theorem setEntryBits_keepsLatch (a e b : Word) : KeepsLatch (setEntryBits a e b) :=
  .ite (fun _ => rfl) (.bind (physWrite_keepsLatch _ _ _) fun _ _ => rfl)

theorem tlbInsert_keepsLatch (f : Bool) (e : TlbEntry) : KeepsLatch (tlbInsert f e) := fun _ => by
  cases f <;> rfl

theorem physRead32_keepsLatch (a : Word) : KeepsLatch (physRead32 a) := .bind (load_keepsLatch _) fun _ _ => rfl

theorem walk_keepsLatch (lin : Word) (a : Access) : KeepsLatch (walk lin a) := by
  refine .bind (fun _ => rfl) fun s => .bind (physRead32_keepsLatch _) fun pde => .bind (require_keepsLatch (pageFault_keepsLatch _ _ _ _)) fun _ =>
    .ite ?bigPage (.bind (physRead32_keepsLatch _) fun pte => .bind (require_keepsLatch (pageFault_keepsLatch _ _ _ _)) fun _ => .ite ?permitted ?refused)
  case bigPage =>
    exact .bind (require_keepsLatch (pageFault_keepsLatch _ _ _ _)) fun _ => .bind (require_keepsLatch (pageFault_keepsLatch _ _ _ _)) fun _ =>
      .bind (setEntryBits_keepsLatch _ _ _) fun _ => .bind (tlbInsert_keepsLatch _ _) fun _ _ => rfl
  case permitted =>
    exact .bind (setEntryBits_keepsLatch _ _ _) fun _ => .bind (setEntryBits_keepsLatch _ _ _) fun _ => .bind (tlbInsert_keepsLatch _ _) fun _ _ => rfl
  case refused => exact .bind (setEntryBits_keepsLatch _ _ _) fun _ => pageFault_keepsLatch _ _ _ _

theorem tlbCurrent_keepsLatch (e : TlbEntry) (lin : Word) (w : Bool) : KeepsLatch (tlbCurrent e lin w) :=
  .bind (fun _ => rfl) fun _ => .bind (.bind (fun _ => rfl) fun _ => .bind (physRead32_keepsLatch _) fun _ => .ite (fun _ => rfl)
    (.ite (fun _ => rfl) (.bind (physRead32_keepsLatch _) fun _ _ => rfl))) fun _ => .bind (fun _ => rfl) fun _ _ => rfl

theorem translate_keepsLatch (lin : Word) (a : Access) : KeepsLatch (Machine.translate lin a) := by
  refine .bind (fun _ => rfl) fun s => .ite (fun _ => rfl) ?_
  dsimp only
  split
  · exact walk_keepsLatch _ _
  · exact .bind (tlbCurrent_keepsLatch _ _ _) fun _ => .ite (walk_keepsLatch _ _) (.bind (fun _ => rfl) fun _ =>
      .ite (.bind (require_keepsLatch (pageFault_keepsLatch _ _ _ _)) fun _ _ => rfl) (walk_keepsLatch _ _))

theorem linAddrs_keepsLatch (lin : Word) (n : Nat) (a : Access) : KeepsLatch (linAddrs lin n a) :=
  .bind (translate_keepsLatch _ _) fun _ => .ite (fun _ => rfl) (.bind (translate_keepsLatch _ _) fun _ _ => rfl)

/-! ## What an access gives -/

section
variable {s t : State} {sz : Size} {sr : SReg} {off : Word} {n al : Nat} {k : Kind} {ps : List Word}

theorem kind_writes (hk : k ≠ .x) : k.writes = (k != .r) := by
  cases k with
  | x => exact absurd rfl hk
  | _ => rfl

theorem misaligned_iff (s : State) (lin : Word) (al : Nat) : misaligned s lin al ↔ ¬ (!s.alignOn || (lin.toNat % al == 0)) = true := by
  simp [misaligned, State.alignOn, State.am, bit, and_assoc]

theorem access_run (hk : k ≠ .x) (h0 : 0 < n) (hb : ¬ segBarred s sr k) (hbe : ¬ segBeyond s sz sr off.toNat n) :
    access sz sr off n al k s = (do
      let ps ← linAddrs ((s.segs.get sr).base + off) n { write := k != .r, user := s.cpl == 3, fetch := false }
      Machine.require (!s.alignOn || ((s.segs.get sr).base + off).toNat % al == 0) (raise 17 (some 0))
      noteRange (2 ^ 32) ((s.segs.get sr).base + off).toNat n (dataBreak k)
      pure ps : M (List Word)) s := by
  have hcheck : checkIf sz sr off n (fun lin => lin % al == 0) k s = (do
      let ps ← linAddrs ((s.segs.get sr).base + off) n { write := k != .r, user := s.cpl == 3, fetch := false }
      Machine.require (!s.alignOn || ((s.segs.get sr).base + off).toNat % al == 0) (raise 17 (some 0))
      pure ((s.segs.get sr).base + off, ps) : M (Word × List Word)) s := by
    rw [checkIf, bind_of_ok (segLinear_passes hk h0 hb hbe), get_bind, kind_writes hk]
  rw [access, accessIf, bind_run, hcheck, bind_run, bind_run]
  cases linAddrs ((s.segs.get sr).base + off) n { write := k != .r, user := s.cpl == 3, fetch := false } s with
  | error e u => rfl
  | ok ps u =>
    dsimp only
    cases (!s.alignOn || ((s.segs.get sr).base + off).toNat % al == 0) <;> rfl

theorem dataBreak_iff (hk : k ≠ .x) (x : BitVec 2) : dataBreak k x = true ↔ x.toNat = 3 ∨ (x.toNat = 1 ∧ k ≠ .r) := by
  have hw : k.writes = true ↔ k ≠ .r := by rw [kind_writes hk, bne_iff_ne]
  rw [dataBreak, Bool.or_eq_true, Bool.and_eq_true, beq_iff_eq, beq_iff_eq, hw, or_comm, ← BitVec.toNat_inj, ← BitVec.toNat_inj]
  rfl

theorem access_misaligned (hk : k ≠ .x) (h0 : 0 < n) (hb : ¬ segBarred s sr k) (hbe : ¬ segBeyond s sz sr off.toNat n)
    (hl : linAddrs ((s.segs.get sr).base + off) n { write := k != .r, user := s.cpl == 3, fetch := false } s = .ok ps t)
    (hm : misaligned s ((s.segs.get sr).base + off) al) :
    access sz sr off n al k s = .error (.exc { vec := 17, code := some 0, dbg := none }) t := by
  rw [access_run hk h0 hb hbe, bind_of_ok hl, Bool.eq_false_iff.mpr ((misaligned_iff ..).mp hm), require_false]
  rfl

theorem access_aligned (hk : k ≠ .x) (h0 : 0 < n) (hn : n ≤ 4096) (hb : ¬ segBarred s sr k) (hbe : ¬ segBeyond s sz sr off.toNat n)
    (hl : linAddrs ((s.segs.get sr).base + off) n { write := k != .r, user := s.cpl == 3, fetch := false } s = .ok ps t)
    (hm : ¬ misaligned s ((s.segs.get sr).base + off) al) :
    ∃ c, access sz sr off n al k s = .ok ps { t with cur := c } ∧
      breaksNoted s.dr (2 ^ 32) ((s.segs.get sr).base + off).toNat n (fun rw => rw = 3 ∨ (rw = 1 ∧ k ≠ .r)) s.cur c := by
  have hacc : OnlyAccess s t := linAddrs_checksOnly _ _ _ hl
  have hcur : t.cur = s.cur := by
    have h := linAddrs_keepsLatch ((s.segs.get sr).base + off) n { write := k != .r, user := s.cpl == 3, fetch := false } s
    rw [hl] at h
    exact h
  have hdr : t.dr = s.dr := by rw [hacc]
  obtain ⟨c, hc, hnoted⟩ := noteRange_noted (size := 2 ^ 32) (p := fun rw => rw = 3 ∨ (rw = 1 ∧ k ≠ .r)) (dataBreak_iff hk) ((s.segs.get sr).base + off).isLt h0 (hn.trans (by decide)) t
  rw [hdr, hcur] at hnoted
  refine ⟨c, ?_, hnoted⟩
  rw [access_run hk h0 hb hbe, bind_of_ok hl, not_not.mp (mt (misaligned_iff ..).mpr hm), require_true, pure_bind, bind_of_ok hc]
  rfl

end

/-! ## Page by page -/

theorem pageRoom_eq (lin : Word) : pageRoom lin = 4096 - lin.toNat % 4096 := congrArg (4096 - ·) (and_mask_toNat lin 12 (by decide))

section
variable {lin : Word} {n : Nat} {a : Access} {s u : State} {p : Word}

theorem linAddrs_inside (h : Machine.translate lin a s = .ok p u) (hn : n ≤ pageRoom lin) :
    linAddrs lin n a s = .ok ((List.range n).map fun j => p + BitVec.ofNat 32 j) u := by
  rw [linAddrs, bind_of_ok h, if_pos hn, ← consecutive_eq_map]
  rfl

theorem linAddrs_across (h : Machine.translate lin a s = .ok p u) (hn : pageRoom lin < n) : linAddrs lin n a s = (do
    let q ← Machine.translate (lin + BitVec.ofNat 32 (pageRoom lin)) a
    pure (((List.range (pageRoom lin)).map fun j => p + BitVec.ofNat 32 j) ++ (List.range (n - pageRoom lin)).map fun j => q + BitVec.ofNat 32 j)
      : M (List Word)) u := by
  simp only [linAddrs, bind_of_ok h, if_neg (not_le.mpr hn), acrossPages, consecutive_eq_map]

end

/-! ## What the checks keep -/

section
variable {L : Word → Prop} {s : State}

theorem linBytes_first (lin : Word) (n : Nat) : linBytes lin n lin := ⟨0, by omega, (BitVec.add_zero lin).symm⟩

theorem linBytes_room {lin : Word} {n : Nat} (h : ¬ n ≤ pageRoom lin) : linBytes lin n (lin + BitVec.ofNat 32 (pageRoom lin)) :=
  ⟨pageRoom lin, by omega, rfl⟩

theorem KeepsAt.linAddrs {lin : Word} {n : Nat} (a : Access) (hL : ∀ x, linBytes lin n x → L x) : KeepsAt L s (linAddrs lin n a) :=
  .bind (.translate a (hL _ (linBytes_first ..))) fun _ _ _ => .ite (fun _ => .pure _) fun h =>
    .bind (.translate a (hL _ (linBytes_room h))) fun _ _ _ => .pure _

theorem KeepsAt.tssAddrs {lin : Word} {n : Nat} (a : Access) (hL : ∀ x, linBytes lin n x → L x) : KeepsAt L s (tssAddrs lin n a) :=
  .ite (fun _ => .linAddrs a hL) fun h => .bind .drawBool fun _ _ _ => .ite
    (fun _ => .bind (.translate a (hL _ (linBytes_room h))) fun _ _ _ => .bind (.translate a (hL _ (linBytes_first ..))) fun _ _ _ => .pure _)
    fun _ => .linAddrs a hL

theorem KeepsAt.tssRead16 {lin : Word} (hL : ∀ x, linBytes lin 2 x → L x) : KeepsAt L s (tssRead16 lin) :=
  .bind (.bind (.tssAddrs _ hL) fun _ _ _ => .load _) fun _ _ _ => .pure _

theorem KeepsAt.sysRead {lin : Word} {n : Nat} (hL : ∀ x, linBytes lin n x → L x) : KeepsAt L s (sysRead lin n) :=
  .bind (.linAddrs _ hL) fun _ _ _ => .load _

theorem KeepsAt.sysRead32 {lin : Word} (hL : ∀ x, linBytes lin 4 x → L x) : KeepsAt L s (sysRead32 lin) :=
  .bind (.sysRead hL) fun _ _ _ => .pure _

theorem KeepsAt.readDescAt {lin : Word} (hL : ∀ x, linBytes lin 8 x → L x) : KeepsAt L s (readDescAt lin) := by
  refine .bind (.sysRead32 fun x ⟨j, hj, hx⟩ => hL x ⟨j, by omega, hx⟩) fun _ _ _ => .bind (.sysRead32 fun x ⟨j, hj, hx⟩ => hL x ?_) fun _ _ _ => .pure _
  refine ⟨4 + j, by omega, ?_⟩
  rw [hx, BitVec.ofNat_add, BitVec.add_assoc]
  rfl

theorem KeepsAt.segFault {α : Type} (sr : SReg) : KeepsAt L s (segFault sr : M α) := .ite (fun _ => .raise ..) fun _ => .raise ..

theorem KeepsAt.segLinear (sz : Size) (sr : SReg) (off : Word) (n : Nat) (k : Kind) : KeepsAt L s (segLinear sz sr off n k) :=
  .get_bind (.ite
    (fun _ => .require_raise fun _ => .require_raise fun _ => .require (.segFault sr) (fun _ t => segFault_ne_ok sr s t) fun _ => .pure _)
    fun _ => .require (.segFault sr) (fun _ t => segFault_ne_ok sr s t) fun _ => .pure _)

theorem KeepsAt.checkIf {sz : Size} {sr : SReg} {off : Word} {n : Nat} {ok : Nat → Bool} {k : Kind}
    (hL : ∀ x, linBytes ((s.segs.get sr).base + off) n x → L x) : KeepsAt L s (checkIf sz sr off n ok k) := by
  refine .bind (.segLinear ..) fun lin t h => ?_
  obtain ⟨-, rfl, rfl⟩ := segLinear_eq_ok.mp h
  exact .get_bind (.bind (.linAddrs _ hL) fun _ _ _ => .require_raise fun _ => .pure _)

theorem KeepsAt.noteBreaks (a k : Nat) (ok : BitVec 2 → Bool) : KeepsAt L s (noteBreaks a k ok) := by
  obtain ⟨c, hc, hnoted, -⟩ := noteBreaks_matched a k ok s
  exact .of_ok hc (kept_of_traffic rfl hnoted (.of_eq rfl))

theorem KeepsAt.accessIf {sz : Size} {sr : SReg} {off : Word} {n : Nat} {ok : Nat → Bool} {k : Kind}
    (hL : ∀ x, linBytes ((s.segs.get sr).base + off) n x → L x) : KeepsAt L s (accessIf sz sr off n ok k) :=
  .bind (.checkIf hL) fun _ _ _ => .bind (.bind (.noteBreaks ..) fun _ _ _ => .ite (fun _ => .pure _) fun _ => .noteBreaks ..) fun _ _ _ => .pure _

theorem KeepsAt.access {sz : Size} {sr : SReg} {off : Word} {n al : Nat} {k : Kind}
    (hL : ∀ x, linBytes ((s.segs.get sr).base + off) n x → L x) : KeepsAt L s (access sz sr off n al k) := .accessIf hL

theorem kept_segs {t : State} (h : Kept L s t) : t.segs = s.segs := by
  obtain ⟨hframe, -⟩ := h
  rw [hframe]

theorem KeepsAt.pushSlots {sz : Size} {n c : Nat} {sp : Word}
    (hL : ∀ i, i < c → ∀ x, linBytes (s.segs.ss.base + wrapSp sz (sp - BitVec.ofNat 32 (n * (i + 1)))) n x → L x) :
    KeepsAt L s (pushSlots sz n sp c) := by
  induction c generalizing s sp with
  | zero => exact .pure _
  | succ c ih =>
    have hfirst := hL 0 (Nat.succ_pos c)
    rw [Nat.zero_add, Nat.mul_one] at hfirst
    have haccess : KeepsAt L s (Machine.access sz .ss (wrapSp sz (sp - BitVec.ofNat 32 n)) n n .w) := .access hfirst
    refine .bind haccess fun ps t ht => .bind (ih fun i hi x hx => hL (i + 1) (Nat.succ_lt_succ hi) x ?_) fun _ _ _ => .pure _
    have hsegs : t.segs = s.segs := kept_segs (haccess.1 _ _ ht)
    rw [hsegs, wrapSp_sub, BitVec.sub_sub, ← BitVec.ofNat_add, Nat.add_comm, ← Nat.mul_succ] at hx
    exact hx

theorem KeepsAt.locate {w : Nat} {rm : RM} {k : Kind}
    (hL : ∀ m, rm = .mem m → ∀ x, linBytes ((s.segs.get (s.eaSeg m)).base + s.eaOff m) (w / 8) x → L x) : KeepsAt L s (locate w rm k) := by
  cases rm with
  | reg r => exact .pure _
  | mem m => exact .bind (.get_bind (.access (hL m rfl))) fun _ _ _ => .pure _

theorem KeepsAt.ioPermitted {port : Half} {n : Nat} (hL : ∀ j, j ≤ s.tr.limit.toNat → L (s.tr.base + BitVec.ofNat 32 j)) :
    KeepsAt L s (ioPermitted port n) := by
  have hword {k : Nat} (hk : k + 1 ≤ s.tr.limit.toNat) (x : Word) (hx : linBytes (s.tr.base + BitVec.ofNat 32 k) 2 x) : L x := by
    obtain ⟨j, hj, rfl⟩ := hx
    rw [BitVec.add_assoc, ← BitVec.ofNat_add]
    exact hL _ (by omega)
  refine .get_bind (.ite (fun _ => .pure _) fun _ => .require_raise fun _ => .require_raise fun hlimit => ?_)
  rw [decide_eq_true_iff] at hlimit
  refine .bind (.tssRead16 (hword (k := 0x66) hlimit)) fun map t _ => .require_raise fun hoff => ?_
  rw [decide_eq_true_iff] at hoff
  refine .bind (.tssRead16 (hword hoff)) fun bits u _ => ?_
  exact .ite (fun _ => .pure _) fun _ => .raise ..

end

/-- What a load answers: below 256 to the number of its bytes, and from RAM the bytes themselves (R201, R210). -/
theorem load_answers (ps : List Word) (s : State) : ∃ v k b, load ps s = .ok v { s with draws := k, bus := b } ∧ v < 256 ^ ps.length ∧
    ((∀ a ∈ addrs s ps, regionAt s.memMap a = none) → k = s.draws ∧ b = s.bus ∧
      ∀ j (h : j < (addrs s ps).length), v / 256 ^ j % 256 = (byteAt s (addrs s ps)[j]).toNat) := by
  obtain ⟨v, k, b, hv, -, hbytes, hram⟩ := load_bytes ps s
  refine ⟨v, k, b, hv, load_lt hv, fun hall => ?_⟩
  have hall' (a : Word) (ha : a ∈ ps) : regionAt s.memMap (physAt s a) = none := hall _ (List.mem_map_of_mem ha)
  obtain ⟨hk, hb⟩ := hram hall'
  refine ⟨hk, hb, fun j hj => ?_⟩
  have hj' : j < ps.length := by rwa [addrs, List.length_map] at hj
  simp only [addrs, List.getElem_map]
  exact hbytes j hj' (.inl (hall' _ (List.getElem_mem hj')))

/-- Settles O58. -/
theorem accessKeepsState : Obligations.AccessKeepsState := by
  refine ⟨fun m s => ⟨offset_eq_formSum s.regs m, fun sr h => eaSeg_override h, fun h => ?_⟩, ?checks, ?pages,
    fun sz sr off n al k s => KeepsAt.access fun _ => id, fun sz sr off n ok k s => KeepsAt.accessIf fun _ => id, fun sz sr off n ok k s => KeepsAt.checkIf fun _ => id,
    fun w rm k s => KeepsAt.locate fun m hm x hx => ⟨m, hm, hx⟩, fun sz n sp c s => KeepsAt.pushSlots fun i hi x hx => ⟨i, hi, hx⟩,
    fun lin n s => KeepsAt.sysRead fun _ => id, fun lin n a s => KeepsAt.tssAddrs a fun _ => id, fun lin s => KeepsAt.readDescAt fun _ => id,
    fun port n s => KeepsAt.ioPermitted fun j hj => ⟨j, hj, rfl⟩, load_answers⟩
  · rw [eaSeg_default h]
    exact defaultSeg_eq m
  case checks =>
    intro sz sr off n al k s hk h0 hn lin m
    refine ⟨fun hb => bind_of_error (bind_of_error (segLinear_barred hk hb)),
      fun hb hbe => bind_of_error (bind_of_error (segLinear_beyond hk h0 hb hbe)), fun hb hbe => ⟨fun e t hl => ?_, fun ps t hl =>
      ⟨access_misaligned hk h0 hb hbe hl, access_aligned hk h0 hn hb hbe hl⟩⟩⟩
    exact (access_run hk h0 hb hbe).trans (bind_of_error hl)
  case pages =>
    intro lin n a s h0 hn room bytes
    have hroom : room = pageRoom lin := (pageRoom_eq lin).symm
    rw [hroom]
    refine ⟨fun e t h => bind_of_error h, fun p u h => ⟨linAddrs_inside h, fun hlt => ⟨fun e t h' => ?_, fun q t h' => ?_⟩⟩⟩
    · exact (linAddrs_across h hlt).trans (bind_of_error h')
    · exact (linAddrs_across h hlt).trans (bind_of_ok h')

end Sys2Proof.Laws

end
end

section
/-! The boundary between two instructions (60_exceptions.md R1204 to R1208, 64_debug.md R1487 to R1492, 10_state.md R130). -/

noncomputable section

namespace Sys2Proof.Laws

open Sys2Proof Sys2Proof.Machine Sys2Proof.Claims

/-! ## What the boundary lets through -/

section
variable {s : State}

theorem step_of_boundary {o : Host.Outcome State Fault Refusal} (h : s.begin.boundary = some o) : step s = o := by
  rw [step, h]

theorem step_of_no_boundary (h : s.begin.boundary = none) : step s = runNext s.begin := by
  rw [step, h]

theorem boundary_of_smi (hreset : s.inp.reset = none) (hinit : s.inp.init = false) (hrun : s.run ≠ .shutdown) (hsmi : s.smiPending = true)
    (hsmm : s.inSmm = false) : s.boundary = some s.takeSmi := by
  simp [State.boundary, hreset, hinit, hrun, hsmi, hsmm]

theorem boundary_of_interrupts (hreset : s.inp.reset = none) (hinit : s.inp.init = false) (hrun : s.run ≠ .shutdown) (hsmi : s.smiPending = false) :
    s.boundary = s.interrupts := by
  simp [State.boundary, hreset, hinit, hrun, hsmi]

/-- In Shutdown an NMI is taken and nothing else happens (R130). -/
theorem boundary_shutdown (hreset : s.inp.reset = none) (hinit : s.inp.init = false) (hrun : s.run = .shutdown) :
    s.boundary = if s.nmiPending && !s.nmiBlocked then some s.takeNmi else some (.next s) := by
  simp [State.boundary, hreset, hinit, hrun]

/-! ## The interrupts -/

/-- The processor runs, or an interrupt that ends the Halted state is there. -/
def Awake (s : State) : Prop := s.run ≠ .halted ∨ s.wakes = true

theorem interrupts_awake (h : Awake s) : (decide (s.run = .halted) && !s.wakes) = false := by
  rcases h with h | h
  · rw [decide_eq_false h, Bool.false_and]
  · rw [h, Bool.not_true, Bool.and_false]

theorem interrupts_of_trap {c : DbgCause} (h : Awake s) (htrap : s.trapDue = some c) (hss : s.inhibitSs = false) :
    s.interrupts = some (s.takeTrap c) := by
  simp only [State.interrupts, interrupts_awake h, Bool.false_eq_true, if_false, htrap, hss]

/-- Below the debug trap: a machine check, NMI, INTR, then an instruction breakpoint (R1208). -/
theorem interrupts_of_no_trap (h : Awake s) (htrap : s.trapDue = none) : s.interrupts =
    if s.inp.mc && s.mce then some s.takeMc
    else if s.nmiOpen then some s.takeNmi
    else match s.inp.intr, s.intrOpen with
      | some v, true => some (s.takeIntr v)
      | _, _ => match s.codeBreak with
        | some c => some (deliver deliverFuel (boundaryEvent s .exc 1 (some c)) s)
        | none => none := by
  simp only [State.interrupts, interrupts_awake h, Bool.false_eq_true, if_false, htrap] <;> cases s.inp.intr <;> rfl

theorem nmiOpen_of_not_pending (h : s.nmiPending = false) : s.nmiOpen = false := by
  simp [State.nmiOpen, h]

theorem intrOpen_of_closed (h : s.flags.ifl = false ∨ s.inhibitSs = true ∨ s.inhibitSti = true) : s.intrOpen = false := by
  rcases h with h | h | h <;> simp [State.intrOpen, h]

/-- With no interrupt open only an instruction breakpoint can come (R1208). -/
theorem interrupts_of_codeBreak (h : s.run ≠ .halted) (htrap : s.trapDue = none) (hmc : s.inp.mc = false) (hnmi : s.nmiPending = false)
    (hintr : s.inp.intr = none ∨ s.intrOpen = false) : s.interrupts = match s.codeBreak with
      | some c => some (deliver deliverFuel (boundaryEvent s .exc 1 (some c)) s)
      | none => none := by
  rw [interrupts_of_no_trap (.inl h) htrap, hmc, Bool.false_and, if_neg Bool.false_ne_true, nmiOpen_of_not_pending hnmi, if_neg Bool.false_ne_true]
  rcases hintr with hintr | hintr
  · rw [hintr]
  · rw [hintr]
    cases s.inp.intr <;> rfl

/-- Neither an NMI nor an INTR that is let through: a halted processor stays halted (R130). -/
theorem wakes_of_closed (hnmi : s.nmiPending = false) (hintr : s.inp.intr = none ∨ s.intrOpen = false) : s.wakes = false := by
  rw [State.wakes, nmiOpen_of_not_pending hnmi]
  rcases hintr with hintr | hintr <;> simp [hintr]

/-! ## Instruction breakpoints -/

theorem breakOn_of_low (h : s.dr.dr7.toNat % 256 = 0) {j : Nat} (hj : j < 4) : ¬ breakOn s.dr j := by
  have hbit (i : Nat) (hi : i < 8) : s.dr.dr7.getLsbD i = false := by
    have ht : (s.dr.dr7.toNat % 2 ^ 8).testBit i = s.dr.dr7.toNat.testBit i := by rw [Nat.testBit_mod_two_pow, decide_eq_true hi, Bool.true_and]
    rw [BitVec.getLsbD, ← ht, show s.dr.dr7.toNat % 2 ^ 8 = 0 from h, Nat.zero_testBit]
  rw [breakOn, hbit _ (by omega), hbit _ (by omega)]
  simp

/-- An enabled instruction breakpoint stands at CS:EIP. -/
def Fires (s : State) : Prop := ∃ j, j < 4 ∧ breaksHere s j ∧ breakOn s.dr j

theorem fires_iff (s : State) : ((s.codeHits.getLsbD 0 && drEnabled s.dr.dr7 0) || (s.codeHits.getLsbD 1 && drEnabled s.dr.dr7 1) ||
    (s.codeHits.getLsbD 2 && drEnabled s.dr.dr7 2) || (s.codeHits.getLsbD 3 && drEnabled s.dr.dr7 3)) = true ↔ Fires s := by
  have hm (n : Nat) (hn : n < 4) : (s.codeHits.getLsbD n && drEnabled s.dr.dr7 n) = true ↔ breaksHere s n ∧ breakOn s.dr n := by
    rw [Bool.and_eq_true, getLsbD_codeHits s n hn, drEnabled_iff]
  rw [Bool.or_eq_true, Bool.or_eq_true, Bool.or_eq_true, hm 0 (by decide), hm 1 (by decide), hm 2 (by decide), hm 3 (by decide)]
  constructor
  · rintro (((h | h) | h) | h)
    · exact ⟨0, by decide, h⟩
    · exact ⟨1, by decide, h⟩
    · exact ⟨2, by decide, h⟩
    · exact ⟨3, by decide, h⟩
  · rintro ⟨j, hj, h⟩
    interval_cases j <;> simp [h]

theorem codeBreak_fires (h : Fires s) (hrf : s.flags.rf = false) (hss : s.inhibitSs = false) :
    s.codeBreak = some { DbgCause.none with b := s.codeHits } := by
  unfold State.codeBreak
  dsimp only
  rw [(fires_iff s).mpr h, hrf, hss]
  rfl

theorem codeBreak_none (h : s.flags.rf = true ∨ s.inhibitSs = true ∨ ¬ Fires s) : s.codeBreak = none := by
  unfold State.codeBreak
  dsimp only
  refine if_neg ?_
  rw [Bool.and_eq_true, Bool.and_eq_true, fires_iff]
  rintro ⟨⟨hfires, hrf⟩, hss⟩
  rcases h with h | h | h
  · rw [h] at hrf
    cases hrf
  · rw [h] at hss
    cases hss
  · exact h hfires

theorem not_fires_of_low (h : s.dr.dr7.toNat % 256 = 0) : ¬ Fires s := fun ⟨_, hj, _, hon⟩ => breakOn_of_low h hj hon

end

/-! ## The cases of a step -/

section
variable {s : State}

theorem begin_trapDue (s : State) : s.begin.trapDue = s.trapDue := rfl
theorem begin_wakes (s : State) : s.begin.wakes = s.wakes := rfl
theorem begin_codeBreak (s : State) : s.begin.codeBreak = s.codeBreak := rfl
theorem begin_intrOpen (s : State) : s.begin.intrOpen = s.intrOpen := rfl

theorem step_of_stopped (hreset : s.inp.reset = none) (hinit : s.inp.init = false) (hsmi : s.smiPending = false) (hnmi : s.nmiPending = false)
    (hintr : s.inp.intr = none ∨ s.intrOpen = false) (hrun : s.run = .halted ∨ s.run = .shutdown) : step s = .next s.begin := by
  refine step_of_boundary ?_
  rcases hrun with hrun | hrun
  · rw [boundary_of_interrupts (s := s.begin) hreset hinit (by rw [begin_run, hrun]; decide) hsmi]
    exact interrupts_halted hrun (wakes_of_closed hnmi hintr)
  · rw [boundary_shutdown (s := s.begin) hreset hinit hrun, begin_nmiPending, hnmi]
    rfl

theorem awake_of_nmi (h1 : s.nmiPending = true) (h2 : s.nmiBlocked = false) (h3 : s.inSmm = false) (hss : s.inhibitSs = false) : s.wakes = true := by
  simp [State.wakes, State.nmiOpen, h1, h2, h3, hss]

theorem awake_of_intr (h1 : s.inp.intr ≠ none) (h2 : s.flags.ifl = true) (h3 : s.inhibitSti = false) (hss : s.inhibitSs = false) : s.wakes = true := by
  simp [State.wakes, State.intrOpen, Option.isSome_iff_ne_none.mpr h1, h2, h3, hss]

theorem step_of_trap {c : DbgCause} (hreset : s.inp.reset = none) (hinit : s.inp.init = false) (hsmi : s.smiPending = false)
    (htrap : s.trapDue = some c) (hss : s.inhibitSs = false) (hrun : s.run = .running ∨ (s.run = .halted ∧ s.wakes = true)) :
    step s = s.begin.takeTrap c := by
  refine step_of_boundary ?_
  have hnot : s.begin.run ≠ .shutdown := by
    rw [begin_run]
    rcases hrun with h | ⟨h, -⟩ <;> rw [h] <;> decide
  rw [boundary_of_interrupts (s := s.begin) hreset hinit hnot hsmi]
  refine interrupts_of_trap ?_ htrap hss
  rcases hrun with h | ⟨-, h⟩
  · left
    rw [begin_run, h]
    decide
  · exact .inr h

theorem step_of_nmi (hreset : s.inp.reset = none) (hinit : s.inp.init = false) (hsmi : s.smiPending = false) (hdb : s.pendingDb = none)
    (hrec : s.recurs = []) (hmc : s.inp.mc = false) (h1 : s.nmiPending = true) (h2 : s.nmiBlocked = false) (hss : s.inhibitSs = false)
    (h3 : s.inSmm = false) : step s = s.begin.takeNmi := by
  refine step_of_boundary ?_
  by_cases hrun : s.run = .shutdown
  · rw [boundary_shutdown (s := s.begin) hreset hinit hrun, begin_nmiPending, begin_nmiBlocked, h1, h2]
    rfl
  · rw [boundary_of_interrupts (s := s.begin) hreset hinit hrun hsmi]
    have htrap : s.begin.trapDue = none := by rw [begin_trapDue, trapDue_of_none hrec, hdb]
    have hopen : s.begin.nmiOpen = true := by simp [State.nmiOpen, h1, h2, h3, hss]
    rw [interrupts_of_no_trap (s := s.begin) (.inr (awake_of_nmi h1 h2 h3 hss)) htrap, hopen, begin_inp, hmc]
    rfl

theorem step_of_intr {v : Byte} (hreset : s.inp.reset = none) (hinit : s.inp.init = false) (hsmi : s.smiPending = false) (hdb : s.pendingDb = none)
    (hrec : s.recurs = []) (hmc : s.inp.mc = false) (hnmi : s.nmiPending = false) (hintr : s.inp.intr = some v) (hrun : s.run ≠ .shutdown)
    (hif : s.flags.ifl = true) (hss : s.inhibitSs = false) (hsti : s.inhibitSti = false) : step s = s.begin.takeIntr v := by
  refine step_of_boundary ?_
  rw [boundary_of_interrupts (s := s.begin) hreset hinit hrun hsmi]
  have htrap : s.begin.trapDue = none := by rw [begin_trapDue, trapDue_of_none hrec, hdb]
  have hopen : s.begin.intrOpen = true := by simp [State.intrOpen, hif, hss, hsti]
  have hwakes : s.begin.wakes = true := awake_of_intr (s := s) (by rw [hintr]; exact Option.some_ne_none v) hif hsti hss
  rw [interrupts_of_no_trap (s := s.begin) (.inr hwakes) htrap,
    nmiOpen_of_not_pending (s := s.begin) hnmi, hopen, begin_inp, hmc, hintr]
  rfl

/-- Nothing comes but what an instruction breakpoint may raise. -/
theorem step_of_quiet (hreset : s.inp.reset = none) (hinit : s.inp.init = false) (hsmi : s.smiPending = false) (htrap : s.trapDue = none)
    (hmc : s.inp.mc = false) (hnmi : s.nmiPending = false) (hintr : s.inp.intr = none ∨ s.intrOpen = false) (hrun : s.run = .running) :
    step s = match s.codeBreak with
      | some c => deliver deliverFuel (boundaryEvent s.begin .exc 1 (some c)) s.begin
      | none => runNext s.begin := by
  have hboundary : s.begin.boundary = match s.begin.codeBreak with
      | some c => some (deliver deliverFuel (boundaryEvent s.begin .exc 1 (some c)) s.begin)
      | none => none := by
    rw [boundary_of_interrupts (s := s.begin) hreset hinit (by rw [begin_run, hrun]; decide) hsmi]
    exact interrupts_of_codeBreak (by rw [begin_run, hrun]; decide) htrap (by rw [begin_inp, hmc]; rfl) hnmi hintr
  rw [begin_codeBreak] at hboundary
  cases hbreak : s.codeBreak with
  | some c => exact step_of_boundary (by rw [hboundary, hbreak])
  | none => exact step_of_no_boundary (by rw [hboundary, hbreak])

theorem step_of_machineCheck (hreset : s.inp.reset = none) (hinit : s.inp.init = false) (hsmi : s.smiPending = false) (htrap : s.trapDue = none)
    (hmc : s.inp.mc = true) (hmce : s.mce = true) (hrun : s.run = .running) : step s = s.begin.takeMc := by
  refine step_of_boundary ?_
  rw [boundary_of_interrupts (s := s.begin) hreset hinit (by rw [begin_run, hrun]; decide) hsmi, interrupts_of_no_trap (s := s.begin) (.inl (by rw [begin_run, hrun]; decide)) htrap]
  have hgo : (s.begin.inp.mc && s.begin.mce) = true := by rw [begin_inp, hmc, hmce]; exact hmce
  rw [hgo]
  rfl

theorem step_disabled_machineCheck (hmce : s.mce = false) : step s = step { s with inp := { s.inp with mc := false } } := by
  have hbegin : s.begin = State.begin { s with inp := { s.inp with mc := false } } := by
    unfold State.begin
    dsimp only
    rw [show s.tick.mce = false from hmce, Bool.and_false]
    rfl
  rw [step, step, hbegin]

end

/-! ## The end of an instruction -/

section
variable {s t : State}

theorem trapAfter_singleStep (h : s.flags.tf = true) : ∃ c, s.trapAfter t = some c ∧ c.bs = true := by
  cases hp : s.pendingDb with
  | some p =>
    obtain ⟨c, hc, hcause⟩ := trapAfter_held (t := t) hp
    refine ⟨_, hc, ?_⟩
    rw [hcause, DbgCause.also, h]
    rfl
  | none =>
    refine ⟨{ b := (if t.cur.defer then 0 else t.cur.hits) ||| s.lateHits, bd := false, bs := s.flags.tf, bt := t.cur.bt
              armed := (t.cur.trap && !t.cur.defer) || s.lateTrap }, ?_, h⟩
    simp only [State.trapAfter, hp, h, Bool.or_true, Bool.true_or]

/-- With nothing late, what the instruction itself leaves (R1489, R1492, R1485). -/
theorem trapAfter_own (hlate : s.late = []) (hdefer : t.cur.defer = false) (hp : s.pendingDb = none) : s.trapAfter t =
    if t.cur.trap = true ∨ s.flags.tf = true ∨ t.cur.bt = true then
      some { b := t.cur.hits, bd := false, bs := s.flags.tf, bt := t.cur.bt, armed := t.cur.trap } else none := by
  have hhits : s.lateHits = 0 := by rw [State.lateHits, hlate]; rfl
  have htrap : s.lateTrap = false := by rw [State.lateTrap, hlate]; rfl
  rw [State.trapAfter, hp, hhits, htrap, hdefer]
  cases t.cur.trap <;> cases s.flags.tf <;> cases t.cur.bt <;> simp

theorem lateAfter_nil (hlate : s.late = []) {c : Latch} (hdefer : c.defer = false) : s.lateAfter c = [] := by
  rw [State.lateAfter, hlate, hdefer]
  rfl

theorem trapAfter_kept (h : s.pendingDb ≠ none) : s.trapAfter t ≠ none := by
  obtain ⟨p, hp⟩ := Option.ne_none_iff_exists'.mp h
  obtain ⟨c, hc, -⟩ := trapAfter_held (t := t) hp
  rw [hc]
  exact Option.some_ne_none _

theorem complete_eq (s t : State) : s.complete t = { t with
    flags := { t.flags with rf := t.cur.keepRf && t.flags.rf }, pendingDb := (s.complete t).pendingDb, late := (s.complete t).late
    pgSwitched := (s.complete t).pgSwitched, inhibitSs := t.cur.setSsShadow, inhibitSti := t.cur.setStiShadow, cur := Latch.empty
    bus := (if s.fpu.sw.es = t.fpu.sw.es then [] else [BusEvent.ferr t.fpu.sw.es]) ++ t.bus } := by
  have hflags : (if t.cur.keepRf then t.flags else { t.flags with rf := false }) = { t.flags with rf := t.cur.keepRf && t.flags.rf } := by
    cases t.cur.keepRf <;> rfl
  show State.complete s t = _
  unfold State.complete
  rw [hflags]
  rfl

end

/-- Settles O60. -/
theorem boundaryEvents : Obligations.BoundaryEvents := by
  refine ⟨?stopped, ?halted, ?trap, ?recurs, ?nmi, ?intr, ?smi, ?calm, ?codeBreak, fun s t h => trapAfter_singleStep h, ?machineCheck, fun s => rfl,
    fun s t => ?complete, fun s t => rfl⟩
  case stopped =>
    rintro s ⟨⟨hreset, hinit, -, hintr, hsmi, hnmi, -, -⟩, -⟩ hrun
    exact step_of_stopped hreset hinit hsmi hnmi (.inl hintr) hrun
  case halted =>
    intro s hreset hinit hsmi hnmi hif hrun
    exact step_of_stopped hreset hinit hsmi hnmi (.inr (intrOpen_of_closed (.inl hif))) (.inl hrun)
  case trap =>
    intro s c hreset hinit hsmi hdb hrec hss hrun
    have hawake : s.run = .running ∨ (s.run = .halted ∧ s.wakes = true) := by
      refine hrun.imp_right fun ⟨hhalt, hw⟩ => ⟨hhalt, ?_⟩
      rcases hw with ⟨h1, h2, h3⟩ | ⟨h1, h2, h3⟩
      · exact awake_of_nmi h1 h2 h3 hss
      · exact awake_of_intr h1 h2 h3 hss
    rw [step_of_trap hreset hinit hsmi ((trapDue_of_none hrec).trans hdb) hss hawake, State.takeTrap, begin_recurs, hrec]
    rfl
  case recurs =>
    intro s h hno hrec hss hrun
    obtain ⟨hreset, hinit, hmc, hintr, hsmi, hnmi, hdb, -⟩ : s.inp.reset = none ∧ s.inp.init = false ∧ s.inp.mc = false ∧ s.inp.intr = none ∧
      s.smiPending = false ∧ s.nmiPending = false ∧ s.pendingDb = none ∧ ([] : List HeldTrap) = [] := hno
    refine ⟨fun hhere => ?_, fun haway hlow => ?_⟩
    · have hback : s.isBack h = true := beq_iff_eq.mpr hhere.symm
      rw [step_of_trap hreset hinit hsmi (trapDue_of_back hdb hrec hback) hss (.inl hrun), State.takeTrap]
      have hback' : s.begin.isBack h = true := hback
      have hheld : ({ lin := s.begin.segs.cs.base + s.begin.eip, cause := h.cause } : HeldTrap) = h := by
        rw [begin_segs, begin_eip, show s.segs.cs.base + s.eip = h.lin from hhere.symm]
      have hstate : { s.begin with pendingDb := none, recurs := { lin := s.begin.segs.cs.base + s.begin.eip, cause := h.cause } ::
          (s.begin.recurs.filter fun h => !s.begin.isBack h) } = s.begin := by
        rw [hheld, begin_recurs, hrec, List.filter_singleton, hback']
        show { s.begin with pendingDb := none, recurs := [h] } = s.begin
        rw [← show s.begin.pendingDb = none from hdb, ← show s.begin.recurs = [h] from hrec]
      rw [hstate]
      rfl
    · have hback : s.isBack h = false := beq_eq_false_iff_ne.mpr fun heq => haway heq.symm
      rw [step_of_quiet hreset hinit hsmi ((trapDue_of_away hrec hback).trans hdb) hmc hnmi (.inl hintr) hrun,
        codeBreak_none (.inr (.inr (not_fires_of_low hlow)))]
  case nmi =>
    intro s hreset hinit hsmi hdb hrec hmc h1 h2 hss h3
    exact step_of_nmi hreset hinit hsmi hdb hrec hmc h1 h2 hss h3
  case intr =>
    rintro s v ⟨hno, hlow⟩ hintr hrun
    obtain ⟨hreset, hinit, hmc, -, hsmi, hnmi, hdb, hrec⟩ : s.inp.reset = none ∧ s.inp.init = false ∧ s.inp.mc = false ∧
      (none : Option Byte) = none ∧ s.smiPending = false ∧ s.nmiPending = false ∧ s.pendingDb = none ∧ s.recurs = [] := hno
    refine ⟨fun hif hss hsti => ?_, fun hclosed hhalt => ?_, fun hclosed hrunning => ?_⟩
    · exact step_of_intr hreset hinit hsmi hdb hrec hmc hnmi hintr hrun hif hss hsti
    · exact step_of_stopped hreset hinit hsmi hnmi (.inr (intrOpen_of_closed hclosed)) (.inl hhalt)
    · rw [step_of_quiet hreset hinit hsmi ((trapDue_of_none hrec).trans hdb) hmc hnmi (.inr (intrOpen_of_closed hclosed)) hrunning,
        codeBreak_none (s := s) (.inr (.inr (not_fires_of_low hlow)))]
  case smi =>
    intro s hreset hinit hrun hsmi hsmm
    exact step_of_boundary (boundary_of_smi hreset hinit hrun hsmi hsmm)
  case calm =>
    rintro s ⟨⟨hreset, hinit, hmc, hintr, hsmi, hnmi, hdb, hrec⟩, hlow⟩ hrun
    rw [step_of_quiet hreset hinit hsmi ((trapDue_of_none hrec).trans hdb) hmc hnmi (.inl hintr) hrun,
      codeBreak_none (.inr (.inr (not_fires_of_low hlow)))]
  case codeBreak =>
    rintro s ⟨hreset, hinit, hmc, hintr, hsmi, hnmi, hdb, hrec⟩ hrun fires
    have hstep := step_of_quiet hreset hinit hsmi ((trapDue_of_none hrec).trans hdb) hmc hnmi (.inl hintr) hrun
    refine ⟨fun hrf hss hfires => ⟨s.codeHits, getLsbD_codeHits s, ?_⟩, fun hno => ?_⟩
    · rw [hstep, codeBreak_fires hfires hrf hss]
      rfl
    · rw [hstep, codeBreak_none hno]
  case machineCheck =>
    refine fun s hmc => ⟨fun hmce => step_disabled_machineCheck hmce, ?_⟩
    intro hmce hno hrun
    obtain ⟨hreset, hinit, -, -, hsmi, -, hdb, hrec⟩ : s.inp.reset = none ∧ s.inp.init = false ∧ false = false ∧ s.inp.intr = none ∧
      s.smiPending = false ∧ s.nmiPending = false ∧ s.pendingDb = none ∧ s.recurs = [] := hno
    exact step_of_machineCheck hreset hinit hsmi ((trapDue_of_none hrec).trans hdb) hmc hmce hrun
  case complete =>
    refine ⟨complete_eq s t, fun h => ?_, fun hlate hdefer => ⟨lateAfter_nil hlate hdefer, trapAfter_own hlate hdefer, trapAfter_kept⟩⟩
    have h' : (t.cur.pgSwitch || (t.pgSwitched && t.pg)) = true := h
    rw [Bool.or_eq_true, Bool.and_eq_true] at h'
    exact h'.imp_right And.left

end Sys2Proof.Laws

end
end

section
/-! Loading a segment register other than CS (21_segmentation.md R232, R241, 23_protection.md R310, R311, 62_v86.md R1402). -/

noncomputable section

namespace Sys2Proof.Laws

open Sys2Proof Sys2Proof.Machine Sys2Proof.Claims

theorem prot_iff {s : State} : s.prot = true ↔ s.pe = true ∧ s.flags.vm = false := by
  simp [State.prot]

theorem v86_false_of_prot {s : State} (h : s.prot = true) : s.v86 = false := by
  simp [State.v86, (prot_iff.mp h).2]

theorem present_eq (d : Desc) : d.p = d.hi.getLsbD 15 := rfl

/-! ## Which descriptors a load takes -/

/-- A data segment or a readable code segment (R239). -/
theorem isReadable_iff (d : Desc) : d.readable = true ↔ d.hi.getLsbD 12 = true ∧ (d.hi.getLsbD 11 = false ∨ d.hi.getLsbD 9 = true) := by
  simp [Desc.readable, Desc.s, Attr.isCode, Attr.bitR, Desc.attr, Desc.typ, bit]

/-- An application segment is conforming by bits 11 and 10 (R239). -/
theorem conforming_iff {d : Desc} (h : d.hi.getLsbD 12 = true) :
    d.conforming = true ↔ d.hi.getLsbD 11 = true ∧ d.hi.getLsbD 10 = true := by
  simp [Desc.conforming, Desc.isCode, Desc.s, Attr.isCode, Attr.bitC, Desc.attr, Desc.typ, bit, h]

theorem maxPl_le_iff (a b c : BitVec 2) : (!c.ult (maxPl a b)) = true ↔ a.toNat ≤ c.toNat ∧ b.toNat ≤ c.toNat := by
  rw [ult_iff, maxPl]
  split
  · next h => rw [BitVec.ult_iff_lt, BitVec.lt_def] at h; omega
  · next h => rw [BitVec.ult_iff_lt, BitVec.lt_def] at h; omega

/-- What DS, ES, FS and GS take at level `cpl` (R310). -/
def DataAllowed (cpl : BitVec 2) (sel : Half) (d : Desc) : Prop :=
  d.hi.getLsbD 12 = true ∧ (d.hi.getLsbD 11 = false ∨ d.hi.getLsbD 9 = true) ∧
    ((d.hi.getLsbD 11 = true ∧ d.hi.getLsbD 10 = true) ∨ (cpl.toNat ≤ d.dpl.toNat ∧ sel.toNat % 4 ≤ d.dpl.toNat))

/-- What SS takes at level `cpl` (R311). -/
def StackAllowed (cpl : BitVec 2) (sel : Half) (d : Desc) : Prop :=
  d.hi.getLsbD 12 = true ∧ d.hi.getLsbD 11 = false ∧ d.hi.getLsbD 9 = true ∧ d.dpl = cpl ∧ sel.toNat % 4 = cpl.toNat

theorem dataAllowed_iff (cpl : BitVec 2) (sel : Half) (d : Desc) :
    DataAllowed cpl sel d ↔ d.readable = true ∧ (d.conforming || !d.dpl.ult (maxPl cpl (rpl sel))) = true := by
  rw [isReadable_iff, Bool.or_eq_true, maxPl_le_iff, rpl_toNat, and_assoc, DataAllowed]
  refine and_congr_right fun happ => ?_
  rw [conforming_iff happ]

theorem stackAllowed_iff (cpl : BitVec 2) (sel : Half) (d : Desc) :
    StackAllowed cpl sel d ↔ (rpl sel == cpl) = true ∧ d.writable = true ∧ (d.dpl == cpl) = true := by
  rw [beq_iff_eq, beq_iff_eq, ← BitVec.toNat_inj, rpl_toNat, writable_iff]
  simp only [StackAllowed, stackType]
  tauto

/-! ## The load of a named descriptor -/

theorem accessedPlace_run {d : Desc} {s t : State} {ps : List Word} (h : accessedAt d s ps t) : accessedPlace d s = .ok ps t := by
  rw [accessedAt] at h
  rw [accessedPlace, bit]
  split at h
  · next hset => obtain ⟨rfl, rfl⟩ := h; rw [if_pos hset]; rfl
  · next hclear => rw [if_neg hclear]; exact h

theorem setAccessed_run {d : Desc} {s t : State} {ps : List Word} (h : accessedAt d s ps t) :
    ∃ u, BitsSet ps 0x100 t u ∧ setAccessed d s = .ok () u := by
  have hplace : accessedPlace d s = .ok ps t := accessedPlace_run h
  obtain ⟨u, hu, hbits⟩ := setBits_bitsSet ps 0x100 t
  refine ⟨u, hbits, ?_⟩
  have hplaces : accessedPlaces [d] s = .ok [ps] t := (bind_of_ok hplace).trans rfl
  exact (bind_of_ok hplaces).trans ((bind_of_ok hu).trans rfl)

section
variable {sel : Half} {s t : State} {d : Desc}

theorem loadData_named (sr : SReg) (h : Named s sel s d t) : loadData sr sel s =
    (do require d.readable (gp (selCode sel))
        require (d.conforming || !d.dpl.ult (maxPl s.cpl (rpl sel))) (gp (selCode sel))
        require d.p (np (selCode sel))
        setAccessed d
        setSeg sr (d.accessed.toSeg sel) : M Unit) t := by
  obtain ⟨hnull, hread⟩ := named_read ⟨rfl, rfl, rfl⟩ h (gp (selCode sel))
  rw [loadData, get_bind, if_neg (by simp [hnull])]
  exact bind_of_ok hread

theorem loadData_refused (sr : SReg) (h : Named s sel s d t) (hno : ¬ DataAllowed s.cpl sel d) :
    loadData sr sel s = .error (.exc (selFault 13 sel)) t := by
  rw [loadData_named sr h, guard_gp, guard_gp, selFault_eq]
  rw [dataAllowed_iff, not_and_or] at hno
  rcases hno with hno | hno
  · rw [if_neg hno]
  · rw [if_neg hno]; split <;> rfl

theorem loadData_absent (sr : SReg) (h : Named s sel s d t) (hok : DataAllowed s.cpl sel d) (hp : d.hi.getLsbD 15 = false) :
    loadData sr sel s = .error (.exc (selFault 11 sel)) t := by
  obtain ⟨hread, hlevel⟩ := (dataAllowed_iff ..).mp hok
  rw [loadData_named sr h, guard_gp, if_pos hread, guard_gp, if_pos hlevel, guard_np, if_neg (by rw [present_eq, hp]; decide), selFault_eq]

theorem loadData_loads (sr : SReg) (h : Named s sel s d t) (hok : DataAllowed s.cpl sel d) (hp : d.hi.getLsbD 15 = true) :
    loadData sr sel s = (do setAccessed d; setSeg sr (segOf (marked d) sel) : M Unit) t := by
  obtain ⟨hread, hlevel⟩ := (dataAllowed_iff ..).mp hok
  rw [loadData_named sr h, guard_gp, if_pos hread, guard_gp, if_pos hlevel, guard_np, if_pos (by rw [present_eq, hp])]
  rfl

theorem loadSs_named (h : Named s sel s d t) : loadSs sel s =
    (do require (rpl sel == s.cpl) (gp (selCode sel))
        require d.writable (gp (selCode sel))
        require (d.dpl == s.cpl) (gp (selCode sel))
        require d.p (sf (selCode sel))
        setAccessed d
        setSeg .ss (d.accessed.toSeg sel) : M Unit) t := by
  obtain ⟨hnull, hread⟩ := named_read ⟨rfl, rfl, rfl⟩ h (gp (selCode sel))
  rw [loadSs, get_bind, guard_gp, if_pos (by simp [hnull])]
  exact bind_of_ok hread

theorem loadSs_refused (h : Named s sel s d t) (hno : ¬ StackAllowed s.cpl sel d) :
    loadSs sel s = .error (.exc (selFault 13 sel)) t := by
  rw [loadSs_named h, guard_gp, guard_gp, guard_gp, selFault_eq]
  rw [stackAllowed_iff, not_and_or, not_and_or] at hno
  rcases hno with hno | hno | hno
  · rw [if_neg hno]
  · rw [if_neg hno]; split <;> rfl
  · rw [if_neg hno]; split
    · split <;> rfl
    · rfl

theorem loadSs_absent (h : Named s sel s d t) (hok : StackAllowed s.cpl sel d) (hp : d.hi.getLsbD 15 = false) :
    loadSs sel s = .error (.exc (selFault 12 sel)) t := by
  obtain ⟨hrpl, hwrite, hdpl⟩ := (stackAllowed_iff ..).mp hok
  rw [loadSs_named h, guard_gp, if_pos hrpl, guard_gp, if_pos hwrite, guard_gp, if_pos hdpl, guard_sf,
    if_neg (by rw [present_eq, hp]; decide), selFault_eq]

theorem loadSs_loads (h : Named s sel s d t) (hok : StackAllowed s.cpl sel d) (hp : d.hi.getLsbD 15 = true) :
    loadSs sel s = (do setAccessed d; setSeg .ss (segOf (marked d) sel) : M Unit) t := by
  obtain ⟨hrpl, hwrite, hdpl⟩ := (stackAllowed_iff ..).mp hok
  rw [loadSs_named h, guard_gp, if_pos hrpl, guard_gp, if_pos hwrite, guard_gp, if_pos hdpl, guard_sf, if_pos (by rw [present_eq, hp])]
  rfl

/-- Marking and loading end with the register loaded (R241). -/
theorem mark_load (sr : SReg) (g : Seg) {ps : List Word} {u : State} (h : accessedAt d t ps u) :
    ∃ w, BitsSet ps 0x100 u w ∧
      (do setAccessed d; setSeg sr g : M Unit) t = .ok () { w with segs := w.segs.set sr g } := by
  obtain ⟨w, hbits, hset⟩ := setAccessed_run h
  exact ⟨w, hbits, bind_of_ok hset⟩

end

/-! ## The load by the mode -/

theorem loadSeg_prot {s : State} (h : s.prot = true) (sr : SReg) (sel : Half) :
    loadSeg sr sel s = (if sr = .ss then loadSs sel else loadData sr sel) s := by
  rw [loadSeg, get_bind, v86_false_of_prot h, (prot_iff.mp h).1]
  rfl

theorem loadSeg_null {s : State} {sel : Half} (h : s.prot = true) (hnull : sel.toNat < 4) (sr : SReg) :
    if sr = .ss then loadSeg sr sel s = .error (.exc gp0) s
    else loadSeg sr sel s = .ok () { s with segs := s.segs.set sr { s.segs.get sr with sel := sel, usable := false } } := by
  have hn : isNull sel = true := by simpa [isNull_eq] using hnull
  rw [loadSeg_prot h]
  split
  · rw [loadSs, get_bind, guard_gp, if_neg (by simp [hn])]
    rfl
  · rw [loadData, get_bind, if_pos hn]
    rfl

theorem loadSeg_out {s : State} {sel : Half} (h : s.prot = true) (hnull : 4 ≤ sel.toNat) (hout : inTable s sel = false) (sr : SReg) :
    loadSeg sr sel s = .error (.exc (selFault 13 sel)) s := by
  have hn : isNull sel = false := by simpa [isNull_eq] using hnull
  have hread : readDesc sel (gp (selCode sel)) s = .error (.exc (selFault 13 sel)) s := readDesc_out hout (by rw [selFault_eq]; rfl)
  rw [loadSeg_prot h]
  split
  · rw [loadSs, get_bind, guard_gp, if_pos (by simp [hn])]
    exact bind_of_error hread
  · rw [loadData, get_bind, if_neg (by simp [hn])]
    exact bind_of_error hread

/-- Settles O18: one lemma per mode and, in protected mode, per answer of the two loads, that of SS and that of the other registers. -/
theorem segmentLoad : Obligations.SegmentLoad := by
  unfold Obligations.SegmentLoad
  intro sr sel s _
  refine ⟨fun hpe => ?_, fun hpe hvm => ?_, fun h hnull => loadSeg_null h hnull sr, fun h hnull hout => loadSeg_out h hnull hout sr, ?_⟩
  · rw [loadSeg_real hpe, Seg.ofReal, realBase_eq]
  · rw [loadSeg_v86 (by simp [State.v86, hpe, hvm]), Seg.ofV86, realBase_eq]
  intro d t h hd
  rw [loadSeg_prot h]
  by_cases hss : sr = .ss
  · subst hss
    refine ⟨fun hno => loadSs_refused hd hno, fun hok hp => loadSs_absent hd hok hp, fun hok hp ps u hplace => ?_⟩
    obtain ⟨w, hbits, hrun⟩ := mark_load .ss (segOf (marked d) sel) hplace
    exact ⟨w, hbits, (loadSs_loads hd hok hp).trans hrun⟩
  · simp only [if_neg hss]
    refine ⟨fun hno => loadData_refused sr hd hno, fun hok hp => loadData_absent sr hd hok hp, fun hok hp ps u hplace => ?_⟩
    obtain ⟨w, hbits, hrun⟩ := mark_load sr (segOf (marked d) sel) hplace
    exact ⟨w, hbits, (loadData_loads sr hd hok hp).trans hrun⟩

end Sys2Proof.Laws

end
end

section
/-! The instructions that load and store segment registers (40_data_movement.md R501, R502, R508, R520). -/

noncomputable section

namespace Sys2Proof.Laws

open Sys2Proof Sys2Proof.Machine Sys2Proof.Claims

theorem shadowSs_run (sr : SReg) (s : State) : shadowSs sr s = .ok () (shadowed sr s) := by
  rw [shadowSs]
  by_cases h : sr = .ss
  · rw [if_pos h, shadowed]
    simp [h, modifyCur]
  · rw [if_neg h, shadowed, show (sr == .ss) = false by simpa using h, Bool.or_false]
    rfl

theorem exec_popSeg {sr : SReg} {i : Instr} (h : popSegInstr sr = some i) (s : State) : exec i s = runInstr (atOs (popSeg sr)) s := by
  cases sr <;> simp only [popSegInstr, Option.some.injEq, reduceCtorEq] at h <;> subst h <;> rfl

theorem exec_loadFar {sr : SReg} {m : MemOp} {r : Reg} {i : Instr} (h : loadFarInstr sr m r = some i) (s : State) :
    exec i s = runInstr (atOs (loadFar sr m r)) s := by
  cases sr <;> simp only [loadFarInstr, Option.some.injEq, reduceCtorEq] at h <;> subst h <;> rfl

theorem setSpAs_run (sz : Size) (v : Word) (s : State) :
    setSpAs sz (wrapSp sz v) s = .ok () { s with regs := s.regs.write sz.bits .esp (v.setWidth sz.bits) } := by
  cases sz
  · rw [← wrapSp_setWidth .s16]
    rfl
  · rw [← wrapSp_setWidth .s32]
    simp [setSpAs, Size.bits, GRegs.write, GRegs.set]

/-- The slot at the top of the stack. -/
theorem peek_run {n v : Nat} {s s1 s2 : State} {ps : List Word} (h : access s.ss .ss (wrapSp s.ss s.spOff) n n .r s = .ok ps s1)
    (hl : load ps s1 = .ok v s2) : peek 0 n s = .ok v s2 := by
  rw [peek, get_bind]
  simpa using memRead_run h hl

theorem popSeg_run {sr : SReg} {w v : Nat} {s s1 s2 s3 : State} {ps : List Word}
    (h : access s.ss .ss (wrapSp s.ss s.spOff) (w / 8) (w / 8) .r s = .ok ps s1) (hl : load ps s1 = .ok v s2)
    (hload : loadSeg sr (BitVec.ofNat 16 v) s2 = .ok () s3) :
    popSeg sr w s = .ok () (shadowed sr { s3 with
      regs := s3.regs.write s.ss.bits .esp ((s.spOff + BitVec.ofNat 32 (w / 8)).setWidth s.ss.bits) }) := by
  rw [popSeg, get_bind, bind_of_ok (peek_run h hl), bind_of_ok hload, bind_of_ok (setSpAs_run ..)]
  exact shadowSs_run ..

theorem farAlign_bits (sz : Size) : farAlign sz.bits = sz.bytes := by
  cases sz <;> rfl

/-- A far pointer in memory: offset, then selector (R520). -/
theorem readFar_run {m : MemOp} {s t : State} {v w : Nat} (h : ReadTwice m s.os.bytes 2 s s.enter v w t) :
    readFar m s.os.bits s.enter = .ok (BitVec.ofNat 16 w, BitVec.ofNat 32 v) t ∧ OnlyAccess s.enter t := by
  obtain ⟨u, hacc, hoff, hsel⟩ := readTwice_run h
  refine ⟨?_, hacc⟩
  rw [readFar, farAlign_bits, bytes_eq]
  exact (bind_of_ok hoff).trans ((bind_of_ok hsel).trans rfl)

theorem readFar_past {m : MemOp} {s t : State} (h : ReadPast m s.os.bytes 2 s s.enter t) :
    readFar m s.os.bits s.enter = .error (.exc (limitFault (s.eaSeg m))) t ∧ OnlyAccess s.enter t := by
  obtain ⟨v, hacc, hoff, hsel⟩ := readPast_run h
  refine ⟨?_, hacc⟩
  rw [readFar, farAlign_bits, bytes_eq]
  exact (bind_of_ok hoff).trans (bind_of_error hsel)

theorem setWidth_ofNat_osBits (sz : Size) (v : Nat) : (BitVec.ofNat 32 v).setWidth sz.bits = BitVec.ofNat sz.bits v := by
  cases sz
  · apply BitVec.eq_of_toNat_eq
    simp only [Size.bits, BitVec.toNat_setWidth, BitVec.toNat_ofNat]
    omega
  · simp [Size.bits]

theorem ran_of_loadFar {sr : SReg} {m : MemOp} {r : Reg} {i : Instr} {s s2 s3 : State} {v w : Nat} (hi : loadFarInstr sr m r = some i)
    (hread : ReadTwice m s.os.bytes 2 s s.enter v w s2) (hload : loadSeg sr (BitVec.ofNat 16 w) s2 = .ok () s3) :
    Ran i s { s3 with regs := s3.regs.write s.os.bits r (BitVec.ofNat s.os.bits v) } := by
  refine ran_of_run (exec_loadFar hi s) ?_
  show loadFar sr m r s.os.bits s.enter = _
  rw [← setWidth_ofNat_osBits]
  exact (bind_of_ok (readFar_run hread).1).trans ((bind_of_ok hload).trans rfl)

/-- A selector to a 32-bit register: the upper half is open (R502). -/
theorem ran_of_storeSreg_reg (sr : SReg) (r : Reg) {s : State} (hos : s.os = .s32) : ∃ (x : Half) (n : Nat),
    Ran (.movRm16Sreg (.reg r) sr) s { s.enter with draws := n, regs := s.regs.set r (x ++ (s.segs.get sr).sel) } := by
  refine ⟨Config.draw 16 s.draws, s.draws + 1, ran_of_run (show execMovRm16Sreg (.reg r) sr s = _ from rfl) ?_⟩
  rw [get_bind, show s.enter.os = .s32 from hos]
  exact writeReg32_run r _ { s.enter with draws := s.draws + 1 }

theorem ran_of_storeSreg_place (sr : SReg) {rm : RM} {s s1 : State} {p : Place} (hrm : (∃ m, rm = .mem m) ∨ s.os = .s16)
    (hloc : locate 16 rm .w s.enter = .ok p s1) : ∃ t, PutAt p 16 (s.segs.get sr).sel s1 t ∧ Ran (.movRm16Sreg rm sr) s t := by
  obtain ⟨t, ht, hput⟩ := writeRM_run (v := (s.segs.get sr).sel) hloc
  refine ⟨t, hput, ran_of_run (show execMovRm16Sreg rm sr s = _ from rfl) (Eq.trans ?_ ht)⟩
  rcases hrm with ⟨m, rfl⟩ | hos
  · rfl
  · rw [get_bind, show s.enter.os = .s16 from hos]
    cases rm <;> rfl

/-- Settles O17: each instruction is a read, the segment load of the mode and what it writes beside the segment register. -/
theorem segmentRegisterMoves : Obligations.SegmentRegisterMoves := by
  unfold Obligations.SegmentRegisterMoves
  refine ⟨?mov, ?movCs, ?pop, fun sr m r i s v w s2 s3 => ran_of_loadFar, ?past,
    fun sr rm s => ⟨fun r hrm hos => hrm ▸ ran_of_storeSreg_reg sr r hos, fun p s1 => ran_of_storeSreg_place sr⟩⟩
  case mov =>
    intro sr rm s p s1 sel s2 hloc hget s3 hcs hload
    refine ran_of_run (show execMovSregRm16 rm sr s = _ from rfl) ?_
    rw [show (sr != .cs) = true by simpa using hcs, require_true, pure_bind, bind_of_ok (readRM_run hloc hget), bind_of_ok hload]
    exact shadowSs_run ..
  case movCs =>
    exact fun rm s => faults_of_run (show execMovSregRm16 rm .cs s = _ from rfl) rfl rfl
  case pop =>
    intro sr i s ps s1 v s2 s3 hi hacc hread hload
    refine ran_of_run (exec_popSeg hi s) ?_
    rw [atOs_run, popSeg_run (s1 := s1) (by rw [show s.enter.os.bits / 8 = s.os.bytes from bytes_eq _]; exact hacc) hread hload,
      show s.enter.os.bits / 8 = s.os.bytes from bytes_eq _]
    rfl
  case past =>
    intro sr m r i s t hi hpast
    obtain ⟨hread, hacc⟩ := readFar_past hpast
    exact faults_of_run (exec_loadFar hi s) ((atOs_run _ _).trans (bind_of_error hread)) hacc.committed_eq

end Sys2Proof.Laws

end
end

section
/-! Far transfers outside protected mode (43_control_transfer.md R704 to R706, R730, 62_v86.md R1412). -/

noncomputable section

namespace Sys2Proof.Laws

open Sys2Proof Sys2Proof.Machine Sys2Proof.Claims

theorem OnlyAccess.prot_eq {s t : State} (h : OnlyAccess s t) : t.prot = s.prot := by
  rw [h]
  rfl

theorem OnlyAccess.eip_eq {s t : State} (h : OnlyAccess s t) : t.eip = s.eip := by
  rw [h]

/-! ## CS and the offset -/

/-- The load of CS depends on the mode and on what CS held (R232, R1402). -/
theorem setCsReal_run {s t : State} (sel : Half) (hcr : t.cr = s.cr) (hflags : t.flags = s.flags) (hsegs : t.segs = s.segs) :
    setCsReal sel t = .ok () { t with segs := { t.segs with cs := realCs s sel } } := by
  have hv : t.v86 = (s.pe && s.flags.vm) := by rw [State.v86, State.pe, hcr, hflags]; rfl
  rw [setCsReal, get_bind, realCs, hv]
  cases (s.pe && s.flags.vm)
  · rw [if_neg (by decide), if_neg (by decide), Seg.ofReal, realBase_eq, hsegs, setSeg, modify_run]
    simp [Segs.set, hsegs]
  · rw [if_pos rfl, if_pos rfl, Seg.ofV86, realBase_eq]
    rfl

theorem checkOffset16_run (off : Word) (s : State) :
    checkOffset16 off s = if off.toNat ≤ realBound s then .ok () s else .error (.exc gp0) s := by
  rw [checkOffset16, get_bind, require_run]
  simp only [decide_eq_true_eq]
  rfl

theorem OnlyAccess.realBound_eq {s t : State} (h : OnlyAccess s t) : realBound t = realBound s := by
  rw [h]
  rfl

/-- CS and EIP replaced where only accesses and (E)SP intervened. -/
theorem setCs_setEip {s t : State} (sel : Half) (eip : Word) (hcr : t.cr = s.cr) (hflags : t.flags = s.flags) (hsegs : t.segs = s.segs) :
    (do setCsReal sel; setEip eip : M Unit) t = .ok () (withCs t (realCs s sel) eip) := by
  rw [bind_of_ok (setCsReal_run sel hcr hflags hsegs)]
  rfl

theorem realCs_enter (s : State) (sel : Half) : realCs s.enter sel = realCs s sel := rfl

/-! ## JMP and CALL -/

section
variable {s u : State} (hp : s.prot = false) (ho : OnlyAccess s.enter u) (sel : Half) (off : Word)
include hp ho

theorem farTransfer_real (call : Bool) : farTransfer call sel off s.os.bits u =
    (do checkOffset16 (nearTarget s off)
        if call then pushList s.os.bytes [u.segs.cs.sel.toNat, u.eip.toNat] else pure ()
        setCsReal sel
        setEip (nearTarget s off) : M Unit) u := by
  have hpu : u.prot = false := ho.prot_eq.trans hp
  rw [farTransfer, get_bind, if_neg (by rw [hpu]; decide), cutTarget_eq, bytes_eq]

theorem farTransfer_past (call : Bool) (hpast : realBound s < (nearTarget s off).toNat) :
    farTransfer call sel off s.os.bits u = .error (.exc gp0) u := by
  rw [farTransfer_real hp ho sel off]
  refine bind_of_error ((checkOffset16_run _ _).trans (if_neg ?_))
  rw [ho.realBound_eq]
  exact Nat.not_le.mpr hpast

omit hp in
theorem checkOffset16_passes (hle : (nearTarget s off).toNat ≤ realBound s) : checkOffset16 (nearTarget s off) u = .ok () u :=
  (checkOffset16_run _ _).trans (if_pos (by rw [ho.realBound_eq]; exact hle))

theorem farJmp_real (hle : (nearTarget s off).toNat ≤ realBound s) :
    farTransfer false sel off s.os.bits u = .ok () (withCs u (realCs s sel) (nearTarget s off)) := by
  rw [farTransfer_real hp ho sel off, bind_of_ok (checkOffset16_passes ho off hle)]
  exact setCs_setEip sel _ ho.cr_eq ho.flags_eq ho.segs_eq

theorem farCall_real {slots : List (List Word)} {s1 : State} (hle : (nearTarget s off).toNat ≤ realBound s)
    (hslots : pushSlots s.ss s.os.bytes s.spOff 2 u = .ok slots s1) :
    ∃ v, StoredAll slots [s.segs.cs.sel.toNat, s.enter.eip.toNat] s1 v ∧ farTransfer true sel off s.os.bits u =
      .ok () (withCs (withSp v (s.spOff - BitVec.ofNat 32 (2 * s.os.bytes))) (realCs s sel) (nearTarget s off)) := by
  have hss : u.ss = s.ss := ho.ss_eq
  have hsp : u.spOff = s.spOff := ho.spOff_eq
  rw [← hss, ← hsp] at hslots
  obtain ⟨v, hstored, hacc, hpush⟩ := pushList_stored (vs := [u.segs.cs.sel.toNat, u.eip.toNat]) hslots
  have hv : OnlyAccess s.enter v := ho.trans hacc
  rw [ho.segs_eq, ho.eip_eq] at hstored
  refine ⟨v, hstored, ?_⟩
  rw [farTransfer_real hp ho sel off, bind_of_ok (checkOffset16_passes ho off hle), if_pos rfl, bind_of_ok hpush, hsp,
    Nat.mul_comm 2]
  exact setCs_setEip sel _ hv.cr_eq hv.flags_eq hv.segs_eq

end

theorem exec_jmpPtr (off : Word) (sel : Half) (s : State) : exec (.jmpPtr off sel) s = runInstr (atOs (farTransfer false sel off)) s := rfl
theorem exec_callPtr (off : Word) (sel : Half) (s : State) : exec (.callPtr off sel) s = runInstr (atOs (farTransfer true sel off)) s := rfl

/-- A far JMP or CALL through a pointer in memory: the pointer, then the transfer. -/
def farMem (call : Bool) (m : MemOp) : M Unit := atOs fun w => do
  let (sel, off) ← readFar m w
  farTransfer call sel off w

theorem exec_jmpFar (m : MemOp) (s : State) : exec (.jmpFar m) s = runInstr (farMem false m) s := by
  rw [show exec (.jmpFar m) s = execJmpFar m s from rfl, execJmpFar, farMem]

theorem exec_callFar (m : MemOp) (s : State) : exec (.callFar m) s = runInstr (farMem true m) s := by
  rw [show exec (.callFar m) s = execCallFar m s from rfl, execCallFar, farMem]

theorem farMem_run {m : MemOp} {s t : State} {v w : Nat} (call : Bool) (h : ReadTwice m s.os.bytes 2 s s.enter v w t) :
    farMem call m s.enter = farTransfer call (BitVec.ofNat 16 w) (BitVec.ofNat 32 v) s.os.bits t := by
  rw [farMem, atOs_run, show s.enter.os = s.os from rfl]
  rw [bind_of_ok (readFar_run h).1]

/-- An offset read at the operand size needs no cutting. -/
theorem nearTarget_read {m : MemOp} {s t : State} {v w : Nat} (h : ReadTwice m s.os.bytes 2 s s.enter v w t) :
    nearTarget s (BitVec.ofNat 32 v) = BitVec.ofNat 32 v ∧ (BitVec.ofNat 32 v).toNat = v := by
  obtain ⟨ps, s1, s2, qs, s3, hacc, hload, -⟩ := h
  have hlt : v < 256 ^ s.os.bytes := accessIf_length hacc ▸ load_lt hload
  rw [nearTarget]
  cases hos : s.os
  · rw [hos] at hlt
    have hlt' : v < 65536 := by simpa [Size.bytes] using hlt
    refine ⟨?_, by simp; omega⟩
    rw [if_pos rfl, and_FFFF]
    apply BitVec.eq_of_toNat_eq
    simp only [BitVec.toNat_setWidth, BitVec.toNat_ofNat]
    omega
  · rw [hos] at hlt
    have hlt' : v < 4294967296 := by simpa [Size.bytes] using hlt
    exact ⟨rfl, by simp; omega⟩

/-! ## RET and IRET -/

theorem slot_checksOnly (n k : Nat) (x : Word) : ChecksOnly (slot n k x) :=
  .bind (peek_checksOnly ..) fun _ => .pure _

/-- RET far outside protected mode, once its two slots were read (R706). -/
theorem retFar_real {s : State} {imm : BitVec 16} {sz : Size} {ip cs : Word} {s1 s2 : State} (hp : s.prot = false)
    (h0 : slot sz.bytes 0 0 s = .ok ip s1) (h1 : slot sz.bytes 1 0 s1 = .ok cs s2) :
    retFar imm sz.bits s = if ip.toNat ≤ realBound s then
        .ok () (withCs (withSp s2 (s.spOff + BitVec.ofNat 32 (2 * sz.bytes) + imm.setWidth 32)) (realCs s (cs.setWidth 16)) ip)
      else .error (.exc gp0) s2 := by
  have ho : OnlyAccess s s2 := (slot_checksOnly _ _ _ h0).trans (slot_checksOnly _ _ _ h1)
  simp only [retFar, get_bind, bytes_eq, hp, Bool.false_eq_true, if_false]
  refine (bind_of_ok rfl).trans <| (bind_of_ok h0).trans <| (bind_of_ok h1).trans ?_
  rw [← ho.realBound_eq]
  by_cases hle : ip.toNat ≤ realBound s2
  · rw [if_pos hle, bind_of_ok ((checkOffset16_run ip s2).trans (if_pos hle)), bind_of_ok (addSp_run _ _), ho.spOff_eq, BitVec.add_assoc]
    exact setCs_setEip _ _ ho.cr_eq ho.flags_eq ho.segs_eq
  · rw [if_neg hle, bind_of_error ((checkOffset16_run ip s2).trans (if_neg hle))]

theorem exec_retFar {i : Instr} {n : BitVec 16} (h : (i = .retf ∧ n = 0) ∨ i = .retfImm16 n) (s : State) :
    exec i s = runInstr (atOs (retFar n)) s := by
  rcases h with ⟨rfl, rfl⟩ | rfl <;> rfl

/-- Before IRET reads the stack: the NMI-blocked state is over and RF will be kept (R1204, R1488). -/
def iretEnter (s : State) : State := { s.enter with nmiBlocked := false, cur := { s.cur with keepRf := true } }

theorem iretOp_run {s : State} (h : s.v86 = true → s.flags.iopl = 3) : iretOp s.os.bits s.enter =
    (if s.prot then
      if s.flags.nt then (do
        let link ← tssRead16 s.tr.base
        taskSwitch link .iret s.enter.eip none : M Unit)
      else iretProtected s.os.bits
    else iretReal s.os.bits) (iretEnter s) := by
  have hv : v86Iopl s.enter = .ok () s.enter := (v86Iopl_run s.enter).trans (if_pos h)
  rw [iretOp, get_bind, bind_of_ok hv]
  rfl

theorem iretReal_run {s : State} {sz : Size} {ip cs fl : Word} {s1 s2 s3 : State}
    (h0 : slot sz.bytes 0 0 s = .ok ip s1) (h1 : slot sz.bytes 1 0 s1 = .ok cs s2) (h2 : slot sz.bytes 2 0 s2 = .ok fl s3) :
    iretReal sz.bits s = if ip.toNat ≤ realBound s then
        .ok () { withCs (withSp s3 (s.spOff + BitVec.ofNat 32 (3 * sz.bytes))) (realCs s (cs.setWidth 16)) ip with
          flags := iretFlags s.flags (Flags.ofWord fl) s.level true (sz.bits == 32) s.pe }
      else .error (.exc gp0) s3 := by
  have ho : OnlyAccess s s3 := ((slot_checksOnly _ _ _ h0).trans (slot_checksOnly _ _ _ h1)).trans (slot_checksOnly _ _ _ h2)
  rw [iretReal, get_bind]
  simp only [bytes_eq]
  refine (bind_of_ok h0).trans <| (bind_of_ok h1).trans <| (bind_of_ok h2).trans ?_
  rw [← ho.realBound_eq]
  by_cases hle : ip.toNat ≤ realBound s3
  · rw [if_pos hle, bind_of_ok ((checkOffset16_run ip s3).trans (if_pos hle)), bind_of_ok (addSp_run _ _), ho.spOff_eq]
    refine (bind_of_ok (setCsReal_run (cs.setWidth 16) (s := s) (t := withSp s3 _) ho.cr_eq ho.flags_eq ho.segs_eq)).trans ?_
    rw [← ho.flags_eq]
    rfl
  · rw [if_neg hle, bind_of_error ((checkOffset16_run ip s3).trans (if_neg hle))]

theorem level_not_prot {s : State} (hp : s.prot = false) : (s.level == 0) = !s.pe := by
  have hvm : s.pe = true → s.flags.vm = true := fun hpe => by simpa [State.prot, hpe] using hp
  cases hpe : s.pe
  · simp [State.level, hpe]
  · simp [State.level, hpe, hvm hpe]

/-- What IRET outside protected mode does to the flags (R730). -/
theorem ran_of_iretReal {s : State} {ip cs fl : Word} {s1 s2 s3 : State} (hp : s.prot = false) (hv : s.v86 = true → s.flags.iopl = 3)
    (h0 : slot s.os.bytes 0 0 (iretEnter s) = .ok ip s1) (h1 : slot s.os.bytes 1 0 s1 = .ok cs s2)
    (h2 : slot s.os.bytes 2 0 s2 = .ok fl s3) :
    (realBound s < ip.toNat → Faults .iret s gp0 s3) ∧
    (ip.toNat ≤ realBound s →
      Ran .iret s { withCs (withSp s3 (s.spOff + BitVec.ofNat 32 (3 * s.os.bytes))) (realCs s (cs.setWidth 16)) ip with
        flags := iretFlags s.flags (Flags.ofWord fl) s.level true (s.os.bits == 32) s.pe }) := by
  have ho : OnlyAccess (iretEnter s) s3 := ((slot_checksOnly _ _ _ h0).trans (slot_checksOnly _ _ _ h1)).trans (slot_checksOnly _ _ _ h2)
  have hrun : atOs iretOp s.enter = iretReal s.os.bits (iretEnter s) := by
    rw [atOs_run]
    refine (iretOp_run hv).trans ?_
    rw [hp]
    rfl
  rw [iretReal_run h0 h1 h2] at hrun
  exact ⟨fun hpast => faults_of_run (show execIret s = _ from rfl) (hrun.trans (if_neg (Nat.not_le.mpr hpast))) ho.committed_eq,
    fun hle => ran_of_run (show execIret s = _ from rfl) (hrun.trans (if_pos hle))⟩

/-- Settles O23: the transfers check the offset, read or push their slots and replace CS:EIP, each proved where the transfer begins after
accesses only. -/
theorem farTransfersReal : Obligations.FarTransfersReal := by
  unfold Obligations.FarTransfersReal
  intro s hp
  refine ⟨?ptr, ?mem, ?ret, ?barred, ?iret⟩
  case ptr =>
    intro off sel
    have ho : OnlyAccess s.enter s.enter := .refl _
    refine ⟨fun hpast => ?_, fun hle => ⟨?_, fun slots s1 hslots => ?_⟩⟩
    · exact ⟨faults_of_run (exec_jmpPtr off sel s) (farTransfer_past hp ho sel off false hpast) rfl,
        faults_of_run (exec_callPtr off sel s) (farTransfer_past hp ho sel off true hpast) rfl⟩
    · exact ran_of_run (exec_jmpPtr off sel s) (farJmp_real hp ho sel off hle)
    · obtain ⟨u, hstored, hrun⟩ := farCall_real hp ho sel off hle hslots
      exact ⟨u, hstored, ran_of_run (exec_callPtr off sel s) hrun⟩
  case mem =>
    intro m v w s2 hread
    obtain ⟨hcut, hv⟩ := nearTarget_read hread
    have ho : OnlyAccess s.enter s2 := (readFar_run hread).2
    refine ⟨fun hpast => ?_, fun hle => ?_⟩
    · have hpast' : realBound s < (nearTarget s (BitVec.ofNat 32 v)).toNat := by rw [hcut, hv]; exact hpast
      exact ⟨faults_of_run (exec_jmpFar m s) ((farMem_run false hread).trans (farTransfer_past hp ho _ _ false hpast')) ho.committed_eq,
        faults_of_run (exec_callFar m s) ((farMem_run true hread).trans (farTransfer_past hp ho _ _ true hpast')) ho.committed_eq⟩
    · have hle' : (nearTarget s (BitVec.ofNat 32 v)).toNat ≤ realBound s := by rw [hcut, hv]; exact hle
      refine ⟨ran_of_run (exec_jmpFar m s) ((farMem_run false hread).trans ?_), fun slots s3 hslots => ?_⟩
      · rw [farJmp_real hp ho _ _ hle', hcut]
      · obtain ⟨u, hstored, hrun⟩ := farCall_real hp ho (BitVec.ofNat 16 w) _ hle' hslots
        rw [hcut] at hrun
        exact ⟨u, hstored, ran_of_run (exec_callFar m s) ((farMem_run true hread).trans hrun)⟩
  case ret =>
    intro i n ip s1 cs s2 hi h0 h1
    have ho : OnlyAccess s.enter s2 := (slot_checksOnly _ _ _ h0).trans (slot_checksOnly _ _ _ h1)
    have hrun : atOs (retFar n) s.enter = _ := (atOs_run _ _).trans (retFar_real (sz := s.os) hp h0 h1)
    exact ⟨fun hpast => faults_of_run (exec_retFar hi s) (hrun.trans (if_neg (Nat.not_le.mpr hpast))) ho.committed_eq,
      fun hle => ran_of_run (exec_retFar hi s) (hrun.trans (if_pos hle))⟩
  case barred =>
    intro hv hiopl
    have hno : v86Iopl s.enter = .error (.exc gp0) s.enter := (v86Iopl_run s.enter).trans (if_neg fun h => hiopl (h hv))
    refine faults_of_run (show execIret s = _ from rfl) ?_ rfl
    rw [atOs_run, iretOp, get_bind, bind_of_error hno]
  case iret =>
    intro ip s1 cs s2 fl s3 hv h0 h1 h2
    obtain ⟨hpast, hrun⟩ := ran_of_iretReal hp hv h0 h1 h2
    refine ⟨hpast, fun hle => ⟨_, hrun hle, ?_⟩⟩
    have hlevel := level_not_prot hp
    have hwide : (s.os.bits == 32) = (s.os == .s32) := by cases s.os <;> rfl
    have hiff : s.os = .s32 ↔ (s.os.bits == 32) = true := by rw [hwide, beq_iff_eq]
    simp only [hiff]
    refine ⟨rfl, rfl, rfl, rfl, rfl, rfl, rfl, rfl, rfl, rfl, ?_, rfl, rfl, rfl, rfl, ?_, ?_⟩
    · rw [iretFlags, hlevel]
      cases s.pe <;> rfl
    · rw [iretFlags, hlevel]
      cases s.pe <;> simp
    · rw [iretFlags, hlevel]
      cases s.pe <;> simp

end Sys2Proof.Laws

end
end

section
/-! What the transfers of protected mode share: the stack frame, the Accessed bits, the loads of CS and SS (23_protection.md R312, R316, R325,
R326). -/

noncomputable section

namespace Sys2Proof.Laws

open Sys2Proof Sys2Proof.Machine Sys2Proof.Claims

theorem OnlyAccess.cpl_eq {s t : State} (h : OnlyAccess s t) : t.cpl = s.cpl := by
  rw [h]

theorem OnlyAccess.tr_eq {s t : State} (h : OnlyAccess s t) : t.tr = s.tr := by
  rw [h]

theorem onlyAccess_of_bitsSet {ps : List Word} {m : Word} {s t : State} (h : BitsSet ps m s t) : OnlyAccess s t := by
  obtain ⟨v, w, hload, hstored⟩ := h
  exact (load_checksOnly _ hload).trans (onlyAccess_of_stored hstored)

theorem faults_of_stop {i : Instr} {body : M Unit} {s t : State} {e : Exc} (hi : exec i s = runInstr body s)
    (hb : body s.enter = .error (.exc e) t) (hc : t.cur.committed = false) : Faults i s e t :=
  fun _ => hi.trans (runInstr_exc hb hc)

/-! ## Selectors -/

theorem withRpl_atLevel (sel : Half) (pl : BitVec 2) : withRpl sel pl = atLevel sel pl := by
  have := sel.isLt
  have := pl.isLt
  apply BitVec.eq_of_toNat_eq
  rw [withRpl, toNat_append_eq, BitVec.extractLsb'_toNat, Nat.shiftRight_eq_div_pow, atLevel, BitVec.toNat_ofNat]
  omega

theorem withRpl_rpl (sel : Half) : withRpl sel (rpl sel) = sel := by
  have := sel.isLt
  rw [withRpl_eq]
  apply BitVec.eq_of_toNat_eq
  rw [BitVec.toNat_ofNat]
  omega

/-- The descriptor found for a selector, in any state with the same tables. -/
theorem read_named {s u v : State} {sel : Half} {d : Desc} (h : Named s sel u d v) (hs : SameTables s u) (bad : M Unit) :
    readDesc sel bad u = .ok d v := (named_read hs h bad).2

theorem notNull_of_named {s u v : State} {sel : Half} {d : Desc} (h : Named s sel u d v) : isNull sel = false := by
  rw [isNull_eq]
  exact decide_eq_false (Nat.not_lt.mpr h.1)

theorem onlyAccess_of_named {s u v : State} {sel : Half} {d : Desc} (h : Named s sel u d v) : OnlyAccess u v :=
  readDescAt_checksOnly _ h.2.2

/-! ## The stack frame -/

theorem frameIn_iff (s : State) {n : Nat} (hn : 0 < n) : inReach s.ss s.segs.ss s.spOff.toNat n = true ↔ frameIn s n := by
  rw [inReach, Bool.and_eq_true, noWrap_iff, inLimit_iff hn, frameIn]
  refine and_congr (by rw [not_and, Nat.not_lt]) ?_
  by_cases h : s.segs.ss.attr.typ.getLsbD 3 = false ∧ s.segs.ss.attr.typ.getLsbD 2 = true
  · rw [if_pos h, if_pos h, not_or, Nat.not_le, Nat.not_lt]
  · rw [if_neg h, if_neg h, Nat.not_lt]

section
variable {s u : State} (ho : OnlyAccess s u) {n : Nat}
include ho

theorem frame_iff (hn : 0 < n) : inReach u.ss u.segs.ss u.spOff.toNat n = true ↔ frameIn s n := by
  rw [ho.ss_eq, ho.segs_eq, ho.spOff_eq, frameIn_iff s hn]

theorem stackFrame_passes (hn : 0 < n) (h : frameIn s n) : stackFrame n u = .ok () u := by
  rw [stackFrame_run, if_pos ((frame_iff ho hn).mpr h)]

theorem stackFrame_fails (hn : 0 < n) (h : ¬ frameIn s n) : stackFrame n u = .error (.exc ss0) u := by
  rw [stackFrame_run, if_neg ((frame_iff ho hn).not.mpr h)]
  rfl

end

/-! ## The Accessed bits -/

theorem onlyAccess_of_accessedAt {d : Desc} {s t : State} {ps : List Word} (h : accessedAt d s ps t) : OnlyAccess s t := by
  rw [accessedAt] at h
  split at h
  · exact h.2 ▸ .refl _
  · exact linAddrs_checksOnly _ _ _ h

theorem accessedPlaces_one {d : Desc} {s t : State} {ps : List Word} (h : accessedAt d s ps t) : accessedPlaces [d] s = .ok [ps] t :=
  (bind_of_ok (accessedPlace_run h)).trans rfl

theorem accessedPlaces_two {d e : Desc} {s t u : State} {ps qs : List Word} (h : accessedAt d s ps t) (h' : accessedAt e t qs u) :
    accessedPlaces [d, e] s = .ok [ps, qs] u :=
  (bind_of_ok (accessedPlace_run h)).trans ((bind_of_ok (accessedPlaces_one h')).trans rfl)

theorem markAccessed_one (ps : List Word) (s : State) : ∃ t, BitsSet ps 0x100 s t ∧ markAccessed [ps] s = .ok () t := by
  obtain ⟨t, ht, hbits⟩ := setBits_bitsSet ps 0x100 s
  exact ⟨t, hbits, (bind_of_ok ht).trans rfl⟩

/-! ## The loads of CS -/

theorem setCodeSeg_run {sel : Half} {d : Desc} {s : State} {pl : BitVec 2} (h : s.cpl = pl) :
    setCodeSeg sel d s = .ok () { s with segs := { s.segs with cs := segOf (marked d) (atLevel sel pl) } } := by
  subst h
  rw [setCodeSeg, get_bind, withRpl_atLevel]
  rfl

theorem setCode_run {sel : Half} {d : Desc} {s t : State} {ps : List Word} (h : accessedAt d s ps t) :
    ∃ u, BitsSet ps 0x100 t u ∧ setCode sel d s = .ok () { u with segs := { u.segs with cs := segOf (marked d) (atLevel sel s.cpl) } } := by
  obtain ⟨u, hbits, hset⟩ := setAccessed_run h
  refine ⟨u, hbits, ?_⟩
  have hcpl : u.cpl = s.cpl := ((onlyAccess_of_accessedAt h).trans (onlyAccess_of_bitsSet hbits)).cpl_eq
  rw [setCode, bind_of_ok hset, setCodeSeg_run hcpl]

/-! ## Pushes between the loads -/

section
variable {n count : Nat} {d cd : Desc} {check : M Unit} {write : List (List Word) → M Unit} {slots : List (List Word)}
variable {ps qs : List Word} {s s1 s2 s3 s4 : State}

/-- Pushes before the load of CS: the items, then its Accessed bit (R1531). -/
theorem pushLoading_code (hslots : pushSlots s.ss n s.spOff count s = .ok slots s1) (hcheck : check s1 = .ok () s1)
    (hplace : accessedAt cd s1 ps s2) (hwrite : write slots s2 = .ok () s3) (hss : s3.ss = s.ss) :
    ∃ t, BitsSet ps 0x100 s3 t ∧
      pushLoading n count [] [cd] check write s = .ok () (withSp t (s.spOff - BitVec.ofNat 32 (n * count))) := by
  obtain ⟨t, hbits, hmark⟩ := markAccessed_one ps s3
  refine ⟨t, hbits, ?_⟩
  have hss' : s.ss = t.ss := ((onlyAccess_of_bitsSet hbits).ss_eq.trans hss).symm
  rw [pushLoading_ok hslots hcheck rfl (accessedPlaces_one hplace) rfl hwrite hmark, hss', withSp_wrapSp]

/-- Pushes between the loads of SS and CS: the Accessed bit of SS, the items, then that of CS (R1531). -/
theorem pushLoading_both (hslots : pushSlots s.ss n s.spOff count s = .ok slots s1) (hcheck : check s1 = .ok () s1)
    (hplace : accessedAt d s1 qs s2) (hplace' : accessedAt cd s2 ps s3) :
    ∃ u, BitsSet qs 0x100 s3 u ∧ ∀ v, write slots u = .ok () v → v.ss = s.ss → ∃ t, BitsSet ps 0x100 v t ∧
      pushLoading n count [d] [cd] check write s = .ok () (withSp t (s.spOff - BitVec.ofNat 32 (n * count))) := by
  obtain ⟨u, hbits, hmark⟩ := markAccessed_one qs s3
  refine ⟨u, hbits, fun v hwrite hss => ?_⟩
  obtain ⟨t, hbits', hmark'⟩ := markAccessed_one ps v
  refine ⟨t, hbits', ?_⟩
  have hss' : s.ss = t.ss := ((onlyAccess_of_bitsSet hbits').ss_eq.trans hss).symm
  rw [pushLoading_ok hslots hcheck (accessedPlaces_one hplace) (accessedPlaces_one hplace') hmark hwrite hmark', hss', withSp_wrapSp]

/-- Without the slots, or past a check made after them, nothing is pushed. -/
theorem pushLoading_checkFails {before after : List Desc} {e : Stop} (hslots : pushSlots s.ss n s.spOff count s = .ok slots s1)
    (hcheck : check s1 = .error e s2) : pushLoading n count before after check write s = .error e s2 := by
  rw [pushLoading, get_bind, bind_of_ok hslots, bind_of_error hcheck]

end

/-! ## The inner stack -/

theorem onlyAccess_of_pointerRead {pl : BitVec 2} {u t : State} {sel : Half} {sp : Word} (h : PointerRead pl u sel sp t) : OnlyAccess u t := by
  obtain ⟨-, ps, v, w, u1, u2, hps, hv, hw, -, -⟩ := h
  exact ((tssAddrs_checksOnly _ _ _ hps).trans (load_checksOnly _ hv)).trans (load_checksOnly _ hw)

theorem innerStack_stops {pl : BitVec 2} {u t : State} {e : Exc} (h : InnerRefused pl u e t) : innerStack pl u = .error (.exc e) t :=
  innerStack_refused (fun _ _ _ hp => (onlyAccess_of_pointerRead hp).sameTables) h

theorem onlyAccess_of_innerStack {pl : BitVec 2} {u t : State} {d : Desc} {sel : Half} {sp : Word} (h : InnerStack pl u d sel sp t) :
    OnlyAccess u t := by
  obtain ⟨u3, hp, hn, -⟩ := h
  exact (onlyAccess_of_pointerRead hp).trans (onlyAccess_of_named hn)

theorem onlyAccess_of_innerRefused {pl : BitVec 2} {u t : State} {e : Exc} (h : InnerRefused pl u e t) : OnlyAccess u t := by
  rcases h with ⟨-, -, rfl⟩ | ⟨sel, sp, u3, hp, ⟨-, -, rfl⟩ | ⟨d, hn, -⟩⟩
  · exact .refl _
  · exact onlyAccess_of_pointerRead hp
  · exact (onlyAccess_of_pointerRead hp).trans (onlyAccess_of_named hn)

/-- The inner stack that the TSS names (R316). -/
theorem innerStack_run {pl : BitVec 2} {u t : State} {d : Desc} {sel : Half} {sp : Word} (h : InnerStack pl u d sel sp t) :
    innerStack pl u = .ok (d, sel, sp) t := by
  obtain ⟨u3, hp, hn, hrpl, hdpl, hpresent, htype⟩ := h
  have hsame := (onlyAccess_of_pointerRead hp).sameTables
  obtain ⟨hroom, ps, v, w, u1, u2, hps, hv, hw, rfl, rfl⟩ := hp
  have hsize : (if bit u.tr.attr.typ 3 = true then 4 else 2) = pointerSize u := rfl
  have hplace : (if bit u.tr.attr.typ 3 = true then 4 + 8 * pl.toNat else 2 + 4 * pl.toNat) = pointerAt u pl := by
    unfold pointerAt pointerSize bit
    split <;> omega
  rw [innerStack, get_bind]
  simp only [hplace, hsize]
  rw [guard_ts, if_pos (decide_eq_true hroom)]
  refine (bind_of_ok hps).trans <| (bind_of_ok hv).trans <| (bind_of_ok hw).trans ?_
  rw [notNull_of_named hn, guard_ts, if_pos (by decide), bind_of_ok (read_named hn hsame _), guard_ts,
    if_pos (by rw [beq_iff_eq, ← BitVec.toNat_inj, rpl_toNat]; exact hrpl), guard_ts, if_pos (by rw [beq_iff_eq]; exact hdpl), guard_ts,
    if_pos ((writable_iff d).mpr htype), guard_sf, if_pos (by rw [present_eq]; exact hpresent)]
  rfl

/-- The space check does not depend on how the pointer is wrapped. -/
theorem stackRoom_wrap (g : Seg) (n : Nat) (sp : Word) (count : Nat) :
    stackRoom g n (wrapSp (if g.attr.db then .s32 else .s16) sp) count = stackRoom g n sp count := by
  cases count with
  | zero => rfl
  | succ c => simp only [stackRoom, wrapSp_sub]

theorem stackRoom_switched {pl : BitVec 2} {d : Desc} {sel : Half} {sp : Word} {u : State} (hpe : u.pe = true) (n count : Nat) :
    stackRoom (d.accessed.toSeg sel) n sp count = true ↔ roomFor (switched pl d sel sp u) n count := by
  have h := stackRoom_iff (s := switched pl d sel sp u) hpe n count
  rw [← h, show (switched pl d sel sp u).segs.ss = d.accessed.toSeg sel from rfl,
    show (switched pl d sel sp u).spOff = wrapSp (if (d.accessed.toSeg sel).attr.db then .s32 else .s16) sp from rfl, stackRoom_wrap]

/-- SS, ESP and CPL on the inner stack (R316). -/
theorem switchInner_run (pl : BitVec 2) (d : Desc) (sel : Half) (sp : Word) (s : State) :
    switchInner pl d sel sp s = .ok () (switched pl d sel sp s) := rfl

section
variable {pl : BitVec 2} {u t : State} {d : Desc} {sel : Half} {sp : Word} {n count : Nat} (h : InnerStack pl u d sel sp t)
include h

theorem checkInner_passes (hpe : u.pe = true) (hroom : roomFor (switched pl d sel sp t) n count) :
    checkInner pl n count u = .ok (d, sel, sp) t := by
  have hpe' : t.pe = true := by rw [State.pe, (onlyAccess_of_innerStack h).cr_eq]; exact hpe
  rw [checkInner, get_bind, bind_of_ok (innerStack_run h)]
  simp only []
  rw [guard_sf, if_pos ((stackRoom_switched hpe' n count).mpr hroom)]
  rfl

theorem checkInner_noRoom (hpe : u.pe = true) (hroom : ¬ roomFor (switched pl d sel sp t) n count) :
    checkInner pl n count u = .error (.exc (if u.v86 then ss0 else selFault 12 sel)) t := by
  have hpe' : t.pe = true := by rw [State.pe, (onlyAccess_of_innerStack h).cr_eq]; exact hpe
  rw [checkInner, get_bind, bind_of_ok (innerStack_run h)]
  simp only []
  rw [guard_sf, if_neg ((stackRoom_switched hpe' n count).not.mpr hroom), selFault_eq]
  cases u.v86 <;> rfl

end

theorem checkInner_stops {pl : BitVec 2} {u t : State} {e : Exc} (n count : Nat) (h : InnerRefused pl u e t) :
    checkInner pl n count u = .error (.exc e) t := by
  rw [checkInner, get_bind, bind_of_error (innerStack_stops h)]

/-! ## The code and stack segments of a return -/

/-- The descriptor a return to `sel` finds (R325). -/
theorem checkReturn_run {s u t : State} {sel : Half} {d : Desc} (hs : SameTables s u) (h : Named s sel u d t) (hto : returnsTo s sel d) :
    checkReturn sel u = .ok d t := by
  obtain ⟨⟨hpresent, hcode⟩, hlevel, hdpl⟩ := hto
  have hcode' : d.isCode = true := (isCode_iff d).mpr hcode
  rw [checkReturn, get_bind, notNull_of_named h, guard_gp, if_pos (by decide), bind_of_ok (read_named h hs _), guard_gp, if_pos hcode', guard_gp,
    if_pos (by rw [ult_iff, rpl_toNat, hs.2.2]; exact hlevel), guard_gp, if_pos, guard_np, if_pos (by rw [present_eq]; exact hpresent)]
  · rfl
  · rw [conforming_eq hcode']
    split at hdpl
    · next hconf => rw [if_pos hconf, ult_iff, rpl_toNat]; exact hdpl
    · next hconf => rw [if_neg hconf, beq_iff_eq, ← BitVec.toNat_inj, rpl_toNat]; exact hdpl

theorem checkOuterStack_run {s u t : State} {sel : Half} {pl : BitVec 2} {d : Desc} (hs : SameTables s u) (h : Named s sel u d t)
    (hstack : stackDesc d) (hdpl : d.dpl.toNat = pl.toNat) (hrpl : sel.toNat % 4 = pl.toNat) : checkOuterStack sel pl u = .ok d t := by
  obtain ⟨hpresent, htype⟩ := hstack
  rw [checkOuterStack, notNull_of_named h, guard_gp, if_pos (by decide), bind_of_ok (read_named h hs _), guard_gp,
    if_pos ((writable_iff d).mpr htype), guard_sf, if_pos (by rw [present_eq]; exact hpresent), guard_gp,
    if_pos (by rw [beq_iff_eq, ← BitVec.toNat_inj]; exact hdpl), guard_gp, if_pos (by rw [beq_iff_eq, ← BitVec.toNat_inj, rpl_toNat]; exact hrpl)]
  rfl

theorem onlyAccess_of_codeRefused {may : Desc → Prop} {s u t : State} {sel : Half} {e : Exc} (h : CodeRefused may s sel u e t) :
    OnlyAccess u t := by
  rcases h with ⟨-, -, rfl⟩ | ⟨-, -, -, rfl⟩ | ⟨d, hn, -⟩
  · exact .refl _
  · exact .refl _
  · exact onlyAccess_of_named hn

theorem onlyAccess_of_stackRefused {pl : Nat} {s u t : State} {sel : Half} {e : Exc} (h : StackRefused pl s sel u e t) : OnlyAccess u t := by
  rcases h with ⟨-, -, rfl⟩ | ⟨-, -, -, rfl⟩ | ⟨d, hn, -⟩
  · exact .refl _
  · exact .refl _
  · exact onlyAccess_of_named hn

theorem rpl_eq_ofNat (sel : Half) : rpl sel = BitVec.ofNat 2 sel.toNat := by
  rw [← BitVec.toNat_inj, rpl_toNat, BitVec.toNat_ofNat]

theorem outwardSeg_eq (g : Seg) (sel : Half) : g.outward (rpl sel) = outwardSeg (sel.toNat % 4) g := by
  have hult : g.attr.dpl.ult (rpl sel) = true ↔ g.attr.dpl.toNat < sel.toNat % 4 := by
    rw [BitVec.ult_iff_lt, BitVec.lt_def, rpl_toNat]
  rw [Seg.outward, outwardSeg]
  refine if_congr ?_ rfl rfl
  rw [Bool.and_eq_true, Bool.and_eq_true, Bool.and_eq_true, hult, Bool.not_eq_true', Bool.and_eq_false_iff, not_and_or, and_assoc, and_assoc,
    Bool.not_eq_true, Bool.not_eq_true]
  rfl

section
variable {sel osel : Half} {d od : Desc} {eip esp : Word} {u : State}

theorem returnOuter_past (h : d.limit.toNat < eip.toNat) : returnOuter sel d eip osel od esp u = .error (.exc gp0) u := by
  rw [returnOuter, guard_gp, if_neg (by simpa using h)]
  rfl

/-- The end of a return to an outer level (R326). -/
theorem returnOuter_run {ps qs : List Word} {s1 s2 : State} (h : eip.toNat ≤ d.limit.toNat) (hps : accessedAt d u ps s1)
    (hqs : accessedAt od s1 qs s2) : ∃ v w, BitsSet ps 0x100 s2 v ∧ BitsSet qs 0x100 v w ∧
      returnOuter sel d eip osel od esp u = .ok () (outward w d sel eip od osel esp) := by
  obtain ⟨v, hv, hbits⟩ := setBits_bitsSet ps 0x100 s2
  obtain ⟨w, hw, hbits'⟩ := setBits_bitsSet qs 0x100 v
  refine ⟨v, w, hbits, hbits', ?_⟩
  have hset : setAccessedAll [d, od] u = .ok () w :=
    (bind_of_ok (accessedPlaces_two hps hqs)).trans ((bind_of_ok hv).trans ((bind_of_ok hw).trans rfl))
  rw [returnOuter, guard_gp, if_pos (by simpa using h), bind_of_ok hset, modify_run, outward, ← rpl_eq_ofNat]
  simp only [outwardSeg_eq]
  rfl

end

end Sys2Proof.Laws

end
end

section
/-! Far JMP and CALL in protected mode (23_protection.md R312 to R316, 43_control_transfer.md R704, R705). -/

noncomputable section

namespace Sys2Proof.Laws

open Sys2Proof Sys2Proof.Machine Sys2Proof.Claims

/-! ## Where the transfer stands once its pointer is known -/

/-- The far JMP or CALL `i` has its pointer: what is left is the transfer to `sel:off`, from `u`. -/
def FarBegins (s : State) (call : Bool) (i : Instr) (off : Word) (sel : Half) (u : State) : Prop :=
  ∃ body o, exec i s = runInstr body s ∧ body s.enter = farProtected call sel o s.os.bits u ∧ cutTarget s.os.bits o = off

theorem farTransfer_prot {s u : State} (hp : s.prot = true) (ho : OnlyAccess s.enter u) (call : Bool) (sel : Half) (off : Word) (w : Nat) :
    farTransfer call sel off w u = farProtected call sel off w u := by
  have hpu : u.prot = true := ho.prot_eq.trans hp
  rw [farTransfer, get_bind, if_pos hpu]

/-- A pointer in the instruction or in memory: JMP and CALL get as far as `u`. -/
theorem farBegins_of_pointer {s u : State} {j c : Instr} {off : Word} {sel : Half} (hp : s.prot = true) (h : FarPointer s j c off sel u) :
    OnlyAccess s.enter u ∧ FarBegins s false j off sel u ∧ FarBegins s true c off sel u := by
  rcases h with ⟨o, rfl, rfl, rfl, rfl⟩ | ⟨m, v, w, rfl, rfl, hread, rfl, rfl⟩
  · have ho : OnlyAccess s.enter s.enter := .refl _
    exact ⟨ho, ⟨_, o, exec_jmpPtr o sel s, farTransfer_prot hp ho false sel o _, cutTarget_eq s o⟩,
      ⟨_, o, exec_callPtr o sel s, farTransfer_prot hp ho true sel o _, cutTarget_eq s o⟩⟩
  · have ho : OnlyAccess s.enter u := (readFar_run hread).2
    have hcut : cutTarget s.os.bits (BitVec.ofNat 32 v) = BitVec.ofNat 32 v := (cutTarget_eq s _).trans (nearTarget_read hread).1
    exact ⟨ho, ⟨_, _, exec_jmpFar m s, (farMem_run false hread).trans (farTransfer_prot hp ho false _ _ _), hcut⟩,
      ⟨_, _, exec_callFar m s, (farMem_run true hread).trans (farTransfer_prot hp ho true _ _ _), hcut⟩⟩

section
variable {s u t : State} {call : Bool} {i : Instr} {off : Word} {sel : Half} (h : FarBegins s call i off sel u)
include h

theorem FarBegins.ran (hrun : ∀ o, cutTarget s.os.bits o = off → farProtected call sel o s.os.bits u = .ok () t) : Ran i s t := by
  obtain ⟨body, o, hi, hbody, hcut⟩ := h
  exact ran_of_run hi (hbody.trans (hrun o hcut))

theorem FarBegins.faults {e : Exc} (hrun : ∀ o, cutTarget s.os.bits o = off → farProtected call sel o s.os.bits u = .error (.exc e) t)
    (hacc : OnlyAccess s.enter t) : Faults i s e t := by
  obtain ⟨body, o, hi, hbody, hcut⟩ := h
  exact faults_of_run hi (hbody.trans (hrun o hcut)) hacc.committed_eq

theorem FarBegins.stops {e : Exc} (hrun : ∀ o, cutTarget s.os.bits o = off → farProtected call sel o s.os.bits u = .error (.exc e) t)
    (hc : t.cur.committed = false) : Faults i s e t := by
  obtain ⟨body, o, hi, hbody, hcut⟩ := h
  exact faults_of_stop hi (hbody.trans (hrun o hcut)) hc

end

/-! ## The kinds of descriptor that a selector leads to -/

/-- The levels reach a gate or a TSS (R313, R314). -/
theorem reached_iff (cpl : BitVec 2) (sel : Half) (d : Desc) :
    (!d.dpl.ult (maxPl cpl (rpl sel))) = true ↔ cpl.toNat ≤ d.dpl.toNat ∧ sel.toNat % 4 ≤ d.dpl.toNat := by
  rw [maxPl_le_iff, rpl_toNat]

theorem tss_typ : ∀ x : BitVec 4, x ∈ ([1, 3, 9, 11] : List (BitVec 4)) → (x == 4 || x == 12) = false ∧ (x == 5) = false ∧ (x &&& 5 == 1) = true := by
  decide

theorem noSystem_typ : ∀ x : BitVec 4, x ∉ ([1, 3, 4, 5, 9, 11, 12] : List (BitVec 4)) →
    (x == 4 || x == 12) = false ∧ (x == 5) = false ∧ (x &&& 5 == 1) = false := by
  decide

section
variable {s u t : State} {call : Bool} {sel : Half} {o : Word} {w : Nat} {d : Desc} (ho : OnlyAccess s.enter u)

theorem far_null (hn : sel.toNat < 4) : farProtected call sel o w u = .error (.exc gp0) u := by
  rw [farProtected, get_bind, guard_gp, isNull_eq, decide_eq_true hn]
  rfl

include ho

theorem far_out (hn : 4 ≤ sel.toNat) (hout : inTable s sel = false) : farProtected call sel o w u = .error (.exc (selFault 13 sel)) u := by
  have hout' : inTable u sel = false := ho.sameTables.inTable sel ▸ hout
  rw [farProtected, get_bind, guard_gp, isNull_eq, decide_eq_false (Nat.not_lt.mpr hn), if_pos (by decide)]
  exact bind_of_error (readDesc_out hout' (by rw [selFault_eq]; rfl))

variable (hd : Named s sel u d t)
include hd

theorem far_named : farProtected call sel o w u =
    (if d.isCode then (do checkCode sel d; farSame call sel d (cutTarget w o) (w / 8) : M Unit)
    else if d.s then gp (selCode sel)
    else if d.typ == 4 || d.typ == 12 then farGate call sel d
    else if d.typ == 5 then (do
      require (!d.dpl.ult (maxPl s.cpl (rpl sel))) (gp (selCode sel))
      require d.p (np (selCode sel))
      taskSwitch d.gateSel (if call then .call else .jmp) s.enter.eip none : M Unit)
    else if (d.typ &&& 5) == 1 then (do
      require (!d.dpl.ult (maxPl s.cpl (rpl sel))) (gp (selCode sel))
      taskSwitch sel (if call then .call else .jmp) s.enter.eip none : M Unit)
    else gp (selCode sel)) t := by
  rw [farProtected, get_bind, guard_gp, notNull_of_named hd, if_pos (by decide), bind_of_ok (read_named hd ho.sameTables _), ho.cpl_eq, ho.eip_eq]
  rfl

theorem far_code (hcode : codeType d) :
    farProtected call sel o w u = (do checkCode sel d; farSame call sel d (cutTarget w o) (w / 8) : M Unit) t := by
  rw [far_named ho hd, if_pos ((isCode_iff d).mpr hcode)]

theorem far_notCode (happ : d.hi.getLsbD 12 = true) (hcode : ¬ codeType d) :
    farProtected call sel o w u = .error (.exc (selFault 13 sel)) t := by
  rw [far_named ho hd, if_neg ((isCode_iff d).not.mpr hcode), if_pos (show d.s = true from happ), selFault_eq]
  rfl

variable (hsys : d.hi.getLsbD 12 = false)
include hsys

theorem far_system : farProtected call sel o w u =
    (if d.typ == 4 || d.typ == 12 then farGate call sel d
    else if d.typ == 5 then (do
      require (!d.dpl.ult (maxPl s.cpl (rpl sel))) (gp (selCode sel))
      require d.p (np (selCode sel))
      taskSwitch d.gateSel (if call then .call else .jmp) s.enter.eip none : M Unit)
    else if (d.typ &&& 5) == 1 then (do
      require (!d.dpl.ult (maxPl s.cpl (rpl sel))) (gp (selCode sel))
      taskSwitch sel (if call then .call else .jmp) s.enter.eip none : M Unit)
    else gp (selCode sel)) t := by
  have hs : d.s = false := hsys
  rw [far_named ho hd, if_neg (by rw [isCode_iff]; exact fun h => by rw [h.1] at hsys; exact Bool.noConfusion hsys), if_neg (by rw [hs]; decide)]

theorem far_gate (htyp : d.typ = 4 ∨ d.typ = 12) : farProtected call sel o w u = farGate call sel d t := by
  rw [far_system ho hd hsys, if_pos (by rcases htyp with h | h <;> rw [h] <;> decide)]

theorem far_taskGate (htyp : d.typ = 5) : farProtected call sel o w u = (do
      require (!d.dpl.ult (maxPl s.cpl (rpl sel))) (gp (selCode sel))
      require d.p (np (selCode sel))
      taskSwitch d.gateSel (if call then .call else .jmp) s.enter.eip none : M Unit) t := by
  rw [far_system ho hd hsys, htyp, if_neg (by decide), if_pos (by decide)]

theorem far_tss (htyp : d.typ ∈ ([1, 3, 9, 11] : List (BitVec 4))) : farProtected call sel o w u = (do
      require (!d.dpl.ult (maxPl s.cpl (rpl sel))) (gp (selCode sel))
      taskSwitch sel (if call then .call else .jmp) s.enter.eip none : M Unit) t := by
  obtain ⟨h1, h2, h3⟩ := tss_typ _ htyp
  rw [far_system ho hd hsys, if_neg (by rw [h1]; decide), if_neg (by rw [h2]; decide), if_pos h3]

theorem far_noSystem (htyp : d.typ ∉ ([1, 3, 4, 5, 9, 11, 12] : List (BitVec 4))) :
    farProtected call sel o w u = .error (.exc (selFault 13 sel)) t := by
  obtain ⟨h1, h2, h3⟩ := noSystem_typ _ htyp
  rw [far_system ho hd hsys, if_neg (by rw [h1]; decide), if_neg (by rw [h2]; decide), if_neg (by rw [h3]; decide), selFault_eq]
  rfl

end

/-! ## The code segment that is entered -/

section
variable {s t : State} {call : Bool} {sel : Half} {d : Desc} (ho : OnlyAccess s.enter t)
include ho

theorem directTo_iff (hcode : codeType d) :
    (if d.conforming then !t.cpl.ult d.dpl else d.dpl == t.cpl && !t.cpl.ult (rpl sel)) = true ↔ directTo s sel d := by
  have hcpl : t.cpl = s.cpl := ho.cpl_eq
  rw [conforming_eq ((isCode_iff d).mpr hcode), directTo, hcpl]
  by_cases hconf : d.hi.getLsbD 10 = true
  · rw [if_pos hconf, if_pos hconf, ult_iff]
  · rw [if_neg hconf, if_neg hconf, Bool.and_eq_true, beq_iff_eq, ult_iff, rpl_toNat]

theorem checkCode_refused (hcode : codeType d) (hno : ¬ directTo s sel d) : checkCode sel d t = .error (.exc (selFault 13 sel)) t := by
  rw [checkCode, get_bind, guard_gp, if_neg ((directTo_iff ho hcode).not.mpr hno), selFault_eq]

theorem checkCode_absent (hcode : codeType d) (hto : directTo s sel d) (hp : d.hi.getLsbD 15 = false) :
    checkCode sel d t = .error (.exc (selFault 11 sel)) t := by
  rw [checkCode, get_bind, guard_gp, if_pos ((directTo_iff ho hcode).mpr hto), require_run, present_eq, hp, selFault_eq]
  rfl

theorem checkCode_passes (hcode : codeType d) (hto : directTo s sel d) (hp : d.hi.getLsbD 15 = true) : checkCode sel d t = .ok () t := by
  rw [checkCode, get_bind, guard_gp, if_pos ((directTo_iff ho hcode).mpr hto), require_run, present_eq, hp]
  rfl

end

section
variable {s t : State} {sel : Half} {d : Desc} {off : Word} {n : Nat}

theorem farSame_past (call : Bool) (h : d.limit.toNat < off.toNat) : farSame call sel d off n t = .error (.exc gp0) t := by
  rw [farSame, get_bind, guard_gp, if_neg (by simpa using h)]
  rfl

variable (ho : OnlyAccess s.enter t) (hle : off.toNat ≤ d.limit.toNat)
include ho hle

/-- JMP to a code segment at the current level (R312). -/
theorem farSame_jmp {ps : List Word} {s1 : State} (hplace : accessedAt d t ps s1) : ∃ v, BitsSet ps 0x100 s1 v ∧
    farSame false sel d off n t = .ok () (withCs v (segOf (marked d) (atLevel sel s.cpl)) off) := by
  obtain ⟨v, hbits, hset⟩ := setCode_run (sel := sel) hplace
  refine ⟨v, hbits, ?_⟩
  rw [show t.cpl = s.cpl from ho.cpl_eq] at hset
  rw [farSame, get_bind, guard_gp, if_pos (by simpa using hle)]
  exact (bind_of_ok hset).trans rfl

/-- CALL to a code segment at the current level (R312, R315). -/
theorem farSame_call {slots : List (List Word)} {ps : List Word} {s1 s2 : State} (hslots : pushSlots s.ss n s.spOff 2 t = .ok slots s1)
    (hplace : accessedAt d s1 ps s2) : ∃ v w, StoredAll slots [s.segs.cs.sel.toNat, s.enter.eip.toNat] s2 v ∧ BitsSet ps 0x100 v w ∧
      farSame true sel d off n t =
        .ok () (withCs (withSp w (s.spOff - BitVec.ofNat 32 (2 * n))) (segOf (marked d) (atLevel sel s.cpl)) off) := by
  have hss : t.ss = s.ss := ho.ss_eq
  have hsp : t.spOff = s.spOff := ho.spOff_eq
  rw [← hss, ← hsp] at hslots
  have hs2 : OnlyAccess t s2 := (pushSlots_checksOnly _ _ _ _ hslots).trans (onlyAccess_of_accessedAt hplace)
  obtain ⟨v, hv, hstored⟩ := storeAll_storedAll slots [t.segs.cs.sel.toNat, t.eip.toNat] s2
  have htv : OnlyAccess t v := hs2.trans (onlyAccess_of_storedAll hstored)
  obtain ⟨w, hbits, hpush⟩ := pushLoading_code (check := pure ())
    (write := fun slots => storeAll slots [t.segs.cs.sel.toNat, t.eip.toNat]) hslots rfl hplace hv htv.ss_eq
  have hcpl : w.cpl = s.cpl := ((ho.trans htv).trans (onlyAccess_of_bitsSet hbits)).cpl_eq
  rw [ho.segs_eq, ho.eip_eq] at hstored
  refine ⟨v, w, hstored, hbits, ?_⟩
  rw [farSame, get_bind, guard_gp, if_pos (by simpa using hle), if_pos rfl, hsp, Nat.mul_comm n 2] at *
  refine (bind_of_ok hpush).trans ?_
  exact (bind_of_ok (setCodeSeg_run (s := withSp w _) hcpl)).trans rfl

end

end Sys2Proof.Laws

end
end

section
/-! Call gates (23_protection.md R314 to R316). -/

noncomputable section

namespace Sys2Proof.Laws

open Sys2Proof Sys2Proof.Machine Sys2Proof.Claims

theorem OnlyAccess.pe_eq {s t : State} (h : OnlyAccess s t) : t.pe = s.pe := by
  rw [h]
  rfl

theorem OnlyAccess.v86_eq {s t : State} (h : OnlyAccess s t) : t.v86 = s.v86 := by
  rw [h]
  rfl

/-- The size of an item that a gate pushes (R304, R315). -/
def gateBytes (g : Desc) : Nat := if bit g.typ 3 then 4 else 2

theorem gateBytes_eq {g : Desc} (h : g.typ = 4 ∨ g.typ = 12) : gateBytes g = if g.typ = 12 then 4 else 2 := by
  rcases h with h | h <;> rw [gateBytes, h] <;> decide

section
variable {s t u : State} {call : Bool} {sel : Half} {g cd : Desc} (ho : OnlyAccess s.enter t)
include ho

/-- What a gate asks of its code segment (R314). -/
theorem gateTo_iff (hcode : codeType cd) :
    (if !call && !cd.conforming then cd.dpl == t.cpl else !t.cpl.ult cd.dpl) = true ↔ gateTo call s cd := by
  have hcpl : t.cpl = s.cpl := ho.cpl_eq
  rw [conforming_eq ((isCode_iff cd).mpr hcode), gateTo, hcpl]
  by_cases h : call = false ∧ cd.hi.getLsbD 10 = false
  · rw [if_pos h, if_pos (by rw [h.1, h.2]; rfl), beq_iff_eq]
  · rw [if_neg h, if_neg (by simpa using h), ult_iff]

theorem farGate_unreached (h : ¬ (s.cpl.toNat ≤ g.dpl.toNat ∧ sel.toNat % 4 ≤ g.dpl.toNat)) :
    farGate call sel g t = .error (.exc (selFault 13 sel)) t := by
  rw [farGate, get_bind, guard_gp, if_neg ((reached_iff _ _ _).not.mpr (by rw [ho.cpl_eq]; exact h)), selFault_eq]

variable (hreach : s.cpl.toNat ≤ g.dpl.toNat ∧ sel.toNat % 4 ≤ g.dpl.toNat)
include hreach

theorem farGate_absent (hp : g.hi.getLsbD 15 = false) : farGate call sel g t = .error (.exc (selFault 11 sel)) t := by
  rw [farGate, get_bind, guard_gp, if_pos ((reached_iff _ _ _).mpr (by rw [ho.cpl_eq]; exact hreach)), guard_np, present_eq, hp, if_neg (by decide), selFault_eq]

variable (hp : g.hi.getLsbD 15 = true)
include hp

theorem farGate_present : farGate call sel g t = (do
    require (!isNull g.gateSel) (gp 0)
    let cd ← readDesc g.gateSel (gp (selCode g.gateSel))
    require cd.isCode (gp (selCode g.gateSel))
    require (if !call && !cd.conforming then cd.dpl == t.cpl else !t.cpl.ult cd.dpl) (gp (selCode g.gateSel))
    require cd.p (np (selCode g.gateSel))
    if call && !cd.conforming && cd.dpl.ult t.cpl then callInner g cd
    else farSame call g.gateSel cd g.gateOffset (gateBytes g) : M Unit) t := by
  rw [farGate, get_bind, guard_gp, if_pos ((reached_iff _ _ _).mpr (by rw [ho.cpl_eq]; exact hreach)), guard_np, present_eq, hp, if_pos rfl]
  rfl

theorem farGate_refused {e : Exc} (h : CodeRefused (gateTo call s) s g.gateSel t e u) : farGate call sel g t = .error (.exc e) u := by
  have hs : SameTables s t := ho.sameTables
  rw [farGate_present ho hreach hp, guard_gp, isNull_eq]
  rcases h with ⟨hn, rfl, rfl⟩ | ⟨hn, hout, rfl, rfl⟩ | ⟨cd, hcd, h⟩
  · rw [decide_eq_true hn]
    rfl
  · rw [decide_eq_false (Nat.not_lt.mpr hn), if_pos (by decide)]
    exact bind_of_error (readDesc_out (hs.inTable _ ▸ hout) (by rw [selFault_eq]; rfl))
  · rw [decide_eq_false (Nat.not_lt.mpr hcd.1), if_pos (by decide), bind_of_ok (read_named hcd hs _), guard_gp, guard_gp, guard_np]
    rcases h with ⟨hno, rfl⟩ | ⟨hcode, hto, habsent, rfl⟩
    · by_cases hcode : codeType cd
      · rw [if_pos ((isCode_iff cd).mpr hcode), if_neg ((gateTo_iff ho hcode).not.mpr fun hto => hno ⟨hcode, hto⟩), selFault_eq]
      · rw [if_neg ((isCode_iff cd).not.mpr hcode), selFault_eq]
    · rw [if_pos ((isCode_iff cd).mpr hcode), if_pos ((gateTo_iff ho hcode).mpr hto), present_eq, habsent, if_neg (by decide), selFault_eq]

variable (hcd : Named s g.gateSel t cd u) (hcode : codeDesc cd)
include hcd hcode

theorem farGate_enters (hto : gateTo call s cd) : farGate call sel g t =
    (if call && !cd.conforming && cd.dpl.ult t.cpl then callInner g cd else farSame call g.gateSel cd g.gateOffset (gateBytes g)) u := by
  rw [farGate_present ho hreach hp, guard_gp, notNull_of_named hcd, if_pos (by decide), bind_of_ok (read_named hcd ho.sameTables _), guard_gp,
    if_pos ((isCode_iff cd).mpr hcode.2), guard_gp, if_pos ((gateTo_iff ho hcode.2).mpr hto), guard_np, present_eq, hcode.1, if_pos rfl]

/-- A transfer through a gate at the current level (R315). -/
theorem farGate_same (hto : gateTo false s cd) :
    farGate call sel g t = farSame call g.gateSel cd g.gateOffset (gateBytes g) u := by
  have hto' : gateTo call s cd := by
    rw [gateTo] at hto ⊢
    split at hto
    · next h =>
      rw [hto]
      split <;> simp
    · next h => rw [if_neg fun hc => h ⟨rfl, hc.2⟩]; exact hto
  have hstay : (!cd.conforming && cd.dpl.ult t.cpl) = false := by
    rw [conforming_eq ((isCode_iff cd).mpr hcode.2), ho.cpl_eq]
    rw [gateTo] at hto
    by_cases hconf : cd.hi.getLsbD 10 = false
    · rw [if_pos ⟨rfl, hconf⟩] at hto
      rw [hto]
      simp [BitVec.ult]
    · rw [Bool.not_eq_false] at hconf
      rw [hconf]
      rfl
  rw [farGate_enters ho hreach hp hcd hcode hto', Bool.and_assoc, hstay, Bool.and_false, if_neg (by decide)]

/-- A CALL through a gate to an inner level (R316). -/
theorem farGate_inner (hconf : cd.hi.getLsbD 10 = false) (hlt : cd.dpl.toNat < s.cpl.toNat) : farGate true sel g t = callInner g cd u := by
  have hto : gateTo true s cd := by
    rw [gateTo, if_neg fun h => Bool.noConfusion h.1]
    exact Nat.le_of_lt hlt
  have hin : (true && !cd.conforming && cd.dpl.ult t.cpl) = true := by
    rw [conforming_eq ((isCode_iff cd).mpr hcode.2), hconf, ho.cpl_eq]
    exact decide_eq_true hlt
  rw [farGate_enters ho hreach hp hcd hcode hto, if_pos hin]

end

/-! ## CALL to an inner level -/

/-- Where the parameters are read (R316). -/
theorem paramSlots_run {s : State} {n c : Nat} {u t : State} {ps : List (List Word)} (ho : OnlyAccess s.enter u) (h : ParamSlots s n c u ps t) :
    paramSlots n c u = .ok ps t ∧ OnlyAccess s.enter t := by
  induction c generalizing u ps with
  | zero =>
    obtain ⟨rfl, rfl⟩ := h
    exact ⟨rfl, ho⟩
  | succ c ih =>
    obtain ⟨src, s1, rest, rfl, hacc, hrest⟩ := h
    obtain ⟨hrun, ho'⟩ := ih (ho.trans (access_checksOnly _ _ _ _ _ _ hacc)) hrest
    refine ⟨?_, ho'⟩
    have hss : u.ss = s.ss := ho.ss_eq
    have hsp : u.spOff = s.spOff := ho.spOff_eq
    rw [paramSlots, get_bind, hss, hsp, bind_of_ok hacc, bind_of_ok hrun]
    rfl

theorem segLinear_of_access {sz : Size} {sr : SReg} {off : Word} {n al : Nat} {k : Kind} {s t : State} {ps : List Word}
    (h : access sz sr off n al k s = .ok ps t) : ∃ lin, segLinear sz sr off n k s = .ok lin s := by
  obtain ⟨_, u, hcheck, -⟩ := bind_eq_ok.mp h
  obtain ⟨lin, v, hlin, -⟩ := bind_eq_ok.mp hcheck
  obtain ⟨-, -, rfl⟩ := segLinear_eq_ok.mp hlin
  exact ⟨lin, hlin⟩

/-- Slots that could be found have room (R316). -/
theorem stackRoom_of_pushSlots {s : State} {n c : Nat} (hpe : s.pe = true) {sp : Word} {u t : State} {slots : List (List Word)}
    (ho : OnlyAccess s u) (h : pushSlots s.ss n sp c u = .ok slots t) : stackRoom s.segs.ss n sp c = true := by
  induction c generalizing sp u t slots with
  | zero => rfl
  | succ c ih =>
    obtain ⟨ps, u1, hacc, hrest⟩ := bind_eq_ok.mp h
    obtain ⟨rest, u2, hslots, -⟩ := bind_eq_ok.mp hrest
    obtain ⟨lin, hlin⟩ := segLinear_of_access hacc
    obtain ⟨hreach, -, -⟩ := segLinear_eq_ok.mp hlin
    rw [if_pos (ho.pe_eq.trans hpe), ho.segs_eq] at hreach
    rw [stackRoom, Bool.and_eq_true]
    exact ⟨hreach.2.2, ih (ho.trans (access_checksOnly _ _ _ _ _ _ hacc)) hslots⟩

theorem roomFor_of_pushSlots {s t : State} {n c : Nat} {slots : List (List Word)} (hpe : s.pe = true)
    (h : pushSlots s.ss n s.spOff c s = .ok slots t) : roomFor s n c :=
  (stackRoom_iff hpe n c).mp (stackRoom_of_pushSlots hpe (.refl _) h)

section
variable {s u t : State} {g cd sd : Desc} {ssel : Half} {sp : Word} (hpe : s.pe = true) (hvm : s.v86 = false) (ho : OnlyAccess s.enter u)

theorem callInner_refused {e : Exc} (h : InnerRefused cd.dpl u e t) : callInner g cd u = .error (.exc e) t := by
  rw [callInner, get_bind, bind_of_error (checkInner_stops _ _ h)]

variable (h : InnerStack cd.dpl u sd ssel sp t)
include hpe ho h

include hvm in
theorem callInner_noRoom (hroom : ¬ roomFor (switched cd.dpl sd ssel sp t) (gateBytes g) (4 + g.gateCount.toNat)) :
    callInner g cd u = .error (.exc (selFault 12 ssel)) t := by
  have hcheck := checkInner_noRoom h (ho.pe_eq.trans hpe) hroom
  have hv : u.v86 = false := ho.v86_eq.trans hvm
  rw [hv, if_neg (by decide)] at hcheck
  rw [callInner, get_bind]
  rw [bind_of_error (m := checkInner cd.dpl (if bit g.typ 3 = true then 4 else 2) (4 + g.gateCount.toNat)) hcheck]

theorem callInner_room (hroom : roomFor (switched cd.dpl sd ssel sp t) (gateBytes g) (4 + g.gateCount.toNat)) : callInner g cd u = (do
    require (decide (g.gateOffset.toNat ≤ cd.limit.toNat)) (gp 0)
    let params ← paramSlots (gateBytes g) g.gateCount.toNat
    switchInner cd.dpl sd ssel sp
    pushLoading (gateBytes g) (4 + g.gateCount.toNat) [sd] [cd] (pure ()) fun slots => do
      storeAll slots [u.segs.ss.sel.toNat, u.regs.esp.toNat]
      copyAll (params.zip (slots.drop 2))
      storeAll (slots.drop (2 + g.gateCount.toNat)) [u.segs.cs.sel.toNat, u.eip.toNat]
    setSeg .cs (cd.accessed.toSeg (withRpl g.gateSel cd.dpl))
    setEip g.gateOffset : M Unit) t := by
  have hcheck := checkInner_passes h (ho.pe_eq.trans hpe) hroom
  rw [callInner, get_bind]
  rw [bind_of_ok (m := checkInner cd.dpl (if bit g.typ 3 = true then 4 else 2) (4 + g.gateCount.toNat)) hcheck]
  rfl

theorem callInner_past (hroom : roomFor (switched cd.dpl sd ssel sp t) (gateBytes g) (4 + g.gateCount.toNat))
    (hpast : cd.limit.toNat < g.gateOffset.toNat) : callInner g cd u = .error (.exc gp0) t := by
  rw [callInner_room hpe ho h hroom, guard_gp, if_neg (by simpa using hpast)]
  rfl

/-- The frame and the parameters on the inner stack, between the loads of SS and CS (R316, R1531). -/
theorem callInner_run {params slots : List (List Word)} {qs ps : List Word} {s5 s6 s7 s8 : State}
    (hle : g.gateOffset.toNat ≤ cd.limit.toNat) (hparams : ParamSlots s (gateBytes g) g.gateCount.toNat t params s5)
    (hslots : pushSlots (switched cd.dpl sd ssel sp s5).ss (gateBytes g) (switched cd.dpl sd ssel sp s5).spOff (4 + g.gateCount.toNat)
      (switched cd.dpl sd ssel sp s5) = .ok slots s6)
    (hqs : accessedAt sd s6 qs s7) (hps : accessedAt cd s7 ps s8) :
    ∃ v w x y z, BitsSet qs 0x100 s8 v ∧ StoredAll slots [s.segs.ss.sel.toNat, s.regs.esp.toNat] v w ∧
      Copied (params.zip (slots.drop 2)) w x ∧ StoredAll (slots.drop (2 + g.gateCount.toNat)) [s.segs.cs.sel.toNat, s.enter.eip.toNat] x y ∧
      BitsSet ps 0x100 y z ∧ callInner g cd u = .ok () (withCs
        (withSp z ((switched cd.dpl sd ssel sp s5).spOff - BitVec.ofNat 32 (gateBytes g * (4 + g.gateCount.toNat))))
        (segOf (marked cd) (atLevel g.gateSel cd.dpl)) g.gateOffset) := by
  have hot : OnlyAccess s.enter t := ho.trans (onlyAccess_of_innerStack h)
  obtain ⟨hread, ho5⟩ := paramSlots_run hot hparams
  have hpe5 : s5.pe = true := ho5.pe_eq.trans hpe
  have hpet : t.pe = true := hot.pe_eq.trans hpe
  have hroom : roomFor (switched cd.dpl sd ssel sp t) (gateBytes g) (4 + g.gateCount.toNat) := by
    rw [← stackRoom_switched hpet, stackRoom_switched hpe5]
    exact roomFor_of_pushSlots hpe5 hslots
  obtain ⟨v, hbits, hpush⟩ := pushLoading_both (check := pure ()) (write := fun slots => do
      storeAll slots [u.segs.ss.sel.toNat, u.regs.esp.toNat]
      copyAll (params.zip (slots.drop 2))
      storeAll (slots.drop (2 + g.gateCount.toNat)) [u.segs.cs.sel.toNat, u.eip.toNat]) hslots rfl hqs hps
  obtain ⟨w, hw, hstored⟩ := storeAll_storedAll slots [u.segs.ss.sel.toNat, u.regs.esp.toNat] v
  obtain ⟨x, hx, hcopied, hwx⟩ := copyAll_copied (params.zip (slots.drop 2)) w
  obtain ⟨y, hy, hstored'⟩ := storeAll_storedAll (slots.drop (2 + g.gateCount.toNat)) [u.segs.cs.sel.toNat, u.eip.toNat] x
  have hvy : OnlyAccess v y := ((onlyAccess_of_storedAll hstored).trans hwx).trans (onlyAccess_of_storedAll hstored')
  have h8 : OnlyAccess (switched cd.dpl sd ssel sp s5) s8 :=
    ((pushSlots_checksOnly _ _ _ _ hslots).trans (onlyAccess_of_accessedAt hqs)).trans (onlyAccess_of_accessedAt hps)
  obtain ⟨z, hbits', hrun⟩ := hpush y ((bind_of_ok hw).trans ((bind_of_ok hx).trans hy)) ((h8.trans (onlyAccess_of_bitsSet hbits)).trans hvy).ss_eq
  refine ⟨v, w, x, y, z, hbits, ?_, hcopied, ?_, hbits', ?_⟩
  · rw [ho.segs_eq, ho.regs_eq] at hstored
    exact hstored
  · rw [ho.segs_eq, ho.eip_eq] at hstored'
    exact hstored'
  · rw [callInner_room hpe ho h hroom, guard_gp, if_pos (by simpa using hle), bind_of_ok hread, bind_of_ok (switchInner_run ..)]
    refine (bind_of_ok hrun).trans ?_
    rw [withRpl_atLevel]
    rfl

end

end Sys2Proof.Laws

end
end

section
/-! Far RET and IRET in protected mode (23_protection.md R325, R326, 43_control_transfer.md R706, R730, 62_v86.md R1416). -/

noncomputable section

namespace Sys2Proof.Laws

open Sys2Proof Sys2Proof.Machine Sys2Proof.Claims

/-! ## A return to the same level -/

/-- The end of a return to the current level: (E)SP moves, CS is loaded (R325). -/
theorem returnSame_run {sel : Half} {d : Desc} {k : Word} {s u t : State} {ps : List Word} (ho : OnlyAccess s u)
    (hrpl : rpl sel = s.cpl) (hps : accessedAt d (withSp u (s.spOff + k)) ps t) :
    ∃ v, BitsSet ps 0x100 t v ∧ (do addSp k; setCode sel d : M Unit) u = .ok () { v with segs := { v.segs with cs := segOf (marked d) sel } } := by
  obtain ⟨v, hbits, hset⟩ := setCode_run (sel := sel) hps
  have hcpl : (withSp u (s.spOff + k)).cpl = rpl sel := ho.cpl_eq.trans hrpl.symm
  rw [hcpl, ← withRpl_atLevel, withRpl_rpl] at hset
  refine ⟨v, hbits, ?_⟩
  rw [bind_of_ok (addSp_run _ _), ho.spOff_eq]
  exact hset

theorem rpl_beq_iff {sel : Half} {pl : BitVec 2} : (rpl sel == pl) = true ↔ sel.toNat % 4 = pl.toNat := by
  rw [beq_iff_eq, ← BitVec.toNat_inj, rpl_toNat]

/-! ## RET -/

section
variable {s : State} (hp : s.prot = true) {imm : BitVec 16}
include hp

theorem retFar_noFrame (h : ¬ frameIn s (2 * s.os.bytes)) : retFar imm s.os.bits s.enter = .error (.exc ss0) s.enter := by
  have hn : 0 < 2 * s.os.bytes := by cases s.os <;> decide
  rw [retFar, get_bind]
  simp only [bytes_eq]
  rw [if_pos (show s.enter.prot = true from hp), bind_of_error (stackFrame_fails (.refl s.enter) hn h)]

variable {eip cs : Word} {s1 s2 : State} (hframe : frameIn s (2 * s.os.bytes)) (h0 : slot s.os.bytes 0 0 s.enter = .ok eip s1)
  (h1 : slot s.os.bytes 1 0 s1 = .ok cs s2)
include hframe h0 h1

/-- RET far once its return address was read (R325). -/
theorem retFar_read : retFar imm s.os.bits s.enter = (do
    let d ← checkReturn (cs.setWidth 16)
    if rpl (cs.setWidth 16) == s.cpl then do
      require (decide (eip.toNat ≤ d.limit.toNat)) (gp 0)
      addSp (BitVec.ofNat 32 (2 * s.os.bytes) + imm.setWidth 32)
      setCode (cs.setWidth 16) d
      setEip eip
    else do
      stackFrame (4 * s.os.bytes + imm.toNat)
      let oss ← slot s.os.bytes 3 (imm.setWidth 32)
      let oesp ← slot s.os.bytes 2 (imm.setWidth 32)
      let od ← checkOuterStack (oss.setWidth 16) (rpl (cs.setWidth 16))
      returnOuter (cs.setWidth 16) d eip (oss.setWidth 16) od (oesp + imm.setWidth 32) : M Unit) s2 := by
  have hn : 0 < 2 * s.os.bytes := by cases s.os <;> decide
  rw [retFar, get_bind]
  simp only [bytes_eq]
  rw [if_pos (show s.enter.prot = true from hp), bind_of_ok (stackFrame_passes (.refl s.enter) hn hframe), bind_of_ok h0, bind_of_ok h1,
    if_pos (show s.enter.prot = true from hp)]
  rfl

end

section
variable {s : State} {imm : BitVec 16} {i : Instr} (hp : s.prot = true) (hi : (i = .retf ∧ imm = 0) ∨ i = .retfImm16 imm)
  {eip cs : Word} {s1 s2 : State} (hframe : frameIn s (2 * s.os.bytes)) (h0 : slot s.os.bytes 0 0 s.enter = .ok eip s1)
  (h1 : slot s.os.bytes 1 0 s1 = .ok cs s2)
include hp hi hframe h0 h1

theorem retFar_refused {e : Exc} {t : State} (h : CodeRefused (outwardTo s (cs.setWidth 16)) s (cs.setWidth 16) s2 e t) : Faults i s e t := by
  have ho : OnlyAccess s.enter s2 := (slot_checksOnly _ _ _ h0).trans (slot_checksOnly _ _ _ h1)
  refine faults_of_run (exec_retFar hi s) ((atOs_run _ _).trans ?_) (ho.trans (onlyAccess_of_codeRefused h)).committed_eq
  exact (retFar_read hp hframe h0 h1).trans (bind_of_error (checkReturn_refused ho.sameTables h))

variable {d : Desc} {s3 : State} (hd : Named s (cs.setWidth 16) s2 d s3) (hto : returnsTo s (cs.setWidth 16) d)
include hd hto

theorem retFar_same (hrpl : (cs.setWidth 16 : Half).toNat % 4 = s.cpl.toNat) :
    (d.limit.toNat < eip.toNat → Faults i s gp0 s3) ∧
    (eip.toNat ≤ d.limit.toNat → ∀ ps s4,
      accessedAt d (withSp s3 (s.spOff + BitVec.ofNat 32 (2 * s.os.bytes) + imm.setWidth 32)) ps s4 →
      ∃ u, BitsSet ps 0x100 s4 u ∧ Ran i s (withCs u (segOf (marked d) (cs.setWidth 16)) eip)) := by
  have ho : OnlyAccess s.enter s2 := (slot_checksOnly _ _ _ h0).trans (slot_checksOnly _ _ _ h1)
  have ho3 : OnlyAccess s.enter s3 := ho.trans (onlyAccess_of_named hd)
  have hrun := retFar_read (imm := imm) hp hframe h0 h1
  rw [bind_of_ok (checkReturn_run ho.sameTables hd hto), if_pos (rpl_beq_iff.mpr hrpl), guard_gp] at hrun
  refine ⟨fun hpast => ?_, fun hle ps s4 hps => ?_⟩
  · refine faults_of_run (exec_retFar hi s) ((atOs_run _ _).trans (hrun.trans ?_)) ho3.committed_eq
    rw [if_neg (by simpa using hpast)]
    rfl
  · rw [BitVec.add_assoc] at hps
    obtain ⟨u, hbits, hsame⟩ := returnSame_run (s := s.enter) ho3 (beq_iff_eq.mp (rpl_beq_iff.mpr hrpl)) hps
    refine ⟨u, hbits, ran_of_run (exec_retFar hi s) ((atOs_run _ _).trans (hrun.trans ?_))⟩
    rw [if_pos (by simpa using hle), ← bind_assoc, bind_of_ok hsame]
    rfl

theorem retFar_outer (hrpl : s.cpl.toNat < (cs.setWidth 16 : Half).toNat % 4) :
    (¬ frameIn s (4 * s.os.bytes + imm.toNat) → Faults i s ss0 s3) ∧
    (frameIn s (4 * s.os.bytes + imm.toNat) → ∀ (ss : Word) (s4 : State) (esp : Word) (s5 : State),
      slot s.os.bytes 3 (imm.setWidth 32) s3 = .ok ss s4 → slot s.os.bytes 2 (imm.setWidth 32) s4 = .ok esp s5 →
      (∀ e t, StackRefused ((cs.setWidth 16 : Half).toNat % 4) s (ss.setWidth 16) s5 e t → Faults i s e t) ∧
      ∀ (sd : Desc) (s6 : State), Named s (ss.setWidth 16) s5 sd s6 → stackDesc sd → sd.dpl.toNat = (cs.setWidth 16 : Half).toNat % 4 →
        (ss.setWidth 16 : Half).toNat % 4 = (cs.setWidth 16 : Half).toNat % 4 →
        (d.limit.toNat < eip.toNat → Faults i s gp0 s6) ∧
        (eip.toNat ≤ d.limit.toNat → ∀ (ps : List Word) (s7 : State) (qs : List Word) (s8 : State),
          accessedAt d s6 ps s7 → accessedAt sd s7 qs s8 →
          ∃ u v, BitsSet ps 0x100 s8 u ∧ BitsSet qs 0x100 u v ∧
            Ran i s (outward v d (cs.setWidth 16) eip sd (ss.setWidth 16) (esp + imm.setWidth 32)))) := by
  have ho : OnlyAccess s.enter s2 := (slot_checksOnly _ _ _ h0).trans (slot_checksOnly _ _ _ h1)
  have ho3 : OnlyAccess s.enter s3 := ho.trans (onlyAccess_of_named hd)
  have hrun := retFar_read (imm := imm) hp hframe h0 h1
  rw [bind_of_ok (checkReturn_run ho.sameTables hd hto), if_neg fun h => (Nat.ne_of_gt hrpl) (rpl_beq_iff.mp h)] at hrun
  have hn : 0 < 4 * s.os.bytes + imm.toNat := by cases s.os <;> simp [Size.bytes]
  refine ⟨fun hno => ?_, fun hframe' ss s4 esp s5 h3 h2 => ?_⟩
  · refine faults_of_run (exec_retFar hi s) ((atOs_run _ _).trans (hrun.trans ?_)) ho3.committed_eq
    rw [bind_of_error (stackFrame_fails ho3 hn hno)]
  · have ho5 : OnlyAccess s.enter s5 := (ho3.trans (slot_checksOnly _ _ _ h3)).trans (slot_checksOnly _ _ _ h2)
    rw [bind_of_ok (stackFrame_passes ho3 hn hframe'), bind_of_ok h3, bind_of_ok h2] at hrun
    refine ⟨fun e t hrefused => ?_, fun sd s6 hsd hstack hdpl hsrpl => ?_⟩
    · rw [← rpl_toNat] at hrefused
      refine faults_of_run (exec_retFar hi s) ((atOs_run _ _).trans (hrun.trans ?_)) (ho5.trans (onlyAccess_of_stackRefused hrefused)).committed_eq
      exact bind_of_error (checkOuterStack_refused ho5.sameTables hrefused)
    · rw [← rpl_toNat (cs.setWidth 16)] at hdpl hsrpl
      rw [bind_of_ok (checkOuterStack_run ho5.sameTables hsd hstack hdpl hsrpl)] at hrun
      have ho6 : OnlyAccess s.enter s6 := ho5.trans (onlyAccess_of_named hsd)
      refine ⟨fun hpast => ?_, fun hle ps s7 qs s8 hps hqs => ?_⟩
      · exact faults_of_run (exec_retFar hi s) ((atOs_run _ _).trans (hrun.trans (returnOuter_past hpast))) ho6.committed_eq
      · obtain ⟨u, v, hbits, hbits', hout⟩ := returnOuter_run (sel := cs.setWidth 16) (osel := ss.setWidth 16) (esp := esp + imm.setWidth 32)
          hle hps hqs
        exact ⟨u, v, hbits, hbits', ran_of_run (exec_retFar hi s) ((atOs_run _ _).trans (hrun.trans hout))⟩

end

end Sys2Proof.Laws

end
end

section
/-! IRET in protected mode (43_control_transfer.md R730, 62_v86.md R1416). -/

noncomputable section

namespace Sys2Proof.Laws

open Sys2Proof Sys2Proof.Machine Sys2Proof.Claims

theorem v86Seg_eq (sel : Half) : Seg.ofV86 sel = v86Seg sel := by
  rw [Seg.ofV86, realBase_eq]
  rfl

theorem iret_prot_run {s : State} (hp : s.prot = true) : atOs iretOp s.enter =
    (if s.flags.nt then (do
      let link ← tssRead16 s.tr.base
      taskSwitch link .iret s.enter.eip none : M Unit)
    else iretProtected s.os.bits) (iretEnter s) := by
  rw [atOs_run]
  refine (iretOp_run fun hv => ?_).trans (congrFun (if_pos hp) _)
  rw [v86_false_of_prot hp] at hv
  exact absurd hv (by decide)

/-! ## The flags -/

theorem flagsReturned_eq (s : State) (fl : Word) :
    iretFlags s.flags (Flags.ofWord fl) s.cpl (!s.flags.iopl.ult s.cpl) (s.os.bits == 32) true = flagsReturned s fl := by
  have hwide : (s.os.bits == 32) = (s.os == .s32) := by cases s.os <;> rfl
  simp only [iretFlags, flagsReturned, hwide, ult_iff, beq_iff_eq, Bool.and_true, Flags.ofWord, bit]

/-- The image of EFLAGS keeps the defined bits (R104). -/
theorem word_ofWord (v : Word) (j : Nat) (h : j < 22) (h1 : j ≠ 1) (h3 : j ≠ 3) (h5 : j ≠ 5) (h15 : j ≠ 15) :
    (Flags.ofWord v).word.getLsbD j = v.getLsbD j := by
  rw [getLsbD_flags_word _ j (by omega)]
  interval_cases j <;> simp_all [Flags.ofWord, bit]

/-- Slots read without popping, one by one. -/
theorem peekSlots_cons {n i : Nat} {s t : State} {vs : List Word} (h : peekSlots 32 (n + 1) i s = .ok vs t) :
    ∃ a u rest, slot 4 i 0 s = .ok a u ∧ peekSlots 32 n (i + 1) u = .ok rest t ∧ vs = a :: rest := by
  obtain ⟨v, u, hpeek, hrest⟩ := bind_eq_ok.mp h
  obtain ⟨rest, u', hrest, hret⟩ := bind_eq_ok.mp hrest
  cases hret
  refine ⟨BitVec.ofNat 32 v, u, rest, ?_, hrest, rfl⟩
  rw [slot, show BitVec.ofNat 32 (4 * i) + 0 = BitVec.ofNat 32 (4 * i) from BitVec.add_zero _]
  exact (bind_of_ok hpeek).trans rfl

/-! ## Without NT -/

section
variable {s : State} (hp : s.prot = true) (hnt : s.flags.nt = false) {eip cs fl : Word} {s1 s2 s3 : State}
  (h0 : slot s.os.bytes 0 0 (iretEnter s) = .ok eip s1) (h1 : slot s.os.bytes 1 0 s1 = .ok cs s2) (h2 : slot s.os.bytes 2 0 s2 = .ok fl s3)
include h0 h1 h2

theorem onlyAccess_iret : OnlyAccess (iretEnter s) s3 :=
  ((slot_checksOnly _ _ _ h0).trans (slot_checksOnly _ _ _ h1)).trans (slot_checksOnly _ _ _ h2)

include hp hnt

/-- IRET once its three slots were read (R730). -/
theorem iretProtected_read : atOs iretOp s.enter =
    (if s.os.bits == 32 && bit fl 17 && s.cpl == 0 then iretToV86 eip cs fl
    else do
      let d ← checkReturn (cs.setWidth 16)
      if rpl (cs.setWidth 16) == s.cpl then do
        require (decide (eip.toNat ≤ d.limit.toNat)) (gp 0)
        addSp (BitVec.ofNat 32 (3 * s.os.bytes))
        setCode (cs.setWidth 16) d
        setEip eip
        modifyFlags fun f => iretFlags f (Flags.ofWord fl) s.cpl (!s.flags.iopl.ult s.cpl) (s.os.bits == 32) true
      else do
        let oesp ← slot s.os.bytes 3 0
        let oss ← slot s.os.bytes 4 0
        let od ← checkOuterStack (oss.setWidth 16) (rpl (cs.setWidth 16))
        modifyFlags fun f => iretFlags f (Flags.ofWord fl) s.cpl (!s.flags.iopl.ult s.cpl) (s.os.bits == 32) true
        returnOuter (cs.setWidth 16) d eip (oss.setWidth 16) od oesp) s3 := by
  rw [iret_prot_run hp, hnt, if_neg (by decide), iretProtected, get_bind]
  simp only [bytes_eq]
  exact (bind_of_ok h0).trans <| (bind_of_ok h1).trans <| (bind_of_ok h2).trans rfl

section
variable (hno : ¬ (s.os = .s32 ∧ fl.getLsbD 17 = true ∧ s.cpl = 0))
include hno

theorem iret_return : atOs iretOp s.enter = (do
      let d ← checkReturn (cs.setWidth 16)
      if rpl (cs.setWidth 16) == s.cpl then do
        require (decide (eip.toNat ≤ d.limit.toNat)) (gp 0)
        addSp (BitVec.ofNat 32 (3 * s.os.bytes))
        setCode (cs.setWidth 16) d
        setEip eip
        modifyFlags fun f => iretFlags f (Flags.ofWord fl) s.cpl (!s.flags.iopl.ult s.cpl) (s.os.bits == 32) true
      else do
        let oesp ← slot s.os.bytes 3 0
        let oss ← slot s.os.bytes 4 0
        let od ← checkOuterStack (oss.setWidth 16) (rpl (cs.setWidth 16))
        modifyFlags fun f => iretFlags f (Flags.ofWord fl) s.cpl (!s.flags.iopl.ult s.cpl) (s.os.bits == 32) true
        returnOuter (cs.setWidth 16) d eip (oss.setWidth 16) od oesp : M Unit) s3 := by
  have hwide : (s.os.bits == 32) = true ↔ s.os = .s32 := by cases s.os <;> decide
  rw [iretProtected_read hp hnt h0 h1 h2, if_neg]
  rw [Bool.and_eq_true, Bool.and_eq_true, hwide, beq_iff_eq, and_assoc]
  exact hno

theorem iret_refused {e : Exc} {t : State} (h : CodeRefused (outwardTo s (cs.setWidth 16)) s (cs.setWidth 16) s3 e t) : Faults .iret s e t := by
  have ho := onlyAccess_iret h0 h1 h2
  refine faults_of_run (show execIret s = _ from rfl) ?_ (ho.trans (onlyAccess_of_codeRefused h)).committed_eq
  exact (iret_return hp hnt h0 h1 h2 hno).trans (bind_of_error (checkReturn_refused ho.sameTables h))

variable {d : Desc} {s4 : State} (hd : Named s (cs.setWidth 16) s3 d s4) (hto : returnsTo s (cs.setWidth 16) d)
include hd hto

theorem iret_same (hrpl : (cs.setWidth 16 : Half).toNat % 4 = s.cpl.toNat) :
    (d.limit.toNat < eip.toNat → Faults .iret s gp0 s4) ∧
    (eip.toNat ≤ d.limit.toNat → ∀ ps s5, accessedAt d (withSp s4 (s.spOff + BitVec.ofNat 32 (3 * s.os.bytes))) ps s5 →
      ∃ u, BitsSet ps 0x100 s5 u ∧ Ran .iret s { withCs u (segOf (marked d) (cs.setWidth 16)) eip with flags := flagsReturned s fl }) := by
  have ho := onlyAccess_iret h0 h1 h2
  have ho4 : OnlyAccess (iretEnter s) s4 := ho.trans (onlyAccess_of_named hd)
  have hrun := iret_return hp hnt h0 h1 h2 hno
  rw [bind_of_ok (checkReturn_run ho.sameTables hd hto), if_pos (rpl_beq_iff.mpr hrpl), guard_gp] at hrun
  refine ⟨fun hpast => ?_, fun hle ps s5 hps => ?_⟩
  · refine faults_of_run (show execIret s = _ from rfl) (hrun.trans ?_) ho4.committed_eq
    rw [if_neg (by simpa using hpast)]
    rfl
  · obtain ⟨u, hbits, hsame⟩ := returnSame_run (s := iretEnter s) ho4 (beq_iff_eq.mp (rpl_beq_iff.mpr hrpl)) hps
    refine ⟨u, hbits, ran_of_run (show execIret s = _ from rfl) (hrun.trans ?_)⟩
    have hflags : u.flags = s.flags :=
      (onlyAccess_of_bitsSet hbits).flags_eq.trans ((onlyAccess_of_accessedAt hps).flags_eq.trans ho4.flags_eq)
    rw [if_pos (by simpa using hle), ← bind_assoc, bind_of_ok hsame, ← flagsReturned_eq, ← hflags]
    rfl

theorem iret_outer (hrpl : s.cpl.toNat < (cs.setWidth 16 : Half).toNat % 4) {esp ss : Word} {s5 s6 : State}
    (h3 : slot s.os.bytes 3 0 s4 = .ok esp s5) (h4 : slot s.os.bytes 4 0 s5 = .ok ss s6) :
    (∀ e t, StackRefused ((cs.setWidth 16 : Half).toNat % 4) s (ss.setWidth 16) s6 e t → Faults .iret s e t) ∧
    ∀ (sd : Desc) (s7 : State), Named s (ss.setWidth 16) s6 sd s7 → stackDesc sd → sd.dpl.toNat = (cs.setWidth 16 : Half).toNat % 4 →
      (ss.setWidth 16 : Half).toNat % 4 = (cs.setWidth 16 : Half).toNat % 4 →
      (d.limit.toNat < eip.toNat → Faults .iret s gp0 s7) ∧
      (eip.toNat ≤ d.limit.toNat → ∀ (ps : List Word) (s8 : State) (qs : List Word) (s9 : State),
        accessedAt d { s7 with flags := flagsReturned s fl } ps s8 → accessedAt sd s8 qs s9 →
        ∃ u v, BitsSet ps 0x100 s9 u ∧ BitsSet qs 0x100 u v ∧ Ran .iret s (outward v d (cs.setWidth 16) eip sd (ss.setWidth 16) esp)) := by
  have ho := onlyAccess_iret h0 h1 h2
  have ho6 : OnlyAccess (iretEnter s) s6 :=
    ((ho.trans (onlyAccess_of_named hd)).trans (slot_checksOnly _ _ _ h3)).trans (slot_checksOnly _ _ _ h4)
  have hrun := iret_return hp hnt h0 h1 h2 hno
  rw [bind_of_ok (checkReturn_run ho.sameTables hd hto), if_neg fun h => (Nat.ne_of_gt hrpl) (rpl_beq_iff.mp h), bind_of_ok h3,
    bind_of_ok h4] at hrun
  refine ⟨fun e t hrefused => ?_, fun sd s7 hsd hstack hdpl hsrpl => ?_⟩
  · rw [← rpl_toNat] at hrefused
    refine faults_of_run (show execIret s = _ from rfl) (hrun.trans ?_) (ho6.trans (onlyAccess_of_stackRefused hrefused)).committed_eq
    exact bind_of_error (checkOuterStack_refused ho6.sameTables hrefused)
  · rw [← rpl_toNat (cs.setWidth 16)] at hdpl hsrpl
    have ho7 : OnlyAccess (iretEnter s) s7 := ho6.trans (onlyAccess_of_named hsd)
    have hflags : modifyFlags (fun f => iretFlags f (Flags.ofWord fl) s.cpl (!s.flags.iopl.ult s.cpl) (s.os.bits == 32) true) s7 =
        .ok () { s7 with flags := flagsReturned s fl } := by
      rw [← flagsReturned_eq, show s.flags = s7.flags from ho7.flags_eq.symm]
      rfl
    rw [bind_of_ok (checkOuterStack_run ho6.sameTables hsd hstack hdpl hsrpl), bind_of_ok hflags] at hrun
    refine ⟨fun hpast => ?_, fun hle ps s8 qs s9 hps hqs => ?_⟩
    · have hfault : Faults .iret s gp0 { s7 with flags := flagsReturned s fl } :=
        faults_of_run (show execIret s = _ from rfl) (hrun.trans (returnOuter_past hpast)) ho7.committed_eq
      exact hfault
    · obtain ⟨u, v, hbits, hbits', hout⟩ := returnOuter_run (sel := cs.setWidth 16) (osel := ss.setWidth 16) (esp := esp) hle hps hqs
      exact ⟨u, v, hbits, hbits', ran_of_run (show execIret s = _ from rfl) (hrun.trans hout)⟩

end

/-! ## To virtual-8086 mode -/

section
variable (hv : s.os = .s32 ∧ fl.getLsbD 17 = true ∧ s.cpl = 0)
include hv

theorem iret_toV86 : atOs iretOp s.enter = iretToV86 eip cs fl s3 := by
  obtain ⟨hos, hvm, hcpl⟩ := hv
  rw [iretProtected_read hp hnt h0 h1 h2, hos, hcpl, bit, hvm]
  rfl

theorem iret_v86_noFrame (hno : ¬ frameIn s 36) : Faults .iret s ss0 s3 := by
  have ho := onlyAccess_iret h0 h1 h2
  refine faults_of_run (show execIret s = _ from rfl) ((iret_toV86 hp hnt h0 h1 h2 hv).trans ?_) ho.committed_eq
  rw [iretToV86, bind_of_error (stackFrame_fails ho (by decide) hno)]

theorem iret_v86 {f : Nat → BitVec 32} {s4 : State} (hframe : frameIn s 36) (hpeek : peekSlots 32 6 3 s3 = .ok ((List.range 6).map f) s4) :
    Ran .iret s { s4 with
      flags := Flags.ofWord fl, eip := eip, cpl := 3, regs := { s4.regs with esp := f 0 }
      segs := { cs := v86Seg (cs.setWidth 16), ss := v86Seg ((f 1).setWidth 16), es := v86Seg ((f 2).setWidth 16)
                ds := v86Seg ((f 3).setWidth 16), fs := v86Seg ((f 4).setWidth 16), gs := v86Seg ((f 5).setWidth 16) } } := by
  have ho := onlyAccess_iret h0 h1 h2
  obtain ⟨a0, t0, r0, e0, p0, l0⟩ := peekSlots_cons hpeek
  obtain ⟨a1, t1, r1, e1, p1, rfl⟩ := peekSlots_cons p0
  obtain ⟨a2, t2, r2, e2, p2, rfl⟩ := peekSlots_cons p1
  obtain ⟨a3, t3, r3, e3, p3, rfl⟩ := peekSlots_cons p2
  obtain ⟨a4, t4, r4, e4, p4, rfl⟩ := peekSlots_cons p3
  obtain ⟨a5, t5, r5, e5, p5, rfl⟩ := peekSlots_cons p4
  cases p5
  have hlist : [f 0, f 1, f 2, f 3, f 4, f 5] = [a0, a1, a2, a3, a4, a5] := l0
  obtain ⟨rfl, rfl, rfl, rfl, rfl, rfl⟩ : f 0 = a0 ∧ f 1 = a1 ∧ f 2 = a2 ∧ f 3 = a3 ∧ f 4 = a4 ∧ f 5 = a5 := by simpa using hlist
  refine ran_of_run (show execIret s = _ from rfl) ((iret_toV86 hp hnt h0 h1 h2 hv).trans ?_)
  rw [iretToV86, bind_of_ok (stackFrame_passes ho (by decide) hframe), bind_of_ok e0, bind_of_ok e1, bind_of_ok e2, bind_of_ok e3, bind_of_ok e4,
    bind_of_ok e5, modify_run]
  simp only [v86Seg_eq]

end

end

/-! ## With NT -/

theorem iret_task {s : State} (hp : s.prot = true) (hnt : s.flags.nt = true) {link : Half} {s1 : State}
    (hlink : tssRead16 s.tr.base (iretEnter s) = .ok link s1) : atOs iretOp s.enter = taskSwitch link .iret s.enter.eip none s1 := by
  rw [iret_prot_run hp, hnt, if_pos rfl]
  exact bind_of_ok hlink

end Sys2Proof.Laws

end
end

section
/-! Far transfers in protected mode: what JMP and CALL make of a descriptor, and the obligation. -/

noncomputable section

namespace Sys2Proof.Laws

open Sys2Proof Sys2Proof.Machine Sys2Proof.Claims

section
variable {s u t : State} {j c : Instr} {off : Word} {sel : Half} (hj : FarBegins s false j off sel u) (hc : FarBegins s true c off sel u)

section
include hj hc

theorem faults_both {e : Exc} (h : ∀ call o, cutTarget s.os.bits o = off → farProtected call sel o s.os.bits u = .error (.exc e) t)
    (hacc : OnlyAccess s.enter t) : Faults j s e t ∧ Faults c s e t :=
  ⟨hj.faults (h false) hacc, hc.faults (h true) hacc⟩

/-- A transfer that is a task switch: what completes, and what stops before the commit (R1325). -/
theorem switches_both {tss : Half} (h : ∀ call o, farProtected call sel o s.os.bits u =
      taskSwitch tss (if call then .call else .jmp) s.enter.eip none t) :
    (∀ v, (taskSwitch tss .jmp s.enter.eip none t = .ok () v → Ran j s v) ∧ (taskSwitch tss .call s.enter.eip none t = .ok () v → Ran c s v)) ∧
    ∀ e v, v.cur.committed = false →
      (taskSwitch tss .jmp s.enter.eip none t = .error (.exc e) v → Faults j s e v) ∧
      (taskSwitch tss .call s.enter.eip none t = .error (.exc e) v → Faults c s e v) :=
  ⟨fun _ => ⟨fun hrun => hj.ran fun o _ => (h false o).trans hrun, fun hrun => hc.ran fun o _ => (h true o).trans hrun⟩,
    fun _ _ hcommit => ⟨fun hrun => hj.stops (fun o _ => (h false o).trans hrun) hcommit,
      fun hrun => hc.stops (fun o _ => (h true o).trans hrun) hcommit⟩⟩

end

section
variable {cd : Desc} {csel : Half} {target : Word} {n : Nat} (ho : OnlyAccess s.enter t) (hle : target.toNat ≤ cd.limit.toNat)
include ho hle

include hj in
theorem enters_of_same (h : ∀ o, cutTarget s.os.bits o = off → farProtected false sel o s.os.bits u = farSame false csel cd target n t) :
    ∀ ps s4, accessedAt cd t ps s4 → ∃ v, BitsSet ps 0x100 s4 v ∧ Ran j s (withCs v (segOf (marked cd) (atLevel csel s.cpl)) target) := by
  intro ps s4 hplace
  obtain ⟨v, hbits, hrun⟩ := farSame_jmp (sel := csel) (n := n) ho hle hplace
  exact ⟨v, hbits, hj.ran fun o ho' => (h o ho').trans hrun⟩

include hc in
theorem calls_of_same (h : ∀ o, cutTarget s.os.bits o = off → farProtected true sel o s.os.bits u = farSame true csel cd target n t) :
    ∀ slots s4 ps s5, pushSlots s.ss n s.spOff 2 t = .ok slots s4 → accessedAt cd s4 ps s5 →
      ∃ v w, StoredAll slots [s.segs.cs.sel.toNat, s.enter.eip.toNat] s5 v ∧ BitsSet ps 0x100 v w ∧
        Ran c s (withCs (withSp w (s.spOff - BitVec.ofNat 32 (2 * n))) (segOf (marked cd) (atLevel csel s.cpl)) target) := by
  intro slots s4 ps s5 hslots hplace
  obtain ⟨v, w, hstored, hbits, hrun⟩ := farSame_call (sel := csel) ho hle hslots hplace
  exact ⟨v, w, hstored, hbits, hc.ran fun o ho' => (h o ho').trans hrun⟩

end

/-! ## A code segment -/

section
variable {d : Desc} (ho : OnlyAccess s.enter u) (hd : Named s sel u d t)
include ho hd

theorem far_code_refused {call : Bool} {o : Word} {w : Nat} (happ : d.hi.getLsbD 12 = true) (hno : ¬ (codeType d ∧ directTo s sel d)) :
    farProtected call sel o w u = .error (.exc (selFault 13 sel)) t := by
  by_cases hcode : codeType d
  · rw [far_code ho hd hcode, bind_of_error (checkCode_refused (ho.trans (onlyAccess_of_named hd)) hcode fun hto => hno ⟨hcode, hto⟩)]
  · exact far_notCode ho hd happ hcode

variable (hcode : codeType d) (hto : directTo s sel d)
include hcode hto

theorem far_code_absent {call : Bool} {o : Word} {w : Nat} (hp : d.hi.getLsbD 15 = false) :
    farProtected call sel o w u = .error (.exc (selFault 11 sel)) t := by
  rw [far_code ho hd hcode, bind_of_error (checkCode_absent (ho.trans (onlyAccess_of_named hd)) hcode hto hp)]

theorem far_code_same {call : Bool} {o : Word} (hp : d.hi.getLsbD 15 = true) (ho' : cutTarget s.os.bits o = off) :
    farProtected call sel o s.os.bits u = farSame call sel d off s.os.bytes t := by
  rw [far_code ho hd hcode, bind_of_ok (checkCode_passes (ho.trans (onlyAccess_of_named hd)) hcode hto hp), ho', bytes_eq]

end

/-! ## A system descriptor -/

section
variable {d : Desc} {call : Bool} {o : Word} {w : Nat} (ho : OnlyAccess s.enter u) (hd : Named s sel u d t) (hsys : d.hi.getLsbD 12 = false)
include ho hd hsys

omit ho hd hsys in
/-- The types that a far transfer knows. -/
theorem far_typ : ∀ x : BitVec 4, x ∈ ([1, 3, 4, 5, 9, 11, 12] : List (BitVec 4)) →
    (x = 4 ∨ x = 12) ∨ x = 5 ∨ x ∈ ([1, 3, 9, 11] : List (BitVec 4)) := by
  decide

theorem far_system_refused (hno : ¬ (d.typ ∈ ([1, 3, 4, 5, 9, 11, 12] : List (BitVec 4)) ∧ (s.cpl.toNat ≤ d.dpl.toNat ∧ sel.toNat % 4 ≤ d.dpl.toNat))) :
    farProtected call sel o w u = .error (.exc (selFault 13 sel)) t := by
  by_cases htyp : d.typ ∈ ([1, 3, 4, 5, 9, 11, 12] : List (BitVec 4))
  · have hreach : ¬ (s.cpl.toNat ≤ d.dpl.toNat ∧ sel.toNat % 4 ≤ d.dpl.toNat) := fun h => hno ⟨htyp, h⟩
    rcases far_typ _ htyp with hgate | htask | htss
    · rw [far_gate ho hd hsys hgate, farGate_unreached (ho.trans (onlyAccess_of_named hd)) hreach]
    · rw [far_taskGate ho hd hsys htask, guard_gp, if_neg ((reached_iff _ _ _).not.mpr hreach), selFault_eq]
    · rw [far_tss ho hd hsys htss, guard_gp, if_neg ((reached_iff _ _ _).not.mpr hreach), selFault_eq]
  · exact far_noSystem ho hd hsys htyp

variable (hreach : s.cpl.toNat ≤ d.dpl.toNat ∧ sel.toNat % 4 ≤ d.dpl.toNat)
include hreach

theorem far_tss_switch (htyp : d.typ ∈ ([1, 3, 9, 11] : List (BitVec 4))) :
    farProtected call sel o w u = taskSwitch sel (if call then .call else .jmp) s.enter.eip none t := by
  rw [far_tss ho hd hsys htyp, guard_gp, if_pos ((reached_iff _ _ _).mpr hreach)]

theorem far_taskGate_switch (htyp : d.typ = 5) (hp : d.hi.getLsbD 15 = true) :
    farProtected call sel o w u = taskSwitch d.gateSel (if call then .call else .jmp) s.enter.eip none t := by
  rw [far_taskGate ho hd hsys htyp, guard_gp, if_pos ((reached_iff _ _ _).mpr hreach), guard_np, present_eq, hp, if_pos rfl]

omit ho hd hsys hreach in
theorem gate_typ : ∀ x : BitVec 4, x ∈ ([4, 5, 12] : List (BitVec 4)) → (x = 4 ∨ x = 12) ∨ x = 5 := by
  decide

theorem far_gate_absent (htyp : d.typ ∈ ([4, 5, 12] : List (BitVec 4))) (hp : d.hi.getLsbD 15 = false) :
    farProtected call sel o w u = .error (.exc (selFault 11 sel)) t := by
  rcases gate_typ _ htyp with hgate | htask
  · rw [far_gate ho hd hsys hgate, farGate_absent (ho.trans (onlyAccess_of_named hd)) hreach hp]
  · rw [far_taskGate ho hd hsys htask, guard_gp, if_pos ((reached_iff _ _ _).mpr hreach), guard_np, present_eq, hp, if_neg (by decide), selFault_eq]

end

end

/-- Settles O24: JMP and CALL by the kind of descriptor, RET and IRET by the level they return to; each part is a lemma about the model's operation
in the state where the operand has been read. -/
theorem farTransfersProtected : Obligations.FarTransfersProtected := by
  unfold Obligations.FarTransfersProtected
  intro s hp
  have hpe : s.pe = true := (prot_iff.mp hp).1
  refine ⟨?pointer, ?ret, ?task, ?iret⟩
  case pointer =>
    intro j c off sel u hfar
    obtain ⟨ho, hj, hc⟩ := farBegins_of_pointer hp hfar
    refine ⟨fun hn => faults_both hj hc (fun _ _ _ => far_null hn) ho,
      fun hn hout => faults_both hj hc (fun _ _ _ => far_out ho hn hout) ho, fun d t hd => ?_⟩
    have hot : OnlyAccess s.enter t := ho.trans (onlyAccess_of_named hd)
    refine ⟨fun happ => ⟨fun hno => faults_both hj hc (fun _ _ _ => far_code_refused ho hd happ hno) hot, fun hcode hto => ⟨?_, ?_, ?_⟩⟩,
      fun hsys => ⟨fun hno => faults_both hj hc (fun _ _ _ => far_system_refused ho hd hsys hno) hot, ?_, ?_, ?_, ?_⟩⟩
    · exact fun habsent => faults_both hj hc (fun _ _ _ => far_code_absent ho hd hcode hto habsent) hot
    · exact fun hpresent hpast =>
        faults_both hj hc (fun call _ ho' => (far_code_same ho hd hcode hto hpresent ho').trans (farSame_past call hpast)) hot
    · exact fun hpresent hle => ⟨enters_of_same hj hot hle fun _ ho' => far_code_same ho hd hcode hto hpresent ho',
        calls_of_same hc hot hle fun _ ho' => far_code_same ho hd hcode hto hpresent ho'⟩
    · exact fun hreach htyp => switches_both hj hc fun _ _ => far_tss_switch ho hd hsys hreach htyp
    · exact fun hreach htyp habsent => faults_both hj hc (fun _ _ _ => far_gate_absent ho hd hsys hreach htyp habsent) hot
    · exact fun hreach htyp hpresent => switches_both hj hc fun _ _ => far_taskGate_switch ho hd hsys hreach htyp hpresent
    intro hreach hgate hpresent
    have hroute (call : Bool) (o : Word) : farProtected call sel o s.os.bits u = farGate call sel d t := far_gate ho hd hsys hgate
    refine ⟨fun e v => ⟨fun h => ?_, fun h => ?_⟩, fun cd s3 hcd hcode => ?_⟩
    · exact hj.faults (fun o _ => (hroute false o).trans (farGate_refused hot hreach hpresent h)) (hot.trans (onlyAccess_of_codeRefused h))
    · exact hc.faults (fun o _ => (hroute true o).trans (farGate_refused hot hreach hpresent h)) (hot.trans (onlyAccess_of_codeRefused h))
    have ho3 : OnlyAccess s.enter s3 := hot.trans (onlyAccess_of_named hcd)
    simp only [← gateBytes_eq hgate]
    refine ⟨fun hto => ?_, fun hconf hlt => ?_⟩
    · have hsame (call : Bool) (o : Word) : farProtected call sel o s.os.bits u = farSame call d.gateSel cd d.gateOffset (gateBytes d) s3 :=
        (hroute call o).trans (farGate_same hot hreach hpresent hcd hcode hto)
      exact ⟨fun hpast => faults_both hj hc (fun call o _ => (hsame call o).trans (farSame_past call hpast)) ho3,
        fun hle => ⟨enters_of_same hj ho3 hle fun o _ => hsame false o, calls_of_same hc ho3 hle fun o _ => hsame true o⟩⟩
    · have hinner (o : Word) : farProtected true sel o s.os.bits u = callInner d cd s3 :=
        (hroute true o).trans (farGate_inner hot hreach hpresent hcd hcode hconf hlt)
      refine ⟨fun e v h => hc.faults (fun o _ => (hinner o).trans (callInner_refused h)) (ho3.trans (onlyAccess_of_innerRefused h)),
        fun sd ssel sp s4 hstack => ?_⟩
      have ho4 : OnlyAccess s.enter s4 := ho3.trans (onlyAccess_of_innerStack hstack)
      refine ⟨fun hno => hc.faults (fun o _ => (hinner o).trans (callInner_noRoom hpe (v86_false_of_prot hp) ho3 hstack hno)) ho4,
        fun hroom hpast => hc.faults (fun o _ => (hinner o).trans (callInner_past hpe ho3 hstack hroom hpast)) ho4,
        fun hle params s5 hparams slots s6 qs s7 ps s8 hslots hqs hps => ?_⟩
      obtain ⟨v, w, x, y, z, h1, h2, h3, h4, h5, hrun⟩ := callInner_run hpe ho3 hstack hle hparams hslots hqs hps
      exact ⟨v, w, x, y, z, h1, h2, h3, h4, h5, hc.ran fun o _ => (hinner o).trans hrun⟩
  case ret =>
    intro i imm hi
    refine ⟨fun hno => faults_of_run (exec_retFar hi s) (retFar_noFrame hp hno) rfl, fun eip s1 cs s2 hframe h0 h1 => ?_⟩
    exact ⟨fun e t h => retFar_refused hp hi hframe h0 h1 h, fun d s3 hd hto =>
      ⟨retFar_same hp hi hframe h0 h1 hd hto, retFar_outer hp hi hframe h0 h1 hd hto⟩⟩
  case task =>
    intro hnt link s1 t hlink
    exact ⟨fun hrun => ran_of_run (show execIret s = _ from rfl) ((iret_task hp hnt hlink).trans hrun),
      fun e hrun hcommit => faults_of_stop (show execIret s = _ from rfl) ((iret_task hp hnt hlink).trans hrun) hcommit⟩
  case iret =>
    intro hnt eip s1 cs s2 fl s3 h0 h1 h2
    refine ⟨fun hno => ⟨fun e t h => iret_refused hp hnt h0 h1 h2 hno h, fun d s4 hd hto =>
        ⟨iret_same hp hnt h0 h1 h2 hno hd hto, fun hrpl esp s5 ss s6 h3 h4 => iret_outer hp hnt h0 h1 h2 hno hd hto hrpl h3 h4⟩⟩,
      fun hv hno => iret_v86_noFrame hp hnt h0 h1 h2 hv hno, fun hv f s4 hframe hpeek => ?_⟩
    exact ⟨Flags.ofWord fl, iret_v86 hp hnt h0 h1 h2 hv hframe hpeek, word_ofWord fl⟩

end Sys2Proof.Laws

end
end

section
/-! Taking an exception or interrupt through a gate (60_exceptions.md R1210 to R1215, 62_v86.md R1420). -/

noncomputable section

namespace Sys2Proof.Laws

open Sys2Proof Sys2Proof.Machine Sys2Proof.Claims

/-! ## A delivery has begun -/

section
variable (ev : Event) (s : State)

theorem begun_pe : (begun ev s).pe = s.pe := by rw [begun_eq]; rfl
theorem begun_v86 : (begun ev s).v86 = s.v86 := by rw [begun_eq]; rfl
theorem begun_cpl : (begun ev s).cpl = s.cpl := by rw [begun_eq]
theorem begun_regs : (begun ev s).regs = s.regs := by rw [begun_eq]
theorem begun_sameTables : SameTables s (begun ev s) := by rw [begun_eq]; exact ⟨rfl, rfl, rfl⟩

end

section
variable {ev : Event} {s t : State} (hpe : s.pe = true) (hidt : s.inSmm = true → s.smm.idtLoaded = true)
include hpe hidt

theorem deliverOnce_prot : deliverOnce ev s = withExt (ev.kind != .soft) (deliverProtected ev) (begun ev s) := by
  rw [deliverOnce_run hidt, if_pos hpe]

theorem givesUp_of_stop {e : Exc} (h : deliverProtected ev (begun ev s) = .error (.exc e) t) : GivesUp ev s e t :=
  (deliverOnce_prot hpe hidt).trans (withExt_exc h)

theorem delivers_of_ok (n : Nat) (h : deliverProtected ev (begun ev s) = .ok () t) : deliver (n + 1) ev s = .next (State.delivered t) :=
  deliver_ok ((deliverOnce_prot hpe hidt).trans (by rw [withExt, h]))

end

/-! ## The gate -/

/-- The code of a fault that names the vector (R1220). -/
def vectorCode (ev : Event) : Word := BitVec.ofNat 32 (8 * ev.vec + 2)

theorem deliverProtected_beyond {ev : Event} {s : State} (h : s.idtr.limit.toNat < 8 * ev.vec + 7) :
    deliverProtected ev (begun ev s) = .error (.exc { vec := 13, code := some (vectorCode ev), dbg := none }) (begun ev s) := by
  rw [deliverProtected, get_bind, begun_idtr, guard_gp, if_neg (by simpa using h)]
  rfl

theorem gateTyp_iff : ∀ x : BitVec 4, (x == 5 || (x &&& 6) == 6) = true ↔ x ∈ ([5, 6, 7, 14, 15] : List (BitVec 4)) := by
  decide

section
variable {ev : Event} {s t : State} {g : Desc} (hin : 8 * ev.vec + 7 ≤ s.idtr.limit.toNat)
  (hg : readDescAt (s.idtr.base + BitVec.ofNat 32 (8 * ev.vec)) (begun ev s) = .ok g t)
include hin hg

theorem deliverProtected_read : deliverProtected ev (begun ev s) = (do
    require (!g.s && (g.typ == 5 || (g.typ &&& 6) == 6)) (gp (vectorCode ev))
    require (ev.kind != .soft || !g.dpl.ult s.cpl) (gp (vectorCode ev))
    require g.p (np (vectorCode ev))
    if g.typ == 5 then taskSwitch g.gateSel .intr ev.retEip ev.code
    else enterGate g ev : M Unit) t := by
  rw [deliverProtected, get_bind, begun_idtr, guard_gp, if_pos (by simpa using hin), bind_of_ok hg, begun_cpl]
  rfl

/-- The entry is a gate that the event may go through (R1210, R1212). -/
def Admits (s : State) (ev : Event) (g : Desc) : Prop :=
  g.hi.getLsbD 12 = false ∧ g.typ ∈ ([5, 6, 7, 14, 15] : List (BitVec 4)) ∧ (ev.kind = .soft → s.cpl.toNat ≤ g.dpl.toNat)

omit hin hg in
theorem admits_iff : Admits s ev g ↔
    (!g.s && (g.typ == 5 || (g.typ &&& 6) == 6)) = true ∧ (ev.kind != .soft || !g.dpl.ult s.cpl) = true := by
  rw [Bool.and_eq_true, gateTyp_iff, Bool.or_eq_true, ult_iff, bne_iff_ne, ← imp_iff_not_or, Bool.not_eq_true', Admits, and_assoc]
  rfl

theorem deliverProtected_noGate (h : ¬ Admits s ev g) :
    deliverProtected ev (begun ev s) = .error (.exc { vec := 13, code := some (vectorCode ev), dbg := none }) t := by
  rw [admits_iff, not_and_or] at h
  rw [deliverProtected_read hin hg, guard_gp, guard_gp]
  rcases h with h | h
  · rw [if_neg h]
  · rw [if_neg h]
    split <;> rfl

variable (h : Admits s ev g)
include h

theorem deliverProtected_absent (hp : g.hi.getLsbD 15 = false) :
    deliverProtected ev (begun ev s) = .error (.exc { vec := 11, code := some (vectorCode ev), dbg := none }) t := by
  obtain ⟨htyp, hsoft⟩ := admits_iff.mp h
  rw [deliverProtected_read hin hg, guard_gp, if_pos htyp, guard_gp, if_pos hsoft, guard_np, present_eq, hp, if_neg (by decide)]

theorem deliverProtected_gate (hp : g.hi.getLsbD 15 = true) : deliverProtected ev (begun ev s) =
    (if g.typ = 5 then taskSwitch g.gateSel .intr ev.retEip ev.code else enterGate g ev) t := by
  obtain ⟨htyp, hsoft⟩ := admits_iff.mp h
  rw [deliverProtected_read hin hg, guard_gp, if_pos htyp, guard_gp, if_pos hsoft, guard_np, present_eq, hp, if_pos rfl]
  simp only [beq_iff_eq]

end

/-! ## The code segment of the gate -/

/-- The event goes to an inner level (R1214). -/
def entersInner (cpl : BitVec 2) (cd : Desc) : Bool := !cd.conforming && cd.dpl.ult cpl

/-- What is pushed: the segments of virtual-8086 mode, SS:ESP of the outer level, the frame (R1214, R1420). -/
def gateItems (s : State) (ev : Event) (inner : Bool) : List Nat :=
  (if s.v86 then [s.segs.gs.sel.toNat, s.segs.fs.sel.toNat, s.segs.ds.sel.toNat, s.segs.es.sel.toNat] else []) ++
  (if inner then [s.segs.ss.sel.toNat, s.regs.esp.toNat] else []) ++
  ([s.flags.word.toNat, s.segs.cs.sel.toNat, ev.retEip.toNat] ++ ev.code.toList.map fun c => c.toNat)

/-- The data segment registers are cleared on leaving virtual-8086 mode (R1420). -/
def leaveV86 (v86 : Bool) : M Unit :=
  if v86 then
    modify fun s => { s with segs := { s.segs with gs := s.segs.gs.cleared, fs := s.segs.fs.cleared, ds := s.segs.ds.cleared,
                                                   es := s.segs.es.cleared } }
  else pure ()

/-- CS:EIP, the level and the flags of the handler (R1213, R1214). -/
def enterHandler (g cd : Desc) (pl : BitVec 2) : M Unit :=
  modify fun s => { s with flags := s.flags.onEntry (!bit g.typ 0), eip := g.gateOffset, cpl := pl,
                           segs := { s.segs with cs := cd.accessed.toSeg (withRpl g.gateSel pl) } }

/-- The end of a delivery through a gate, once its code segment passed its checks. -/
def enterCode (s : State) (g cd : Desc) (ev : Event) : M Unit := do
  let inner := entersInner s.cpl cd
  let pl := if inner then cd.dpl else s.cpl
  require (!s.v86 || (pl == 0 && bit g.typ 3)) (gp (selCode g.gateSel))
  let stack ← if inner then (do
      let d ← enterInner pl (gateBytes g) (gateItems s ev inner).length
      pure [d])
    else (do
      require (stackRoom s.segs.ss (gateBytes g) s.spOff (gateItems s ev inner).length) (sf 0)
      pure [])
  pushLoading (gateBytes g) (gateItems s ev inner).length stack [cd] (require (decide (g.gateOffset.toNat ≤ cd.limit.toNat)) (gp 0))
    fun slots => storeAll slots (gateItems s ev inner)
  if s.v86 then
    modify fun s => { s with segs := { s.segs with gs := s.segs.gs.cleared, fs := s.segs.fs.cleared, ds := s.segs.ds.cleared,
                                                   es := s.segs.es.cleared } }
  else pure ()
  enterHandler g cd pl

theorem enterGate_eq (g : Desc) (ev : Event) (s : State) : enterGate g ev s = (do
    require (!isNull g.gateSel) (gp 0)
    let cd ← readDesc g.gateSel (gp (selCode g.gateSel))
    require cd.isCode (gp (selCode g.gateSel))
    require (!s.cpl.ult cd.dpl) (gp (selCode g.gateSel))
    require cd.p (np (selCode g.gateSel))
    enterCode s g cd ev : M Unit) s := by
  rw [enterGate, get_bind]
  unfold enterCode gateItems gateBytes enterHandler entersInner
  rfl

section
variable {s u t : State} {g cd : Desc} {ev : Event} (hs : SameTables s u)
include hs

theorem enterGate_refused {e : Exc} (h : CodeRefused (fun d => d.dpl.toNat ≤ s.cpl.toNat) s g.gateSel u e t) :
    enterGate g ev u = .error (.exc e) t := by
  rw [enterGate_eq, guard_gp, isNull_eq]
  rcases h with ⟨hn, rfl, rfl⟩ | ⟨hn, hout, rfl, rfl⟩ | ⟨cd, hcd, h⟩
  · rw [decide_eq_true hn]
    rfl
  · rw [decide_eq_false (Nat.not_lt.mpr hn), if_pos (by decide)]
    exact bind_of_error (readDesc_out (hs.inTable _ ▸ hout) (by rw [selFault_eq]; rfl))
  · rw [decide_eq_false (Nat.not_lt.mpr hcd.1), if_pos (by decide), bind_of_ok (read_named hcd hs _), guard_gp, guard_gp, guard_np, hs.2.2]
    rcases h with ⟨hno, rfl⟩ | ⟨hcode, hto, habsent, rfl⟩
    · by_cases hcode : codeType cd
      · rw [if_pos ((isCode_iff cd).mpr hcode), if_neg ((ult_iff _ _).not.mpr fun hto => hno ⟨hcode, hto⟩), selFault_eq]
      · rw [if_neg ((isCode_iff cd).not.mpr hcode), selFault_eq]
    · rw [if_pos ((isCode_iff cd).mpr hcode), if_pos ((ult_iff _ _).mpr hto), present_eq, habsent, if_neg (by decide), selFault_eq]

theorem enterGate_code (hcd : Named s g.gateSel u cd t) (hcode : codeDesc cd) (hto : cd.dpl.toNat ≤ s.cpl.toNat) :
    enterGate g ev u = enterCode u g cd ev t := by
  rw [enterGate_eq, guard_gp, notNull_of_named hcd, if_pos (by decide), bind_of_ok (read_named hcd hs _), guard_gp,
    if_pos ((isCode_iff cd).mpr hcode.2), guard_gp, if_pos ((ult_iff _ _).mpr (by rw [hs.2.2]; exact hto)), guard_np, present_eq, hcode.1, if_pos rfl]

end

/-! ## The same level -/

theorem onEntry_eq (f : Flags) (g : Desc) : f.onEntry (!bit g.typ 0) =
    { f with tf := false, nt := false, rf := false, vm := false, ifl := f.ifl && g.typ.getLsbD 0 } := by
  rw [Flags.onEntry, Bool.not_not]
  rfl

theorem enterHandler_run {g cd : Desc} {pl : BitVec 2} {s : State} :
    enterHandler g cd pl s = .ok () { withCs s (segOf (marked cd) (atLevel g.gateSel pl)) g.gateOffset with
      cpl := pl, flags := { s.flags with tf := false, nt := false, rf := false, vm := false, ifl := s.flags.ifl && g.typ.getLsbD 0 } } := by
  rw [enterHandler, modify_run, withRpl_atLevel]
  simp only [onEntry_eq]
  rfl

section
variable {s u : State} {g cd : Desc} {ev : Event}

theorem enterCode_v86Barred (h : (!u.v86 || ((if entersInner u.cpl cd then cd.dpl else u.cpl) == 0 && bit g.typ 3)) = false) :
    enterCode u g cd ev s = .error (.exc (selFault 13 g.gateSel)) s := by
  rw [enterCode, guard_gp, if_neg (by rw [h]; decide), selFault_eq]

variable (hv : u.v86 = false) (hstay : entersInner u.cpl cd = false)
include hv hstay

theorem enterCode_same : enterCode u g cd ev s = (do
    require (stackRoom u.segs.ss (gateBytes g) u.spOff (gateItems u ev false).length) (sf 0)
    pushLoading (gateBytes g) (gateItems u ev false).length [] [cd] (require (decide (g.gateOffset.toNat ≤ cd.limit.toNat)) (gp 0))
      fun slots => storeAll slots (gateItems u ev false)
    enterHandler g cd u.cpl : M Unit) s := by
  rw [enterCode]
  simp only [hstay, hv, Bool.not_false, Bool.true_or, require_true, Bool.false_eq_true, if_false, pure_bind, bind_assoc]

theorem enterCode_same_noRoom (hno : stackRoom u.segs.ss (gateBytes g) u.spOff (gateItems u ev false).length ≠ true) :
    enterCode u g cd ev s = .error (.exc ss0) s := by
  rw [enterCode_same hv hstay, guard_sf, if_neg hno]
  rfl

variable (ho : OnlyAccess u s) (hpe : u.pe = true) {slots : List (List Word)} {s1 : State}
  (hslots : pushSlots s.ss (gateBytes g) s.spOff (gateItems u ev false).length s = .ok slots s1)
include ho hpe hslots

theorem enterCode_same_room : enterCode u g cd ev s = (do
    pushLoading (gateBytes g) (gateItems u ev false).length [] [cd] (require (decide (g.gateOffset.toNat ≤ cd.limit.toNat)) (gp 0))
      fun slots => storeAll slots (gateItems u ev false)
    enterHandler g cd u.cpl : M Unit) s := by
  have hroom := stackRoom_of_pushSlots (ho.pe_eq.trans hpe) (.refl s) hslots
  rw [ho.segs_eq, ho.spOff_eq] at hroom
  rw [enterCode_same hv hstay, guard_sf, if_pos hroom]

theorem enterCode_same_past (hpast : cd.limit.toNat < g.gateOffset.toNat) : enterCode u g cd ev s = .error (.exc gp0) s1 := by
  have hcheck : require (decide (g.gateOffset.toNat ≤ cd.limit.toNat)) (gp 0) s1 = .error (.exc gp0) s1 := by
    rw [require_run, if_neg (by simpa using hpast)]
    rfl
  rw [enterCode_same_room hv hstay ho hpe hslots, bind_of_error (pushLoading_checkFails hslots hcheck)]

theorem enterCode_same_run {ps : List Word} {s2 : State} (hle : g.gateOffset.toNat ≤ cd.limit.toNat) (hps : accessedAt cd s1 ps s2) :
    ∃ v w, StoredAll slots (gateItems u ev false) s2 v ∧ BitsSet ps 0x100 v w ∧
      enterCode u g cd ev s = .ok () { withCs (withSp w (u.spOff - BitVec.ofNat 32 (gateBytes g * (gateItems u ev false).length)))
        (segOf (marked cd) (atLevel g.gateSel u.cpl)) g.gateOffset with
          flags := { u.flags with tf := false, nt := false, rf := false, vm := false, ifl := u.flags.ifl && g.typ.getLsbD 0 } } := by
  have hcheck : require (decide (g.gateOffset.toNat ≤ cd.limit.toNat)) (gp 0) s1 = .ok () s1 := by
    rw [require_run, if_pos (by simpa using hle)]
  obtain ⟨v, hv', hstored⟩ := storeAll_storedAll slots (gateItems u ev false) s2
  have hsv : OnlyAccess s v :=
    ((pushSlots_checksOnly _ _ _ _ hslots).trans (onlyAccess_of_accessedAt hps)).trans (onlyAccess_of_storedAll hstored)
  obtain ⟨w, hbits, hrun⟩ := pushLoading_code (write := fun slots => storeAll slots (gateItems u ev false)) hslots hcheck hps hv' hsv.ss_eq
  have how : OnlyAccess u w := (ho.trans hsv).trans (onlyAccess_of_bitsSet hbits)
  refine ⟨v, w, hstored, hbits, ?_⟩
  rw [enterCode_same_room hv hstay ho hpe hslots, bind_of_ok hrun, enterHandler_run, ho.spOff_eq, ← how.flags_eq, ← how.cpl_eq]
  rfl

end

/-! ## An inner level -/

section
variable {s u t : State} {g cd sd : Desc} {ev : Event} {ssel : Half} {sp : Word} (hin : entersInner u.cpl cd = true)
  (hv : u.v86 = true → cd.dpl = 0 ∧ gateBytes g = 4) (hpe : u.pe = true) (ho : OnlyAccess u s)
include hin hv

theorem enterCode_inner : enterCode u g cd ev s = (do
    let d ← enterInner cd.dpl (gateBytes g) (gateItems u ev true).length
    pushLoading (gateBytes g) (gateItems u ev true).length [d] [cd] (require (decide (g.gateOffset.toNat ≤ cd.limit.toNat)) (gp 0))
      fun slots => storeAll slots (gateItems u ev true)
    leaveV86 u.v86
    enterHandler g cd cd.dpl : M Unit) s := by
  have hlevel : (!u.v86 || (cd.dpl == 0 && bit g.typ 3)) = true := by
    cases hvm : u.v86
    · rfl
    · obtain ⟨hdpl, hsize⟩ := hv hvm
      have hwide : bit g.typ 3 = true := by
        by_contra hno
        rw [gateBytes, if_neg hno] at hsize
        exact absurd hsize (by decide)
      rw [hdpl, hwide]
      rfl
  rw [enterCode]
  simp only [hin, if_true, hlevel, require_true, bind_assoc, pure_bind]
  cases u.v86 <;> rfl

theorem enterCode_inner_refused {e : Exc} (h : InnerRefused cd.dpl s e t) : enterCode u g cd ev s = .error (.exc e) t := by
  rw [enterCode_inner hin hv, enterInner, bind_assoc, bind_of_error (checkInner_stops _ _ h)]

variable (h : InnerStack cd.dpl s sd ssel sp t)
include hpe ho h

theorem enterCode_inner_noRoom (hno : ¬ roomFor (switched cd.dpl sd ssel sp t) (gateBytes g) (gateItems u ev true).length) :
    enterCode u g cd ev s = .error (.exc (if u.v86 then ss0 else selFault 12 ssel)) t := by
  rw [enterCode_inner hin hv, enterInner, bind_assoc, bind_of_error (checkInner_noRoom h (ho.pe_eq.trans hpe) hno), ho.v86_eq]

variable {slots : List (List Word)} {s1 : State}
  (hslots : pushSlots (switched cd.dpl sd ssel sp t).ss (gateBytes g) (switched cd.dpl sd ssel sp t).spOff (gateItems u ev true).length
    (switched cd.dpl sd ssel sp t) = .ok slots s1)
include hslots

theorem enterCode_inner_room : enterCode u g cd ev s = (do
    pushLoading (gateBytes g) (gateItems u ev true).length [sd] [cd] (require (decide (g.gateOffset.toNat ≤ cd.limit.toNat)) (gp 0))
      fun slots => storeAll slots (gateItems u ev true)
    leaveV86 u.v86
    enterHandler g cd cd.dpl : M Unit) (switched cd.dpl sd ssel sp t) := by
  have hpet : t.pe = true := (onlyAccess_of_innerStack h).pe_eq.trans (ho.pe_eq.trans hpe)
  have hroom := roomFor_of_pushSlots (s := switched cd.dpl sd ssel sp t) hpet hslots
  have hstack : enterInner cd.dpl (gateBytes g) (gateItems u ev true).length s = .ok sd (switched cd.dpl sd ssel sp t) :=
    (bind_of_ok (checkInner_passes h (ho.pe_eq.trans hpe) hroom)).trans ((bind_of_ok (switchInner_run ..)).trans rfl)
  rw [enterCode_inner hin hv, bind_of_ok hstack]

theorem enterCode_inner_past (hpast : cd.limit.toNat < g.gateOffset.toNat) : enterCode u g cd ev s = .error (.exc gp0) s1 := by
  have hcheck : require (decide (g.gateOffset.toNat ≤ cd.limit.toNat)) (gp 0) s1 = .error (.exc gp0) s1 := by
    rw [require_run, if_neg (by simpa using hpast)]
    rfl
  rw [enterCode_inner_room hin hv hpe ho h hslots, bind_of_error (pushLoading_checkFails hslots hcheck)]

end

end Sys2Proof.Laws

end
end

section
/-! Taking an exception or interrupt through a gate: the inner level, and the first part of the obligation (60_exceptions.md R1213 to R1215,
62_v86.md R1420). -/

noncomputable section

namespace Sys2Proof.Laws

open Sys2Proof Sys2Proof.Machine Sys2Proof.Claims

/-- The flags of a handler entered through the gate `g` (R1214). -/
def handlerFlags (f : Flags) (g : Desc) : Flags := { f with tf := false, nt := false, rf := false, vm := false, ifl := f.ifl && g.typ.getLsbD 0 }

/-- A data segment register in a handler that was entered from virtual-8086 mode (R1420). -/
def leftSeg (v86 : Bool) (x : Seg) : Seg := if v86 then { x with sel := 0, usable := false } else x

theorem leaveV86_run (v86 : Bool) (s : State) : leaveV86 v86 s = .ok () { s with segs := { s.segs with
    gs := leftSeg v86 s.segs.gs, fs := leftSeg v86 s.segs.fs, ds := leftSeg v86 s.segs.ds, es := leftSeg v86 s.segs.es } } := by
  cases v86 <;> rfl

section
variable {s u t : State} {g cd sd : Desc} {ev : Event} {ssel : Half} {sp : Word} (hin : entersInner u.cpl cd = true)
  (hv : u.v86 = true → cd.dpl = 0 ∧ gateBytes g = 4) (hpe : u.pe = true) (ho : OnlyAccess u s) (h : InnerStack cd.dpl s sd ssel sp t)
  {slots : List (List Word)} {s1 : State}
  (hslots : pushSlots (switched cd.dpl sd ssel sp t).ss (gateBytes g) (switched cd.dpl sd ssel sp t).spOff (gateItems u ev true).length
    (switched cd.dpl sd ssel sp t) = .ok slots s1)
include hin hv hpe ho h hslots

theorem enterCode_inner_run {qs ps : List Word} {s2 s3 : State} (hle : g.gateOffset.toNat ≤ cd.limit.toNat) (hqs : accessedAt sd s1 qs s2)
    (hps : accessedAt cd s2 ps s3) :
    ∃ a v w, BitsSet qs 0x100 s3 a ∧ StoredAll slots (gateItems u ev true) a v ∧ BitsSet ps 0x100 v w ∧
      enterCode u g cd ev s = .ok () { withSp w ((switched cd.dpl sd ssel sp t).spOff - BitVec.ofNat 32 (gateBytes g * (gateItems u ev true).length)) with
        eip := g.gateOffset, flags := handlerFlags u.flags g
        segs := { cs := segOf (marked cd) (atLevel g.gateSel cd.dpl), ss := w.segs.ss, ds := leftSeg u.v86 u.segs.ds
                  es := leftSeg u.v86 u.segs.es, fs := leftSeg u.v86 u.segs.fs, gs := leftSeg u.v86 u.segs.gs } } := by
  have hcheck : require (decide (g.gateOffset.toNat ≤ cd.limit.toNat)) (gp 0) s1 = .ok () s1 := by
    rw [require_run, if_pos (by simpa using hle)]
  obtain ⟨a, hbits, hpush⟩ := pushLoading_both (write := fun slots => storeAll slots (gateItems u ev true)) hslots hcheck hqs hps
  obtain ⟨v, hv', hstored⟩ := storeAll_storedAll slots (gateItems u ev true) a
  have hbv : OnlyAccess (switched cd.dpl sd ssel sp t) v :=
    ((((pushSlots_checksOnly _ _ _ _ hslots).trans (onlyAccess_of_accessedAt hqs)).trans (onlyAccess_of_accessedAt hps)).trans
      (onlyAccess_of_bitsSet hbits)).trans (onlyAccess_of_storedAll hstored)
  obtain ⟨w, hbits', hrun⟩ := hpush v hv' hbv.ss_eq
  refine ⟨a, v, w, hbits, hstored, hbits', ?_⟩
  have hbw : OnlyAccess (switched cd.dpl sd ssel sp t) w := hbv.trans (onlyAccess_of_bitsSet hbits')
  have hut : OnlyAccess u t := ho.trans (onlyAccess_of_innerStack h)
  have hflags : w.flags = u.flags := hbw.flags_eq.trans hut.flags_eq
  have hcpl : w.cpl = cd.dpl := hbw.cpl_eq
  have hsegs : w.segs = { u.segs with ss := segOf (marked sd) ssel } := by
    rw [hbw.segs_eq, ← hut.segs_eq]
    rfl
  rw [enterCode_inner_room hin hv hpe ho h hslots, bind_of_ok hrun, bind_of_ok (leaveV86_run ..), enterHandler_run]
  refine congrArg (EStateM.Result.ok ()) ?_
  rw [← hflags, ← hcpl, show u.segs.ds = w.segs.ds by rw [hsegs], show u.segs.es = w.segs.es by rw [hsegs],
    show u.segs.fs = w.segs.fs by rw [hsegs], show u.segs.gs = w.segs.gs by rw [hsegs]]
  rfl

end

/-! ## The obligation's clause about gates -/

theorem entersInner_of_same {cpl : BitVec 2} {cd : Desc} (hcode : codeType cd) (h : cd.hi.getLsbD 10 = true ∨ cd.dpl = cpl) :
    entersInner cpl cd = false := by
  rw [entersInner, conforming_eq ((isCode_iff cd).mpr hcode)]
  rcases h with h | h
  · rw [h]
    rfl
  · rw [h]
    simp [BitVec.ult]

theorem entersInner_of_lt {cpl : BitVec 2} {cd : Desc} (hcode : codeType cd) (h : cd.hi.getLsbD 10 = false) (hlt : cd.dpl.toNat < cpl.toNat) :
    entersInner cpl cd = true := by
  rw [entersInner, conforming_eq ((isCode_iff cd).mpr hcode), h]
  exact decide_eq_true hlt

/-- From virtual-8086 mode only a 32-bit gate to a nonconforming segment of level 0 is passed (R1420). -/
theorem v86_barred {cpl : BitVec 2} {g cd : Desc} (hcode : codeType cd) (hcpl : cpl = 3)
    (h : ¬ (cd.hi.getLsbD 10 = false ∧ cd.dpl = 0 ∧ gateBytes g = 4)) :
    ((if entersInner cpl cd then cd.dpl else cpl) == 0 && bit g.typ 3) = false := by
  subst hcpl
  rw [Bool.and_eq_false_iff]
  by_cases hwide : bit g.typ 3 = true
  · left
    have hsize : gateBytes g = 4 := if_pos hwide
    by_cases hin : entersInner 3 cd = true
    · have hconf : cd.hi.getLsbD 10 = false := by
        rw [entersInner, conforming_eq ((isCode_iff cd).mpr hcode), Bool.and_eq_true, Bool.not_eq_true'] at hin
        exact hin.1
      rw [if_pos hin, beq_eq_false_iff_ne]
      exact fun hdpl => h ⟨hconf, hdpl, hsize⟩
    · rw [if_neg hin]
      decide
  · exact .inr (Bool.not_eq_true _ ▸ hwide)

/-- What a delivery through an interrupt or trap gate reads of the state before it. -/
structure SameSource (s u : State) : Prop where
  pe : u.pe = s.pe
  v86 : u.v86 = s.v86
  flags : u.flags = s.flags
  segs : u.segs = s.segs
  regs : u.regs = s.regs
  cpl : u.cpl = s.cpl
  tables : SameTables s u

theorem SameSource.of_begun {ev : Event} {s u : State} (h : OnlyAccess (begun ev s) u) : SameSource s u where
  pe := h.pe_eq.trans (begun_pe ev s)
  v86 := h.v86_eq.trans (begun_v86 ev s)
  flags := h.flags_eq.trans (begun_flags ev s)
  segs := h.segs_eq.trans (begun_segs ev s)
  regs := h.regs_eq.trans (begun_regs ev s)
  cpl := h.cpl_eq.trans (begun_cpl ev s)
  tables := by
    obtain ⟨h1, h2, h3⟩ := h.sameTables
    obtain ⟨k1, k2, k3⟩ := begun_sameTables ev s
    exact ⟨h1.trans k1, h2.trans k2, h3.trans k3⟩

theorem SameSource.ss {s u : State} (h : SameSource s u) : u.ss = s.ss := by
  rw [State.ss, State.ss, h.segs]

theorem SameSource.spOff {s u : State} (h : SameSource s u) : u.spOff = s.spOff := by
  rw [State.spOff, State.spOff, h.ss, h.regs]

theorem SameSource.items {s u : State} (h : SameSource s u) (ev : Event) (inner : Bool) : gateItems u ev inner = gateItems s ev inner := by
  rw [gateItems, gateItems, h.v86, h.segs, h.regs, h.flags]

theorem SameSource.room {s u : State} (h : SameSource s u) (hpe : s.pe = true) (n count : Nat) :
    stackRoom u.segs.ss n u.spOff count = true ↔ roomFor s n count := by
  rw [h.segs, h.spOff, stackRoom_iff hpe]

/-- What the obligation says of a gate whose code segment may be entered (R1214, R1420). -/
theorem gate_code {ev : Event} {s s1 s2 : State} {g cd : Desc} (n : Nat) (hpe : s.pe = true) (hidt : s.inSmm = true → s.smm.idtLoaded = true)
    (hroute : deliverProtected ev (begun ev s) = enterCode s1 g cd ev s2) (h1 : OnlyAccess (begun ev s) s1) (h2 : OnlyAccess s1 s2)
    (hcode : codeType cd) :
    (s.flags.vm = true → s.cpl = 3 → ¬ (cd.hi.getLsbD 10 = false ∧ cd.dpl = 0 ∧ gateBytes g = 4) → GivesUp ev s (selFault 13 g.gateSel) s2) ∧
    (s.flags.vm = false → cd.hi.getLsbD 10 = true ∨ cd.dpl = s.cpl →
      (¬ roomFor s (gateBytes g) (gateItems s ev false).length → GivesUp ev s ss0 s2) ∧
      ∀ slots s3, pushSlots s.ss (gateBytes g) s.spOff (gateItems s ev false).length s2 = .ok slots s3 →
        (cd.limit.toNat < g.gateOffset.toNat → GivesUp ev s gp0 s3) ∧
        (g.gateOffset.toNat ≤ cd.limit.toNat → ∀ ps s4, accessedAt cd s3 ps s4 →
          ∃ u v, StoredAll slots (gateItems s ev false) s4 u ∧ BitsSet ps 0x100 u v ∧
            deliver (n + 1) ev s = .next (State.delivered { withCs (withSp v (s.spOff - BitVec.ofNat 32 (gateBytes g * (gateItems s ev false).length)))
              (segOf (marked cd) (atLevel g.gateSel s.cpl)) g.gateOffset with flags := handlerFlags s.flags g }))) ∧
    (cd.hi.getLsbD 10 = false → cd.dpl.toNat < s.cpl.toNat → (s.flags.vm = true → cd.dpl = 0 ∧ gateBytes g = 4) →
      (∀ e t, InnerRefused cd.dpl s2 e t → GivesUp ev s e t) ∧
      ∀ (sd : Desc) (ssel : Half) (sp : Word) (s3 : State), InnerStack cd.dpl s2 sd ssel sp s3 →
      (¬ roomFor (switched cd.dpl sd ssel sp s3) (gateBytes g) (gateItems s ev true).length →
        GivesUp ev s (if s.flags.vm then ss0 else selFault 12 ssel) s3) ∧
      ∀ slots s4, pushSlots (switched cd.dpl sd ssel sp s3).ss (gateBytes g) (switched cd.dpl sd ssel sp s3).spOff (gateItems s ev true).length
          (switched cd.dpl sd ssel sp s3) = .ok slots s4 →
        (cd.limit.toNat < g.gateOffset.toNat → GivesUp ev s gp0 s4) ∧
        (g.gateOffset.toNat ≤ cd.limit.toNat → ∀ qs s5 ps s6, accessedAt sd s4 qs s5 → accessedAt cd s5 ps s6 →
          ∃ u v w, BitsSet qs 0x100 s6 u ∧ StoredAll slots (gateItems s ev true) u v ∧ BitsSet ps 0x100 v w ∧
            deliver (n + 1) ev s = .next (State.delivered
              { withSp w ((switched cd.dpl sd ssel sp s3).spOff - BitVec.ofNat 32 (gateBytes g * (gateItems s ev true).length)) with
                eip := g.gateOffset, flags := handlerFlags s.flags g
                segs := { cs := segOf (marked cd) (atLevel g.gateSel cd.dpl), ss := w.segs.ss, ds := leftSeg s.flags.vm s.segs.ds
                          es := leftSeg s.flags.vm s.segs.es, fs := leftSeg s.flags.vm s.segs.fs, gs := leftSeg s.flags.vm s.segs.gs } }))) := by
  have hsame : SameSource s s1 := .of_begun h1
  have hsame2 : SameSource s s2 := .of_begun (h1.trans h2)
  have hpe1 : s1.pe = true := hsame.pe.trans hpe
  have hv1 : s1.v86 = s.flags.vm := by rw [hsame.v86, State.v86, hpe, Bool.true_and]
  refine ⟨fun hvm hcpl hno => ?_, fun hvm hstay => ?_, fun hconf hlt hv => ?_⟩
  · refine givesUp_of_stop hpe hidt (hroute.trans (enterCode_v86Barred ?_))
    rw [hv1, hvm, hsame.cpl]
    exact v86_barred hcode hcpl hno
  · have hv : s1.v86 = false := hv1.trans hvm
    have hin : entersInner s1.cpl cd = false := by rw [hsame.cpl]; exact entersInner_of_same hcode hstay
    refine ⟨fun hno => givesUp_of_stop hpe hidt (hroute.trans (enterCode_same_noRoom hv hin ?_)), fun slots s3 hslots => ⟨fun hpast => ?_, ?_⟩⟩
    · rw [Ne, hsame.room hpe, hsame.items]
      exact hno
    · rw [← hsame2.ss, ← hsame2.spOff, ← hsame.items] at hslots
      exact givesUp_of_stop hpe hidt (hroute.trans (enterCode_same_past hv hin h2 hpe1 hslots hpast))
    · intro hle ps s4 hps
      rw [← hsame2.ss, ← hsame2.spOff, ← hsame.items] at hslots
      obtain ⟨u, v, hstored, hbits, hrun⟩ := enterCode_same_run hv hin h2 hpe1 hslots hle hps
      rw [hsame.items] at hstored
      refine ⟨u, v, hstored, hbits, delivers_of_ok hpe hidt n (hroute.trans (hrun.trans ?_))⟩
      rw [hsame.items, hsame.spOff, hsame.cpl, hsame.flags]
      rfl
  · have hin : entersInner s1.cpl cd = true := by rw [hsame.cpl]; exact entersInner_of_lt hcode hconf hlt
    have hv' : s1.v86 = true → cd.dpl = 0 ∧ gateBytes g = 4 := by rw [hv1]; exact hv
    refine ⟨fun e t h => givesUp_of_stop hpe hidt (hroute.trans (enterCode_inner_refused hin hv' h)), fun sd ssel sp s3 hstack =>
      ⟨fun hno => ?_, fun slots s4 hslots => ?_⟩⟩
    · rw [← hsame.items] at hno
      refine givesUp_of_stop hpe hidt (hroute.trans ((enterCode_inner_noRoom hin hv' hpe1 h2 hstack hno).trans ?_))
      rw [hv1]
    · rw [← hsame.items] at hslots
      refine ⟨fun hpast => givesUp_of_stop hpe hidt (hroute.trans (enterCode_inner_past hin hv' hpe1 h2 hstack hslots hpast)), ?_⟩
      intro hle qs s5 ps s6 hqs hps
      obtain ⟨u, v, w, hbits, hstored, hbits', hrun⟩ := enterCode_inner_run hin hv' hpe1 h2 hstack hslots hle hqs hps
      rw [hsame.items] at hstored
      refine ⟨u, v, w, hbits, hstored, hbits', delivers_of_ok hpe hidt n (hroute.trans (hrun.trans ?_))⟩
      rw [hsame.items, hsame.flags, hsame.segs, hv1]

end Sys2Proof.Laws

end
end

section
/-! Memory where all addresses are RAM and paging is off: what an access does is a function of memory alone (20_memory.md R200, R201, R210). -/

noncomputable section

namespace Sys2Proof.Laws

open Sys2Proof Sys2Proof.Machine Sys2Proof.Claims

/-! ## Loads and stores as functions -/

/-- The little-endian number at a list of addresses. -/
def memLoad (m : List Host.Cell) : List Word → Nat
  | [] => 0
  | a :: as => (Memory.read m a.toNat).toNat + 256 * memLoad m as

/-- Memory after the low bytes of a number were stored at a list of addresses. -/
def memStore (m : List Host.Cell) : List Word → Nat → List Host.Cell
  | [], _ => m
  | a :: as, v => memStore (Memory.write m a.toNat (BitVec.ofNat 8 v)) as (v / 256)

theorem memStore_read_ne {m : List Host.Cell} {ps : List Word} {v a : Nat} (h : ∀ p ∈ ps, a ≠ p.toNat) :
    Memory.read (memStore m ps v) a = Memory.read m a := by
  induction ps generalizing m v with
  | nil => rfl
  | cons p ps ih =>
    rw [memStore, ih fun q hq => h q (List.mem_cons_of_mem _ hq), read_write_ne _ _ _ _ (h p List.mem_cons_self)]

theorem memStore_wf {m : List Host.Cell} (h : Memory.wf m = true) (ps : List Word) (v : Nat) : Memory.wf (memStore m ps v) = true := by
  induction ps generalizing m v with
  | nil => exact h
  | cons a as ih => exact ih (write_wf_word a _ h) _

/-- Every address is RAM, and none is masked. -/
def allRam (s : State) : Prop := s.memMap = [] ∧ ∀ a, s.a20 a = a

section
variable {s : State} (h : allRam s)
include h

theorem allRam_region (a : Nat) : regionAt s.memMap a = none := by
  rw [h.1]
  rfl

theorem allRam_readByte (a : Word) : physReadByte a s = .ok (Memory.read s.mem a.toNat) s := by
  rw [physReadByte, get_bind]
  simp only [h.2, allRam_region h]
  rfl

theorem allRam_load (ps : List Word) : load ps s = .ok (memLoad s.mem ps) s := by
  induction ps with
  | nil => rfl
  | cons a as ih =>
    rw [load, bind_of_ok (allRam_readByte h a), bind_of_ok ih]
    rfl

theorem allRam_bytes (ps : List Word) : physBytes ps s = .ok (ps.map fun a => Memory.read s.mem a.toNat) s := by
  induction ps with
  | nil => rfl
  | cons a as ih =>
    rw [physBytes, bind_of_ok (allRam_readByte h a), bind_of_ok ih]
    rfl

theorem allRam_store (ps : List Word) (v : Nat) : store ps v s = .ok () { s with mem := memStore s.mem ps v } := by
  induction ps generalizing s v with
  | nil => rfl
  | cons a as ih =>
    have hwrite : physWriteByte a (BitVec.ofNat 8 v) s = .ok () { s with mem := Memory.write s.mem a.toNat (BitVec.ofNat 8 v) } := by
      rw [physWriteByte_run, h.2, allRam_region h]
    have hnext : allRam { s with mem := Memory.write s.mem a.toNat (BitVec.ofNat 8 v) } := h
    rw [store, bind_of_ok hwrite, ih hnext]
    rfl

end

section
variable {s : State} (h : flatRam s)
include h

theorem flatRam_allRam : allRam s := by
  obtain ⟨hpe, -, hmap, -⟩ := h
  refine ⟨hmap, fun a => ?_⟩
  rw [State.a20, hpe, Bool.not_true, Bool.and_false]
  rfl

theorem flatRam_load (ps : List Word) : load ps s = .ok (memLoad s.mem ps) s := allRam_load (flatRam_allRam h) ps

theorem flatRam_bytes (ps : List Word) : physBytes ps s = .ok (ps.map fun a => Memory.read s.mem a.toNat) s :=
  allRam_bytes (flatRam_allRam h) ps

theorem flatRam_store (ps : List Word) (v : Nat) :
    store ps v s = .ok () { s with mem := memStore s.mem ps v } ∧ Memory.wf (memStore s.mem ps v) = true :=
  ⟨allRam_store (flatRam_allRam h) ps v, memStore_wf h.2.2.2 ps v⟩

/-- What a store in RAM leaves, for any state with this memory. -/
theorem flatRam_stored (ps : List Word) (v : Nat) : Stored ps v s { s with mem := memStore s.mem ps v } := by
  obtain ⟨t, ht, hstored⟩ := store_stored ps v s
  rw [(flatRam_store h ps v).1] at ht
  cases ht
  exact hstored

theorem flatRam_set {m : List Host.Cell} (hm : Memory.wf m = true) : flatRam { s with mem := m } := ⟨h.1, h.2.1, h.2.2.1, hm⟩

theorem flatRam_mem (ps : List Word) (v : Nat) : flatRam { s with mem := memStore s.mem ps v } := flatRam_set h (flatRam_store h ps v).2

/-- Setting bits (R241, R1329). -/
theorem flatRam_setBits (ps : List Word) (m : Word) :
    setBits ps m s = .ok () { s with mem := memStore s.mem ps (BitVec.ofNat 32 (memLoad s.mem ps) ||| m).toNat } := by
  rw [setBits, bind_of_ok (flatRam_load h ps), (flatRam_store h ps _).1]

/-- Clearing bits (R1328). -/
theorem flatRam_clearBits (ps : List Word) (m : Word) :
    clearBits ps m s = .ok () { s with mem := memStore s.mem ps (BitVec.ofNat 32 (memLoad s.mem ps) &&& ~~~m).toNat } := by
  rw [clearBits, bind_of_ok (flatRam_load h ps), (flatRam_store h ps _).1]

end

theorem memNat_eq (s : State) (a : Word) (n : Nat) : memNat s a n = memLoad s.mem (consecutive a n) := by
  induction n generalizing a with
  | zero => rfl
  | succ n ih =>
    rw [memNat, List.range_succ_eq_map, List.map_cons, List.sum_cons, List.map_map, consecutive, memLoad, ← ih (a + 1), memNat,
      ← List.sum_map_mul_left]
    refine congrArg₂ (· + ·) ?_ (congrArg List.sum (List.map_congr_left fun j _ => ?_))
    · simp [byteAt]
    · have haddr : a + BitVec.ofNat 32 (j + 1) = a + 1 + BitVec.ofNat 32 j := by rw [Nat.add_comm, BitVec.ofNat_add, ← BitVec.add_assoc]; rfl
      rw [Function.comp_apply, Nat.succ_eq_add_one, haddr, pow_succ]
      simp only [byteAt]
      ring

/-! ## Consecutive addresses -/

theorem consecutive_add (p : Word) (m n : Nat) : consecutive p (m + n) = consecutive p m ++ consecutive (p + BitVec.ofNat 32 m) n := by
  induction m generalizing p with
  | zero => simp [consecutive]
  | succ m ih =>
    rw [Nat.succ_add, consecutive, ih, consecutive, List.cons_append, Nat.add_comm m 1, BitVec.ofNat_add, ← BitVec.add_assoc]
    rfl

theorem take_consecutive (p : Word) (m n : Nat) : (consecutive p (m + n)).take m = consecutive p m := by
  rw [consecutive_add, List.take_left' (consecutive_length p m)]

theorem drop_consecutive (p : Word) (m n : Nat) : (consecutive p (m + n)).drop m = consecutive (p + BitVec.ofNat 32 m) n := by
  rw [consecutive_add, List.drop_left' (consecutive_length p m)]

theorem mem_consecutive {p a : Word} {n : Nat} : a ∈ consecutive p n ↔ ∃ j, j < n ∧ a = p + BitVec.ofNat 32 j := by
  rw [consecutive_eq_map, List.mem_map]
  simp only [List.mem_range, eq_comm]

/-! ## Translation -/

/-- The state differs in the draws alone. -/
def OnlyDraws (s t : State) : Prop := t = { s with draws := t.draws }

theorem OnlyDraws.flat {s t : State} (h : OnlyDraws s t) (hs : flatRam s) : flatRam t := by
  rw [h]
  exact hs

theorem OnlyDraws.trans {s t u : State} (h : OnlyDraws s t) (k : OnlyDraws t u) : OnlyDraws s u := by
  unfold OnlyDraws at *
  rw [k, h]

theorem drawBool_onlyDraws (s : State) : ∃ b t, drawBool s = .ok b t ∧ OnlyDraws s t :=
  ⟨_, { s with draws := s.draws + 1 }, rfl, rfl⟩

section
variable {s : State} (h : flatRam s) (lin : Word) (n : Nat) (a : Access)
include h

omit h in
theorem acrossPages_consecutive (hn : ¬ n ≤ pageRoom lin) :
    acrossPages lin n lin (lin + BitVec.ofNat 32 (pageRoom lin)) = consecutive lin n := by
  rw [acrossPages, ← consecutive_add, Nat.add_sub_cancel' (Nat.le_of_not_le hn)]

theorem flatRam_linAddrs : linAddrs lin n a s = .ok (consecutive lin n) s := by
  rw [linAddrs, bind_of_ok (translate_pg_off h.2.1 lin a)]
  split
  · rfl
  · next hn =>
    rw [bind_of_ok (translate_pg_off h.2.1 _ a)]
    exact congrArg (EStateM.Result.ok · s) (acrossPages_consecutive lin n hn)

theorem flatRam_tssAddrs : ∃ t, tssAddrs lin n a s = .ok (consecutive lin n) t ∧ OnlyDraws s t := by
  by_cases hn : n ≤ pageRoom lin
  · refine ⟨s, ?_, rfl⟩
    rw [tssAddrs, if_pos hn, flatRam_linAddrs h]
  · obtain ⟨b, t, hb, hdraws⟩ := drawBool_onlyDraws s
    have ht : flatRam t := hdraws.flat h
    refine ⟨t, ?_, hdraws⟩
    rw [tssAddrs, if_neg hn, bind_of_ok hb]
    cases b
    · rw [if_neg (by decide), flatRam_linAddrs ht]
    · rw [if_pos rfl, bind_of_ok (translate_pg_off ht.2.1 _ a), bind_of_ok (translate_pg_off ht.2.1 _ a)]
      exact congrArg (EStateM.Result.ok · t) (acrossPages_consecutive lin n hn)

theorem flatRam_sysRead32 : sysRead32 lin s = .ok (BitVec.ofNat 32 (memLoad s.mem (consecutive lin 4))) s := by
  rw [sysRead32, sysRead, bind_of_ok ((bind_of_ok (flatRam_linAddrs h lin 4 _)).trans (flatRam_load h _))]
  rfl

theorem flatRam_readDescAt : ∃ d, readDescAt lin s = .ok d s ∧ d.addr = lin := by
  rw [readDescAt, bind_of_ok (flatRam_sysRead32 h lin), bind_of_ok (flatRam_sysRead32 h _)]
  exact ⟨_, rfl, rfl⟩

end

end Sys2Proof.Laws

end
end

section
/-! The stages of a task switch (61_tasks.md R1325 to R1333). -/

noncomputable section

namespace Sys2Proof.Laws

open Sys2Proof Sys2Proof.Machine Sys2Proof.Claims

/-! ## The stages -/

/-- The end of a task switch: the segment registers, the error code, the limit of CS (R1332, R1215). -/
def taskFinish (t : TaskImage) (fl : Flags) (wide : Bool) (err : Option Word) : M Unit := do
  taskLdt t.ldt
  if fl.vm then
    let s ← get
    require (!s.ldtr.usable || s.ldtr.attr.p) (ts (selCode t.ldt))
    modify fun s => { s with segs := { es := .ofV86 t.es, cs := .ofV86 t.cs, ss := .ofV86 t.ss,
                                       ds := .ofV86 t.ds, fs := .ofV86 t.fs, gs := .ofV86 t.gs } }
  else taskSegs t
  match err with
  | some c => push (if wide then 4 else 2) c.toNat
  | none => pure ()
  let s ← get
  require (decide (s.eip.toNat ≤ s.segs.cs.limit.toNat)) (gp 0)

/-- The flags of the new task (R1330, R1331). -/
def taskFlags (k : Switch) (t : TaskImage) : Flags :=
  let fl := Flags.ofWord t.eflags
  if k.nests then { fl with nt := true } else fl

/-- The registers of the new task, before its segment registers are loaded (R1330). -/
def taskRegisters (t : TaskImage) (fl : Flags) (wide : Bool) (s : State) : State :=
  { s with
    cr := { s.cr with cr3 := if wide && s.pg then t.cr3 else s.cr.cr3 }
    flags := fl, eip := t.eip, regs := t.regs, cpl := if fl.vm then 3 else rpl t.cs
    dr := { s.dr with dr7 := s.dr.dr7 &&& 0xFFFFFFAA }
    segs := { es := s.segs.es.pending t.es, cs := s.segs.cs.pending t.cs, ss := s.segs.ss.pending t.ss,
              ds := s.segs.ds.pending t.ds, fs := s.segs.fs.pending t.fs, gs := s.segs.gs.pending t.gs }
    cur := { s.cur with bt := t.t } }

/-- The new task is loaded, in `s` before the switch (R1330). -/
def taskLoad (s : State) (k : Switch) (wide : Bool) (err : Option Word) (bytes : List Byte) (failed : Option Stop) : M Unit := do
  modify (taskRegisters (taskImage s wide bytes) (taskFlags k (taskImage s wide bytes)) wide)
  if wide && s.pg then tlbFlush else pure ()
  match failed with
  | some e => throw e
  | none => pure ()
  taskFinish (taskImage s wide bytes) (taskFlags k (taskImage s wide bytes)) wide err

/-- The descriptor of a busy task. -/
def busyDesc (d : Desc) : Desc := { d with hi := d.hi ||| 0x200 }

/-- TR, CR0.TS and the latch at the commit (R1329). -/
def taskCommitted (sel : Half) (d : Desc) (s : State) : State :=
  { s with tr := (busyDesc d).toSeg sel, cr := { s.cr with cr0 := s.cr.cr0 ||| 8 }, cur := { s.cur with committed := true, keepRf := true } }

/-- The size of the TSS that is read. -/
def taskSize (wide : Bool) : Nat := if wide then 0x68 else 0x2C

/-- The save, the commit and the read of the new TSS (R1328 to R1330). -/
def taskCommit (s : State) (d : Desc) (sel : Half) (k : Switch) (ret : Word) (err : Option Word) (oldPs oldHiPs newHiPs : List Word) : M Unit := do
  storeFields (if bit s.tr.attr.typ 3 then 4 else 2) oldPs (oldTaskImage s (bit s.tr.attr.typ 3) k ret)
  clearBits oldHiPs 0x200
  setBits newHiPs 0x200
  modify (taskCommitted sel d)
  let (bytes, failed) ← if k.nests then readNested (busyDesc d).base (taskSize (bit d.typ 3)) s.tr.sel
    else readTss none (busyDesc d).base (taskSize (bit d.typ 3))
  taskLoad s k (bit d.typ 3) err bytes failed

/-- The old task's descriptor loses its Busy bit (R1328). -/
def clearsBusy (s : State) (k : Switch) : Bool := (k == .jmp || k == .iret) && !isNull s.tr.sel

theorem taskSwitch_eq (sel : Half) (k : Switch) (ret : Word) (err : Option Word) : taskSwitch sel k ret err = (do
    let d ← checkTss sel k
    let s ← get
    let oldPs ← tssAddrs (s.tr.base + (if bit s.tr.attr.typ 3 then 0x20 else 0x0E))
      ((if bit s.tr.attr.typ 3 then 4 else 2) * (oldTaskImage s (bit s.tr.attr.typ 3) k ret).length) (.system true)
    require (!clearsBusy s k || decide ((selOffset s.tr.sel).toNat + 7 ≤ s.gdtr.limit.toNat)) (gp (selCode s.tr.sel))
    let oldHiPs ← if clearsBusy s k then linAddrs (s.gdtr.base + selOffset s.tr.sel + 4) 4 (.system true) else pure []
    let newHiPs ← if k == .iret then pure [] else linAddrs (d.addr + 4) 4 (.system true)
    taskCommit s d sel k ret err oldPs oldHiPs newHiPs : M Unit) := by
  unfold taskSwitch taskCommit taskLoad taskFinish
  rfl

end Sys2Proof.Laws

end
end

section
/-! The new task of a task switch, in RAM without paging: its descriptor and its TSS (61_tasks.md R1327, R1330, R1331). -/

noncomputable section

namespace Sys2Proof.Laws

open Sys2Proof Sys2Proof.Machine Sys2Proof.Claims

/-! ## The descriptor -/

theorem tssTyp_iff : ∀ (x : BitVec 4) (b : Bool), ((x &&& 5) == 1) = true → (bit x 1 == b) = true →
    if b = true then x = 3 ∨ x = 11 else x = 1 ∨ x = 9 := by
  decide

theorem np_ne_ok (c : Word) (s u : State) : (np c : M Unit) s ≠ .ok () u := fun h => nomatch h

theorem ts_ne_ok (c : Word) (s u : State) : (ts c : M Unit) s ≠ .ok () u := fun h => nomatch h

theorem sf_ne_ok (c : Word) (s u : State) : (sf c : M Unit) s ≠ .ok () u := fun h => nomatch h

theorem readDesc_ok {sel : Half} {bad : M Unit} {s t : State} {d : Desc} (hs : flatRam s) (hbad : ∀ u, bad s ≠ .ok () u)
    (h : readDesc sel bad s = .ok d t) : t = s ∧ inTable s sel = true ∧ readDescAt (descLinear s sel) s = .ok d s := by
  rw [readDesc, get_bind, require_bind_eq_ok hbad] at h
  obtain ⟨hin, h⟩ := h
  obtain ⟨d', hd', -⟩ := flatRam_readDescAt hs (descLinear s sel)
  rw [hd'] at h
  cases h
  exact ⟨rfl, hin, hd'⟩

/-- What the checks on the new TSS descriptor let through (R1327). -/
theorem checkTss_ok {sel : Half} {k : Switch} {s t : State} {d : Desc} (hs : flatRam s) (h : checkTss sel k s = .ok d t) :
    t = s ∧ Named s sel s d s ∧ sel.getLsbD 2 = false ∧ d.hi.getLsbD 12 = false ∧ d.hi.getLsbD 15 = true ∧
      if k = .iret then d.typ = 3 ∨ d.typ = 11 else d.typ = 1 ∨ d.typ = 9 := by
  have hbad (u v : State) : (if k = .iret then ts (selCode sel) else gp (selCode sel) : M Unit) u ≠ .ok () v := by
    split <;> exact fun h => nomatch h
  rw [checkTss, require_bind_eq_ok (hbad s), Bool.and_eq_true, Bool.not_eq_true', Bool.not_eq_true'] at h
  obtain ⟨⟨hti, hnull⟩, hrest⟩ := h
  obtain ⟨d', s1, hread, hchecks⟩ := bind_eq_ok.mp hrest
  obtain ⟨rfl, hin, hdesc⟩ := readDesc_ok hs (hbad s) hread
  rw [require_bind_eq_ok (hbad s1), require_bind_eq_ok (np_ne_ok _ s1), require_bind_eq_ok (hbad s1),
    require_bind_eq_ok (ts_ne_ok _ s1), Bool.and_eq_true, Bool.not_eq_true'] at hchecks
  obtain ⟨⟨hsys, htyp⟩, hp, hbusy, -, hret⟩ := hchecks
  cases hret
  refine ⟨rfl, ⟨by simpa [isNull_eq] using hnull, hin, hdesc⟩, hti, hsys, hp, ?_⟩
  have := tssTyp_iff d.typ _ htyp hbusy
  simpa using this

/-- The Busy bit is no part of the base (R237). -/
theorem busyDesc_base (d : Desc) : (busyDesc d).base = d.base := by
  have hhigh : (d.hi ||| 0x200).extractLsb' 24 8 = d.hi.extractLsb' 24 8 := by
    rw [BitVec.extractLsb'_or, show (0x200 : Word).extractLsb' 24 8 = 0 by decide]
    exact BitVec.or_zero
  have hlow : (d.hi ||| 0x200).extractLsb' 0 8 = d.hi.extractLsb' 0 8 := by
    rw [BitVec.extractLsb'_or, show (0x200 : Word).extractLsb' 0 8 = 0 by decide]
    exact BitVec.or_zero
  rw [Desc.base, Desc.base, busyDesc, hhigh, hlow]

/-! ## The bytes of the TSS -/

/-- The bytes at consecutive addresses. -/
def memBytes (m : List Host.Cell) (lin : Word) (n : Nat) : List Byte := (consecutive lin n).map fun a => Memory.read m a.toNat

theorem leNat_map (m : List Host.Cell) (ps : List Word) : leNat (ps.map fun a => Memory.read m a.toNat) = memLoad m ps := by
  induction ps with
  | nil => rfl
  | cons a as ih => rw [List.map_cons, leNat, ih, memLoad]

theorem fieldAt_memBytes (m : List Host.Cell) (lin : Word) {n off k : Nat} (h : off + k ≤ n) :
    fieldAt (memBytes m lin n) off k = memLoad m (consecutive (lin + BitVec.ofNat 32 off) k) := by
  obtain ⟨r, rfl⟩ : ∃ r, n = off + (k + r) := ⟨n - off - k, by omega⟩
  rw [fieldAt, memBytes, ← List.map_drop, drop_consecutive, ← List.map_take, take_consecutive, leNat_map]

/-- Memory in which LINK of the TSS at `lin` may have been written (R1331). -/
def LinkOnly (lin : Word) (m m' : List Host.Cell) : Prop := ∀ a, a ≠ lin.toNat → a ≠ (lin + 1).toNat → Memory.read m' a = Memory.read m a

/-- A field behind LINK is read the same before and after LINK is written. -/
theorem memLoad_linkOnly {lin : Word} {m m' : List Host.Cell} (h : LinkOnly lin m m') {off k : Nat} (hoff : 2 ≤ off) (hk : off + k ≤ 2 ^ 32) :
    memLoad m' (consecutive (lin + BitVec.ofNat 32 off) k) = memLoad m (consecutive (lin + BitVec.ofNat 32 off) k) := by
  induction k generalizing off with
  | zero => rfl
  | succ k ih =>
    have hne : (lin + BitVec.ofNat 32 off).toNat ≠ lin.toNat ∧ (lin + BitVec.ofNat 32 off).toNat ≠ (lin + 1).toNat := by
      have := lin.isLt
      constructor <;> (simp only [BitVec.toNat_add, BitVec.toNat_ofNat, show (1 : Word).toNat = 1 from rfl]; omega)
    have hnext : lin + BitVec.ofNat 32 off + 1 = lin + BitVec.ofNat 32 (off + 1) := by rw [BitVec.ofNat_add, ← BitVec.add_assoc]; rfl
    rw [consecutive, memLoad, memLoad, h _ hne.1 hne.2, hnext, ih (by omega) (by omega)]

theorem attempt_ok {α : Type} {failed : Option Stop} {m : M α} {s t : State} {v : α} (h : m s = .ok v t) :
    attempt failed m s = .ok (some v, failed) t := by
  unfold attempt
  rw [h]

section
variable {s : State} (h : flatRam s) (lin : Word)
include h

theorem flatRam_tssPart (n : Nat) : tssPart none lin n s = .ok (memBytes s.mem lin n, none) s := by
  have hattempt : attempt none (Machine.translate lin (.system false)) s = .ok (some lin, none) s :=
    attempt_ok (translate_pg_off h.2.1 lin _)
  rw [tssPart, bind_of_ok hattempt]
  exact (bind_of_ok (flatRam_bytes h _)).trans rfl

theorem flatRam_readTss (n : Nat) : ∃ t, readTss none lin n s = .ok (memBytes s.mem lin n, none) t ∧ OnlyDraws s t := by
  by_cases hn : n ≤ pageRoom lin
  · exact ⟨s, by rw [readTss, if_pos hn, flatRam_tssPart h], rfl⟩
  · obtain ⟨b, t, hb, hdraws⟩ := drawBool_onlyDraws s
    have ht : flatRam t := hdraws.flat h
    have hmem : t.mem = s.mem := by rw [hdraws]
    have hjoin : memBytes t.mem lin (pageRoom lin) ++ memBytes t.mem (lin + BitVec.ofNat 32 (pageRoom lin)) (n - pageRoom lin) =
        memBytes s.mem lin n := by
      rw [hmem, memBytes, memBytes, ← List.map_append, ← consecutive_add, Nat.add_sub_cancel' (Nat.le_of_not_le hn), memBytes]
    refine ⟨t, ?_, hdraws⟩
    rw [readTss, if_neg hn]
    simp only []
    rw [bind_of_ok hb, ← hjoin]
    cases b
    · rw [if_neg (by decide), bind_of_ok (flatRam_tssPart ht lin _), bind_of_ok (flatRam_tssPart ht _ _)]
      rfl
    · rw [if_pos rfl, bind_of_ok (flatRam_tssPart ht _ _), bind_of_ok (flatRam_tssPart ht lin _)]
      rfl

/-- Memory with LINK written. -/
def linkMem (m : List Host.Cell) (lin : Word) (old : Half) : List Host.Cell := memStore m (consecutive lin 2) old.toNat

omit h in
theorem linkMem_linkOnly (m : List Host.Cell) (old : Half) : LinkOnly lin m (linkMem m lin old) := by
  intro a h0 h1
  refine memStore_read_ne fun p hp => ?_
  obtain ⟨j, hj, rfl⟩ := mem_consecutive.mp hp
  interval_cases j
  · simpa using h0
  · exact h1

theorem flatRam_writeLink (old : Half) : ∃ t, writeLink lin old s = .ok none t ∧ OnlyDraws { s with mem := linkMem s.mem lin old } t := by
  obtain ⟨u, hu, hdraws⟩ := flatRam_tssAddrs h lin 2 (.system true)
  have hattempt : attempt none (tssAddrs lin 2 (.system true)) s = .ok (some (consecutive lin 2), none) u := attempt_ok hu
  have hstore := (flatRam_store (hdraws.flat h) (consecutive lin 2) old.toNat).1
  refine ⟨{ u with mem := linkMem u.mem lin old }, ?_, ?_⟩
  · rw [writeLink, bind_of_ok hattempt]
    exact (bind_of_ok hstore).trans rfl
  · rw [hdraws]
    rfl

/-- A nested switch reads the TSS before or after it writes LINK (R1331, U13). -/
theorem flatRam_readNested (n : Nat) (old : Half) : ∃ m' t, readNested lin n old s = .ok (memBytes m' lin n, none) t ∧
    LinkOnly lin s.mem m' ∧ OnlyDraws { s with mem := linkMem s.mem lin old } t := by
  have hflat (u : State) (hu : OnlyDraws s u) : flatRam u := hu.flat h
  have late (u : State) (hu : OnlyDraws s u) : ∃ t, (do
      let (bs, e) ← readTss none lin n
      match e with
      | some e => pure (bs, some e)
      | none => do
        let e ← writeLink lin old
        pure (bs, e) : M (List Byte × Option Stop)) u = .ok (memBytes s.mem lin n, none) t ∧ OnlyDraws { s with mem := linkMem s.mem lin old } t := by
    obtain ⟨v, hv, hdraws⟩ := flatRam_readTss (hflat u hu) lin n
    have hmem : u.mem = s.mem := by rw [hu]
    obtain ⟨t, ht, hlink⟩ := flatRam_writeLink (hdraws.flat (hflat u hu)) lin old
    refine ⟨t, ?_, ?_⟩
    · rw [bind_of_ok hv, hmem]
      exact (bind_of_ok ht).trans rfl
    · rw [hlink, hdraws, hu]
      rfl
  have early (u : State) (hu : OnlyDraws s u) : ∃ t, (do
      let e ← writeLink lin old
      readTss e lin n : M (List Byte × Option Stop)) u = .ok (memBytes (linkMem s.mem lin old) lin n, none) t ∧
        OnlyDraws { s with mem := linkMem s.mem lin old } t := by
    obtain ⟨v, hv, hlink⟩ := flatRam_writeLink (hflat u hu) lin old
    have hmem : u.mem = s.mem := by rw [hu]
    have hv' : flatRam v := hlink.flat (flatRam_mem (hflat u hu) _ _)
    obtain ⟨t, ht, hdraws⟩ := flatRam_readTss hv' lin n
    have hvm : v.mem = linkMem s.mem lin old := by rw [hlink, hmem]
    refine ⟨t, ?_, ?_⟩
    · rw [bind_of_ok hv, ht, hvm]
    · rw [hdraws, hlink, hu]
      rfl
  by_cases hn : n ≤ pageRoom lin
  · obtain ⟨t, ht, hdraws⟩ := late s rfl
    refine ⟨s.mem, t, ?_, fun _ _ _ => rfl, hdraws⟩
    rw [readNested, if_pos hn]
    exact ht
  · obtain ⟨b, u, hb, hu⟩ := drawBool_onlyDraws s
    cases b
    · obtain ⟨t, ht, hdraws⟩ := late u hu
      refine ⟨s.mem, t, ?_, fun _ _ _ => rfl, hdraws⟩
      rw [readNested, if_neg hn, bind_of_ok hb]
      exact ht
    · obtain ⟨t, ht, hdraws⟩ := early u hu
      refine ⟨linkMem s.mem lin old, t, ?_, linkMem_linkOnly lin _ old, hdraws⟩
      rw [readNested, if_neg hn, bind_of_ok hb]
      exact ht

end

end Sys2Proof.Laws

end
end

section
/-! The old task of a task switch, in RAM without paging: what is saved, and the Busy bits (61_tasks.md R1328, R1329, R1331). -/

noncomputable section

namespace Sys2Proof.Laws

open Sys2Proof Sys2Proof.Machine Sys2Proof.Claims

theorem selOffset_eq (sel : Half) : selOffset sel = BitVec.ofNat 32 (sel.toNat / 8 * 8) := by
  have hclear : sel &&& 65528#16 = (sel >>> 3) <<< 3 := by
    apply BitVec.eq_of_getLsbD_eq
    intro i hi
    interval_cases i <;> simp
  have := sel.isLt
  show (sel &&& 65528#16).setWidth 32 = _
  rw [hclear]
  apply BitVec.eq_of_toNat_eq
  simp only [BitVec.toNat_setWidth, BitVec.toNat_shiftLeft, BitVec.toNat_ushiftRight, Nat.shiftRight_eq_div_pow, Nat.shiftLeft_eq, BitVec.toNat_ofNat]
  omega

theorem oldTaskImage_eq (s : State) (k : Switch) (ret : Word) : oldTaskImage s (bit s.tr.attr.typ 3) k ret = oldFields s k ret := by
  rw [oldTaskImage, oldFields, bit]
  cases s.tr.attr.typ.getLsbD 3 <;> rfl

/-- The state differs in memory alone, which keeps its form. -/
def OnlyRam (s t : State) : Prop := t = { s with mem := t.mem } ∧ Memory.wf t.mem = true

theorem OnlyRam.flat {s t : State} (h : OnlyRam s t) (hs : flatRam s) : flatRam t := by
  obtain ⟨ht, hwf⟩ := h
  rw [ht]
  exact flatRam_set hs hwf

theorem OnlyRam.trans {s t u : State} (h : OnlyRam s t) (k : OnlyRam t u) : OnlyRam s u := by
  obtain ⟨ht, -⟩ := h
  obtain ⟨hu, hwf⟩ := k
  exact ⟨by rw [hu, ht], hwf⟩

theorem onlyRam_store {s : State} (h : flatRam s) (ps : List Word) (v : Nat) : OnlyRam s { s with mem := memStore s.mem ps v } :=
  ⟨rfl, (flatRam_store h ps v).2⟩

/-- The fields of the old task, one after the other (R1328). -/
theorem flatRam_storeFields {s : State} (h : flatRam s) (n : Nat) (base : Word) (vs : List Nat) :
    ∃ t, storeFields n (consecutive base (n * vs.length)) vs s = .ok () t ∧ OnlyRam s t ∧
      StoredAll ((List.range vs.length).map fun i => consecutive (base + BitVec.ofNat 32 (n * i)) n) vs s t := by
  induction vs generalizing s base with
  | nil => exact ⟨s, by rw [storeFields]; rfl, ⟨rfl, h.2.2.2⟩, rfl⟩
  | cons v vs ih =>
    have hlen : n * (v :: vs).length = n + n * vs.length := by rw [List.length_cons, Nat.mul_succ, Nat.add_comm]
    obtain ⟨t, ht, hram, hstored⟩ := ih (flatRam_mem h (consecutive base n) v) (base + BitVec.ofNat 32 n)
    refine ⟨t, ?_, (onlyRam_store h _ v).trans hram, ?_⟩
    · rw [storeFields, hlen, take_consecutive, drop_consecutive, bind_of_ok (flatRam_store h _ v).1, ht]
    · have hzero : base + BitVec.ofNat 32 (n * 0) = base := BitVec.add_zero base
      have hshift (i : Nat) : base + BitVec.ofNat 32 (n * i.succ) = base + BitVec.ofNat 32 n + BitVec.ofNat 32 (n * i) := by
        rw [Nat.mul_succ, Nat.add_comm, BitVec.ofNat_add, BitVec.add_assoc]
      rw [List.length_cons, List.range_succ_eq_map, List.map_cons, List.map_map, hzero]
      simp only [Function.comp_def, hshift]
      exact ⟨_, flatRam_stored h (consecutive base n) v, hstored⟩

/-- The fields of the old TSS that are written, from EIP up (R1328). -/
def fieldPlaces (s : State) (k : Switch) (ret : Word) : List Word :=
  consecutive (s.tr.base + (if bit s.tr.attr.typ 3 then 0x20 else 0x0E)) ((if bit s.tr.attr.typ 3 then 4 else 2) * (oldFields s k ret).length)

/-- The bytes of the old descriptor whose Busy bit is cleared (R1328). -/
def oldHi (s : State) (k : Switch) : List Word := if clearsBusy s k then consecutive (s.gdtr.base + selOffset s.tr.sel + 4) 4 else []

/-- The bytes of the new descriptor whose Busy bit is set (R1329). -/
def newHi (d : Desc) (k : Switch) : List Word := if k = .iret then [] else consecutive (d.addr + 4) 4

/-- The computations that find these places. -/
def oldHiPlaces (s : State) (k : Switch) : M (List Word) :=
  if clearsBusy s k then linAddrs (s.gdtr.base + selOffset s.tr.sel + 4) 4 (.system true) else pure []

def newHiPlaces (d : Desc) (k : Switch) : M (List Word) :=
  if k == .iret then pure [] else linAddrs (d.addr + 4) 4 (.system true)

theorem flatRam_oldHiPlaces {s u : State} (hu : flatRam u) (k : Switch) : oldHiPlaces s k u = .ok (oldHi s k) u := by
  rw [oldHiPlaces, oldHi]
  split
  · rw [flatRam_linAddrs hu]
  · rfl

theorem flatRam_newHiPlaces {d : Desc} {u : State} (hu : flatRam u) (k : Switch) : newHiPlaces d k u = .ok (newHi d k) u := by
  rw [newHiPlaces, newHi]
  by_cases hk : k = .iret
  · rw [if_pos hk, if_pos (by simpa using hk)]
    rfl
  · rw [if_neg hk, if_neg (by simpa using hk), flatRam_linAddrs hu]

/-- The places of a switch: nothing but draws before the first write (R1334, D72). -/
theorem taskSwitch_places {sel : Half} {k : Switch} {ret : Word} {err : Option Word} {s t : State} (hs : flatRam s)
    (h : taskSwitch sel k ret err s = .ok () t) : ∃ d u, checkTss sel k s = .ok d s ∧ OnlyDraws s u ∧
      taskCommit s d sel k ret err (fieldPlaces s k ret) (oldHi s k) (newHi d k) u = .ok () t := by
  rw [taskSwitch_eq] at h
  obtain ⟨d, s1, hcheck, hget⟩ := bind_eq_ok.mp h
  obtain ⟨rfl, -⟩ := checkTss_ok hs hcheck
  rw [get_bind, oldTaskImage_eq] at hget
  obtain ⟨ps, u, hps, hlimit⟩ := bind_eq_ok.mp hget
  obtain ⟨_, hu', hdraws⟩ := flatRam_tssAddrs hs (s1.tr.base + (if bit s1.tr.attr.typ 3 then 0x20 else 0x0E))
    ((if bit s1.tr.attr.typ 3 then 4 else 2) * (oldFields s1 k ret).length) (.system true)
  cases hu'.symm.trans hps
  rw [require_bind_eq_ok (gp_ne_ok _ _)] at hlimit
  obtain ⟨-, hplaces⟩ := hlimit
  have hstaged : (do
      let oldHiPs ← oldHiPlaces s1 k
      let newHiPs ← newHiPlaces d k
      taskCommit s1 d sel k ret err (fieldPlaces s1 k ret) oldHiPs newHiPs : M Unit) u = .ok () t := by
    rw [← hplaces, oldHiPlaces, newHiPlaces]
    cases clearsBusy s1 k <;> cases (k == .iret) <;> rfl
  have hu : flatRam u := hdraws.flat hs
  rw [bind_of_ok (flatRam_oldHiPlaces hu k), bind_of_ok (flatRam_newHiPlaces hu k)] at hstaged
  exact ⟨d, u, hcheck, hdraws, hstaged⟩

/-- The old task's descriptor loses its Busy bit on JMP and IRET, unless TR holds a null selector (R1328). -/
theorem clearsBusy_iff (s : State) (k : Switch) : clearsBusy s k = true ↔ (k = .jmp ∨ k = .iret) ∧ 4 ≤ s.tr.sel.toNat := by
  rw [clearsBusy, Bool.and_eq_true, Bool.or_eq_true, beq_iff_eq, beq_iff_eq, isNull_eq, Bool.not_eq_true', decide_eq_false_iff_not, Nat.not_lt]

/-- The nested switch stores LINK (R1331). -/
def withLink (k : Switch) (d : Desc) (old : Half) (s : State) : State := if k.nests then { s with mem := linkMem s.mem d.base old } else s

/-- Memory with bits of a doubleword cleared, or set. -/
def memClear (m : List Host.Cell) (ps : List Word) (x : Word) : List Host.Cell := memStore m ps (BitVec.ofNat 32 (memLoad m ps) &&& ~~~x).toNat
def memSet (m : List Host.Cell) (ps : List Word) (x : Word) : List Host.Cell := memStore m ps (BitVec.ofNat 32 (memLoad m ps) ||| x).toNat

/-- What a completed switch has saved, and what is left of it: the load of the new task (R1328 to R1331). -/
theorem taskSwitch_saved {sel : Half} {k : Switch} {ret : Word} {err : Option Word} {s t : State} (hs : flatRam s)
    (h : taskSwitch sel k ret err s = .ok () t) : ∃ d v m' u, checkTss sel k s = .ok d s ∧ TaskSaved s k ret d v ∧
      OnlyRam { s with draws := v.draws } v ∧ LinkOnly d.base v.mem m' ∧ OnlyDraws (taskCommitted sel d (withLink k d s.tr.sel v)) u ∧
      taskLoad s k (bit d.typ 3) err (memBytes m' d.base (taskSize (bit d.typ 3))) none u = .ok () t := by
  obtain ⟨d, s', hcheck, hdraws, hcommit⟩ := taskSwitch_places hs h
  have hs' : flatRam s' := hdraws.flat hs
  obtain ⟨x, hx, hsx, hfields⟩ := flatRam_storeFields hs' (if bit s.tr.attr.typ 3 then 4 else 2)
    (s.tr.base + (if bit s.tr.attr.typ 3 then 0x20 else 0x0E)) (oldFields s k ret)
  have hfx : flatRam x := hsx.flat hs'
  obtain ⟨y, hy⟩ : ∃ y : State, y = { x with mem := memClear x.mem (oldHi s k) 0x200 } := ⟨_, rfl⟩
  obtain ⟨v, hv⟩ : ∃ v : State, v = { y with mem := memSet y.mem (newHi d k) 0x200 } := ⟨_, rfl⟩
  have hxy : OnlyRam x y := hy ▸ onlyRam_store hfx _ _
  have hfy : flatRam y := hxy.flat hfx
  have hyv : OnlyRam y v := hv ▸ onlyRam_store hfy _ _
  have hfv : flatRam v := hyv.flat hfy
  have hsv : OnlyRam s' v := (hsx.trans hxy).trans hyv
  have hs'v : s' = { s with draws := v.draws } := by rw [hsv.1, ← hdraws]
  rw [taskCommit, oldTaskImage_eq, fieldPlaces, bind_of_ok hx, bind_of_ok ((flatRam_clearBits hfx _ _).trans (congrArg _ hy.symm)),
    bind_of_ok ((flatRam_setBits hfy _ _).trans (congrArg _ hv.symm))] at hcommit
  have hsaved : TaskSaved s k ret d v := by
    refine ⟨x, y, hs'v ▸ hfields, ?_, ?_⟩
    · by_cases hc : clearsBusy s k = true
      · rw [if_pos ((clearsBusy_iff s k).mp hc), memNat_eq, ← selOffset_eq]
        rw [oldHi, if_pos hc] at hy
        rw [hy]
        exact flatRam_stored hfx _ _
      · rw [if_neg ((clearsBusy_iff s k).not.mp hc)]
        rw [oldHi, if_neg hc] at hy
        exact hy
    · split
      · next hk => rw [newHi, if_pos hk] at hv; exact hv
      · next hk =>
        rw [newHi, if_neg hk] at hv
        rw [memNat_eq, hv]
        exact flatRam_stored hfy _ _
  have hcom : (modify (taskCommitted sel d) : M Unit) v = .ok () (taskCommitted sel d v) := rfl
  have hflat : flatRam (taskCommitted sel d v) := by
    obtain ⟨hpe, hpg, hmap, hwf⟩ := hfv
    refine ⟨?_, ?_, hmap, hwf⟩
    · simpa [State.pe, taskCommitted, bit] using hpe
    · simpa [State.pg, taskCommitted, bit] using hpg
  rw [bind_of_ok hcom, busyDesc_base] at hcommit
  by_cases hk : k.nests = true
  · obtain ⟨m', u, hu, hlink, hdraws'⟩ := flatRam_readNested hflat d.base (taskSize (bit d.typ 3)) s.tr.sel
    rw [if_pos hk] at hcommit
    refine ⟨d, v, m', u, hcheck, hsaved, hs'v ▸ hsv, hlink, ?_, ?_⟩
    · rw [withLink, if_pos hk]
      exact hdraws'
    · rw [bind_of_ok hu] at hcommit
      exact hcommit
  · obtain ⟨u, hu, hdraws'⟩ := flatRam_readTss hflat d.base (taskSize (bit d.typ 3))
    rw [if_neg hk] at hcommit
    refine ⟨d, v, v.mem, u, hcheck, hsaved, hs'v ▸ hsv, fun _ _ _ => rfl, ?_, ?_⟩
    · rw [withLink, if_neg hk]
      exact hdraws'
    · rw [bind_of_ok hu] at hcommit
      exact hcommit

end Sys2Proof.Laws

end
end

section
/-! The end of a task switch, in RAM without paging: the segment registers of the new task (61_tasks.md R1332, R1333). -/

noncomputable section

namespace Sys2Proof.Laws

open Sys2Proof Sys2Proof.Machine Sys2Proof.Claims

/-! ## What loading segment registers changes -/

/-- A byte of the descriptor tables. -/
def inTables (s : State) (a : Nat) : Prop :=
  (∃ x, x ≤ s.gdtr.limit.toNat ∧ a = (s.gdtr.base + BitVec.ofNat 32 x).toNat) ∨
  ∃ x, x ≤ s.ldtr.limit.toNat ∧ a = (s.ldtr.base + BitVec.ofNat 32 x).toNat

/-- The state differs in segment registers and in bytes of the descriptor tables. -/
structure SegsLoaded (s t : State) : Prop where
  only : t = { s with segs := t.segs, mem := t.mem }
  wf : Memory.wf t.mem = true
  frame : ∀ a, ¬ inTables s a → byteAt t a = byteAt s a

theorem SegsLoaded.refl {s : State} (h : flatRam s) : SegsLoaded s s := ⟨rfl, h.2.2.2, fun _ _ => rfl⟩

theorem SegsLoaded.inTables_eq {s t : State} (h : SegsLoaded s t) : inTables t = inTables s := by
  rw [h.only]
  rfl

theorem SegsLoaded.trans {s t u : State} (h : SegsLoaded s t) (k : SegsLoaded t u) : SegsLoaded s u where
  only := by rw [k.only, h.only]
  wf := k.wf
  frame a ha := (k.frame a (by rw [h.inTables_eq]; exact ha)).trans (h.frame a ha)

theorem SegsLoaded.flat {s t : State} (h : SegsLoaded s t) (hs : flatRam s) : flatRam t := by
  obtain ⟨hpe, hpg, hmap, -⟩ := hs
  refine ⟨?_, ?_, ?_, h.wf⟩ <;> rw [h.only] <;> assumption

theorem SegsLoaded.setSegs {s : State} (h : flatRam s) (g : Segs) : SegsLoaded s { s with segs := g } := ⟨rfl, h.2.2.2, fun _ _ => rfl⟩

/-! ## Descriptors in their tables -/

/-- `d` stands where `sel` names it. -/
def Found (s : State) (sel : Half) (d : Desc) : Prop := inTable s sel = true ∧ d.addr = descLinear s sel

theorem SegsLoaded.found {s t : State} (h : SegsLoaded s t) {sel : Half} {d : Desc} (hd : Found s sel d) : Found t sel d := by
  rw [h.only]
  exact hd

theorem flatRam_lookDesc {s : State} (h : flatRam s) (sel : Half) : ∃ x, lookDesc sel s = .ok x s ∧ ∀ d, x = some d → Found s sel d := by
  rw [lookDesc, get_bind]
  by_cases hno : (isNull sel || !inTable s sel) = true
  · exact ⟨none, by rw [if_pos hno]; rfl, fun _ hd => nomatch hd⟩
  · obtain ⟨d, hd, haddr⟩ := flatRam_readDescAt h (descLinear s sel)
    refine ⟨some d, by rw [if_neg hno]; exact (bind_of_ok hd).trans rfl, fun d' hd' => ?_⟩
    cases hd'
    rw [Bool.or_eq_true, not_or, Bool.not_eq_true', Bool.not_eq_false] at hno
    exact ⟨hno.2, haddr⟩

theorem lookDesc_ok {s t : State} {sel : Half} {x : Option Desc} (h : flatRam s) (hlook : lookDesc sel s = .ok x t) :
    t = s ∧ ∀ d, x = some d → Found s sel d := by
  obtain ⟨x', hx', hfound⟩ := flatRam_lookDesc h sel
  cases hx'.symm.trans hlook
  exact ⟨rfl, hfound⟩

/-- The Accessed bit lies in the descriptor's table (R241, R244). -/
theorem inTables_of_found {s : State} {sel : Half} {d : Desc} (h : Found s sel d) {p : Word} (hp : p ∈ consecutive (d.addr + 4) 4) :
    inTables s p.toNat := by
  obtain ⟨hin, haddr⟩ := h
  obtain ⟨j, hj, rfl⟩ := mem_consecutive.mp hp
  have hplace (base : Word) : base + selOffset sel + 4 + BitVec.ofNat 32 j = base + BitVec.ofNat 32 ((selOffset sel).toNat + 4 + j) := by
    rw [BitVec.ofNat_add, BitVec.ofNat_add, BitVec.ofNat_toNat, BitVec.setWidth_eq, ← BitVec.add_assoc, ← BitVec.add_assoc]
    rfl
  rw [inTable] at hin
  rw [haddr, descLinear, hplace]
  split at hin
  · next hti =>
    rw [Bool.and_eq_true, decide_eq_true_eq] at hin
    rw [if_pos hti]
    exact .inr ⟨_, by omega, rfl⟩
  · next hti =>
    rw [decide_eq_true_eq] at hin
    rw [if_neg hti]
    exact .inl ⟨_, by omega, rfl⟩

theorem flatRam_accessedPlace {s : State} (h : flatRam s) (d : Desc) :
    accessedPlace d s = .ok (if bit d.hi 8 then [] else consecutive (d.addr + 4) 4) s := by
  rw [accessedPlace]
  split
  · rfl
  · rw [flatRam_linAddrs h]

theorem flatRam_setAccessed {s : State} (h : flatRam s) {sel : Half} {d : Desc} (hd : Found s sel d) :
    ∃ t, setAccessed d s = .ok () t ∧ SegsLoaded s t ∧ t.segs = s.segs := by
  have hplaces : accessedPlaces [d] s = .ok [if bit d.hi 8 then [] else consecutive (d.addr + 4) 4] s :=
    (bind_of_ok (flatRam_accessedPlace h d)).trans rfl
  refine ⟨_, (bind_of_ok hplaces).trans ((bind_of_ok (flatRam_setBits h _ 0x100)).trans rfl), ⟨rfl, (flatRam_store h _ _).2, fun a ha => ?_⟩, rfl⟩
  refine memStore_read_ne fun p hp hap => ha ?_
  split at hp
  · exact absurd hp List.not_mem_nil
  · exact hap ▸ inTables_of_found hd hp

/-- A segment register loaded from a descriptor that was found (R241). -/
theorem flatRam_loadSeg {s : State} (h : flatRam s) {sel : Half} {d : Desc} (hd : Found s sel d) (sr : SReg) :
    ∃ t, (do setAccessed d; setSeg sr (d.accessed.toSeg sel) : M Unit) s = .ok () t ∧ SegsLoaded s t ∧
      t.segs = s.segs.set sr (d.accessed.toSeg sel) := by
  obtain ⟨u, hu, hload, hsegs⟩ := flatRam_setAccessed h hd
  refine ⟨{ u with segs := u.segs.set sr (d.accessed.toSeg sel) }, (bind_of_ok hu).trans rfl, hload.trans (.setSegs (hload.flat h) _), ?_⟩
  rw [← hsegs]

/-! ## The data segment registers -/

/-- One data segment register (R1332). -/
def loadOne (sr : SReg) (sel : Half) (d : Option Desc) : M Unit := do
  let s ← get
  match d with
  | some d =>
    setAccessed d
    setSeg sr (d.accessed.toSeg sel)
  | none => setSeg sr ((s.segs.get sr).null sel)

theorem loadEach_cons (sr : SReg) (sel : Half) (d : Option Desc) (l : List (SReg × Half × Option Desc)) :
    loadEach ((sr, sel, d) :: l) = (do loadOne sr sel d; loadEach l) := by
  rw [loadEach, loadOne]
  cases d <;> simp only [bind_assoc]

theorem flatRam_loadOne {s : State} (h : flatRam s) (sr : SReg) (sel : Half) {x : Option Desc} (hx : ∀ d, x = some d → Found s sel d) :
    ∃ t g, loadOne sr sel x s = .ok () t ∧ SegsLoaded s t ∧ t.segs = s.segs.set sr g ∧ g.sel = sel := by
  cases x with
  | none => exact ⟨_, (s.segs.get sr).null sel, rfl, .setSegs h _, rfl, rfl⟩
  | some d =>
    obtain ⟨t, ht, hload, hsegs⟩ := flatRam_loadSeg h (hx d rfl) sr
    exact ⟨t, _, ht, hload, hsegs, rfl⟩

theorem checkEach_ok {ds : List (SReg × Half × Option Desc)} {ok : Half → Option Desc → Bool} {els : Half → M Unit}
    (hels : ∀ sel s u, els sel s ≠ .ok () u) {s t : State} (h : checkEach ds ok els s = .ok () t) : t = s := by
  induction ds with
  | nil => cases h; rfl
  | cons e ds ih =>
    obtain ⟨_, sel, d⟩ := e
    rw [checkEach, require_bind_eq_ok (hels sel s)] at h
    exact ih h.2

/-- Steps 14 to 17 (R1332). -/
def segsData (t : TaskImage) : M Unit := do
  let dsd ← lookDesc t.ds
  let esd ← lookDesc t.es
  let fsd ← lookDesc t.fs
  let gsd ← lookDesc t.gs
  let l : List (SReg × Half × Option Desc) := [(.ds, t.ds, dsd), (.es, t.es, esd), (.fs, t.fs, fsd), (.gs, t.gs, gsd)]
  checkEach l (fun _ d => d.any fun d => d.readable) (fun sel => ts (selCode sel))
  checkEach l (fun _ d => d.any fun d => d.p) (fun sel => np (selCode sel))
  checkEach l (fun sel d => d.any fun d => d.conforming || !d.dpl.ult (maxPl (rpl t.cs) (rpl sel))) (fun sel => ts (selCode sel))
  loadEach l

/-- The data segment registers hold the new task's selectors, CS and SS are as they were. -/
def DataLoaded (t : TaskImage) (g g' : Segs) : Prop :=
  g'.ds.sel = t.ds ∧ g'.es.sel = t.es ∧ g'.fs.sel = t.fs ∧ g'.gs.sel = t.gs ∧ g'.cs = g.cs ∧ g'.ss = g.ss

theorem segsData_ok {t : TaskImage} {s u : State} (hs : flatRam s) (h : segsData t s = .ok () u) :
    SegsLoaded s u ∧ DataLoaded t s.segs u.segs := by
  obtain ⟨dsd, s1, hds, h1⟩ := bind_eq_ok.mp h
  obtain ⟨rfl, fds⟩ := lookDesc_ok hs hds
  obtain ⟨esd, s2, hes, h2⟩ := bind_eq_ok.mp h1
  obtain ⟨rfl, fes⟩ := lookDesc_ok hs hes
  obtain ⟨fsd, s3, hfs, h3⟩ := bind_eq_ok.mp h2
  obtain ⟨rfl, ffs⟩ := lookDesc_ok hs hfs
  obtain ⟨gsd, s4, hgs, h4⟩ := bind_eq_ok.mp h3
  obtain ⟨rfl, fgs⟩ := lookDesc_ok hs hgs
  obtain ⟨_, s5, h14, h5⟩ := bind_eq_ok.mp h4
  obtain rfl := checkEach_ok (fun _ => ts_ne_ok _) h14
  obtain ⟨_, s6, h16, h6⟩ := bind_eq_ok.mp h5
  obtain rfl := checkEach_ok (fun _ => np_ne_ok _) h16
  obtain ⟨_, s7, h17, h7⟩ := bind_eq_ok.mp h6
  obtain rfl := checkEach_ok (fun _ => ts_ne_ok _) h17
  obtain ⟨u1, g1, r1, l1, e1, k1⟩ := flatRam_loadOne hs .ds t.ds fds
  obtain ⟨u2, g2, r2, l2, e2, k2⟩ := flatRam_loadOne (l1.flat hs) .es t.es fun d hd => l1.found (fes d hd)
  have l12 := l1.trans l2
  obtain ⟨u3, g3, r3, l3, e3, k3⟩ := flatRam_loadOne (l12.flat hs) .fs t.fs fun d hd => l12.found (ffs d hd)
  have l13 := l12.trans l3
  obtain ⟨u4, g4, r4, l4, e4, k4⟩ := flatRam_loadOne (l13.flat hs) .gs t.gs fun d hd => l13.found (fgs d hd)
  rw [loadEach_cons, loadEach_cons, loadEach_cons, loadEach_cons, bind_of_ok r1, bind_of_ok r2, bind_of_ok r3, bind_of_ok r4] at h7
  cases h7
  refine ⟨l13.trans l4, ?_⟩
  rw [e4, e3, e2, e1]
  exact ⟨k1, k2, k3, k4, rfl, rfl⟩

end Sys2Proof.Laws

end
end

section
/-! The end of a task switch, in RAM without paging: CS, SS, LDTR, the error code (61_tasks.md R1332, 60_exceptions.md R1215). -/

noncomputable section

namespace Sys2Proof.Laws

open Sys2Proof Sys2Proof.Machine Sys2Proof.Claims

/-! ## CS and SS -/

/-- Steps 13 to 17 (R1332). -/
def segsStack (t : TaskImage) (ssd : Option Desc) : M Unit := do
  require (rpl t.ss == rpl t.cs) (ts (selCode t.ss))
  match ssd with
  | none => pure ()
  | some d =>
    setAccessed d
    setSeg .ss (d.accessed.toSeg t.ss)
  segsData t

/-- Steps 10 to 17 (R1332). -/
def segsCode (t : TaskImage) (csd ssd : Option Desc) : M Unit := do
  let s ← get
  require (!s.ldtr.usable || s.ldtr.attr.p) (ts (selCode t.ldt))
  match csd with
  | none => ts (selCode t.cs)
  | some d =>
    require d.isCode (ts (selCode t.cs))
    require d.p (np (selCode t.cs))
    setAccessed d
    setSeg .cs (d.accessed.toSeg t.cs)
  segsStack t ssd

theorem taskSegs_eq (t : TaskImage) : taskSegs t = (do
    let csd ← lookDesc t.cs
    match csd with
    | some d => require (!d.isCode || (if d.conforming then !(rpl t.cs).ult d.dpl else d.dpl == rpl t.cs)) (ts (selCode t.cs))
    | none => pure ()
    let ssd ← lookDesc t.ss
    match ssd with
    | none => ts (selCode t.ss)
    | some d =>
      require d.writable (ts (selCode t.ss))
      require d.p (sf (selCode t.ss))
      require (d.dpl == rpl t.cs) (ts (selCode t.ss))
    segsCode t csd ssd : M Unit) := by
  unfold taskSegs segsCode segsStack segsData
  rfl

/-- The segment registers hold the new task's selectors. -/
def SelectorsLoaded (t : TaskImage) (g : Segs) : Prop :=
  g.cs.sel = t.cs ∧ g.ss.sel = t.ss ∧ g.ds.sel = t.ds ∧ g.es.sel = t.es ∧ g.fs.sel = t.fs ∧ g.gs.sel = t.gs

/-- What follows a loaded segment register. -/
theorem segLoaded_bind {d : Desc} {sr : SReg} {sel : Half} {rest : M Unit} {s v u : State}
    (hv : (do setAccessed d; setSeg sr (d.accessed.toSeg sel) : M Unit) s = .ok () v)
    (h : (do setAccessed d; setSeg sr (d.accessed.toSeg sel); rest : M Unit) s = .ok () u) : rest v = .ok () u := by
  obtain ⟨_, x, hx, h1⟩ := bind_eq_ok.mp h
  rw [bind_of_ok hx] at hv
  rw [bind_of_ok hv] at h1
  exact h1

theorem segsStack_ok {t : TaskImage} {s u : State} {d : Desc} (hs : flatRam s) (hd : Found s t.ss d) (hcs : s.segs.cs.sel = t.cs)
    (h : segsStack t (some d) s = .ok () u) : SegsLoaded s u ∧ SelectorsLoaded t u.segs := by
  rw [segsStack, require_bind_eq_ok (ts_ne_ok _ _)] at h
  obtain ⟨-, hload⟩ := h
  obtain ⟨v, hv, hsv, hsegs⟩ := flatRam_loadSeg hs hd .ss
  have hrest : segsData t v = .ok () u := segLoaded_bind hv hload
  obtain ⟨hvu, hds, hes, hfs, hgs, hcs', hss'⟩ := segsData_ok (hsv.flat hs) hrest
  refine ⟨hsv.trans hvu, ?_, ?_, hds, hes, hfs, hgs⟩
  · rw [hcs', hsegs]
    exact hcs
  · rw [hss', hsegs]
    rfl

theorem segsCode_ok {t : TaskImage} {s u : State} {csd : Option Desc} {sd : Desc} (hs : flatRam s) (hcd : ∀ d, csd = some d → Found s t.cs d)
    (hsd : Found s t.ss sd) (h : segsCode t csd (some sd) s = .ok () u) : SegsLoaded s u ∧ SelectorsLoaded t u.segs := by
  rw [segsCode, get_bind, require_bind_eq_ok (ts_ne_ok _ _)] at h
  obtain ⟨-, hcode⟩ := h
  cases csd with
  | none => exact nomatch hcode
  | some d =>
    obtain ⟨-, hcode⟩ := (require_bind_eq_ok (ts_ne_ok _ _)).mp hcode
    obtain ⟨-, hload⟩ := (require_bind_eq_ok (np_ne_ok _ _)).mp hcode
    obtain ⟨v, hv, hsv, hsegs⟩ := flatRam_loadSeg hs (hcd d rfl) .cs
    have hrest : segsStack t (some sd) v = .ok () u := segLoaded_bind hv hload
    obtain ⟨hvu, hsel⟩ := segsStack_ok (hsv.flat hs) (hsv.found hsd) (by rw [hsegs]; rfl) hrest
    exact ⟨hsv.trans hvu, hsel⟩

theorem taskSegs_ok {t : TaskImage} {s u : State} (hs : flatRam s) (h : taskSegs t s = .ok () u) :
    SegsLoaded s u ∧ SelectorsLoaded t u.segs := by
  rw [taskSegs_eq] at h
  obtain ⟨csd, s1, hlook, h1⟩ := bind_eq_ok.mp h
  obtain ⟨rfl, hcd⟩ := lookDesc_ok hs hlook
  have hstack : ∃ ssd, lookDesc t.ss s1 = .ok ssd s1 ∧ ∃ d, ssd = some d ∧ segsCode t csd ssd s1 = .ok () u := by
    have hnext : (do
        let ssd ← lookDesc t.ss
        match ssd with
        | none => ts (selCode t.ss)
        | some d =>
          require d.writable (ts (selCode t.ss))
          require d.p (sf (selCode t.ss))
          require (d.dpl == rpl t.cs) (ts (selCode t.ss))
        segsCode t csd ssd : M Unit) s1 = .ok () u := by
      cases csd with
      | none => exact h1
      | some d => exact ((require_bind_eq_ok (ts_ne_ok _ _)).mp h1).2
    obtain ⟨ssd, s2, hlook', h2⟩ := bind_eq_ok.mp hnext
    obtain ⟨rfl, -⟩ := lookDesc_ok hs hlook'
    refine ⟨ssd, hlook', ?_⟩
    cases ssd with
    | none => exact nomatch h2
    | some d =>
      obtain ⟨-, h3⟩ := (require_bind_eq_ok (ts_ne_ok _ _)).mp h2
      obtain ⟨-, h4⟩ := (require_bind_eq_ok (sf_ne_ok _ _)).mp h3
      exact ⟨d, rfl, ((require_bind_eq_ok (ts_ne_ok _ _)).mp h4).2⟩
  obtain ⟨ssd, hlook', d, rfl, hcode⟩ := hstack
  exact segsCode_ok hs hcd ((lookDesc_ok hs hlook').2 d rfl) hcode

/-! ## LDTR -/

theorem taskLdt_ok {sel : Half} {s u : State} (hs : flatRam s) (h : taskLdt sel s = .ok () u) : ∃ l : Seg, u = { s with ldtr := l } ∧ l.sel = sel := by
  rw [taskLdt, get_bind] at h
  split at h
  · cases h
    exact ⟨_, rfl, rfl⟩
  · have hflat (l : Seg) : flatRam { s with ldtr := l } := hs
    obtain ⟨-, h1⟩ := (require_bind_eq_ok (ts_ne_ok _ _)).mp h
    obtain ⟨d, v, hread, h2⟩ := bind_eq_ok.mp h1
    obtain ⟨rfl, -⟩ := readDesc_ok (hflat _) (ts_ne_ok _ _) hread
    obtain ⟨-, h3⟩ := (require_bind_eq_ok (ts_ne_ok _ _)).mp h2
    cases h3
    exact ⟨_, rfl, rfl⟩

/-! ## The error code -/

/-- The state differs in the breakpoints noted. -/
def OnlyHits (s t : State) : Prop := t = { s with cur := { s.cur with hits := t.cur.hits, trap := t.cur.trap } }

theorem noteBreaks_onlyHits (a k : Nat) (ok : BitVec 2 → Bool) (s : State) : ∃ t, noteBreaks a k ok s = .ok () t ∧ OnlyHits s t := by
  obtain ⟨c, hc, -⟩ := noteBreaks_matched a k ok s
  have := noteBreaks_checksOnly a k ok hc
  exact ⟨_, hc, this⟩

theorem noteRange_onlyHits (size a n : Nat) (ok : BitVec 2 → Bool) (s : State) : ∃ t, noteRange size a n ok s = .ok () t ∧ OnlyHits s t := by
  obtain ⟨t, ht, hst⟩ := noteBreaks_onlyHits a (min n (size - a)) ok s
  rw [noteRange, bind_of_ok ht]
  split
  · exact ⟨t, rfl, hst⟩
  · obtain ⟨u, hu, htu⟩ := noteBreaks_onlyHits 0 (n - min n (size - a)) ok t
    exact ⟨u, hu, by rw [OnlyHits, htu, hst]⟩

theorem alignment_ne_ok (s u : State) : (raise 17 (some 0) : M Unit) s ≠ .ok () u := fun h => nomatch h

theorem access_onlyHits {sz : Size} {sr : SReg} {off : Word} {n al : Nat} {k : Kind} {s t : State} {ps : List Word} (hs : flatRam s)
    (h : access sz sr off n al k s = .ok ps t) : OnlyHits s t := by
  obtain ⟨⟨lin, qs⟩, u, hcheck, hnote⟩ := bind_eq_ok.mp h
  have hu : u = s := by
    obtain ⟨lin', v, hlin, h1⟩ := bind_eq_ok.mp hcheck
    obtain ⟨-, -, rfl⟩ := segLinear_eq_ok.mp hlin
    rw [get_bind, bind_of_ok (flatRam_linAddrs hs ..), require_bind_eq_ok (alignment_ne_ok _)] at h1
    cases h1.2
    rfl
  subst hu
  obtain ⟨v, hv, hhits⟩ := noteRange_onlyHits (2 ^ 32) lin.toNat n (dataBreak k) u
  obtain ⟨_, w, hnote', hret⟩ := bind_eq_ok.mp hnote
  cases hv.symm.trans hnote'
  cases hret
  exact hhits

theorem withSp_get_ne (s : State) (v : Word) {r : Reg} (hr : r ≠ .esp) : (withSp s v).regs.get r = s.regs.get r := by
  rw [withSp_regs]
  cases s.ss
  · exact gregs_get_set_ne _ _ _ _ hr
  · exact gregs_get_set_ne _ _ _ _ hr

/-- A push changes (E)SP, memory and the breakpoints noted (R220). -/
theorem push_ok_flat {n v : Nat} {s t : State} (hs : flatRam s) (h : push n v s = .ok () t) :
    t = { s with regs := t.regs, mem := t.mem, cur := { s.cur with hits := t.cur.hits, trap := t.cur.trap } } ∧
      ∀ r : Reg, r ≠ .esp → t.regs.get r = s.regs.get r := by
  rw [push, pushList, get_bind] at h
  obtain ⟨slots, s1, hslots, h1⟩ := bind_eq_ok.mp h
  obtain ⟨ps, s2, haccess, h2⟩ := bind_eq_ok.mp hslots
  have hhits := access_onlyHits hs haccess
  cases h2
  have hflat : flatRam s1 := by
    rw [hhits]
    exact hs
  rw [show storeAll [ps] [v] = (do store ps v; pure () : M Unit) from rfl] at h1
  have hstore := (bind_of_ok (f := fun _ => (pure () : M Unit)) (flatRam_store hflat ps v).1)
  rw [bind_of_ok (hstore.trans rfl), setSp_run] at h1
  cases h1
  rw [hhits]
  exact ⟨rfl, fun r hr => withSp_get_ne _ _ hr⟩

/-! ## The end of the switch -/

/-- Steps 11 to 18 of a task switch (R1332, R1215). -/
structure Finished (t : TaskImage) (err : Option Word) (s u : State) : Prop where
  only : u = { s with regs := u.regs, segs := u.segs, ldtr := u.ldtr, mem := u.mem, cur := { s.cur with hits := u.cur.hits, trap := u.cur.trap } }
  ldt : u.ldtr.sel = t.ldt
  sels : SelectorsLoaded t u.segs
  regs : ∀ r : Reg, r ≠ .esp ∨ err = none → u.regs.get r = s.regs.get r
  limit : u.eip.toNat ≤ u.segs.cs.limit.toNat
  frame : err = none → ∀ a, ¬ inTables u a → byteAt u a = byteAt s a

/-- The segment registers of the new task, in virtual-8086 mode or not (R1332). -/
def taskSegments (t : TaskImage) (fl : Flags) : M Unit :=
  if fl.vm then do
    let s ← get
    require (!s.ldtr.usable || s.ldtr.attr.p) (ts (selCode t.ldt))
    modify fun s => { s with segs := { es := .ofV86 t.es, cs := .ofV86 t.cs, ss := .ofV86 t.ss,
                                       ds := .ofV86 t.ds, fs := .ofV86 t.fs, gs := .ofV86 t.gs } }
  else taskSegs t

/-- The error code and the limit of CS (R1215). -/
def taskPush (wide : Bool) (err : Option Word) : M Unit := do
  match err with
  | some c => push (if wide then 4 else 2) c.toNat
  | none => pure ()
  let s ← get
  require (decide (s.eip.toNat ≤ s.segs.cs.limit.toNat)) (gp 0)

theorem taskFinish_eq (t : TaskImage) (fl : Flags) (wide : Bool) (err : Option Word) : taskFinish t fl wide err = (do
    taskLdt t.ldt
    taskSegments t fl
    taskPush wide err : M Unit) := by
  unfold taskFinish taskSegments taskPush
  cases fl.vm
  · rfl
  · simp only [if_true, bind_assoc] <;> rfl

theorem taskSegments_ok {t : TaskImage} {fl : Flags} {s u : State} (hs : flatRam s) (h : taskSegments t fl s = .ok () u) :
    SegsLoaded s u ∧ SelectorsLoaded t u.segs := by
  rw [taskSegments] at h
  split at h
  · rw [get_bind, require_bind_eq_ok (ts_ne_ok _ _)] at h
    obtain ⟨-, hset⟩ := h
    cases hset
    exact ⟨.setSegs hs _, rfl, rfl, rfl, rfl, rfl, rfl⟩
  · exact taskSegs_ok hs h

theorem taskPush_ok {wide : Bool} {err : Option Word} {s u : State} (hs : flatRam s) (h : taskPush wide err s = .ok () u) :
    u = { s with regs := u.regs, mem := u.mem, cur := { s.cur with hits := u.cur.hits, trap := u.cur.trap } } ∧
      (∀ r : Reg, r ≠ .esp ∨ err = none → u.regs.get r = s.regs.get r) ∧ u.eip.toNat ≤ u.segs.cs.limit.toNat ∧ (err = none → u.mem = s.mem) := by
  cases err with
  | none =>
    replace h : (do let s ← get; require (decide (s.eip.toNat ≤ s.segs.cs.limit.toNat)) (gp 0) : M Unit) s = .ok () u := h
    rw [get_bind, require_eq_ok (gp_ne_ok _ _), decide_eq_true_eq] at h
    obtain ⟨hlim, rfl⟩ := h
    exact ⟨rfl, fun _ _ => rfl, hlim, fun _ => rfl⟩
  | some c =>
    replace h : (do
      push (if wide then 4 else 2) c.toNat
      let s ← get
      require (decide (s.eip.toNat ≤ s.segs.cs.limit.toNat)) (gp 0) : M Unit) s = .ok () u := h
    obtain ⟨_, v, hpush, hend⟩ := bind_eq_ok.mp h
    obtain ⟨hv, hregs⟩ := push_ok_flat hs hpush
    rw [get_bind, require_eq_ok (gp_ne_ok _ _), decide_eq_true_eq] at hend
    obtain ⟨hlim, rfl⟩ := hend
    exact ⟨hv, fun r hr => hregs r (hr.resolve_right (by simp)), hlim, fun hno => nomatch hno⟩

theorem taskFinish_ok {t : TaskImage} {fl : Flags} {wide : Bool} {err : Option Word} {s u : State} (hs : flatRam s)
    (h : taskFinish t fl wide err s = .ok () u) : Finished t err s u := by
  rw [taskFinish_eq] at h
  obtain ⟨_, x, hldt, h1⟩ := bind_eq_ok.mp h
  obtain ⟨_, y, hsegs, hpush⟩ := bind_eq_ok.mp h1
  obtain ⟨l, rfl, hsel⟩ := taskLdt_ok hs hldt
  have hx : flatRam { s with ldtr := l } := hs
  obtain ⟨hload, hsels⟩ := taskSegments_ok hx hsegs
  obtain ⟨hu, hregs, hlim, hmem⟩ := taskPush_ok (hload.flat hx) hpush
  have hyl : y.ldtr = l := by rw [hload.only]
  have hul : u.ldtr = l := by rw [hu, hyl]
  have hug : u.segs = y.segs := by rw [hu]
  refine ⟨?_, by rw [hul, hsel], by rw [hug]; exact hsels, fun r hr => ?_, hlim, fun herr a ha => ?_⟩
  · rw [hu, hload.only]
  · rw [hregs r hr, hload.only]
  · have htables : inTables u = inTables { s with ldtr := l } := by
      rw [hu]
      exact hload.inTables_eq
    have := hload.frame a (by rw [← htables]; exact ha)
    rw [byteAt, hmem herr]
    exact this

end Sys2Proof.Laws

end
end

section
/-! The new task's registers after a task switch, in RAM without paging (61_tasks.md R1325 to R1333). -/

noncomputable section

namespace Sys2Proof.Laws

open Sys2Proof Sys2Proof.Machine Sys2Proof.Claims

/-! ## Fields of the new TSS -/

theorem memNat_lt (s : State) (a : Word) (n : Nat) : memNat s a n < 256 ^ n := by
  rw [memNat_eq]
  induction n generalizing a with
  | zero => exact Nat.one_pos
  | succ n ih =>
    have := ih (a + 1)
    have hbyte := (Memory.read s.mem a.toNat).isLt
    rw [consecutive, memLoad, pow_succ]
    omega

theorem taskSize_lt (wide : Bool) : taskSize wide ≤ 2 ^ 32 := by cases wide <;> decide

/-- A field behind LINK, as memory held it after the save (R1330). -/
theorem fieldAt_task {v : State} {m' : List Host.Cell} {lin : Word} (h : LinkOnly lin v.mem m') {wide : Bool} {off k : Nat} (hoff : 2 ≤ off)
    (hk : off + k ≤ taskSize wide) : fieldAt (memBytes m' lin (taskSize wide)) off k = memNat v (lin + BitVec.ofNat 32 off) k := by
  rw [fieldAt_memBytes m' lin hk, memLoad_linkOnly h hoff (hk.trans (taskSize_lt wide)), memNat_eq]

theorem mergeLow16_low (old : Word) (v : Half) : (mergeLow16 old v).toNat % 2 ^ 16 = v.toNat := by
  have := v.isLt
  rw [mergeLow16, BitVec.toNat_append, Nat.shiftLeft_eq, ← Nat.shiftLeft_eq, ← Nat.shiftLeft_add_eq_or_of_lt this, Nat.shiftLeft_eq]
  omega

theorem mergeLow16_high (old : Word) (v : Half) : (mergeLow16 old v).toNat / 2 ^ 16 = old.toNat / 2 ^ 16 := by
  have hv := v.isLt
  have hold := old.isLt
  rw [mergeLow16, BitVec.toNat_append, ← Nat.shiftLeft_add_eq_or_of_lt hv, Nat.shiftLeft_eq, BitVec.extractLsb'_toNat, Nat.shiftRight_eq_div_pow]
  omega

theorem taskImage_reg_wide (s : State) (bs : List Byte) (r : Reg) :
    (taskImage s true bs).regs.get r = BitVec.ofNat 32 (fieldAt bs (0x28 + 4 * r.num.toNat) 4) := by
  cases r <;> rfl

theorem taskImage_reg_narrow (s : State) (bs : List Byte) (r : Reg) :
    (taskImage s false bs).regs.get r = mergeLow16 (s.regs.get r) (BitVec.ofNat 16 (fieldAt bs (0x12 + 2 * r.num.toNat) 2)) := by
  cases r <;> rfl

/-! ## The registers -/

theorem taskFlags_eq (k : Switch) (t : TaskImage) :
    taskFlags k t = { Flags.ofWord t.eflags with nt := (Flags.ofWord t.eflags).nt || k == .call || k == .intr } := by
  have hnests : (k == .call || k == .intr) = k.nests := by cases k <;> rfl
  rw [Bool.or_assoc, hnests, taskFlags]
  cases k.nests <;> simp

/-- The registers of the new task before its segment registers are loaded. -/
structure Registers (s : State) (k : Switch) (wide : Bool) (img : TaskImage) (x : State) : Prop where
  eip : x.eip = img.eip
  flags : x.flags = taskFlags k img
  regs : x.regs = img.regs
  bt : x.cur.bt = img.t
  cpl : x.cpl = if (taskFlags k img).vm then 3 else rpl img.cs

theorem memNat_word (v : State) (a : Word) {n : Nat} (hn : n ≤ 4) : (BitVec.ofNat 32 (memNat v a n)).toNat = memNat v a n := by
  have hlt := memNat_lt v a n
  have hmax : 256 ^ n ≤ 256 ^ 4 := Nat.pow_le_pow_right (by decide) hn
  rw [BitVec.toNat_ofNat, Nat.mod_eq_of_lt (by omega)]

theorem memNat_half (v : State) (a : Word) : (BitVec.ofNat 16 (memNat v a 2)).toNat = memNat v a 2 := by
  exact Nat.mod_eq_of_lt (memNat_lt v a 2)

theorem taskLevel_toNat (vm : Bool) (sel : Half) : (if vm then 3 else rpl sel : BitVec 2).toNat = if vm then 3 else sel.toNat % 4 := by
  cases vm
  · exact rpl_toNat sel
  · rfl

theorem taskLoaded_of_finished {s v x t : State} {d : Desc} {k : Switch} {err : Option Word} {m' : List Host.Cell} (hlink : LinkOnly d.base v.mem m')
    (hx : Registers s k (bit d.typ 3) (taskImage s (bit d.typ 3) (memBytes m' d.base (taskSize (bit d.typ 3)))) x)
    (ht : Finished (taskImage s (bit d.typ 3) (memBytes m' d.base (taskSize (bit d.typ 3)))) err x t) : TaskLoaded s v d k err t := by
  obtain ⟨heip, hflags, hregs, hbt, hcpl⟩ := hx
  obtain ⟨honly, hldt, ⟨hcs, hss, hds, hes, hfs, hgs⟩, hr, -, -⟩ := ht
  have hfield {off n : Nat} := fieldAt_task (off := off) (k := n) hlink (wide := bit d.typ 3)
  have teip : t.eip = x.eip := by rw [honly]
  have tflags : t.flags = x.flags := by rw [honly]
  have tbt : t.cur.bt = x.cur.bt := by rw [honly]
  have tcpl : t.cpl = x.cpl := by rw [honly]
  rw [hregs] at hr
  unfold TaskLoaded
  rw [teip, tflags, tbt, tcpl, heip, hflags, hbt, hcpl, hldt, hcs, taskFlags_eq, show d.typ.getLsbD 3 = bit d.typ 3 from rfl]
  generalize bit d.typ 3 = wide at *
  generalize memBytes m' d.base (taskSize wide) = bs at *
  have hhalf {off : Nat} (hoff : 2 ≤ off) (hn : off + 2 ≤ taskSize wide) :
      BitVec.ofNat 16 (fieldAt bs off 2) = BitVec.ofNat 16 (memNat v (d.base + BitVec.ofNat 32 off) 2) := congrArg _ (hfield hoff hn)
  cases wide with
  | true =>
    have hword {off : Nat} (hoff : 2 ≤ off) (hn : off + 4 ≤ 0x68) :
        BitVec.ofNat 32 (fieldAt bs off 4) = BitVec.ofNat 32 (memNat v (d.base + BitVec.ofNat 32 off) 4) := congrArg _ (hfield hoff hn)
    have hfl : (taskImage s true bs).eflags = BitVec.ofNat 32 (memNat v (d.base + BitVec.ofNat 32 0x24) 4) := hword (by decide) (by decide)
    refine ⟨?_, by rw [hfl]; rfl, fun r hne => ?_, ?_, ?_, hhalf (by decide) (by decide), ?_, ?_⟩
    · exact (congrArg BitVec.toNat (hword (by decide) (by decide))).trans (memNat_word v _ (by decide))
    · have := r.num.isLt
      rw [hr r hne, taskImage_reg_wide, hword (by omega) (by omega)]
      exact memNat_word v _ (by decide)
    · simp only [List.forall_mem_cons]
      exact ⟨hes.trans (hhalf (by decide) (by decide)), hcs.trans (hhalf (by decide) (by decide)), hss.trans (hhalf (by decide) (by decide)),
        hds.trans (hhalf (by decide) (by decide)), fun _ h => nomatch h⟩
    · simp only [List.forall_mem_cons]
      exact ⟨hfs.trans (hhalf (by decide) (by decide)), hgs.trans (hhalf (by decide) (by decide)), fun _ h => nomatch h⟩
    · exact congrArg (fun x : Half => bit x 0) (hhalf (by decide) (by decide))
    · rw [hfl]
      exact taskLevel_toNat _ _
  | false =>
    have hword {off : Nat} (hoff : 2 ≤ off) (hn : off + 2 ≤ 0x2C) :
        BitVec.ofNat 32 (fieldAt bs off 2) = BitVec.ofNat 32 (memNat v (d.base + BitVec.ofNat 32 off) 2) := congrArg _ (hfield hoff hn)
    have hfl : (taskImage s false bs).eflags = BitVec.ofNat 32 (memNat v (d.base + BitVec.ofNat 32 0x10) 2) := hword (by decide) (by decide)
    refine ⟨?_, by rw [hfl]; rfl, fun r hne => ?_, ?_, ?_, hhalf (by decide) (by decide), rfl, ?_⟩
    · exact (congrArg BitVec.toNat (hword (by decide) (by decide))).trans (memNat_word v _ (by decide))
    · have := r.num.isLt
      rw [hr r hne, taskImage_reg_narrow, hhalf (by omega) (show _ ≤ 0x2C by omega)]
      exact ⟨(mergeLow16_low _ _).trans (memNat_half v _), mergeLow16_high _ _⟩
    · simp only [List.forall_mem_cons]
      exact ⟨hes.trans (hhalf (by decide) (by decide)), hcs.trans (hhalf (by decide) (by decide)), hss.trans (hhalf (by decide) (by decide)),
        hds.trans (hhalf (by decide) (by decide)), fun _ h => nomatch h⟩
    · simp only [List.forall_mem_cons]
      exact ⟨hfs, hgs, fun _ h => nomatch h⟩
    · rw [hfl]
      exact taskLevel_toNat _ _

/-! ## The whole switch -/

/-- Without paging CR3 stays (R1330). -/
theorem taskRegisters_pg {u : State} (h : u.pg = false) (img : TaskImage) (fl : Flags) (wide : Bool) : taskRegisters img fl wide u =
    { u with
      flags := fl, eip := img.eip, regs := img.regs, cpl := if fl.vm then 3 else rpl img.cs
      dr := { u.dr with dr7 := u.dr.dr7 &&& 0xFFFFFFAA }
      segs := { es := u.segs.es.pending img.es, cs := u.segs.cs.pending img.cs, ss := u.segs.ss.pending img.ss,
                ds := u.segs.ds.pending img.ds, fs := u.segs.fs.pending img.fs, gs := u.segs.gs.pending img.gs }
      cur := { u.cur with bt := img.t } } := by
  rw [taskRegisters, h, Bool.and_false]
  rfl

theorem taskLoad_ok {s u t : State} {k : Switch} {wide : Bool} {err : Option Word} {bs : List Byte} (hs : s.pg = false) (hu : flatRam u)
    (h : taskLoad s k wide err bs none u = .ok () t) :
    Finished (taskImage s wide bs) err (taskRegisters (taskImage s wide bs) (taskFlags k (taskImage s wide bs)) wide u) t := by
  have hflat (img : TaskImage) (fl : Flags) : flatRam (taskRegisters img fl wide u) := by
    obtain ⟨hpe, hpg, hmap, hwf⟩ := hu
    exact ⟨hpe, hpg, hmap, hwf⟩
  have hfinish : taskFinish (taskImage s wide bs) (taskFlags k (taskImage s wide bs)) wide err
      (taskRegisters (taskImage s wide bs) (taskFlags k (taskImage s wide bs)) wide u) = .ok () t := by
    rw [← h, taskLoad, hs, Bool.and_false]
    rfl
  exact taskFinish_ok (hflat _ _) hfinish

theorem flatRam_committed {s : State} (h : flatRam s) (sel : Half) (d : Desc) : flatRam (taskCommitted sel d s) := by
  obtain ⟨hpe, hpg, hmap, hwf⟩ := h
  refine ⟨?_, ?_, hmap, hwf⟩
  · simpa [State.pe, taskCommitted, bit] using hpe
  · simpa [State.pg, taskCommitted, bit] using hpg

theorem withLink_flat {v : State} (h : flatRam v) (k : Switch) (d : Desc) (old : Half) : flatRam (withLink k d old v) := by
  rw [withLink]
  split
  · exact flatRam_mem h _ _
  · exact h

theorem withLink_stored {v : State} (h : flatRam v) (k : Switch) (d : Desc) (old : Half) :
    if k = .call ∨ k = .intr then Stored (consecutive d.base 2) old.toNat v (withLink k d old v) else withLink k d old v = v := by
  have hnests : (k = .call ∨ k = .intr) ↔ k.nests = true := by cases k <;> simp [Switch.nests]
  rw [withLink]
  by_cases hk : k.nests = true
  · rw [if_pos (hnests.mpr hk), if_pos hk]
    exact flatRam_stored h _ _
  · rw [if_neg (mt hnests.mp hk), if_neg hk]

theorem withLink_only (k : Switch) (d : Desc) (old : Half) (v : State) : withLink k d old v = { v with mem := (withLink k d old v).mem } := by
  rw [withLink]
  split <;> rfl

/-- What the save and the commit change (R1328, R1329, R1331). -/
def Committed (sel : Half) (d : Desc) (s u : State) : Prop :=
  u = { s with mem := u.mem, draws := u.draws, cur := u.cur, tr := segOf { d with hi := d.hi ||| 0x200 } sel, cr := { s.cr with cr0 := s.cr.cr0 ||| 8 } }

theorem committed_of_saved {sel : Half} {k : Switch} {d : Desc} {old : Half} {s v u : State} (hv : v = { s with draws := v.draws, mem := v.mem })
    (hu : OnlyDraws (taskCommitted sel d (withLink k d old v)) u) : Committed sel d s u := by
  have hw : withLink k d old v = { s with draws := v.draws, mem := (withLink k d old v).mem } := by
    rw [withLink_only]
    generalize (withLink k d old v).mem = m
    rw [hv]
  rw [hw] at hu
  rw [Committed, hu]
  rfl

/-- What the load of the new task changes beside this (R1330, R1332). -/
theorem loaded_only {sel : Half} {d : Desc} {s u t : State} (hu : Committed sel d s u) {fl : Flags} {ip : Word} {pl : BitVec 2}
    {l : Latch}
    (ht : t = { u with
      regs := t.regs, segs := t.segs, ldtr := t.ldtr, mem := t.mem
      flags := fl, eip := ip, cpl := pl, dr := { u.dr with dr7 := u.dr.dr7 &&& 0xFFFFFFAA }
      cur := { l with hits := t.cur.hits, trap := t.cur.trap } }) :
    t = { s with
      regs := t.regs, flags := t.flags, eip := t.eip, segs := t.segs, cpl := t.cpl, ldtr := t.ldtr, mem := t.mem, draws := t.draws, cur := t.cur
      tr := segOf { d with hi := d.hi ||| 0x200 } sel, cr := { s.cr with cr0 := s.cr.cr0 ||| 8 }
      dr := { s.dr with dr7 := s.dr.dr7 &&& 0xFFFFFFAA } } := by
  rw [ht, hu]

/-- A task switch that completes in RAM without paging (R1325, R1328 to R1331). -/
theorem taskSwitch_flat {sel : Half} {k : Switch} {ret : Word} {err : Option Word} {s t : State} (hs : flatRam s)
    (h : taskSwitch sel k ret err s = .ok () t) :
    ∃ d v w, checkTss sel k s = .ok d s ∧ TaskSaved s k ret d v ∧ TaskLoaded s v d k err t ∧
      (if k = .call ∨ k = .intr then Stored (consecutive d.base 2) s.tr.sel.toNat v w else w = v) ∧
      t = { s with
        regs := t.regs, flags := t.flags, eip := t.eip, segs := t.segs, cpl := t.cpl, ldtr := t.ldtr, mem := t.mem, draws := t.draws, cur := t.cur
        tr := segOf { d with hi := d.hi ||| 0x200 } sel, cr := { s.cr with cr0 := s.cr.cr0 ||| 8 }
        dr := { s.dr with dr7 := s.dr.dr7 &&& 0xFFFFFFAA } } ∧
      t.eip.toNat ≤ t.segs.cs.limit.toNat ∧ t.cur.keepRf = true ∧ (err = none → ∀ a, ¬ inTables t a → byteAt t a = byteAt w a) := by
  obtain ⟨d, v, m', u, hcheck, hsaved, hsv, hlink, hdraws, hload⟩ := taskSwitch_saved hs h
  have hv : flatRam v := hsv.flat hs
  have hu : flatRam u := hdraws.flat (flatRam_committed (withLink_flat hv k d _) sel d)
  have hfin := taskLoad_ok hs.2.1 hu hload
  have hpg : u.pg = false := hu.2.1
  have hmem : u.mem = (withLink k d s.tr.sel v).mem := by rw [hdraws]; rfl
  have hkeep : u.cur.keepRf = true := by rw [hdraws]; rfl
  refine ⟨d, v, withLink k d s.tr.sel v, hcheck, hsaved, taskLoaded_of_finished hlink ⟨rfl, rfl, rfl, rfl, rfl⟩ hfin, withLink_stored hv k d _, ?_,
    hfin.limit, ?_, fun herr a ha => (hfin.frame herr a ha).trans ?_⟩
  · have hu : Committed sel d s u := committed_of_saved hsv.1 hdraws
    have honly := hfin.only
    rw [taskRegisters_pg hpg] at honly
    exact loaded_only hu honly
  · rw [hfin.only]
    exact hkeep
  · exact congrArg (Memory.read · a) hmem

end Sys2Proof.Laws

end
end

section
/-! O27: delivery through a gate, and what a completed task switch leaves (60_exceptions.md R1213 to R1215, 61_tasks.md R1325). -/

noncomputable section

namespace Sys2Proof.Laws

open Sys2Proof Sys2Proof.Machine Sys2Proof.Claims

theorem gateItems_same {s : State} {ev : Event} (hvm : s.flags.vm = false) :
    gateItems s ev false = [s.flags.word.toNat, s.segs.cs.sel.toNat, ev.retEip.toNat] ++ ev.code.toList.map fun c => c.toNat := by
  rw [gateItems, State.v86, hvm, Bool.and_false]
  rfl

theorem gateItems_inner {s : State} {ev : Event} (hpe : s.pe = true) : gateItems s ev true =
    (if s.flags.vm then [s.segs.gs.sel.toNat, s.segs.fs.sel.toNat, s.segs.ds.sel.toNat, s.segs.es.sel.toNat] else []) ++
      [s.segs.ss.sel.toNat, s.regs.esp.toNat] ++
      ([s.flags.word.toNat, s.segs.cs.sel.toNat, ev.retEip.toNat] ++ ev.code.toList.map fun c => c.toNat) := by
  rw [gateItems, State.v86, hpe, Bool.true_and]
  rfl

/-- A task gate (R1325). -/
theorem gate_task {ev : Event} {s s1 : State} {g : Desc} (n : Nat) (hpe : s.pe = true) (hidt : s.inSmm = true → s.smm.idtLoaded = true)
    (hroute : deliverProtected ev (begun ev s) = taskSwitch g.gateSel .intr ev.retEip ev.code s1) (t : State) :
    (taskSwitch g.gateSel .intr ev.retEip ev.code s1 = .ok () t → deliver (n + 1) ev s = .next (State.delivered t)) ∧
      ∀ e, taskSwitch g.gateSel .intr ev.retEip ev.code s1 = .error (.exc e) t → GivesUp ev s e t :=
  ⟨fun h => delivers_of_ok hpe hidt n (hroute.trans h), fun _ h => givesUp_of_stop hpe hidt (hroute.trans h)⟩

/-- Settles O27: the delivery by the stages of `deliverProtected` and `enterGate`, the task switch by `taskSwitch_flat`. -/
theorem gateDelivery : Obligations.GateDelivery := by
  unfold Obligations.GateDelivery
  refine ⟨fun ev s hpe hidt => ⟨fun hout => givesUp_of_stop hpe hidt (deliverProtected_beyond hout), ?_⟩, ?_⟩
  · intro n g s1 hin hg
    refine ⟨fun hno => givesUp_of_stop hpe hidt (deliverProtected_noGate hin hg hno),
      fun hadm hp => givesUp_of_stop hpe hidt (deliverProtected_absent hin hg hadm hp), fun hadm hp htask t => ?_, fun hadm hp hcodeGate => ?_⟩
    · have hroute := deliverProtected_gate hin hg hadm hp
      rw [if_pos htask] at hroute
      exact gate_task n hpe hidt hroute t
    · have hroute := deliverProtected_gate hin hg hadm hp
      rw [if_neg hcodeGate] at hroute
      have h1 : OnlyAccess (begun ev s) s1 := readDescAt_checksOnly _ hg
      have hsame : SameSource s s1 := .of_begun h1
      refine ⟨fun e t href => ?_, fun cd s2 hcd hcode hto => ?_⟩
      · exact givesUp_of_stop hpe hidt (hroute.trans (enterGate_refused hsame.tables href))
      · obtain ⟨hv86, hstay, hinner⟩ := gate_code n hpe hidt (hroute.trans (enterGate_code hsame.tables hcd hcode hto)) h1
          (onlyAccess_of_named hcd) hcode.2
        refine ⟨hv86, fun hvm => ?_, ?_⟩
        · rw [← gateItems_same hvm]
          exact hstay hvm
        · rw [gateItems_inner hpe] at hinner
          exact hinner
  · intro sel k ret err s t hs h
    obtain ⟨d, v, w, hcheck, hsaved, hloaded, hlinked, honly, hlim, hkeep, hframe⟩ := taskSwitch_flat hs h
    obtain ⟨-, hnamed, hti, hsys, hp, htyp⟩ := checkTss_ok hs hcheck
    have hgdtr : t.gdtr = s.gdtr := by rw [honly]
    refine ⟨d, v, w, hnamed, hti, hsys, hp, htyp, hsaved, hloaded, hlinked, honly, hlim, hkeep, fun herr a hg hl => hframe herr a ?_⟩
    rintro (⟨x, hx, rfl⟩ | ⟨x, hx, rfl⟩)
    · rw [hgdtr] at hx hg
      exact hg x hx rfl
    · exact hl x hx rfl

end Sys2Proof.Laws

end
end

section
/-! The state dump record of system management mode in RAM (63_smm.md R1453, R1454, R1460). -/

noncomputable section

namespace Sys2Proof.Laws

open Sys2Proof Sys2Proof.Machine Sys2Proof.Claims

/-! ## Stores of consecutive bytes -/

theorem toNat_succ {p : Word} (h : p.toNat + 1 < 2 ^ 32) : (p + 1).toNat = p.toNat + 1 := by
  rw [BitVec.toNat_add, show (1 : Word).toNat = 1 from rfl, Nat.mod_eq_of_lt h]

theorem toNat_offset {p : Word} {k : Nat} (h : p.toNat + k < 2 ^ 32) : (p + BitVec.ofNat 32 k).toNat = p.toNat + k := by
  rw [BitVec.toNat_add, BitVec.toNat_ofNat, Nat.add_mod_mod, Nat.mod_eq_of_lt h]

/-- A byte outside the ones stored. -/
theorem memStore_outside {m : List Host.Cell} {p : Word} {n : Nat} (hp : p.toNat + n ≤ 2 ^ 32) (v : Nat) {x : Nat}
    (hx : x < p.toNat ∨ p.toNat + n ≤ x) : Memory.read (memStore m (consecutive p n) v) x = Memory.read m x := by
  refine memStore_read_ne fun q hq => ?_
  obtain ⟨j, hj, rfl⟩ := mem_consecutive.mp hq
  rw [toNat_offset (by omega)]
  omega

/-- A byte among the ones stored. -/
theorem memStore_inside {m : List Host.Cell} (hm : Memory.wf m = true) {p : Word} {n : Nat} (hp : p.toNat + n ≤ 2 ^ 32) (v : Nat) {j : Nat}
    (hj : j < n) : Memory.read (memStore m (consecutive p n) v) (p.toNat + j) = BitVec.ofNat 8 (v / 256 ^ j) := by
  induction n generalizing m p v j with
  | zero => exact absurd hj (Nat.not_lt_zero j)
  | succ n ih =>
    rw [consecutive, memStore]
    have hm' : Memory.wf (Memory.write m p.toNat (BitVec.ofNat 8 v)) = true := write_wf_word p _ hm
    cases n with
    | zero =>
      obtain rfl : j = 0 := by omega
      rw [pow_zero, Nat.div_one]
      exact read_write_same _ _ hm
    | succ n =>
      have hnext : (p + 1).toNat = p.toNat + 1 := toNat_succ (by omega)
      cases j with
      | zero =>
        rw [memStore_outside (by omega) _ (by omega), pow_zero, Nat.div_one]
        exact read_write_same _ _ hm
      | succ j =>
        have := ih hm' (p := p + 1) (by omega) (v / 256) (j := j) (by omega)
        rw [hnext, Nat.add_assoc, Nat.add_comm 1 j] at this
        rw [this, Nat.div_div_eq_div_mul, pow_succ, Nat.mul_comm]

/-! ## Doublewords one after the other -/

/-- Memory after doublewords were stored one after the other. -/
def memWords (m : List Host.Cell) : Word → List Nat → List Host.Cell
  | _, [] => m
  | a, v :: vs => memWords (memStore m (consecutive a 4) v) (a + 4) vs

theorem memWords_wf {m : List Host.Cell} (h : Memory.wf m = true) (a : Word) (vs : List Nat) : Memory.wf (memWords m a vs) = true := by
  induction vs generalizing m a with
  | nil => exact h
  | cons v vs ih => exact ih (memStore_wf h _ _) _

theorem memWords_outside {m : List Host.Cell} {p : Word} {vs : List Nat} (hp : p.toNat + 4 * vs.length ≤ 2 ^ 32) {x : Nat}
    (hx : x < p.toNat ∨ p.toNat + 4 * vs.length ≤ x) : Memory.read (memWords m p vs) x = Memory.read m x := by
  induction vs generalizing m p with
  | nil => rfl
  | cons v vs ih =>
    rw [List.length_cons] at hp hx
    rw [memWords]
    cases vs with
    | nil =>
      rw [memWords]
      exact memStore_outside (by simpa using hp) _ (by simpa using hx)
    | cons w ws =>
      rw [List.length_cons] at hp hx ih
      have hnext : (p + 4).toNat = p.toNat + 4 := toNat_offset (k := 4) (by omega)
      rw [ih (by omega) (by omega), memStore_outside (by omega) _ (by omega)]

theorem memWords_inside {m : List Host.Cell} (hm : Memory.wf m = true) {p : Word} {vs : List Nat} (hp : p.toNat + 4 * vs.length ≤ 2 ^ 32)
    {i j v : Nat} (hi : vs[i]? = some v) (hj : j < 4) : Memory.read (memWords m p vs) (p.toNat + 4 * i + j) = BitVec.ofNat 8 (v / 256 ^ j) := by
  induction vs generalizing m p i with
  | nil => exact nomatch hi
  | cons w ws ih =>
    rw [List.length_cons] at hp
    rw [memWords]
    cases ws with
    | nil =>
      cases i with
      | zero =>
        cases hi
        exact memStore_inside hm (by omega) _ hj
      | succ i => exact nomatch hi
    | cons y ys =>
      rw [List.length_cons] at hp
      have hnext : (p + 4).toNat = p.toNat + 4 := toNat_offset (k := 4) (by omega)
      cases i with
      | zero =>
        cases hi
        rw [memWords_outside (by rw [List.length_cons]; omega) (by omega)]
        exact memStore_inside hm (by omega) _ hj
      | succ i =>
        have := ih (m := memStore m (consecutive p 4) w) (memStore_wf hm _ w) (p := p + 4) (by rw [List.length_cons]; omega) hi
        rw [hnext] at this
        rw [← this]
        exact congrArg _ (by omega)

theorem allRam_physWriteWords {s : State} (h : allRam s) (a : Word) (vs : List Nat) :
    physWriteWords a vs s = .ok () { s with mem := memWords s.mem a vs } := by
  induction vs generalizing s a with
  | nil => rfl
  | cons v vs ih =>
    have hnext : allRam { s with mem := memStore s.mem (consecutive a 4) v } := h
    rw [physWriteWords, physWrite, bind_of_ok (allRam_store h _ _), ih hnext]
    rfl

/-! ## What the dump holds -/

/-- Memory after the dump was written. -/
def dumpMem (s : State) : List Host.Cell :=
  let b := s.smbase
  let m := memWords s.mem (b + 0xFFA8) (dumpImage s)
  let m := memStore m (consecutive (b + 0xFEF8) 4) b.toNat
  let m := memStore m (consecutive (b + 0xFEFC) 4) smmRevisionId.toNat
  let m := memStore m (consecutive (b + 0xFF00) 2) 0
  memStore m (consecutive (b + 0xFF02) 2) (if s.run = .halted then 1 else 0)

theorem byte_eq (v : Word) (j : Nat) : BitVec.ofNat 8 (v.toNat / 256 ^ j) = (v >>> (8 * j)).setWidth 8 := by
  rw [ofNat_byte]
  rfl

theorem dumpImage_length (s : State) : (dumpImage s).length = 22 := rfl

section
variable {s : State} (hfit : s.smbase.toNat + 0x10000 ≤ 2 ^ 32)
include hfit

theorem smbase_slots : (s.smbase + 0xFFA8).toNat = s.smbase.toNat + 0xFFA8 ∧ (s.smbase + 0xFEF8).toNat = s.smbase.toNat + 0xFEF8 ∧
    (s.smbase + 0xFEFC).toNat = s.smbase.toNat + 0xFEFC ∧ (s.smbase + 0xFF00).toNat = s.smbase.toNat + 0xFF00 ∧
    (s.smbase + 0xFF02).toNat = s.smbase.toNat + 0xFF02 := by
  have hat {k : Nat} (hk : k < 0x10000) : (s.smbase + BitVec.ofNat 32 k).toNat = s.smbase.toNat + k := toNat_offset (by omega)
  exact ⟨hat (by decide), hat (by decide), hat (by decide), hat (by decide), hat (by decide)⟩

theorem dumpMem_outside {x : Nat} (hx : x < s.smbase.toNat + 0xFE00 ∨ s.smbase.toNat + 0x10000 ≤ x) :
    Memory.read (dumpMem s) x = Memory.read s.mem x := by
  obtain ⟨h1, h2, h3, h4, h5⟩ := smbase_slots hfit
  have hlen := dumpImage_length s
  unfold dumpMem
  rw [memStore_outside (by omega) _ (by omega), memStore_outside (by omega) _ (by omega), memStore_outside (by omega) _ (by omega),
    memStore_outside (by omega) _ (by omega), memWords_outside (by omega) (by omega)]

variable (hwf : Memory.wf s.mem = true)
include hwf

/-- A doubleword from FFA8H up. -/
theorem dumpMem_word {i j v : Nat} (hi : (dumpImage s)[i]? = some v) (hj : j < 4) :
    Memory.read (dumpMem s) (s.smbase.toNat + (0xFFA8 + 4 * i) + j) = BitVec.ofNat 8 (v / 256 ^ j) := by
  obtain ⟨h1, h2, h3, h4, h5⟩ := smbase_slots hfit
  have hlen := dumpImage_length s
  have hlt : i < 22 := hlen ▸ (List.getElem?_eq_some_iff.mp hi).1
  have hplace : s.smbase.toNat + (0xFFA8 + 4 * i) + j = (s.smbase + 0xFFA8).toNat + 4 * i + j := by omega
  unfold dumpMem
  rw [memStore_outside (by omega) _ (by omega), memStore_outside (by omega) _ (by omega), memStore_outside (by omega) _ (by omega),
    memStore_outside (by omega) _ (by omega), hplace, memWords_inside hwf (by omega) hi hj]

theorem dumpMem_base {j : Nat} (hj : j < 4) :
    Memory.read (dumpMem s) (s.smbase.toNat + 0xFEF8 + j) = BitVec.ofNat 8 (s.smbase.toNat / 256 ^ j) := by
  obtain ⟨h1, h2, h3, h4, h5⟩ := smbase_slots hfit
  have hplace : s.smbase.toNat + 0xFEF8 + j = (s.smbase + 0xFEF8).toNat + j := by omega
  unfold dumpMem
  rw [memStore_outside (by omega) _ (by omega), memStore_outside (by omega) _ (by omega), memStore_outside (by omega) _ (by omega), hplace,
    memStore_inside (memWords_wf hwf _ _) (by omega) _ hj]

theorem dumpMem_revision {j : Nat} (hj : j < 4) :
    Memory.read (dumpMem s) (s.smbase.toNat + 0xFEFC + j) = BitVec.ofNat 8 (smmRevisionId.toNat / 256 ^ j) := by
  obtain ⟨h1, h2, h3, h4, h5⟩ := smbase_slots hfit
  have hplace : s.smbase.toNat + 0xFEFC + j = (s.smbase + 0xFEFC).toNat + j := by omega
  unfold dumpMem
  rw [memStore_outside (by omega) _ (by omega), memStore_outside (by omega) _ (by omega), hplace,
    memStore_inside (memStore_wf (memWords_wf hwf _ _) _ _) (by omega) _ hj]

/-- The two restart slots (R1461, R1465). -/
theorem dumpMem_restart {j : Nat} (hj : j < 4) :
    Memory.read (dumpMem s) (s.smbase.toNat + 0xFF00 + j) = BitVec.ofNat 8 ((if s.run = .halted then 0x10000 else 0) / 256 ^ j) := by
  obtain ⟨h1, h2, h3, h4, h5⟩ := smbase_slots hfit
  have hwf3 := memStore_wf (memStore_wf (memWords_wf hwf (s.smbase + 0xFFA8) (dumpImage s)) (consecutive (s.smbase + 0xFEF8) 4) s.smbase.toNat)
    (consecutive (s.smbase + 0xFEFC) 4) smmRevisionId.toNat
  unfold dumpMem
  rcases Nat.lt_or_ge j 2 with hlow | hhigh
  · have hplace : s.smbase.toNat + 0xFF00 + j = (s.smbase + 0xFF00).toNat + j := by omega
    rw [memStore_outside (by omega) _ (by omega), hplace, memStore_inside hwf3 (by omega) _ hlow]
    interval_cases j <;> split <;> rfl
  · have hplace : s.smbase.toNat + 0xFF00 + j = (s.smbase + 0xFF02).toNat + (j - 2) := by omega
    rw [hplace, memStore_inside (memStore_wf hwf3 _ _) (by omega) _ (by omega)]
    interval_cases j <;> split <;> rfl

end

end Sys2Proof.Laws

end
end

section
/-! SMI#: what entering system management mode saves and sets (63_smm.md R1453 to R1455). -/

noncomputable section

namespace Sys2Proof.Laws

open Sys2Proof Sys2Proof.Machine Sys2Proof.Claims

/-! ## The stages -/

/-- The dump is written, and looked at (R1453, R1454). -/
def smmSave (s : State) : M (List Byte) := do
  physWriteWords (s.smbase + 0xFFA8) (dumpImage s)
  physWrite (s.smbase + 0xFEF8) 4 s.smbase.toNat
  physWrite (s.smbase + 0xFEFC) 4 smmRevisionId.toNat
  physWrite (s.smbase + 0xFF00) 2 0
  physWrite (s.smbase + 0xFF02) 2 (if s.run = .halted then 1 else 0)
  quietly (readDump s.smbase)

/-- What the entry leaves undefined (R1455). -/
structure SmmDrawn where
  regs : GRegs
  dr6 : Word
  gdtr : TableReg
  idtr : TableReg
  ldtr : Seg
  tr : Seg

def smmDraw : M SmmDrawn := do
  let regs ← drawRegs
  let dr6 ← draw 32
  let gdtr ← drawTable
  let idtr ← drawTable
  let ldtr ← drawSeg
  let tr ← drawSeg
  pure ⟨regs, dr6, gdtr, idtr, ldtr, tr⟩

/-- The state at the start of the handler (R1455). -/
def smmStart (s : State) (dump : List Byte) (x : SmmDrawn) (t : State) : State :=
  { t with
    smm := { cr2 := s.cr.cr2, cr4 := s.cr.cr4, gdtr := s.gdtr, idtr := s.idtr, segs := s.segs, ldtr := s.ldtr, tr := s.tr, cpl := s.cpl,
             base := s.smbase, dump := dump, idtLoaded := false, halted := s.run == .halted, ioRestart := s.lastIo }
    regs := x.regs, flags := .reset, eip := 0x00008000
    segs := { es := .smm 3 0 0, cs := .smm 0xB 0x3000 s.smbase, ss := .smm 3 0 0, ds := .smm 3 0 0, fs := .smm 3 0 0, gs := .smm 3 0 0 }
    cpl := 0, gdtr := x.gdtr, idtr := x.idtr, ldtr := x.ldtr, tr := x.tr
    cr := { t.cr with cr0 := s.cr.cr0 &&& 0x7FFFFFF2, cr4 := 0 }
    dr := { s.dr with dr6 := x.dr6, dr7 := 0x00000400 }
    run := .running, inSmm := true, smiPending := false, pendingDb := none, recurs := t.recurs.filter fun h => !s.isBack h
    inhibitSs := false, inhibitSti := false, pgSwitched := false, lastIo := none
    itlb := [], dtlb := [] }

theorem smmEntry_eq (s : State) : smmEntry s = (do
    let dump ← smmSave s
    let x ← smmDraw
    modify (smmStart s dump x) : M Unit) s := by
  rw [smmEntry, get_bind]
  unfold smmSave smmDraw smmStart
  simp only [bind_assoc, pure_bind]

/-! ## The save -/

theorem store_onlyMem (ps : List Word) (v : Nat) (s : State) : ∃ t, store ps v s = .ok () t ∧ OnlyMem s t := by
  obtain ⟨t, ht, hmem, -⟩ := store_bytes ps v s
  exact ⟨t, ht, hmem⟩

theorem physWriteWords_onlyMem (a : Word) (vs : List Nat) (s : State) : ∃ t, physWriteWords a vs s = .ok () t ∧ OnlyMem s t := by
  induction vs generalizing a s with
  | nil => exact ⟨s, rfl, .refl s⟩
  | cons v vs ih =>
    obtain ⟨u, hu, hsu⟩ := store_onlyMem (consecutive a 4) v s
    obtain ⟨t, ht, hut⟩ := ih (a + 4) u
    exact ⟨t, by rw [physWriteWords, physWrite, bind_of_ok hu, ht], hsu.trans hut⟩

theorem physBytes_reads (ps : List Word) : Reads (physBytes ps) := by
  induction ps with
  | nil => exact .pure _
  | cons a as ih =>
    have hbyte : Reads (physReadByte a) := fun s => by
      obtain ⟨v, n, b, h, -⟩ := physReadByte_bytes a s
      exact ⟨v, n, b, h⟩
    exact .bind hbyte fun _ => .bind ih fun _ => .pure _

theorem smmSave_run (s : State) : ∃ dump t, smmSave s s = .ok dump t ∧ t = { s with mem := t.mem, bus := t.bus, draws := t.draws } := by
  obtain ⟨u1, h1, k1⟩ := physWriteWords_onlyMem (s.smbase + 0xFFA8) (dumpImage s) s
  obtain ⟨u2, h2, k2⟩ := store_onlyMem (consecutive (s.smbase + 0xFEF8) 4) s.smbase.toNat u1
  obtain ⟨u3, h3, k3⟩ := store_onlyMem (consecutive (s.smbase + 0xFEFC) 4) smmRevisionId.toNat u2
  obtain ⟨u4, h4, k4⟩ := store_onlyMem (consecutive (s.smbase + 0xFF00) 2) 0 u3
  obtain ⟨u5, h5, k5⟩ := store_onlyMem (consecutive (s.smbase + 0xFF02) 2) (if s.run = .halted then 1 else 0) u4
  obtain ⟨dump, n, b, hread⟩ := physBytes_reads (consecutive (s.smbase + 0xFE00) 512) u5
  have hquiet : quietly (readDump s.smbase) u5 = .ok dump { u5 with draws := n } := by
    rw [quietly_run, readDump, hread]
  refine ⟨dump, { u5 with draws := n }, ?_, ?_⟩
  · rw [smmSave, bind_of_ok h1]
    exact (bind_of_ok h2).trans <| (bind_of_ok h3).trans <| (bind_of_ok h4).trans <| (bind_of_ok h5).trans hquiet
  · rw [((((k1.trans k2).trans k3).trans k4).trans k5 : OnlyMem s u5)]

/-- The 512 bytes of the dump (R1454). -/
def dumpBytes (m : List Host.Cell) (b : Word) : List Byte := (consecutive (b + 0xFE00) 512).map fun a => Memory.read m a.toNat

theorem allRam_physWrite {s : State} (h : allRam s) (a : Word) (n v : Nat) :
    physWrite a n v s = .ok () { s with mem := memStore s.mem (consecutive a n) v } := allRam_store h _ v

theorem allRam_dumpBytes {s : State} (h : allRam s) (b : Word) : quietly (readDump b) s = .ok (dumpBytes s.mem b) s := by
  rw [quietly_run, readDump, allRam_bytes h, dumpBytes]

theorem smmSave_ram {s : State} (h : allRam s) : ∃ t, smmSave s s = .ok (dumpBytes t.mem s.smbase) t ∧ t.mem = dumpMem s := by
  have ram (m : List Host.Cell) : allRam { s with mem := m } := h
  rw [smmSave, bind_of_ok (allRam_physWriteWords h _ _), bind_of_ok (allRam_physWrite (ram _) _ _ _), bind_of_ok (allRam_physWrite (ram _) _ _ _),
    bind_of_ok (allRam_physWrite (ram _) _ _ _), bind_of_ok (allRam_physWrite (ram _) _ _ _), allRam_dumpBytes (ram _)]
  exact ⟨_, rfl, by rw [dumpMem]⟩

/-! ## The draws -/

/-- A computation that only draws. -/
def Draws {α : Type} (m : M α) : Prop := ∀ s, ∃ v t, m s = .ok v t ∧ OnlyDraws s t

theorem Draws.pure {α : Type} (v : α) : Draws (pure v : M α) := fun s => ⟨v, s, rfl, rfl⟩

theorem Draws.bind {α β : Type} {m : M α} {f : α → M β} (hm : Draws m) (hf : ∀ v, Draws (f v)) : Draws (m >>= f) := fun s => by
  obtain ⟨v, t, h, hst⟩ := hm s
  obtain ⟨w, u, h', htu⟩ := hf v t
  exact ⟨w, u, by rw [bind_of_ok h, h'], hst.trans htu⟩

theorem draw_draws (w : Nat) : Draws (draw w) := fun s => ⟨_, { s with draws := s.draws + 1 }, rfl, rfl⟩

theorem drawRegs_draws : Draws drawRegs :=
  .bind (draw_draws _) fun _ => .bind (draw_draws _) fun _ => .bind (draw_draws _) fun _ => .bind (draw_draws _) fun _ =>
    .bind (draw_draws _) fun _ => .bind (draw_draws _) fun _ => .bind (draw_draws _) fun _ => .bind (draw_draws _) fun _ => .pure _

theorem drawTable_draws : Draws drawTable := .bind (draw_draws _) fun _ => .bind (draw_draws _) fun _ => .pure _

theorem drawSeg_draws : Draws drawSeg :=
  .bind (draw_draws _) fun _ => .bind (draw_draws _) fun _ => .bind (draw_draws _) fun _ => .bind (draw_draws _) fun _ =>
    .bind (draw_draws _) fun _ => .bind drawBool_onlyDraws fun _ => .bind drawBool_onlyDraws fun _ => .bind drawBool_onlyDraws fun _ =>
    .bind drawBool_onlyDraws fun _ => .bind drawBool_onlyDraws fun _ => .bind drawBool_onlyDraws fun _ => .pure _

theorem smmDraw_draws : Draws smmDraw :=
  .bind drawRegs_draws fun _ => .bind (draw_draws _) fun _ => .bind drawTable_draws fun _ => .bind drawTable_draws fun _ =>
    .bind drawSeg_draws fun _ => .bind drawSeg_draws fun _ => .pure _

/-! ## The entry -/

/-- The state in which the handler starts. -/
theorem takeSmi_run (s : State) : ∃ m b n dump x, s.takeSmi = .next (smmStart s dump x { s with mem := m, bus := b, draws := n }) ∧
    (allRam s → m = dumpMem s ∧ dump = dumpBytes (dumpMem s) s.smbase) := by
  obtain ⟨dump, t, hsave, ht⟩ := smmSave_run s
  obtain ⟨x, u, hdraw, hu⟩ := smmDraw_draws t
  have hentry : smmEntry s = .ok () (smmStart s dump x u) := by
    rw [smmEntry_eq, bind_of_ok hsave, bind_of_ok hdraw]
    rfl
  refine ⟨t.mem, t.bus, u.draws, dump, x, ?_, fun hram => ?_⟩
  · have hu' : u = { s with mem := t.mem, bus := t.bus, draws := u.draws } := by
      rw [hu, ht]
    rw [State.takeSmi, hentry]
    exact congrArg (fun v => Host.Outcome.next (smmStart s dump x v)) hu'
  · obtain ⟨t', hsave', hmem⟩ := smmSave_ram hram
    obtain ⟨hdump, hstate⟩ := EStateM.Result.ok.inj (hsave.symm.trans hsave')
    rw [hdump, hstate, hmem]
    exact ⟨rfl, rfl⟩

end Sys2Proof.Laws

end
end

section
/-! O37: system management mode (63_smm.md R1453 to R1465). -/

noncomputable section

namespace Sys2Proof.Laws

open Sys2Proof Sys2Proof.Machine Sys2Proof.Claims

/-! ## SMI# -/

/-- The slots of the dump in memory (R1454). -/
theorem dump_slots {s t : State} (hmem : t.mem = dumpMem s) (hwf : Memory.wf s.mem = true) (hfit : s.smbase.toNat + 0x10000 ≤ 2 ^ 32) :
    ∀ p ∈ ([(0xFFFC, s.cr.cr0), (0xFFF8, s.cr.cr3), (0xFFF4, s.flags.word), (0xFFF0, s.eip), (0xFFEC, s.regs.edi),
      (0xFFE8, s.regs.esi), (0xFFE4, s.regs.ebp), (0xFFE0, s.regs.esp), (0xFFDC, s.regs.ebx), (0xFFD8, s.regs.edx), (0xFFD4, s.regs.ecx),
      (0xFFD0, s.regs.eax), (0xFFCC, s.dr.dr6), (0xFFC8, s.dr.dr7), (0xFEF8, s.smbase),
      (0xFEFC, 0x30000 ||| Config.smmRevision.setWidth 32), (0xFF00, if s.run = .halted then 0x10000 else 0),
      (0xFFC4, s.tr.sel.setWidth 32), (0xFFC0, s.ldtr.sel.setWidth 32), (0xFFBC, s.segs.gs.sel.setWidth 32),
      (0xFFB8, s.segs.fs.sel.setWidth 32), (0xFFB4, s.segs.ds.sel.setWidth 32), (0xFFB0, s.segs.ss.sel.setWidth 32),
      (0xFFAC, s.segs.cs.sel.setWidth 32), (0xFFA8, s.segs.es.sel.setWidth 32)] : List (Nat × Word)),
      ∀ j, j < 4 → byteAt t (s.smbase.toNat + p.1 + j) = (p.2 >>> (8 * j)).setWidth 8 := by
  have hbyte (a : Nat) : byteAt t a = Memory.read (dumpMem s) a := congrArg (Memory.read · a) hmem
  have word (i : Nat) {v : Word} (hi : (dumpImage s)[i]? = some v.toNat) (j : Nat) (hj : j < 4) :
      byteAt t (s.smbase.toNat + (0xFFA8 + 4 * i) + j) = (v >>> (8 * j)).setWidth 8 := by
    rw [hbyte, dumpMem_word hfit hwf hi hj, byte_eq]
  have half (i : Nat) {v : Half} (hi : (dumpImage s)[i]? = some v.toNat) (j : Nat) (hj : j < 4) :
      byteAt t (s.smbase.toNat + (0xFFA8 + 4 * i) + j) = (v.setWidth 32 >>> (8 * j)).setWidth 8 := by
    refine word i (hi.trans (congrArg some ?_)) j hj
    rw [BitVec.toNat_setWidth_of_le (by decide)]
  have restart (j : Nat) (hj : j < 4) : byteAt t (s.smbase.toNat + 0xFF00 + j) =
      ((if s.run = .halted then 0x10000 else 0 : Word) >>> (8 * j)).setWidth 8 := by
    rw [hbyte, dumpMem_restart hfit hwf hj, ← byte_eq]
    split <;> rfl
  simp only [List.forall_mem_cons]
  exact ⟨word 21 rfl, word 20 rfl, word 19 rfl, word 18 rfl, word 17 rfl, word 16 rfl, word 15 rfl, word 14 rfl, word 13 rfl, word 12 rfl, word 11 rfl,
    word 10 rfl, word 9 rfl, word 8 rfl, fun j hj => by rw [hbyte, dumpMem_base hfit hwf hj, byte_eq],
    fun j hj => by rw [hbyte, dumpMem_revision hfit hwf hj, byte_eq]; rfl, restart,
    half 7 rfl, half 6 rfl, half 5 rfl, half 4 rfl, half 3 rfl, half 2 rfl, half 1 rfl, half 0 rfl, fun _ h => nomatch h⟩

theorem dumpBytes_length (m : List Host.Cell) (b : Word) : (dumpBytes m b).length = 512 := by
  rw [dumpBytes, List.length_map, consecutive_length]

theorem dumpBytes_get (m : List Host.Cell) {b : Word} (hfit : b.toNat + 0x10000 ≤ 2 ^ 32) (k : Nat) (h : k < (dumpBytes m b).length) :
    (dumpBytes m b)[k] = Memory.read m (b.toNat + 0xFE00 + k) := by
  have hk : k < 512 := dumpBytes_length m b ▸ h
  have hbase : (b + 0xFE00).toNat = b.toNat + 0xFE00 := toNat_offset (k := 0xFE00) (by omega)
  simp only [dumpBytes, List.getElem_map, getElem_consecutive]
  rw [toNat_offset (by omega), hbase]

theorem allRam_of_plain {s : State} (hmap : s.memMap = []) (ha20 : s.inp.a20m = false) : allRam s :=
  ⟨hmap, fun a => by rw [State.a20, ha20]; rfl⟩

/-! ## The dump as RSM reads it -/

/-- The doubleword, and the word, at an offset of the dump. -/
def slotWord (m : List Host.Cell) (b off : Word) : Word := BitVec.ofNat 32 (memLoad m (consecutive (b + off) 4))
def slotHalf (m : List Host.Cell) (b off : Word) : Half := BitVec.ofNat 16 (memLoad m (consecutive (b + off) 2))

/-- What RSM reads (R1460). -/
def slotsSaved (m : List Host.Cell) (b : Word) : Saved :=
  { cr3 := slotWord m b 0xFFF8, eflags := slotWord m b 0xFFF4, eip := slotWord m b 0xFFF0
    regs := { eax := slotWord m b 0xFFD0, ecx := slotWord m b 0xFFD4, edx := slotWord m b 0xFFD8, ebx := slotWord m b 0xFFDC
              esp := slotWord m b 0xFFE0, ebp := slotWord m b 0xFFE4, esi := slotWord m b 0xFFE8, edi := slotWord m b 0xFFEC }
    dr6 := slotWord m b 0xFFCC, dr7 := slotWord m b 0xFFC8, tr := slotHalf m b 0xFFC4, ldtr := slotHalf m b 0xFFC0
    gs := slotHalf m b 0xFFBC, fs := slotHalf m b 0xFFB8, ds := slotHalf m b 0xFFB4, ss := slotHalf m b 0xFFB0
    cs := slotHalf m b 0xFFAC, es := slotHalf m b 0xFFA8 }

section
variable {s : State} (h : allRam s) (b off : Word)
include h

theorem allRam_dumpWord : dumpWord b off s = .ok (slotWord s.mem b off) s := by
  rw [dumpWord, physRead32, physRead, bind_of_ok (allRam_load h _)]
  rfl

theorem allRam_dumpHalf : dumpHalf b off s = .ok (slotHalf s.mem b off) s := by
  rw [dumpHalf, physRead, bind_of_ok (allRam_load h _)]
  rfl

theorem allRam_readSaved : readSaved b s = .ok (slotsSaved s.mem b) s := by
  simp only [readSaved, bind_run, allRam_dumpWord h, allRam_dumpHalf h, pure_run, slotsSaved]

end

theorem memLoad_byte (m : List Host.Cell) (ps : List Word) {j : Nat} (hj : j < ps.length) :
    BitVec.ofNat 8 (memLoad m ps / 256 ^ j) = Memory.read m ps[j].toNat := by
  induction ps generalizing j with
  | nil => exact absurd hj (Nat.not_lt_zero j)
  | cons a as ih =>
    have hlt := (Memory.read m a.toNat).isLt
    rw [memLoad]
    cases j with
    | zero =>
      rw [pow_zero, Nat.div_one]
      apply BitVec.eq_of_toNat_eq
      rw [BitVec.toNat_ofNat, List.getElem_cons_zero]
      omega
    | succ j =>
      rw [pow_succ', ← Nat.div_div_eq_div_mul, Nat.add_mul_div_left _ _ (by decide), Nat.div_eq_of_lt hlt, Nat.zero_add, List.getElem_cons_succ]
      exact ih (Nat.lt_of_succ_lt_succ hj)

theorem memLoad_lt (m : List Host.Cell) (ps : List Word) : memLoad m ps < 256 ^ ps.length := by
  induction ps with
  | nil => exact Nat.one_pos
  | cons a as ih =>
    have hlt := (Memory.read m a.toNat).isLt
    rw [memLoad, List.length_cons, pow_succ]
    omega

section
variable {s : State} {b : Word} (hfit : b.toNat + 0x10000 ≤ 2 ^ 32) {k j : Nat}
include hfit

theorem slotWord_byte (hk : k + 4 ≤ 0x10000) (hj : j < 4) :
    byteAt s (b.toNat + k + j) = (slotWord s.mem b (BitVec.ofNat 32 k) >>> (8 * j)).setWidth 8 := by
  have hlt := memLoad_lt s.mem (consecutive (b + BitVec.ofNat 32 k) 4)
  rw [consecutive_length] at hlt
  have hbase : (b + BitVec.ofNat 32 k).toNat = b.toNat + k := toNat_offset (by omega)
  rw [← byte_eq, slotWord, BitVec.toNat_ofNat, Nat.mod_eq_of_lt (show _ < 2 ^ 32 from hlt), memLoad_byte _ _ (by rwa [consecutive_length]), getElem_consecutive,
    toNat_offset (by omega), hbase]
  rfl

theorem slotHalf_byte (hk : k + 2 ≤ 0x10000) (hj : j < 2) :
    byteAt s (b.toNat + k + j) = (slotHalf s.mem b (BitVec.ofNat 32 k) >>> (8 * j)).setWidth 8 := by
  have hlt := memLoad_lt s.mem (consecutive (b + BitVec.ofNat 32 k) 2)
  rw [consecutive_length] at hlt
  have hbase : (b + BitVec.ofNat 32 k).toNat = b.toNat + k := toNat_offset (by omega)
  have hbyte : (slotHalf s.mem b (BitVec.ofNat 32 k) >>> (8 * j)).setWidth 8 =
      BitVec.ofNat 8 (memLoad s.mem (consecutive (b + BitVec.ofNat 32 k) 2) / 256 ^ j) := by
    apply BitVec.eq_of_toNat_eq
    rw [BitVec.toNat_setWidth, BitVec.toNat_ushiftRight, slotHalf, BitVec.toNat_ofNat, Nat.mod_eq_of_lt (show _ < 2 ^ 16 from hlt), Nat.shiftRight_eq_div_pow,
      BitVec.toNat_ofNat, pow_mul]
    rfl
  rw [hbyte, memLoad_byte _ _ (by rwa [consecutive_length]), getElem_consecutive, toNat_offset (by omega), hbase]
  rfl

end

/-- What RSM reads in RAM are the slots of the dump (R1454, R1460). -/
theorem rsm_slots {s : State} {b : Word} (hfit : b.toNat + 0x10000 ≤ 2 ^ 32) :
    (∀ p ∈ ([(0xFEF8, slotWord s.mem b 0xFEF8), (0xFFFC, slotWord s.mem b 0xFFFC), (0xFFF8, (slotsSaved s.mem b).cr3),
        (0xFFF4, (slotsSaved s.mem b).eflags), (0xFFF0, (slotsSaved s.mem b).eip), (0xFFEC, (slotsSaved s.mem b).regs.edi),
        (0xFFE8, (slotsSaved s.mem b).regs.esi), (0xFFE4, (slotsSaved s.mem b).regs.ebp), (0xFFE0, (slotsSaved s.mem b).regs.esp),
        (0xFFDC, (slotsSaved s.mem b).regs.ebx), (0xFFD8, (slotsSaved s.mem b).regs.edx), (0xFFD4, (slotsSaved s.mem b).regs.ecx),
        (0xFFD0, (slotsSaved s.mem b).regs.eax), (0xFFCC, (slotsSaved s.mem b).dr6), (0xFFC8, (slotsSaved s.mem b).dr7)] : List (Nat × Word)),
      ∀ j, j < 4 → byteAt s (b.toNat + p.1 + j) = (p.2 >>> (8 * j)).setWidth 8) ∧
    ∀ p ∈ ([(0xFFC4, (slotsSaved s.mem b).tr), (0xFFC0, (slotsSaved s.mem b).ldtr), (0xFFBC, (slotsSaved s.mem b).gs),
        (0xFFB8, (slotsSaved s.mem b).fs), (0xFFB4, (slotsSaved s.mem b).ds), (0xFFB0, (slotsSaved s.mem b).ss), (0xFFAC, (slotsSaved s.mem b).cs),
        (0xFFA8, (slotsSaved s.mem b).es), (0xFF02, slotHalf s.mem b 0xFF02), (0xFF00, slotHalf s.mem b 0xFF00)] : List (Nat × Half)),
      ∀ j, j < 2 → byteAt s (b.toNat + p.1 + j) = (p.2 >>> (8 * j)).setWidth 8 := by
  have word (k : Nat) (hk : k + 4 ≤ 0x10000) (j : Nat) (hj : j < 4) := slotWord_byte (s := s) hfit hk hj
  have half (k : Nat) (hk : k + 2 ≤ 0x10000) (j : Nat) (hj : j < 2) := slotHalf_byte (s := s) hfit hk hj
  simp only [List.forall_mem_cons]
  exact ⟨⟨word _ (by decide), word _ (by decide), word _ (by decide), word _ (by decide), word _ (by decide), word _ (by decide),
    word _ (by decide), word _ (by decide), word _ (by decide), word _ (by decide), word _ (by decide), word _ (by decide), word _ (by decide),
    word _ (by decide), word _ (by decide), fun _ h => nomatch h⟩,
    half _ (by decide), half _ (by decide), half _ (by decide), half _ (by decide), half _ (by decide), half _ (by decide),
    half _ (by decide), half _ (by decide), half _ (by decide), half _ (by decide), fun _ h => nomatch h⟩

theorem rsm_ram {s s1 s2 s3 s4 s5 s6 : State} {b nb cr0 : Word} {d : List Byte} {v : Saved} {slot io : Half} (h : allRam s)
    (h1 : dumpWord b 0xFEF8 s = .ok nb s1) (h2 : dumpWord b 0xFFFC s1 = .ok cr0 s2) (h3 : readDump b s2 = .ok d s3)
    (h4 : readSaved b { s3 with bus := s2.bus } = .ok v s4) (h5 : dumpHalf b 0xFF02 s4 = .ok slot s5) (h6 : dumpHalf b 0xFF00 s5 = .ok io s6) :
    nb = slotWord s.mem b 0xFEF8 ∧ cr0 = slotWord s.mem b 0xFFFC ∧ v = slotsSaved s.mem b ∧ slot = slotHalf s.mem b 0xFF02 ∧
      io = slotHalf s.mem b 0xFF00 := by
  obtain ⟨rfl, rfl⟩ := EStateM.Result.ok.inj ((allRam_dumpWord h b _).symm.trans h1)
  obtain ⟨rfl, rfl⟩ := EStateM.Result.ok.inj ((allRam_dumpWord h b _).symm.trans h2)
  obtain ⟨-, rfl⟩ := EStateM.Result.ok.inj ((allRam_bytes h _).symm.trans h3)
  obtain ⟨rfl, rfl⟩ := EStateM.Result.ok.inj ((allRam_readSaved h b).symm.trans h4)
  obtain ⟨rfl, rfl⟩ := EStateM.Result.ok.inj ((allRam_dumpHalf h b _).symm.trans h5)
  obtain ⟨rfl, rfl⟩ := EStateM.Result.ok.inj ((allRam_dumpHalf h b _).symm.trans h6)
  exact ⟨rfl, rfl, rfl, rfl, rfl⟩

/-! ## The stages of RSM -/

/-- A state that RSM may not go back to (R1460). -/
def rsmIllegal (s : State) (nb cr0 : Word) : Bool :=
  nb &&& 0x7FFF != 0 || s.smm.cr4 &&& 0xFFFFFFA0 != 0 || (bit cr0 31 && !bit cr0 0) || (bit cr0 29 && !bit cr0 30)

/-- The registers that RSM restores (R1460). -/
def rsmBack (s : State) (nb cr0 : Word) (v : Saved) (io : Half) (run : RunState) (t : State) : State :=
  { t with
    smbase := nb
    regs := v.regs, flags := Flags.ofWord v.eflags, eip := if io = 0xFF then s.smm.ioRestart.getD v.eip else v.eip
    segs := { es := s.smm.segs.es.resumed v.es, cs := s.smm.segs.cs.resumed v.cs, ss := s.smm.segs.ss.resumed v.ss
              ds := s.smm.segs.ds.resumed v.ds, fs := s.smm.segs.fs.resumed v.fs, gs := s.smm.segs.gs.resumed v.gs }
    cpl := resumeCpl s (bit cr0 0) (bit v.eflags 17) v.cs
    gdtr := s.smm.gdtr, idtr := s.smm.idtr, ldtr := s.smm.ldtr.resumed v.ldtr, tr := s.smm.tr.resumed v.tr
    cr := { cr0 := cr0 ||| 0x10, cr2 := s.smm.cr2, cr3 := v.cr3, cr4 := s.smm.cr4 }
    dr := { s.dr with dr6 := v.dr6, dr7 := v.dr7 }
    run := run
    pgSwitched := false, inSmm := false, itlb := [], dtlb := [] }

/-- The end of RSM, once the dump has been read (R1460, R1465). -/
def rsmRestore (s : State) (nb cr0 : Word) (v : Saved) (slot io : Half) : M Unit := do
  let run ← haltRestart s.smm.halted slot
  modify (rsmBack s nb cr0 v io run)
  modifyCur fun c => { c with keepRf := true }
  if run = .halted then emit .halt else pure ()

/-- RSM after the test of the state (R1458, R1460). -/
def rsmRead (s : State) (nb cr0 : Word) : M Unit := do
  let d ← quietly (readDump s.smm.base)
  if dumpKept 0 d s.smm.dump then pure () else refuse .smmDumpChanged
  let v ← readSaved s.smm.base
  let slot ← dumpHalf s.smm.base 0xFF02
  let io ← dumpHalf s.smm.base 0xFF00
  if io = 0 || (io = 0xFF && s.smm.ioRestart.isSome) then pure () else refuse .smmIoRestart
  rsmRestore s nb cr0 v slot io

theorem resume_eq (s : State) : resume s = (do
    require s.inSmm ud
    privileged
    let nb ← dumpWord s.smm.base 0xFEF8
    let cr0 ← dumpWord s.smm.base 0xFFFC
    if rsmIllegal s nb cr0 then throw .shutdown else pure ()
    rsmRead s nb cr0 : M Unit) s := by
  rw [resume, get_bind]
  unfold rsmRead rsmRestore rsmBack rsmIllegal
  rfl

theorem rsm_outside {s : State} (h : s.inSmm = false) : Faults .rsm s ud6 s.enter := by
  refine faults_of_run (show exec .rsm s = runInstr resume s from rfl) ?_ rfl
  rw [resume_eq, enter_inSmm, h]
  rfl

theorem low15_iff (x : Word) : x &&& 0x7FFF = 0 ↔ x.toNat % 2 ^ 15 = 0 := by
  rw [← BitVec.toNat_inj, BitVec.toNat_and, show (0x7FFF : Word).toNat = 2 ^ 15 - 1 from rfl, Nat.and_two_pow_sub_one_eq_mod]
  rfl

theorem rsmIllegal_iff (s : State) (nb cr0 : Word) : rsmIllegal s nb cr0 = false ↔
    nb.toNat % 2 ^ 15 = 0 ∧ s.smm.cr4 &&& 0xFFFFFFA0 = 0 ∧ (cr0.getLsbD 31 = true → cr0.getLsbD 0 = true) ∧
      (cr0.getLsbD 29 = true → cr0.getLsbD 30 = true) := by
  have himp (a b : Bool) : (a && !b) = false ↔ (a = true → b = true) := by cases a <;> cases b <;> decide
  rw [rsmIllegal, Bool.or_eq_false_iff, Bool.or_eq_false_iff, Bool.or_eq_false_iff, bne_eq_false_iff_eq, bne_eq_false_iff_eq, himp, himp, low15_iff,
    and_assoc, and_assoc]
  rfl

section
variable {s s1 s2 : State} {nb cr0 : Word} (hin : s.inSmm = true) (hlevel : levelOf s = 0)
  (h1 : dumpWord s.smm.base 0xFEF8 s.enter = .ok nb s1) (h2 : dumpWord s.smm.base 0xFFFC s1 = .ok cr0 s2)
include hin hlevel h1 h2

theorem resume_tested : resume s.enter = (do
    if rsmIllegal s nb cr0 then throw .shutdown else pure ()
    rsmRead s.enter nb cr0 : M Unit) s2 := by
  rw [resume_eq, enter_inSmm, hin, require_true, pure_bind, bind_of_ok (privileged_passes hlevel)]
  exact (bind_of_ok h1).trans (bind_of_ok h2)

theorem rsm_shutdown (h : rsmIllegal s nb cr0 = true) : ∃ t, exec .rsm s = .next t ∧ t.run = .shutdown := by
  have hbody : resume s.enter = .error .shutdown s2 := by
    rw [resume_tested hin hlevel h1 h2, h]
    rfl
  exact ⟨s2.shutdown, runInstr_shutdown hbody, rfl⟩

variable (hlegal : rsmIllegal s nb cr0 = false) {d : List Byte} {v : Saved} {slot io : Half} {s3 s4 s5 s6 : State}
  (h3 : readDump s.smm.base s2 = .ok d s3) (h4 : readSaved s.smm.base { s3 with bus := s2.bus } = .ok v s4)
  (h5 : dumpHalf s.smm.base 0xFF02 s4 = .ok slot s5) (h6 : dumpHalf s.smm.base 0xFF00 s5 = .ok io s6) (hkept : dumpKept 0 d s.smm.dump = true)
  (hio : io = 0 ∨ (io = 0xFF ∧ s.smm.ioRestart.isSome = true))
include hlegal h3 h4 h5 h6 hkept hio

theorem resume_read : resume s.enter = rsmRestore s.enter nb cr0 v slot io s6 := by
  have hquiet : quietly (readDump s.enter.smm.base) s2 = .ok d { s3 with bus := s2.bus } := by
    rw [quietly_run, enter_smm, h3]
  have hio' : (io = 0 || (io = 0xFF && s.enter.smm.ioRestart.isSome) : Bool) = true := by simpa using hio
  rw [resume_tested hin hlevel h1 h2, hlegal, rsmRead]
  refine (bind_of_ok hquiet).trans ?_
  rw [enter_smm, hkept]
  refine (bind_of_ok h4).trans <| (bind_of_ok h5).trans <| (bind_of_ok h6).trans ?_
  rw [enter_smm] at hio'
  rw [hio']
  rfl

end

theorem Reads.only {α : Type} {m : M α} (hm : Reads m) {s t : State} {v : α} (h : m s = .ok v t) : t = { s with draws := t.draws, bus := t.bus } := by
  obtain ⟨w, n, l, hw⟩ := hm s
  obtain ⟨-, rfl⟩ := EStateM.Result.ok.inj (hw.symm.trans h)
  rfl

/-- The state RSM goes back to. -/
def rsmState (s : State) (nb cr0 : Word) (v : Saved) (eip : Word) (cpl : BitVec 2) (t : State) (run : RunState) (n : Nat) : State :=
  { t with
    smbase := nb, regs := v.regs, flags := Flags.ofWord v.eflags, eip := eip, cpl := cpl
    segs := { es := { s.smm.segs.es with sel := v.es }, cs := { s.smm.segs.cs with sel := v.cs }, ss := { s.smm.segs.ss with sel := v.ss },
              ds := { s.smm.segs.ds with sel := v.ds }, fs := { s.smm.segs.fs with sel := v.fs }, gs := { s.smm.segs.gs with sel := v.gs } }
    gdtr := s.smm.gdtr, idtr := s.smm.idtr, ldtr := { s.smm.ldtr with sel := v.ldtr }, tr := { s.smm.tr with sel := v.tr }
    cr := { cr0 := cr0 ||| 0x10, cr2 := s.smm.cr2, cr3 := v.cr3, cr4 := s.smm.cr4 }
    dr := { s.dr with dr6 := v.dr6, dr7 := v.dr7 }
    run := run, bus := if run = .halted then .halt :: t.bus else t.bus, draws := n
    inSmm := false, pgSwitched := false, itlb := [], dtlb := [], cur := { s.cur with keepRf := true } }

section
variable {s t : State} {nb cr0 eip : Word} {v : Saved} {slot io : Half} (hcur : t.cur = s.cur)
  (heip : (if io = 0xFF then s.smm.ioRestart.getD v.eip else v.eip) = eip)
include hcur heip

/-- RSM once the run state is known. -/
theorem rsmRestore_run {run : RunState} {n : Nat} (h : haltRestart s.smm.halted slot t = .ok run { t with draws := n }) :
    rsmRestore s.enter nb cr0 v slot io t =
      .ok () (rsmState s nb cr0 v eip (resumeCpl s (bit cr0 0) (bit v.eflags 17) v.cs) t run n) := by
  rw [rsmRestore, enter_smm, bind_of_ok h, modify_bind]
  have hend : (do
      modifyCur fun c => { c with keepRf := true }
      if run = .halted then emit .halt else pure () : M Unit) (rsmBack s nb cr0 v io run { t with draws := n }) =
      .ok () (rsmState s nb cr0 v eip (resumeCpl s (bit cr0 0) (bit v.eflags 17) v.cs) t run n) := by
    rw [rsmState, ← hcur, ← heip]
    by_cases hrun : run = .halted
    · rw [if_pos hrun, if_pos hrun]
      rfl
    · rw [if_neg hrun, if_neg hrun]
      rfl
  exact hend

theorem rsmRestore_running (h : slot = 0) : rsmRestore s.enter nb cr0 v slot io t =
    .ok () (rsmState s nb cr0 v eip (resumeCpl s (bit cr0 0) (bit v.eflags 17) v.cs) t .running t.draws) :=
  rsmRestore_run hcur heip (by rw [haltRestart, if_pos h]; rfl)

theorem rsmRestore_halted (h : slot = 1) (hh : s.smm.halted = true) : rsmRestore s.enter nb cr0 v slot io t =
    .ok () (rsmState s nb cr0 v eip (resumeCpl s (bit cr0 0) (bit v.eflags 17) v.cs) t .halted t.draws) :=
  rsmRestore_run hcur heip (by rw [haltRestart, h, if_neg (by decide), if_pos rfl, hh]; rfl)

/-- A restart slot that no rule speaks of (U: a draw). -/
theorem rsmRestore_drawn (h : 2 ≤ slot.toNat) : ∃ run, (run = .running ∨ run = .halted) ∧ rsmRestore s.enter nb cr0 v slot io t =
    .ok () (rsmState s nb cr0 v eip (resumeCpl s (bit cr0 0) (bit v.eflags 17) v.cs) t run (t.draws + 1)) := by
  have h0 : slot ≠ 0 := fun h0 => by rw [h0] at h; exact absurd h (by decide)
  have h1 : slot ≠ 1 := fun h1 => by rw [h1] at h; exact absurd h (by decide)
  obtain ⟨b, hb⟩ : ∃ b, drawBool t = .ok b { t with draws := t.draws + 1 } := ⟨_, rfl⟩
  have hrestart : haltRestart s.smm.halted slot t = .ok (if b then .halted else .running) { t with draws := t.draws + 1 } := by
    rw [haltRestart, if_neg h0, if_neg h1, bind_of_ok hb]
    rfl
  refine ⟨_, ?_, rsmRestore_run hcur heip hrestart⟩
  cases b
  · exact .inl rfl
  · exact .inr rfl

omit hcur heip in
theorem rsmRestore_refused (h : slot = 1) (hh : s.smm.halted = false) :
    rsmRestore s.enter nb cr0 v slot io t = .error (.refuse .smmHaltRestart) t := by
  rw [rsmRestore, enter_smm]
  refine bind_of_error ?_
  rw [haltRestart, h, if_neg (by decide), if_pos rfl, hh]
  rfl

end

/-- The level RSM goes back to (R170). -/
theorem resumeCpl_level (s : State) (cr0 fl : Word) (cs : Half) :
    (cr0.getLsbD 0 = false → resumeCpl s (bit cr0 0) (bit fl 17) cs = 0) ∧
    (cr0.getLsbD 0 = true → fl.getLsbD 17 = true → resumeCpl s (bit cr0 0) (bit fl 17) cs = 3) ∧
    (cr0.getLsbD 0 = true → fl.getLsbD 17 = false →
      ((s.smm.cpl = 0 ∧ cs = s.smm.segs.cs.sel) → resumeCpl s (bit cr0 0) (bit fl 17) cs = 0) ∧
      (¬ (s.smm.cpl = 0 ∧ cs = s.smm.segs.cs.sel) → (resumeCpl s (bit cr0 0) (bit fl 17) cs).toNat = cs.toNat % 4)) := by
  rw [bit, bit]
  refine ⟨fun h => ?_, fun h hv => ?_, fun h hv => ⟨fun hsame => ?_, fun hsame => ?_⟩⟩
  · rw [h]
    rfl
  · rw [h, hv]
    rfl
  · rw [h, hv, resumeCpl, hsame.1, hsame.2, beq_self_eq_true, beq_self_eq_true]
    rfl
  · have hno : (s.smm.cpl == 0 && cs == s.smm.segs.cs.sel) = false := by simpa [not_and] using hsame
    rw [h, hv, resumeCpl, hno]
    exact rpl_toNat cs

/-! ## The obligation -/

/-- The reads of RSM leave the latch. -/
theorem rsm_cur {s s1 s2 s3 s4 s5 s6 : State} {b nb cr0 : Word} {d : List Byte} {v : Saved} {slot io : Half}
    (h1 : dumpWord b 0xFEF8 s.enter = .ok nb s1) (h2 : dumpWord b 0xFFFC s1 = .ok cr0 s2) (h3 : readDump b s2 = .ok d s3)
    (h4 : readSaved b { s3 with bus := s2.bus } = .ok v s4) (h5 : dumpHalf b 0xFF02 s4 = .ok slot s5) (h6 : dumpHalf b 0xFF00 s5 = .ok io s6) :
    s6.cur = s.cur := by
  rw [(dumpHalf_reads _ _).only h6, (dumpHalf_reads _ _).only h5, (readSaved_reads _).only h4, (physBytes_reads _).only h3,
    (dumpWord_reads _ _).only h2, (dumpWord_reads _ _).only h1]
  rfl

/-- SMI# (R1453 to R1455). -/
theorem smi_entry (s : State) : ∃ t, s.takeSmi = .next t ∧
    t.inSmm = true ∧ t.smiPending = false ∧ t.eip = 0x8000 ∧ t.flags = Flags.reset ∧ t.cpl = 0 ∧ t.cr.cr4 = 0 ∧ t.dr.dr7 = 0x400 ∧
    t.cr.cr0 = s.cr.cr0 &&& 0x7FFFFFF2 ∧ t.segs.cs.sel = 0x3000 ∧ t.segs.cs.base = s.smbase ∧ t.segs.cs.limit = 0xFFFFFFFF ∧
    t.segs.cs.attr.typ.getLsbD 3 = true ∧ t.segs.cs.attr.typ.getLsbD 1 = true ∧ t.segs.cs.attr.db = false ∧
    (∀ g ∈ [t.segs.ds, t.segs.es, t.segs.fs, t.segs.gs, t.segs.ss], g.sel = 0 ∧ g.base = 0 ∧ g.limit = 0xFFFFFFFF ∧ g.attr.db = false) ∧
    t.smbase = s.smbase ∧ t.nmiBlocked = s.nmiBlocked ∧ t.fpu = s.fpu ∧ t.tsc = s.tsc ∧ t.msrs = s.msrs ∧ t.inp = s.inp ∧ t.ticks = s.ticks ∧
    t.cr.cr2 = s.cr.cr2 ∧ t.cr.cr3 = s.cr.cr3 ∧
    t.dr = { s.dr with dr6 := t.dr.dr6, dr7 := 0x400 } ∧ t.itlb = [] ∧ t.dtlb = [] ∧
    t.smm = { cr2 := s.cr.cr2, cr4 := s.cr.cr4, gdtr := s.gdtr, idtr := s.idtr, segs := s.segs, ldtr := s.ldtr, tr := s.tr, cpl := s.cpl
              base := s.smbase, dump := t.smm.dump, idtLoaded := false, halted := s.run == .halted, ioRestart := s.lastIo } ∧
    (allRam s → t.mem = dumpMem s ∧ t.smm.dump = dumpBytes (dumpMem s) s.smbase) := by
  obtain ⟨m, b, n, dump, x, hrun, hram⟩ := takeSmi_run s
  have hcode : (0xB : BitVec 4).getLsbD 3 = true ∧ (0xB : BitVec 4).getLsbD 1 = true := by decide
  refine ⟨_, hrun, rfl, rfl, rfl, rfl, rfl, rfl, rfl, rfl, rfl, rfl, rfl, hcode.1, hcode.2, rfl, ?_, rfl, rfl, rfl, rfl, rfl, rfl, rfl, rfl, rfl, rfl, rfl,
    rfl, rfl, hram⟩
  intro g hg
  obtain rfl : g = Seg.smm 3 0 0 := by simpa [smmStart] using hg
  exact ⟨rfl, rfl, rfl, rfl⟩

/-- Settles O37: the entry by `takeSmi_run` and the dump's bytes, RSM by its stages. -/
theorem systemManagement : Obligations.SystemManagement := by
  unfold Obligations.SystemManagement
  refine ⟨fun s => rsm_outside, fun s => ?_, ?_⟩
  · obtain ⟨t, hrun, hsmm, hpend, heip, hfl, hcpl, hcr4, hdr7, hcr0, hcs, hbase, hlim, hcode, hread, hdb, hdata, hsmb, hnmi, hfpu, htsc, hmsrs, hinp,
      hticks, hcr2, hcr3, hdr, hitlb, hdtlb, hshadow, hram⟩ := smi_entry s
    refine ⟨t, hrun, hsmm, hpend, heip, hfl, hcpl, hcr4, hdr7, hcr0, hcs, hbase, hlim, hcode, hread, hdb, hdata, hsmb, hnmi, hfpu, htsc, hmsrs, hinp,
      hticks, hcr2, hcr3, hdr, hitlb, hdtlb, hshadow, fun hmap ha20 hwf hfit => ?_⟩
    obtain ⟨hmem, hdump⟩ := hram (allRam_of_plain hmap ha20)
    refine ⟨fun a ha => ?_, ?_, fun k v j hkv hj => dump_slots hmem hwf hfit (k, v) hkv j hj⟩
    · rw [byteAt, hmem, dumpMem_outside hfit ha, byteAt]
    · rw [hdump]
      exact ⟨dumpBytes_length _ _, fun k hk => by rw [dumpBytes_get _ hfit, byteAt, hmem]⟩
  · intro s s1 s2 s3 s4 s5 s6 nb cr0 d v slot io hin hlevel base h1 h2 h3 h4 h5 h6 legal
    have hlegal : rsmIllegal s nb cr0 = false ↔ legal := rsmIllegal_iff s nb cr0
    refine ⟨fun hmap ha20 hfit => ?_, fun hno => ?_, fun eip hok hkept hio => ?_⟩
    · obtain ⟨rfl, rfl, rfl, rfl, rfl⟩ := rsm_ram (s := s.enter) (allRam_of_plain hmap ha20) h1 h2 h3 h4 h5 h6
      obtain ⟨hwords, hhalves⟩ := rsm_slots (s := s) hfit
      exact ⟨fun k w j hkw hj => hwords (k, w) hkw j hj, fun k w j hkw hj => hhalves (k, w) hkw j hj⟩
    · exact rsm_shutdown hin hlevel h1 h2 (by rw [← Bool.not_eq_false, hlegal]; exact hno)
    · have hcur : s6.cur = s.cur := rsm_cur h1 h2 h3 h4 h5 h6
      have hsome : io = 0 ∨ (io = 0xFF ∧ s.smm.ioRestart.isSome = true) := hio.imp And.left (And.imp_right fun h => by rw [h]; rfl)
      have heip : (if io = 0xFF then s.smm.ioRestart.getD v.eip else v.eip) = eip := by
        rcases hio with ⟨h, rfl⟩ | ⟨h, hres⟩
        · rw [h, if_neg (by decide)]
        · rw [h, if_pos rfl, hres]
          rfl
      have hread := resume_read hin hlevel h1 h2 (hlegal.mpr hok) h3 h4 h5 h6 hkept hsome
      have back {t : State} (h : rsmRestore s.enter nb cr0 v slot io s6 = .ok () t) : Ran .rsm s t :=
        ran_of_run (show exec .rsm s = runInstr resume s from rfl) (hread.trans h)
      obtain ⟨hreal, hv86, hprot⟩ := resumeCpl_level s cr0 v.eflags v.cs
      refine ⟨_, hreal, hv86, hprot, fun h => back (rsmRestore_running hcur heip h), fun h hh => back (rsmRestore_halted hcur heip h hh),
        fun h hh => runInstr_refuse (hread.trans (rsmRestore_refused h hh)), fun h => ?_⟩
      obtain ⟨run, hrun, hend⟩ := rsmRestore_drawn hcur heip h
      exact ⟨run, hrun, back hend⟩

end Sys2Proof.Laws

end
end

section
/-! O48: an ESC instruction when the FPU is not available or an exception is pending (48_fpu_instructions.md R1100, 47_fpu_numerics.md R1061). -/

noncomputable section

namespace Sys2Proof.Laws

open Sys2Proof Sys2Proof.Machine Sys2Proof.Claims

/-! ## The first byte -/

/-- The bytes D8H to DFH. -/
def escByte (b : Byte) : Bool := b >>> 3 == 0x1B

theorem escByte_iff : ∀ b : Byte, escByte b = true ↔ 0xD8 ≤ b.toNat ∧ b.toNat ≤ 0xDF := by decide

theorem escByte_opPlus : ∀ (op : Byte) (n : BitVec 3), escByte (opPlus op n) = escByte op := by
  intro op n
  have hshift : (n.setWidth 8 : Byte) >>> 3 = 0 := by revert n; decide
  rw [escByte, escByte, opPlus, BitVec.ushiftRight_or_distrib, hshift]
  exact congrArg (· == _) BitVec.or_zero

theorem escByte_jcc (cc : Cond) : escByte (opCond 0x70 cc) = false := by cases cc <;> rfl

/-- An encoding whose first byte is no ESC byte. -/
theorem not_esc_of_head {l : List Byte} {b c : Byte} {rest : List Byte} (h : l = b :: rest) (hc : l.head? = some c) (hno : escByte c = false) :
    ¬ escByte b = true := by
  subst h
  cases hc
  rw [hno]
  decide

/-- What an ESC instruction does: the check of R1100, then the rest; it reports a pending exception unless it is a no-wait form. -/
def RunsEsc (i : Instr) : Prop :=
  ∃ (waiting : Bool) (body : Unit → M Unit), (waiting = false → noWait i) ∧ ∀ s, exec i s = runInstr (escCheck waiting >>= body) s

theorem RunsEsc.control {i : Instr} (body : Unit → M Unit) (h : ∀ s, exec i s = runInstr (escCheck true >>= body) s) : RunsEsc i :=
  ⟨true, body, nofun, h⟩

theorem RunsEsc.noWait (x : NoWait) (body : Unit → M Unit) (h : ∀ s, exec x.instr s = runInstr (escCheck false >>= body) s) : RunsEsc x.instr :=
  ⟨false, body, fun _ => ⟨x, rfl⟩, h⟩

theorem runsEsc_of_isEsc {i : Instr} (h : isEsc i) : RunsEsc i := by
  obtain ⟨os, as, b, rest, henc, hb⟩ := h
  rw [← escByte_iff] at hb
  cases i
  case fninit => exact .noWait .init _ fun _ => rfl
  case fnclex => exact .noWait .clex _ fun _ => rfl
  case fnstswAx => exact .noWait .stswAx _ fun _ => rfl
  case fnstcwM16 m => exact .noWait (.stcw m) _ fun _ => rfl
  case fnstswM16 m => exact .noWait (.stsw m) _ fun _ => rfl
  case fnstenvM m => exact .noWait (.stenv m) _ fun _ => rfl
  case fnsaveM m => exact .noWait (.save m) _ fun _ => rfl
  case jccRel8 cc rel => exact absurd hb (not_esc_of_head henc rfl (escByte_jcc cc))
  case incR | decR | pushR | popR | xchgEaxR | movR8Imm8 | movRImm => exact absurd hb (not_esc_of_head henc rfl (escByte_opPlus _ _))
  all_goals first
    | exact absurd hb (not_esc_of_head henc rfl rfl)
    | exact .control _ fun _ => rfl

/-! ## The checks -/

theorem escCheck_unavailable {s : State} (h : s.em = true ∨ s.tsFlag = true) (waiting : Bool) :
    escCheck waiting s = .error (.exc { vec := 7, code := none, dbg := none }) s := by
  have hoff : (!(s.em || s.tsFlag)) = false := by rw [Bool.not_eq_false', Bool.or_eq_true]; exact h
  rw [escCheck, get_bind, hoff, require_false]
  rfl

theorem escCheck_available {s : State} (hem : s.em = false) (hts : s.tsFlag = false) (waiting : Bool) :
    escCheck waiting s = (if waiting then reportPending else pure ()) s := by
  rw [escCheck, get_bind, hem, hts, Bool.or_false, Bool.not_false, require_true, pure_bind]

theorem waitOp_available {s : State} (h : ¬ (s.mp = true ∧ s.tsFlag = true)) : waitOp s = reportPending s := by
  have hon : (!(s.mp && s.tsFlag)) = true := by rw [Bool.not_eq_true', ← Bool.not_eq_true, Bool.and_eq_true]; exact h
  rw [waitOp, get_bind, hon, require_true, pure_bind]

theorem reportPending_raises {s : State} (hes : s.fpu.sw.es = true) (hne : s.ne = true) :
    reportPending s = .error (.exc { vec := 16, code := none, dbg := none }) s := by
  rw [reportPending, get_bind, hes, hne]
  rfl

theorem reportPending_waits {s : State} (hes : s.fpu.sw.es = true) (hne : s.ne = false) (hig : s.inp.ignne = false) :
    reportPending s = .error .stall s := by
  rw [reportPending, get_bind, hes, hne, hig]
  rfl

theorem reportPending_passes {s : State} (h : s.fpu.sw.es = false ∨ (s.ne = false ∧ s.inp.ignne = true)) : reportPending s = .ok () s := by
  rw [reportPending, get_bind]
  rcases h with hes | ⟨hne, hig⟩
  · rw [hes]
    rfl
  · rw [hne, hig]
    cases s.fpu.sw.es <;> rfl

/-- An instruction that reports the pending exception first (R1061, R1231). -/
theorem pending_reported {i : Instr} {s : State} {m : M Unit} {f : Unit → M Unit} (hi : exec i s = runInstr (m >>= f) s)
    (hm : m s.enter = reportPending s.enter) (hes : s.fpu.sw.es = true) :
    (s.ne = true → Faults i s { vec := 16, code := none, dbg := none } s.enter) ∧
    (s.ne = false → s.inp.ignne = false → exec i s = .next { s with cur := .empty, inhibitSs := false, inhibitSti := false }) := by
  refine ⟨fun hne => faults_of_run hi (bind_of_error (hm.trans (reportPending_raises hes hne))) rfl, fun hne hig => ?_⟩
  rw [hi, runInstr_stall (bind_of_error (hm.trans (reportPending_waits hes hne hig)))]
  rfl

/-- Settles O48: an ESC instruction starts with `escCheck`, WAIT with its own check. -/
theorem floatNotAvailable : Obligations.FloatNotAvailable := by
  unfold Obligations.FloatNotAvailable
  refine fun i s => ⟨fun hesc hoff => ?_, ?_⟩
  · obtain ⟨waiting, body, -, hi⟩ := runsEsc_of_isEsc hesc
    exact faults_of_run (hi s) (bind_of_error (escCheck_unavailable (s := s.enter) hoff waiting)) rfl
  · rintro (⟨hesc, hwait, hem, hts⟩ | ⟨rfl, hon⟩) hes
    · obtain ⟨waiting, body, hno, hi⟩ := runsEsc_of_isEsc hesc
      cases waiting with
      | false => exact absurd (hno rfl) hwait
      | true => exact pending_reported (hi s) (escCheck_available (s := s.enter) hem hts true) hes
    · have hwait : exec .wait s = runInstr (waitOp >>= pure) s := by rw [bind_pure]; rfl
      exact pending_reported hwait (waitOp_available (s := s.enter) hon) hes

end Sys2Proof.Laws

end
end

section
/-! The FPU as a layer of its own: what the steps of an ESC instruction do to it (48_fpu_instructions.md R1100, R1101). -/

noncomputable section

namespace Sys2Proof.Laws

open Sys2Proof Sys2Proof.Machine Sys2Proof.Claims

/-! ## States that differ in the FPU and the draws -/

/-- The state with another FPU and another number of draws. -/
def withFpu (s : State) (f : Fpu) (n : Nat) : State := { s with fpu := f, draws := n }

@[simp] theorem withFpu_fpu (s : State) (f : Fpu) (n : Nat) : (withFpu s f n).fpu = f := rfl

theorem withFpu_self (s : State) : withFpu s s.fpu s.draws = s := rfl

/-- The FPU with its status word changed. -/
def withSw (f : Fpu) (fl : Fsw → Fsw) : Fpu := { f with sw := fl f.sw }

/-- The FPU with ES computed (R1101). -/
def summarised (f : Fpu) : Fpu := { f with sw := { f.sw with es := f.pendingEs } }

theorem final_summarised (k : Fpu → Fpu) (fl : Fsw → Fsw) (f : Fpu) : Final k fl f (summarised (withSw (k f) fl)) := rfl

theorem summarise_run (s : State) : summarise s = .ok () (withFpu s (summarised s.fpu) s.draws) := rfl

/-! ## Steps on the FPU -/

/-- From the FPU `f` the computation changes the FPU and the draws alone, and ends as `Q` says. -/
def Fp {α : Type} (f : Fpu) (m : M α) (Q : α → Fpu → Prop) : Prop :=
  ∀ s n, ∃ v g n', m (withFpu s f n) = .ok v (withFpu s g n') ∧ Q v g

section
variable {α β : Type} {f : Fpu} {m : M α} {h : α → M β} {P Q : α → Fpu → Prop} {R : β → Fpu → Prop}

theorem Fp.pure {v : α} (hQ : Q v f) : Fp f (pure v) Q := fun _ n => ⟨v, f, n, rfl, hQ⟩

theorem Fp.mono (hm : Fp f m P) (himp : ∀ v g, P v g → Q v g) : Fp f m Q := fun s n => by
  obtain ⟨v, g, n', hrun, hP⟩ := hm s n
  exact ⟨v, g, n', hrun, himp v g hP⟩

theorem Fp.bind (hm : Fp f m P) (hh : ∀ v g, P v g → Fp g (h v) R) : Fp f (m >>= h) R := fun s n => by
  obtain ⟨v, f', n', hrun, hP⟩ := hm s n
  obtain ⟨w, g, n'', hrun', hQ⟩ := hh v f' hP s n'
  exact ⟨w, g, n'', by rw [bind_of_ok hrun, hrun'], hQ⟩

theorem Fp.seq (hm : Fp f m fun v g => Fp g (h v) R) : Fp f (m >>= h) R := hm.bind fun _ _ hg => hg

theorem Fp.ite {c : Prop} [Decidable c] {m m' : M α} (ht : c → Fp f m Q) (he : ¬ c → Fp f m' Q) : Fp f (if c then m else m') Q := by
  split
  · exact ht ‹_›
  · exact he ‹_›

/-- A step that looks at the state. -/
theorem Fp.get {h : State → M β} (hh : ∀ s n, Fp f (h (withFpu s f n)) R) : Fp f (MonadState.get >>= h) R := fun s n => by
  obtain ⟨v, g, n', hrun, hR⟩ := hh s n s n
  exact ⟨v, g, n', hrun, hR⟩

end

section
variable {f : Fpu} {Q : Unit → Fpu → Prop}

theorem modifyFpu_fp {k : Fpu → Fpu} (hQ : Q () (k f)) : Fp f (modifyFpu k) Q := fun _ n => ⟨(), k f, n, rfl, hQ⟩

theorem modifySw_fp {fl : Fsw → Fsw} (hQ : Q () (withSw f fl)) : Fp f (modifySw fl) Q := modifyFpu_fp hQ

theorem draw_fp {w : Nat} {Q : BitVec w → Fpu → Prop} (hQ : ∀ v, Q v f) : Fp f (draw w) Q := fun _ n => ⟨_, f, n + 1, rfl, hQ _⟩

theorem drawBool_fp {Q : Bool → Fpu → Prop} (hQ : ∀ b, Q b f) : Fp f drawBool Q := fun _ n => ⟨_, f, n + 1, rfl, hQ _⟩

/-- C0, C2 and C3 open (R1005). -/
def openC (fl : Fsw → Fsw) (c0 c2 c3 : Bool) (w : Fsw) : Fsw := { fl w with c0 := c0, c2 := c2, c3 := c3 }

theorem drawC023_fp (hQ : ∀ c0 c2 c3, Q () (withSw f (openC id c0 c2 c3))) : Fp f drawC023 Q :=
  .seq <| drawBool_fp fun a => .seq <| drawBool_fp fun b => .seq <| drawBool_fp fun c => modifySw_fp (hQ a b c)

theorem drawCc_fp (hQ : ∀ c0 c1 c2 c3, Q () (withSw f fun w => { w with c0 := c0, c1 := c1, c2 := c2, c3 := c3 })) : Fp f drawCc Q :=
  .seq <| drawC023_fp fun c0 c2 c3 => .seq <| drawBool_fp fun c1 => modifySw_fp (hQ c0 c1 c2 c3)

end

/-! ## Changes of registers and tags, and changes of flags -/

/-- A change of the status word that leaves TOP to itself. -/
def FlagsOnly (fl : Fsw → Fsw) : Prop := ∀ w t, fl { w with top := t } = { fl w with top := t }

theorem FlagsOnly.top {fl : Fsw → Fsw} (h : FlagsOnly fl) (w : Fsw) : (fl w).top = w.top := by
  have := congrArg Fsw.top (h w w.top)
  exact this

/-- A change of registers and tags that no flag has a part in. -/
def OnStack (k : Fpu → Fpu) : Prop := ∀ f fl, FlagsOnly fl → k (withSw f fl) = withSw (k f) fl

theorem OnStack.id : OnStack id := fun _ _ _ => rfl

theorem OnStack.comp {k l : Fpu → Fpu} (hl : OnStack l) (hk : OnStack k) : OnStack fun f => l (k f) := fun f fl h => by
  show l (k (withSw f fl)) = withSw (l (k f)) fl
  rw [hk f fl h, hl (k f) fl h]

theorem phys_withSw {f : Fpu} {fl : Fsw → Fsw} (h : FlagsOnly fl) (i : BitVec 3) : (withSw f fl).phys i = f.phys i := by
  have htop : (withSw f fl).sw.top = f.sw.top := h.top f.sw
  simp only [Fpu.phys, htop]

theorem st_withSw {f : Fpu} {fl : Fsw → Fsw} (h : FlagsOnly fl) (i : BitVec 3) : (withSw f fl).st i = f.st i := by
  simp only [Fpu.st, phys_withSw h]
  rfl

theorem isEmpty_withSw {f : Fpu} {fl : Fsw → Fsw} (h : FlagsOnly fl) (i : BitVec 3) : (withSw f fl).isEmpty i = f.isEmpty i := by
  simp only [Fpu.isEmpty, phys_withSw h]
  rfl

theorem setSt_onStack (i : BitVec 3) (v : Ext) : OnStack fun f => f.setSt i v := fun f fl h => by
  show (withSw f fl).setSt i v = withSw (f.setSt i v) fl
  simp only [Fpu.setSt, phys_withSw h]
  rfl

theorem free_onStack (i : BitVec 3) : OnStack fun f => f.free i := fun f fl h => by
  show (withSw f fl).free i = withSw (f.free i) fl
  simp only [Fpu.free, phys_withSw h]
  rfl

theorem rotate_onStack (d : BitVec 3) : OnStack fun f => f.rotate d := fun f fl h => by
  show Fpu.rotate (withSw f fl) d = withSw (f.rotate d) fl
  simp only [Fpu.rotate, withSw, h.top, h f.sw (f.sw.top + d)]

theorem push_onStack (v : Ext) : OnStack fun f => f.push v := (setSt_onStack 0 v).comp (rotate_onStack 7)

theorem pop_onStack : OnStack fun f => f.pop := (rotate_onStack 1).comp (free_onStack 0)

theorem pops_onStack (n : Nat) : OnStack fun f => f.pops n := by
  induction n with
  | zero => exact .id
  | succ n ih => exact ih.comp pop_onStack

theorem ifMasked_onStack {k : Fpu → Fpu} (hk : OnStack k) (cw : Half) : OnStack (ifMasked cw k) := fun f fl h => by
  rw [ifMasked, ifMasked]
  split
  · exact hk f fl h
  · rfl

theorem withResult_onStack {k : Ext → Fpu → Fpu} (hk : ∀ v, OnStack (k v)) (res : Option Ext) : OnStack (withResult res k) := by
  cases res with
  | none => exact .id
  | some v => exact hk v

/-- Two flag changes one after the other. -/
theorem withSw_withSw (f : Fpu) (fl fl' : Fsw → Fsw) : withSw (withSw f fl) fl' = withSw f fun w => fl' (fl w) := rfl

theorem stackFlags_flagsOnly (overflow : Bool) : FlagsOnly (stackFlags overflow) := fun _ _ => rfl

theorem raised_flagsOnly (c : Bool) (r : Machine.Num) : FlagsOnly (raised c r) := fun _ _ => rfl

theorem c1_flagsOnly (c : Bool) : FlagsOnly fun w => { w with c1 := c } := fun _ _ => rfl

/-! ## Steps that change the stack -/

/-- The step changes registers and tags as `k` says. -/
def Does (m : M Unit) (k : Fpu → Fpu) : Prop := ∀ f, Fp f m fun _ g => g = k f

theorem Does.fp {m : M Unit} {k : Fpu → Fpu} (h : Does m k) {f : Fpu} {Q : Unit → Fpu → Prop} (hQ : Q () (k f)) : Fp f m Q :=
  (h f).mono fun _ _ hg => hg ▸ hQ

theorem Does.seq {m m' : M Unit} {k k' : Fpu → Fpu} (h : Does m k) (h' : Does m' k') : Does (do m; m') fun f => k' (k f) :=
  fun _ => .seq (h.fp (h' _))

theorem setSt_does (i : BitVec 3) (v : Ext) : Does (setSt i v) fun f => f.setSt i v := fun _ => modifyFpu_fp rfl
theorem pushSt_does (v : Ext) : Does (pushSt v) fun f => f.push v := fun _ => modifyFpu_fp rfl
theorem popSt_does (n : Nat) : Does (popSt n) fun f => f.pops n := fun _ => modifyFpu_fp rfl

/-- A stack fault: the flags, and the masked response (R1062). -/
theorem stackFault_fp {overflow : Bool} {m : M Unit} {k : Fpu → Fpu} (hm : Does m k) (hk : OnStack k) {f : Fpu} {Q : Unit → Fpu → Prop}
    (hQ : Q () (withSw (ifMasked f.cw k f) (stackFlags overflow))) : Fp f (stackFault overflow m) Q := by
  refine .seq (modifySw_fp (.get fun s n => ?_))
  have hmask : ifMasked f.cw k f = if cwIm f.cw then k f else f := rfl
  rw [hmask] at hQ
  show Fp _ (if cwIm f.cw then m else pure ()) Q
  generalize cwIm f.cw = masked at hQ ⊢
  cases masked with
  | false => exact .pure hQ
  | true =>
    have hcomm : Q () (k (withSw f (stackFlags overflow))) := by
      rw [hk f _ (stackFlags_flagsOnly overflow)]
      exact hQ
    exact hm.fp hcomm

/-- C0, C2 and C3 are open. -/
def Opened (k : Fpu → Fpu) (fl : Fsw → Fsw) (f g : Fpu) : Prop := ∃ c0 c2 c3, g = withSw (k f) (openC fl c0 c2 c3)

theorem settled_of_opened {k : Fpu → Fpu} {fl : Fsw → Fsw} {f g : Fpu} (h : Opened k fl f g) : Settled k fl f (summarised g) := by
  obtain ⟨c0, c2, c3, rfl⟩ := h
  exact ⟨c0, c2, c3, rfl⟩

/-- The draws of C0, C2 and C3 at the end of an instruction. -/
theorem drawC023_opened {k : Fpu → Fpu} {fl : Fsw → Fsw} {f : Fpu} {Q : Unit → Fpu → Prop} (hQ : ∀ g, Opened k fl f g → Q () g) :
    Fp (withSw (k f) fl) drawC023 Q := drawC023_fp fun c0 c2 c3 => hQ _ ⟨c0, c2, c3, rfl⟩

/-! ## The prologue and the end -/

section
variable {s : State} (hon : fpuOn s)
include hon

theorem escCheck_on (waiting : Bool) : escCheck waiting s.enter = .ok () s.enter := by
  obtain ⟨hem, hts, hpend⟩ := hon
  rw [escCheck_available (s := s.enter) hem hts]
  cases waiting
  · rfl
  · exact reportPending_passes (s := s.enter) hpend

omit hon in
theorem pointersReg_run : ∃ fds fdp n, pointersReg s.enter = .ok () (withFpu s.enter (regPtrs s fds fdp) n) := by
  obtain ⟨fds, hfds⟩ : ∃ fds : Half, draw 16 s.enter = .ok fds { s.enter with draws := s.draws + 1 } := ⟨_, rfl⟩
  obtain ⟨fdp, hfdp⟩ : ∃ fdp : Word, draw 32 { s.enter with draws := s.draws + 1 } = .ok fdp { s.enter with draws := s.draws + 2 } := ⟨_, rfl⟩
  refine ⟨fds, fdp, s.draws + 2, ?_⟩
  rw [pointersReg, bind_of_ok hfds, bind_of_ok hfdp, modify_run, withFpu, regPtrs, ← startEip_enter s]
  rfl

omit hon in
theorem pointersMem_run (m : MemOp) : pointersMem m s.enter = .ok () (memStart m s) := by
  rw [pointersMem, modify_run, memStart, regPtrs, ← startEip_enter s]
  rfl

/-- An ESC instruction on registers: what its body makes of the FPU with the pointers set. -/
theorem ran_reg {i : Instr} {body : M Unit} {P : Fpu → Fpu → Prop} (hi : exec i s = runInstr (escReg body) s)
    (hbody : ∀ f, Fp f body fun _ g => P f g) : ∃ (fds : Half) (fdp : Word) (g : Fpu) (n : Nat),
      Ran i s { s.enter with fpu := summarised g, draws := n } ∧ P (regPtrs s fds fdp) g := by
  obtain ⟨fds, fdp, n, hptr⟩ := pointersReg_run (s := s)
  obtain ⟨_, g, n', hrun, hP⟩ := hbody (regPtrs s fds fdp) s.enter n
  refine ⟨fds, fdp, g, n', ran_of_run hi ?_, hP⟩
  rw [escReg, bind_of_ok (escCheck_on hon true), bind_of_ok hptr, bind_of_ok hrun, summarise_run]
  rfl

/-- An ESC instruction with a memory operand. -/
theorem ran_mem {i : Instr} {m : MemOp} {n al : Nat} {k : Kind} {body : List Word → M Unit} {ps : List Word} {s1 t : State} {g : Fpu} {d : Nat}
    (hi : exec i s = runInstr (escMem m n al k body) s) (hacc : access s.as (s.eaSeg m) (s.eaOff m) n al k (memStart m s) = .ok ps s1)
    (hbody : body ps s1 = .ok () (withFpu t g d)) : Ran i s { t with fpu := summarised g, draws := d } := by
  have hmem : memAccess m n al k (memStart m s) = .ok ps s1 := hacc
  refine ran_of_run hi ?_
  rw [escMem, bind_of_ok (escCheck_on hon true), bind_of_ok (pointersMem_run m), bind_of_ok hmem, bind_of_ok hbody, summarise_run]
  rfl

end

end Sys2Proof.Laws

end
end

section
/-! O45: stack control (48_fpu_instructions.md R1105, R1169 to R1173). -/

noncomputable section

namespace Sys2Proof.Laws

open Sys2Proof Sys2Proof.Machine Sys2Proof.Claims

theorem fxch_fp (i : BitVec 3) (f : Fpu) : Fp f (fxch i) fun _ g =>
    let a := if f.isEmpty 0 then Ext.indefinite else f.st 0
    let b := if f.isEmpty i then Ext.indefinite else f.st i
    if f.isEmpty 0 ∨ f.isEmpty i then Opened (ifMasked f.cw fun g => (g.setSt i a).setSt 0 b) (stackFlags false) f g
    else Opened (fun g => (g.setSt i a).setSt 0 b) (fun w => { w with c1 := false }) f g := by
  have hswap (a b : Ext) : Does (do setSt i a; setSt 0 b) fun g => (g.setSt i a).setSt 0 b := (setSt_does i a).seq (setSt_does 0 b)
  have hstack (a b : Ext) : OnStack fun g => (g.setSt i a).setSt 0 b := (setSt_onStack 0 b).comp (setSt_onStack i a)
  refine .get fun s n => .ite (fun hc => ?_) fun hc => ?_
  · rw [withFpu_fpu, Bool.or_eq_true] at hc
    refine .seq (stackFault_fp (hswap _ _) (hstack _ _) (drawC023_opened fun g hg => ?_))
    simp only [if_pos hc]
    exact hg
  · rw [withFpu_fpu, Bool.or_eq_true] at hc
    refine .seq ((hswap _ _).fp (.seq (modifySw_fp (drawC023_fp fun c0 c2 c3 => ?_))))
    simp only [if_neg hc]
    exact ⟨c0, c2, c3, rfl⟩

theorem moveTop_fp (d : BitVec 3) (f : Fpu) :
    Fp f (moveTop d) fun _ g => Opened id (fun w => { w with top := w.top + d, c1 := false }) f g :=
  .seq <| modifyFpu_fp <| .seq <| drawC023_fp fun c0 c2 c3 => modifySw_fp ⟨c0, c2, c3, rfl⟩

theorem ffree_fp (i : BitVec 3) (f : Fpu) : Fp f (do modifyFpu fun f => f.free i; drawCc) fun _ g =>
    ∃ c1, Opened (fun g => { g with empty := g.empty.set (g.phys i) true }) (fun w => { w with c1 := c1 }) f g :=
  .seq <| modifyFpu_fp <| drawCc_fp fun c0 c1 c2 c3 => ⟨c1, c0, c2, c3, rfl⟩

/-- FENI, FDISI, FSETPM (R1173). -/
theorem ran_legacyNop {i : Instr} {s : State} (hon : fpuOn s) (hi : exec i s = runInstr legacyNop s) :
    ∃ (fds : Half) (fdp : Word) (n : Nat), Ran i s { s.enter with fpu := regPtrs s fds fdp, draws := n } := by
  obtain ⟨fds, fdp, n, hptr⟩ := pointersReg_run (s := s)
  exact ⟨fds, fdp, n, ran_of_run hi ((bind_of_ok (escCheck_on hon true)).trans hptr)⟩

/-- Settles O45, by what each body does to the FPU. -/
theorem floatStackControl : Obligations.FloatStackControl := by
  unfold Obligations.FloatStackControl
  refine ⟨fun s hon => ⟨fun i => ?_, ?_, fun i => ?_, ?_, ?_⟩, fun s => ⟨fun hoff => ?_, fun hon hpend => ?_⟩⟩
  · obtain ⟨fds, fdp, g, n, hran, hP⟩ := ran_reg hon (show exec (.fxchSti i) s = runInstr (escReg (fxch i)) s from rfl) (fxch_fp i)
    refine ⟨fds, fdp, _, n, hran, ?_⟩
    simp only at hP ⊢
    split at hP
    · next hc => rw [if_pos hc]; exact settled_of_opened hP
    · next hc => rw [if_neg hc]; exact settled_of_opened hP
  · have move (i : Instr) (d : BitVec 3) (hi : exec i s = runInstr (escReg (moveTop d)) s) :
        ∃ (fds : Half) (fdp : Word) (f : Fpu) (n : Nat), Ran i s { s.enter with fpu := f, draws := n } ∧
          Settled id (fun w => { w with top := w.top + d, c1 := false }) (regPtrs s fds fdp) f := by
      obtain ⟨fds, fdp, g, n, hran, hP⟩ := ran_reg hon hi (moveTop_fp d)
      exact ⟨fds, fdp, _, n, hran, settled_of_opened hP⟩
    rw [List.forall_mem_cons, List.forall_mem_singleton]
    exact ⟨move .fincstp 1 rfl, move .fdecstp 7 rfl⟩
  · obtain ⟨fds, fdp, g, n, hran, c1, hP⟩ := ran_reg hon (i := .ffreeSti i) rfl (ffree_fp i)
    exact ⟨fds, fdp, _, n, c1, hran, settled_of_opened hP⟩
  · obtain ⟨fds, fdp, g, n, hran, rfl⟩ := ran_reg (P := fun f g => g = f) hon (i := .fnop) rfl fun f => .pure rfl
    exact ⟨fds, fdp, _, n, hran, rfl⟩
  · simp only [List.forall_mem_cons]
    exact ⟨ran_legacyNop hon rfl, ran_legacyNop hon rfl, ran_legacyNop hon rfl, fun _ h => nomatch h⟩
  · have hmem : (!(s.mp && s.tsFlag)) = false := by rw [hoff.1, hoff.2]; rfl
    refine faults_of_run (show exec .wait s = runInstr waitOp s from rfl) ?_ rfl
    rw [waitOp, get_bind]
    exact congrFun (congrArg (fun b => (do require b nm; reportPending : M Unit)) hmem) s.enter
  · exact ran_of_run (show exec .wait s = runInstr waitOp s from rfl)
      ((waitOp_available (s := s.enter) hon).trans (reportPending_passes (s := s.enter) hpend))

end Sys2Proof.Laws

end
end

section
/-! The environment images of the FPU: what is stored, and what is read back (12_state_fpu.md R1008 to R1013, 48_fpu_instructions.md R1165 to R1168). -/

noncomputable section

namespace Sys2Proof.Laws

open Sys2Proof Sys2Proof.Machine Sys2Proof.Claims

/-! ## Fields one after the other -/

/-- The bytes of each field. -/
def fieldBytes (n count : Nat) (ps : List Word) : List (List Word) := (List.range count).map fun i => (ps.drop (n * i)).take n

theorem fieldBytes_succ (n count : Nat) (ps : List Word) : fieldBytes n (count + 1) ps = ps.take n :: fieldBytes n count (ps.drop n) := by
  have hshift (i : Nat) : (ps.drop (n * i.succ)).take n = ((ps.drop n).drop (n * i)).take n := by rw [List.drop_drop, Nat.mul_succ, Nat.add_comm]
  rw [fieldBytes, List.range_succ_eq_map, List.map_cons, List.map_map]
  simp only [Function.comp_def, hshift]
  rfl

theorem storeFields_storedAll (n : Nat) (ps : List Word) (vs : List Nat) (s : State) :
    ∃ t, storeFields n ps vs s = .ok () t ∧ StoredAll (fieldBytes n vs.length ps) vs s t := by
  induction vs generalizing ps s with
  | nil => exact ⟨s, rfl, rfl⟩
  | cons v vs ih =>
    obtain ⟨u, hu, hstored⟩ := store_stored (ps.take n) v s
    obtain ⟨t, ht, hrest⟩ := ih (ps.drop n) u
    refine ⟨t, by rw [storeFields, bind_of_ok hu, ht], ?_⟩
    rw [List.length_cons, fieldBytes_succ]
    exact ⟨u, hstored, hrest⟩

/-! ## The tag word -/

theorem tagOf_lt (x : Ext) : tagOf x < 3 := by
  rw [tagOf]
  split <;> decide

/-- Eight two-bit fields, each read back. -/
theorem tag_digits {t : Fin 8 → Nat} (h : ∀ i, t i < 4) :
    (∀ i : Fin 8, (t 0 * 4 ^ 0 + t 1 * 4 ^ 1 + t 2 * 4 ^ 2 + t 3 * 4 ^ 3 + t 4 * 4 ^ 4 + t 5 * 4 ^ 5 + t 6 * 4 ^ 6 + t 7 * 4 ^ 7) / 4 ^ i.val % 4 = t i) ∧
    t 0 * 4 ^ 0 + t 1 * 4 ^ 1 + t 2 * 4 ^ 2 + t 3 * 4 ^ 3 + t 4 * 4 ^ 4 + t 5 * 4 ^ 5 + t 6 * 4 ^ 6 + t 7 * 4 ^ 7 < 2 ^ 16 := by
  have h0 := h 0
  have h1 := h 1
  have h2 := h 2
  have h3 := h 3
  have h4 := h 4
  have h5 := h 5
  have h6 := h 6
  have h7 := h 7
  refine ⟨fun i => ?_, by omega⟩
  fin_cases i <;> simp only [Nat.reducePow, Fin.isValue, Fin.zero_eta, Fin.mk_one, Fin.reduceFinMk] <;> omega

theorem tag_lt (f : Fpu) (i : Fin 8) : (if f.empty[i] then 3 else tagOf f.regs[i]) < 4 := by
  have := tagOf_lt f.regs[i]
  split <;> omega

theorem tagWord_fields (f : Fpu) (i : Fin 8) : f.tagWord / 4 ^ i.val % 4 = if f.empty[i] then 3 else tagOf f.regs[i] :=
  (tag_digits (tag_lt f)).1 i

theorem tagWord_lt (f : Fpu) : f.tagWord < 2 ^ 16 := (tag_digits (tag_lt f)).2

/-! ## The image -/

theorem linearPtr_eq (sel : Half) (off : Word) : linearPtr sel off = (16 * sel.toNat + off.toNat) % 2 ^ 32 := by
  have hsel := sel.isLt
  have hbase : (realBase sel).toNat = 16 * sel.toNat := by
    rw [realBase]
    simp only [BitVec.toNat_shiftLeft, BitVec.toNat_setWidth, Nat.shiftLeft_eq]
    omega
  rw [linearPtr, BitVec.toNat_add, hbase]

/-- What FNSTENV stores is the image of the environment (R1012). -/
theorem envImage_envFields (s : State) {r : Nat → Nat} (hr : ∀ i, r i < 65536) : envImage s (s.fpu.envFields (s.os == .s32) s.prot r) := by
  have hcw := s.fpu.cw.isLt
  have hsw := s.fpu.sw.word.isLt
  have htag := tagWord_lt s.fpu
  have hfop := s.fpu.fop.isLt
  have hfcs := s.fpu.fcs.isLt
  have hfds := s.fpu.fds.isLt
  have hfip := s.fpu.fip.isLt
  have hfdp := s.fpu.fdp.isLt
  have hr0 := hr 0
  have hr1 := hr 1
  have hr2 := hr 2
  have hr3 := hr 3
  have hr4 := hr 4
  have hip := linearPtr_eq s.fpu.fcs s.fpu.fip
  have hdp := linearPtr_eq s.fpu.fds s.fpu.fdp
  have hiplt : linearPtr s.fpu.fcs s.fpu.fip < 2 ^ 32 := by omega
  have hdplt : linearPtr s.fpu.fds s.fpu.fdp < 2 ^ 32 := by omega
  have htags := tagWord_fields s.fpu
  have hlow (i : Nat) {v : Nat} (hv : v < 2 ^ 16) : (v + 65536 * r i) % 2 ^ 16 = v := by omega
  simp only [envImage, ← hip, ← hdp]
  have hwide : (Size.s32 == Size.s32) = true := rfl
  have hnarrow : (Size.s16 == Size.s32) = false := rfl
  cases hos : s.os <;> cases hprot : s.prot
  all_goals
    simp only [Fpu.envFields, hwide, hnarrow, List.cons_append, List.nil_append, List.length_cons, List.length_nil, List.forall_mem_cons,
      List.not_mem_nil, List.getD_cons_zero, List.getD_cons_succ, Nat.mod_eq_of_lt hcw, Nat.mod_eq_of_lt hsw, Nat.mod_eq_of_lt htag,
      hlow 0 hcw, hlow 1 hsw, hlow 2 htag, hlow 3 hfds, htags, Size.bits, true_implies, reduceCtorEq, false_implies, implies_true, true_and,
      and_true]
    and_intros <;> omega

end Sys2Proof.Laws

end
end

section
/-! O46: control instructions of the FPU (48_fpu_instructions.md R1160 to R1168). -/

noncomputable section

namespace Sys2Proof.Laws

open Sys2Proof Sys2Proof.Machine Sys2Proof.Claims

/-! ## Steps -/

theorem OnlyAccess.fpu_eq {s t : State} (h : OnlyAccess s t) : t.fpu = s.fpu := by rw [h]

/-- Every condition bit becomes a draw (R1005). -/
theorem drawCc_run (s : State) : ∃ g n, drawCc s = .ok () (withFpu s g n) ∧ openCc s.fpu g := by
  obtain ⟨_, g, n, hrun, hopen⟩ :=
    drawCc_fp (f := s.fpu) (Q := fun _ g => openCc s.fpu g) (fun _ _ _ _ => rfl) s s.draws
  exact ⟨g, n, hrun, hopen⟩

/-- Reading memory takes no notice of the FPU. -/
theorem physReadByte_fpu (f : Fpu) {a : Word} {s t : State} {v : Byte} (h : physReadByte a s = .ok v t) :
    physReadByte a { s with fpu := f } = .ok v { t with fpu := f } := by
  have hsame : State.a20 { s with fpu := f } a = s.a20 a := rfl
  rw [physReadByte, get_bind] at h ⊢
  rw [hsame]
  cases hr : regionAt s.memMap (s.a20 a).toNat with
  | none => rw [hr] at h; cases h; rfl
  | some r => cases r <;> rw [hr] at h <;> cases h <;> rfl

theorem load_fpu (f : Fpu) {ps : List Word} {s t : State} {v : Nat} (h : load ps s = .ok v t) :
    load ps { s with fpu := f } = .ok v { t with fpu := f } := by
  induction ps generalizing s v with
  | nil => cases h; rfl
  | cons a as ih =>
    obtain ⟨b, u, hb, h⟩ := bind_eq_ok.mp h
    obtain ⟨hi, w, hhi, h⟩ := bind_eq_ok.mp h
    cases h
    rw [load, bind_of_ok (physReadByte_fpu f hb), bind_of_ok (ih hhi)]
    rfl

/-! ## The no-wait forms -/

/-- What a no-wait instruction runs. -/
def noWaitBody : NoWait → M Unit
  | .init => fninitOp
  | .clex => fnclexOp
  | .stswAx => fnstswAxOp
  | .stcw m => storeWord m fun f => f.cw
  | .stsw m => storeWord m fun f => f.sw.word
  | .stenv m => fnstenvOp m
  | .save m => fnsaveOp m

theorem exec_noWait (x : NoWait) (s : State) : exec x.instr s = runInstr (noWaitBody x) s := by cases x <;> rfl

/-- FNSTSW and FNSTCW to memory (R1162, R1163). -/
theorem storeWord_run {m : MemOp} {f : Fpu → Half} {s s1 : State} {ps : List Word} (hcheck : escCheck false s.enter = .ok () s.enter)
    (hacc : access s.as (s.eaSeg m) (s.eaOff m) 2 2 .w s.enter = .ok ps s1) : ∃ u g n, Stored ps (f s.fpu).toNat s1 u ∧
      storeWord m f s.enter = .ok () (withFpu u g n) ∧ openCc s.fpu g := by
  obtain ⟨u, hstore, hstored⟩ := store_stored ps (f s.fpu).toNat s1
  obtain ⟨g, n, hrun, hopen⟩ := drawCc_run u
  have hwrite : writeMem m 2 2 (f s.enter.fpu).toNat s.enter = .ok () u :=
    (bind_of_ok (show memAccess m 2 2 .w s.enter = .ok ps s1 from hacc)).trans hstore
  have hfpu : u.fpu = s.fpu := ((access_checksOnly _ _ _ _ _ _ hacc).trans (onlyAccess_of_stored hstored)).fpu_eq
  exact ⟨u, g, n, hstored, by rw [storeWord, bind_of_ok hcheck, get_bind, bind_of_ok hwrite, hrun], hfpu ▸ hopen⟩

/-- Five draws, then the fields. -/
theorem storeEnv_run {s s1 : State} (ps : List Word) (hacc : OnlyAccess s.enter s1) :
    ∃ u, storeEnv ps s1 = .ok () u ∧ EnvStored ps s { s1 with draws := s1.draws + 5 } u := by
  obtain ⟨r, w, hr, hw, hrun⟩ : ∃ (r : Nat → Nat) (w : State), (∀ i, r i < 65536) ∧ w = { s1 with draws := s1.draws + 5 } ∧
      storeEnv ps s1 = storeFields s1.os.bytes ps (s1.fpu.envFields (s1.os == .s32) s1.prot r) w := ⟨_, _, fun i => BitVec.isLt _, rfl, rfl⟩
  have hos : s1.os = s.os := hacc.os_eq
  have hprot : s1.prot = s.prot := hacc.prot_eq
  have hfpu : s1.fpu = s.fpu := hacc.fpu_eq
  rw [hos, hprot, hfpu] at hrun
  have himage : envImage s (s.fpu.envFields (s.os == .s32) s.prot r) := envImage_envFields s hr
  obtain ⟨u, hu, hstored⟩ := storeFields_storedAll s.os.bytes ps (s.fpu.envFields (s.os == .s32) s.prot r) w
  rw [himage.1] at hstored
  exact ⟨u, hrun.trans hu, _, himage, hw ▸ hstored⟩

theorem envStored_onlyAccess {ps : List Word} {s u t : State} (h : EnvStored ps s u t) : OnlyAccess u t := by
  obtain ⟨_, -, h⟩ := h
  exact onlyAccess_of_storedAll h

/-- FNSTENV (R1165). -/
theorem fnstenvOp_run {m : MemOp} {s s1 : State} {ps : List Word} (hcheck : escCheck false s.enter = .ok () s.enter)
    (hacc : access s.as (s.eaSeg m) (s.eaOff m) (envSize s false) s.os.bytes .w s.enter = .ok ps s1) :
    ∃ u g n, EnvStored ps s { s1 with draws := s1.draws + 5 } u ∧ fnstenvOp m s.enter = .ok () (withFpu u g n) ∧
      openCc { s.fpu with cw := s.fpu.cw ||| 0x3F, sw := { s.fpu.sw with es := false } } g := by
  have hmem : memAccess m (envBytes s.enter.os) s.enter.os.bytes .w s.enter = .ok ps s1 := hacc
  have hkept : OnlyAccess s.enter s1 := access_checksOnly _ _ _ _ _ _ hacc
  obtain ⟨u, hu, henv⟩ := storeEnv_run ps hkept
  have hfpu : u.fpu = s.fpu := (envStored_onlyAccess henv).fpu_eq.trans hkept.fpu_eq
  obtain ⟨g, n, hrun, hopen⟩ := drawCc_run (withFpu u { u.fpu with cw := u.fpu.cw ||| 0x3F } u.draws)
  refine ⟨u, summarised g, n, henv, ?_, ?_⟩
  · rw [fnstenvOp, bind_of_ok hcheck, get_bind, bind_of_ok hmem, bind_of_ok hu]
    exact (bind_of_ok (t := withFpu u { u.fpu with cw := u.fpu.cw ||| 0x3F } u.draws) rfl).trans ((bind_of_ok hrun).trans (summarise_run _))
  · rw [withFpu_fpu, hfpu] at hopen
    have hes : g.pendingEs = false := by
      rw [hopen]
      simp [Fpu.pendingEs, cwIm, cwDm, cwZm, cwOm, cwUm, cwPm, bit]
    rw [summarised, hes, hopen]
    rfl

/-- FNSAVE (R1167). -/
theorem fnsaveOp_run {m : MemOp} {s s1 : State} {ps : List Word} (hcheck : escCheck false s.enter = .ok () s.enter)
    (hacc : access s.as (s.eaSeg m) (s.eaOff m) (envSize s true) s.os.bytes .w s.enter = .ok ps s1) :
    ∃ u v, EnvStored (ps.take (envSize s false)) s { s1 with draws := s1.draws + 5 } u ∧
      StoredAll (fieldBytes 10 8 (ps.drop (envSize s false))) (s.fpu.stack.map fun x => x.toNat) u v ∧
      fnsaveOp m s.enter = .ok () { v with fpu := initialFpu s.fpu } := by
  have hmem : memAccess m (envBytes s.enter.os + 80) s.enter.os.bytes .w s.enter = .ok ps s1 := hacc
  have hkept : OnlyAccess s.enter s1 := access_checksOnly _ _ _ _ _ _ hacc
  obtain ⟨u, hu, henv⟩ := storeEnv_run (ps.take (envSize s false)) hkept
  obtain ⟨v, hv, hregs⟩ := storeFields_storedAll 10 (ps.drop (envSize s false)) (s.fpu.stack.map fun x => x.toNat) u
  have hfpu : v.fpu = s.fpu := (onlyAccess_of_storedAll hregs).fpu_eq.trans ((envStored_onlyAccess henv).fpu_eq.trans hkept.fpu_eq)
  refine ⟨u, v, henv, hregs, ?_⟩
  rw [fnsaveOp, bind_of_ok hcheck, get_bind]
  refine (bind_of_ok hmem).trans ((bind_of_ok hu).trans ((bind_of_ok hv).trans ?_))
  rw [← hfpu]
  rfl

/-- A no-wait form whose operand can be written completes. -/
theorem noWait_run (x : NoWait) {s : State} (h : x.ready s) : ∃ t, x.Done s t ∧ noWaitBody x s.enter = .ok () t := by
  obtain ⟨hem, hts, hready⟩ := h
  have hcheck : escCheck false s.enter = .ok () s.enter := escCheck_available (s := s.enter) hem hts false
  cases x with
  | init => exact ⟨_, rfl, bind_of_ok hcheck⟩
  | clex =>
    obtain ⟨g, n, hrun, hopen⟩ := drawCc_run { s.enter with fpu := withSw s.fpu fun w => { w with
      ie := false, de := false, ze := false, oe := false, ue := false, pe := false, sf := false, es := false } }
    refine ⟨_, ?_, (bind_of_ok hcheck).trans hrun⟩
    exact ⟨rfl, hopen⟩
  | stswAx =>
    obtain ⟨g, n, hrun, hopen⟩ := drawCc_run { s.enter with regs := s.regs.write 16 .eax s.fpu.sw.word }
    refine ⟨_, ?_, (bind_of_ok hcheck).trans hrun⟩
    exact ⟨rfl, hopen⟩
  | stcw m =>
    obtain ⟨ps, s1, hacc⟩ := hready
    obtain ⟨u, g, n, hstored, hrun, hopen⟩ := storeWord_run (f := fun f => f.cw) hcheck hacc
    exact ⟨_, ⟨ps, s1, u, hacc, hstored, rfl, hopen⟩, hrun⟩
  | stsw m =>
    obtain ⟨ps, s1, hacc⟩ := hready
    obtain ⟨u, g, n, hstored, hrun, hopen⟩ := storeWord_run (f := fun f => f.sw.word) hcheck hacc
    exact ⟨_, ⟨ps, s1, u, hacc, hstored, rfl, hopen⟩, hrun⟩
  | stenv m =>
    obtain ⟨ps, s1, hacc⟩ := hready
    obtain ⟨u, g, n, henv, hrun, hopen⟩ := fnstenvOp_run hcheck hacc
    exact ⟨_, ⟨ps, s1, _, u, hacc, rfl, henv, rfl, hopen⟩, hrun⟩
  | save m =>
    obtain ⟨ps, s1, hacc⟩ := hready
    obtain ⟨u, v, henv, hregs, hrun⟩ := fnsaveOp_run hcheck hacc
    refine ⟨_, ⟨ps, s1, _, u, v, hacc, rfl, henv, ?_, rfl⟩, hrun⟩
    simp only [← List.drop_drop]
    exact hregs

/-! ## Reading an environment back -/

/-- FLDCW (R1161). -/
theorem fldcwOp_run {m : MemOp} {s s1 s2 : State} {ps : List Word} {v : Nat} (hon : fpuOn s)
    (hacc : access s.as (s.eaSeg m) (s.eaOff m) 2 2 .r s.enter = .ok ps s1) (hload : load ps s1 = .ok v s2) : ∃ f n c1,
      fldcwOp m s.enter = .ok () (withFpu s2 f n) ∧
      Settled (fun g => { g with cw := BitVec.ofNat 16 v }) (fun w => { w with c1 := c1 }) s2.fpu f := by
  have hbody : Fp s2.fpu (do modifyFpu fun f => { f with cw := BitVec.ofNat 16 v }; drawCc; summarise) fun _ f =>
      ∃ c1, Settled (fun g => { g with cw := BitVec.ofNat 16 v }) (fun w => { w with c1 := c1 }) s2.fpu f :=
    .seq <| modifyFpu_fp <| .seq <| drawCc_fp fun c0 c1 c2 c3 => modifyFpu_fp ⟨c1, c0, c2, c3, rfl⟩
  obtain ⟨_, f, n, hrun, c1, hf⟩ := hbody s2 s2.draws
  have hread : readMem m 2 2 s.enter = .ok v s2 := readMem_run (s := s.enter) hacc hload
  exact ⟨f, n, c1, (bind_of_ok (escCheck_on hon true)).trans ((bind_of_ok hread).trans hrun), hf⟩

/-- Field `i` of the environment image `v` (R1012). -/
def envField (s : State) (v i : Nat) : Nat := v / 2 ^ (8 * s.os.bytes * i) % 2 ^ (8 * s.os.bytes)

theorem loadEnv_run {s s1 s2 : State} {ps : List Word} {v : Nat} (hacc : OnlyAccess s.enter s1)
    (hload : load (ps.take (envSize s false)) s1 = .ok v s2) : ∃ fop,
      loadEnv ps s1 = .ok () (withFpu s2 (s2.fpu.withEnv (s.os == .s32) s.prot (envField s v) fop) (s2.draws + 1)) := by
  have hload' : load (ps.take (envBytes s1.os)) s1 = .ok v s2 := by rw [hacc.os_eq]; exact hload
  refine ⟨Config.draw 11 s2.draws, ?_⟩
  rw [loadEnv, get_bind, bind_of_ok hload', hacc.os_eq, hacc.prot_eq]
  rfl

theorem withEnv_regs (f : Fpu) (wide prot : Bool) (g : Nat → Nat) (fop : BitVec 11) : (f.withEnv wide prot g fop).regs = f.regs := by
  cases wide <;> cases prot <;> rfl

theorem withEnv_sw (f : Fpu) (wide prot : Bool) (g : Nat → Nat) (fop : BitVec 11) :
    (f.withEnv wide prot g fop).sw = Fsw.ofWord (BitVec.ofNat 16 (g 1)) := by
  cases wide <;> cases prot <;> rfl

theorem withEnv_cw (f : Fpu) (wide prot : Bool) (g : Nat → Nat) (fop : BitVec 11) :
    (f.withEnv wide prot g fop).cw = BitVec.ofNat 16 (g 0) := by
  cases wide <;> cases prot <;> rfl

theorem withEnv_empty (f : Fpu) (wide prot : Bool) (g : Nat → Nat) (fop : BitVec 11) (i : Fin 8) :
    (f.withEnv wide prot g fop).empty[i] = (g 2 / 4 ^ i.val % 4 == 3) := by
  have hfields : (f.withEnv wide prot g fop).empty = #v[g 2 / 4 ^ 0 % 4 == 3, g 2 / 4 ^ 1 % 4 == 3, g 2 / 4 ^ 2 % 4 == 3, g 2 / 4 ^ 3 % 4 == 3,
      g 2 / 4 ^ 4 % 4 == 3, g 2 / 4 ^ 5 % 4 == 3, g 2 / 4 ^ 6 % 4 == 3, g 2 / 4 ^ 7 % 4 == 3] := by
    cases wide <;> cases prot <;> rfl
  rw [hfields]
  fin_cases i <;> rfl

/-- The pointers of an image (R1012): in protected mode offsets and selectors, otherwise linear addresses. -/
theorem withEnv_pointers (f : Fpu) (wide prot : Bool) {g : Nat → Nat} (fop : BitVec 11) (hnarrow : wide = false → ∀ i, g i < 2 ^ 16) :
    let e := f.withEnv wide prot g fop
    (prot = true → e.fip = BitVec.ofNat 32 (g 3) ∧ e.fcs = BitVec.ofNat 16 (g 4) ∧ e.fdp = BitVec.ofNat 32 (g 5) ∧
      e.fds = BitVec.ofNat 16 (g 6) ∧ (wide = true → e.fop = BitVec.ofNat 11 (g 4 / 2 ^ 16))) ∧
    (prot = false → e.fcs = 0 ∧ e.fds = 0 ∧ e.fop = BitVec.ofNat 11 (g 4) ∧
      e.fip = BitVec.ofNat 32 (g 3 % 2 ^ 16 + g 4 / 2 ^ 12 % 2 ^ 16 * 2 ^ 16) ∧
      e.fdp = BitVec.ofNat 32 (g 5 % 2 ^ 16 + g 6 / 2 ^ 12 % 2 ^ 16 * 2 ^ 16)) := by
  intro e
  cases prot with
  | true =>
    refine ⟨fun _ => ?_, nofun⟩
    cases wide with
    | true => exact ⟨rfl, rfl, rfl, rfl, fun _ => rfl⟩
    | false => exact ⟨rfl, rfl, rfl, rfl, nofun⟩
  | false =>
    refine ⟨nofun, fun _ => ?_⟩
    cases wide with
    | true => exact ⟨rfl, rfl, rfl, rfl, rfl⟩
    | false =>
      have hg := hnarrow rfl
      have hip : g 3 % 2 ^ 16 + g 4 / 2 ^ 12 % 2 ^ 16 * 2 ^ 16 = g 3 + g 4 / 4096 * 65536 := by
        have h3 := hg 3
        have h4 := hg 4
        omega
      have hdp : g 5 % 2 ^ 16 + g 6 / 2 ^ 12 % 2 ^ 16 * 2 ^ 16 = g 5 + g 6 / 4096 * 65536 := by
        have h5 := hg 5
        have h6 := hg 6
        omega
      rw [hip, hdp]
      exact ⟨rfl, rfl, rfl, rfl, rfl⟩

/-- An environment that holds an image, its registers apart. -/
theorem envLoaded_withEnv {s : State} {v : Nat} {f g : Fpu} {fop : BitVec 11}
    (hg : g = { f.withEnv (s.os == .s32) s.prot (envField s v) fop with regs := g.regs }) : envLoaded s v (summarised g) := by
  have hnarrow (h : (s.os == .s32) = false) (i : Nat) : envField s v i < 2 ^ 16 := by
    have hos : s.os = .s16 := by
      generalize s.os = z at h
      cases z <;> trivial
    have := Nat.mod_lt (v / 2 ^ (8 * s.os.bytes * i)) (Nat.two_pow_pos (8 * s.os.bytes))
    rw [hos] at this
    rw [envField, hos]
    exact this
  obtain ⟨hprot, hreal⟩ := withEnv_pointers f (s.os == .s32) s.prot fop hnarrow
  have hsw : g.sw = Fsw.ofWord (BitVec.ofNat 16 (envField s v 1)) := (congrArg Fpu.sw hg).trans (withEnv_sw _ _ _ _ _)
  have hempty : g.empty = (f.withEnv (s.os == .s32) s.prot (envField s v) fop).empty := by rw [hg]
  have hfip := congrArg Fpu.fip hg
  have hfcs := congrArg Fpu.fcs hg
  have hfdp := congrArg Fpu.fdp hg
  have hfds := congrArg Fpu.fds hg
  have hfop := congrArg Fpu.fop hg
  refine ⟨(congrArg Fpu.cw hg).trans (withEnv_cw _ _ _ _ _), ?_, fun i => ?_, fun hp => ?_, fun hp => ?_⟩
  · show ({ g.sw with es := g.pendingEs } : Fsw) = _
    rw [hsw]
    rfl
  · show g.empty[i] = _
    simp only [hempty]
    exact withEnv_empty _ _ _ _ _ i
  · obtain ⟨hip, hcs, hdp, hds, hop⟩ := hprot hp
    exact ⟨hfip.trans hip, hfcs.trans hcs, hfdp.trans hdp, hfds.trans hds, fun hos => hfop.trans (hop (by rw [hos]; rfl))⟩
  · obtain ⟨hcs, hds, hop, hip, hdp⟩ := hreal hp
    exact ⟨hfcs.trans hcs, hfds.trans hds, hfop.trans hop, hfip.trans hip, hfdp.trans hdp⟩

theorem withStack_st (f : Fpu) (v : BitVec 3 → Ext) (i : BitVec 3) : (f.withStack v).st i = v i := by
  have hpick (top j : BitVec 3) : #v[v (0 - top), v (1 - top), v (2 - top), v (3 - top), v (4 - top), v (5 - top), v (6 - top),
      v (7 - top)][(⟨j.toNat, j.isLt⟩ : Fin 8)] = v (j - top) := by
    have hcases : ∀ j : BitVec 3, j = 0 ∨ j = 1 ∨ j = 2 ∨ j = 3 ∨ j = 4 ∨ j = 5 ∨ j = 6 ∨ j = 7 := by decide
    rcases hcases j with rfl | rfl | rfl | rfl | rfl | rfl | rfl | rfl <;> rfl
  have hback : f.sw.top + i - f.sw.top = i := by bv_omega
  exact (hpick f.sw.top (f.sw.top + i)).trans (congrArg v hback)

end Sys2Proof.Laws

end
end

section
/-! O46: FPU control instructions and the environment images (48_fpu_instructions.md R1160 to R1168). -/

noncomputable section

namespace Sys2Proof.Laws

open Sys2Proof Sys2Proof.Machine Sys2Proof.Claims

section
variable {m : MemOp} {s s1 s2 s3 : State} {ps : List Word} {v w : Nat} (hon : fpuOn s)
include hon

/-- FLDENV (R1166). -/
theorem fldenvOp_run (hacc : access s.as (s.eaSeg m) (s.eaOff m) (envSize s false) s.os.bytes .r s.enter = .ok ps s1)
    (hload : load (ps.take (envSize s false)) s1 = .ok v s2) : ∃ f n,
      fldenvOp m s.enter = .ok () (withFpu s2 f n) ∧ f.regs = s.fpu.regs ∧ envLoaded s v f := by
  have hmem : memAccess m (envBytes s.enter.os) s.enter.os.bytes .r s.enter = .ok ps s1 := hacc
  have hkept : OnlyAccess s.enter s1 := access_checksOnly _ _ _ _ _ _ hacc
  obtain ⟨fop, henv⟩ := loadEnv_run hkept hload
  have hfpu : s2.fpu = s.fpu := (load_checksOnly _ hload).fpu_eq.trans hkept.fpu_eq
  refine ⟨_, s2.draws + 1, ?_, ?_, envLoaded_withEnv (g := s2.fpu.withEnv (s.os == .s32) s.prot (envField s v) fop) rfl⟩
  · rw [fldenvOp, bind_of_ok (escCheck_on hon true), get_bind]
    exact (bind_of_ok hmem).trans ((bind_of_ok henv).trans (summarise_run _))
  · exact (withEnv_regs _ _ _ _ _).trans (congrArg Fpu.regs hfpu)

/-- FRSTOR (R1168). -/
theorem frstorOp_run (hacc : access s.as (s.eaSeg m) (s.eaOff m) (envSize s true) s.os.bytes .r s.enter = .ok ps s1)
    (hload : load (ps.take (envSize s false)) s1 = .ok v s2)
    (hregs : load (ps.drop (envSize s false)) { s2 with draws := s2.draws + 1 } = .ok w s3) : ∃ f,
      frstorOp m s.enter = .ok () (withFpu s3 f s3.draws) ∧ envLoaded s v f ∧ ∀ i : BitVec 3, f.st i = BitVec.ofNat 80 (w / 2 ^ (80 * i.toNat)) := by
  have hmem : memAccess m (envBytes s.enter.os + 80) s.enter.os.bytes .r s.enter = .ok ps s1 := hacc
  have hkept : OnlyAccess s.enter s1 := access_checksOnly _ _ _ _ _ _ hacc
  obtain ⟨fop, henv⟩ := loadEnv_run hkept hload
  have hrest := load_fpu (s2.fpu.withEnv (s.os == .s32) s.prot (envField s v) fop) hregs
  refine ⟨_, ?_, envLoaded_withEnv (f := s2.fpu) (fop := fop) (g := (s2.fpu.withEnv (s.os == .s32) s.prot (envField s v) fop).withStack
    fun i => BitVec.ofNat 80 (w / 2 ^ (80 * i.toNat))) rfl, fun i => ?_⟩
  · rw [frstorOp, bind_of_ok (escCheck_on hon true), get_bind]
    exact (bind_of_ok hmem).trans ((bind_of_ok henv).trans ((bind_of_ok hrest).trans (summarise_run _)))
  · exact withStack_st (s2.fpu.withEnv (s.os == .s32) s.prot (envField s v) fop) (fun i => BitVec.ofNat 80 (w / 2 ^ (80 * i.toNat))) i

end

/-- Settles O46, form by form. -/
theorem floatControl : Obligations.FloatControl := by
  unfold Obligations.FloatControl
  refine ⟨fun x s hready => ?_, fun m s ps s1 v s2 hon hacc hload => ?_, fun regs m s ps s1 v s2 hon hacc hload => ⟨?_, ?_⟩⟩
  · obtain ⟨t, hdone, hrun⟩ := noWait_run x hready
    exact ⟨t, hdone, ran_of_run (exec_noWait x s) hrun⟩
  · obtain ⟨f, n, c1, hrun, hf⟩ := fldcwOp_run hon hacc hload
    exact ⟨f, n, c1, ran_of_run (show exec (.fldcwM16 m) s = _ from rfl) hrun, hf⟩
  · rintro w s3 rfl hregs
    obtain ⟨f, hrun, henv, hst⟩ := frstorOp_run hon hacc hload hregs
    exact ⟨f, ran_of_run (show exec (.frstorM m) s = _ from rfl) hrun, henv, hst⟩
  · rintro rfl
    obtain ⟨f, n, hrun, hregs, henv⟩ := fldenvOp_run hon hacc hload
    exact ⟨f, n, ran_of_run (show exec (.fldenvM m) s = _ from rfl) hrun, hregs, henv⟩

end Sys2Proof.Laws

end
end

section
/-! O47: a waiting form is WAIT and the no-wait form behind it (48_fpu_instructions.md R1160). -/

noncomputable section

namespace Sys2Proof.Laws

open Sys2Proof Sys2Proof.Machine Sys2Proof.Claims

theorem exec_waiting (x : NoWait) (s : State) : exec x.waiting s = waitThen (noWaitBody x) s := by cases x <;> rfl

/-- The WAIT of a waiting form passes: what follows depends on the boundary behind it. -/
theorem waitThen_passes {s : State} {body : M Unit} (hon : ¬ (s.mp = true ∧ s.tsFlag = true))
    (hpend : s.fpu.sw.es = false ∨ (s.ne = false ∧ s.inp.ignne = true)) :
    waitThen body s = if (afterWait s).quiet then runInstr body (behindWait s) else .next (afterWait s) := by
  have hwait : waitOp (State.enter { s with cur := { s.cur with len := 1 } }) = .ok () (State.enter { s with cur := { s.cur with len := 1 } }) :=
    (waitOp_available (s := State.enter { s with cur := { s.cur with len := 1 } }) hon).trans
      (reportPending_passes (s := State.enter { s with cur := { s.cur with len := 1 } }) hpend)
  simp only [waitThen, hwait]
  rfl

/-- Settles O47: the WAIT passes, and behind it the no-wait form runs as `noWait_run` says. -/
theorem floatWaitingForms : Obligations.FloatWaitingForms := by
  unfold Obligations.FloatWaitingForms
  refine fun x s hon hpend => ⟨fun hbusy => ?_, fun hquiet hready => ?_⟩
  · rw [exec_waiting, waitThen_passes hon hpend, hbusy]
    rfl
  · obtain ⟨t, hdone, hrun⟩ := noWait_run x hready
    refine ⟨t, hdone, ?_⟩
    rw [exec_waiting, waitThen_passes hon hpend, hquiet]
    exact runInstr_ok hrun

end Sys2Proof.Laws

end
end

section
/-! O49: rounding to `p` bits (47_fpu_numerics.md R1031). -/

noncomputable section

namespace Sys2Proof.Laws

open Sys2Proof Sys2Proof.Machine Sys2Proof.Claims

/-! ## The number of bits -/

theorem bitLen_pos {n : Nat} (h : n ≠ 0) : 0 < bitLen n := by
  rw [bitLen, if_neg h]
  exact Nat.succ_pos _

theorem lt_two_pow_bitLen (n : Nat) : n < 2 ^ bitLen n := by
  rw [bitLen]
  split
  · next h => rw [h]; exact Nat.one_pos
  · exact Nat.lt_log2_self

theorem two_pow_bitLen_le {n : Nat} (h : n ≠ 0) : 2 ^ (bitLen n - 1) ≤ n := by
  rw [bitLen, if_neg h, Nat.add_sub_cancel]
  exact Nat.log2_self_le h

/-! ## Dropping bits -/

/-- What rounding `sig` under RC does when `k` bits go: to nearest it goes up past the middle, and in the middle from a value beyond it or an odd
one; a directed mode goes up by the sign alone (R1031). -/
structure RoundsBy (rc : BitVec 2) (neg : Bool) (sig k : Nat) (sticky : Bool) (r : Rnd) : Prop where
  sig_eq : r.sig = sig / 2 ^ k + r.up.toNat
  inexact_iff : r.inexact = true ↔ sig % 2 ^ k ≠ 0 ∨ sticky = true
  inexact_of_up : r.up = true → r.inexact = true
  nearest : rc = 0 → (r.up = true ↔ 2 ^ k < 2 * (sig % 2 ^ k) ∨ (2 * (sig % 2 ^ k) = 2 ^ k ∧ (sticky = true ∨ sig / 2 ^ k % 2 = 1)))
  down : rc = 1 → (r.up = true ↔ r.inexact = true ∧ neg = true)
  upward : rc = 2 → (r.up = true ↔ r.inexact = true ∧ neg = false)
  chop : rc = 3 → r.up = false

theorem roundShift_roundsBy (rc : BitVec 2) (neg : Bool) (sig k : Nat) {sticky : Bool} (hk : sticky = true → 0 < k) :
    RoundsBy rc neg sig k sticky (roundShift rc neg sig k sticky) := by
  have hinexact : (roundShift rc neg sig k sticky).inexact = (sig % 2 ^ k != 0 || sticky) := rfl
  have hup : (roundShift rc neg sig k sticky).up = ((sig % 2 ^ k != 0 || sticky) && (match rc.toNat with
      | 0 => (k != 0 && (decide ((if k = 0 then 0 else 2 ^ (k - 1)) < sig % 2 ^ k) || (sig % 2 ^ k == (if k = 0 then 0 else 2 ^ (k - 1)) && sticky))) ||
        (k != 0 && sig % 2 ^ k == (if k = 0 then 0 else 2 ^ (k - 1)) && !sticky && (sig >>> k) % 2 == 1)
      | 1 => neg
      | 2 => !neg
      | _ => false)) := rfl
  have hsig : (roundShift rc neg sig k sticky).sig =
      if (roundShift rc neg sig k sticky).up then sig >>> k + 1 else sig >>> k := rfl
  generalize roundShift rc neg sig k sticky = r at *
  refine ⟨?_, ?_, fun h => ?_, ?_, ?_, ?_, ?_⟩
  · rw [hsig, Nat.shiftRight_eq_div_pow]
    cases r.up <;> rfl
  · rw [hinexact, Bool.or_eq_true, bne_iff_ne]
  · rw [hup, Bool.and_eq_true] at h
    rw [hinexact]
    exact h.1
  · rintro rfl
    rw [hup, Nat.shiftRight_eq_div_pow]
    cases k with
    | zero =>
      have : sticky = false := by
        cases sticky
        · rfl
        · exact absurd (hk rfl) (by decide)
      simp [this]
      omega
    | succ k =>
      have hpow : 2 ^ (k + 1) = 2 * 2 ^ k := by rw [Nat.pow_succ, Nat.mul_comm]
      have hpos := Nat.two_pow_pos k
      simp only [Nat.add_sub_cancel, if_neg (Nat.succ_ne_zero k)]
      cases sticky <;> simp <;> omega
  · rintro rfl
    rw [hup, hinexact, Bool.and_eq_true]
    rfl
  · rintro rfl
    rw [hup, hinexact, Bool.and_eq_true, ← Bool.not_eq_true']
    rfl
  · rintro rfl
    rw [hup]
    exact Bool.and_false _

/-! ## `round_p` -/

section
variable {rc : BitVec 2} {p : Nat} {d : Dy}

/-- A value that fits is kept. -/
theorem roundP_fits (rc : BitVec 2) (hl : bitLen d.sig ≤ p) :
    roundP rc p d = { sig := d.sig * 2 ^ (p - bitLen d.sig), top := d.top, inexact := d.sticky, up := false } := by
  rw [roundP, if_pos hl, Nat.shiftLeft_eq]

/-- Of a longer value the bits past `p` are dropped; a carry out of the top moves the leading bit. -/
theorem roundP_drops (rc : BitVec 2) (hl : p < bitLen d.sig) :
    let t := roundShift rc d.neg d.sig (bitLen d.sig - p) d.sticky
    roundP rc p d = { sig := if t.sig = 2 ^ p then 2 ^ (p - 1) else t.sig, top := if t.sig = 2 ^ p then d.top + 1 else d.top,
                      inexact := t.inexact, up := t.up } := by
  rw [roundP, if_neg (Nat.not_le.mpr hl)]
  simp only
  split <;> rfl

theorem fits_bounds (hp : 0 < p) (hd : d.sig ≠ 0) (hl : bitLen d.sig ≤ p) :
    2 ^ (p - 1) ≤ d.sig * 2 ^ (p - bitLen d.sig) ∧ d.sig * 2 ^ (p - bitLen d.sig) < 2 ^ p := by
  have hpos := bitLen_pos hd
  have hlow : 2 ^ (p - 1) = 2 ^ (bitLen d.sig - 1) * 2 ^ (p - bitLen d.sig) := by rw [← Nat.pow_add]; congr 1; omega
  have hhigh : 2 ^ p = 2 ^ bitLen d.sig * 2 ^ (p - bitLen d.sig) := by rw [← Nat.pow_add]; congr 1; omega
  rw [hlow, hhigh]
  exact ⟨Nat.mul_le_mul_right _ (two_pow_bitLen_le hd), Nat.mul_lt_mul_of_pos_right (lt_two_pow_bitLen _) (Nat.two_pow_pos _)⟩

/-- What is left of a longer value has `p` bits. -/
theorem quotient_bounds (hp : 0 < p) (hd : d.sig ≠ 0) (hl : p < bitLen d.sig) :
    2 ^ (p - 1) ≤ d.sig / 2 ^ (bitLen d.sig - p) ∧ d.sig / 2 ^ (bitLen d.sig - p) < 2 ^ p := by
  constructor
  · rw [Nat.le_div_iff_mul_le (Nat.two_pow_pos _), ← Nat.pow_add]
    have : p - 1 + (bitLen d.sig - p) = bitLen d.sig - 1 := by omega
    rw [this]
    exact two_pow_bitLen_le hd
  · rw [Nat.div_lt_iff_lt_mul (Nat.two_pow_pos _), ← Nat.pow_add]
    have : p + (bitLen d.sig - p) = bitLen d.sig := by omega
    rw [this]
    exact lt_two_pow_bitLen _

/-- The rounded significand of a longer value, before a carry is taken up. -/
theorem roundP_of_lt (hp : 0 < p) (hd : d.sig ≠ 0) (hl : p < bitLen d.sig) :
    let t := roundShift rc d.neg d.sig (bitLen d.sig - p) d.sticky
    let r := roundP rc p d
    2 ^ (p - 1) ≤ r.sig ∧ r.sig < 2 ^ p ∧ r.sig * 2 ^ (r.top - d.top).toNat = t.sig ∧ d.top ≤ r.top ∧ r.inexact = t.inexact ∧ r.up = t.up := by
  have ht := (roundShift_roundsBy rc d.neg d.sig (bitLen d.sig - p) (sticky := d.sticky) (by omega)).sig_eq
  have hr := roundP_drops rc hl
  generalize roundShift rc d.neg d.sig (bitLen d.sig - p) d.sticky = t at *
  simp only [hr]
  obtain ⟨hlow, hhigh⟩ := quotient_bounds hp hd hl
  have hup : t.up.toNat ≤ 1 := t.up.toNat_le
  have hpow : 2 ^ p = 2 ^ (p - 1) * 2 := by rw [← Nat.pow_succ]; congr 1; omega
  by_cases hc : t.sig = 2 ^ p
  · have hone : (d.top + 1 - d.top).toNat = 1 := by omega
    have hpos := Nat.two_pow_pos (p - 1)
    simp only [if_pos hc, hone, and_true]
    exact ⟨Nat.le_refl _, by omega, by rw [hc]; omega, by omega⟩
  · have hzero : (d.top - d.top).toNat = 0 := by omega
    simp only [if_neg hc, hzero, Nat.pow_zero, Nat.mul_one, and_self, and_true, Int.le_refl]
    exact ⟨by omega, by omega⟩

end

/-! ## The error of a rounding -/

section
variable {rc : BitVec 2} {neg : Bool} {sig k : Nat} {r : Rnd}

theorem RoundsBy.product {sticky : Bool} (h : RoundsBy rc neg sig k sticky r) :
    r.sig * 2 ^ k + sig % 2 ^ k = sig + r.up.toNat * 2 ^ k ∧ sig % 2 ^ k < 2 ^ k := by
  have hdiv := Nat.div_add_mod sig (2 ^ k)
  refine ⟨?_, Nat.mod_lt _ (Nat.two_pow_pos _)⟩
  rw [h.sig_eq, Nat.add_mul, Nat.mul_comm (sig / 2 ^ k)]
  omega

theorem RoundsBy.of_exact (h : RoundsBy rc neg sig k false r) :
    let ulp := 2 ^ k
    (r.inexact = false ↔ r.sig * ulp = sig) ∧ (r.up = true ↔ sig < r.sig * ulp) ∧ r.sig * ulp < sig + ulp ∧ sig < r.sig * ulp + ulp ∧
    (rc = 0 → 2 * (r.sig * ulp) ≤ 2 * sig + ulp ∧ 2 * sig ≤ 2 * (r.sig * ulp) + ulp ∧
      (2 * sig = 2 * (r.sig * ulp) + ulp ∨ 2 * (r.sig * ulp) = 2 * sig + ulp → r.sig % 2 = 0)) ∧
    (rc = 1 → if neg then sig ≤ r.sig * ulp else r.sig * ulp ≤ sig) ∧
    (rc = 2 → if neg then r.sig * ulp ≤ sig else sig ≤ r.sig * ulp) ∧
    (rc = 3 → r.sig * ulp ≤ sig) := by
  obtain ⟨hprod, hlt⟩ := h.product
  have hsig := h.sig_eq
  have hin := h.inexact_iff
  have hof := h.inexact_of_up
  obtain ⟨-, -, -, hnear, hdown, hupw, hchop⟩ := h
  dsimp only
  generalize sig % 2 ^ k = rem at *
  generalize sig / 2 ^ k = lo at *
  generalize 2 ^ k = ulp at *
  generalize r.sig * ulp = q at *
  simp only [Bool.false_eq_true, or_false, false_or] at *
  have hexact : r.inexact = false ↔ rem = 0 := by rw [← Bool.not_eq_true, hin, not_not]
  cases hu : r.up
  · simp only [hu, Bool.toNat_false, Nat.zero_mul, Nat.add_zero, Bool.false_eq_true, false_iff] at *
    refine ⟨hexact.trans (by omega), by omega, by omega, by omega, fun h => ?_, fun h => ?_, fun h => ?_, fun h => by omega⟩
    · have := hnear h
      omega
    · have := hdown h
      cases neg <;> simp_all
      omega
    · have := hupw h
      cases neg <;> simp_all
      omega
  · simp only [hu, Bool.toNat_true, Nat.one_mul, true_iff, forall_const] at *
    have hrem : rem ≠ 0 := hin.mp hof
    refine ⟨⟨fun h => absurd (hexact.mp h) hrem, fun h => by omega⟩, by omega, by omega, by omega, fun h => ?_, fun h => ?_, fun h => ?_,
      fun h => by simp at hchop; exact absurd h hchop⟩
    · have := hnear h
      omega
    · rw [if_pos (hdown h).2]
      omega
    · rw [(hupw h).2]
      simp only [Bool.false_eq_true, if_false]
      omega

/-- The same for a value strictly between `sig` and the next number. -/
theorem RoundsBy.of_sticky (hk : 0 < k) (h : RoundsBy rc neg sig k true r) :
    let ulp := 2 ^ k
    r.inexact = true ∧ (r.up = true ↔ sig < r.sig * ulp) ∧ r.sig * ulp ≤ sig + ulp ∧ sig < r.sig * ulp + ulp ∧
    (rc = 0 → 2 * (r.sig * ulp) ≤ 2 * sig + ulp ∧ 2 * (sig + 1) ≤ 2 * (r.sig * ulp) + ulp) ∧
    (rc = 1 → (r.up = true ↔ neg = true)) ∧ (rc = 2 → (r.up = true ↔ neg = false)) ∧ (rc = 3 → r.up = false) := by
  obtain ⟨hprod, hlt⟩ := h.product
  have heven : 2 ^ k % 2 = 0 := by
    obtain ⟨j, rfl⟩ := Nat.exists_eq_succ_of_ne_zero hk.ne'
    rw [Nat.pow_succ, Nat.mul_mod_left]
  have hin : r.inexact = true := h.inexact_iff.mpr (.inr rfl)
  obtain ⟨-, -, -, hnear, hdown, hupw, hchop⟩ := h
  dsimp only
  generalize sig % 2 ^ k = rem at *
  generalize sig / 2 ^ k = lo at *
  generalize 2 ^ k = ulp at *
  generalize r.sig * ulp = q at *
  simp only [hin, true_and, true_or, and_true] at *
  cases hu : r.up
  · simp only [hu, Bool.toNat_false, Nat.zero_mul, Nat.add_zero, Bool.false_eq_true, false_iff] at *
    refine ⟨by omega, by omega, by omega, fun h => ?_, hdown, hupw, fun _ => trivial⟩
    have := hnear h
    omega
  · simp only [hu, Bool.toNat_true, Nat.one_mul, true_iff, reduceCtorEq] at *
    refine ⟨by omega, by omega, by omega, fun h => ?_, hdown, hupw, hchop⟩
    have := hnear h
    omega

end

/-- Settles O49: `roundP` keeps what fits, and otherwise is `roundShift`, whose error `RoundsBy` bounds. -/
theorem roundToPrecision : Obligations.RoundToPrecision := by
  unfold Obligations.RoundToPrecision
  intro rc p d hp hd
  have hfit (hl : bitLen d.sig ≤ p) := fits_bounds hp hd hl
  have hdrop (hl : p < bitLen d.sig) := roundP_of_lt (rc := rc) hp hd hl
  have hround (hl : p < bitLen d.sig) := roundShift_roundsBy rc d.neg d.sig (bitLen d.sig - p) (sticky := d.sticky) (by omega)
  dsimp only at hdrop ⊢
  rcases Nat.lt_or_ge p (bitLen d.sig) with hl | hl
  · obtain ⟨hlow, hhigh, hm, htop, hin, hup⟩ := hdrop hl
    have hshift := hround hl
    refine ⟨hlow, hhigh, fun hs _ => ⟨_, hm, htop, ?_⟩, fun _ h => absurd hl (Nat.not_lt.mpr h), fun hs _ => ⟨_, hm, htop, ?_⟩⟩
    · rw [hs] at hshift
      rw [hin, hup, hs]
      exact hshift.of_sticky (by omega)
    · rw [hs] at hshift
      rw [hin, hup, hs]
      exact hshift.of_exact
  · rw [roundP_fits rc hl]
    obtain ⟨hlow, hhigh⟩ := hfit hl
    exact ⟨hlow, hhigh, fun _ h => absurd hl (Nat.not_le.mpr h), fun hs _ => ⟨rfl, rfl, hs, rfl⟩, fun _ h => absurd hl (Nat.not_le.mpr h)⟩

end Sys2Proof.Laws

end
end

section
/-! Extended reals as real numbers, and the error of rounding to a multiple of a power of two (12_state_fpu.md R1015, 47_fpu_numerics.md R1031). -/

noncomputable section

namespace Sys2Proof.Laws

open Sys2Proof Sys2Proof.Machine Sys2Proof.Claims

/-! ## The fields of an extended real -/

theorem neg_eq (x : Ext) : Ext.neg x = decide (2 ^ 79 ≤ x.toNat) := by
  rw [Ext.neg, BitVec.msb_eq_decide]

theorem be_eq (x : Ext) : Ext.be x = x.toNat / 2 ^ 64 % 2 ^ 15 := by
  rw [Ext.be, BitVec.extractLsb'_toNat, Nat.shiftRight_eq_div_pow]

theorem sig_eq (x : Ext) : (Ext.sig x).toNat = x.toNat % 2 ^ 64 := by
  rw [Ext.sig, BitVec.extractLsb'_toNat, Nat.shiftRight_zero]

theorem be_lt (x : Ext) : Ext.be x < 2 ^ 15 := by
  rw [be_eq]
  exact Nat.mod_lt _ (by decide)

theorem sig_lt (x : Ext) : (Ext.sig x).toNat < 2 ^ 64 := (Ext.sig x).isLt

/-- Two extended reals with the same fields are the same. -/
theorem ext_of_fields {x y : Ext} (hn : Ext.neg x = Ext.neg y) (hb : Ext.be x = Ext.be y) (hs : (Ext.sig x).toNat = (Ext.sig y).toNat) : x = y := by
  have hx := x.isLt
  have hy := y.isLt
  rw [neg_eq, neg_eq, decide_eq_decide] at hn
  rw [be_eq, be_eq] at hb
  rw [sig_eq, sig_eq] at hs
  exact BitVec.eq_of_toNat_eq (by omega)

section
variable {neg : Bool} {be sig : Nat}

theorem toNat_mk (neg : Bool) (be sig : Nat) :
    (Ext.mk neg be sig).toNat = neg.toNat * 2 ^ 79 + be % 2 ^ 15 * 2 ^ 64 + sig % 2 ^ 64 := by
  have hcat : (Ext.mk neg be sig).toNat = (neg.toNat <<< 15 ||| be % 2 ^ 15) <<< 64 ||| sig % 2 ^ 64 := by
    rw [Ext.mk, BitVec.toNat_append, BitVec.toNat_append, BitVec.toNat_ofNat, BitVec.toNat_ofNat, BitVec.toNat_ofBool]
  rw [hcat, ← Nat.shiftLeft_add_eq_or_of_lt (Nat.mod_lt _ (by decide)), ← Nat.shiftLeft_add_eq_or_of_lt (Nat.mod_lt _ (by decide)),
    Nat.shiftLeft_eq, Nat.shiftLeft_eq]
  omega

@[simp] theorem neg_mk (neg : Bool) (be sig : Nat) : Ext.neg (Ext.mk neg be sig) = neg := by
  rw [neg_eq, toNat_mk]
  cases neg <;> simp only [Bool.toNat_true, Bool.toNat_false, decide_eq_true_eq, decide_eq_false_iff_not] <;> omega

theorem be_mk (hbe : be < 2 ^ 15) : Ext.be (Ext.mk neg be sig) = be := by
  rw [be_eq, toNat_mk]
  omega

theorem sig_mk (hsig : sig < 2 ^ 64) : (Ext.sig (Ext.mk neg be sig)).toNat = sig := by
  rw [sig_eq, toNat_mk]
  omega

end

/-! ## Classes -/

/-- The class by the fields (R1017). -/
theorem cls_eq (x : Ext) : Ext.cls x =
    if Ext.be x = 0 then (if (Ext.sig x).toNat = 0 then .zero else .denormal)
    else if (Ext.sig x).toNat < 2 ^ 63 then .unsupported
    else if Ext.be x = 0x7FFF then
      (if (Ext.sig x).toNat = 2 ^ 63 then .inf else if 2 ^ 63 + 2 ^ 62 ≤ (Ext.sig x).toNat then .qnan else .snan)
    else .normal := by
  have hzero : Ext.sig x = 0 ↔ (Ext.sig x).toNat = 0 := ⟨fun h => by rw [h]; rfl, fun h => BitVec.eq_of_toNat_eq h⟩
  have hlt := sig_lt x
  have hj : (!bit (Ext.sig x) 63) = true ↔ (Ext.sig x).toNat < 2 ^ 63 := by
    rw [bit, Bool.not_eq_true', BitVec.getLsbD, Nat.testBit_eq_decide_div_mod_eq, decide_eq_false_iff_not]
    omega
  have hf : ((Ext.sig x).extractLsb' 0 63).toNat = (Ext.sig x).toNat % 2 ^ 63 := by
    rw [BitVec.extractLsb'_toNat, Nat.shiftRight_zero]
  have hinf : (Ext.sig x).extractLsb' 0 63 = 0 ↔ (Ext.sig x).toNat % 2 ^ 63 = 0 :=
    ⟨fun h => by rw [← hf, h]; rfl, fun h => BitVec.eq_of_toNat_eq (hf.trans h)⟩
  have hq : bit ((Ext.sig x).extractLsb' 0 63) 62 = true ↔ 2 ^ 62 ≤ (Ext.sig x).toNat % 2 ^ 63 := by
    rw [bit, BitVec.getLsbD, hf, Nat.testBit_eq_decide_div_mod_eq, decide_eq_true_eq]
    omega
  simp only [Ext.cls, hzero, hj, hinf, hq]
  split
  · rfl
  · split
    · rfl
    · next h =>
      have h1 : (Ext.sig x).toNat % 2 ^ 63 = 0 ↔ (Ext.sig x).toNat = 2 ^ 63 := by omega
      have h2 : 2 ^ 62 ≤ (Ext.sig x).toNat % 2 ^ 63 ↔ 2 ^ 63 + 2 ^ 62 ≤ (Ext.sig x).toNat := by omega
      simp only [h1, h2]

theorem cls_zero_iff (x : Ext) : Ext.cls x = .zero ↔ Ext.be x = 0 ∧ (Ext.sig x).toNat = 0 := by
  rw [cls_eq]
  split_ifs <;> simp_all

theorem cls_denormal_iff (x : Ext) : Ext.cls x = .denormal ↔ Ext.be x = 0 ∧ (Ext.sig x).toNat ≠ 0 := by
  rw [cls_eq]
  split_ifs <;> simp_all

theorem cls_normal_iff (x : Ext) : Ext.cls x = .normal ↔ Ext.be x ≠ 0 ∧ Ext.be x ≠ 0x7FFF ∧ 2 ^ 63 ≤ (Ext.sig x).toNat := by
  rw [cls_eq]
  split_ifs <;> simp_all

theorem cls_inf_iff (x : Ext) : Ext.cls x = .inf ↔ Ext.be x = 0x7FFF ∧ (Ext.sig x).toNat = 2 ^ 63 := by
  rw [cls_eq]
  split_ifs <;> simp_all
  omega

/-- A finite value is anything but an unsupported encoding with an exponent below the greatest. -/
theorem finiteCls_iff (x : Ext) : finiteCls x ↔ Ext.be x = 0 ∨ (Ext.be x ≠ 0x7FFF ∧ 2 ^ 63 ≤ (Ext.sig x).toNat) := by
  rw [finiteCls, cls_zero_iff, cls_denormal_iff, cls_normal_iff]
  omega

/-! ## Values -/

/-- The sign of a number as a factor. -/
def sign (neg : Bool) : ℝ := if neg then -1 else 1

theorem abs_sign_mul (neg : Bool) (a : ℝ) : |sign neg * a| = |a| := by
  cases neg <;> simp [sign]

theorem sign_mul_sign (neg : Bool) : sign neg * sign neg = 1 := by
  cases neg <;> simp [sign]

theorem sign_ne_zero (neg : Bool) : sign neg ≠ 0 := by
  cases neg <;> simp [sign]

theorem sign_not (neg : Bool) : sign (!neg) = -sign neg := by
  cases neg <;> simp [sign]

theorem sign_xor (a b : Bool) : sign (a != b) = sign a * sign b := by
  cases a <;> cases b <;> simp [sign]

theorem realOf_eq (x : Ext) :
    realOf x = sign (Ext.neg x) * ((Ext.sig x).toNat : ℝ) * (2 : ℝ) ^ ((max (Ext.be x) 1 : Nat) - 16446 : ℤ) := by
  rw [realOf, finiteValue, sign]
  cases Ext.neg x <;> simp

theorem abs_realOf (x : Ext) : |realOf x| = ((Ext.sig x).toNat : ℝ) * (2 : ℝ) ^ ((max (Ext.be x) 1 : Nat) - 16446 : ℤ) := by
  rw [realOf_eq, mul_assoc, abs_sign_mul, abs_of_nonneg (by positivity)]

theorem realOf_sign (x : Ext) : realOf x = sign (Ext.neg x) * |realOf x| := by
  rw [abs_realOf, realOf_eq, mul_assoc]

theorem realOf_eq_zero_iff (x : Ext) : realOf x = 0 ↔ (Ext.sig x).toNat = 0 := by
  rw [← abs_eq_zero, abs_realOf, mul_eq_zero, Nat.cast_eq_zero, or_iff_left (zpow_ne_zero _ (by norm_num))]

theorem realOf_neg_iff {x : Ext} (h : (Ext.sig x).toNat ≠ 0) : Ext.neg x = true ↔ realOf x < 0 := by
  have hpos : 0 < |realOf x| := abs_pos.mpr fun h0 => h ((realOf_eq_zero_iff x).mp h0)
  rw [realOf_sign x]
  cases Ext.neg x <;> simp [sign, hpos, hpos.le]

theorem realOf_mk {neg : Bool} {be sig : Nat} (hbe : be < 2 ^ 15) (hsig : sig < 2 ^ 64) :
    realOf (Ext.mk neg be sig) = sign neg * (sig : ℝ) * (2 : ℝ) ^ ((max be 1 : Nat) - 16446 : ℤ) := by
  rw [realOf_eq, neg_mk, be_mk hbe, sig_mk hsig]

/-! ## Exact values -/

/-- The number `e` is what `d` says: its magnitude is `sig * 2^exp`, or, with `sticky`, lies strictly between that and the next (`Dy`). -/
structure Stands (d : Dy) (e : ℝ) : Prop where
  neg_iff : d.neg = true ↔ e < 0
  exact : d.sticky = false → |e| = d.sig * (2 : ℝ) ^ d.exp
  above : d.sticky = true → d.sig * (2 : ℝ) ^ d.exp < |e|
  below : d.sticky = true → |e| < (d.sig + 1) * (2 : ℝ) ^ d.exp

theorem stands_dy {x : Ext} (h : (Ext.sig x).toNat ≠ 0) : Stands (Ext.dy x) (realOf x) where
  neg_iff := realOf_neg_iff h
  exact _ := abs_realOf x
  above h := nomatch h
  below h := nomatch h

section
variable {d : Dy} {e : ℝ}

theorem Stands.sign_eq (h : Stands d e) : e = sign d.neg * |e| := by
  have := h.neg_iff
  cases hn : d.neg <;> rw [hn] at this
  · rw [sign, if_neg Bool.false_ne_true, one_mul, abs_of_nonneg (not_lt.mp fun hlt => Bool.false_ne_true (this.mpr hlt))]
  · rw [sign, if_pos rfl, abs_of_neg (this.mp rfl)]
    ring

theorem Stands.low (h : Stands d e) : d.sig * (2 : ℝ) ^ d.exp ≤ |e| := by
  cases hs : d.sticky
  · exact (h.exact hs).ge
  · exact (h.above hs).le

theorem Stands.high (h : Stands d e) : |e| < (d.sig + 1) * (2 : ℝ) ^ d.exp := by
  cases hs : d.sticky
  · rw [h.exact hs]
    have : (0 : ℝ) < 2 ^ d.exp := by positivity
    nlinarith
  · exact h.below hs

theorem Stands.ne_zero (h : Stands d e) (hd : d.sig ≠ 0) : e ≠ 0 := by
  have hpos : (0 : ℝ) < d.sig * (2 : ℝ) ^ d.exp := mul_pos (Nat.cast_pos.mpr (Nat.pos_of_ne_zero hd)) (by positivity)
  exact abs_pos.mp (hpos.trans_le h.low)

/-- The exponent of the leading bit. -/
theorem Stands.log (h : Stands d e) (hd : d.sig ≠ 0) : Int.log 2 |e| = d.top := by
  have hpos := bitLen_pos hd
  have htwo : (0 : ℝ) < 2 ^ d.exp := by positivity
  have hlow : ((2 : ℕ) : ℝ) ^ d.top ≤ |e| := by
    refine le_trans ?_ h.low
    have hle : ((2 ^ (bitLen d.sig - 1) : Nat) : ℝ) ≤ (d.sig : ℝ) := by exact_mod_cast two_pow_bitLen_le hd
    have hsplit : ((2 : ℕ) : ℝ) ^ d.top = ((2 ^ (bitLen d.sig - 1) : Nat) : ℝ) * 2 ^ d.exp := by
      push_cast
      rw [← zpow_natCast, ← zpow_add₀ two_ne_zero]
      congr 1
      rw [Dy.top]
      omega
    rw [hsplit]
    exact mul_le_mul_of_nonneg_right hle htwo.le
  have hhigh : |e| < ((2 : ℕ) : ℝ) ^ (d.top + 1) := by
    refine lt_of_lt_of_le h.high ?_
    have hle : ((d.sig : ℝ) + 1) ≤ ((2 ^ bitLen d.sig : Nat) : ℝ) := by exact_mod_cast lt_two_pow_bitLen d.sig
    have hsplit : ((2 : ℕ) : ℝ) ^ (d.top + 1) = ((2 ^ bitLen d.sig : Nat) : ℝ) * 2 ^ d.exp := by
      push_cast
      rw [← zpow_natCast, ← zpow_add₀ two_ne_zero]
      congr 1
      rw [Dy.top]
      omega
    rw [hsplit]
    exact mul_le_mul_of_nonneg_right hle htwo.le
  have habs : 0 < |e| := abs_pos.mpr (h.ne_zero hd)
  apply le_antisymm
  · exact Int.lt_add_one_iff.mp ((Int.lt_zpow_iff_log_lt one_lt_two habs).mp hhigh)
  · exact (Int.zpow_le_iff_le_log one_lt_two habs).mp hlow

end

/-! ## Rounding to a multiple of `2^lsb` -/

/-- Rounding a value to a multiple of `2^lsb` (R1031, R1037). -/
def roundUnit (rc : BitVec 2) (lsb : ℤ) (d : Dy) : Rnd :=
  if d.exp < lsb then roundShift rc d.neg d.sig (lsb - d.exp).toNat d.sticky
  else { sig := d.sig <<< (d.exp - lsb).toNat, inexact := false, up := false }

/-- `m` units of size `u` are what the magnitude `a` of a number of sign `neg` is rounded to. -/
structure Nearby (rc : BitVec 2) (neg : Bool) (a u : ℝ) (r : Rnd) : Prop where
  close : |r.sig * u - a| < u
  nearest : rc = 0 → 2 * |r.sig * u - a| ≤ u ∧ (2 * |r.sig * u - a| = u → r.sig % 2 = 0)
  down : rc = 1 → if neg then a ≤ r.sig * u else r.sig * u ≤ a
  upward : rc = 2 → if neg then r.sig * u ≤ a else a ≤ r.sig * u
  chop : rc = 3 → r.sig * u ≤ a
  up_iff : r.up = true ↔ a < r.sig * u
  inexact_iff : r.inexact = true ↔ r.sig * u ≠ a

section
variable {rc : BitVec 2} {neg : Bool} {a u : ℝ} {r : Rnd}

theorem Nearby.scale (h : Nearby rc neg a u r) {c : ℝ} (hc : 0 < c) : Nearby rc neg (a * c) (u * c) r := by
  have herr : |r.sig * (u * c) - a * c| = |r.sig * u - a| * c := by
    rw [← mul_assoc, ← sub_mul, abs_mul, abs_of_pos hc]
  have hle {x y : ℝ} : x * c ≤ y * c ↔ x ≤ y := mul_le_mul_iff_left₀ hc
  have hlt {x y : ℝ} : x * c < y * c ↔ x < y := mul_lt_mul_iff_left₀ hc
  have heq {x y : ℝ} : x * c = y * c ↔ x = y := mul_left_inj' hc.ne'
  obtain ⟨hclose, hnear, hdown, hup, hchop, hupiff, hin⟩ := h
  refine ⟨?_, fun h => ?_, fun h => ?_, fun h => ?_, fun h => ?_, ?_, ?_⟩
  · rw [herr, hlt]
    exact hclose
  · rw [herr, ← mul_assoc, hle, heq]
    exact hnear h
  · simp only [← mul_assoc, hle]
    exact hdown h
  · simp only [← mul_assoc, hle]
    exact hup h
  · rw [← mul_assoc, hle]
    exact hchop h
  · rw [← mul_assoc, hlt]
    exact hupiff
  · rw [← mul_assoc, Ne, heq]
    exact hin

theorem Nearby.of_eq (hu : 0 < u) (h : r.sig * u = a) (hup : r.up = false) (hin : r.inexact = false) : Nearby rc neg a u r := by
  have herr : |r.sig * u - a| = 0 := by rw [h, sub_self, abs_zero]
  refine ⟨herr ▸ hu, fun _ => ⟨by rw [herr]; linarith, fun h0 => ?_⟩, fun _ => ?_, fun _ => ?_, fun _ => h.le, ?_, ?_⟩
  · rw [herr, mul_zero] at h0
    exact absurd h0 hu.ne
  · rw [h, ite_self]
  · rw [h, ite_self]
  · rw [hup, h]
    simp
  · rw [hin, h]
    simp

/-- Bits dropped from an exact value. -/
theorem RoundsBy.nearby_exact {sig k : Nat} (h : RoundsBy rc neg sig k false r) : Nearby rc neg sig ((2 ^ k : Nat) : ℝ) r := by
  obtain ⟨hin, hup, hhigh, hlow, hnear, hdown, hupw, hchop⟩ := h.of_exact
  have hprod : (r.sig : ℝ) * ((2 ^ k : Nat) : ℝ) = ((r.sig * 2 ^ k : Nat) : ℝ) := (Nat.cast_mul _ _).symm
  refine ⟨?_, fun h => ?_, fun h => ?_, fun h => ?_, fun h => ?_, ?_, ?_⟩
  all_goals rw [hprod]
  all_goals generalize hq : r.sig * 2 ^ k = q at *
  all_goals generalize 2 ^ k = ulp at *
  · have h1 : (q : ℝ) < sig + ulp := by exact_mod_cast hhigh
    have h2 : (sig : ℝ) < q + ulp := by exact_mod_cast hlow
    exact abs_lt.mpr ⟨by linarith, by linarith⟩
  · obtain ⟨h1, h2, htie⟩ := hnear h
    have h1' : (2 : ℝ) * q ≤ 2 * sig + ulp := by exact_mod_cast h1
    have h2' : (2 : ℝ) * sig ≤ 2 * q + ulp := by exact_mod_cast h2
    refine ⟨by rcases abs_cases ((q : ℝ) - sig) with ⟨hc, _⟩ | ⟨hc, _⟩ <;> rw [hc] <;> linarith, fun heq => htie ?_⟩
    rcases abs_cases ((q : ℝ) - sig) with ⟨hc, _⟩ | ⟨hc, _⟩ <;> rw [hc] at heq
    · right
      have : (2 : ℝ) * q = 2 * sig + ulp := by linarith
      exact_mod_cast this
    · left
      have : (2 : ℝ) * sig = 2 * q + ulp := by linarith
      exact_mod_cast this
  · simpa only [Nat.cast_le] using hdown h
  · simpa only [Nat.cast_le] using hupw h
  · exact_mod_cast hchop h
  · rw [Nat.cast_lt]
    exact hup
  · rw [Ne, Nat.cast_inj, ← hin, Bool.not_eq_false]

/-- Bits dropped from a value strictly between two numbers. -/
theorem RoundsBy.nearby_sticky {sig k : Nat} (hk : 0 < k) (h : RoundsBy rc neg sig k true r) {y : ℝ} (hlow : (sig : ℝ) < y)
    (hhigh : y < sig + 1) : Nearby rc neg y ((2 ^ k : Nat) : ℝ) r := by
  obtain ⟨hin, hup, hq1, hq2, hnear, hdown, hupw, hchop⟩ := h.of_sticky hk
  have hprod : (r.sig : ℝ) * ((2 ^ k : Nat) : ℝ) = ((r.sig * 2 ^ k : Nat) : ℝ) := (Nat.cast_mul _ _).symm
  have habove (q : Nat) : y < q ↔ sig < q :=
    ⟨fun h => by exact_mod_cast hlow.trans h, fun h => hhigh.trans_le (by exact_mod_cast h)⟩
  have hbelow (q : Nat) (h : ¬ sig < q) : (q : ℝ) < y := lt_of_le_of_lt (by exact_mod_cast Nat.not_lt.mp h) hlow
  refine ⟨?_, fun hm => ?_, fun hm => ?_, fun hm => ?_, fun hm => ?_, ?_, ?_⟩
  all_goals rw [hprod]
  all_goals generalize r.sig * 2 ^ k = q at *
  all_goals generalize 2 ^ k = ulp at *
  · have h1 : (q : ℝ) ≤ sig + ulp := by exact_mod_cast hq1
    have h2 : (sig : ℝ) + 1 ≤ q + ulp := by exact_mod_cast hq2
    exact abs_lt.mpr ⟨by linarith, by linarith⟩
  · obtain ⟨h1, h2⟩ := hnear hm
    have h1' : (2 : ℝ) * q ≤ 2 * sig + ulp := by exact_mod_cast h1
    have h2' : (2 : ℝ) * (sig + 1) ≤ 2 * q + ulp := by exact_mod_cast h2
    have hlt : 2 * |(q : ℝ) - y| < ulp := by rcases abs_cases ((q : ℝ) - y) with ⟨hc, _⟩ | ⟨hc, _⟩ <;> rw [hc] <;> linarith
    exact ⟨hlt.le, fun heq => absurd heq hlt.ne⟩
  · rw [hup] at hdown
    cases neg
    · simpa using (hbelow q (by simpa using hdown hm)).le
    · simpa using ((habove q).mpr (by simpa using hdown hm)).le
  · rw [hup] at hupw
    cases neg
    · simpa using ((habove q).mpr (by simpa using hupw hm)).le
    · simpa using (hbelow q (by simpa using hupw hm)).le
  · have := hchop hm
    rw [← Bool.not_eq_true, hup] at this
    exact (hbelow q this).le
  · rw [hup, habove]
  · rw [hin]
    simp only [true_iff]
    rcases Nat.lt_or_ge sig q with h | h
    · exact ((habove q).mpr h).ne'
    · exact (hbelow q (Nat.not_lt.mpr h)).ne

theorem roundUnit_nearby {d : Dy} {e : ℝ} (rc : BitVec 2) {lsb : ℤ} (h : Stands d e) (hs : d.sticky = true → d.exp < lsb) :
    Nearby rc d.neg |e| ((2 : ℝ) ^ lsb) (roundUnit rc lsb d) := by
  have hunit : (0 : ℝ) < 2 ^ d.exp := by positivity
  rw [roundUnit]
  split
  · next hlt =>
    obtain ⟨k, hk⟩ : ∃ k : Nat, lsb = d.exp + k := ⟨(lsb - d.exp).toNat, by omega⟩
    have hkpos : 0 < k := by omega
    have hk' : (lsb - d.exp).toNat = k := by omega
    have hpow : (2 : ℝ) ^ lsb = ((2 ^ k : Nat) : ℝ) * 2 ^ d.exp := by
      rw [hk, zpow_add₀ two_ne_zero, mul_comm]
      push_cast
      rw [zpow_natCast]
    have hrounds := roundShift_roundsBy rc d.neg d.sig k (sticky := d.sticky) fun _ => hkpos
    rw [hk', hpow]
    cases hst : d.sticky
    · rw [hst] at hrounds
      rw [h.exact hst]
      exact hrounds.nearby_exact.scale hunit
    · rw [hst] at hrounds
      have hscale : |e| = |e| / 2 ^ d.exp * 2 ^ d.exp := (div_mul_cancel₀ _ hunit.ne').symm
      rw [hscale]
      exact (hrounds.nearby_sticky hkpos ((lt_div_iff₀ hunit).mpr (h.above hst)) ((div_lt_iff₀ hunit).mpr (h.below hst))).scale hunit
  · next hge =>
    obtain ⟨j, hj⟩ : ∃ j : Nat, d.exp = lsb + j := ⟨(d.exp - lsb).toNat, by omega⟩
    have hj' : (d.exp - lsb).toNat = j := by omega
    have hexact : d.sticky = false := by
      cases hst : d.sticky
      · rfl
      · exact absurd (hs hst) hge
    refine .of_eq (by positivity) ?_ rfl rfl
    rw [h.exact hexact, hj', hj, Nat.shiftLeft_eq, zpow_add₀ two_ne_zero]
    push_cast
    rw [zpow_natCast]
    ring

theorem Nearby.sig_le (h : Nearby rc neg a u r) {n : Nat} (ha : a ≤ n * u) : r.sig ≤ n := by
  have hu : 0 < u := (abs_nonneg _).trans_lt h.close
  have hlt : (r.sig : ℝ) * u < ((n + 1 : Nat) : ℝ) * u := by
    have := (abs_lt.mp h.close).2
    push_cast
    linarith
  exact Nat.lt_succ_iff.mp (by exact_mod_cast lt_of_mul_lt_mul_right hlt hu.le)

/-- With the sign: the number is rounded as RC says. -/
theorem Nearby.roundedAt {e : ℝ} (h : Nearby rc neg |e| u r) (hsign : e = sign neg * |e|) : RoundedAt rc u e (sign neg * (r.sig * u)) := by
  have herr : |sign neg * (r.sig * u) - e| = abs (r.sig * u - |e|) := by
    conv_lhs => rw [hsign]
    rw [← mul_sub, abs_sign_mul]
  have hm : ∃ m : ℤ, sign neg * (r.sig * u) = m * u ∧ (m % 2 = 0 ↔ r.sig % 2 = 0) := by
    cases neg
    · exact ⟨r.sig, by simp [sign], by omega⟩
    · exact ⟨-r.sig, by simp [sign], by omega⟩
  obtain ⟨hclose, hnear, hdown, hup, hchop, -, -⟩ := h
  obtain ⟨m, hm, heven⟩ := hm
  have hu : 0 < u := (abs_nonneg _).trans_lt hclose
  refine ⟨m, hm, herr ▸ hclose, fun h => ?_, fun h => ?_, fun h => ?_, fun h => ?_⟩
  · rw [herr, heven]
    exact hnear h
  · have := hdown h
    rw [hsign]
    cases neg <;> simp [sign] at this ⊢ <;> exact this
  · have := hup h
    rw [hsign]
    cases neg <;> simp [sign] at this ⊢ <;> exact this
  · rw [abs_sign_mul, abs_of_nonneg (by positivity)]
    exact hchop h

end

end Sys2Proof.Laws

end
end

section
/-! What a rounded result delivers in a register (47_fpu_numerics.md R1031, R1033, R1067 to R1069). -/

noncomputable section

namespace Sys2Proof.Laws

open Sys2Proof Sys2Proof.Machine Sys2Proof.Claims

/-! ## `round_p` as a real number -/

section
variable {rc : BitVec 2} {p : Nat} {d : Dy} {e : ℝ}

theorem zpow_split (a b : ℤ) : (2 : ℝ) ^ (a + b) = 2 ^ a * 2 ^ b := zpow_add₀ two_ne_zero a b

/-- `round_p` rounds to a unit of the last place, a carry taken up in the exponent. -/
theorem roundP_unit (rc : BitVec 2) (hp : 0 < p) (hd : d.sig ≠ 0) (hs : d.sticky = true → p < bitLen d.sig) :
    let t := roundUnit rc (d.top - p + 1) d
    let r := roundP rc p d
    2 ^ (p - 1) ≤ r.sig ∧ r.sig < 2 ^ p ∧ (r.sig : ℝ) * 2 ^ (r.top - p + 1) = t.sig * (2 : ℝ) ^ (d.top - p + 1) ∧ d.top ≤ r.top ∧
    r.inexact = t.inexact ∧ r.up = t.up := by
  dsimp only
  have hlsb : d.top - p + 1 = d.exp + bitLen d.sig - p := by rw [Dy.top]; omega
  rcases Nat.lt_or_ge p (bitLen d.sig) with hl | hl
  · have hunit : roundUnit rc (d.top - p + 1) d = roundShift rc d.neg d.sig (bitLen d.sig - p) d.sticky := by
      have hk : (d.top - p + 1 - d.exp).toNat = bitLen d.sig - p := by omega
      rw [roundUnit, if_pos (by omega), hk]
    obtain ⟨hlow, hhigh, hm, htop, hin, hup⟩ := roundP_of_lt (rc := rc) hp hd hl
    rw [hunit]
    refine ⟨hlow, hhigh, ?_, htop, hin, hup⟩
    obtain ⟨j, hj⟩ : ∃ j : Nat, (roundP rc p d).top = d.top + j := ⟨((roundP rc p d).top - d.top).toNat, by omega⟩
    have hj' : ((roundP rc p d).top - d.top).toNat = j := by omega
    rw [← hm, hj', hj, show d.top + (j : ℤ) - p + 1 = j + (d.top - p + 1) by ring, zpow_split, zpow_natCast]
    push_cast
    ring
  · have hexact : d.sticky = false := by
      cases hst : d.sticky
      · rfl
      · exact absurd (hs hst) (Nat.not_lt.mpr hl)
    obtain ⟨hlow, hhigh⟩ := fits_bounds hp hd hl
    rw [roundP_fits rc hl, roundUnit, if_neg (by omega)]
    have hj : (d.exp - (d.top - p + 1)).toNat = p - bitLen d.sig := by omega
    refine ⟨hlow, hhigh, ?_, le_rfl, hexact, rfl⟩
    rw [hj, Nat.shiftLeft_eq]

theorem roundP_top_le (rc : BitVec 2) (p : Nat) (d : Dy) : (roundP rc p d).top ≤ d.top + 1 := by
  rcases Nat.lt_or_ge p (bitLen d.sig) with hl | hl
  · rw [roundP_drops rc hl]
    dsimp only
    split <;> omega
  · rw [roundP_fits rc hl]
    exact Int.le.intro 1 rfl

/-- The number that `round_p` gives. -/
def roundedValue (rc : BitVec 2) (p : Nat) (d : Dy) : ℝ := sign d.neg * ((roundP rc p d).sig * 2 ^ ((roundP rc p d).top - p + 1))

section
variable (rc) (h : Stands d e) (hd : d.sig ≠ 0) (hp : 0 < p) (hs : d.sticky = true → p < bitLen d.sig)
include h hd hp hs

omit hd hp in
theorem roundP_nearby : Nearby rc d.neg |e| ((2 : ℝ) ^ (d.top - p + 1)) (roundUnit rc (d.top - p + 1) d) :=
  roundUnit_nearby rc h fun hst => by have := hs hst; rw [Dy.top]; omega

theorem roundedValue_roundedTo : RoundedTo rc p e (roundedValue rc p d) := by
  obtain ⟨-, -, hval, -, -, -⟩ := roundP_unit rc hp hd hs
  rw [RoundedTo, h.log hd, roundedValue, hval]
  exact (roundP_nearby rc h hs).roundedAt h.sign_eq

theorem roundP_inexact_iff : (roundP rc p d).inexact = true ↔ roundedValue rc p d ≠ e := by
  obtain ⟨-, -, hval, -, hin, -⟩ := roundP_unit rc hp hd hs
  rw [hin, (roundP_nearby rc h hs).inexact_iff, roundedValue, hval]
  conv_rhs => rw [h.sign_eq]
  rw [Ne, Ne, mul_right_inj' (sign_ne_zero _)]

omit h hd hp hs in
theorem abs_roundedValue : |roundedValue rc p d| = (roundP rc p d).sig * 2 ^ ((roundP rc p d).top - p + 1) := by
  rw [roundedValue, abs_sign_mul, abs_of_nonneg (by positivity)]

theorem roundP_up_iff : (roundP rc p d).up = true ↔ |e| < |roundedValue rc p d| := by
  obtain ⟨-, -, hval, -, -, hup⟩ := roundP_unit rc hp hd hs
  rw [hup, (roundP_nearby rc h hs).up_iff, abs_roundedValue rc, hval]

omit h in
/-- The leading bit of the result. -/
theorem roundedValue_lt_iff (n : ℤ) : |roundedValue rc p d| < (2 : ℝ) ^ n ↔ (roundP rc p d).top < n := by
  obtain ⟨hlow, hhigh, -, -, -, -⟩ := roundP_unit rc hp hd hs
  rw [abs_roundedValue rc]
  have hunit : (0 : ℝ) < 2 ^ ((roundP rc p d).top - p + 1) := by positivity
  obtain ⟨q, rfl⟩ : ∃ q, p = q + 1 := ⟨p - 1, by omega⟩
  have h1 : (2 : ℝ) ^ (roundP rc (q + 1) d).top ≤ (roundP rc (q + 1) d).sig * 2 ^ ((roundP rc (q + 1) d).top - (q + 1 : Nat) + 1) := by
    have hle : ((2 ^ q : Nat) : ℝ) ≤ (roundP rc (q + 1) d).sig := by exact_mod_cast hlow
    calc (2 : ℝ) ^ (roundP rc (q + 1) d).top = ((2 ^ q : Nat) : ℝ) * 2 ^ ((roundP rc (q + 1) d).top - (q + 1 : Nat) + 1) := by
          push_cast
          rw [← zpow_natCast, ← zpow_split]
          congr 1
          ring
      _ ≤ _ := mul_le_mul_of_nonneg_right hle hunit.le
  have h2 : (roundP rc (q + 1) d).sig * (2 : ℝ) ^ ((roundP rc (q + 1) d).top - (q + 1 : Nat) + 1) < 2 ^ ((roundP rc (q + 1) d).top + 1) := by
    have hlt : ((roundP rc (q + 1) d).sig : ℝ) < ((2 ^ (q + 1) : Nat) : ℝ) := by exact_mod_cast hhigh
    calc _ < ((2 ^ (q + 1) : Nat) : ℝ) * 2 ^ ((roundP rc (q + 1) d).top - (q + 1 : Nat) + 1) := mul_lt_mul_of_pos_right hlt hunit
      _ = _ := by
          push_cast
          rw [← zpow_natCast, ← zpow_split]
          congr 1
          push_cast
          ring
  constructor
  · intro h
    exact (zpow_lt_zpow_iff_right₀ one_lt_two).mp (h1.trans_lt h)
  · intro h
    exact h2.trans_le (zpow_le_zpow_right₀ one_le_two (by omega))

end

theorem Stands.lt_iff (h : Stands d e) (hd : d.sig ≠ 0) (n : ℤ) : |e| < (2 : ℝ) ^ n ↔ d.top < n := by
  rw [← h.log hd]
  exact Int.lt_zpow_iff_log_lt one_lt_two (abs_pos.mpr (h.ne_zero hd))

end

/-! ## Numbers in a register -/

section
variable {neg : Bool} {p be sig : Nat}

/-- A significand of `p` bits at the top of a register. -/
theorem sig_shift_lt (hp : p ≤ 64) (hsig : sig < 2 ^ p) : sig <<< (64 - p) < 2 ^ 64 := by
  rw [Nat.shiftLeft_eq]
  calc sig * 2 ^ (64 - p) < 2 ^ p * 2 ^ (64 - p) := Nat.mul_lt_mul_of_pos_right hsig (Nat.two_pow_pos _)
    _ = 2 ^ 64 := by rw [← Nat.pow_add]; congr 1; omega

theorem realOf_shift (hp : p ≤ 64) (hbe : be < 2 ^ 15) (hsig : sig < 2 ^ p) :
    realOf (Ext.mk neg be (sig <<< (64 - p))) = sign neg * (sig * (2 : ℝ) ^ ((max be 1 : Nat) - 16382 - p : ℤ)) := by
  have hexp : ((max be 1 : Nat) - 16382 - p : ℤ) = ((64 - p : Nat) : ℤ) + ((max be 1 : Nat) - 16446 : ℤ) := by omega
  rw [realOf_mk hbe (sig_shift_lt hp hsig), Nat.shiftLeft_eq, hexp, zpow_split, zpow_natCast]
  push_cast
  ring

/-- With the integer bit set and an exponent in range: a normal number. -/
theorem cls_shift_normal (hp0 : 0 < p) (hp : p ≤ 64) (hbe0 : 0 < be) (hbe : be < 0x7FFF) (hlow : 2 ^ (p - 1) ≤ sig) (hsig : sig < 2 ^ p) :
    Ext.cls (Ext.mk neg be (sig <<< (64 - p))) = .normal := by
  rw [cls_normal_iff, be_mk (by omega), sig_mk (sig_shift_lt hp hsig)]
  refine ⟨by omega, by omega, ?_⟩
  calc 2 ^ 63 = 2 ^ (p - 1) * 2 ^ (64 - p) := by rw [← Nat.pow_add]; congr 1; omega
    _ ≤ sig * 2 ^ (64 - p) := Nat.mul_le_mul_right _ hlow
    _ = _ := (Nat.shiftLeft_eq _ _).symm

/-- Below the normal numbers, the least of them included. -/
theorem finiteCls_shift_denormal (hp0 : 0 < p) (hp : p ≤ 64) (hsig : sig ≤ 2 ^ (p - 1)) :
    finiteCls (Ext.mk neg (if 2 ^ (p - 1) ≤ sig then 1 else 0) (sig <<< (64 - p))) := by
  have hlt : sig < 2 ^ p := hsig.trans_lt (Nat.pow_lt_pow_right (by decide) (by omega))
  split
  · exact .inr (.inr (cls_shift_normal hp0 hp (by decide) (by decide) ‹_› hlt))
  · exact (finiteCls_iff _).mpr (.inl (be_mk (by decide)))

theorem realOf_shift_denormal (hp0 : 0 < p) (hp : p ≤ 64) (hsig : sig ≤ 2 ^ (p - 1)) :
    realOf (Ext.mk neg (if 2 ^ (p - 1) ≤ sig then 1 else 0) (sig <<< (64 - p))) = sign neg * (sig * (2 : ℝ) ^ (-16381 - p : ℤ)) := by
  have hlt : sig < 2 ^ p := hsig.trans_lt (Nat.pow_lt_pow_right (by decide) (by omega))
  have hbe : (if 2 ^ (p - 1) ≤ sig then 1 else 0) < 2 ^ 15 := by split <;> decide
  have hmax : max (if 2 ^ (p - 1) ≤ sig then 1 else 0) 1 = 1 := by split <;> rfl
  rw [realOf_shift hp hbe hlt, hmax]
  congr 3

end

/-! ## Delivering a value -/

section
variable {f : Fmt} {cw : Half} {d : Dy}

theorem finish_normal (htop : (roundP (cwRc cw) f.p d).top ≤ f.bias) (htiny : ¬ d.top < 1 - f.bias) :
    finish f cw d = { be := ((roundP (cwRc cw) f.p d).top + f.bias).toNat, sig := (roundP (cwRc cw) f.p d).sig, oe := false, ue := false,
                      pe := (roundP (cwRc cw) f.p d).inexact, up := (roundP (cwRc cw) f.p d).up, stored := true } := by
  rw [finish, decide_eq_false htiny, finishAs]
  simp only [if_neg (not_lt.mpr htop), Bool.false_eq_true, if_false]

theorem finish_overflow_masked (htop : f.bias < (roundP (cwRc cw) f.p d).top) (hm : cwOm cw = true) :
    finish f cw d = overflowValue f (cwRc cw) d.neg := by
  rw [finish, finishAs]
  simp only [if_pos htop, hm, if_true]

theorem finish_overflow_unmasked (htop : f.bias < (roundP (cwRc cw) f.p d).top) (hm : cwOm cw = false) (hreg : f.reg = true)
    (hback : (roundP (cwRc cw) f.p d).top - 24576 ≤ f.bias) :
    finish f cw d = { be := ((roundP (cwRc cw) f.p d).top - 24576 + f.bias).toNat, sig := (roundP (cwRc cw) f.p d).sig, oe := true, ue := false,
                      pe := (roundP (cwRc cw) f.p d).inexact, up := (roundP (cwRc cw) f.p d).up, stored := true } := by
  rw [finish, finishAs]
  simp only [if_pos htop, hm, hreg, if_neg (not_lt.mpr hback), Bool.false_eq_true, if_false, if_true]

/-- The least bit of a denormal has weight `2^(2 - bias - p)` (R1068). -/
theorem finish_tiny_masked (htop : (roundP (cwRc cw) f.p d).top ≤ f.bias) (htiny : d.top < 1 - f.bias) (hm : cwUm cw = true) :
    let t := roundUnit (cwRc cw) (2 - f.bias - f.p) d
    finish f cw d = { be := if 2 ^ (f.p - 1) ≤ t.sig then 1 else 0, sig := t.sig, oe := false, ue := t.inexact, pe := t.inexact, up := t.up,
                      stored := true } := by
  rw [finish, decide_eq_true htiny, finishAs]
  simp only [if_neg (not_lt.mpr htop), hm, if_true]
  rfl

theorem finish_tiny_unmasked (htop : (roundP (cwRc cw) f.p d).top ≤ f.bias) (htiny : d.top < 1 - f.bias) (hm : cwUm cw = false)
    (hreg : f.reg = true) (hback : 1 - (f.bias : ℤ) ≤ (roundP (cwRc cw) f.p d).top + 24576) :
    finish f cw d = { be := ((roundP (cwRc cw) f.p d).top + 24576 + f.bias).toNat, sig := (roundP (cwRc cw) f.p d).sig, oe := false, ue := true,
                      pe := (roundP (cwRc cw) f.p d).inexact, up := (roundP (cwRc cw) f.p d).up, stored := true } := by
  rw [finish, decide_eq_true htiny, finishAs]
  simp only [if_neg (not_lt.mpr htop), hm, hreg, if_neg (not_lt.mpr hback), Bool.false_eq_true, if_false, if_true]

end

/-! ## Delivering a value in a register -/

section
variable {p : Nat} {reg : Bool} {d : Dy} {e : ℝ} {cw : Half} {zneg : Bool}

/-- A register format: its exponent is that of the extended format (R1033). -/
structure InRegister (f : Fmt) : Prop where
  bias_eq : f.bias = 16383
  reg_eq : f.reg = true
  pos : 0 < f.p
  le : f.p ≤ 64

theorem inRegister_ext : InRegister .ext := ⟨rfl, rfl, by decide, by decide⟩

theorem ofPc_p (cw : Half) (h : cwPc cw ≠ 1) : (Fmt.ofPc cw).p = pcBits cw := by
  rw [Fmt.ofPc, pcBits]
  generalize cwPc cw = pc at *
  have hcases : ∀ pc : BitVec 2, pc = 0 ∨ pc = 1 ∨ pc = 2 ∨ pc = 3 := by decide
  rcases hcases pc with rfl | rfl | rfl | rfl
  · rfl
  · exact absurd rfl h
  · rfl
  · rfl

theorem inRegister_ofPc (cw : Half) (h : cwPc cw ≠ 1) : InRegister (Fmt.ofPc cw) := by
  have hp := ofPc_p cw h
  have hbits : 0 < pcBits cw ∧ pcBits cw ≤ 64 := by
    rw [pcBits]
    split
    · decide
    · split <;> decide
  exact ⟨rfl, rfl, hp ▸ hbits.1, hp ▸ hbits.2⟩

section
variable {f : Fmt} (hf : InRegister f) (h : Stands d e) (hd : d.sig ≠ 0) (hs : d.sticky = true → f.p < bitLen d.sig)
include hf h hd hs

omit hf h hs in
theorem round_eq (f : Fmt) : Machine.Num.round f cw zneg d = Machine.Num.ofDelivered f d.neg (finish f cw d) := by
  rw [Machine.Num.round, if_neg]
  rw [Bool.and_eq_true, decide_eq_true_eq]
  exact fun h0 => hd h0.1

/-- A result whose significand is that of `round_p`, its exponent moved by `k`. -/
theorem gives_of_finish {oe ue : Bool} {k : ℤ} (hlow : 0 < (roundP (cwRc cw) f.p d).top + k + 16383)
    (hhigh : (roundP (cwRc cw) f.p d).top + k ≤ 16383)
    (hfin : finish f cw d = { be := ((roundP (cwRc cw) f.p d).top + k + f.bias).toNat, sig := (roundP (cwRc cw) f.p d).sig, oe := oe, ue := ue,
                              pe := (roundP (cwRc cw) f.p d).inexact, up := (roundP (cwRc cw) f.p d).up, stored := true }) :
    Gives (Machine.Num.round f cw zneg d) (roundedValue (cwRc cw) f.p d * 2 ^ k) e (roundedValue (cwRc cw) f.p d) oe ue := by
  obtain ⟨hsig, hsiglt, -, -, -, -⟩ := roundP_unit (cwRc cw) hf.pos hd hs
  obtain ⟨be, hbe⟩ : ∃ be : Nat, (roundP (cwRc cw) f.p d).top + k + f.bias = be := ⟨_, (Int.toNat_of_nonneg (by rw [hf.bias_eq]; omega)).symm⟩
  have hrange : 0 < be ∧ be < 0x7FFF := by rw [hf.bias_eq] at hbe; omega
  rw [round_eq hd, hfin, hbe, Int.toNat_natCast, Machine.Num.ofDelivered]
  refine ⟨rfl, rfl, roundP_inexact_iff _ h hd hf.pos hs, fun hpe => ?_, _, rfl, ?_, ?_, ?_⟩
  · dsimp only at hpe ⊢
    rw [hpe, Bool.true_and]
    exact roundP_up_iff _ h hd hf.pos hs
  · exact .inr (.inr (cls_shift_normal hf.pos hf.le hrange.1 hrange.2 hsig hsiglt))
  · rw [realOf_shift hf.le (show be < 2 ^ 15 by omega) hsiglt, roundedValue, mul_assoc, mul_assoc, ← zpow_split]
    congr 3
    rw [hf.bias_eq] at hbe
    omega
  · rw [neg_mk]
    exact h.neg_iff

/-- A tiny result with the masked response: a denormal, or the least normal number (R1068). -/
theorem gives_denormal {n : Machine.Num} (hsmall : |e| < (2 : ℝ) ^ (-16382 : ℤ)) (hm : cwUm cw = true)
    (hn : n = Machine.Num.round f cw zneg d) :
    ∃ w, RoundedAt (cwRc cw) (2 ^ (-16381 - f.p : ℤ)) e w ∧ Gives n w e w false n.ue ∧ (n.ue = true ↔ w ≠ e) := by
  have htop : d.top < -16382 := (h.lt_iff hd _).mp hsmall
  have hcarry : (roundP (cwRc cw) f.p d).top ≤ f.bias := by
    have := roundP_top_le (cwRc cw) f.p d
    rw [hf.bias_eq]
    omega
  have hlsb : (2 - f.bias - f.p : ℤ) = -16381 - f.p := by rw [hf.bias_eq]; omega
  have hfin := finish_tiny_masked (f := f) (cw := cw) hcarry (by rw [hf.bias_eq]; omega) hm
  dsimp only at hfin
  rw [hlsb] at hfin
  have hunit := roundUnit_nearby (cwRc cw) (lsb := -16381 - f.p) h fun hst => by have := hs hst; rw [Dy.top] at htop; omega
  generalize roundUnit (cwRc cw) (-16381 - f.p) d = t at *
  have hsig : t.sig ≤ 2 ^ (f.p - 1) := by
    refine hunit.sig_le (hsmall.le.trans (le_of_eq ?_))
    push_cast
    rw [← zpow_natCast, ← zpow_split]
    have := hf.pos
    congr 1
    omega
  have hne : sign d.neg * (t.sig * (2 : ℝ) ^ (-16381 - f.p : ℤ)) ≠ e ↔ t.inexact = true := by
    rw [hunit.inexact_iff]
    conv_lhs => rw [h.sign_eq]
    rw [Ne, Ne, mul_right_inj' (sign_ne_zero _)]
  rw [hn, round_eq hd, hfin, Machine.Num.ofDelivered]
  refine ⟨sign d.neg * (t.sig * 2 ^ (-16381 - f.p : ℤ)), hunit.roundedAt h.sign_eq, ⟨rfl, rfl, hne.symm, fun hpe => ?_, _, rfl, ?_, ?_, ?_⟩, hne.symm⟩
  · dsimp only at hpe ⊢
    rw [hpe, Bool.true_and, hunit.up_iff, abs_sign_mul, abs_of_nonneg (by positivity : (0 : ℝ) ≤ t.sig * 2 ^ (-16381 - f.p : ℤ))]
  · exact finiteCls_shift_denormal hf.pos hf.le hsig
  · exact realOf_shift_denormal hf.pos hf.le hsig
  · rw [neg_mk]
    exact h.neg_iff

omit hf h hd hs in
/-- Infinity or the largest finite number (Table 7-12). -/
theorem overflowValue_eq (f : Fmt) (rc : BitVec 2) (neg : Bool) : ∃ big : Bool,
    overflowValue f rc neg = { be := if big then 2 * f.bias + 1 else 2 * f.bias, sig := if big then 2 ^ (f.p - 1) else 2 ^ f.p - 1, oe := true,
                               ue := false, pe := true, up := big, stored := true } ∧
    (big = true ↔ rc = 0 ∨ (rc = 1 ∧ neg = true) ∨ (rc = 2 ∧ neg = false)) := by
  have hcases : ∀ rc : BitVec 2, rc = 0 ∨ rc = 1 ∨ rc = 2 ∨ rc = 3 := by decide
  refine ⟨_, rfl, ?_⟩
  rcases hcases rc with rfl | rfl | rfl | rfl <;> cases neg <;> decide

/-- The masked response to an overflow (Table 7-12). -/
theorem overflow_masked (hbig : (2 : ℝ) ^ (16384 : ℤ) ≤ |roundedValue (cwRc cw) f.p d|) (hm : cwOm cw = true) :
    let n := Machine.Num.round f cw zneg d
    n.oe = true ∧ n.ue = false ∧ n.pe = true ∧
      (toInfinity (cwRc cw) e → ∃ b, n.res = some (Ext.inf b) ∧ (b = true ↔ e < 0)) ∧
      (¬ toInfinity (cwRc cw) e → ∃ z, n.res = some z ∧ (Ext.neg z = true ↔ e < 0) ∧ |realOf z| = (2 ^ f.p - 1) * 2 ^ (16384 - f.p : ℤ)) := by
  have htop : ¬ (roundP (cwRc cw) f.p d).top < 16384 := fun hlt =>
    not_lt.mpr hbig ((roundedValue_lt_iff (cwRc cw) hd hf.pos hs 16384).mpr hlt)
  dsimp only
  rw [round_eq hd, finish_overflow_masked (by rw [hf.bias_eq]; omega) hm]
  have hneg : d.neg = false ↔ 0 < e := by
    rw [← Bool.not_eq_true, h.neg_iff, not_lt]
    exact ⟨fun hle => lt_of_le_of_ne hle (h.ne_zero hd).symm, le_of_lt⟩
  obtain ⟨big, hval, hto⟩ := overflowValue_eq f (cwRc cw) d.neg
  rw [h.neg_iff, hneg] at hto
  rw [hval, Machine.Num.ofDelivered, hf.bias_eq]
  have hpow : 2 ^ (f.p - 1) < 2 ^ f.p := Nat.pow_lt_pow_right (by decide) (Nat.sub_lt hf.pos Nat.one_pos)
  have hpos := Nat.two_pow_pos f.p
  refine ⟨rfl, rfl, rfl, fun hinf => ?_, fun hmax => ?_⟩
  · rw [hto.mpr hinf]
    refine ⟨d.neg, congrArg some ?_, h.neg_iff⟩
    have hsig : 2 ^ (f.p - 1) <<< (64 - f.p) = 2 ^ 63 := by
      have := hf.pos
      have := hf.le
      rw [Nat.shiftLeft_eq, ← Nat.pow_add]
      congr 1
      omega
    simp only [if_true, hsig]
    rfl
  · have hbig : big = false := by rw [← Bool.not_eq_true]; exact fun hb => hmax (hto.mp hb)
    refine ⟨_, rfl, ?_, ?_⟩
    · rw [neg_mk]
      exact h.neg_iff
    · simp only [hbig, Bool.false_eq_true, if_false]
      rw [realOf_shift hf.le (by decide) (Nat.sub_lt hpos Nat.one_pos), abs_sign_mul, abs_of_nonneg (by positivity), Nat.cast_sub hpos]
      push_cast
      congr 2

/-- A non-zero value delivered in a register (R1031, R1033, R1067, R1068). -/
theorem round_delivers : Delivers f.p cw e (Machine.Num.round f cw zneg d) := by
  have hvlt (n : ℤ) := roundedValue_lt_iff (cwRc cw) hd hf.pos hs n
  have helt (n : ℤ) := h.lt_iff hd n
  have hbias := hf.bias_eq
  have hscale : (2 : ℝ) ^ (24576 : ℤ) = 2 ^ 24576 := by rw [← zpow_natCast, Nat.cast_ofNat]
  have hcarry := roundP_top_le (cwRc cw) f.p d
  obtain ⟨-, -, -, hkeep, -, -⟩ := roundP_unit (cwRc cw) hf.pos hd hs
  refine ⟨roundedValue (cwRc cw) f.p d, roundedValue_roundedTo _ h hd hf.pos hs, fun hnormal hfits => ?_, fun hbig hm => ?_,
    fun hbig hback hm => ?_, fun hsmall hm => ?_, fun hsmall hback hm => ?_⟩
  · rw [← not_lt, helt] at hnormal
    rw [hvlt] at hfits
    have := gives_of_finish (cw := cw) (zneg := zneg) hf h hd hs (oe := false) (ue := false) (k := 0) (by omega) (by omega)
      (by rw [add_zero]; exact finish_normal (by omega) (by omega))
    rwa [zpow_zero, mul_one] at this
  · exact overflow_masked hf h hd hs hbig hm
  · rw [← not_lt, hvlt] at hbig
    rw [hvlt] at hback
    have := gives_of_finish (cw := cw) (zneg := zneg) hf h hd hs (oe := true) (ue := false) (k := -24576) (by omega) (by omega)
      (finish_overflow_unmasked (by omega) hm hf.reg_eq (by omega))
    rwa [zpow_neg, ← div_eq_mul_inv, hscale] at this
  · exact gives_denormal hf h hd hs hsmall hm rfl
  · rw [helt] at hsmall
    rw [← not_lt, hvlt] at hback
    have := gives_of_finish (cw := cw) (zneg := zneg) hf h hd hs (oe := false) (ue := true) (k := 24576) (by omega) (by omega)
      (finish_tiny_unmasked (by omega) (by omega) hm hf.reg_eq (by omega))
    rwa [hscale] at this

end

end

end Sys2Proof.Laws

end
end

section
/-! Delivering a result, and ESC instructions that read a memory operand (48_fpu_instructions.md R1100, R1101, R1062). -/

noncomputable section

namespace Sys2Proof.Laws

open Sys2Proof Sys2Proof.Machine Sys2Proof.Claims

section
variable {f : Fpu} {Q : Unit → Fpu → Prop}

/-- A result delivered: its flags, and what happens to the registers if there is one. -/
theorem deliverWith_fp {c : Bool} {r : Machine.Num} {m : Ext → M Unit} {k : Ext → Fpu → Fpu} (hm : ∀ v, Does (m v) (k v)) (hk : ∀ v, OnStack (k v))
    (hQ : Q () (withSw (withResult r.res k f) (raised c r))) : Fp f (deliverWith c r m) Q := by
  refine .seq (modifySw_fp ?_)
  show Fp (withSw f (raised c r)) _ Q
  cases hres : r.res with
  | none =>
    rw [hres] at hQ
    exact .pure hQ
  | some v =>
    rw [hres] at hQ
    refine (hm v).fp ?_
    rw [hk v f _ (raised_flagsOnly c r)]
    exact hQ

theorem deliverNum_fp {r : Machine.Num} {m : Ext → M Unit} {k : Ext → Fpu → Fpu} (hm : ∀ v, Does (m v) (k v)) (hk : ∀ v, OnStack (k v))
    (hQ : ∀ c, Q () (withSw (withResult r.res k f) (raised c r))) : Fp f (deliverNum r m) Q :=
  .seq <| drawBool_fp fun c => deliverWith_fp hm hk (hQ c)

/-- PC = 01 is refused, any other goes on (R1033). -/
theorem checkPc_fp (hpc : cwPc f.cw ≠ 1) (hQ : Q () f) : Fp f checkPc Q :=
  .get fun _ _ => .ite (fun h => absurd h hpc) fun _ => .pure hQ

end

theorem checkPc_refuses {s : State} (hpc : cwPc s.fpu.cw = 1) : checkPc s = .error (.refuse .reservedPrecision) s := by
  rw [checkPc, get_bind, if_pos hpc]
  rfl

/-- The FPU that an access leaves: the pointers are set, all else is as before. -/
theorem fpu_of_access {s s1 : State} {m : MemOp} {n al : Nat} {k : Kind} {ps : List Word}
    (hacc : access s.as (s.eaSeg m) (s.eaOff m) n al k (memStart m s) = .ok ps s1) : s1.fpu = (memStart m s).fpu :=
  (access_checksOnly _ _ _ _ _ _ hacc).fpu_eq

section
variable {s s1 s2 : State} {i : Instr} {m : MemOp} {n al v : Nat} {ps : List Word} {body : List Word → M Unit} {rest : Nat → M Unit} (hon : fpuOn s)
include hon

/-- An ESC instruction that reads its operand: what it then makes of the FPU. -/
theorem ran_load {P : Fpu → Prop} (hi : exec i s = runInstr (escMem m n al .r body) s) (hbody : body = fun ps => load ps >>= rest)
    (hacc : access s.as (s.eaSeg m) (s.eaOff m) n al .r (memStart m s) = .ok ps s1) (hload : load ps s1 = .ok v s2)
    (hrest : Fp s2.fpu (rest v) fun _ g => P g) :
    ∃ (g : Fpu) (d : Nat), Ran i s { s2 with fpu := summarised g, draws := d } ∧ P g := by
  obtain ⟨_, g, d, hrun, hP⟩ := hrest s2 s2.draws
  refine ⟨g, d, ran_mem hon hi hacc ?_, hP⟩
  rw [hbody]
  exact (bind_of_ok hload).trans hrun

end

end Sys2Proof.Laws

end
end

section
/-! The results of floating-point operations on finite operands (47_fpu_numerics.md R1040, R1041, R1112). -/

noncomputable section

namespace Sys2Proof.Laws

open Sys2Proof Sys2Proof.Machine Sys2Proof.Claims

/-! ## Finite operands -/

section
variable {x y : Ext}

theorem realOf_of_zero (h : Ext.cls x = .zero) : realOf x = 0 := (realOf_eq_zero_iff x).mpr ((cls_zero_iff x).mp h).2

theorem finiteCls_cases (h : finiteCls x) : Ext.cls x = .zero ∨ (Ext.cls x ≠ .zero ∧ (Ext.sig x).toNat ≠ 0) := by
  rcases h with h | h | h
  · exact .inl h
  · exact .inr ⟨by rw [h]; decide, ((cls_denormal_iff x).mp h).2⟩
  · exact .inr ⟨by rw [h]; decide, by have := ((cls_normal_iff x).mp h).2.2; omega⟩

theorem cls_zero_iff_realOf (h : finiteCls x) : Ext.cls x = .zero ↔ realOf x = 0 := by
  rw [realOf_eq_zero_iff]
  rcases finiteCls_cases h with hz | ⟨hne, hsig⟩
  · exact iff_of_true hz ((cls_zero_iff x).mp hz).2
  · exact iff_of_false hne hsig

theorem sig_ne_zero (h0 : realOf x ≠ 0) : (Ext.sig x).toNat ≠ 0 := fun hs => h0 ((realOf_eq_zero_iff x).mpr hs)

/-- Finite operands are no case of R1070. -/
theorem nanCase_finite (cw : Half) (tie : Bool) (hx : finiteCls x) (hy : finiteCls y) : nanCase cw tie x y = none := by
  have hno {z : Ext} (h : finiteCls z) : Ext.cls z ≠ .unsupported ∧ Ext.cls z ≠ .snan ∧ Ext.cls z ≠ .qnan := by
    rcases h with h | h | h <;> rw [h] <;> decide
  obtain ⟨h1, h2, h3⟩ := hno hx
  obtain ⟨h4, h5, h6⟩ := hno hy
  simp only [nanCase, h1, h2, h3, h4, h5, h6, decide_false, Bool.or_self, Bool.false_eq_true, if_false]

theorem nanCase1_finite (cw : Half) (hx : finiteCls x) : nanCase1 cw x = none := nanCase_finite cw true hx hx

theorem toNat_withSign (x : Ext) (neg : Bool) : (Ext.withSign x neg).toNat = neg.toNat * 2 ^ 79 + x.toNat % 2 ^ 79 := by
  have hcat : (Ext.withSign x neg).toNat = neg.toNat <<< 79 ||| x.toNat % 2 ^ 79 := by
    rw [Ext.withSign, BitVec.toNat_append, BitVec.extractLsb'_toNat, BitVec.toNat_ofBool, Nat.shiftRight_zero]
  rw [hcat, ← Nat.shiftLeft_add_eq_or_of_lt (Nat.mod_lt _ (by decide)), Nat.shiftLeft_eq]

@[simp] theorem neg_withSign (x : Ext) (neg : Bool) : Ext.neg (Ext.withSign x neg) = neg := by
  rw [neg_eq, toNat_withSign]
  cases neg <;> simp only [Bool.toNat_true, Bool.toNat_false, decide_eq_true_eq, decide_eq_false_iff_not] <;> omega

theorem be_withSign (x : Ext) (neg : Bool) : Ext.be (Ext.withSign x neg) = Ext.be x := by
  rw [be_eq, be_eq, toNat_withSign]
  omega

theorem sig_withSign (x : Ext) (neg : Bool) : (Ext.sig (Ext.withSign x neg)).toNat = (Ext.sig x).toNat := by
  rw [sig_eq, sig_eq, toNat_withSign]
  omega

theorem cls_withSign (x : Ext) (neg : Bool) : Ext.cls (Ext.withSign x neg) = Ext.cls x := by
  rw [cls_eq, cls_eq, be_withSign, sig_withSign]

theorem realOf_withSign (x : Ext) (neg : Bool) : realOf (Ext.withSign x neg) = sign neg * |realOf x| := by
  rw [realOf_sign, neg_withSign, abs_realOf, abs_realOf, be_withSign, sig_withSign]

/-- The other sign. -/
theorem realOf_flip (x : Ext) : realOf (Ext.withSign x (!Ext.neg x)) = -realOf x := by
  rw [realOf_withSign, sign_not, neg_mul, ← realOf_sign]

theorem finiteCls_withSign {neg : Bool} (h : finiteCls x) : finiteCls (Ext.withSign x neg) := by
  rw [finiteCls, cls_withSign]
  exact h

end

/-! ## Results -/

/-- The result of an operation whose exact value is `e`, no operand being special. -/
structure Computes (p : Nat) (cw : Half) (e : ℝ) (n : Machine.Num) : Prop where
  ie_eq : n.ie = false
  ze_eq : n.ze = false
  de_eq : n.de = false
  delivered : n.res.isSome = true
  delivers : e ≠ 0 → Delivers p cw e n
  zero : e = 0 → n.oe = false ∧ n.ue = false ∧ n.pe = false ∧ ∃ z, n.res = some z ∧ Ext.cls z = .zero

section
variable {f : Fmt} {cw : Half} {d : Dy} {e : ℝ} {zneg : Bool}

theorem cls_zero (neg : Bool) : Ext.cls (Ext.zero neg) = .zero := by cases neg <;> rfl

theorem computes_zero (p : Nat) (cw : Half) {z : Ext} (hz : Ext.cls z = .zero) : Computes p cw 0 (Machine.Num.exact z) :=
  ⟨rfl, rfl, rfl, rfl, fun h => absurd rfl h, fun _ => ⟨rfl, rfl, rfl, z, rfl, hz⟩⟩

theorem computes_round (hf : InRegister f) (h : Stands d e) (hs : d.sticky = true → f.p < bitLen d.sig) :
    Computes f.p cw e (Machine.Num.round f cw zneg d) := by
  by_cases hd : d.sig = 0
  · have hst : d.sticky = false := by
      rw [← Bool.not_eq_true]
      intro hst
      have := hs hst
      rw [hd] at this
      exact Nat.not_lt_zero _ this
    have he : e = 0 := by rw [← abs_eq_zero, h.exact hst, hd, Nat.cast_zero, zero_mul]
    have hround : Machine.Num.round f cw zneg d = Machine.Num.exact (Ext.zero zneg) := by
      rw [Machine.Num.round, hd, hst]
      rfl
    rw [he, hround]
    exact computes_zero _ _ (cls_zero zneg)
  · refine ⟨?_, ?_, ?_, ?_, fun _ => round_delivers hf h hd hs, fun h0 => absurd h0 (h.ne_zero hd)⟩ <;> rw [round_eq hd f] <;> rfl

end

theorem mul_pos_neg_iff {a c : ℝ} (hc : 0 < c) : a * c < 0 ↔ a < 0 := by
  simpa using mul_lt_mul_iff_left₀ (b := a) (c := 0) hc

theorem abs_realOf_dy (x : Ext) : |realOf x| = (Ext.dy x).sig * (2 : ℝ) ^ (Ext.dy x).exp := abs_realOf x

section
variable {f : Fmt} {cw : Half} {x y : Ext}

/-- The integer that `d` is a multiple of `2^e`. -/
def alignedInt (d : Dy) (e : ℤ) : ℤ := (if d.neg then -1 else 1) * ((d.sig <<< (d.exp - e).toNat : Nat) : ℤ)

theorem alignedInt_eq (x : Ext) {e : ℤ} (he : e ≤ (Ext.dy x).exp) : (alignedInt (Ext.dy x) e : ℝ) * 2 ^ e = realOf x := by
  obtain ⟨j, hj⟩ : ∃ j : Nat, (Ext.dy x).exp = e + j := ⟨((Ext.dy x).exp - e).toNat, by omega⟩
  have hj' : ((Ext.dy x).exp - e).toNat = j := by omega
  have hval : realOf x = sign (Ext.dy x).neg * ((Ext.dy x).sig : ℝ) * 2 ^ (Ext.dy x).exp := realOf_eq x
  rw [alignedInt, hj', hval, hj, zpow_split, zpow_natCast, Nat.shiftLeft_eq, sign]
  cases (Ext.dy x).neg <;> push_cast <;> simp <;> ring

/-- A sum is exact (R1040). -/
theorem stands_addDy (x y : Ext) : Stands (addDy (Ext.dy x) (Ext.dy y)) (realOf x + realOf y) := by
  obtain ⟨e, t, he, ht, hdy⟩ : ∃ e t : ℤ, (e ≤ (Ext.dy x).exp ∧ e ≤ (Ext.dy y).exp) ∧ t = alignedInt (Ext.dy x) e + alignedInt (Ext.dy y) e ∧
      addDy (Ext.dy x) (Ext.dy y) = { neg := decide (t < 0), sig := t.natAbs, exp := e, sticky := false } :=
    ⟨_, _, ⟨min_le_left _ _, min_le_right _ _⟩, rfl, rfl⟩
  have hpow : (0 : ℝ) < 2 ^ e := by positivity
  have hsum : realOf x + realOf y = t * 2 ^ e := by
    rw [← alignedInt_eq x he.1, ← alignedInt_eq y he.2, ht]
    push_cast
    ring
  rw [hdy, hsum]
  refine ⟨?_, fun _ => ?_, nofun, nofun⟩
  · simp only [decide_eq_true_eq]
    rw [mul_pos_neg_iff hpow, Int.cast_lt_zero]
  · rw [abs_mul, abs_of_pos hpow]
    rw [← Int.cast_abs, Int.abs_eq_natAbs, Int.cast_natCast]

theorem computes_add (hf : InRegister f) (hx : finiteCls x) (hy : finiteCls y) :
    Computes f.p cw (realOf x + realOf y) (addExt f cw x y) := by
  have hround (h : addExt f cw x y = Machine.Num.round f cw (cwRc cw == 1) (addDy (Ext.dy x) (Ext.dy y))) :
      Computes f.p cw (realOf x + realOf y) (addExt f cw x y) := h ▸ computes_round hf (stands_addDy x y) nofun
  rcases hx with h1 | h1 | h1 <;> rcases hy with h2 | h2 | h2
  case inl.inl =>
    rw [realOf_of_zero h1, realOf_of_zero h2, add_zero, addExt, h1, h2]
    exact computes_zero _ _ (cls_zero _)
  all_goals exact hround (by rw [addExt, h1, h2])

theorem xor_neg_iff (x y : Ext) : (Ext.neg x != Ext.neg y) = true ↔ sign (Ext.neg x) * sign (Ext.neg y) < 0 := by
  cases Ext.neg x <;> cases Ext.neg y <;> simp [sign]

theorem xor_neg_iff_mul {x y : Ext} (hx : realOf x ≠ 0) (hy : realOf y ≠ 0) : (Ext.neg x != Ext.neg y) = true ↔ realOf x * realOf y < 0 := by
  rw [xor_neg_iff, realOf_sign x, realOf_sign y, mul_mul_mul_comm, mul_pos_neg_iff (mul_pos (abs_pos.mpr hx) (abs_pos.mpr hy))]

theorem computes_mul (hf : InRegister f) (hx : finiteCls x) (hy : finiteCls y) :
    Computes f.p cw (realOf x * realOf y) (mulExt f cw x y) := by
  have hzero (hxy : realOf x = 0 ∨ realOf y = 0) (h : mulExt f cw x y = Machine.Num.exact (Ext.zero (Ext.neg x != Ext.neg y))) :
      Computes f.p cw (realOf x * realOf y) (mulExt f cw x y) := by
    rw [mul_eq_zero.mpr hxy, h]
    exact computes_zero _ _ (cls_zero _)
  have hround (hx0 : realOf x ≠ 0) (hy0 : realOf y ≠ 0) (h : mulExt f cw x y = Machine.Num.round f cw (Ext.neg x != Ext.neg y)
      { neg := Ext.neg x != Ext.neg y, sig := (Ext.dy x).sig * (Ext.dy y).sig, exp := (Ext.dy x).exp + (Ext.dy y).exp, sticky := false }) :
      Computes f.p cw (realOf x * realOf y) (mulExt f cw x y) := by
    rw [h]
    refine computes_round hf ⟨xor_neg_iff_mul hx0 hy0, fun _ => ?_, nofun, nofun⟩ nofun
    rw [abs_mul, abs_realOf_dy, abs_realOf_dy, zpow_split, Nat.cast_mul, mul_mul_mul_comm]
  have h0x := cls_zero_iff_realOf hx
  have h0y := cls_zero_iff_realOf hy
  rcases hx with h1 | h1 | h1 <;> rcases hy with h2 | h2 | h2 <;> rw [h1] at h0x <;> rw [h2] at h0y
  case inl.inl | inl.inr.inl | inl.inr.inr => exact hzero (.inl (h0x.mp rfl)) (by rw [mulExt, h1, h2])
  case inr.inl.inl | inr.inr.inl => exact hzero (.inr (h0y.mp rfl)) (by rw [mulExt, h1, h2])
  all_goals exact hround (fun h => nomatch h0x.mpr h) (fun h => nomatch h0y.mpr h) (by rw [mulExt, h1, h2])

theorem lt_bitLen {k n : Nat} (h : 2 ^ k ≤ n) : k < bitLen n :=
  (Nat.pow_lt_pow_iff_right (by decide)).mp (h.trans_lt (lt_two_pow_bitLen n))

/-- A quotient to more than 66 bits, with what is left (R1040). -/
theorem stands_divDy (hx : realOf x ≠ 0) (hy : realOf y ≠ 0) : Stands (divDy (Ext.dy x) (Ext.dy y)) (realOf x / realOf y) := by
  have hsig {z : Ext} (h : realOf z ≠ 0) : 0 < (Ext.dy z).sig := Nat.pos_of_ne_zero fun h0 => h ((realOf_eq_zero_iff z).mpr h0)
  have hmag : |realOf x / realOf y| =
      ((Ext.dy x).sig * 2 ^ 130 : Nat) / ((Ext.dy y).sig : ℝ) * 2 ^ ((Ext.dy x).exp - (Ext.dy y).exp - 130) := by
    rw [abs_div, abs_realOf_dy, abs_realOf_dy, sub_eq_add_neg (_ - _), zpow_split, zpow_sub₀ two_ne_zero]
    push_cast
    have : (0 : ℝ) < (Ext.dy y).sig := Nat.cast_pos.mpr (hsig hy)
    field_simp
    norm_num
  have hdiv := Nat.div_add_mod ((Ext.dy x).sig * 2 ^ 130) (Ext.dy y).sig
  have hlt := Nat.mod_lt ((Ext.dy x).sig * 2 ^ 130) (hsig hy)
  have hneg : ((Ext.dy x).neg != (Ext.dy y).neg) = true ↔ realOf x / realOf y < 0 := by
    rw [div_eq_mul_inv, ← mul_pos_neg_iff (a := realOf x * (realOf y)⁻¹) (mul_self_pos.mpr hy)]
    have : realOf x * (realOf y)⁻¹ * (realOf y * realOf y) = realOf x * realOf y := by field_simp
    rw [this]
    exact xor_neg_iff_mul hx hy
  have hden : (0 : ℝ) < (Ext.dy y).sig := Nat.cast_pos.mpr (hsig hy)
  have hpow : (0 : ℝ) < 2 ^ ((Ext.dy x).exp - (Ext.dy y).exp - 130) := by positivity
  rw [divDy, Nat.shiftLeft_eq]
  generalize (Ext.dy x).sig * 2 ^ 130 = num at *
  generalize (Ext.dy y).sig = den at *
  have hcast : (num : ℝ) = den * (num / den : Nat) + (num % den : Nat) := by exact_mod_cast hdiv.symm
  refine ⟨hneg, fun hs => ?_, fun hs => ?_, fun hs => ?_⟩
  all_goals
    dsimp only at hs ⊢
    rw [hmag]
  · have hrem : num % den = 0 := by simpa using hs
    rw [hrem, Nat.cast_zero, add_zero] at hcast
    rw [hcast, mul_div_cancel_left₀ _ hden.ne']
  · have hrem : (0 : ℝ) < (num % den : Nat) := Nat.cast_pos.mpr (Nat.pos_of_ne_zero (by simpa using hs))
    refine mul_lt_mul_of_pos_right ?_ hpow
    rw [lt_div_iff₀ hden]
    linarith
  · have hrem : ((num % den : Nat) : ℝ) < den := Nat.cast_lt.mpr hlt
    refine mul_lt_mul_of_pos_right ?_ hpow
    rw [div_lt_iff₀ hden]
    linarith

/-- A quotient is longer than any significand. -/
theorem quotient_long (hx : realOf x ≠ 0) (hy : realOf y ≠ 0) : 64 < bitLen (divDy (Ext.dy x) (Ext.dy y)).sig := by
  refine lt_bitLen ?_
  show 2 ^ 64 ≤ (Ext.sig x).toNat <<< 130 / (Ext.sig y).toNat
  have hx0 := sig_ne_zero hx
  have hylt := sig_lt y
  rw [Nat.shiftLeft_eq, Nat.le_div_iff_mul_le (Nat.pos_of_ne_zero (sig_ne_zero hy))]
  omega

theorem computes_div (hf : InRegister f) (hx : finiteCls x) (hy : finiteCls y) (hy0 : realOf y ≠ 0) :
    Computes f.p cw (realOf x / realOf y) (divExt f cw x y) := by
  have hzero (hx0 : realOf x = 0) (h : divExt f cw x y = Machine.Num.exact (Ext.zero (Ext.neg x != Ext.neg y))) :
      Computes f.p cw (realOf x / realOf y) (divExt f cw x y) := by
    rw [hx0, zero_div, h]
    exact computes_zero _ _ (cls_zero _)
  have hround (hx0 : realOf x ≠ 0) (h : divExt f cw x y = Machine.Num.round f cw (Ext.neg x != Ext.neg y) (divDy (Ext.dy x) (Ext.dy y))) :
      Computes f.p cw (realOf x / realOf y) (divExt f cw x y) := by
    rw [h]
    exact computes_round hf (stands_divDy hx0 hy0) fun _ => hf.le.trans_lt (quotient_long hx0 hy0)
  have h0x := cls_zero_iff_realOf hx
  have h0y := cls_zero_iff_realOf hy
  rcases hx with h1 | h1 | h1 <;> rcases hy with h2 | h2 | h2 <;> rw [h1] at h0x <;> rw [h2] at h0y
  case inl.inl | inr.inl.inl | inr.inr.inl => exact absurd (h0y.mp rfl) hy0
  case inl.inr.inl | inl.inr.inr => exact hzero (h0x.mp rfl) (by rw [divExt, h1, h2])
  all_goals exact hround (fun h => nomatch h0x.mpr h) (by rw [divExt, h1, h2])

end

end Sys2Proof.Laws

end
end

section
/-! O39: floating-point arithmetic (48_fpu_instructions.md R1111 to R1118). -/

noncomputable section

namespace Sys2Proof.Laws

open Sys2Proof Sys2Proof.Machine Sys2Proof.Claims

/-! ## Denormal operands -/

section
variable {n : Machine.Num} {cw : Half} {den : Bool}

/-- A masked denormal operand is only noted. -/
theorem denormal_masked (hn : n.res.isSome = true) (hm : den = true → cwDm cw = true) :
    n.denormal cw den = { n with de := n.de || den } := by
  rw [Machine.Num.denormal, hn, Bool.and_true]
  cases den
  · simp
  · rw [hm rfl]
    simp

theorem denormal_unmasked (hn : n.res.isSome = true) (hden : den = true) (hm : cwDm cw = false) :
    (n.denormal cw den).de = true ∧ (n.denormal cw den).res = none := by
  rw [Machine.Num.denormal, hn, hden, hm]
  exact ⟨rfl, rfl⟩

theorem denormal_keeps (hm : den = true → cwDm cw = true) :
    (n.denormal cw den).ie = n.ie ∧ (n.denormal cw den).ze = n.ze ∧ (n.denormal cw den).res = n.res := by
  rw [Machine.Num.denormal]
  cases hden : den && n.res.isSome
  · exact ⟨rfl, rfl, rfl⟩
  · rw [hm (Bool.and_eq_true .. ▸ hden).1]
    exact ⟨rfl, rfl, rfl⟩

end

/-! ## The six operations -/

/-- The result of an operation, denormal operands apart. -/
def opResult (o : FOp) (f : Fmt) (cw : Half) (x y : Ext) : Machine.Num :=
  match o with
  | .add => addExt f cw x y
  | .sub => addExt f cw x (Ext.withSign y (!Ext.neg y))
  | .subr => addExt f cw y (Ext.withSign x (!Ext.neg x))
  | .mul => mulExt f cw x y
  | .div => divExt f cw x y
  | .divr => divExt f cw y x

section
variable {f : Fmt} {cw : Half} {x y : Ext} (hx : finiteCls x) (hy : finiteCls y)
include hx hy

theorem arith_finite (o : FOp) (f : Fmt) (cw : Half) (tie den : Bool) :
    arith o f cw tie den x y = (opResult o f cw x y).denormal cw (Ext.isDen x || Ext.isDen y || den) := by
  rw [arith, nanCase_finite cw tie hx hy]
  cases o <;> rfl

theorem computes_op (o : FOp) (hf : InRegister f) (hdiv : o = .div → realOf y ≠ 0) (hdivr : o = .divr → realOf x ≠ 0) :
    Computes f.p cw (exactOp o (realOf x) (realOf y)) (opResult o f cw x y) := by
  cases o with
  | add => exact computes_add hf hx hy
  | sub =>
    have := computes_add (cw := cw) hf hx (finiteCls_withSign (neg := !Ext.neg y) hy)
    rwa [realOf_flip] at this
  | subr =>
    have := computes_add (cw := cw) hf hy (finiteCls_withSign (neg := !Ext.neg x) hx)
    rwa [realOf_flip] at this
  | mul => exact computes_mul hf hx hy
  | div => exact computes_div hf hx hy (hdiv rfl)
  | divr => exact computes_div hf hy hx (hdivr rfl)

/-- A division by zero (R1064), or of zero by zero. -/
theorem divExt_zero (h0 : realOf y = 0) :
    divExt f cw x y = if realOf x = 0 then Machine.Num.invalid cw Ext.indefinite else Machine.Num.zeroDivide cw (Ext.inf (Ext.neg x != Ext.neg y)) := by
  rw [← cls_zero_iff_realOf hy] at h0
  simp only [← cls_zero_iff_realOf hx]
  rcases hx with h | h | h <;> simp only [divExt, h, h0] <;> rfl

end

/-- What an operation gives if no denormal operand stops it. -/
structure Unhindered (p : Nat) (cw : Half) (e : ℝ) (d : Bool) (r : Machine.Num) : Prop where
  ie_eq : r.ie = false
  ze_eq : r.ze = false
  de_eq : r.de = d
  delivers : e ≠ 0 → Delivers p cw e r
  zero : e = 0 → r.oe = false ∧ r.ue = false ∧ r.pe = false ∧ ∃ z, r.res = some z ∧ Ext.cls z = .zero

theorem Computes.denormal {p : Nat} {cw : Half} {e : ℝ} {n : Machine.Num} {d : Bool} (h : Computes p cw e n) (hm : d = true → cwDm cw = true) :
    Unhindered p cw e d (n.denormal cw d) := by
  rw [denormal_masked h.delivered hm, h.de_eq, Bool.false_or]
  exact ⟨h.ie_eq, h.ze_eq, rfl, h.delivers, h.zero⟩

/-! ## The instructions -/

/-- What an arithmetic instruction makes of the FPU, ES apart (R1112). -/
def ArOpened (o : FOp) (d : BitVec 3) (x : Ext) (den ready : Bool) (pops : Nat) (f g : Fpu) : Prop :=
  if f.isEmpty d = false ∧ ready = true then
    ∃ tie c : Bool, Opened (withResult (arith o (Fmt.ofPc f.cw) f.cw tie den (f.st d) x).res fun v g => (g.setSt d v).pops pops)
      (raised c (arith o (Fmt.ofPc f.cw) f.cw tie den (f.st d) x)) f g
  else Opened (ifMasked f.cw fun g => (g.setSt d Ext.indefinite).pops pops) (stackFlags false) f g

theorem arDone_of_opened {o : FOp} {d : BitVec 3} {x : Ext} {den ready : Bool} {pops : Nat} {f g : Fpu} (h : ArOpened o d x den ready pops f g) :
    ArDone o d x den ready pops f (summarised g) := by
  rw [ArOpened] at h
  rw [ArDone]
  split at h
  · next hc =>
    rw [if_pos hc]
    obtain ⟨tie, c, h⟩ := h
    exact ⟨tie, c, settled_of_opened h⟩
  · next hc =>
    rw [if_neg hc]
    exact settled_of_opened h

theorem arithWith_fp {o : FOp} {d : BitVec 3} {x : Ext} {den ready : Bool} {pops : Nat} {f : Fpu} (hpc : cwPc f.cw ≠ 1) :
    Fp f (arithWith o d x den ready pops) fun _ g => ArOpened o d x den ready pops f g := by
  have hdoes (v : Ext) : Does (do setSt d v; popSt pops) fun g => (g.setSt d v).pops pops := (setSt_does d v).seq (popSt_does pops)
  have hstack (v : Ext) : OnStack fun g => (g.setSt d v).pops pops := (pops_onStack pops).comp (setSt_onStack d v)
  refine .seq <| checkPc_fp hpc <| .get fun s n => .seq <| drawBool_fp fun tie => .ite (fun hc => ?_) fun hc => ?_
  all_goals
    rw [withFpu_fpu, Bool.and_eq_true, Bool.not_eq_true', and_comm] at hc
  · refine .seq <| deliverNum_fp hdoes hstack fun c => drawC023_fp fun c0 c2 c3 => ?_
    rw [ArOpened, if_pos hc]
    exact ⟨tie, c, c0, c2, c3, rfl⟩
  · refine .seq <| stackFault_fp (hdoes _) (hstack _) <| drawC023_fp fun c0 c2 c3 => ?_
    rw [ArOpened, if_neg hc]
    exact ⟨c0, c2, c3, rfl⟩

/-- The operand of a memory form. -/
def arithMem (o : FOp) (k : NumFmt) : List Word → M Unit :=
  match k with
  | .single => arithSingle o
  | .double => arithDouble o
  | .int32 => arithInt o 32
  | .int16 => arithInt o 16

theorem exec_arMem (o : FOp) (k : NumFmt) (m : MemOp) (s : State) : exec (arMem o k m) s = runInstr (escMem m k.bytes k.bytes .r (arithMem o k)) s := by
  cases o <;> cases k <;> rfl

theorem arithMem_eq (o : FOp) (k : NumFmt) : arithMem o k = fun ps => load ps >>= fun v => arithWith o 0 (k.value v).1 (k.value v).2 true 0 := by
  cases k <;> rfl

theorem exec_arReg (o : FOp) (a : ArForm) (i : BitVec 3) (s : State) : exec (arReg o a i) s =
    runInstr (escReg (arithReg o (if a = .stSti then 0 else i) (if a = .stSti then i else 0) (if a = .pop then 1 else 0))) s := by
  cases o <;> cases a <;> rfl

/-- `ran_reg` for a body that needs to know where it starts. -/
theorem ran_reg_from {s : State} {i : Instr} {body : M Unit} {P : Fpu → Fpu → Prop} (hon : fpuOn s) (hi : exec i s = runInstr (escReg body) s)
    (hbody : ∀ fds fdp, Fp (regPtrs s fds fdp) body fun _ g => P (regPtrs s fds fdp) g) : ∃ (fds : Half) (fdp : Word) (g : Fpu) (n : Nat),
      Ran i s { s.enter with fpu := summarised g, draws := n } ∧ P (regPtrs s fds fdp) g := by
  obtain ⟨fds, fdp, n, hptr⟩ := pointersReg_run (s := s)
  obtain ⟨_, g, n', hrun, hP⟩ := hbody fds fdp s.enter n
  refine ⟨fds, fdp, g, n', ran_of_run hi ?_, hP⟩
  rw [escReg, bind_of_ok (escCheck_on hon true), bind_of_ok hptr, bind_of_ok hrun, summarise_run]
  rfl

/-- The reserved precision is refused (R1033). -/
theorem escReg_refuses {s : State} {body : M Unit} (hon : fpuOn s) (h : ∀ t, t.fpu.cw = s.fpu.cw → ∃ u, body t = .error (.refuse .reservedPrecision) u) :
    runInstr (escReg body) s = .refused .reservedPrecision := by
  obtain ⟨fds, fdp, n, hptr⟩ := pointersReg_run (s := s)
  obtain ⟨u, hu⟩ := h (withFpu s.enter (regPtrs s fds fdp) n) rfl
  refine runInstr_refuse ((bind_of_ok (escCheck_on hon true)).trans ((bind_of_ok hptr).trans (bind_of_error hu)))

theorem arith_clauses {o : FOp} {cw : Half} {tie den : Bool} {x y : Ext} (hpc : cwPc cw ≠ 1) (hx : finiteCls x) (hy : finiteCls y) :
    let d : Bool := decide (Ext.cls x = .denormal) || decide (Ext.cls y = .denormal) || den
    let e := exactOp o (realOf x) (realOf y)
    let num := if o = .div then realOf x else realOf y
    let den0 := if o = .div then realOf y else realOf x
    let r := arith o (Fmt.ofPc cw) cw tie den x y
    (d = true → cw.getLsbD 1 = false → (o = .div ∨ o = .divr → den0 ≠ 0) → r.de = true ∧ r.res = none) ∧
    ((d = true → cw.getLsbD 1 = true) →
    ((o = .div ∨ o = .divr → den0 ≠ 0) → r.ie = false ∧ r.ze = false ∧ r.de = d ∧ (e ≠ 0 → Delivers (pcBits cw) cw e r) ∧
      (e = 0 → r.oe = false ∧ r.ue = false ∧ r.pe = false ∧ ∃ z, r.res = some z ∧ Ext.cls z = .zero)) ∧
    (o = .div ∨ o = .divr → den0 = 0 →
      (num ≠ 0 → r.ze = true ∧ r.ie = false ∧ r.res = if cw.getLsbD 2 then some (Ext.inf (Ext.neg x != Ext.neg y)) else none) ∧
      (num = 0 → r.ie = true ∧ r.ze = false ∧ r.res = if cw.getLsbD 0 then some Ext.indefinite else none))) := by
  intro d e num den0 r
  have hr : r = (opResult o (Fmt.ofPc cw) cw x y).denormal cw d := arith_finite hx hy o _ cw tie den
  have hok (h0 : o = .div ∨ o = .divr → den0 ≠ 0) : Computes (pcBits cw) cw e (opResult o (Fmt.ofPc cw) cw x y) := by
    rw [← ofPc_p cw hpc]
    refine computes_op hx hy o (inRegister_ofPc cw hpc) ?_ ?_
    · rintro rfl
      exact h0 (.inl rfl)
    · rintro rfl
      exact h0 (.inr rfl)
  refine ⟨fun hd hm h0 => ?_, fun hm => ⟨fun h0 => ?_, fun ho h0 => ?_⟩⟩
  · rw [hr]
    exact denormal_unmasked (hok h0).delivered hd hm
  · obtain ⟨hie, hze, hde, hdel, hzero⟩ := hr ▸ (hok h0).denormal hm
    exact ⟨hie, hze, hde, hdel, hzero⟩
  · have hop : opResult o (Fmt.ofPc cw) cw x y = if num = 0 then Machine.Num.invalid cw Ext.indefinite
        else Machine.Num.zeroDivide cw (Ext.inf (Ext.neg x != Ext.neg y)) := by
      rcases ho with rfl | rfl
      · exact divExt_zero hx hy h0
      · have hcomm : (Ext.neg x != Ext.neg y) = (Ext.neg y != Ext.neg x) := bne_comm
        rw [hcomm]
        exact divExt_zero hy hx h0
    obtain ⟨hie, hze, hres⟩ := denormal_keeps (n := opResult o (Fmt.ofPc cw) cw x y) hm
    rw [← hr, hop] at hie hze hres
    constructor
    · intro hnum
      rw [if_neg hnum] at hie hze hres
      exact ⟨hze, hie, hres⟩
    · intro hnum
      rw [if_pos hnum] at hie hze hres
      exact ⟨hie, hze, hres⟩

/-- Settles O39: the instructions by `arithWith_fp`, the results by `arith_clauses`. -/
theorem floatArithmetic : Obligations.FloatArithmetic := by
  unfold Obligations.FloatArithmetic
  refine ⟨fun o a i s hon => ⟨fun hpc => ?_, fun hpc => ?_⟩, fun o k m s ps s1 v s2 hon hpc hacc hload => ?_,
    fun o cw tie den x y hpc hx hy => arith_clauses hpc hx hy⟩
  · rw [exec_arReg]
    exact escReg_refuses hon fun t ht => ⟨t, (get_bind _ _).trans (bind_of_error (checkPc_refuses (ht ▸ hpc)))⟩
  · obtain ⟨fds, fdp, g, n, hran, hg⟩ := ran_reg_from
      (P := fun f g => ArOpened o (if a = .stSti then 0 else i) (f.st (if a = .stSti then i else 0)) false (!f.isEmpty (if a = .stSti then i else 0))
        (if a = .pop then 1 else 0) f g)
      hon (exec_arReg o a i s) fun fds fdp => .get fun _ _ => arithWith_fp (f := regPtrs s fds fdp) hpc
    exact ⟨fds, fdp, _, n, hran, arDone_of_opened hg⟩
  · have hcw : cwPc s2.fpu.cw ≠ 1 := by
      rw [(load_checksOnly _ hload).fpu_eq, fpu_of_access hacc]
      exact hpc
    obtain ⟨g, n, hran, hg⟩ := ran_load hon (exec_arMem o k m s) (arithMem_eq o k) hacc hload (arithWith_fp hcw)
    exact ⟨_, n, hran, arDone_of_opened hg⟩

end Sys2Proof.Laws

end
end

section
/-! What number a memory real, an integer and a packed decimal stand for (47_fpu_numerics.md R1035, 12_state_fpu.md R1015, R1018, R1019). -/

noncomputable section

namespace Sys2Proof.Laws

open Sys2Proof Sys2Proof.Machine Sys2Proof.Claims

/-! ## Integers -/

theorem bitLen_le {n k : Nat} (h : n < 2 ^ k) : bitLen n ≤ k := by
  by_cases h0 : n = 0
  · rw [h0]
    exact Nat.zero_le k
  · have := (Nat.pow_lt_pow_iff_right (by decide)).mp ((two_pow_bitLen_le h0).trans_lt h)
    omega

/-- A number moved up until its leading bit is the integer bit. -/
theorem normalised_bounds {n : Nat} (h0 : n ≠ 0) (h : n < 2 ^ 64) : 2 ^ 63 ≤ n <<< (64 - bitLen n) ∧ n <<< (64 - bitLen n) < 2 ^ 64 := by
  have hL := bitLen_le h
  have hpos := bitLen_pos h0
  rw [Nat.shiftLeft_eq]
  constructor
  · calc 2 ^ 63 = 2 ^ (bitLen n - 1) * 2 ^ (64 - bitLen n) := by rw [← Nat.pow_add]; congr 1; omega
      _ ≤ _ := Nat.mul_le_mul_right _ (two_pow_bitLen_le h0)
  · calc n * 2 ^ (64 - bitLen n) < 2 ^ bitLen n * 2 ^ (64 - bitLen n) := Nat.mul_lt_mul_of_pos_right (lt_two_pow_bitLen n) (Nat.two_pow_pos _)
      _ = 2 ^ 64 := by rw [← Nat.pow_add]; congr 1; omega

/-- `n * 2^k` as a normal number. -/
theorem realOf_normalised {neg : Bool} {n : Nat} {k : ℤ} {be : Nat} (h0 : n ≠ 0) (h : n < 2 ^ 64) (hbe : (be : ℤ) = 16382 + bitLen n + k)
    (hlow : 0 < be) (hhigh : be < 0x7FFF) : realOf (Ext.mk neg be (n <<< (64 - bitLen n))) = sign neg * (n * (2 : ℝ) ^ k) ∧
      Ext.cls (Ext.mk neg be (n <<< (64 - bitLen n))) = .normal := by
  obtain ⟨hnorm, hlt⟩ := normalised_bounds h0 h
  have hL := bitLen_le h
  constructor
  · have hexp : k = ((64 - bitLen n : Nat) : ℤ) + ((max be 1 : Nat) - 16446 : ℤ) := by omega
    rw [realOf_mk (by omega) hlt, Nat.shiftLeft_eq, hexp, zpow_split, zpow_natCast]
    push_cast
    ring
  · rw [cls_normal_iff, be_mk (by omega), sig_mk hlt]
    exact ⟨by omega, by omega, hnorm⟩

theorem extOfInt_spec {n : ℤ} (h : n.natAbs < 2 ^ 64) : realOf (extOfInt n) = n ∧ (n = 0 → Ext.cls (extOfInt n) = .zero) ∧
    (n ≠ 0 → Ext.cls (extOfInt n) = .normal) := by
  by_cases h0 : n = 0
  · subst h0
    have hz : Ext.cls (extOfInt 0) = .zero := cls_zero false
    exact ⟨by rw [realOf_of_zero hz, Int.cast_zero], fun _ => hz, fun hne => absurd rfl hne⟩
  · have hL := bitLen_le h
    have hpos := bitLen_pos (Int.natAbs_ne_zero.mpr h0)
    obtain ⟨hval, hcls⟩ := realOf_normalised (neg := decide (n < 0)) (k := 0) (be := 16382 + bitLen n.natAbs) (Int.natAbs_ne_zero.mpr h0) h
      (by push_cast; ring) (by omega) (by omega)
    rw [extOfInt, if_neg h0]
    refine ⟨hval.trans ?_, fun hz => absurd hz h0, fun _ => hcls⟩
    rw [zpow_zero, mul_one, sign]
    simp only [decide_eq_true_eq]
    split
    · rw [Nat.cast_natAbs, abs_of_neg ‹_›]
      push_cast
      ring
    · rw [Nat.cast_natAbs, abs_of_nonneg (not_lt.mp ‹_›), one_mul]

/-! ## Memory reals -/

/-- The exact number of finite class in ℝ and in ℚ. -/
theorem finiteValue_of_realOf {x : Ext} {q : ℚ} (h : realOf x = (q : ℝ)) : finiteValue x = q := Rat.cast_injective h

section
variable {e f : Nat} {v : BitVec (1 + e + f)}

/-- The fields of a memory real. -/
theorem widen_fields (v : BitVec (1 + e + f)) : (v.extractLsb' f e).toNat = v.toNat / 2 ^ f % 2 ^ e ∧ (v.extractLsb' 0 f).toNat = v.toNat % 2 ^ f ∧
    (v.msb = true ↔ v.toNat / 2 ^ (e + f) % 2 = 1) := by
  refine ⟨by rw [BitVec.extractLsb'_toNat, Nat.shiftRight_eq_div_pow], by rw [BitVec.extractLsb'_toNat, Nat.shiftRight_zero], ?_⟩
  rw [BitVec.msb_eq_getLsbD_last, BitVec.getLsbD, show 1 + e + f - 1 = e + f by omega, Nat.testBit_eq_decide_div_mod_eq, decide_eq_true_eq]

theorem memReal_cast (e f n : Nat) : (memReal e f n : ℝ) = sign (decide (n / 2 ^ (e + f) % 2 = 1)) *
    (((if n / 2 ^ f % 2 ^ e = 0 then 0 else 2 ^ f) + n % 2 ^ f : Nat) : ℝ) *
      (2 : ℝ) ^ ((max (n / 2 ^ f % 2 ^ e) 1 : Nat) - (2 ^ (e - 1) - 1) - f : ℤ) := by
  rw [memReal, sign]
  simp only [decide_eq_true_eq]
  push_cast
  congr 2
  · split <;> simp
  · split <;> simp

/-- What widening gives, for a format whose exponents lie within those of a register. -/
theorem widen_widened (v : BitVec (1 + e + f)) (he : 2 ≤ e) (hf : f < 63) (hbias : 2 ^ e + f ≤ 16383) : Widened e f v.toNat (widen e f v) := by
  obtain ⟨hbe, hfr, hneg⟩ := widen_fields v
  have hbelt : v.toNat / 2 ^ f % 2 ^ e < 2 ^ e := Nat.mod_lt _ (Nat.two_pow_pos _)
  have hfrlt : v.toNat % 2 ^ f < 2 ^ f := Nat.mod_lt _ (Nat.two_pow_pos _)
  have hcast := memReal_cast e f v.toNat
  have hnegD : v.msb = decide (v.toNat / 2 ^ (e + f) % 2 = 1) := by
    rw [Bool.eq_iff_iff, hneg, decide_eq_true_eq]
  have hhalf : 2 ^ e = 2 * 2 ^ (e - 1) := by rw [← Nat.pow_succ']; congr 1; omega
  have hhalfpos := Nat.two_pow_pos (e - 1)
  have hhalf2 : 2 ^ (e - 1) = 2 * 2 ^ (e - 2) := by rw [← Nat.pow_succ']; congr 1; omega
  have hquarter := Nat.two_pow_pos (e - 2)
  have hexpcast : ((2 : ℤ) ^ (e - 1)) = ((2 ^ (e - 1) : Nat) : ℤ) := by push_cast; rfl
  have h63 : 2 ^ f * 2 ^ (63 - f) = 2 ^ 63 := by rw [← Nat.pow_add]; congr 1; omega
  have hfrac : v.toNat % 2 ^ f * 2 ^ (63 - f) < 2 ^ 63 := h63 ▸ Nat.mul_lt_mul_of_pos_right hfrlt (Nat.two_pow_pos _)
  have hpow63 : 2 ^ f ≤ 2 ^ 63 := Nat.pow_le_pow_right (by decide) (by omega)
  rw [widen, Widened]
  simp only [hbe, hfr]
  rw [hexpcast] at hcast
  generalize v.toNat / 2 ^ f % 2 ^ e = be at *
  generalize v.toNat % 2 ^ f = fr at *
  generalize hB : 2 ^ (e - 1) = half at *
  split
  · next hb0 =>
    subst hb0
    split
    · next hf0 =>
      subst hf0
      refine ⟨by rw [Ext.zero, neg_mk, hneg], by simp, fun _ => ⟨finiteValue_of_realOf ?_, .inl (cls_zero _)⟩, fun h => by omega⟩
      rw [hcast, realOf_of_zero (cls_zero _)]
      simp
    · next hf0 =>
      obtain ⟨hval, hcls⟩ := realOf_normalised (neg := v.msb) (k := 1 - (half - 1 : ℤ) - f) (be := 16383 + bitLen fr - (half - 1) - f) hf0 (by omega)
        (by have := bitLen_pos hf0; omega) (by have := bitLen_pos hf0; omega) (by have := bitLen_le hfrlt; omega)
      refine ⟨by rw [neg_mk, hneg], by simp [hf0], fun _ => ⟨finiteValue_of_realOf ?_, .inr hcls⟩, fun h => by omega⟩
      rw [hval, hcast, hnegD, if_pos rfl, Nat.zero_add, mul_assoc]
      rfl
  · next hb0 =>
    have hsig : 2 ^ 63 + fr <<< (63 - f) = 2 ^ 63 + fr * 2 ^ (63 - f) := by rw [Nat.shiftLeft_eq]
    split
    · next hmax =>
      refine ⟨by rw [neg_mk, hneg], by simp [hb0], fun h => absurd hmax h, fun _ => ⟨be_mk (by decide), ?_⟩⟩
      rw [hsig, sig_mk (by omega)]
    · next hmax =>
      refine ⟨by rw [neg_mk, hneg], by simp [hb0], fun _ => ⟨finiteValue_of_realOf ?_, .inr ?_⟩, fun h => absurd h hmax⟩
      · have hexp : ((max be 1 : Nat) - (half - 1) - f : ℤ) = ((63 - f : Nat) : ℤ) + ((max (be + 16383 - (half - 1)) 1 : Nat) - 16446 : ℤ) := by omega
        have hsum : (2 ^ 63 + fr * 2 ^ (63 - f) : Nat) = (2 ^ f + fr) * 2 ^ (63 - f) := by rw [Nat.add_mul, h63]
        rw [hcast, if_neg hb0, hsig, realOf_mk (by omega) (by omega), hsum, hnegD, hexp, zpow_split, zpow_natCast]
        push_cast
        ring
      · rw [cls_normal_iff, be_mk (by omega), hsig, sig_mk (by omega)]
        exact ⟨by omega, by omega, by omega⟩

end

/-! ## Packed decimal -/

/-- Digits that are digits give the number they stand for; otherwise one is none (R1019). -/
theorem fromDigits_spec (k n : Nat) : (∀ m, fromDigits k n = some m → (∀ j, j < k → n / 16 ^ j % 16 ≤ 9) ∧ m < 10 ^ k ∧
      m = ((List.range k).map fun j => n / 16 ^ j % 16 * 10 ^ j).sum) ∧
    (fromDigits k n = none → ∃ j, j < k ∧ 9 < n / 16 ^ j % 16) := by
  induction k generalizing n with
  | zero => exact ⟨fun m h => by cases h; exact ⟨fun j hj => absurd hj (Nat.not_lt_zero j), by decide, rfl⟩, nofun⟩
  | succ k ih =>
    have hnext (j : Nat) : n / 16 / 16 ^ j % 16 = n / 16 ^ (j + 1) % 16 := by rw [Nat.div_div_eq_div_mul, Nat.pow_succ']
    obtain ⟨hsome, hnone⟩ := ih (n / 16)
    rw [fromDigits]
    split
    · next hbad => exact ⟨nofun, fun _ => ⟨0, Nat.succ_pos k, by simpa using hbad⟩⟩
    · next hok =>
      constructor
      · intro m hm
        obtain ⟨h, hh, rfl⟩ := Option.map_eq_some_iff.mp hm
        obtain ⟨hdig, hlt, hsum⟩ := hsome h hh
        refine ⟨fun j hj => ?_, ?_, ?_⟩
        · cases j with
          | zero => simpa using hok
          | succ j =>
            rw [← hnext]
            exact hdig j (Nat.lt_of_succ_lt_succ hj)
        · rw [Nat.pow_succ]
          omega
        · rw [List.range_succ_eq_map, List.map_cons, List.sum_cons, List.map_map, hsum, ← List.sum_map_mul_left]
          simp only [Function.comp_def, Nat.pow_zero, Nat.div_one, Nat.mul_one, hnext, Nat.pow_succ', Nat.succ_eq_add_one]
          exact congrArg (n % 16 + List.sum ·) (List.map_congr_left fun b _ => Nat.mul_left_comm _ _ _)
      · intro hm
        obtain ⟨j, hj, hbad⟩ := hnone (Option.map_eq_none_iff.mp hm)
        exact ⟨j + 1, Nat.succ_lt_succ hj, hnext j ▸ hbad⟩

end Sys2Proof.Laws

end
end

section
/-! O40: floating-point loads (48_fpu_instructions.md R1102, R1106, R1109, R1140). -/

noncomputable section

namespace Sys2Proof.Laws

open Sys2Proof Sys2Proof.Machine Sys2Proof.Claims

/-! ## Pushing -/

/-- What a push of the result `r` makes of the FPU, ES apart. -/
def PushOpened (r : Machine.Num) (f g : Fpu) : Prop :=
  if f.isEmpty 7 then Opened (withResult r.res fun v g => g.push v) (raised false r) f g
  else Opened (ifMasked f.cw fun g => g.push Ext.indefinite) (stackFlags true) f g

theorem pushDone_of_opened {r : Machine.Num} {f g : Fpu} (h : PushOpened r f g) : PushDone r f (summarised g) := by
  rw [PushOpened] at h
  rw [PushDone]
  split at h
  · next hc => rw [if_pos hc]; exact settled_of_opened h
  · next hc => rw [if_neg hc]; exact settled_of_opened h

theorem raised_exact (c : Bool) (v : Ext) : raised c (Machine.Num.exact v) = fun w => { w with c1 := c } := by
  funext w
  simp [raised, Machine.Num.exact]

/-- A push, its overflow checked. -/
theorem loadSt_fp {v : Ext} {f : Fpu} {Q : Unit → Fpu → Prop}
    (hQ : ∀ g, g = (if f.isEmpty 7 then withSw (f.push v) (raised false (Machine.Num.exact v))
      else withSw (ifMasked f.cw (fun g => g.push Ext.indefinite) f) (stackFlags true)) → Q () g) : Fp f (loadSt v) Q := by
  refine .get fun s n => .ite (fun hc => ?_) fun hc => ?_
  all_goals rw [withFpu_fpu] at hc
  · refine .seq <| (pushSt_does v).fp <| modifySw_fp (hQ _ ?_)
    rw [if_pos hc, raised_exact]
  · refine stackFault_fp (pushSt_does _) (push_onStack _) (hQ _ ?_)
    rw [if_neg hc]

theorem opened_of_pushed {v : Ext} {f g : Fpu} (hg : g = (if f.isEmpty 7 then withSw (f.push v) (raised false (Machine.Num.exact v))
    else withSw (ifMasked f.cw (fun g => g.push Ext.indefinite) f) (stackFlags true))) (c0 c2 c3 : Bool) :
    PushOpened (Machine.Num.exact v) f (withSw g (openC id c0 c2 c3)) := by
  rw [hg, PushOpened]
  split
  · exact ⟨c0, c2, c3, rfl⟩
  · exact ⟨c0, c2, c3, rfl⟩

theorem loadSt_opened (v : Ext) (f : Fpu) : Fp f (do loadSt v; drawC023) fun _ g => PushOpened (Machine.Num.exact v) f g :=
  .seq <| loadSt_fp fun _ hg => drawC023_fp fun c0 c2 c3 => opened_of_pushed hg c0 c2 c3

/-- FLD of a single or double real (R1102). -/
theorem loadReal_fp (v : Ext × Bool) (f : Fpu) : Fp f (loadReal v) fun _ g => PushOpened
    ((if Ext.cls v.1 = .snan then Machine.Num.invalid f.cw (Ext.quiet v.1) else Machine.Num.exact v.1).denormal f.cw v.2) f g := by
  refine .get fun s n => .ite (fun hc => ?_) fun hc => ?_
  all_goals rw [withFpu_fpu] at hc
  · refine .seq <| deliverWith_fp pushSt_does push_onStack <| drawC023_fp fun c0 c2 c3 => ?_
    rw [PushOpened, if_pos hc]
    exact ⟨c0, c2, c3, rfl⟩
  · refine .seq <| stackFault_fp (pushSt_does _) (push_onStack _) <| drawC023_fp fun c0 c2 c3 => ?_
    rw [PushOpened, if_neg hc]
    exact ⟨c0, c2, c3, rfl⟩

/-- FLD ST(i) (R1102). -/
theorem fldReg_fp (i : BitVec 3) (f : Fpu) : Fp f (fldReg i) fun _ g =>
    if f.isEmpty i then Opened (ifMasked f.cw fun g => g.push Ext.indefinite) (stackFlags false) f g
    else PushOpened (Machine.Num.exact (f.st i)) f g := by
  refine .get fun s n => .ite (fun hc => ?_) fun hc => ?_
  all_goals rw [withFpu_fpu] at hc
  · refine .seq <| stackFault_fp (pushSt_does _) (push_onStack _) <| drawC023_fp fun c0 c2 c3 => ?_
    rw [if_pos hc]
    exact ⟨c0, c2, c3, rfl⟩
  · refine (loadSt_opened (f.st i) f).mono fun _ g hg => ?_
    rw [if_neg hc]
    exact hg

/-- FBLD (R1109): a pattern that is no number gives an open value, and its tag is open. -/
theorem fbld_fp (v : Nat) (f : Fpu) : Fp f (do
      let free ← draw 80
      let gone ← drawBool
      let s ← get
      let x := fromDecimal (BitVec.ofNat 80 v)
      loadSt (x.getD free)
      if x.isNone && s.fpu.isEmpty 7 && gone then modifyFpu fun f => f.free 0 else pure ()
      drawC023) fun _ g => ∃ (h : Fpu) (x : Ext), PushOpened (Machine.Num.exact x) f h ∧
        (∀ y, fromDecimal (BitVec.ofNat 80 v) = some y → x = y ∧ g = h) ∧ (f.isEmpty 7 = false → g = h) ∧ (g = h ∨ g = h.free 0) := by
  refine .seq <| draw_fp fun free => .seq <| drawBool_fp fun gone => .get fun s n => .seq <| loadSt_fp fun h hh => .ite (fun hc => ?_) fun hc => ?_
  · rw [withFpu_fpu, Bool.and_eq_true, Bool.and_eq_true] at hc
    obtain ⟨⟨hnone, hempty⟩, -⟩ := hc
    refine .seq <| modifyFpu_fp <| drawC023_fp fun c0 c2 c3 => ⟨_, _, opened_of_pushed hh c0 c2 c3, fun y hy => ?_, fun h => ?_, .inr ?_⟩
    · rw [hy] at hnone
      cases hnone
    · rw [h] at hempty
      cases hempty
    · exact ((free_onStack 0) h _ fun _ _ => rfl).symm
  · refine drawC023_fp fun c0 c2 c3 => ⟨_, _, opened_of_pushed hh c0 c2 c3, fun y hy => ⟨?_, rfl⟩, fun _ => rfl, .inl rfl⟩
    rw [hy]
    rfl

/-! ## Constants -/

/-- The constants as the model holds them, beside the rows of the table (R1140). -/
def constRows : List (Instr × Machine.Const × Nat × Nat × Nat × Nat) :=
  [(.fld1, .one, constForms[0].2), (.fldl2t, .l2t, constForms[1].2), (.fldl2e, .l2e, constForms[2].2), (.fldpi, .pi, constForms[3].2),
   (.fldlg2, .lg2, constForms[4].2), (.fldln2, .ln2, constForms[5].2), (.fldz, .zero, constForms[6].2)]

theorem constRows_eq : constForms = constRows.map fun r => (r.1, r.2.2) := rfl

theorem constRows_value : ∀ r ∈ constRows, ∀ rc : BitVec 2, r.2.1.value rc = constValue r.2.2 rc := by
  simp only [constRows, List.forall_mem_cons, List.not_mem_nil, false_implies, implies_true, and_true]
  refine ⟨?_, ?_, ?_, ?_, ?_, ?_, ?_⟩ <;> decide

theorem exec_const (s : State) : ∀ r ∈ constRows, exec r.1 s = runInstr (escReg (fldConst r.2.1)) s := by
  simp only [constRows, List.forall_mem_cons, List.not_mem_nil, false_implies, implies_true, and_true]
  exact ⟨rfl, rfl, rfl, rfl, rfl, rfl, rfl⟩

theorem fldConst_fp (c : Machine.Const) (f : Fpu) : Fp f (fldConst c) fun _ g => PushOpened (Machine.Num.exact (c.value (cwRc f.cw))) f g :=
  .get fun _ _ => loadSt_opened _ f

/-! ## Loads from memory -/

theorem loadForms_runs (m : MemOp) (s : State) : ∀ l ∈ loadForms m, ∃ rest : Nat → M Unit,
    exec l.1 s = runInstr (escMem m l.2.1 l.2.2.1 .r fun ps => load ps >>= rest) s ∧
      ∀ v f, Fp f (rest v) fun _ g => PushOpened (l.2.2.2 f.cw v) f g := by
  simp only [loadForms, List.forall_mem_cons, List.not_mem_nil, false_implies, implies_true, and_true]
  exact ⟨⟨_, rfl, fun v f => loadReal_fp _ f⟩, ⟨_, rfl, fun v f => loadReal_fp _ f⟩, ⟨_, rfl, fun v f => loadSt_opened _ f⟩,
    ⟨_, rfl, fun v f => loadSt_opened _ f⟩, ⟨_, rfl, fun v f => loadSt_opened _ f⟩, ⟨_, rfl, fun v f => loadSt_opened _ f⟩⟩

theorem fromDecimal_eq (v : BitVec 80) :
    fromDecimal v = (fromDigits 18 (v.toNat % 2 ^ 72)).map fun m : Nat => Ext.withSign (extOfInt m) (Ext.neg v) := by
  rw [fromDecimal]
  cases fromDigits 18 (v.toNat % 2 ^ 72) <;> rfl

/-- A packed decimal number (R1019). -/
theorem fromDecimal_spec (v : BitVec 80) :
    let digit (k : Nat) : Nat := v.toNat / 16 ^ k % 16
    (∀ y, fromDecimal v = some y → (∀ k, k < 18 → digit k ≤ 9) ∧ Ext.neg y = v.getLsbD 79 ∧
      finiteValue y = (if v.getLsbD 79 then -1 else 1) * (((List.range 18).map fun k => digit k * 10 ^ k).sum : Nat)) ∧
    (fromDecimal v = none → ∃ k, k < 18 ∧ 9 < digit k) := by
  intro digit
  have hdigit (k : Nat) (hk : k < 18) : v.toNat % 2 ^ 72 / 16 ^ k % 16 = digit k := by
    have h72 : 2 ^ 72 = 16 ^ k * 16 ^ (18 - k) := by rw [← Nat.pow_add, Nat.add_sub_cancel' hk.le]; rfl
    rw [h72, Nat.mod_mul_right_div_self, Nat.mod_mod_of_dvd _ (dvd_pow_self 16 (by omega))]
  obtain ⟨hsome, hnone⟩ := fromDigits_spec 18 (v.toNat % 2 ^ 72)
  rw [fromDecimal_eq]
  constructor
  · intro y hy
    obtain ⟨m, hm, rfl⟩ := Option.map_eq_some_iff.mp hy
    obtain ⟨hdig, hlt, hsum⟩ := hsome m hm
    have hneg : Ext.neg v = v.getLsbD 79 := by rw [Ext.neg, BitVec.msb_eq_getLsbD_last]
    refine ⟨fun k hk => hdigit k hk ▸ hdig k hk, by rw [neg_withSign, hneg], finiteValue_of_realOf ?_⟩
    obtain ⟨hval, -, -⟩ := extOfInt_spec (n := (m : ℤ)) (by rw [Int.natAbs_natCast]; omega)
    have hsum' : m = ((List.range 18).map fun k => digit k * 10 ^ k).sum := by
      rw [hsum]
      exact congrArg List.sum (List.map_congr_left fun k hk => by rw [hdigit k (List.mem_range.mp hk)])
    rw [realOf_withSign, hval, ← hsum', hneg, sign, Int.cast_natCast, abs_of_nonneg (Nat.cast_nonneg m)]
    cases v.getLsbD 79 <;> simp
  · intro hy
    obtain ⟨k, hk, hbad⟩ := hnone (Option.map_eq_none_iff.mp hy)
    exact ⟨k, hk, hdigit k hk ▸ hbad⟩

/-- Settles O40: each load ends in a push, and what is pushed is the number of the operand. -/
theorem floatLoad : Obligations.FloatLoad := by
  unfold Obligations.FloatLoad
  refine ⟨fun m s l hl ps s1 v s2 hon hacc hload => ?_, fun m s ps s1 v s2 hon hacc hload => ?_, fun s hon => ⟨fun i => ?_, ?_⟩, fun v hv => ?_,
    fun v hv => ?_, fun n hn => ?_, fromDecimal_spec⟩
  · obtain ⟨rest, hi, hrest⟩ := loadForms_runs m s l hl
    obtain ⟨g, n, hran, hg⟩ := ran_load hon hi rfl hacc hload (hrest v s2.fpu)
    exact ⟨_, n, hran, pushDone_of_opened hg⟩
  · obtain ⟨g, n, hran, h, x, hh, hsome, hfull, hfree⟩ :=
      ran_load hon (show exec (.fbldM80 m) s = runInstr (escMem m 10 8 .r fbld) s from rfl) rfl hacc hload (fbld_fp v s2.fpu)
    refine ⟨_, summarised h, n, x, hran, pushDone_of_opened hh, fun y hy => ⟨(hsome y hy).1, congrArg _ (hsome y hy).2⟩,
      fun h7 => congrArg _ (hfull h7), hfree.imp (congrArg _) ?_⟩
    rintro rfl
    rfl
  · obtain ⟨fds, fdp, g, n, hran, hg⟩ := ran_reg hon (show exec (.fldSti i) s = runInstr (escReg (fldReg i)) s from rfl) (fldReg_fp i)
    refine ⟨fds, fdp, _, n, hran, ?_⟩
    dsimp only
    split at hg
    · next hc => rw [if_pos hc]; exact settled_of_opened hg
    · next hc => rw [if_neg hc]; exact pushDone_of_opened hg
  · rw [constRows_eq]
    intro c hc
    obtain ⟨r, hr, rfl⟩ := List.mem_map.mp hc
    obtain ⟨fds, fdp, g, n, hran, hg⟩ := ran_reg hon (exec_const s r hr) (fldConst_fp r.2.1)
    refine ⟨fds, fdp, _, n, hran, ?_⟩
    rw [← constRows_value r hr]
    exact pushDone_of_opened hg
  · have := widen_widened (e := 8) (f := 23) ((BitVec.ofNat 32 v).setWidth 32) (by decide) (by decide) (by decide)
    rwa [BitVec.setWidth_eq, BitVec.toNat_ofNat, Nat.mod_eq_of_lt hv] at this
  · have := widen_widened (e := 11) (f := 52) ((BitVec.ofNat 64 v).setWidth 64) (by decide) (by decide) (by decide)
    rwa [BitVec.setWidth_eq, BitVec.toNat_ofNat, Nat.mod_eq_of_lt hv] at this
  · obtain ⟨hval, hzero, hnormal⟩ := extOfInt_spec hn
    refine ⟨finiteValue_of_realOf (by rw [hval, Rat.cast_intCast]), ?_⟩
    by_cases h0 : n = 0
    · exact .inl (hzero h0)
    · exact .inr (hnormal h0)

end Sys2Proof.Laws

end
end

section
/-! The order of two extended reals (48_fpu_instructions.md R1120, 47_fpu_numerics.md R1041). -/

noncomputable section

namespace Sys2Proof.Laws

open Sys2Proof Sys2Proof.Machine Sys2Proof.Claims

section
variable {x y : Ext}

/-- A difference, of any two values. -/
theorem stands_subDy (x y : Ext) : Stands (addDy (Ext.dy x) { Ext.dy y with neg := !(Ext.dy y).neg }) (realOf x - realOf y) := by
  have hflip : Ext.dy (Ext.withSign y (!Ext.neg y)) = { Ext.dy y with neg := !(Ext.dy y).neg } := by
    simp only [Ext.dy, neg_withSign, be_withSign, sig_withSign]
  have := stands_addDy x (Ext.withSign y (!Ext.neg y))
  rwa [hflip, realOf_flip, ← sub_eq_add_neg] at this

theorem Stands.sig_eq_zero_iff {d : Dy} {e : ℝ} (h : Stands d e) (hs : d.sticky = false) : d.sig = 0 ↔ e = 0 := by
  refine ⟨fun h0 => ?_, fun h0 => ?_⟩
  · rw [← abs_eq_zero, h.exact hs, h0, Nat.cast_zero, zero_mul]
  · by_contra hne
    exact h.ne_zero hne h0

/-- Two values that are not infinite are ordered as their numbers are. -/
theorem compareExt_finite (hx : Ext.cls x ≠ .inf) (hy : Ext.cls y ≠ .inf) :
    compareExt x y = if realOf x = realOf y then .eq else if realOf x < realOf y then .lt else .gt := by
  have hd := stands_subDy x y
  have hzero := hd.sig_eq_zero_iff rfl
  have hneg := hd.neg_iff
  rw [sub_eq_zero] at hzero
  rw [sub_lt_zero] at hneg
  simp only [← hzero, ← hneg, compareExt, if_neg hx, if_neg hy]
  rfl

theorem eq_inf {b : Bool} (h : Ext.cls x = .inf) (hn : Ext.neg x = b) : x = Ext.inf b := by
  obtain ⟨hbe, hsig⟩ := (cls_inf_iff x).mp h
  refine ext_of_fields ?_ ?_ ?_
  · rw [Ext.inf, neg_mk, hn]
  · rw [Ext.inf, be_mk (by decide), hbe]
  · rw [Ext.inf, sig_mk (by decide), hsig]

theorem cls_inf (b : Bool) : Ext.cls (Ext.inf b) = .inf := by cases b <;> rfl

/-- Where a value lies: minus infinity, between, plus infinity. -/
def infRank (v : Ext) : ℤ := if Ext.cls v = .inf then (if Ext.neg v then -1 else 1) else 0

theorem infRank_cases (v : Ext) : (infRank v = -1 ∧ v = Ext.inf true) ∨ (infRank v = 1 ∧ v = Ext.inf false) ∨ (infRank v = 0 ∧ Ext.cls v ≠ .inf) := by
  rw [infRank]
  split
  · next h =>
    cases hn : Ext.neg v
    · exact .inr (.inl ⟨rfl, eq_inf h hn⟩)
    · exact .inl ⟨rfl, eq_inf h hn⟩
  · next h => exact .inr (.inr ⟨rfl, h⟩)

theorem infRank_inf : infRank (Ext.inf true) = -1 ∧ infRank (Ext.inf false) = 1 := by decide

theorem eq_inf_true_iff (v : Ext) : v = Ext.inf true ↔ infRank v = -1 := by
  refine ⟨fun h => h ▸ infRank_inf.1, fun h => ?_⟩
  rcases infRank_cases v with ⟨-, h'⟩ | ⟨h', -⟩ | ⟨h', -⟩
  · exact h'
  · omega
  · omega

theorem eq_inf_false_iff (v : Ext) : v = Ext.inf false ↔ infRank v = 1 := by
  refine ⟨fun h => h ▸ infRank_inf.2, fun h => ?_⟩
  rcases infRank_cases v with ⟨h', -⟩ | ⟨-, h'⟩ | ⟨h', -⟩
  · omega
  · exact h'
  · omega

theorem cls_ne_inf_iff (v : Ext) : Ext.cls v ≠ .inf ↔ infRank v = 0 := by
  rcases infRank_cases v with ⟨h, rfl⟩ | ⟨h, rfl⟩ | ⟨h, hne⟩
  · exact iff_of_false (fun hne => hne (cls_inf _)) (by omega)
  · exact iff_of_false (fun hne => hne (cls_inf _)) (by omega)
  · exact iff_of_true hne h

theorem finiteValue_lt_iff (x y : Ext) : finiteValue x < finiteValue y ↔ realOf x < realOf y := Rat.cast_lt.symm

/-- `extBelow` by the ranks, and by the numbers where both are finite. -/
theorem extBelow_iff (x y : Ext) : extBelow x y ↔ infRank x < infRank y ∨ (infRank x = 0 ∧ infRank y = 0 ∧ realOf x < realOf y) := by
  rw [extBelow, cls_ne_inf_iff, cls_ne_inf_iff, finiteValue_lt_iff]
  simp only [ne_eq, eq_inf_true_iff, eq_inf_false_iff]
  have hrange (v : Ext) : infRank v = -1 ∨ infRank v = 1 ∨ infRank v = 0 := (infRank_cases v).imp And.left (Or.imp And.left And.left)
  rcases hrange x with hx | hx | hx <;> rcases hrange y with hy | hy | hy <;> rw [hx, hy] <;> simp

/-- Comparing orders values that are no NaNs as `extBelow` does. -/
theorem compareExt_spec (x y : Ext) : (extBelow x y → compareExt x y = .lt) ∧ (extBelow y x → compareExt x y = .gt) ∧
    (¬ extBelow x y → ¬ extBelow y x → compareExt x y = .eq) := by
  simp only [extBelow_iff]
  by_cases hfin : infRank x = 0 ∧ infRank y = 0
  · obtain ⟨hx, hy⟩ := hfin
    simp only [compareExt_finite ((cls_ne_inf_iff x).mpr hx) ((cls_ne_inf_iff y).mpr hy), hx, hy, lt_irrefl, true_and, false_or]
    refine ⟨fun h => ?_, fun h => ?_, fun h1 h2 => ?_⟩
    · rw [if_neg h.ne, if_pos h]
    · rw [if_neg h.ne', if_neg h.not_gt]
    · rw [if_pos (le_antisymm (not_lt.mp h2) (not_lt.mp h1))]
  · have hcompare : compareExt x y = compare (infRank x) (infRank y) := by
      have : (decide (infRank x = 0) && decide (infRank y = 0)) = false := by simpa using hfin
      show (if (decide (infRank x = 0) && decide (infRank y = 0)) = true then _ else compare (infRank x) (infRank y)) = _
      rw [this]
      rfl
    have hno : ¬ (infRank x = 0 ∧ infRank y = 0 ∧ realOf x < realOf y) := fun h => hfin ⟨h.1, h.2.1⟩
    have hno' : ¬ (infRank y = 0 ∧ infRank x = 0 ∧ realOf y < realOf x) := fun h => hfin ⟨h.2.1, h.1⟩
    simp only [hcompare, hno, hno', or_false]
    refine ⟨fun h => compare_lt_iff_lt.mpr h, fun h => compare_gt_iff_gt.mpr h, fun h1 h2 => compare_eq_iff_eq.mpr (by omega)⟩

end

end Sys2Proof.Laws

end
end

section
/-! O42: comparisons and FXAM (48_fpu_instructions.md R1120 to R1123, R1126). -/

noncomputable section

namespace Sys2Proof.Laws

open Sys2Proof Sys2Proof.Machine Sys2Proof.Claims

theorem final_of {k : Fpu → Fpu} {fl : Fsw → Fsw} {f g : Fpu} (h : g = withSw (k f) fl) : Final k fl f (summarised g) := by
  rw [h]
  exact final_summarised k fl f

/-! ## What a comparison makes of the FPU -/

/-- C3, C2, C0 of an order (R1120). -/
def orderFlags (o : Ordering) : Fsw → Fsw := ordered (orderBits o).1 (orderBits o).2.1 (orderBits o).2.2

/-- The FPU after a comparison of two registers that are not empty, ES apart: `iv` says that an operand is an SNaN or unsupported, `qn` that one
is a QNaN, `dn` that one is a denormal (R1070, R1120). -/
def compared (quiet iv qn dn : Bool) (o : Ordering) (pops : Nat) (f : Fpu) : Fpu :=
  let nan := !iv && qn
  let signals := iv || (nan && !quiet)
  let d := !nan && dn
  let ie (w : Fsw) : Fsw := { w with ie := w.ie || signals }
  let de (w : Fsw) : Fsw := { ie w with de := w.de || d }
  if signals && !cwIm f.cw then withSw f ie
  else if d && !cwDm f.cw then withSw f fun w => { de w with c1 := false }
  else if iv || nan then withSw (f.pops pops) fun w => ordered true true true (de w)
  else withSw (f.pops pops) fun w => orderFlags o (de w)

/-- Condition bits set, then pops. -/
theorem ordered_pops_fp {c3 c2 c0 : Bool} {pops : Nat} {f : Fpu} {fl : Fsw → Fsw} (hfl : FlagsOnly fl) {Q : Unit → Fpu → Prop}
    (hQ : Q () (withSw (f.pops pops) fun w => ordered c3 c2 c0 (fl w))) : Fp (withSw f fl) (do setOrder c3 c2 c0; popSt pops) Q := by
  refine .seq <| modifySw_fp <| (popSt_does pops).fp ?_
  have hcomm : ((withSw f fun w => ordered c3 c2 c0 (fl w)).pops pops) = withSw (f.pops pops) fun w => ordered c3 c2 c0 (fl w) :=
    pops_onStack pops f _ fun w t => by rw [hfl w t]; rfl
  rw [← hcomm] at hQ
  exact hQ

/-- A QNaN, an SNaN or unsupported operand, a denormal: as `compareWith` tests them. -/
def cmpInvalid (a x : Ext) : Bool := Ext.cls a == .unsupported || Ext.cls x == .unsupported || Ext.cls a == .snan || Ext.cls x == .snan
def cmpQnan (a x : Ext) : Bool := Ext.cls a == .qnan || Ext.cls x == .qnan
def cmpDenormal (a x : Ext) (den : Bool) : Bool := Ext.isDen a || Ext.isDen x || den

/-- The comparison of two registers that are not empty. -/
def compareStage (quiet iv qn dn : Bool) (o : Ordering) (pops : Nat) (cw : Half) : M Unit := do
  let unordered : M Unit := do
    setOrder true true true
    popSt pops
  let nan := !iv && qn
  let signals := iv || (nan && !quiet)
  let d := !nan && dn
  modifySw fun w => { w with ie := w.ie || signals }
  if signals && !cwIm cw then pure ()
  else
    modifySw fun w => { w with de := w.de || d }
    if d && !cwDm cw then setC1 false
    else if iv || nan then unordered
    else
      let (c3, c2, c0) := orderBits o
      setOrder c3 c2 c0
      popSt pops

theorem compareStage_fp {quiet iv qn dn : Bool} {o : Ordering} {pops : Nat} {f : Fpu} {Q : Unit → Fpu → Prop}
    (hQ : Q () (compared quiet iv qn dn o pops f)) : Fp f (compareStage quiet iv qn dn o pops f.cw) Q := by
  rw [compared] at hQ
  dsimp only at hQ
  refine .seq <| modifySw_fp <| .ite (fun hsig => ?_) fun hsig => .seq <| modifySw_fp <| .ite (fun hd => ?_) fun hd => .ite (fun hn => ?_) fun hn => ?_
  · rw [if_pos hsig] at hQ
    exact .pure hQ
  · rw [if_neg hsig, if_pos hd] at hQ
    exact modifySw_fp hQ
  · rw [if_neg hsig, if_neg hd, if_pos hn] at hQ
    exact ordered_pops_fp (f := f) (fl := fun w => { w with
      ie := w.ie || (iv || ((!iv && qn) && !quiet)), de := w.de || (!(!iv && qn) && dn) }) (fun _ _ => rfl) hQ
  · rw [if_neg hsig, if_neg hd, if_neg hn] at hQ
    exact ordered_pops_fp (f := f) (fl := fun w => { w with
      ie := w.ie || (iv || ((!iv && qn) && !quiet)), de := w.de || (!(!iv && qn) && dn) }) (fun _ _ => rfl) hQ

theorem compareWith_fp {quiet den ready : Bool} {x : Ext} {pops : Nat} {f : Fpu} {Q : Unit → Fpu → Prop}
    (hempty : f.isEmpty 0 = true ∨ ready = false → Q () (if cwIm f.cw then withSw (f.pops pops) fun w => ordered true true true (stackFlags false w)
      else withSw f (stackFlags false)))
    (hfull : f.isEmpty 0 = false → ready = true →
      Q () (compared quiet (cmpInvalid (f.st 0) x) (cmpQnan (f.st 0) x) (cmpDenormal (f.st 0) x den) (compareExt (f.st 0) x) pops f)) :
    Fp f (compareWith quiet x den ready pops) Q := by
  refine .get fun s n => .ite (fun hc => ?_) fun hc => ?_
  · rw [withFpu_fpu, Bool.or_eq_true, Bool.not_eq_true'] at hc
    have hQ := hempty hc
    refine .seq <| modifySw_fp <| .get fun s n => .ite (fun hm => ?_) fun hm => ?_
    · have hm' : cwIm f.cw = true := hm
      rw [if_pos hm'] at hQ
      exact ordered_pops_fp (stackFlags_flagsOnly false) hQ
    · have hm' : ¬ cwIm f.cw = true := hm
      rw [if_neg hm'] at hQ
      exact .pure hQ
  · rw [withFpu_fpu, Bool.or_eq_true, Bool.not_eq_true', not_or, Bool.not_eq_true, Bool.not_eq_false] at hc
    exact compareStage_fp (hfull hc.1 hc.2)

/-! ## The claim -/

section
variable {quiet iv qn dn : Bool} {o : Ordering} {pops : Nat} {f : Fpu}

/-- An SNaN or unsupported operand, unmasked. -/
theorem compared_invalid (hm : cwIm f.cw = false) : compared quiet true qn dn o pops f = withSw f fun w => { w with ie := true } := by
  simp [compared, hm]

theorem compared_invalid_masked (hm : cwIm f.cw = true) : compared quiet true qn dn o pops f =
    if dn && !cwDm f.cw then withSw f fun w => { w with ie := true, de := true, c1 := false }
    else withSw (f.pops pops) fun w => ordered true true true { w with ie := true, de := w.de || dn } := by
  cases dn <;> simp [compared, hm]

/-- A QNaN. -/
theorem compared_qnan : compared quiet false true dn o pops f =
    if !quiet && !cwIm f.cw then withSw f fun w => { w with ie := true }
    else withSw (f.pops pops) fun w => ordered true true true { w with ie := w.ie || !quiet } := by
  cases quiet <;> simp [compared]

/-- Two numbers. -/
theorem compared_number : compared quiet false false dn o pops f =
    if dn && !cwDm f.cw then withSw f fun w => { w with de := true, c1 := false }
    else withSw (f.pops pops) fun w => orderFlags o { w with de := w.de || dn } := by
  cases dn <;> simp [compared]

end

section
variable {a x : Ext} {den : Bool}

theorem cmpInvalid_iff : cmpInvalid a x = true ↔ (Ext.cls a = .unsupported ∨ Ext.cls x = .unsupported) ∨ (Ext.cls a = .snan ∨ Ext.cls x = .snan) := by
  simp only [cmpInvalid, Bool.or_eq_true, beq_iff_eq, or_assoc]

theorem cmpQnan_iff : cmpQnan a x = true ↔ Ext.cls a = .qnan ∨ Ext.cls x = .qnan := by
  simp only [cmpQnan, Bool.or_eq_true, beq_iff_eq]

theorem cmpDenormal_iff : cmpDenormal a x den = true ↔ (Ext.cls a = .denormal ∨ Ext.cls x = .denormal) ∨ den = true := by
  simp only [cmpDenormal, Ext.isDen, Bool.or_eq_true, beq_iff_eq]

end

/-- The outcome is the one R1120 and R1070 state. -/
theorem cmpDone_of_compared {quiet den ready : Bool} {x : Ext} {pops : Nat} {f : Fpu} (h0 : f.isEmpty 0 = false) (hready : ready = true) :
    CmpDone quiet x den ready pops f
      (summarised (compared quiet (cmpInvalid (f.st 0) x) (cmpQnan (f.st 0) x) (cmpDenormal (f.st 0) x den) (compareExt (f.st 0) x) pops f)) := by
  obtain ⟨hlt, hgt, heq⟩ := compareExt_spec (f.st 0) x
  unfold CmpDone
  simp only [← cmpInvalid_iff, ← cmpQnan_iff, ← cmpDenormal_iff]
  generalize cmpInvalid (f.st 0) x = iv
  generalize cmpQnan (f.st 0) x = qn
  generalize cmpDenormal (f.st 0) x den = dn
  have hdm : f.cw.getLsbD 1 = cwDm f.cw := rfl
  have him : f.cw.getLsbD 0 = cwIm f.cw := rfl
  rw [hdm, him]
  refine ⟨fun h => ?_, fun _ _ => ⟨?_, ?_, ?_, ?_⟩⟩
  · rw [h0, hready] at h
    simp at h
  · rintro rfl hm
    exact final_of (compared_invalid hm)
  · rintro rfl hm
    rw [compared_invalid_masked hm]
    cases dn <;> cases cwDm f.cw <;> simp
    all_goals exact final_of rfl
  · intro hiv hqn
    rw [Bool.not_eq_true] at hiv
    subst hiv hqn
    rw [compared_qnan]
    cases quiet <;> cases cwIm f.cw <;> simp
    all_goals exact final_of rfl
  · intro hiv hqn
    rw [Bool.not_eq_true] at hiv hqn
    subst hiv hqn
    rw [compared_number]
    constructor
    · rintro ⟨rfl, hm⟩
      rw [hm]
      exact final_of rfl
    · intro hok
      have hgo : (dn && !cwDm f.cw) = false := by
        cases dn <;> cases hc : cwDm f.cw <;> simp_all
      rw [hgo, if_neg Bool.false_ne_true]
      refine ⟨fun h => ?_, fun h => ?_, fun h1 h2 => ?_⟩
      · rw [hgt h]
        cases dn <;> simp [orderFlags, orderBits]
        all_goals exact final_of rfl
      · rw [hlt h]
        cases dn <;> simp [orderFlags, orderBits]
        all_goals exact final_of rfl
      · rw [heq h1 h2]
        cases dn <;> simp [orderFlags, orderBits]
        all_goals exact final_of rfl

theorem compareWith_done {quiet den ready : Bool} {x : Ext} {pops : Nat} (f : Fpu) :
    Fp f (compareWith quiet x den ready pops) fun _ g => CmpDone quiet x den ready pops f (summarised g) := by
  refine compareWith_fp (fun h => ?_) cmpDone_of_compared
  unfold CmpDone
  refine ⟨fun _ => ?_, fun h0 hr => ?_⟩
  · split
    · next hm => exact final_of (if_pos hm)
    · next hm => exact final_of (if_neg hm)
  · rw [h0, hr] at h
    simp at h

/-! ## The instructions -/

theorem compareForms_runs (i : BitVec 3) (s : State) : ∀ c ∈ compareForms i, exec c.1 s = runInstr (escReg (compareReg c.2.2.1 c.2.1 c.2.2.2)) s := by
  simp only [compareForms, List.forall_mem_cons, List.not_mem_nil, false_implies, implies_true, and_true]
  exact ⟨rfl, rfl, rfl, rfl, rfl, rfl⟩

theorem compareMemForms_runs (m : MemOp) (s : State) : ∀ c ∈ compareMemForms m, exec c.1 s =
    runInstr (escMem m c.2.1.bytes c.2.1.bytes .r fun ps => load ps >>= fun v => compareWith false (c.2.1.value v).1 (c.2.1.value v).2 true c.2.2) s := by
  simp only [compareMemForms, List.forall_mem_cons, List.not_mem_nil, false_implies, implies_true, and_true]
  exact ⟨rfl, rfl, rfl, rfl, rfl, rfl, rfl, rfl⟩

theorem fxam_fp (f : Fpu) : Fp f fxam fun _ g => g = withSw f fun w => { w with
    c3 := (examine (f.isEmpty 0) (f.st 0)).1, c2 := (examine (f.isEmpty 0) (f.st 0)).2.1, c0 := (examine (f.isEmpty 0) (f.st 0)).2.2,
    c1 := Ext.neg (f.st 0) } := .get fun _ _ => modifySw_fp rfl

/-- Settles O42: the comparisons by `compareWith_done`, FXAM by its table. -/
theorem floatCompare : Obligations.FloatCompare := by
  unfold Obligations.FloatCompare
  refine ⟨fun i s hon c hc => ?_, fun m s c hc ps s1 v s2 hon hacc hload => ?_, fun s hon => ⟨?_, ?_⟩⟩
  · obtain ⟨fds, fdp, g, n, hran, hg⟩ := ran_reg (P := fun f g => CmpDone c.2.2.1 (f.st c.2.1) false (!f.isEmpty c.2.1) c.2.2.2 f (summarised g))
      hon (compareForms_runs i s c hc) fun f => .get fun _ _ => compareWith_done f
    exact ⟨fds, fdp, _, n, hran, hg⟩
  · obtain ⟨g, n, hran, hg⟩ := ran_load hon (compareMemForms_runs m s c hc) rfl hacc hload (compareWith_done s2.fpu)
    exact ⟨_, n, hran, hg⟩
  · obtain ⟨fds, fdp, g, n, hran, hg⟩ := ran_reg (P := fun f g => CmpDone false (Ext.zero false) false true 0 f (summarised g))
      hon (show exec .ftst s = _ from rfl) fun f => compareWith_done f
    exact ⟨fds, fdp, _, n, hran, hg⟩
  · obtain ⟨fds, fdp, g, n, hran, rfl⟩ := ran_reg hon (show exec .fxam s = runInstr (escReg fxam) s from rfl) fxam_fp
    refine ⟨fds, fdp, _, n, hran, ?_⟩
    have hst : (regPtrs s fds fdp).st 0 = s.fpu.st 0 := rfl
    have hempty : (regPtrs s fds fdp).isEmpty 0 = s.fpu.isEmpty 0 := rfl
    have hneg : Ext.neg (s.fpu.st 0) = (s.fpu.st 0).getLsbD 79 := by rw [Ext.neg, BitVec.msb_eq_getLsbD_last]
    rw [hst, hempty, hneg]
    refine ⟨fun h => ?_, fun h => ⟨fun hc => ?_, fun hc => ?_, fun hc => ?_, fun hc => ?_, fun hc => ?_, fun hc => ?_⟩⟩
    all_goals
      refine final_of ?_
      rw [h]
    · rfl
    · rw [examine, hc]; rfl
    · rcases hc with hc | hc <;> rw [examine, hc] <;> rfl
    · rw [examine, hc]; rfl
    · rw [examine, hc]; rfl
    · rw [examine, hc]; rfl
    · rw [examine, hc]; rfl

end Sys2Proof.Laws

end
end

section
/-! The conversions of a store (47_fpu_numerics.md R1036 to R1038). -/

noncomputable section

namespace Sys2Proof.Laws

open Sys2Proof Sys2Proof.Machine Sys2Proof.Claims

/-! ## Rounding to an integer -/

theorem roundInt_eq (rc : BitVec 2) (d : Dy) : roundInt rc d = roundUnit rc 0 d := by
  rw [roundInt, roundUnit, zero_sub, sub_zero]

/-- A magnitude with a sign. -/
def signedInt (neg : Bool) (m : Nat) : ℤ := if neg then -m else m

theorem signedInt_cast (neg : Bool) (m : Nat) : (signedInt neg m : ℝ) = sign neg * m := by
  cases neg <;> simp [signedInt, sign]

theorem natAbs_signedInt (neg : Bool) (m : Nat) : (signedInt neg m).natAbs = m := by
  cases neg <;> simp [signedInt]

/-- `r` is the magnitude of an integer that `e` is rounded to (R1037). -/
structure RoundsInt (rc : BitVec 2) (neg : Bool) (e : ℝ) (r : Rnd) : Prop where
  rounded : RoundedAt rc 1 e (signedInt neg r.sig)
  inexact_iff : r.inexact = true ↔ (signedInt neg r.sig : ℝ) ≠ e
  up_iff : r.up = true ↔ |e| < |(signedInt neg r.sig : ℝ)|

theorem roundInt_roundsInt (rc : BitVec 2) {d : Dy} {e : ℝ} (h : Stands d e) (hs : d.sticky = false) :
    RoundsInt rc d.neg e (roundInt rc d) := by
  have hunit := roundUnit_nearby rc (lsb := 0) h fun hst => by rw [hs] at hst; cases hst
  rw [roundInt_eq]
  rw [zpow_zero] at hunit
  have hval : (signedInt d.neg (roundUnit rc 0 d).sig : ℝ) = sign d.neg * ((roundUnit rc 0 d).sig * 1) := by rw [signedInt_cast, mul_one]
  refine ⟨?_, ?_, ?_⟩
  · rw [hval]
    exact hunit.roundedAt h.sign_eq
  · rw [hunit.inexact_iff, hval]
    conv_rhs => rw [h.sign_eq]
    rw [Ne, Ne, mul_right_inj' (sign_ne_zero _)]
  · rw [hunit.up_iff, hval, abs_sign_mul, abs_of_nonneg (by positivity : (0 : ℝ) ≤ (roundUnit rc 0 d).sig * 1)]

/-- Zero is rounded to zero. -/
theorem roundedAt_zero (rc : BitVec 2) {u : ℝ} (hu : 0 < u) : RoundedAt rc u 0 0 := by
  refine ⟨0, by simp, by simpa using hu, fun _ => ⟨by simpa using hu.le, fun _ => rfl⟩, fun _ => le_rfl, fun _ => le_rfl, fun _ => le_rfl⟩

/-- What `go` of a conversion stores for a finite number: `fits` says which magnitudes, `out` what is stored. -/
structure StoresInt (cw : Half) (x : Ext) (fits : ℤ → Prop) (out : ℤ → Nat) (misfit : Nat) (r : Narrow) (w : ℤ) : Prop where
  rounded : RoundedAt (cwRc cw) 1 (realOf x) w
  fit : fits w → r.ie = false ∧ (r.pe = true ↔ (w : ℝ) ≠ realOf x) ∧ (r.pe = true → (r.c1 = true ↔ |realOf x| < |(w : ℝ)|)) ∧ r.out = some (out w)
  unfit : ¬ fits w → r.ie = true ∧ r.out = if cw.getLsbD 0 then some misfit else none

/-- Zero is stored as zero. -/
theorem storesInt_zero {cw : Half} {x : Ext} {fits : ℤ → Prop} {out : ℤ → Nat} {misfit : Nat} (h0 : realOf x = 0) (hfit : fits 0) :
    StoresInt cw x fits out misfit (Narrow.exact (out 0)) 0 := by
  refine ⟨by rw [h0, Int.cast_zero]; exact roundedAt_zero _ one_pos, fun _ => ⟨rfl, ?_, nofun, rfl⟩, fun h => absurd hfit h⟩
  rw [h0, Int.cast_zero]
  simp [Narrow.exact]

theorem storesInt_go {cw : Half} {x : Ext} {fits : ℤ → Prop} {out : ℤ → Nat} {misfit : Nat} (hx : (Ext.sig x).toNat ≠ 0) {r : Narrow}
    (hfit : fits (signedInt (Ext.neg x) (roundInt (cwRc cw) (Ext.dy x)).sig) → r =
      { Narrow.exact (out (signedInt (Ext.neg x) (roundInt (cwRc cw) (Ext.dy x)).sig)) with
        pe := (roundInt (cwRc cw) (Ext.dy x)).inexact, c1 := (roundInt (cwRc cw) (Ext.dy x)).up })
    (hunfit : ¬ fits (signedInt (Ext.neg x) (roundInt (cwRc cw) (Ext.dy x)).sig) → r = Narrow.invalid cw misfit) :
    StoresInt cw x fits out misfit r (signedInt (Ext.neg x) (roundInt (cwRc cw) (Ext.dy x)).sig) := by
  obtain ⟨hrounded, hin, hup⟩ := roundInt_roundsInt (cwRc cw) (stands_dy hx) rfl
  exact ⟨hrounded, fun h => hfit h ▸ ⟨rfl, hin, fun _ => hup, rfl⟩, fun h => hunfit h ▸ ⟨rfl, rfl⟩⟩

/-- A value that fits `n` bits (R1018). -/
def fitsBits (n : Nat) (w : ℤ) : Prop := -(2 ^ (n - 1)) ≤ w ∧ w < 2 ^ (n - 1)

theorem toNat_ofInt_signed {n m : Nat} {neg : Bool} (h : if neg then m ≤ 2 ^ (n - 1) else m < 2 ^ (n - 1)) (hpow : 2 ^ n = 2 * 2 ^ (n - 1)) :
    (BitVec.ofInt n (signedInt neg m)).toNat = if neg then (2 ^ n - m) % 2 ^ n else m := by
  rw [BitVec.toNat_ofInt, signedInt]
  cases neg
  · rw [if_neg Bool.false_ne_true] at h ⊢
    rw [← Int.natCast_mod, Int.toNat_natCast, if_neg Bool.false_ne_true, Nat.mod_eq_of_lt (by omega)]
  · rw [if_pos rfl] at h ⊢
    have hle : m ≤ 2 ^ n := by omega
    have hmod : (-(m : ℤ)) % ((2 ^ n : Nat) : ℤ) = ((2 ^ n - m : Nat) : ℤ) % ((2 ^ n : Nat) : ℤ) := by
      rw [Nat.cast_sub hle, sub_eq_add_neg, Int.add_emod_left]
    rw [hmod, ← Int.natCast_mod, Int.toNat_natCast, if_pos rfl]

theorem toInteger_stores {n : Nat} (hn : 0 < n) (cw : Half) {x : Ext} (hx : finiteCls x) :
    ∃ w, StoresInt cw x (fitsBits n) (fun w => (BitVec.ofInt n w).toNat) (2 ^ (n - 1)) (toInteger n cw x) w := by
  have hpow : 2 ^ n = 2 * 2 ^ (n - 1) := by rw [← Nat.pow_succ']; congr 1; omega
  have hpos := Nat.two_pow_pos (n - 1)
  have hcast : (2 : ℤ) ^ (n - 1) = ((2 ^ (n - 1) : Nat) : ℤ) := by push_cast; rfl
  have hgo (hsig : (Ext.sig x).toNat ≠ 0) (h : toInteger n cw x = toInteger.go n cw (Ext.dy x)) :
      ∃ w, StoresInt cw x (fitsBits n) (fun w => (BitVec.ofInt n w).toNat) (2 ^ (n - 1)) (toInteger n cw x) w := by
    have hcond : fitsBits n (signedInt (Ext.neg x) (roundInt (cwRc cw) (Ext.dy x)).sig) ↔
        (if (Ext.dy x).neg then (roundInt (cwRc cw) (Ext.dy x)).sig ≤ 2 ^ (n - 1) else (roundInt (cwRc cw) (Ext.dy x)).sig < 2 ^ (n - 1)) := by
      show _ ↔ if Ext.neg x then _ else _
      rw [fitsBits, hcast]
      cases Ext.neg x <;> simp [signedInt] <;> omega
    refine ⟨_, storesInt_go hsig (fun hfit => ?_) fun hunfit => ?_⟩
    · have hout : (BitVec.ofInt n (signedInt (Ext.neg x) (roundInt (cwRc cw) (Ext.dy x)).sig)).toNat =
          if (Ext.dy x).neg then (2 ^ n - (roundInt (cwRc cw) (Ext.dy x)).sig) % 2 ^ n else (roundInt (cwRc cw) (Ext.dy x)).sig :=
        toNat_ofInt_signed (hcond.mp hfit) hpow
      rw [h, toInteger.go, if_pos (hcond.mp hfit), hout]
    · rw [h, toInteger.go, if_neg fun hc => hunfit (hcond.mpr hc)]
  rcases hx with h | h | h
  · have hzero : toInteger n cw x = Narrow.exact ((BitVec.ofInt n 0).toNat) := by
      have hout : (BitVec.ofInt n 0).toNat = 0 := by simp
      rw [toInteger, h, hout]
    exact ⟨0, hzero ▸ storesInt_zero (realOf_of_zero h) ⟨by rw [hcast]; omega, by rw [hcast]; omega⟩⟩
  · exact hgo ((cls_denormal_iff x).mp h).2 (by rw [toInteger, h])
  · exact hgo (by have := ((cls_normal_iff x).mp h).2.2; omega) (by rw [toInteger, h])

/-! ## Packed decimal -/

theorem toDigits_lt (k n : Nat) : toDigits k n < 16 ^ k := by
  induction k generalizing n with
  | zero => exact Nat.one_pos
  | succ k ih =>
    have := ih (n / 10)
    rw [toDigits, Nat.pow_succ']
    omega

/-- The digits of a packed decimal number (R1019). -/
theorem digit_toDigits {j k : Nat} (hj : j < k) (n : Nat) : toDigits k n / 16 ^ j % 16 = n / 10 ^ j % 10 := by
  induction k generalizing j n with
  | zero => exact absurd hj (Nat.not_lt_zero j)
  | succ k ih =>
    rw [toDigits]
    cases j with
    | zero => simp only [Nat.pow_zero, Nat.div_one]; omega
    | succ j =>
      have hdiv : (n % 10 + 16 * toDigits k (n / 10)) / 16 = toDigits k (n / 10) := by omega
      rw [Nat.pow_succ', ← Nat.div_div_eq_div_mul, hdiv, ih (Nat.lt_of_succ_lt_succ hj), Nat.div_div_eq_div_mul, ← Nat.pow_succ']

theorem toDecimal_stores (free : BitVec 64) (cw : Half) {x : Ext} (hx : finiteCls x) :
    ∃ w, StoresInt cw x (fun w => w.natAbs < 10 ^ 18) (fun w => (Ext.neg x).toNat * 2 ^ 79 + toDigits 18 w.natAbs) (0xFFFF * 2 ^ 64 + free.toNat)
      (toDecimal free cw x) w := by
  have hgo (hsig : (Ext.sig x).toNat ≠ 0) (h : toDecimal free cw x = toDecimal.go free cw (Ext.dy x)) :
      ∃ w, StoresInt cw x (fun w => w.natAbs < 10 ^ 18) (fun w => (Ext.neg x).toNat * 2 ^ 79 + toDigits 18 w.natAbs) (0xFFFF * 2 ^ 64 + free.toNat)
        (toDecimal free cw x) w := by
    refine ⟨_, storesInt_go hsig (fun hfit => ?_) fun hunfit => ?_⟩
    · rw [natAbs_signedInt] at hfit ⊢
      have hneg : (Ext.dy x).neg = Ext.neg x := rfl
      rw [h, toDecimal.go, if_pos hfit, hneg]
    · rw [natAbs_signedInt] at hunfit
      rw [h, toDecimal.go, if_neg hunfit]
  rcases hx with h | h | h
  · have hzero : toDecimal free cw x = Narrow.exact ((Ext.neg x).toNat * 2 ^ 79 + toDigits 18 (0 : ℤ).natAbs) := by
      have hdigits : toDigits 18 (0 : ℤ).natAbs = 0 := by decide
      rw [hdigits, Nat.add_zero, toDecimal, h]
    exact ⟨0, hzero ▸ storesInt_zero (out := fun w => (Ext.neg x).toNat * 2 ^ 79 + toDigits 18 w.natAbs) (realOf_of_zero h) (by decide)⟩
  · exact hgo ((cls_denormal_iff x).mp h).2 (by rw [toDecimal, h])
  · exact hgo (by have := ((cls_normal_iff x).mp h).2.2; omega) (by rw [toDecimal, h])

/-! ## Memory reals -/

section
variable {e f be sig : Nat} {neg : Bool}

/-- The fields of a packed real (R1016). -/
theorem packReal_fields (hbe : be < 2 ^ e) : let n := packReal e f neg be sig
    n / 2 ^ (e + f) = neg.toNat ∧ n / 2 ^ f % 2 ^ e = be ∧ n % 2 ^ f = sig % 2 ^ f ∧ n % 2 ^ (e + f) = be * 2 ^ f + sig % 2 ^ f ∧ n < 2 ^ (1 + e + f) := by
  intro n
  have hsig : sig % 2 ^ f < 2 ^ f := Nat.mod_lt _ (Nat.two_pow_pos f)
  have hpow : 2 ^ (e + f) = 2 ^ f * 2 ^ e := by rw [Nat.add_comm, Nat.pow_add]
  have hlow : be * 2 ^ f + sig % 2 ^ f < 2 ^ (e + f) := by
    rw [hpow]
    calc be * 2 ^ f + sig % 2 ^ f < be * 2 ^ f + 2 ^ f := by omega
      _ = 2 ^ f * (be + 1) := by ring
      _ ≤ 2 ^ f * 2 ^ e := Nat.mul_le_mul_left _ hbe
  have hn : n = 2 ^ (e + f) * neg.toNat + (be * 2 ^ f + sig % 2 ^ f) := by
    show neg.toNat * 2 ^ (e + f) + be * 2 ^ f + sig % 2 ^ f = _
    ring
  have hnlow : n % 2 ^ (e + f) = be * 2 ^ f + sig % 2 ^ f := by rw [hn, Nat.mul_add_mod, Nat.mod_eq_of_lt hlow]
  refine ⟨?_, ?_, ?_, hnlow, ?_⟩
  · rw [hn, Nat.mul_add_div (Nat.two_pow_pos _), Nat.div_eq_of_lt hlow, Nat.add_zero]
  · rw [← Nat.mod_mul_right_div_self, ← hpow, hnlow, Nat.mul_comm be, Nat.mul_add_div (Nat.two_pow_pos f), Nat.div_eq_of_lt hsig, Nat.add_zero]
  · have : n % 2 ^ (e + f) % 2 ^ f = n % 2 ^ f := Nat.mod_mod_of_dvd _ ⟨2 ^ e, hpow⟩
    rw [← this, hnlow, Nat.mul_comm be, Nat.mul_add_mod, Nat.mod_mod]
  · have h1 : 2 ^ (1 + e + f) = 2 * 2 ^ (e + f) := by rw [← Nat.pow_succ']; congr 1; omega
    have := neg.toNat_le
    rw [h1, hn]
    cases neg <;> simp only [Bool.toNat_true, Bool.toNat_false] <;> omega

/-- The number that a packed real stands for: with the integer bit set where the exponent is not 0. -/
theorem memReal_packReal (hbe : be < 2 ^ e) (hsig : sig < 2 ^ (f + 1)) (hint : be ≠ 0 ↔ 2 ^ f ≤ sig) :
    (memReal e f (packReal e f neg be sig) : ℝ) = sign neg * (sig * (2 : ℝ) ^ ((max be 1 : Nat) - (2 ^ (e - 1) - 1) - f : ℤ)) := by
  obtain ⟨hneg, hexp, hfrac, -, -⟩ := packReal_fields (f := f) (neg := neg) (sig := sig) hbe
  have hsum : (if be = 0 then 0 else 2 ^ f) + sig % 2 ^ f = sig := by
    rw [Nat.pow_succ] at hsig
    split
    · next h0 =>
      have : sig < 2 ^ f := by
        by_contra hge
        exact hint.mpr (Nat.not_lt.mp hge) h0
      rw [Nat.zero_add, Nat.mod_eq_of_lt this]
    · next h0 =>
      have hle := hint.mp h0
      rw [Nat.mod_eq_sub_mod hle, Nat.mod_eq_of_lt (by omega)]
      omega
  have hsgn : decide (neg.toNat % 2 = 1) = neg := by cases neg <;> rfl
  rw [memReal_cast, hneg, hexp, hfrac, hsum, hsgn, mul_assoc]

end

end Sys2Proof.Laws

end
end

section
/-! Storing a finite number as a single or double real (47_fpu_numerics.md R1036, R1067, R1068). -/

noncomputable section

namespace Sys2Proof.Laws

open Sys2Proof Sys2Proof.Machine Sys2Proof.Claims

/-- A memory format of `e` exponent and `f` fraction bits (R1015). -/
structure InMemory (fmt : Fmt) (e f : Nat) : Prop where
  p_eq : fmt.p = f + 1
  bias_eq : fmt.bias = 2 ^ (e - 1) - 1
  reg_eq : fmt.reg = false
  two_le : 2 ≤ e

theorem inMemory_single : InMemory .single 8 23 := ⟨rfl, rfl, rfl, by decide⟩
theorem inMemory_double : InMemory .double 11 52 := ⟨rfl, rfl, rfl, by decide⟩

section
variable {fmt : Fmt} {e f : Nat} {cw : Half} {d : Dy}

theorem finish_overflow_kept (hreg : fmt.reg = false) (htop : fmt.bias < (roundP (cwRc cw) fmt.p d).top) (hm : cwOm cw = false) :
    finish fmt cw d = { be := 0, sig := 0, oe := true, ue := false, pe := false, up := false, stored := false } := by
  rw [finish, finishAs]
  simp only [if_pos htop, hm, hreg, Bool.false_eq_true, if_false]

theorem finish_tiny_kept (hreg : fmt.reg = false) (htop : (roundP (cwRc cw) fmt.p d).top ≤ fmt.bias) (htiny : d.top < 1 - fmt.bias)
    (hm : cwUm cw = false) :
    finish fmt cw d = { be := 0, sig := 0, oe := false, ue := true, pe := false, up := false, stored := false } := by
  rw [finish, decide_eq_true htiny, finishAs]
  simp only [if_neg (not_lt.mpr htop), hm, hreg, Bool.false_eq_true, if_false, if_true]

/-- What a finite number that is not 0 gives. -/
theorem narrow_finite {x : Ext} (hx : Ext.cls x = .denormal ∨ Ext.cls x = .normal) : narrow fmt e f cw x =
    { ie := false, de := false, oe := (finish fmt cw (Ext.dy x)).oe, ue := (finish fmt cw (Ext.dy x)).ue, pe := (finish fmt cw (Ext.dy x)).pe,
      c1 := (finish fmt cw (Ext.dy x)).pe && (finish fmt cw (Ext.dy x)).up,
      out := if (finish fmt cw (Ext.dy x)).stored then
        some (packReal e f (Ext.neg x) (finish fmt cw (Ext.dy x)).be (finish fmt cw (Ext.dy x)).sig) else none } := by
  rcases hx with h | h <;> rw [narrow, h]

end

/-- The real `w` is stored: its flags, and the bits that stand for it. -/
def GivesReal (e f : Nat) (x : Ext) (r : Narrow) (w : ℝ) : Prop :=
  (r.pe = true ↔ w ≠ realOf x) ∧ (r.pe = true → (r.c1 = true ↔ |realOf x| < |w|)) ∧
    ∃ n, r.out = some n ∧ n < 2 ^ (1 + e + f) ∧ n / 2 ^ f % 2 ^ e ≠ 2 ^ e - 1 ∧ (memReal e f n : ℝ) = w ∧
      (n / 2 ^ (e + f) = 1 ↔ Ext.neg x = true)

section
variable {fmt : Fmt} {e f : Nat} {cw : Half} {x : Ext} (hfmt : InMemory fmt e f) (hx : Ext.cls x = .denormal ∨ Ext.cls x = .normal)
include hfmt hx

omit hfmt in
theorem sig_ne_zero_of_cls : (Ext.sig x).toNat ≠ 0 := by
  rcases hx with h | h
  · exact ((cls_denormal_iff x).mp h).2
  · have := ((cls_normal_iff x).mp h).2.2
    omega

omit hfmt in
/-- A significand and an exponent delivered, as the bits of a memory real. -/
theorem gives_packed {w : ℝ} {be sig : Nat} {oe ue pe up : Bool}
    (hfin : finish fmt cw (Ext.dy x) = { be := be, sig := sig, oe := oe, ue := ue, pe := pe, up := up, stored := true })
    (hbe : be < 2 ^ e - 1) (hsig : sig < 2 ^ (f + 1)) (hint : be ≠ 0 ↔ 2 ^ f ≤ sig)
    (hw : w = sign (Ext.neg x) * (sig * (2 : ℝ) ^ ((max be 1 : Nat) - (2 ^ (e - 1) - 1) - f : ℤ)))
    (hpe : pe = true ↔ w ≠ realOf x) (hup : up = true ↔ |realOf x| < |w|) :
    GivesReal e f x (narrow fmt e f cw x) w ∧ (narrow fmt e f cw x).oe = oe ∧ (narrow fmt e f cw x).ue = ue := by
  obtain ⟨hneg, hexp, -, -, hlt⟩ := packReal_fields (e := e) (f := f) (be := be) (neg := Ext.neg x) (sig := sig) (by omega)
  rw [narrow_finite hx, hfin]
  refine ⟨⟨hpe, fun h => ?_, _, rfl, hlt, ?_, ?_, ?_⟩, rfl, rfl⟩
  · dsimp only at h ⊢
    rw [h, Bool.true_and]
    exact hup
  · rw [hexp]
    omega
  · rw [memReal_packReal (by omega) hsig hint, hw]
  · rw [hneg]
    cases Ext.neg x <;> decide

/-- A finite number stored as a memory real. -/
theorem narrow_stores : StoresReal e f cw x (narrow fmt e f cw x) := by
  have h := stands_dy (sig_ne_zero_of_cls hx)
  have hd : (Ext.dy x).sig ≠ 0 := sig_ne_zero_of_cls hx
  have hs : (Ext.dy x).sticky = true → fmt.p < bitLen (Ext.dy x).sig := nofun
  have hp0 : 0 < fmt.p := by rw [hfmt.p_eq]; exact Nat.succ_pos f
  have htwo := hfmt.two_le
  have hhalf : 2 ^ e = 2 * 2 ^ (e - 1) := by rw [← Nat.pow_succ']; congr 1; omega
  have hhalf2 : 2 ^ (e - 1) = 2 * 2 ^ (e - 2) := by rw [← Nat.pow_succ']; congr 1; omega
  have hquarter := Nat.two_pow_pos (e - 2)
  have hcast : ((2 : ℤ) ^ (e - 1)) = ((2 ^ (e - 1) : Nat) : ℤ) := by push_cast; rfl
  have hbias : (fmt.bias : ℤ) = ((2 ^ (e - 1) : Nat) : ℤ) - 1 := by rw [hfmt.bias_eq]; omega
  have hbig : (2 : ℝ) ^ (2 ^ (e - 1)) = (2 : ℝ) ^ (((2 ^ (e - 1) : Nat) : ℤ)) := (zpow_natCast _ _).symm
  have hvlt (n : ℤ) := roundedValue_lt_iff (cwRc cw) hd hp0 hs n
  have helt (n : ℤ) := h.lt_iff hd n
  have hcarry := roundP_top_le (cwRc cw) fmt.p (Ext.dy x)
  obtain ⟨hlow, hhigh, -, hkeep, -, -⟩ := roundP_unit (cwRc cw) hp0 hd hs
  have hp := hfmt.p_eq
  have hpf : 2 ^ (fmt.p - 1) = 2 ^ f := by rw [hp, Nat.add_sub_cancel]
  have hpf' : 2 ^ fmt.p = 2 ^ (f + 1) := by rw [hp]
  refine ⟨roundedValue (cwRc cw) fmt.p (Ext.dy x), hp ▸ roundedValue_roundedTo (cwRc cw) h hd hp0 hs, fun hnormal hfits => ?_, fun hover hm => ?_,
    fun hover hm => ?_, fun hsmall hm => ?_, fun hsmall hm => ?_⟩
  · rw [hbig, hvlt] at hfits
    rw [← not_lt, helt, hcast] at hnormal
    obtain ⟨be, hbe⟩ : ∃ be : Nat, (roundP (cwRc cw) fmt.p (Ext.dy x)).top + fmt.bias = be := ⟨_, (Int.toNat_of_nonneg (by omega)).symm⟩
    have hfin := finish_normal (f := fmt) (cw := cw) (d := Ext.dy x) (by omega) (by omega)
    rw [hbe, Int.toNat_natCast] at hfin
    refine gives_packed hx hfin (by omega) (by omega) (iff_of_true (by omega) (by omega)) ?_ (roundP_inexact_iff _ h hd hp0 hs) (roundP_up_iff _ h hd hp0 hs)
    show sign (Ext.neg x) * _ = _
    congr 3
    rw [hcast]
    omega
  · rw [hbig, ← not_lt, hvlt] at hover
    obtain ⟨big, hov, hto⟩ := overflowValue_eq fmt (cwRc cw) (Ext.neg x)
    have hfin := (finish_overflow_masked (f := fmt) (cw := cw) (d := Ext.dy x) (by omega) hm).trans hov
    have hneg : Ext.neg x = false ↔ 0 < realOf x := by
      rw [← Bool.not_eq_true, realOf_neg_iff hd, not_lt]
      exact ⟨fun hle => lt_of_le_of_ne hle (h.ne_zero hd).symm, le_of_lt⟩
    rw [realOf_neg_iff hd, hneg] at hto
    have hbias' : 2 * fmt.bias + 1 = 2 ^ e - 1 := by omega
    have hfpos := Nat.two_pow_pos f
    rw [narrow_finite hx, hfin]
    refine ⟨rfl, rfl, _, rfl, ?_, fun hinf => ?_, fun hmax => ?_⟩
    · obtain ⟨hsign, -⟩ := packReal_fields (e := e) (f := f) (be := if big then 2 * fmt.bias + 1 else 2 * fmt.bias) (neg := Ext.neg x)
        (sig := if big then 2 ^ (fmt.p - 1) else 2 ^ fmt.p - 1) (by split <;> omega)
      rw [hsign]
      cases Ext.neg x <;> decide
    · simp only [hto.mpr hinf, if_true]
      obtain ⟨-, -, -, hmag, -⟩ := packReal_fields (e := e) (f := f) (be := 2 * fmt.bias + 1) (neg := Ext.neg x) (sig := 2 ^ (fmt.p - 1)) (by omega)
      rw [hmag, hpf, Nat.mod_self, hbias', Nat.add_zero]
    · have hb : big = false := by rw [← Bool.not_eq_true]; exact fun hb => hmax (hto.mp hb)
      simp only [hb, Bool.false_eq_true, if_false]
      obtain ⟨-, -, -, hmag, -⟩ := packReal_fields (e := e) (f := f) (be := 2 * fmt.bias) (neg := Ext.neg x) (sig := 2 ^ fmt.p - 1) (by omega)
      have hfrac : (2 ^ fmt.p - 1) % 2 ^ f = 2 ^ f - 1 := by
        rw [hpf', Nat.pow_succ, Nat.mod_eq_sub_mod (by omega), Nat.mod_eq_of_lt (by omega)]
        omega
      have hsplit : (2 ^ e - 1) * 2 ^ f = 2 * fmt.bias * 2 ^ f + 2 ^ f := by rw [← hbias', Nat.add_mul, Nat.one_mul]
      rw [hmag, hfrac, hsplit, Nat.add_sub_assoc hfpos]
  · rw [hbig, ← not_lt, hvlt] at hover
    rw [narrow_finite hx, finish_overflow_kept hfmt.reg_eq (by omega) hm]
    exact ⟨rfl, rfl⟩
  · rw [helt, hcast] at hsmall
    have hlsb : (2 - fmt.bias - fmt.p : ℤ) = 2 - ((2 ^ (e - 1) : Nat) : ℤ) - f := by omega
    have hfin := finish_tiny_masked (f := fmt) (cw := cw) (d := Ext.dy x) (by omega) (by omega) hm
    dsimp only at hfin
    have hunit := roundUnit_nearby (cwRc cw) (lsb := 2 - fmt.bias - fmt.p) h nofun
    generalize roundUnit (cwRc cw) (2 - fmt.bias - fmt.p) (Ext.dy x) = t at *
    rw [hlsb] at hunit
    have hsig : t.sig ≤ 2 ^ f := by
      refine hunit.sig_le (((helt _).mpr hsmall).le.trans (le_of_eq ?_))
      push_cast
      rw [← zpow_natCast, ← zpow_split]
      congr 1
      ring
    have hne : sign (Ext.neg x) * (t.sig * (2 : ℝ) ^ (2 - ((2 ^ (e - 1) : Nat) : ℤ) - f)) ≠ realOf x ↔ t.inexact = true := by
      rw [hunit.inexact_iff]
      conv_lhs => rw [h.sign_eq]
      show ¬ sign (Ext.neg x) * _ = sign (Ext.neg x) * _ ↔ _
      rw [mul_right_inj' (sign_ne_zero _)]
    have hmax : max (if 2 ^ (fmt.p - 1) ≤ t.sig then 1 else 0) 1 = 1 := by split <;> rfl
    have hint : (if 2 ^ (fmt.p - 1) ≤ t.sig then 1 else 0) ≠ 0 ↔ 2 ^ f ≤ t.sig := by
      rw [hpf]
      split
      · exact iff_of_true one_ne_zero ‹_›
      · exact iff_of_false (fun h => h rfl) ‹_›
    obtain ⟨hgives, -, hue⟩ := gives_packed (e := e) (f := f) (w := sign (Ext.neg x) * (t.sig * (2 : ℝ) ^ (2 - ((2 ^ (e - 1) : Nat) : ℤ) - f))) hx hfin
      (by split <;> omega) (by rw [Nat.pow_succ]; have := Nat.two_pow_pos f; omega) hint
      (by rw [hmax, hcast]; congr 3; omega) hne.symm
      (by rw [hunit.up_iff, abs_sign_mul, abs_of_nonneg (by positivity : (0 : ℝ) ≤ t.sig * 2 ^ (2 - ((2 ^ (e - 1) : Nat) : ℤ) - f))])
    refine ⟨_, ?_, hgives, ?_⟩
    · rw [hcast]
      exact hunit.roundedAt h.sign_eq
    · rw [hue, hne]
  · rw [helt, hcast] at hsmall
    rw [narrow_finite hx, finish_tiny_kept hfmt.reg_eq (by omega) (by omega) hm]
    exact ⟨rfl, rfl⟩

end

end Sys2Proof.Laws

end
end

section
/-! O41: floating-point stores (48_fpu_instructions.md R1103, R1104, R1107, R1108, R1110). -/

noncomputable section

namespace Sys2Proof.Laws

open Sys2Proof Sys2Proof.Machine Sys2Proof.Claims

/-! ## Steps that also write memory -/

/-- Writing memory takes no notice of the FPU and of the draws. -/
theorem physWriteByte_withFpu (f : Fpu) (n : Nat) {a : Word} {b : Byte} {s t : State} (h : physWriteByte a b s = .ok () t) :
    physWriteByte a b (withFpu s f n) = .ok () (withFpu t f n) := by
  have hsame : State.a20 (withFpu s f n) a = s.a20 a := rfl
  rw [physWriteByte, get_bind] at h ⊢
  rw [hsame]
  cases hr : regionAt s.memMap (s.a20 a).toNat with
  | none => rw [hr] at h; cases h; rw [show (withFpu s f n).memMap = s.memMap from rfl, hr]; rfl
  | some r => rw [show (withFpu s f n).memMap = s.memMap from rfl, hr]; cases r <;> rw [hr] at h <;> cases h <;> rfl

theorem store_withFpu (f : Fpu) (n : Nat) {ps : List Word} {v : Nat} {s t : State} (h : store ps v s = .ok () t) :
    store ps v (withFpu s f n) = .ok () (withFpu t f n) := by
  induction ps generalizing v s with
  | nil => cases h; rfl
  | cons a as ih =>
    obtain ⟨_, u, hu, hrest⟩ := bind_eq_ok.mp h
    exact (bind_of_ok (physWriteByte_withFpu f n hu)).trans (ih hrest)

/-- From the FPU `f` the computation takes `s` to `t`, the FPU and the draws apart, and ends as `Q` says. -/
def Fs (s t : State) (f : Fpu) (m : M Unit) (Q : Fpu → Prop) : Prop :=
  ∀ n, ∃ g n', m (withFpu s f n) = .ok () (withFpu t g n') ∧ Q g

theorem Fp.fs {m : M Unit} {f : Fpu} {Q : Fpu → Prop} (h : Fp f m fun _ g => Q g) (s : State) : Fs s s f m Q := fun n => by
  obtain ⟨_, g, n', hrun, hQ⟩ := h s n
  exact ⟨g, n', hrun, hQ⟩

/-- A step on the FPU alone, then the rest. -/
theorem Fp.thenFs {α : Type} {m : M α} {r : α → M Unit} {s t : State} {f : Fpu} {Q : Fpu → Prop} (h : Fp f m fun v g => Fs s t g (r v) Q) :
    Fs s t f (m >>= r) Q := fun n => by
  obtain ⟨v, g, n', hrun, hrest⟩ := h s n
  obtain ⟨g', n'', hrun', hQ⟩ := hrest n'
  exact ⟨g', n'', (bind_of_ok hrun).trans hrun', hQ⟩

/-- A step on the FPU behind one whose outcome is known. -/
theorem Fs.thenFp_of {m r : M Unit} {s t : State} {f : Fpu} {P Q : Fpu → Prop} (h : Fs s t f m P) (hr : ∀ g, P g → Fp g r fun _ g' => Q g') :
    Fs s t f (do m; r) Q := fun n => by
  obtain ⟨g, n', hrun, hP⟩ := h n
  obtain ⟨_, g', n'', hrun', hQ⟩ := hr g hP t n'
  exact ⟨g', n'', (bind_of_ok hrun).trans hrun', hQ⟩

theorem Fs.thenFp {m r : M Unit} {s t : State} {f : Fpu} {Q : Fpu → Prop} (h : Fs s t f m fun g => Fp g r fun _ g' => Q g') :
    Fs s t f (do m; r) Q := h.thenFp_of fun _ hg => hg

theorem Fs.get {h : State → M Unit} {s t : State} {f : Fpu} {Q : Fpu → Prop} (hh : ∀ s' n, Fs s t f (h (withFpu s' f n)) Q) :
    Fs s t f (MonadState.get >>= h) Q := fun n => hh s n n

theorem store_fs {ps : List Word} {v : Nat} {s t : State} {f : Fpu} {Q : Fpu → Prop} (h : store ps v s = .ok () t) (hQ : Q f) :
    Fs s t f (store ps v) Q := fun n => ⟨f, n, store_withFpu f n h, hQ⟩

/-- Storing an optional value. -/
theorem exists_storedIf (ps : List Word) (out : Option Nat) (s : State) :
    ∃ t, StoredIf ps out s t ∧ ∀ v, out = some v → store ps v s = .ok () t := by
  cases out with
  | none => exact ⟨s, rfl, nofun⟩
  | some v =>
    obtain ⟨t, ht, hst⟩ := store_stored ps v s
    exact ⟨t, hst, fun w hw => by cases hw; exact ht⟩

/-! ## The store -/

/-- What a store makes of the FPU, ES apart. -/
def StOpened (conv : Half → Ext → Narrow) (pops : Nat) (c : Bool) (f g : Fpu) : Prop :=
  if f.isEmpty 0 then Opened (ifMasked f.cw fun g => g.pops pops) (stackFlags false) f g
  else Opened (fun g => if (conv f.cw (f.st 0)).out.isSome then g.pops pops else g) (raisedBy c (conv f.cw (f.st 0))) f g

/-- What it stores. -/
def storeOut (conv : Half → Ext → Narrow) (indef : Nat) (f : Fpu) : Option Nat :=
  if f.isEmpty 0 then (if cwIm f.cw then some indef else none) else (conv f.cw (f.st 0)).out

theorem raisedBy_flagsOnly (c : Bool) (r : Narrow) : FlagsOnly (raisedBy c r) := fun _ _ => rfl

theorem Fs.ite {c : Prop} [Decidable c] {m m' : M Unit} {s t : State} {f : Fpu} {Q : Fpu → Prop} (ht : c → Fs s t f m Q) (he : ¬ c → Fs s t f m' Q) :
    Fs s t f (if c then m else m') Q := by
  split
  · exact ht ‹_›
  · exact he ‹_›

/-- A store and the pops behind it. -/
theorem storePop_fs {ps : List Word} {v pops : Nat} {s t : State} {f : Fpu} {Q : Fpu → Prop} (h : store ps v s = .ok () t) (hQ : Q (f.pops pops)) :
    Fs s t f (do store ps v; popSt pops) Q := (store_fs (Q := fun g => g = f) h rfl).thenFp_of fun _ hg => (popSt_does pops).fp (hg ▸ hQ)

/-- A stack underflow: the masked response is stored. -/
theorem stackFault_fs {ps : List Word} {indef pops : Nat} {s t : State} {f : Fpu} {Q : Fpu → Prop}
    (hst : cwIm f.cw = true → store ps indef s = .ok () t) (hno : cwIm f.cw = false → t = s)
    (hQ : Q (withSw (ifMasked f.cw (fun g => g.pops pops) f) (stackFlags false))) :
    Fs s t f (stackFault false do store ps indef; popSt pops) Q := by
  have hmask : ifMasked f.cw (fun g => g.pops pops) f = if cwIm f.cw then f.pops pops else f := rfl
  rw [hmask] at hQ
  refine Fp.thenFs <| modifySw_fp <| .get fun s' n => ?_
  show Fs s t _ (if cwIm f.cw then _ else _) Q
  cases hm : cwIm f.cw
  · rw [hm] at hQ
    rw [hno hm]
    exact (Fp.pure hQ).fs s
  · rw [hm, if_pos rfl] at hQ
    refine storePop_fs (hst hm) ?_
    have hcomm : (withSw f (stackFlags false)).pops pops = withSw (f.pops pops) (stackFlags false) :=
      pops_onStack pops f _ (stackFlags_flagsOnly false)
    rw [← hcomm] at hQ
    exact hQ

theorem storeMem_fs {plain : Bool} {conv : Half → Ext → Narrow} {indef pops : Nat} {ps : List Word} {s t : State} {f : Fpu}
    (hst : ∀ v, storeOut conv indef f = some v → store ps v s = .ok () t) (hno : storeOut conv indef f = none → t = s) :
    Fs s t f (storeMem plain conv indef pops ps) fun g => ∃ c, (plain = true → c = false) ∧ StOpened conv pops c f g := by
  rw [storeOut] at hst hno
  refine Fp.thenFs <| drawBool_fp fun c => .get fun s' n => .ite (fun hc => ?_) fun hc => ?_
  all_goals rw [withFpu_fpu] at hc
  · rw [if_pos hc] at hst hno
    refine (stackFault_fs (fun hm => hst _ (if_pos hm)) (fun hm => hno (by rw [hm]; rfl)) ?_).thenFp
    refine drawC023_fp fun c0 c2 c3 => ⟨false, fun _ => rfl, ?_⟩
    rw [StOpened, if_pos hc]
    exact ⟨c0, c2, c3, rfl⟩
  · rw [if_neg hc] at hst hno
    have hplain : plain = true → (c && !plain) = false := by
      rintro rfl
      exact Bool.and_false c
    refine Fp.thenFs <| modifySw_fp ?_
    show Fs s t (withSw f (raisedBy (c && !plain) (conv f.cw (f.st 0)))) _ _
    have hdone (g : Fpu) (hg : g = if (conv f.cw (f.st 0)).out.isSome then f.pops pops else f) :
        Fp (withSw g (raisedBy (c && !plain) (conv f.cw (f.st 0)))) drawC023 fun _ g => ∃ c, (plain = true → c = false) ∧ StOpened conv pops c f g := by
      refine drawC023_fp fun c0 c2 c3 => ⟨c && !plain, hplain, ?_⟩
      rw [StOpened, if_neg hc, hg]
      exact ⟨c0, c2, c3, rfl⟩
    cases hout : (conv f.cw (f.st 0)).out with
    | none =>
      rw [hno hout]
      simp only [withFpu_fpu, hout]
      exact (hdone f (by rw [hout]; rfl)).fs s
    | some v =>
      simp only [withFpu_fpu, hout]
      refine (store_fs (Q := fun g => g = _) (hst v hout) rfl).thenFp_of ?_
      rintro _ rfl
      have hcomm : (withSw f (raisedBy (c && !plain) (conv f.cw (f.st 0)))).pops pops = withSw (f.pops pops) (raisedBy (c && !plain) (conv f.cw (f.st 0))) :=
        pops_onStack pops f _ (raisedBy_flagsOnly _ _)
      refine .seq <| (popSt_does pops).fp ?_
      rw [hcomm]
      exact hdone _ (by rw [hout]; rfl)

theorem settled_of_stOpened {conv : Half → Ext → Narrow} {pops : Nat} {c : Bool} {f g : Fpu} (h : StOpened conv pops c f g) :
    if f.isEmpty 0 then Settled (ifMasked f.cw fun g => g.pops pops) (stackFlags false) f (summarised g)
    else Settled (fun g => if (conv f.cw (f.st 0)).out.isSome then g.pops pops else g) (raisedBy c (conv f.cw (f.st 0))) f (summarised g) := by
  rw [StOpened] at h
  split at h
  · next hc => rw [if_pos hc]; exact settled_of_opened h
  · next hc => rw [if_neg hc]; exact settled_of_opened h

/-- A store instruction whose body, draws apart, is `storeMem`. -/
theorem stDone_of_run {plain : Bool} {conv : Half → Ext → Narrow} {indef pops n al : Nat} {i : Instr} {m : MemOp} {s s1 : State} {ps : List Word}
    {body : List Word → M Unit} (hon : fpuOn s) (hi : exec i s = runInstr (escMem m n al .w body) s)
    (hacc : access s.as (s.eaSeg m) (s.eaOff m) n al .w (memStart m s) = .ok ps s1)
    (hbody : ∃ k, body ps s1 = storeMem plain conv indef pops ps { s1 with draws := k }) : StDone plain conv indef pops ps i s s1 := by
  obtain ⟨t, hstored, hstore⟩ := exists_storedIf ps (storeOut conv indef s1.fpu) s1
  obtain ⟨k, hbody⟩ := hbody
  obtain ⟨g, d, hrun, c, hplain, hg⟩ := storeMem_fs (plain := plain) (pops := pops) hstore
    (fun hnone => by rw [hnone] at hstored; exact hstored) k
  refine ⟨t, _, d, c, ran_mem hon hi hacc (hbody.trans hrun), hplain, ?_⟩
  have hsettled := settled_of_stOpened hg
  rw [storeOut] at hstored
  split at hsettled
  · next hc =>
    rw [if_pos hc] at hstored ⊢
    exact ⟨hstored, hsettled⟩
  · next hc =>
    rw [if_neg hc] at hstored ⊢
    exact ⟨hstored, hsettled⟩

theorem takesDenormal_eq (conv : Half → Ext → Narrow) : takesDenormal conv = denormalFirst conv := by
  funext cw x
  rw [takesDenormal, denormalFirst]
  simp only [Ext.isDen, beq_iff_eq]
  rfl

theorem storeForms_runs (m : MemOp) (s : State) : ∀ l ∈ storeForms m, exec l.1 s =
    runInstr (escMem m l.2.1 l.2.2.1 .w (storeMem false l.2.2.2.1 l.2.2.2.2.1 l.2.2.2.2.2)) s := by
  simp only [storeForms, List.forall_mem_cons, List.not_mem_nil, false_implies, implies_true, and_true, ← takesDenormal_eq]
  exact ⟨rfl, rfl, rfl, rfl, rfl, rfl, rfl, rfl, rfl⟩

/-- FST and FSTP to a register (R1103, R1104). -/
theorem storeReg_fp (i : BitVec 3) (pops : Nat) (f : Fpu) : Fp f (storeReg i pops) fun _ g => ∃ c1,
    if f.isEmpty 0 then Opened (ifMasked f.cw fun g => (g.setSt i Ext.indefinite).pops pops) (stackFlags false) f g
    else Opened (fun g => (g.setSt i (g.st 0)).pops pops) (fun w => { w with c1 := c1 }) f g := by
  have hdoes (v : Ext) : Does (do setSt i v; popSt pops) fun g => (g.setSt i v).pops pops := (setSt_does i v).seq (popSt_does pops)
  have hstack (v : Ext) : OnStack fun g => (g.setSt i v).pops pops := (pops_onStack pops).comp (setSt_onStack i v)
  refine .seq <| drawBool_fp fun c => .get fun s n => .ite (fun hc => ?_) fun hc => ?_
  all_goals rw [withFpu_fpu] at hc
  · refine .seq <| stackFault_fp (hdoes _) (hstack _) <| drawC023_fp fun c0 c2 c3 => ⟨c, ?_⟩
    rw [if_pos hc]
    exact ⟨c0, c2, c3, rfl⟩
  · refine .seq <| (setSt_does i _).fp <| .seq <| (popSt_does pops).fp <| .seq <| modifySw_fp <| drawC023_fp fun c0 c2 c3 => ⟨c, ?_⟩
    rw [if_neg hc]
    exact ⟨c0, c2, c3, rfl⟩

/-- The sign byte does not reach the digits. -/
theorem digit_above {k : Nat} (hk : k < 18) (b n : Nat) : (b * 2 ^ 79 + n) / 16 ^ k % 16 = n / 16 ^ k % 16 := by
  have hpow : b * 2 ^ 79 = 16 ^ k * (16 * (b * (2 ^ 7 * 16 ^ (17 - k)))) := by
    have h17 : 16 ^ k * 16 ^ (17 - k) = 16 ^ 17 := by rw [← Nat.pow_add]; congr 1; omega
    calc b * 2 ^ 79 = 16 * (b * (2 ^ 7 * 16 ^ 17)) := by ring
      _ = 16 * (b * (2 ^ 7 * (16 ^ k * 16 ^ (17 - k)))) := by rw [h17]
      _ = _ := by ring
  rw [hpow, Nat.mul_add_div (Nat.pow_pos (by decide)), Nat.mul_add_mod]

/-- The last clause of O41. -/
theorem conversions (cw : Half) {x : Ext} (hx : finiteCls x) :
    let misfit (r : Narrow) (out : Nat) : Prop := r.ie = true ∧ r.out = if cw.getLsbD 0 then some out else none
    let fits (w : ℤ) (r : Narrow) : Prop := r.ie = false ∧ (r.pe = true ↔ (w : ℝ) ≠ realOf x) ∧ (r.pe = true → (r.c1 = true ↔ |realOf x| < |(w : ℝ)|))
    (Ext.cls x ≠ .zero → StoresReal 8 23 cw x (toSingle cw x) ∧ StoresReal 11 52 cw x (toDouble cw x)) ∧
    (∀ n, n = 16 ∨ n = 32 ∨ n = 64 → ∃ w : ℤ, RoundedAt (cwRc cw) 1 (realOf x) w ∧
      let r := toInteger n cw x
      if -(2 ^ (n - 1)) ≤ w ∧ w < 2 ^ (n - 1) then fits w r ∧ r.out = some (BitVec.ofInt n w).toNat else misfit r (2 ^ (n - 1))) ∧
    ∀ free : BitVec 64, ∃ w : ℤ, RoundedAt (cwRc cw) 1 (realOf x) w ∧
      let r := toDecimal free cw x
      if w.natAbs < 10 ^ 18 then fits w r ∧ ∃ n, r.out = some n ∧ n / 2 ^ 72 = (if Ext.neg x then 128 else 0) ∧
          ∀ k, k < 18 → n / 16 ^ k % 16 = w.natAbs / 10 ^ k % 10
      else misfit r (0xFFFF * 2 ^ 64 + free.toNat) := by
  refine ⟨fun hne => ?_, fun n hn => ?_, fun free => ?_⟩
  · have hcls : Ext.cls x = .denormal ∨ Ext.cls x = .normal := hx.resolve_left hne
    exact ⟨narrow_stores inMemory_single hcls, narrow_stores inMemory_double hcls⟩
  · obtain ⟨w, hrounded, hfit, hunfit⟩ := toInteger_stores (n := n) (by omega) cw hx
    refine ⟨w, hrounded, ?_⟩
    dsimp only
    split
    · next h =>
      obtain ⟨hie, hpe, hc1, hout⟩ := hfit h
      exact ⟨⟨hie, hpe, hc1⟩, hout⟩
    · next h => exact hunfit h
  · obtain ⟨w, hrounded, hfit, hunfit⟩ := toDecimal_stores free cw hx
    refine ⟨w, hrounded, ?_⟩
    dsimp only
    split
    · next h =>
      obtain ⟨hie, hpe, hc1, hout⟩ := hfit h
      have hdigits := toDigits_lt 18 w.natAbs
      refine ⟨⟨hie, hpe, hc1⟩, _, hout, ?_, fun k hk => ?_⟩
      · cases Ext.neg x <;> simp only [Bool.toNat_true, Bool.toNat_false, Bool.false_eq_true, if_true, if_false] <;> omega
      · exact (digit_above hk _ _).trans (digit_toDigits hk _)
    · next h => exact hunfit h

/-- Settles O41: the instructions by `storeMem_fs`, the conversions by `conversions`. -/
theorem floatStore : Obligations.FloatStore := by
  unfold Obligations.FloatStore
  refine ⟨fun m s l hl ps s1 hon hacc => ?_, fun m s ps s1 hon hacc => ?_, fun m s ps s1 hon hacc => ?_, fun i s hon p hp => ?_,
    fun cw x hx => conversions cw hx⟩
  · exact stDone_of_run hon (storeForms_runs m s l hl) hacc ⟨s1.draws, rfl⟩
  · exact stDone_of_run hon (show exec (.fstpM80 m) s = _ from rfl) hacc ⟨s1.draws, rfl⟩
  · refine ⟨Config.draw 64 s1.draws, stDone_of_run hon (show exec (.fbstpM80 m) s = runInstr (escMem m 10 8 .w fbstp) s from rfl) hacc ⟨s1.draws + 1, ?_⟩⟩
    rw [← takesDenormal_eq]
    rfl
  · have hi : exec p.1 s = runInstr (escReg (storeReg i p.2)) s := by
      revert p
      simp only [List.forall_mem_cons, List.not_mem_nil, false_implies, implies_true, and_true]
      exact ⟨rfl, rfl⟩
    obtain ⟨fds, fdp, g, n, hran, c1, hg⟩ := ran_reg hon hi (storeReg_fp i p.2)
    refine ⟨fds, fdp, _, n, c1, hran, ?_⟩
    dsimp only
    split at hg
    · next hc => rw [if_pos hc]; exact settled_of_opened hg
    · next hc => rw [if_neg hc]; exact settled_of_opened hg

end Sys2Proof.Laws

end
end

section
/-! The results of square root, rounding to an integer, scaling and the partial remainder (48_fpu_instructions.md R1130 to R1135). -/

noncomputable section

namespace Sys2Proof.Laws

open Sys2Proof Sys2Proof.Machine Sys2Proof.Claims

/-! ## Square root -/

/-- The root is found bit by bit: from `r` on, with `r^2 ≤ n < (r + 2^b)^2`. -/
theorem isqrt_spec {n : Nat} (b r : Nat) (hlow : r * r ≤ n) (hhigh : n < (r + 2 ^ b) * (r + 2 ^ b)) :
    isqrt n b r * isqrt n b r ≤ n ∧ n < (isqrt n b r + 1) * (isqrt n b r + 1) := by
  induction b generalizing r with
  | zero => exact ⟨hlow, hhigh⟩
  | succ b ih =>
    rw [isqrt]
    split
    · next hle => exact ih _ hle (by rw [Nat.add_assoc, ← Nat.two_mul, ← Nat.pow_succ']; exact hhigh)
    · next hgt => exact ih _ hlow (Nat.not_le.mp hgt)

/-- A root to more than 66 bits, with what is left (R1130). -/
theorem stands_sqrtDy {x : Ext} (hx : (Ext.sig x).toNat ≠ 0) (hpos : 0 < realOf x) : Stands (sqrtDy (Ext.dy x)) (√(realOf x)) ∧
    64 < bitLen (sqrtDy (Ext.dy x)).sig := by
  obtain ⟨k, j, hk, hkle, hj⟩ : ∃ (k : Nat) (j : ℤ), k = (if (Ext.dy x).exp % 2 = 0 then 140 else 141) ∧ (140 ≤ k ∧ k ≤ 141) ∧
      (Ext.dy x).exp - k = 2 * j := by
    by_cases h : (Ext.dy x).exp % 2 = 0
    · exact ⟨140, ((Ext.dy x).exp - 140) / 2, by rw [if_pos h], by omega, by push_cast; omega⟩
    · exact ⟨141, ((Ext.dy x).exp - 141) / 2, by rw [if_neg h], by omega, by push_cast; omega⟩
  have hsig : (Ext.dy x).sig = (Ext.sig x).toNat := rfl
  have hlt := sig_lt x
  have hdy : sqrtDy (Ext.dy x) =
    { neg := false, sig := isqrt ((Ext.dy x).sig * 2 ^ k) 104 0, exp := j,
      sticky := (isqrt ((Ext.dy x).sig * 2 ^ k) 104 0 * isqrt ((Ext.dy x).sig * 2 ^ k) 104 0 != (Ext.dy x).sig * 2 ^ k) } := by
    rw [sqrtDy]
    simp only [← hk, Nat.shiftLeft_eq]
    congr 1
    omega
  have hmag : realOf x = ((Ext.dy x).sig * 2 ^ k : Nat) * (2 : ℝ) ^ j * (2 : ℝ) ^ j := by
    rw [← abs_of_pos hpos, abs_realOf_dy, show (Ext.dy x).exp = k + (j + j) by omega, zpow_split, zpow_split, zpow_natCast]
    push_cast
    ring
  have hn : (Ext.dy x).sig * 2 ^ k < (0 + 2 ^ 104) * (0 + 2 ^ 104) := by
    have h141 : 2 ^ k ≤ 2 ^ 141 := Nat.pow_le_pow_right (by decide) hkle.2
    rw [hsig]
    nlinarith
  obtain ⟨hlow, hhigh⟩ := isqrt_spec 104 0 (Nat.zero_le _) hn
  have hlong : 2 ^ 64 ≤ isqrt ((Ext.dy x).sig * 2 ^ k) 104 0 := by
    by_contra hsmall
    have h140 : 2 ^ 140 ≤ 2 ^ k := Nat.pow_le_pow_right (by decide) hkle.1
    have h1 : 1 ≤ (Ext.dy x).sig := Nat.pos_of_ne_zero hx
    nlinarith
  have hunit : (0 : ℝ) < 2 ^ j := by positivity
  rw [hdy]
  generalize (Ext.dy x).sig * 2 ^ k = n at *
  generalize isqrt n 104 0 = r at *
  have hroot : √(realOf x) = √n * 2 ^ j := by
    rw [hmag, mul_assoc, Real.sqrt_mul (Nat.cast_nonneg n), Real.sqrt_mul_self hunit.le]
  have habs : |√(realOf x)| = √n * 2 ^ j := by rw [abs_of_nonneg (Real.sqrt_nonneg _), hroot]
  have hr : (r : ℝ) ≤ √n := Real.le_sqrt_of_sq_le (by rw [sq]; exact_mod_cast hlow)
  have hr1 : √n < r + 1 := (Real.sqrt_lt' (by positivity)).mpr (by rw [sq]; exact_mod_cast hhigh)
  refine ⟨⟨?_, fun hs => ?_, fun hs => ?_, fun _ => ?_⟩, lt_bitLen hlong⟩
  · exact iff_of_false Bool.false_ne_true (not_lt.mpr (Real.sqrt_nonneg _))
  all_goals rw [habs]
  · have heq : r * r = n := by simpa using hs
    have : √(n : ℝ) = r := by rw [← heq, Nat.cast_mul, Real.sqrt_mul_self (Nat.cast_nonneg r)]
    rw [this]
  · have hne : r * r ≠ n := by simpa using hs
    refine mul_lt_mul_of_pos_right (lt_of_le_of_ne hr fun h => hne ?_) hunit
    have : (r : ℝ) * r = n := by rw [h, Real.mul_self_sqrt (Nat.cast_nonneg n)]
    exact_mod_cast this
  · exact mul_lt_mul_of_pos_right hr1 hunit

/-- The result of FSQRT, denormal operands apart. -/
def sqrtResult (f : Fmt) (cw : Half) (x : Ext) : Machine.Num :=
  match Ext.cls x, Ext.neg x with
  | .zero, _ => Machine.Num.exact x
  | _, true => Machine.Num.invalid cw Ext.indefinite
  | .inf, _ => Machine.Num.exact x
  | _, _ => Machine.Num.round f cw false (sqrtDy (Ext.dy x))

section
variable {f : Fmt} {cw : Half} {x : Ext} (hx : finiteCls x)
include hx

theorem sqrtExt_finite : sqrtExt f cw x = (sqrtResult f cw x).denormal cw (Ext.isDen x) := by
  rw [sqrtExt, nanCase1_finite cw hx]
  rfl

theorem sqrtResult_pos (hpos : 0 < realOf x) : sqrtResult f cw x = Machine.Num.round f cw false (sqrtDy (Ext.dy x)) := by
  have hneg : Ext.neg x = false := by
    rw [← Bool.not_eq_true, realOf_neg_iff (sig_ne_zero hpos.ne')]
    exact not_lt.mpr hpos.le
  have hne : Ext.cls x ≠ .zero := fun h => hpos.ne' (realOf_of_zero h)
  rcases hx with h | h | h
  · exact absurd h hne
  all_goals rw [sqrtResult, h, hneg]

theorem sqrtResult_neg (hlt : realOf x < 0) : sqrtResult f cw x = Machine.Num.invalid cw Ext.indefinite := by
  have hneg : Ext.neg x = true := (realOf_neg_iff (sig_ne_zero hlt.ne)).mpr hlt
  have hne : Ext.cls x ≠ .zero := fun h => hlt.ne (realOf_of_zero h)
  rcases hx with h | h | h
  · exact absurd h hne
  all_goals rw [sqrtResult, h, hneg]

end

end Sys2Proof.Laws

end
end

section
/-! Results that are exact, rounding to an integer, and scaling (48_fpu_instructions.md R1131, R1135). -/

noncomputable section

namespace Sys2Proof.Laws

open Sys2Proof Sys2Proof.Machine Sys2Proof.Claims

/-! ## Exact results -/

/-- A multiple of the unit stays. -/
theorem roundedAt_multiple {rc : BitVec 2} {u e v : ℝ} (h : RoundedAt rc u e v) (hu : 0 < u) {j : ℤ} (he : e = j * u) : v = e := by
  obtain ⟨m, hm, hclose, -⟩ := h
  rw [hm, he, ← sub_mul, abs_mul, abs_of_pos hu] at hclose
  have hlt : |((m - j : ℤ) : ℝ)| < 1 := by
    push_cast
    exact (mul_lt_iff_lt_one_left hu).mp hclose
  have hzero : m - j = 0 := by
    rw [← Int.cast_abs] at hlt
    exact Int.abs_lt_one_iff.mp (by exact_mod_cast hlt)
  rw [hm, he, show m = j by omega]

/-- A value of at most 64 bits. -/
structure Fits64 (e : ℝ) (s : Nat) (k : ℤ) : Prop where
  abs_eq : |e| = s * (2 : ℝ) ^ k
  lt : s < 2 ^ 64

theorem Fits64.multiple {e : ℝ} {s : Nat} {k l : ℤ} (h : Fits64 e s k) (hl : l ≤ k) : ∃ j : ℤ, e = j * (2 : ℝ) ^ l := by
  obtain ⟨i, hi⟩ : ∃ i : Nat, k = l + i := ⟨(k - l).toNat, by omega⟩
  have habs : |e| = ((s * 2 ^ i : Nat) : ℤ) * (2 : ℝ) ^ l := by
    rw [h.abs_eq, hi, zpow_split, zpow_natCast]
    push_cast
    ring
  rcases abs_choice e with hc | hc
  · exact ⟨_, hc ▸ habs⟩
  · refine ⟨-((s * 2 ^ i : Nat) : ℤ), ?_⟩
    rw [Int.cast_neg, neg_mul, ← habs, hc, neg_neg]

/-- A result that a register holds exactly. -/
structure ExactResult (n : Machine.Num) (e : ℝ) (neg : Bool) : Prop where
  pe_eq : n.pe = false
  finite : ∀ z, n.res = some z → finiteCls z
  res : ∃ z, n.res = some z ∧ realOf z = e ∧ Ext.neg z = neg

theorem stands_signed {neg : Bool} {m : Nat} (hm : m ≠ 0) (k : ℤ) :
    Stands { neg := neg, sig := m, exp := k, sticky := false } (sign neg * (m * (2 : ℝ) ^ k)) := by
  have hpos : 0 < (m : ℝ) * (2 : ℝ) ^ k := mul_pos (Nat.cast_pos.mpr (Nat.pos_of_ne_zero hm)) (by positivity)
  refine ⟨?_, fun _ => ?_, nofun, nofun⟩
  · cases neg
    · exact iff_of_false Bool.false_ne_true (not_lt.mpr (by rw [sign, if_neg Bool.false_ne_true, one_mul]; exact hpos.le))
    · exact iff_of_true rfl (by rw [sign, if_pos rfl]; linarith)
  · rw [abs_sign_mul, abs_of_pos hpos]

theorem round_exact {cw : Half} {d : Dy} {e : ℝ} {zneg : Bool} {s : Nat} {k : ℤ} (h : Stands d e) (hs : d.sticky = false) (hd : d.sig ≠ 0)
    (hfit : Fits64 e s k) (hbig : |e| < (2 : ℝ) ^ (16384 : ℤ)) (hsmall : (2 : ℝ) ^ (-16382 : ℤ) ≤ |e| ∨ (cwUm cw = true ∧ -16445 ≤ k)) :
    ExactResult (Machine.Num.round .ext cw zneg d) e d.neg := by
  have hne := h.ne_zero hd
  obtain ⟨v, hto, hnormal, -, -, htiny, -⟩ : Delivers 64 cw e (Machine.Num.round .ext cw zneg d) :=
    round_delivers inRegister_ext h hd fun hst => by rw [hs] at hst; cases hst
  have hlog : Int.log 2 |e| - 64 + 1 ≤ k := by
    have hlt : |e| < ((2 : ℕ) : ℝ) ^ (k + 64) := by
      rw [hfit.abs_eq, Nat.cast_ofNat, add_comm, zpow_split]
      refine mul_lt_mul_of_pos_right ?_ (by positivity)
      have : (s : ℝ) < ((2 ^ 64 : Nat) : ℝ) := Nat.cast_lt.mpr hfit.lt
      rw [show (64 : ℤ) = ((64 : Nat) : ℤ) from rfl, zpow_natCast]
      exact_mod_cast this
    have := (Int.lt_zpow_iff_log_lt one_lt_two (abs_pos.mpr hne)).mp hlt
    omega
  have hv : v = e := by
    obtain ⟨j, hj⟩ := hfit.multiple hlog
    exact roundedAt_multiple hto (by positivity) hj
  have hneg {z : Ext} (hz : Ext.neg z = true ↔ e < 0) : Ext.neg z = d.neg := by rw [Bool.eq_iff_iff, hz, h.neg_iff]
  have hgives {ue : Bool} {w : ℝ} (hw : w = e) (hg : Gives (Machine.Num.round .ext cw zneg d) w e w false ue) :
      ExactResult (Machine.Num.round .ext cw zneg d) e d.neg := by
    obtain ⟨-, -, hpe, -, z, hres, hfin, hval, hz⟩ := hg
    refine ⟨by rw [← Bool.not_eq_true, hpe]; exact fun hn => hn hw, fun z' hz' => ?_, z, hres, hval.trans hw, hneg hz⟩
    rwa [← Option.some.inj (hres.symm.trans hz')]
  by_cases hlow : (2 : ℝ) ^ (-16382 : ℤ) ≤ |e|
  · exact hgives hv (hnormal hlow (hv ▸ hbig))
  · obtain ⟨hm, hk⟩ := hsmall.resolve_left hlow
    obtain ⟨w, hw, hg, -⟩ := htiny (not_le.mp hlow) hm
    obtain ⟨j, hj⟩ := hfit.multiple hk
    exact hgives (roundedAt_multiple hw (by positivity) hj) hg

/-- Where an exact zero gets the sign `neg`. -/
theorem round_exact_zero {cw : Half} {d : Dy} {neg : Bool} (hs : d.sticky = false) (hd : d.sig = 0) :
    ExactResult (Machine.Num.round .ext cw neg d) 0 neg := by
  have hround : Machine.Num.round .ext cw neg d = Machine.Num.exact (Ext.zero neg) := by
    rw [Machine.Num.round, hd, hs]
    rfl
  rw [hround]
  exact ⟨rfl, fun z hz => Option.some.inj hz ▸ .inl (cls_zero neg), _, rfl, realOf_of_zero (cls_zero neg), neg_mk _ _ _⟩

/-! ## Bounds -/

section
variable {x : Ext}

theorem be_lt_of_finite (hx : finiteCls x) : Ext.be x < 0x7FFF := by
  have := be_lt x
  rcases (finiteCls_iff x).mp hx with h | h <;> omega

theorem abs_realOf_lt (hx : finiteCls x) : |realOf x| < (2 : ℝ) ^ (16384 : ℤ) := by
  have hbe := be_lt_of_finite hx
  have hsig : ((Ext.sig x).toNat : ℝ) < ((2 ^ 64 : Nat) : ℝ) := Nat.cast_lt.mpr (sig_lt x)
  rw [abs_realOf]
  calc _ < ((2 ^ 64 : Nat) : ℝ) * (2 : ℝ) ^ ((max (Ext.be x) 1 : Nat) - 16446 : ℤ) := mul_lt_mul_of_pos_right hsig (by positivity)
    _ = (2 : ℝ) ^ (64 + ((max (Ext.be x) 1 : Nat) - 16446 : ℤ)) := by rw [zpow_split]; norm_cast
    _ ≤ _ := zpow_le_zpow_right₀ one_le_two (by omega)

theorem dy_exp_ge (x : Ext) : -16445 ≤ (Ext.dy x).exp := by
  show -16445 ≤ ((max (Ext.be x) 1 : Nat) - 16446 : ℤ)
  omega

end

/-! ## FRNDINT -/

/-- The integer that a value is rounded to fits a register. -/
theorem roundInt_fits64 (rc : BitVec 2) {x : Ext} (hx : finiteCls x) :
    (∃ s k, Fits64 (signedInt (Ext.neg x) (roundInt rc (Ext.dy x)).sig) s k) ∧
    |(signedInt (Ext.neg x) (roundInt rc (Ext.dy x)).sig : ℝ)| < (2 : ℝ) ^ (16384 : ℤ) := by
  have hlt := sig_lt x
  have hsig : (Ext.dy x).sig = (Ext.sig x).toNat := rfl
  have habs : |(signedInt (Ext.neg x) (roundInt rc (Ext.dy x)).sig : ℝ)| = (roundInt rc (Ext.dy x)).sig := by
    rw [signedInt_cast, abs_sign_mul, Nat.abs_cast]
  by_cases hexp : (Ext.dy x).exp < 0
  · have hle : (roundInt rc (Ext.dy x)).sig ≤ 2 ^ 63 := by
      obtain ⟨k, hk⟩ : ∃ k, (-(Ext.dy x).exp).toNat = k + 1 := ⟨(-(Ext.dy x).exp).toNat - 1, by omega⟩
      have hrounds := (roundShift_roundsBy rc (Ext.dy x).neg (Ext.dy x).sig (k + 1) (sticky := (Ext.dy x).sticky) fun _ => Nat.succ_pos k).sig_eq
      have hhalf : (Ext.dy x).sig / 2 ^ (k + 1) < 2 ^ 63 := by
        rw [Nat.pow_succ', ← Nat.div_div_eq_div_mul]
        exact lt_of_le_of_lt (Nat.div_le_self _ _) (by omega)
      rw [roundInt, if_pos hexp, hk, hrounds]
      have := Bool.toNat_le (roundShift rc (Ext.dy x).neg (Ext.dy x).sig (k + 1) (Ext.dy x).sticky).up
      omega
    refine ⟨⟨_, 0, by rw [habs, zpow_zero, mul_one], by omega⟩, ?_⟩
    have hcast : ((roundInt rc (Ext.dy x)).sig : ℝ) ≤ ((2 ^ 63 : Nat) : ℝ) := Nat.cast_le.mpr hle
    rw [habs]
    refine hcast.trans_lt ?_
    rw [show (16384 : ℤ) = ((63 : Nat) : ℤ) + 16321 by norm_num, zpow_split, zpow_natCast, Nat.cast_pow, Nat.cast_ofNat]
    exact lt_mul_of_one_lt_right (by positivity) (one_lt_zpow₀ one_lt_two (by decide))
  · obtain ⟨k, hk⟩ : ∃ k : Nat, (Ext.dy x).exp = k := ⟨(Ext.dy x).exp.toNat, by omega⟩
    have hval : ((roundInt rc (Ext.dy x)).sig : ℝ) = |realOf x| := by
      rw [abs_realOf_dy, roundInt, if_neg hexp, hk, Int.toNat_natCast, Nat.shiftLeft_eq, zpow_natCast]
      push_cast
      rfl
    refine ⟨⟨(Ext.sig x).toNat, (Ext.dy x).exp, ?_, hlt⟩, ?_⟩
    · rw [habs, hval]
      exact abs_realOf_dy x
    · rw [habs, hval]
      exact abs_realOf_lt hx

/-- The result of FRNDINT for a finite operand, denormal operands apart. -/
def rndintResult (cw : Half) (x : Ext) : Machine.Num :=
  match Ext.cls x with
  | .zero => Machine.Num.exact x
  | .inf => Machine.Num.exact x
  | _ =>
    let r := roundInt (cwRc cw) (Ext.dy x)
    let v := Machine.Num.round .ext cw (Ext.neg x) { neg := Ext.neg x, sig := r.sig, exp := 0, sticky := false }
    { v with pe := r.inexact, c1 := r.up }

theorem rndintExt_finite {cw : Half} {x : Ext} (hx : finiteCls x) : rndintExt cw x = (rndintResult cw x).denormal cw (Ext.isDen x) := by
  rw [rndintExt, nanCase1_finite cw hx]
  rfl

theorem rndintResult_nonzero {cw : Half} {x : Ext} (hx : finiteCls x) (h0 : realOf x ≠ 0) : rndintResult cw x =
    { Machine.Num.round .ext cw (Ext.neg x) { neg := Ext.neg x, sig := (roundInt (cwRc cw) (Ext.dy x)).sig, exp := 0, sticky := false } with
      pe := (roundInt (cwRc cw) (Ext.dy x)).inexact, c1 := (roundInt (cwRc cw) (Ext.dy x)).up } := by
  rcases hx with h | h | h
  · exact absurd (realOf_of_zero h) h0
  all_goals rw [rndintResult, h]

/-- What FRNDINT delivers for the number `e` (R1135). -/
structure RoundsToInt (cw : Half) (e : ℝ) (neg : Bool) (v : ℝ) (n : Machine.Num) : Prop where
  rounded : RoundedAt (cwRc cw) 1 e v
  pe_iff : n.pe = true ↔ v ≠ e
  c1_iff : n.pe = true → (n.c1 = true ↔ |e| < |v|)
  res : ∃ z, n.res = some z ∧ realOf z = v ∧ Ext.neg z = neg

theorem rndintResult_rounds {cw : Half} {x : Ext} (hx : finiteCls x) : ∃ v, RoundsToInt cw (realOf x) (Ext.neg x) v (rndintResult cw x) := by
  by_cases h0 : realOf x = 0
  · have hres : rndintResult cw x = Machine.Num.exact x := by rw [rndintResult, (cls_zero_iff_realOf hx).mpr h0]
    rw [hres, h0]
    exact ⟨0, roundedAt_zero _ one_pos, iff_of_false Bool.false_ne_true (not_not.mpr rfl), nofun, x, rfl, h0, rfl⟩
  · obtain ⟨hrounded, hin, hup⟩ := roundInt_roundsInt (cwRc cw) (stands_dy (sig_ne_zero h0)) rfl
    rw [rndintResult_nonzero hx h0]
    refine ⟨_, hrounded, hin, fun _ => hup, ?_⟩
    obtain ⟨⟨s, k, hfit⟩, hbig⟩ := roundInt_fits64 (cwRc cw) hx
    show ∃ z, (Machine.Num.round _ _ _ _).res = _ ∧ realOf z = (signedInt (Ext.neg x) (roundInt (cwRc cw) (Ext.dy x)).sig : ℝ) ∧ _
    have hcast : (signedInt (Ext.neg x) (roundInt (cwRc cw) (Ext.dy x)).sig : ℝ) = sign (Ext.neg x) * (roundInt (cwRc cw) (Ext.dy x)).sig :=
      signedInt_cast _ _
    generalize (roundInt (cwRc cw) (Ext.dy x)).sig = m at *
    by_cases hm : m = 0
    · subst hm
      rw [hcast, Nat.cast_zero, mul_zero]
      exact (round_exact_zero rfl rfl).res
    · have hpos : 0 < (m : ℝ) := Nat.cast_pos.mpr (Nat.pos_of_ne_zero hm)
      have hstands : Stands { neg := Ext.neg x, sig := m, exp := 0, sticky := false } (signedInt (Ext.neg x) m : ℝ) := by
        have := stands_signed (neg := Ext.neg x) hm 0
        rwa [zpow_zero, mul_one, ← signedInt_cast] at this
      refine (round_exact hstands rfl hm hfit hbig (Or.inl ?_)).res
      have hone : (1 : ℝ) ≤ m := Nat.one_le_cast.mpr (Nat.pos_of_ne_zero hm)
      rw [hcast, abs_sign_mul, Nat.abs_cast]
      exact (zpow_le_one_of_nonpos₀ one_le_two (by decide)).trans hone

/-- An unmasked denormal operand apart, the denormal exception changes neither the result nor PE nor C1. -/
theorem RoundsToInt.denormal {cw : Half} {e v : ℝ} {neg den : Bool} {n : Machine.Num} (h : RoundsToInt cw e neg v n)
    (hm : den = true → cwDm cw = true) : RoundsToInt cw e neg v (n.denormal cw den) := by
  obtain ⟨hrounded, hpe, hc1, z, hres, hz⟩ := h
  rw [denormal_masked (by rw [hres]; rfl) hm]
  exact ⟨hrounded, hpe, hc1, z, hres, hz⟩

end Sys2Proof.Laws

end
end

section
/-! The result of scaling (48_fpu_instructions.md R1131). -/

noncomputable section

namespace Sys2Proof.Laws

open Sys2Proof Sys2Proof.Machine Sys2Proof.Claims

/-- Towards zero. -/
def truncZ (b : ℝ) : ℤ := if 0 ≤ b then ⌊b⌋ else ⌈b⌉

theorem eq_truncZ {b : ℝ} {v : ℤ} (hclose : |v - b| < 1) (hle : |(v : ℝ)| ≤ |b|) (hpos : 0 ≤ b → 0 ≤ v) (hneg : b < 0 → v ≤ 0) : v = truncZ b := by
  obtain ⟨hlow, hhigh⟩ := abs_lt.mp hclose
  rw [truncZ]
  split
  · next hb =>
    have hv : (0 : ℝ) ≤ v := by exact_mod_cast hpos hb
    rw [abs_of_nonneg hv, abs_of_nonneg hb] at hle
    exact (Int.floor_eq_iff.mpr ⟨hle, by linarith⟩).symm
  · next hb =>
    have hb := not_le.mp hb
    have hv : (v : ℝ) ≤ 0 := by exact_mod_cast hneg hb
    rw [abs_of_nonpos hv, abs_of_neg hb] at hle
    exact (Int.ceil_eq_iff.mpr ⟨by linarith, by linarith⟩).symm

theorem roundInt_zero (rc : BitVec 2) {d : Dy} (hd : d.sig = 0) (hs : d.sticky = false) : (roundInt rc d).sig = 0 := by
  rw [roundInt, hd, hs]
  split
  · simp [roundShift]
  · simp

/-- The scale is chopped (R1131). -/
theorem signedInt_chop (y : Ext) : signedInt (Ext.neg y) (roundInt 3 (Ext.dy y)).sig = truncZ (realOf y) := by
  by_cases hsig : (Ext.sig y).toNat = 0
  · rw [roundInt_zero 3 (show (Ext.dy y).sig = 0 from hsig) rfl, (realOf_eq_zero_iff y).mpr hsig, truncZ, if_pos le_rfl, Int.floor_zero]
    cases Ext.neg y <;> rfl
  · obtain ⟨⟨m, hm, hclose, -, -, -, hchop⟩, -, -⟩ := roundInt_roundsInt 3 (stands_dy hsig) rfl
    have hneg := realOf_neg_iff hsig
    refine eq_truncZ hclose (hchop rfl) (fun hb => ?_) fun hb => ?_
    · rw [Bool.eq_false_iff.mpr fun h => absurd (hneg.mp h) (not_lt.mpr hb)]
      exact Int.natCast_nonneg _
    · rw [hneg.mpr hb]
      exact Int.neg_nonpos_of_nonneg (Int.natCast_nonneg _)

/-- A value times `2^w`. -/
def shiftedDy (d : Dy) (w : ℤ) : Dy := { d with exp := d.exp + w }

theorem Stands.shift {d : Dy} {e : ℝ} (h : Stands d e) (hs : d.sticky = false) (w : ℤ) : Stands (shiftedDy d w) (e * 2 ^ w) := by
  have hw : (0 : ℝ) < 2 ^ w := by positivity
  refine ⟨h.neg_iff.trans (mul_pos_neg_iff hw).symm, fun _ => ?_, fun hst => ?_, fun hst => ?_⟩
  · rw [abs_mul, abs_of_pos hw, h.exact hs, mul_assoc, ← zpow_split]
    rfl
  all_goals
    have : d.sticky = true := hst
    rw [hs] at this
    cases this

/-! ## A result that is out of range twice over -/

/-- A result that is beyond the moved exponent is none of those that `Delivers` speaks of: PE and C1 are free. -/
theorem delivers_beyond {p : Nat} {cw : Half} {e : ℝ} {n : Machine.Num} {pe c1 : Bool} (h : Delivers p cw e n) (hb : n.beyond cw = true) :
    Delivers p cw e { n with pe := pe, c1 := c1 } := by
  obtain ⟨v, hto, hnormal, hmasked, hover, htiny, hunder⟩ := h
  obtain ⟨hflag, hres⟩ := Bool.and_eq_true_iff.mp hb
  have hflags : (n.oe = true ∧ cwOm cw = false) ∨ (n.ue = true ∧ cwUm cw = false) := by simpa using hflag
  have hfinite {val w : ℝ} {oe ue : Bool} (hg : Gives n val e w oe ue) (hval : val ≠ 0) : False := by
    obtain ⟨-, -, -, -, z, hz, hfin, hreal, -⟩ := hg
    rw [hz, Option.any_some] at hres
    rcases hfin with hc | hc | hc
    · exact hval (hreal ▸ realOf_of_zero hc)
    all_goals
      rw [hc] at hres
      cases hres
  refine ⟨v, hto, fun h1 h2 => ?_, fun h1 hm => ?_, fun h1 h2 hm => ?_, fun h1 hm => ?_, fun h1 h2 hm => ?_⟩
  · obtain ⟨hoe, hue, -⟩ := hnormal h1 h2
    rw [hoe, hue] at hflags
    simp at hflags
  · obtain ⟨-, hue, -⟩ := hmasked h1 hm
    have hm : cwOm cw = true := hm
    rw [hue, hm] at hflags
    simp at hflags
  · have hv : v ≠ 0 := abs_pos.mp (lt_of_lt_of_le (by positivity) h1)
    exact (hfinite (hover h1 h2 hm) (div_ne_zero hv (pow_ne_zero _ two_ne_zero))).elim
  · obtain ⟨w, -, ⟨hoe, -⟩, -⟩ := htiny h1 hm
    have hm : cwUm cw = true := hm
    rw [hoe, hm] at hflags
    simp at hflags
  · have hv : v ≠ 0 := abs_pos.mp (lt_of_lt_of_le (by positivity) h2)
    exact (hfinite (hunder h1 h2 hm) (mul_ne_zero hv (pow_ne_zero _ two_ne_zero))).elim

/-! ## FSCALE -/

/-- The chopped scale, beyond 65536 without a difference. -/
def scaleOf (y : Ext) : ℤ := signedInt (Ext.neg y) (min (roundInt 3 (Ext.dy y)).sig 65536)

theorem scaleOf_eq {y : Ext} (hb : |realOf y| ≤ 65536) : scaleOf y = truncZ (realOf y) := by
  have hle : (roundInt 3 (Ext.dy y)).sig ≤ 65536 := by
    have hcast : ((truncZ (realOf y)).natAbs : ℝ) ≤ 65536 := by
      rw [Nat.cast_natAbs, Int.cast_abs, truncZ]
      obtain ⟨hlow, hhigh⟩ := abs_le.mp hb
      split
      · exact_mod_cast abs_le.mpr ⟨Int.le_floor.mpr (by push_cast; exact hlow), by exact_mod_cast (Int.floor_le _).trans hhigh⟩
      · exact_mod_cast abs_le.mpr ⟨by exact_mod_cast hlow.trans (Int.le_ceil _), Int.ceil_le.mpr (by push_cast; exact hhigh)⟩
    rw [← natAbs_signedInt (Ext.neg y) (roundInt 3 (Ext.dy y)).sig, signedInt_chop]
    exact_mod_cast hcast
  rw [scaleOf, min_eq_left hle, signedInt_chop]

/-- The result of FSCALE for finite operands, denormal operands apart. -/
def scaleResult (cw : Half) (pe up : Bool) (x y : Ext) : Machine.Num :=
  let r := Machine.Num.round .ext cw (Ext.neg x) (shiftedDy (Ext.dy x) (scaleOf y))
  if r.beyond cw then { r with pe := pe, c1 := pe && up } else r

section
variable {cw : Half} {tie pe up : Bool} {x y : Ext} (hx : finiteCls x) (hy : finiteCls y) (h0 : realOf x ≠ 0)
include hx hy h0

theorem scaleExt_finite : scaleExt cw tie pe up x y = (scaleResult cw pe up x y).denormal cw (Ext.isDen x || Ext.isDen y) := by
  rw [scaleExt, nanCase_finite cw tie hx hy]
  rcases hx with h | h | h
  · exact absurd (realOf_of_zero h) h0
  all_goals
    rcases hy with hc | hc | hc
    all_goals
      rw [h, hc]
      rfl

omit hx hy in
theorem scaleResult_delivers (hb : |realOf y| ≤ 65536) :
    Delivers 64 cw (realOf x * 2 ^ truncZ (realOf y)) (scaleResult cw pe up x y) ∧ (scaleResult cw pe up x y).res.isSome = true := by
  have hsig := sig_ne_zero h0
  have hstands : Stands (shiftedDy (Ext.dy x) (scaleOf y)) (realOf x * 2 ^ truncZ (realOf y)) :=
    scaleOf_eq hb ▸ (stands_dy hsig).shift rfl (scaleOf y)
  have hround : Delivers 64 cw _ (Machine.Num.round .ext cw (Ext.neg x) (shiftedDy (Ext.dy x) (scaleOf y))) :=
    round_delivers inRegister_ext hstands hsig nofun
  have hsome : (Machine.Num.round .ext cw (Ext.neg x) (shiftedDy (Ext.dy x) (scaleOf y))).res.isSome = true := by
    rw [round_eq (d := shiftedDy (Ext.dy x) (scaleOf y)) hsig]
    rfl
  rw [scaleResult]
  split
  · next hbeyond => exact ⟨delivers_beyond hround hbeyond, hsome⟩
  · exact ⟨hround, hsome⟩

theorem scaleExt_delivers (hm : (Ext.isDen x || Ext.isDen y) = true → cwDm cw = true) (hb : |realOf y| ≤ 65536) :
    Delivers 64 cw (realOf x * 2 ^ truncZ (realOf y)) (scaleExt cw tie pe up x y) := by
  obtain ⟨hdelivers, hsome⟩ := scaleResult_delivers (cw := cw) (pe := pe) (up := up) h0 hb
  rw [scaleExt_finite hx hy h0, denormal_masked hsome hm]
  exact hdelivers

end

end Sys2Proof.Laws

end
end

section
/-! The partial remainder (48_fpu_instructions.md R1132, R1133). -/

noncomputable section

namespace Sys2Proof.Laws

open Sys2Proof Sys2Proof.Machine Sys2Proof.Claims

/-! ## Two numbers as multiples of one unit -/

/-- What a multiple `q` of the divisor leaves: a number with magnitude `s` units. -/
structure Leaves (x : Ext) (m n q : Nat) (neg : Bool) (s : Nat) : Prop where
  signed : sign neg * (s : ℝ) = sign (Ext.neg x) * (m - q * n)
  dist : |(q : ℝ) * n - m| = s

theorem leaves_of_rest {x : Ext} {m n q r : Nat} (h : n * q + r = m) : Leaves x m n q (Ext.neg x) r := by
  have hr : (m : ℝ) - q * n = r := by
    rw [← h]
    push_cast
    ring
  exact ⟨by rw [hr], by rw [← abs_neg, neg_sub, hr, Nat.abs_cast]⟩

theorem leaves_of_excess {x : Ext} {m n q s : Nat} (h : n * q = m + s) : Leaves x m n q (!Ext.neg x) s := by
  have hs : (q : ℝ) * n - m = s := by
    have : ((n * q : Nat) : ℝ) = ((m + s : Nat) : ℝ) := congrArg _ h
    push_cast at this
    linarith
  refine ⟨?_, by rw [hs, Nat.abs_cast]⟩
  rw [sign_not, ← hs]
  ring

section
variable {x y : Ext} {m n q s : Nat} {neg : Bool} {e : ℤ} (hx : |realOf x| = m * (2 : ℝ) ^ e) (hy : |realOf y| = n * (2 : ℝ) ^ e)
  (h : Leaves x m n q neg s)

/-- The quotient with its sign. -/
def signedQuotient (x y : Ext) (q : Nat) : ℤ := signedInt (Ext.neg x != Ext.neg y) q

include hx hy

include h in
theorem Leaves.value : sign neg * (s * (2 : ℝ) ^ e) = realOf x - signedQuotient x y q * realOf y := by
  rw [← mul_assoc, h.signed, signedQuotient, signedInt_cast, sign_xor, realOf_sign x, realOf_sign y, hx, hy]
  linear_combination (sign (Ext.neg x) * q * n * (2 : ℝ) ^ e) * (sign_mul_sign (Ext.neg y))

theorem ratio_eq (hn : n ≠ 0) : realOf x / realOf y = sign (Ext.neg x != Ext.neg y) * ((m : ℝ) / n) := by
  have hn0 : (n : ℝ) ≠ 0 := Nat.cast_ne_zero.mpr hn
  have he : (2 : ℝ) ^ e ≠ 0 := by positivity
  rw [realOf_sign x, realOf_sign y, hx, hy, sign_xor, div_eq_iff (mul_ne_zero (sign_ne_zero _) (mul_ne_zero hn0 he))]
  field_simp
  rw [sq, sign_mul_sign, mul_one]

include h in
/-- How far the quotient is from the exact one. -/
theorem Leaves.ratio_dist (hn : n ≠ 0) : |(signedQuotient x y q : ℝ) - realOf x / realOf y| = s / n := by
  have hn0 : (0 : ℝ) < n := Nat.cast_pos.mpr (Nat.pos_of_ne_zero hn)
  rw [ratio_eq hx hy hn, signedQuotient, signedInt_cast, ← mul_sub, abs_sign_mul, ← h.dist, eq_div_iff hn0.ne']
  nth_rewrite 2 [← abs_of_pos hn0]
  rw [← abs_mul, sub_mul, div_mul_cancel₀ _ hn0.ne']

/-- A quotient cut off. -/
theorem quotient_chopped (hn : n ≠ 0) : signedQuotient x y (m / n) = truncZ (realOf x / realOf y) := by
  have hn0 : (0 : ℝ) < n := Nat.cast_pos.mpr (Nat.pos_of_ne_zero hn)
  have hleaves : Leaves x m n (m / n) (Ext.neg x) (m % n) := leaves_of_rest (Nat.div_add_mod m n)
  have hratio : (0 : ℝ) ≤ (m : ℝ) / n := by positivity
  refine eq_truncZ ?_ ?_ (fun hle => ?_) fun hlt => ?_
  · rw [hleaves.ratio_dist hx hy hn, div_lt_one hn0]
    exact Nat.cast_lt.mpr (Nat.mod_lt _ (Nat.pos_of_ne_zero hn))
  · rw [ratio_eq hx hy hn, signedQuotient, signedInt_cast, abs_sign_mul, abs_sign_mul, abs_of_nonneg hratio, Nat.abs_cast]
    exact Nat.cast_div_le
  · rw [ratio_eq hx hy hn] at hle
    rw [signedQuotient]
    cases hc : Ext.neg x != Ext.neg y
    · exact Int.natCast_nonneg _
    · rw [hc, sign, if_pos rfl, neg_one_mul, neg_nonneg] at hle
      have hsmall : m < n := by
        have := (div_eq_zero_iff.mp (le_antisymm hle hratio)).resolve_right hn0.ne'
        have hm : m = 0 := Nat.cast_eq_zero.mp this
        omega
      rw [Nat.div_eq_of_lt hsmall]
      rfl
  · rw [ratio_eq hx hy hn] at hlt
    rw [signedQuotient]
    cases hc : Ext.neg x != Ext.neg y
    · rw [hc, sign, if_neg Bool.false_ne_true, one_mul] at hlt
      exact absurd hlt (not_lt.mpr hratio)
    · exact Int.neg_nonpos_of_nonneg (Int.natCast_nonneg _)

include h in
/-- A quotient to nearest. -/
theorem Leaves.nearest (hn : n ≠ 0) (hhalf : 2 * s ≤ n) (heven : 2 * s = n → q % 2 = 0) :
    RoundedAt 0 1 (realOf x / realOf y) (signedQuotient x y q) := by
  have hn0 : (0 : ℝ) < n := Nat.cast_pos.mpr (Nat.pos_of_ne_zero hn)
  have hdist := h.ratio_dist hx hy hn
  have htwice : 2 * ((s : ℝ) / n) = ((2 * s : Nat) : ℝ) / n := by push_cast; ring
  refine ⟨signedQuotient x y q, (mul_one _).symm, ?_, fun _ => ?_, nofun, nofun, nofun⟩
  all_goals rw [hdist]
  · rw [div_lt_one hn0]
    exact Nat.cast_lt.mpr (by omega)
  · rw [htwice, div_le_one hn0, div_eq_one_iff_eq hn0.ne']
    refine ⟨Nat.cast_le.mpr hhalf, fun heq => ?_⟩
    have := heven (Nat.cast_injective heq)
    rw [signedQuotient, signedInt]
    split <;> omega

end

end Sys2Proof.Laws

end
end

section
/-! The result of the partial remainder instructions (48_fpu_instructions.md R1132, R1133). -/

noncomputable section

namespace Sys2Proof.Laws

open Sys2Proof Sys2Proof.Machine Sys2Proof.Claims

/-! ## Exact results -/

/-- A result that is the number `v` itself. -/
structure IsExactly (n : Machine.Num) (v : ℝ) : Prop where
  pe_eq : n.pe = false
  res : ∃ z, n.res = some z ∧ realOf z = v

theorem IsExactly.denormal {n : Machine.Num} {v : ℝ} {cw : Half} {den : Bool} (h : IsExactly n v) (hm : den = true → cwDm cw = true) :
    IsExactly (n.denormal cw den) v := by
  obtain ⟨hpe, z, hres, hz⟩ := h
  rw [denormal_masked (by rw [hres]; rfl) hm]
  exact ⟨hpe, z, hres, hz⟩

/-- `s` units with a sign, where the register holds their value. -/
theorem round_isExactly {cw : Half} {zneg neg : Bool} {s t : Nat} {e k : ℤ} {v : ℝ} (hv : sign neg * (s * (2 : ℝ) ^ e) = v) (hfit : Fits64 v t k)
    (hk : -16445 ≤ k) (hm : cwUm cw = true) (hbig : |v| < (2 : ℝ) ^ (16384 : ℤ)) :
    IsExactly (Machine.Num.round .ext cw zneg { neg := neg, sig := s, exp := e, sticky := false }) v := by
  have hexact {b : Bool} {n : Machine.Num} (h : ExactResult n v b) : IsExactly n v := by
    obtain ⟨hpe, -, z, hres, hz, -⟩ := h
    exact ⟨hpe, z, hres, hz⟩
  by_cases hs : s = 0
  · have hzero : v = 0 := by rw [← hv, hs, Nat.cast_zero, zero_mul, mul_zero]
    exact hexact (hzero ▸ round_exact_zero rfl hs)
  · exact hexact (round_exact (hv ▸ stands_signed hs e) rfl hs hfit hbig (Or.inr ⟨hm, hk⟩))

/-! ## Remainders -/

/-- A number as a multiple of a smaller unit. -/
theorem abs_realOf_aligned (x : Ext) {e : ℤ} (he : e ≤ (Ext.dy x).exp) :
    |realOf x| = ((Ext.dy x).sig <<< ((Ext.dy x).exp - e).toNat : Nat) * (2 : ℝ) ^ e := by
  obtain ⟨i, hi⟩ : ∃ i : Nat, (Ext.dy x).exp = i + e := ⟨((Ext.dy x).exp - e).toNat, by omega⟩
  rw [abs_realOf_dy, hi, zpow_split, zpow_natCast, Nat.shiftLeft_eq, show ((i : ℤ) + e - e).toNat = i by omega]
  push_cast
  ring

/-- A remainder of at most either operand fits a register. -/
theorem rest_fits {a b : Dy} {s : Nat} {v : ℝ} (ha : a.sig < 2 ^ 64) (hb : b.sig < 2 ^ 64) (hv : |v| = s * (2 : ℝ) ^ min a.exp b.exp)
    (hsa : s ≤ a.sig <<< (a.exp - min a.exp b.exp).toNat) (hsb : s ≤ b.sig <<< (b.exp - min a.exp b.exp).toNat) :
    Fits64 v s (min a.exp b.exp) := by
  refine ⟨hv, ?_⟩
  rcases min_choice a.exp b.exp with h | h
  · rw [h, sub_self, Int.toNat_zero, Nat.shiftLeft_zero] at hsa
    exact lt_of_le_of_lt hsa ha
  · rw [h, sub_self, Int.toNat_zero, Nat.shiftLeft_zero] at hsb
    exact lt_of_le_of_lt hsb hb

/-- The remainder by a multiple of the divisor, where the dividend is a multiple of a power of two. -/
theorem mod_shift_fits {a b j g : Nat} (ha : a < 2 ^ 64) (hb0 : b ≠ 0) (hb : b < 2 ^ 64) :
    ∃ s i, (a * 2 ^ j) % (b * 2 ^ g) = s * 2 ^ i ∧ s < 2 ^ 64 := by
  rcases Nat.le_total j g with h | h
  · obtain ⟨i, rfl⟩ := Nat.exists_eq_add_of_le h
    refine ⟨a % (b * 2 ^ i), j, ?_, lt_of_le_of_lt (Nat.mod_le _ _) ha⟩
    rw [Nat.pow_add, Nat.mul_comm (2 ^ j), ← Nat.mul_assoc, Nat.mul_mod_mul_right]
  · obtain ⟨i, rfl⟩ := Nat.exists_eq_add_of_le h
    refine ⟨a * 2 ^ i % b, g, ?_, lt_trans (Nat.mod_lt _ (Nat.pos_of_ne_zero hb0)) hb⟩
    rw [Nat.pow_add, Nat.mul_comm (2 ^ g), ← Nat.mul_assoc, Nat.mul_mod_mul_right]

/-- What a complete remainder is: `q` is the quotient cut off, or to nearest (R1132). -/
structure Complete (near : Bool) (x y : Ext) (r : Prem) : Prop where
  done_eq : r.done = true
  res : ∃ q : ℤ, IsExactly r.num (realOf x - q * realOf y) ∧ r.q = q.natAbs ∧ (near = false → q = truncZ (realOf x / realOf y)) ∧
    (near = true → RoundedAt 0 1 (realOf x / realOf y) q)

/-- What an incomplete remainder is: it has taken at least 32 bits off (R1133). -/
structure Incomplete (x y : Ext) (gap : ℤ) (r : Prem) : Prop where
  done_eq : r.done = false
  res : ∃ q : ℤ, IsExactly r.num (realOf x - q * realOf y) ∧ |realOf x - q * realOf y| < |realOf y| * 2 ^ (gap - 32)

section
variable {near : Bool} {step : Nat} {cw : Half} {x y : Ext} (hx : finiteCls x) (h0 : realOf y ≠ 0) (hm : cwUm cw = true)
include hx h0 hm

theorem premFinite_complete (hgap : (Ext.dy x).top - (Ext.dy y).top < 64) : Complete near x y (premFinite near step cw x y) := by
  have hex : -16445 ≤ min (Ext.dy x).exp (Ext.dy y).exp := le_min (dy_exp_ge x) (dy_exp_ge y)
  have hax := abs_realOf_aligned x (min_le_left (Ext.dy x).exp (Ext.dy y).exp)
  have hay := abs_realOf_aligned y (min_le_right (Ext.dy x).exp (Ext.dy y).exp)
  have hfits {s : Nat} {v : ℝ} := rest_fits (a := Ext.dy x) (b := Ext.dy y) (s := s) (v := v) (sig_lt x) (sig_lt y)
  rw [premFinite]
  simp only [if_pos hgap]
  generalize (Ext.dy x).sig <<< ((Ext.dy x).exp - min (Ext.dy x).exp (Ext.dy y).exp).toNat = m at *
  generalize (Ext.dy y).sig <<< ((Ext.dy y).exp - min (Ext.dy x).exp (Ext.dy y).exp).toNat = n at *
  generalize min (Ext.dy x).exp (Ext.dy y).exp = e at *
  have hn : n ≠ 0 := by
    rintro rfl
    rw [Nat.cast_zero, zero_mul, abs_eq_zero] at hay
    exact h0 hay
  have hdiv := Nat.div_add_mod m n
  have hlt := Nat.mod_lt m (Nat.pos_of_ne_zero hn)
  have hle := Nat.mod_le m n
  have hexact {neg : Bool} {q s : Nat} (h : Leaves x m n q neg s) (hsm : s ≤ m) (hsn : s ≤ n) :
      IsExactly (Machine.Num.round .ext cw (Ext.neg x) { neg := neg, sig := s, exp := e, sticky := false })
        (realOf x - signedQuotient x y q * realOf y) := by
    have hval := h.value hax hay
    have habs : |realOf x - signedQuotient x y q * realOf y| = s * (2 : ℝ) ^ e := by
      rw [← hval, abs_sign_mul, abs_of_nonneg (by positivity)]
    refine round_isExactly hval (hfits habs hsm hsn) hex hm (lt_of_le_of_lt ?_ (abs_realOf_lt hx))
    rw [habs, hax]
    exact mul_le_mul_of_nonneg_right (Nat.cast_le.mpr hsm) (by positivity)
  cases hup : near && (decide (n < 2 * (m % n)) || (decide (2 * (m % n) = n) && m / n % 2 == 1))
  · have hleaves : Leaves x m n (m / n) (Ext.neg x) (m % n) := leaves_of_rest hdiv
    refine ⟨rfl, signedQuotient x y (m / n), hexact hleaves hle hlt.le, (natAbs_signedInt _ _).symm, fun _ => quotient_chopped hax hay hn, fun hnear => ?_⟩
    rw [hnear, Bool.true_and] at hup
    have hstay : ¬ n < 2 * (m % n) ∧ (2 * (m % n) = n → ¬ m / n % 2 = 1) := by simpa using hup
    exact hleaves.nearest hax hay hn (by omega) fun h => by have := hstay.2 h; omega
  · obtain ⟨hnear, hup⟩ := Bool.and_eq_true_iff.mp hup
    have hpast : n < 2 * (m % n) ∨ (2 * (m % n) = n ∧ m / n % 2 = 1) := by simpa using hup
    have hleaves : Leaves x m n (m / n + 1) (!Ext.neg x) (n - m % n) := leaves_of_excess (by rw [Nat.mul_add]; omega)
    refine ⟨rfl, signedQuotient x y (m / n + 1), hexact (s := n - m % n) hleaves (by omega) (by omega), (natAbs_signedInt _ _).symm, fun h => ?_, fun _ => ?_⟩
    · rw [hnear] at h
      cases h
    · exact hleaves.nearest hax hay hn (by omega) (by omega)

theorem premFinite_incomplete (hgap : 64 ≤ (Ext.dy x).top - (Ext.dy y).top) :
    Incomplete x y ((Ext.dy x).top - (Ext.dy y).top) (premFinite near step cw x y) := by
  have ha := sig_lt x
  have hb := sig_lt y
  have hb0 := sig_ne_zero h0
  obtain ⟨g, hg, hg1, hg32⟩ : ∃ g : Nat, g = ((Ext.dy x).top - (Ext.dy y).top - (32 + step % 32 : Nat)).toNat ∧ 1 ≤ g ∧
      (g : ℤ) ≤ (Ext.dy x).top - (Ext.dy y).top - 32 := ⟨_, rfl, by omega, by omega⟩
  have hexp : min (Ext.dy x).exp (Ext.dy y).exp = (Ext.dy y).exp := by
    have hlena : bitLen (Ext.dy x).sig ≤ 64 := bitLen_le ha
    have hlenb := bitLen_pos (show (Ext.dy y).sig ≠ 0 from hb0)
    have htop : (64 : ℤ) ≤ (Ext.dy x).exp + bitLen (Ext.dy x).sig - 1 - ((Ext.dy y).exp + bitLen (Ext.dy y).sig - 1) := hgap
    omega
  have hax := abs_realOf_aligned x (min_le_left (Ext.dy x).exp (Ext.dy y).exp)
  have hay := abs_realOf_dy y
  have hexy := dy_exp_ge y
  rw [premFinite]
  simp only [if_neg (not_lt.mpr hgap)]
  rw [hexp] at hax
  rw [← hg, hexp, sub_self, Int.toNat_zero, Nat.shiftLeft_zero, Nat.shiftLeft_eq, Nat.shiftLeft_eq]
  rw [Nat.shiftLeft_eq] at hax
  generalize ((Ext.dy x).exp - (Ext.dy y).exp).toNat = j at *
  obtain ⟨s, i, hrest, hs⟩ := mod_shift_fits (j := j) (g := g) ha hb0 hb
  have hleaves : Leaves x ((Ext.dy x).sig * 2 ^ j) (Ext.dy y).sig (2 ^ g * ((Ext.dy x).sig * 2 ^ j / ((Ext.dy y).sig * 2 ^ g))) (Ext.neg x)
      ((Ext.dy x).sig * 2 ^ j % ((Ext.dy y).sig * 2 ^ g)) := leaves_of_rest (by rw [← Nat.mul_assoc]; exact Nat.div_add_mod _ _)
  have hle := Nat.mod_le ((Ext.dy x).sig * 2 ^ j) ((Ext.dy y).sig * 2 ^ g)
  have hlt := Nat.mod_lt ((Ext.dy x).sig * 2 ^ j) (Nat.mul_pos (Nat.pos_of_ne_zero hb0) (Nat.two_pow_pos g))
  have hrest : (Ext.dy x).sig * 2 ^ j % ((Ext.dy y).sig * 2 ^ g) = s * 2 ^ i := hrest
  have hlt : (Ext.dy x).sig * 2 ^ j % ((Ext.dy y).sig * 2 ^ g) < (Ext.dy y).sig * 2 ^ g := hlt
  have hval := hleaves.value hax hay
  have habs := congrArg abs hval
  rw [abs_sign_mul, abs_of_nonneg (by positivity)] at habs
  generalize (Ext.dy x).sig * 2 ^ j % ((Ext.dy y).sig * 2 ^ g) = r at *
  refine ⟨rfl, _, round_isExactly (t := s) (k := (Ext.dy y).exp + i) hval ⟨?_, hs⟩ (by omega) hm ?_, ?_⟩
  · rw [← habs, hrest, zpow_split, zpow_natCast]
    push_cast
    ring
  · rw [← habs]
    refine lt_of_le_of_lt ?_ (abs_realOf_lt hx)
    rw [hax]
    exact mul_le_mul_of_nonneg_right (Nat.cast_le.mpr hle) (by positivity)
  · rw [← habs, hay]
    calc (r : ℝ) * 2 ^ (Ext.dy y).exp < ((Ext.dy y).sig * 2 ^ g : Nat) * 2 ^ (Ext.dy y).exp :=
          mul_lt_mul_of_pos_right (Nat.cast_lt.mpr hlt) (by positivity)
      _ = (Ext.dy y).sig * 2 ^ (Ext.dy y).exp * (2 : ℝ) ^ (g : ℤ) := by
          push_cast
          rw [zpow_natCast]
          ring
      _ ≤ _ := mul_le_mul_of_nonneg_left (zpow_le_zpow_right₀ one_le_two hg32) (by positivity)

end

/-! ## FPREM and FPREM1 -/

theorem premExt_finite {near : Bool} {step : Nat} {cw : Half} {tie : Bool} {x y : Ext} (hx : finiteCls x) (hy : finiteCls y) (hx0 : realOf x ≠ 0)
    (hy0 : realOf y ≠ 0) : premExt near step cw tie x y =
      { premFinite near step cw x y with num := (premFinite near step cw x y).num.denormal cw (Ext.isDen x || Ext.isDen y) } := by
  rw [premExt, nanCase_finite cw tie hx hy]
  rcases hx with h | h | h
  · exact absurd (realOf_of_zero h) hx0
  all_goals
    rcases hy with hc | hc | hc
    · exact absurd (realOf_of_zero hc) hy0
    all_goals rw [h, hc]

section
variable {near : Bool} {step : Nat} {cw : Half} {tie : Bool} {x y : Ext} (hx : finiteCls x) (hy : finiteCls y) (hx0 : realOf x ≠ 0)
  (hy0 : realOf y ≠ 0) (hden : (Ext.isDen x || Ext.isDen y) = true → cwDm cw = true) (hm : cwUm cw = true)
include hx hy hx0 hy0 hden hm

theorem premExt_complete (hgap : Int.log 2 |realOf x| - Int.log 2 |realOf y| < 64) : Complete near x y (premExt near step cw tie x y) := by
  rw [(stands_dy (sig_ne_zero hx0)).log (sig_ne_zero hx0), (stands_dy (sig_ne_zero hy0)).log (sig_ne_zero hy0)] at hgap
  obtain ⟨hdone, q, hexact, hq⟩ := premFinite_complete (near := near) (step := step) hx hy0 hm hgap
  rw [premExt_finite hx hy hx0 hy0]
  exact ⟨hdone, q, hexact.denormal hden, hq⟩

theorem premExt_incomplete (hgap : 64 ≤ Int.log 2 |realOf x| - Int.log 2 |realOf y|) :
    Incomplete x y (Int.log 2 |realOf x| - Int.log 2 |realOf y|) (premExt near step cw tie x y) := by
  rw [(stands_dy (sig_ne_zero hx0)).log (sig_ne_zero hx0), (stands_dy (sig_ne_zero hy0)).log (sig_ne_zero hy0)] at hgap ⊢
  obtain ⟨hdone, q, hexact, hlt⟩ := premFinite_incomplete (near := near) (step := step) hx hy0 hm hgap
  rw [premExt_finite hx hy hx0 hy0]
  exact ⟨hdone, q, hexact.denormal hden, hlt⟩

end

end Sys2Proof.Laws

end
end

section
/-! The instructions with one result (48_fpu_instructions.md R1130 to R1137): what they make of the FPU. -/

noncomputable section

namespace Sys2Proof.Laws

open Sys2Proof Sys2Proof.Machine Sys2Proof.Claims

/-! ## A result for ST -/

/-- The FPU after an operation that changes ST: a stack fault or the result `r`, ES apart. -/
def ResultOpened (missing : Bool) (c : Bool) (r : Machine.Num) (f g : Fpu) : Prop :=
  if missing then Opened (ifMasked f.cw fun g => g.setSt 0 Ext.indefinite) (stackFlags false) f g
  else Opened (withResult r.res fun v g => g.setSt 0 v) (raised c r) f g

theorem stackFault_opened {missing c : Bool} {r : Machine.Num} {f : Fpu} (h : missing = true) :
    Fp f (do stackFault false (setSt 0 Ext.indefinite); drawC023) fun _ g => ResultOpened missing c r f g := by
  refine .seq <| stackFault_fp (setSt_does 0 _) (setSt_onStack 0 _) <| drawC023_opened fun g hg => ?_
  rw [ResultOpened, if_pos h]
  exact hg

theorem deliverNum_opened {missing : Bool} {r : Machine.Num} {f : Fpu} (h : ¬ missing = true) :
    Fp f (do deliverNum r (setSt 0); drawC023) fun _ g => ∃ c, ResultOpened missing c r f g := by
  refine .seq <| deliverNum_fp (setSt_does 0) (setSt_onStack 0) fun c => drawC023_opened fun g hg => ⟨c, ?_⟩
  rw [ResultOpened, if_neg h]
  exact hg

theorem unary_fp (u : Half → Ext → Machine.Num) (f : Fpu) :
    Fp f (unary u) fun _ g => ∃ c, ResultOpened (f.isEmpty 0) c (u f.cw (f.st 0)) f g :=
  .get fun _ _ => .ite (fun h => (stackFault_opened h).mono fun _ _ hg => ⟨false, hg⟩) fun h => deliverNum_opened h

theorem fscale_fp (f : Fpu) : Fp f fscale fun _ g => ∃ tie pe up c,
    ResultOpened (f.isEmpty 0 || f.isEmpty 1) c (scaleExt f.cw tie pe up (f.st 0) (f.st 1)) f g :=
  .get fun _ _ => .seq <| drawBool_fp fun tie => .seq <| drawBool_fp fun pe => .seq <| drawBool_fp fun up =>
    .ite (fun h => (stackFault_opened h).mono fun _ _ hg => ⟨tie, pe, up, false, hg⟩) fun h => (deliverNum_opened h).mono fun _ _ ⟨c, hg⟩ =>
      ⟨tie, pe, up, c, hg⟩

theorem settled_of_result {missing c : Bool} {r : Machine.Num} {f g : Fpu} (h : ResultOpened missing c r f g) :
    if missing then Settled (ifMasked f.cw fun g => g.setSt 0 Ext.indefinite) (stackFlags false) f (summarised g)
    else Settled (withResult r.res fun v g => g.setSt 0 v) (raised c r) f (summarised g) := by
  rw [ResultOpened] at h
  split at h
  · next hc => rw [if_pos hc]; exact settled_of_opened h
  · next hc => rw [if_neg hc]; exact settled_of_opened h

/-! ## FABS and FCHS -/

theorem withSign_eq (x : Ext) (b : Bool) : Ext.withSign x b = BitVec.ofBool b ++ x.setWidth 79 := by
  rw [Ext.withSign]
  congr 1

theorem signOp_fp (u : Bool → Bool) (f : Fpu) : Fp f (signOp u) fun _ g =>
    if f.isEmpty 0 then Opened (ifMasked f.cw fun g => g.setSt 0 Ext.indefinite) (stackFlags false) f g
    else Opened (fun g => g.setSt 0 (BitVec.ofBool (u (Ext.neg (f.st 0))) ++ (f.st 0).setWidth 79)) (fun w => { w with c1 := false }) f g := by
  refine .get fun s n => .ite (fun hc => ?_) fun hc => ?_
  all_goals rw [withFpu_fpu] at hc
  · refine .seq <| stackFault_fp (setSt_does 0 _) (setSt_onStack 0 _) <| drawC023_opened fun g hg => ?_
    rw [if_pos hc]
    exact hg
  · refine .seq <| (setSt_does 0 _).fp <| .seq <| modifySw_fp <| drawC023_fp fun c0 c2 c3 => ?_
    rw [if_neg hc, ← withSign_eq]
    exact ⟨c0, c2, c3, rfl⟩

/-! ## FXTRACT -/

/-- Two results, the second pushed. -/
def bothResults (a b : Ext) (g : Fpu) : Fpu := (g.setSt 0 a).push b

theorem bothResults_does (a b : Ext) : Does (do setSt 0 a; pushSt b) (bothResults a b) := (setSt_does 0 a).seq (pushSt_does b)

theorem bothResults_onStack (a b : Ext) : OnStack (bothResults a b) := (push_onStack b).comp (setSt_onStack 0 a)

/-- What FXTRACT delivers: the flags, and for a response `v` the exponent and the significand. -/
def extracted (cw : Half) (x : Ext) : Machine.Num × (Ext → Ext × Ext) :=
  match nanCase1 cw x with
  | some n => (n, fun v => (v, v))
  | none =>
    match Ext.cls x with
    | .zero => (Machine.Num.zeroDivide cw x, fun _ => (Ext.inf true, x))
    | .inf => (Machine.Num.exact x, fun _ => (Ext.inf false, x))
    | _ => ((Machine.Num.exact x).denormal cw (Ext.isDen x),
        fun _ => (extOfInt (Ext.dy x).top, Ext.mk (Ext.neg x) 0x3FFF ((Ext.dy x).sig <<< (64 - bitLen (Ext.dy x).sig))))

/-- The FPU after FXTRACT of a register that is not empty, with room for a push. -/
def Extracts (p : Machine.Num × (Ext → Ext × Ext)) : Fpu → Fpu → Prop :=
  Opened (withResult p.1.res fun v => bothResults (p.2 v).1 (p.2 v).2) (raised false p.1)

theorem fxtract_fp (f : Fpu) : Fp f fxtract fun _ g =>
    (f.isEmpty 0 = true → Opened (ifMasked f.cw (bothResults Ext.indefinite Ext.indefinite)) (stackFlags false) f g) ∧
    (f.isEmpty 0 = false → f.isEmpty 7 = false → Opened (ifMasked f.cw (bothResults Ext.indefinite Ext.indefinite)) (stackFlags true) f g) ∧
    (f.isEmpty 0 = false → f.isEmpty 7 = true → Extracts (extracted f.cw (f.st 0)) f g) := by
  have hdeliver (p : Machine.Num × (Ext → Ext × Ext)) : Fp f (do deliverWith false p.1 (fun v => do setSt 0 (p.2 v).1; pushSt (p.2 v).2); drawC023)
      fun _ g => Extracts p f g :=
    .seq <| deliverWith_fp (fun v => bothResults_does (p.2 v).1 (p.2 v).2) (fun v => bothResults_onStack _ _) <| drawC023_opened fun _ hg => hg
  refine .get fun s n => .ite (fun h0 => ?_) fun h0 => .ite (fun h7 => ?_) fun h7 => ?_
  all_goals rw [withFpu_fpu] at h0
  · refine .seq <| stackFault_fp (bothResults_does _ _) (bothResults_onStack _ _) <| drawC023_opened fun g hg => ⟨fun _ => hg, ?_, ?_⟩
    all_goals
      intro h
      rw [h0] at h
      cases h
  · rw [withFpu_fpu, Bool.not_eq_true'] at h7
    refine .seq <| stackFault_fp (bothResults_does _ _) (bothResults_onStack _ _) <| drawC023_opened fun g hg =>
      ⟨fun h => absurd h h0, fun _ _ => hg, fun _ h => ?_⟩
    rw [h7] at h
    cases h
  · rw [withFpu_fpu, Bool.not_eq_true', Bool.not_eq_false] at h7
    rw [withFpu_fpu]
    refine Fp.mono (P := fun _ g => Extracts (extracted f.cw (f.st 0)) f g) ?_ fun _ g hg => ⟨fun h => absurd h h0, fun _ h => ?_, fun _ _ => hg⟩
    · rw [extracted]
      cases nanCase1 f.cw (f.st 0) with
      | some n => exact hdeliver (n, fun v => (v, v))
      | none =>
        cases Ext.cls (f.st 0)
        all_goals exact hdeliver (_, fun _ => (_, _))
    · rw [h7] at h
      cases h

end Sys2Proof.Laws

end
end

section
/-! O43: FSQRT, FRNDINT, FABS, FCHS, FSCALE, FXTRACT, FPREM, FPREM1 (48_fpu_instructions.md R1130 to R1137). -/

noncomputable section

namespace Sys2Proof.Laws

open Sys2Proof Sys2Proof.Machine Sys2Proof.Claims

/-- The exponent of the leading bit of a normal number. -/
theorem top_normal {x : Ext} (h : Ext.cls x = .normal) : (Ext.dy x).top = (Ext.be x : ℤ) - 16383 := by
  obtain ⟨hbe, -, hsig⟩ := (cls_normal_iff x).mp h
  have hlen : bitLen (Ext.dy x).sig = 64 := le_antisymm (bitLen_le (sig_lt x)) (lt_bitLen hsig)
  have hmax : max (Ext.be x) 1 = Ext.be x := by omega
  rw [Dy.top, hlen]
  show ((max (Ext.be x) 1 : Nat) - 16446 : ℤ) + (64 : Nat) - 1 = _
  rw [hmax]
  omega

/-! ## What FXTRACT delivers -/

section
variable {cw : Half} {x : Ext}

/-- A QNaN is quiet. -/
theorem quiet_qnan (h : Ext.cls x = .qnan) : Ext.quiet x = x := by
  have hbit : x.getLsbD 62 = true := by
    have hsig : 2 ^ 63 + 2 ^ 62 ≤ (Ext.sig x).toNat := by
      rw [cls_eq] at h
      split at h
      · split at h <;> cases h
      · split at h
        · cases h
        · split at h
          · split at h
            · cases h
            · split at h
              · assumption
              · cases h
          · cases h
    have hlt := sig_lt x
    rw [sig_eq] at hsig hlt
    rw [← BitVec.testBit_toNat, Nat.testBit_eq_decide_div_mod_eq, decide_eq_true_iff]
    omega
  have hconst : (0x00004000000000000000#80 : Ext) = BitVec.twoPow 80 62 := by decide
  refine BitVec.eq_of_getLsbD_eq fun i hi => ?_
  rw [Ext.quiet, hconst, BitVec.getLsbD_or, BitVec.getLsbD_twoPow]
  by_cases h62 : 62 = i
  · rw [← h62, hbit]
    rfl
  · simp [h62]

theorem extracted_qnan (h : Ext.cls x = .qnan) : extracted cw x = (Machine.Num.exact x, fun v => (v, v)) := by
  have hnan : nanCase1 cw x = some (Machine.Num.exact (pickNan true x x)) := by simp [nanCase1, nanCase, h]
  have hpick : pickNan true x x = x := by simp [pickNan, h, Cls.isNan, quiet_qnan h]
  rw [extracted, hnan, hpick]

theorem extracted_inf (h : Ext.cls x = .inf) : extracted cw x = (Machine.Num.exact x, fun _ => (Ext.inf false, x)) := by
  have hnan : nanCase1 cw x = none := by simp [nanCase1, nanCase, h]
  rw [extracted, hnan, h]

theorem extracted_zero (h : Ext.cls x = .zero) : extracted cw x = (Machine.Num.zeroDivide cw x, fun _ => (Ext.inf true, x)) := by
  rw [extracted, nanCase1_finite cw (.inl h), h]

/-- The exponent and the significand of a normal number (R1132). -/
theorem extracted_normal (h : Ext.cls x = .normal) : extracted cw x =
    (Machine.Num.exact x, fun _ => (extOfInt ((Ext.be x : ℤ) - 16383), Ext.mk (Ext.neg x) 0x3FFF (Ext.sig x).toNat)) := by
  have hlen : bitLen (Ext.dy x).sig = 64 := le_antisymm (bitLen_le (sig_lt x)) (lt_bitLen ((cls_normal_iff x).mp h).2.2)
  have hden : Ext.isDen x = false := by rw [Ext.isDen, h]; rfl
  have hsig' : (Ext.dy x).sig = (Ext.sig x).toNat := rfl
  rw [extracted, nanCase1_finite cw (.inr (.inr h)), h]
  dsimp only
  rw [top_normal h, hlen, hden, hsig', Nat.sub_self, Nat.shiftLeft_zero]
  rfl

theorem settled_of_exact {k : Fpu → Fpu} {p : Ext → Ext × Ext} {f g : Fpu} (h : Extracts (Machine.Num.exact x, p) f g)
    (hk : k = bothResults (p x).1 (p x).2) : Settled k (fun w => { w with c1 := false }) f (summarised g) := by
  rw [hk, ← raised_exact false x]
  exact settled_of_opened h

end

theorem settled_of_zeroDivide {cw : Half} {x : Ext} {p : Ext → Ext × Ext} {f g : Fpu} (h : Extracts (Machine.Num.zeroDivide cw x, p) f g) :
    Settled (if cw.getLsbD 2 then bothResults (p x).1 (p x).2 else id) (fun w => { w with ze := true, c1 := false }) f (summarised g) := by
  have hflags : raised false (Machine.Num.zeroDivide cw x) = fun w => { w with ze := true, c1 := false } := by
    funext w
    simp [raised, Machine.Num.zeroDivide, Machine.Num.exact]
  have hdoes : withResult (Machine.Num.zeroDivide cw x).res (fun v => bothResults (p v).1 (p v).2) =
      if cw.getLsbD 2 then bothResults (p x).1 (p x).2 else id := by
    have hres : (Machine.Num.zeroDivide cw x).res = if cw.getLsbD 2 then some x else none := rfl
    rw [hres]
    cases cw.getLsbD 2 <;> rfl
  rw [← hflags, ← hdoes]
  exact settled_of_opened h

/-! ## FSQRT -/

theorem isDen_masked {cw : Half} {x : Ext} (hm : Ext.cls x = .denormal → cw.getLsbD 1 = true) (h : Ext.isDen x = true) : cwDm cw = true :=
  hm (by simpa [Ext.isDen] using h)

theorem sqrtExt_delivers {cw : Half} {x : Ext} (hx : finiteCls x) (hm : Ext.isDen x = true → cwDm cw = true) (hpc : cwPc cw ≠ 1)
    (hpos : 0 < realOf x) : Delivers (pcBits cw) cw (√(realOf x)) (sqrtExt (Fmt.ofPc cw) cw x) := by
  obtain ⟨hstands, hlen⟩ := stands_sqrtDy (sig_ne_zero hpos.ne') hpos
  have hd : (sqrtDy (Ext.dy x)).sig ≠ 0 := fun h => by
    rw [h] at hlen
    exact absurd hlen (by decide)
  have hreg := inRegister_ofPc cw hpc
  have hround := round_delivers (cw := cw) (zneg := false) hreg hstands hd fun _ => lt_of_le_of_lt hreg.le hlen
  have hsome : (Machine.Num.round (Fmt.ofPc cw) cw false (sqrtDy (Ext.dy x))).res.isSome = true := by
    rw [round_eq hd]
    rfl
  rw [ofPc_p cw hpc] at hround
  rw [sqrtExt_finite hx, sqrtResult_pos hx hpos, denormal_masked hsome hm]
  exact hround

/-! ## FPREM and FPREM1 -/

/-- The FPU after a partial remainder of two registers that are not empty, ES apart. -/
structure RemainderDone (r : Prem) (known : Bool) (f g : Fpu) : Prop where
  stopped : r.num.res = none → ∃ c1, g = withSw f (raised c1 r.num)
  result : r.num.res ≠ none → ∃ c0 c1 c3, g = withSw (withResult r.num.res (fun v g => g.setSt 0 v) f)
      (fun w => { raised false r.num w with c2 := !r.done, c0 := c0, c1 := c1, c3 := c3 }) ∧
    (known = true → c0 = r.q.testBit 2 ∧ c3 = r.q.testBit 1 ∧ c1 = r.q.testBit 0)

/-- The result is a remainder. -/
def quotientKnown (r : Prem) (x y : Ext) : Bool := !r.num.ie && !(Ext.cls x).isNan && !(Ext.cls y).isNan

/-- C2, and the quotient bits where they are known (R1133). -/
def quotientFlags (r : Prem) (known a b c : Bool) (w : Fsw) : Fsw :=
  { w with
    c2 := !r.done
    c0 := if known then r.q / 4 % 2 == 1 else a
    c3 := if known then r.q / 2 % 2 == 1 else b
    c1 := if known then r.q % 2 == 1 else c }

theorem testBit_of_quotient (q : Nat) : (q / 4 % 2 == 1) = q.testBit 2 ∧ (q / 2 % 2 == 1) = q.testBit 1 ∧ (q % 2 == 1) = q.testBit 0 := by
  simp only [Nat.testBit_eq_decide_div_mod_eq, Nat.reducePow, Nat.div_one]
  exact ⟨rfl, rfl, rfl⟩

theorem remainder_fp {f : Fpu} (r : Prem) (known a b c : Bool) : Fp f (deliverWith c r.num fun v => do
      setSt 0 v
      modifySw (quotientFlags r known a b c)) fun _ g => RemainderDone r known f g := by
  refine .seq (modifySw_fp ?_)
  show Fp (withSw f (raised c r.num)) _ _
  cases hres : r.num.res with
  | none => exact .pure ⟨fun _ => ⟨c, rfl⟩, fun h => absurd hres h⟩
  | some v =>
    refine .seq <| (setSt_does 0 v).fp <| modifySw_fp ⟨fun h => ?_, fun _ => ⟨if known then r.q / 4 % 2 == 1 else a,
      if known then r.q % 2 == 1 else c, if known then r.q / 2 % 2 == 1 else b, ?_, fun hknown => ?_⟩⟩
    · rw [hres] at h
      cases h
    · rw [hres]
      exact congrArg (fun g => withSw g (quotientFlags r known a b c)) (setSt_onStack 0 v f _ (raised_flagsOnly c r.num))
    · rw [hknown]
      obtain ⟨h2, h1, h0⟩ := testBit_of_quotient r.q
      exact ⟨h2, h1, h0⟩

theorem fprem_fp (near : Bool) (f : Fpu) : Fp f (fprem near) fun _ g => ∃ tie,
    if f.isEmpty 0 ∨ f.isEmpty 1 then ∃ c0 c3, g = withSw (ifMasked f.cw (fun g => g.setSt 0 Ext.indefinite) f)
      (fun w => if f.cw.getLsbD 0 then { stackFlags false w with c0 := c0, c3 := c3, c2 := false } else stackFlags false w)
    else RemainderDone (premExt near (Config.fpremStep (f.st 0) (f.st 1)) f.cw tie (f.st 0) (f.st 1))
      (quotientKnown (premExt near (Config.fpremStep (f.st 0) (f.st 1)) f.cw tie (f.st 0) (f.st 1)) (f.st 0) (f.st 1)) f g := by
  refine .get fun s n => .seq <| drawBool_fp fun tie => .seq <| drawBool_fp fun a => .seq <| drawBool_fp fun b => .seq <| drawBool_fp fun c =>
    .ite (fun hc => ?_) fun hc => ?_
  all_goals rw [withFpu_fpu, Bool.or_eq_true] at hc
  · refine .seq <| modifySw_fp <| .get fun s n => .ite (fun hm => ?_) fun hm => ?_
    · have hm : f.cw.getLsbD 0 = true := hm
      refine .seq <| (setSt_does 0 _).fp <| modifySw_fp ⟨tie, ?_⟩
      rw [if_pos hc]
      refine ⟨a, b, ?_⟩
      have hcomm := setSt_onStack 0 Ext.indefinite f _ (stackFlags_flagsOnly false)
      simp only [ifMasked, hm, if_true]
      exact congrArg (fun g => withSw g _) hcomm
    · have hm : ¬ f.cw.getLsbD 0 = true := hm
      refine .pure ⟨tie, ?_⟩
      rw [if_pos hc]
      refine ⟨a, b, ?_⟩
      simp only [ifMasked, hm]
      rfl
  · refine (remainder_fp (premExt near (Config.fpremStep (f.st 0) (f.st 1)) f.cw tie (f.st 0) (f.st 1)) _ a b c).mono fun _ g hg => ⟨tie, ?_⟩
    rw [if_neg hc]
    exact hg

/-- An SNaN is an invalid operand. -/
theorem premExt_snan {near : Bool} {step : Nat} {cw : Half} {tie : Bool} {x y : Ext} (h : Ext.cls x = .snan ∨ Ext.cls y = .snan) :
    (premExt near step cw tie x y).num.ie = true := by
  have hie (v : Ext) (den : Bool) : ((Machine.Num.invalid cw v).besideDenormal cw den).ie = true := by
    rw [Machine.Num.besideDenormal, Machine.Num.denormal]
    cases den && (Machine.Num.invalid cw v).res.isSome <;> cases cwDm cw <;> rfl
  obtain ⟨v, hv⟩ : ∃ v, nanCase cw tie x y = some (Machine.Num.invalid cw v) := by
    rw [nanCase]
    split
    · exact ⟨_, rfl⟩
    · have hs : (Ext.cls x = .snan || Ext.cls y = .snan) = true := by simpa using h
      rw [if_pos hs]
      exact ⟨_, rfl⟩
  rw [premExt, hv]
  exact hie v _

theorem quotientKnown_of {near : Bool} {step : Nat} {cw : Half} {tie : Bool} {x y : Ext} (hie : (premExt near step cw tie x y).num.ie = false)
    (hx : Ext.cls x ≠ .qnan) (hy : Ext.cls y ≠ .qnan) : quotientKnown (premExt near step cw tie x y) x y = true := by
  have hsx : Ext.cls x ≠ .snan := fun h => absurd (hie.symm.trans (premExt_snan (.inl h))) Bool.false_ne_true
  have hsy : Ext.cls y ≠ .snan := fun h => absurd (hie.symm.trans (premExt_snan (.inr h))) Bool.false_ne_true
  simp [quotientKnown, hie, Cls.isNan, hx, hy, hsx, hsy]

/-! ## The instructions -/

/-- Settles O43: what each instruction makes of the FPU, then the results on finite operands. -/
theorem floatUnary : Obligations.FloatUnary := by
  unfold Obligations.FloatUnary
  refine ⟨fun s hon => ⟨fun hpc => ?_, ?_, ?_, ?_, ?_, fun near => ?_⟩, fun cw x hx hm => ⟨fun hpc hpos => ?_, fun _ hneg => ?_, ?_⟩,
    fun cw tie pe up x y hx hy hx0 hden => ?_⟩
  · exact escReg_refuses hon fun t ht => ⟨t, bind_of_error (checkPc_refuses (ht ▸ hpc))⟩
  · have run (i : Instr) (body : M Unit) (u : Half → Ext → Machine.Num) (hi : exec i s = runInstr (escReg body) s)
        (hbody : ∀ fds fdp, Fp (regPtrs s fds fdp) body fun _ g => ∃ c, ResultOpened ((regPtrs s fds fdp).isEmpty 0) c
          (u (regPtrs s fds fdp).cw ((regPtrs s fds fdp).st 0)) (regPtrs s fds fdp) g) :
        ∃ (fds : Half) (fdp : Word) (f : Fpu) (n : Nat) (c : Bool), Ran i s { s.enter with fpu := f, draws := n } ∧
        let f0 := regPtrs s fds fdp
        if f0.isEmpty 0 then Settled (ifMasked f0.cw fun g => g.setSt 0 Ext.indefinite) (stackFlags false) f0 f
        else Settled (withResult (u f0.cw (f0.st 0)).res fun v g => g.setSt 0 v) (raised c (u f0.cw (f0.st 0))) f0 f := by
      obtain ⟨fds, fdp, g, n, hran, c, hg⟩ := ran_reg_from
        (P := fun f g => ∃ c, ResultOpened (f.isEmpty 0) c (u f.cw (f.st 0)) f g) hon hi hbody
      exact ⟨fds, fdp, _, n, c, hran, settled_of_result hg⟩
    simp only [List.forall_mem_cons, List.not_mem_nil, false_implies, implies_true, and_true]
    refine ⟨fun hpc => ?_, fun _ => ?_⟩
    · exact run .fsqrt fsqrt (fun cw x => sqrtExt (Fmt.ofPc cw) cw x) rfl fun fds fdp => .seq <| checkPc_fp (hpc trivial) <| unary_fp _ _
    · exact run .frndint (unary rndintExt) rndintExt rfl fun fds fdp => unary_fp _ _
  · have hneg : Ext.neg (s.fpu.st 0) = (s.fpu.st 0).getLsbD 79 := by rw [Ext.neg, BitVec.msb_eq_getLsbD_last]
    have run (i : Instr) (u : Bool → Bool) (hi : exec i s = runInstr (escReg (signOp u)) s) :
        ∃ (fds : Half) (fdp : Word) (f : Fpu) (n : Nat), Ran i s { s.enter with fpu := f, draws := n } ∧
        let f0 := regPtrs s fds fdp
        if f0.isEmpty 0 then Settled (ifMasked f0.cw fun g => g.setSt 0 Ext.indefinite) (stackFlags false) f0 f
        else Settled (fun g => g.setSt 0 (BitVec.ofBool (u ((s.fpu.st 0).getLsbD 79)) ++ (f0.st 0).setWidth 79)) (fun w => { w with c1 := false }) f0 f := by
      obtain ⟨fds, fdp, g, n, hran, hg⟩ := ran_reg hon hi (signOp_fp u)
      refine ⟨fds, fdp, _, n, hran, ?_⟩
      dsimp only
      split at hg
      · next hc => rw [if_pos hc]; exact settled_of_opened hg
      · next hc => rw [if_neg hc, ← hneg]; exact settled_of_opened hg
    simp only [List.forall_mem_cons, List.not_mem_nil, false_implies, implies_true, and_true]
    exact ⟨run .fabs (fun _ => false) rfl, run .fchs (fun b => !b) rfl⟩
  · obtain ⟨fds, fdp, g, n, hran, tie, pe, up, c, hg⟩ := ran_reg hon (show exec .fscale s = runInstr (escReg fscale) s from rfl) fscale_fp
    refine ⟨fds, fdp, _, n, tie, pe, up, c, hran, ?_⟩
    have := settled_of_result hg
    simpa only [Bool.or_eq_true] using this
  · obtain ⟨fds, fdp, g, n, hran, hunder, hover, hg⟩ := ran_reg hon (show exec .fxtract s = runInstr (escReg fxtract) s from rfl) fxtract_fp
    refine ⟨fds, fdp, _, n, hran, fun h => settled_of_opened (hunder h), fun h0 h7 => settled_of_opened (hover h0 h7), fun h0 h7 => ?_⟩
    have hg := hg h0 h7
    generalize (regPtrs s fds fdp).st 0 = x at hg
    dsimp only
    refine ⟨fun h => ?_, fun h => ?_, fun h => ?_, fun h => ⟨_, settled_of_exact (extracted_normal h ▸ hg) rfl, ?_⟩⟩
    · exact settled_of_exact (extracted_qnan h ▸ hg) rfl
    · exact settled_of_exact (extracted_inf h ▸ hg) rfl
    · exact settled_of_zeroDivide (extracted_zero h ▸ hg)
    · refine ⟨be_mk (by decide), neg_mk _ _ _, BitVec.eq_of_toNat_eq (sig_mk (sig_lt x))⟩
  · have hi : exec (if near then .fprem1 else .fprem) s = runInstr (escReg (fprem near)) s := by cases near <;> rfl
    obtain ⟨fds, fdp, g, n, hran, tie, hg⟩ := ran_reg hon hi (fprem_fp near)
    refine ⟨fds, fdp, _, n, tie, hran, ?_⟩
    dsimp only
    split at hg
    · next hc =>
      obtain ⟨c0, c3, hg⟩ := hg
      rw [if_pos hc]
      exact ⟨c0, c3, final_of hg⟩
    · next hc =>
      obtain ⟨hstop, hres⟩ := hg
      rw [if_neg hc]
      split
      · next hnone =>
        obtain ⟨c1, hg⟩ := hstop hnone
        exact ⟨c1, final_of hg⟩
      · next hsome =>
        obtain ⟨c0, c1, c3, hg, hq⟩ := hres hsome
        exact ⟨c0, c1, c3, final_of hg, fun hie hx hy => hq (quotientKnown_of hie hx hy)⟩
  · exact sqrtExt_delivers hx (isDen_masked hm) hpc hpos
  · obtain ⟨hie, -, hres⟩ := denormal_keeps (n := sqrtResult (Fmt.ofPc cw) cw x) (isDen_masked hm)
    rw [← sqrtExt_finite hx, sqrtResult_neg hx hneg] at hie hres
    exact ⟨hie, hres⟩
  · obtain ⟨v, hv⟩ := rndintResult_rounds (cw := cw) hx
    obtain ⟨hrounded, hpe, hc1, hres⟩ := hv.denormal (isDen_masked hm)
    rw [← rndintExt_finite hx] at hpe hc1 hres
    exact ⟨v, hrounded, hpe, hc1, hres⟩
  · have hm : (Ext.isDen x || Ext.isDen y) = true → cwDm cw = true := fun h => hden (by simpa [Ext.isDen] using h)
    refine ⟨fun hb => scaleExt_delivers hx hy hx0 hm hb, fun hy0 hum near step => ?_⟩
    by_cases hgap : Int.log 2 |realOf x| - Int.log 2 |realOf y| < 64
    · obtain ⟨hdone, q, ⟨hpe, z, hres, hz⟩, hq, hchop, hnear⟩ := premExt_complete (near := near) (step := step) (tie := tie) hx hy hx0 hy0 hm hum hgap
      exact ⟨fun _ => ⟨hdone, q, z, hres, hz, hq, hchop, hnear⟩, fun h => absurd hgap (not_lt.mpr h), hpe⟩
    · obtain ⟨hdone, q, ⟨hpe, z, hres, hz⟩, hlt⟩ := premExt_incomplete (near := near) (step := step) (tie := tie) hx hy hx0 hy0 hm hum (not_lt.mp hgap)
      exact ⟨fun h => absurd h hgap, fun _ => ⟨hdone, q, z, hres, hz, by rw [hz]; exact hlt⟩, hpe⟩

end Sys2Proof.Laws

end
end

section
/-! ESC instructions that look at the latch, and results that only set exception flags (48_fpu_instructions.md R1145 to R1151). -/

noncomputable section

namespace Sys2Proof.Laws

open Sys2Proof Sys2Proof.Machine Sys2Proof.Claims

/-! ## Steps on the FPU of one state -/

/-- From the state `s` with the FPU `f` the computation changes the FPU and the draws alone, and ends as `Q` says. -/
def At {α : Type} (s : State) (f : Fpu) (m : M α) (Q : α → Fpu → Prop) : Prop :=
  ∀ n, ∃ v g n', m (withFpu s f n) = .ok v (withFpu s g n') ∧ Q v g

section
variable {α β : Type} {s : State} {f : Fpu} {m : M α} {h : α → M β} {Q : α → Fpu → Prop} {R : β → Fpu → Prop}

theorem Fp.at (hm : Fp f m Q) (s : State) : At s f m Q := hm s

theorem At.mono {P : α → Fpu → Prop} (hm : At s f m P) (himp : ∀ v g, P v g → Q v g) : At s f m Q := fun n => by
  obtain ⟨v, g, n', hrun, hP⟩ := hm n
  exact ⟨v, g, n', hrun, himp v g hP⟩

theorem At.seq (hm : At s f m fun v g => At s g (h v) R) : At s f (m >>= h) R := fun n => by
  obtain ⟨v, g, n', hrun, hrest⟩ := hm n
  obtain ⟨w, g', n'', hrun', hR⟩ := hrest n'
  exact ⟨w, g', n'', by rw [bind_of_ok hrun, hrun'], hR⟩

theorem At.ite {c : Prop} [Decidable c] {m m' : M α} (ht : c → At s f m Q) (he : ¬ c → At s f m' Q) : At s f (if c then m else m') Q := by
  split
  · exact ht ‹_›
  · exact he ‹_›

theorem At.get {h : State → M β} (hh : ∀ n, At s f (h (withFpu s f n)) R) : At s f (MonadState.get >>= h) R := fun n => hh n n

end

/-- An ESC instruction on registers that looks at more than the FPU. -/
theorem ran_reg_at {s : State} {i : Instr} {body : M Unit} {P : Fpu → Fpu → Prop} (hon : fpuOn s) (hi : exec i s = runInstr (escReg body) s)
    (hbody : ∀ f, At s.enter f body fun _ g => P f g) : ∃ (fds : Half) (fdp : Word) (g : Fpu) (n : Nat),
      Ran i s { s.enter with fpu := summarised g, draws := n } ∧ P (regPtrs s fds fdp) g := by
  obtain ⟨fds, fdp, n, hptr⟩ := pointersReg_run (s := s)
  obtain ⟨_, g, n', hrun, hP⟩ := hbody (regPtrs s fds fdp) n
  refine ⟨fds, fdp, g, n', ran_of_run hi ?_, hP⟩
  rw [escReg, bind_of_ok (escCheck_on hon true), bind_of_ok hptr, bind_of_ok hrun, summarise_run]
  rfl

/-! ## Changes that set flags and clear none -/

/-- Exception flags are only set, TOP and SF stay. -/
structure Grows (fl : Fsw → Fsw) : Prop where
  top : ∀ w, (fl w).top = w.top
  sf : ∀ w, (fl w).sf = w.sf
  ie : ∀ w, w.ie = true → (fl w).ie = true
  de : ∀ w, w.de = true → (fl w).de = true
  ze : ∀ w, w.ze = true → (fl w).ze = true
  oe : ∀ w, w.oe = true → (fl w).oe = true
  ue : ∀ w, w.ue = true → (fl w).ue = true
  pe : ∀ w, w.pe = true → (fl w).pe = true

/-- A change of the condition bits. -/
def setBits (c : Fsw → Bool × Bool × Bool × Bool) (w : Fsw) : Fsw := { w with c0 := (c w).1, c1 := (c w).2.1, c2 := (c w).2.2.1, c3 := (c w).2.2.2 }

theorem Grows.bits {fl : Fsw → Fsw} (h : Grows fl) (c : Fsw → Bool × Bool × Bool × Bool) : Grows fun w => setBits c (fl w) :=
  ⟨h.top, h.sf, h.ie, h.de, h.ze, h.oe, h.ue, h.pe⟩

theorem grows_id : Grows id := ⟨fun _ => rfl, fun _ => rfl, fun _ h => h, fun _ h => h, fun _ h => h, fun _ h => h, fun _ h => h, fun _ h => h⟩

theorem grows_raised (c : Bool) (r : Machine.Num) : Grows (raised c r) := by
  refine ⟨fun _ => rfl, fun _ => rfl, ?_, ?_, ?_, ?_, ?_, ?_⟩
  all_goals
    intro w h
    simp only [raised, h, Bool.true_or]

/-- The registers are changed, and of the status word TOP alone. -/
def MovesTop (k : Fpu → Fpu) : Prop := ∀ f, (k f).sw = { f.sw with top := (k f).sw.top }

theorem movesTop_id : MovesTop id := fun _ => rfl

theorem loose_summarised {k : Fpu → Fpu} {fl : Fsw → Fsw} {f : Fpu} (hk : MovesTop k) (hfl : Grows fl) : Loose k f (summarised (withSw (k f) fl)) := by
  have hsw := hk f
  refine ⟨rfl, hfl.top _, (hfl.sf _).trans (by rw [hsw]), rfl, fun h => hfl.ie _ ?_, fun h => hfl.de _ ?_, fun h => hfl.ze _ ?_, fun h => hfl.oe _ ?_,
    fun h => hfl.ue _ ?_, fun h => hfl.pe _ ?_⟩
  all_goals
    rw [hsw]
    exact h

/-! ## What a result makes of the FPU -/

/-- A result `n` delivered by `k`: without one the registers stay; ES apart. `clears` says that C2 is 0 then. -/
structure Settles (clears : Bool) (k : Ext → Fpu → Fpu) (n : Machine.Num) (f : Fpu) (fl : Fsw → Fsw) (g : Fpu) : Prop where
  grows : Grows fl
  result : g = withSw (withResult n.res k f) fl
  ie : n.ie = true → ∀ w, (fl w).ie = true
  ze : n.ze = true → ∀ w, (fl w).ze = true
  c2 : clears = true → n.res.isSome = true → ∀ w, (fl w).c2 = false

/-- Some flags are set, C2 among those cleared. -/
def Outcome (clears : Bool) (k : Ext → Fpu → Fpu) (n : Machine.Num) (f g : Fpu) : Prop := ∃ fl, Settles clears k n f fl g

section
variable {clears : Bool} {k : Ext → Fpu → Fpu} {n : Machine.Num} {f g : Fpu} (hk : ∀ v, MovesTop (k v)) (h : Outcome clears k n f g)
include hk h

theorem Outcome.loose_of_some {v : Ext} (hv : n.res = some v) : Loose (k v) f (summarised g) ∧ (clears = true → (summarised g).sw.c2 = false) ∧
    (n.ie = true → (summarised g).sw.ie = true) ∧ (n.ze = true → (summarised g).sw.ze = true) := by
  obtain ⟨fl, hgrows, hres, hie, hze, hc2⟩ := h
  rw [hv] at hres
  subst hres
  exact ⟨loose_summarised (hk v) hgrows, fun hc => hc2 hc (by rw [hv]; rfl) _, fun hi => hie hi _, fun hz => hze hz _⟩

theorem Outcome.loose : Loose id f (summarised g) ∨ ∃ v, Loose (k v) f (summarised g) ∧ (clears = true → (summarised g).sw.c2 = false) := by
  cases hres : n.res with
  | none =>
    obtain ⟨fl, hgrows, hg, -⟩ := h
    rw [hres] at hg
    subst hg
    exact .inl (loose_summarised movesTop_id hgrows)
  | some v =>
    obtain ⟨hloose, hc2, -⟩ := Outcome.loose_of_some hk h hres
    exact .inr ⟨v, hloose, hc2⟩

end

/-! ## Delivering a result with C2 -/

/-- The step changes registers and tags as `k` says, and clears C2. -/
def DoesC2 (m : M Unit) (k : Fpu → Fpu) : Prop := ∀ f, Fp f m fun _ g => g = withSw (k f) fun w => { w with c2 := false }

theorem DoesC2.fp {m : M Unit} {k : Fpu → Fpu} (h : DoesC2 m k) {f : Fpu} {Q : Unit → Fpu → Prop}
    (hQ : Q () (withSw (k f) fun w => { w with c2 := false })) : Fp f m Q := (h f).mono fun _ _ hg => hg ▸ hQ

section
variable {f : Fpu} {Q : Unit → Fpu → Prop} {n : Machine.Num} {m : Ext → M Unit} {k : Ext → Fpu → Fpu}

theorem outcome_of_raised (c : Bool) (bits : Fsw → Bool × Bool × Bool × Bool) :
    Outcome false k n f (withSw (withResult n.res k f) fun w => setBits bits (raised c n w)) :=
  ⟨_, (grows_raised c n).bits bits, rfl, fun h w => by simp [setBits, raised, h], fun h w => by simp [setBits, raised, h], nofun⟩

theorem drawC03_fp (hQ : ∀ c0 c3, Q () (withSw f fun w => setBits (fun w => (c0, w.c1, w.c2, c3)) w)) : Fp f drawC03 Q :=
  .seq <| drawBool_fp fun a => .seq <| drawBool_fp fun b => modifySw_fp (hQ a b)

/-- A result, then C2 = 0 and C0, C3 open. -/
theorem deliverC2_fp (hm : ∀ v, DoesC2 (m v) (k v)) (hk : ∀ v, OnStack (k v)) :
    Fp f (do deliverNum n m; drawC03) fun _ g => Outcome true k n f g := by
  refine .seq <| .seq <| drawBool_fp fun c => .seq <| modifySw_fp ?_
  show Fp (withSw f (raised c n)) _ _
  cases hres : n.res with
  | none =>
    refine .pure <| drawC03_fp fun c0 c3 => ⟨_, (grows_raised c n).bits fun w => (c0, w.c1, w.c2, c3), ?_, fun h w => ?_,
      fun h w => ?_, fun _ h => ?_⟩
    · rw [hres]
      rfl
    · simp [setBits, raised, h]
    · simp [setBits, raised, h]
    · rw [hres] at h
      cases h
  | some v =>
    refine (hm v).fp <| drawC03_fp fun c0 c3 => ⟨_, (grows_raised c n).bits fun w => (c0, w.c1, false, c3), ?_, fun h w => ?_, fun h w => ?_,
      fun _ _ w => rfl⟩
    · rw [hres, hk v f _ (raised_flagsOnly c n)]
      rfl
    · simp [setBits, raised, h]
    · simp [setBits, raised, h]

/-- A stack fault whose masked response clears C2. -/
theorem stackFaultC2_fp {overflow : Bool} {m : M Unit} {k : Fpu → Fpu} (hm : DoesC2 m k) (hk : OnStack k) :
    Fp f (do stackFault overflow m; drawC03) fun _ g => Opened (ifMasked f.cw k) (stackFlags overflow) f g := by
  refine .seq <| .seq <| modifySw_fp <| .get fun s n => .ite (fun hmask => ?_) fun hmask => ?_
  · have hmask : f.cw.getLsbD 0 = true := hmask
    refine hm.fp <| drawC03_fp fun c0 c3 => ⟨c0, false, c3, ?_⟩
    have hcomm := hk f _ (stackFlags_flagsOnly overflow)
    rw [ifMasked, if_pos hmask]
    exact congrArg (fun g => withSw (withSw g fun w => { w with c2 := false }) fun w => setBits (fun w => (c0, w.c1, w.c2, c3)) w) hcomm
  · have hmask : ¬ f.cw.getLsbD 0 = true := hmask
    refine .pure <| drawC03_fp fun c0 c3 => ⟨c0, f.sw.c2, c3, ?_⟩
    rw [ifMasked, if_neg hmask]
    rfl

/-- An operand out of range: only C2, C1 and what is open change. -/
theorem outOfRange_fp : Fp f (do outOfRange; drawC03) fun _ g => ∃ fl, Grows fl ∧ g = withSw f fl ∧ ∀ w, (fl w).c2 = true :=
  .seq <| .seq <| drawBool_fp fun c1 => .seq <| modifySw_fp <| modifySw_fp <| drawC03_fp fun c0 c3 =>
    ⟨_, grows_id.bits fun _ => (c0, c1, true, c3), rfl, fun _ => rfl⟩

end

end Sys2Proof.Laws

end
end

section
/-! The transcendental instructions: what they make of the FPU (48_fpu_instructions.md R1145 to R1151). -/

noncomputable section

namespace Sys2Proof.Laws

open Sys2Proof Sys2Proof.Machine Sys2Proof.Claims

/-! ## What they compute -/

theorem transNum_fp {f : Fpu} {u : RoundedReal} {c : TCase} {den : Bool} {Q : Machine.Num → Fpu → Prop}
    (hQ : ∀ free fpe fup, Q ((c.num f.cw u free fpe fup).denormal f.cw den) f) : Fp f (transNum u c den) Q :=
  .get fun _ _ => .seq <| draw_fp fun free => .seq <| drawBool_fp fun fpe => .seq <| drawBool_fp fun fup => .pure (hQ free fpe fup)

/-- The result of an instruction: `nan` is that for a NaN, unsupported operands included; else it is that of the case `c`, `u` being the unit's. -/
def TransNum (nan : Option Machine.Num) (den : Bool) (c : TCase) (cw : Half) (u : RoundedReal) (n : Machine.Num) : Prop :=
  nan = some n ∨ (nan = none ∧ ∃ free fpe fup, n = (c.num cw u free fpe fup).denormal cw den)

/-- The exceptions of invalid operands, of a denormal and of a division by zero are masked. -/
structure Masked (cw : Half) : Prop where
  im : cwIm cw = true
  dm : cwDm cw = true
  zm : cwZm cw = true

theorem masked_of_all {f : Fpu} (h : allMasked f) : Masked f.cw := by
  have hbit (i : Nat) (hi : (0x3F : Half).getLsbD i = true) : f.cw.getLsbD i = true := by
    have := congrArg (fun w => BitVec.getLsbD w i) (show f.cw &&& 0x3F = 0x3F from h)
    simp only [BitVec.getLsbD_and, hi, Bool.and_true] at this
    exact this
  exact ⟨hbit 0 (by decide), hbit 1 (by decide), hbit 2 (by decide)⟩

section
variable {nan : Option Machine.Num} {den : Bool} {c : TCase} {cw : Half} {u : RoundedReal} {n : Machine.Num} (hm : Masked cw)
include hm

theorem num_isSome (free : Ext) (fpe fup : Bool) : (c.num cw u free fpe fup).res.isSome = true := by
  have hinvalid (v : Ext) : (Machine.Num.invalid cw v).res.isSome = true := by rw [Machine.Num.invalid, hm.im]; rfl
  have hzero (v : Ext) : (Machine.Num.zeroDivide cw v).res.isSome = true := by rw [Machine.Num.zeroDivide, hm.zm]; rfl
  cases c with
  | invalid => exact hinvalid _
  | zeroDivide neg => exact hzero _
  | rounded d =>
    rw [TCase.num, Machine.Num.round]
    split <;> rfl
  | exact v => rfl
  | outOfRange => rfl
  | general => rfl
  | zeroFree => rfl
  | free => rfl

/-- Without a NaN, and with these masked, the flags and the value are those of the case. -/
theorem TransNum.of_none (h : TransNum nan den c cw u n) (hnan : nan = none) : ∃ free fpe fup, n.res = (c.num cw u free fpe fup).res ∧
    n.ie = (c.num cw u free fpe fup).ie ∧ n.ze = (c.num cw u free fpe fup).ze := by
  rcases h with h | ⟨-, free, fpe, fup, rfl⟩
  · rw [hnan] at h
    cases h
  · obtain ⟨hie, hze, hres⟩ := denormal_keeps (n := c.num cw u free fpe fup) (den := den) fun _ => hm.dm
    exact ⟨free, fpe, fup, hres, hie, hze⟩

theorem TransNum.isSome (h : TransNum nan den c cw u n) (hnan : ∀ m, nan = some m → m.res.isSome = true) : n.res.isSome = true := by
  rcases h with h | ⟨hnone, h⟩
  · exact hnan n h
  · obtain ⟨free, fpe, fup, hres, -⟩ := TransNum.of_none hm (.inr ⟨hnone, h⟩) hnone
    rw [hres]
    exact num_isSome hm free fpe fup

theorem nanCase_isSome {tie : Bool} {x y : Ext} {m : Machine.Num} (h : nanCase cw tie x y = some m) : m.res.isSome = true := by
  have hinvalid (v : Ext) : (Machine.Num.invalid cw v).res.isSome = true := by rw [Machine.Num.invalid, hm.im]; rfl
  rw [nanCase] at h
  split at h
  · exact Option.some.inj h ▸ hinvalid _
  · split at h
    · exact Option.some.inj h ▸ hinvalid _
    · split at h
      · exact Option.some.inj h ▸ rfl
      · cases h

theorem besideDenormal_isSome {m : Machine.Num} (h : m.res.isSome = true) : (m.besideDenormal cw den).res.isSome = true := by
  rw [Machine.Num.besideDenormal]
  split
  · rw [(denormal_keeps (n := m) (den := den) fun _ => hm.dm).2.2]
    exact h
  · exact h

end

/-! ## FSIN and FCOS -/

/-- An operand of a trigonometric function of 2^63 and more (R1145). -/
def Far (x : Ext) : Prop := Ext.cls x = .normal ∧ 16383 + 63 ≤ Ext.be x

theorem top_denormal {x : Ext} (h : Ext.cls x = .denormal) : (Ext.dy x).top < 0 := by
  have hbe := ((cls_denormal_iff x).mp h).1
  have hlen : bitLen (Ext.dy x).sig ≤ 64 := bitLen_le (sig_lt x)
  rw [Dy.top]
  show ((max (Ext.be x) 1 : Nat) - 16446 : ℤ) + bitLen (Ext.dy x).sig - 1 < 0
  rw [hbe]
  omega

theorem bigArg_normal {x : Ext} (h : Ext.cls x = .normal) : bigArg x = true ↔ 16383 + 63 ≤ Ext.be x := by
  rw [bigArg, top_normal h, decide_eq_true_iff]
  omega

theorem bigArg_denormal {x : Ext} (h : Ext.cls x = .denormal) : bigArg x = false := by
  have := top_denormal h
  rw [bigArg, decide_eq_false_iff_not]
  omega

/-- A value that is no NaN is a number or infinite. -/
theorem cls_of_nanCase1 {cw : Half} {x : Ext} (h : nanCase1 cw x = none) :
    Ext.cls x = .zero ∨ Ext.cls x = .inf ∨ Ext.cls x = .denormal ∨ Ext.cls x = .normal := by
  cases hc : Ext.cls x <;> simp [nanCase1, nanCase, hc] at h ⊢

theorem trigCase_outOfRange {cw : Half} {zero : Ext → Ext} {x : Ext} (h : nanCase1 cw x = none) : trigCase zero x = .outOfRange ↔ Far x := by
  rcases cls_of_nanCase1 h with hc | hc | hc | hc
  · rw [trigCase, hc, Far, hc]
    simp
  · rw [trigCase, hc, Far, hc]
    simp
  · rw [trigCase, hc, Far, hc, bigArg_denormal hc]
    simp
  · rw [trigCase, hc, Far, hc]
    dsimp only
    rw [← bigArg_normal hc]
    cases bigArg x <;> simp

theorem nanCase1_of_far {cw : Half} {x : Ext} (h : Far x) : nanCase1 cw x = none := nanCase1_finite cw (.inr (.inr h.1))

/-- Nothing but the condition bits changes, and C2 is 1. -/
def Strays (f g : Fpu) : Prop := ∃ fl, Grows fl ∧ g = withSw f fl ∧ ∀ w, (fl w).c2 = true

theorem Strays.loose {f g : Fpu} (h : Strays f g) : Loose id f (summarised g) ∧ (summarised g).sw.c2 = true := by
  obtain ⟨fl, hgrows, rfl, hc2⟩ := h
  exact ⟨loose_summarised movesTop_id hgrows, hc2 _⟩

/-- What FSIN and FCOS make of the FPU, ES apart. -/
structure TrigDone (zero : Ext → Ext) (u : RoundedReal) (f g : Fpu) : Prop where
  empty : f.isEmpty 0 = true → Opened (ifMasked f.cw fun g => g.setSt 0 Ext.indefinite) (stackFlags false) f g
  far : f.isEmpty 0 = false → Far (f.st 0) → Strays f g
  near : f.isEmpty 0 = false → ¬ Far (f.st 0) → ∃ n, TransNum (nanCase1 f.cw (f.st 0)) (Ext.isDen (f.st 0)) (trigCase zero (f.st 0)) f.cw u n ∧
    Outcome true (fun v g => g.setSt 0 v) n f g

theorem setStC2_does (v : Ext) : DoesC2 (do setSt 0 v; setC2 false) fun g => g.setSt 0 v := fun _ => .seq <| (setSt_does 0 v).fp <| modifySw_fp rfl

theorem trig_at (zero : Ext → Ext) (s : State) (f : Fpu) : At s f (trig zero) fun _ g => TrigDone zero s.cur.unit f g := by
  have hdeliver {n : Machine.Num} (h0 : f.isEmpty 0 = false) (hfar : ¬ Far (f.st 0))
      (hn : TransNum (nanCase1 f.cw (f.st 0)) (Ext.isDen (f.st 0)) (trigCase zero (f.st 0)) f.cw s.cur.unit n) :
      Fp f (do deliverNum n fun v => (do setSt 0 v; setC2 false); drawC03) fun _ g => TrigDone zero s.cur.unit f g :=
    (deliverC2_fp setStC2_does (setSt_onStack 0)).mono fun _ g hg =>
      ⟨fun h => absurd (h0.symm.trans h) Bool.false_ne_true, fun _ h => absurd h hfar, fun _ _ => ⟨n, hn, hg⟩⟩
  refine .get fun n => .ite (fun h0 => ?_) fun h0 => ?_
  all_goals rw [withFpu_fpu] at h0
  · refine Fp.at ((stackFaultC2_fp (setStC2_does _) (setSt_onStack 0 _)).mono fun _ g hg => ⟨fun _ => hg, fun h => ?_, fun h => ?_⟩) s
    all_goals exact absurd (h.symm.trans h0) Bool.false_ne_true
  · rw [Bool.not_eq_true] at h0
    rw [withFpu_fpu]
    cases hnan : nanCase1 f.cw (f.st 0) with
    | some m =>
      refine Fp.at (hdeliver h0 (fun h => ?_) (.inl hnan)) s
      rw [nanCase1_of_far h] at hnan
      cases hnan
    | none =>
      refine .ite (fun hc => ?_) fun hc => ?_
      · refine Fp.at (outOfRange_fp.mono fun _ g hg =>
          ⟨fun h => absurd (h0.symm.trans h) Bool.false_ne_true, fun _ _ => hg, fun _ h => absurd ((trigCase_outOfRange hnan).mp hc) h⟩) s
      · refine Fp.at (.seq <| transNum_fp fun free fpe fup => ?_) s
        exact hdeliver h0 (fun h => hc ((trigCase_outOfRange hnan).mpr h)) (.inr ⟨hnan, free, fpe, fup, rfl⟩)

end Sys2Proof.Laws

end
end

section
/-! The transcendental instructions with two operands or two results (48_fpu_instructions.md R1146 to R1151). -/

noncomputable section

namespace Sys2Proof.Laws

open Sys2Proof Sys2Proof.Machine Sys2Proof.Claims

/-! ## FSINCOS and FPTAN -/

/-- The second result is what `second` computes, but for an invalid operand, and the flags of both are set. -/
structure Pair (c : TCase) (n m all : Machine.Num) (snd : Ext → Ext) : Prop where
  res_eq : all.res = n.res
  ie_eq : all.ie = n.ie
  snd_eq : c ≠ .invalid → ∀ v w, m.res = some w → snd v = w

/-- What FSINCOS and FPTAN make of the FPU, ES apart; `S` says what the second result is. -/
structure TrigPushDone (u : RoundedReal) (S : Half → Ext → Machine.Num → Prop) (f g : Fpu) : Prop where
  fault : ¬ (f.isEmpty 0 = false ∧ f.isEmpty 7 = true) →
    Opened (ifMasked f.cw (bothResults Ext.indefinite Ext.indefinite)) (stackFlags (!f.isEmpty 0)) f g
  far : f.isEmpty 0 = false ∧ f.isEmpty 7 = true → Far (f.st 0) → Strays f g
  nan : ∀ n, nanCase1 f.cw (f.st 0) = some n → f.isEmpty 0 = false ∧ f.isEmpty 7 = true → Outcome true (fun v => bothResults v v) n f g
  near : f.isEmpty 0 = false ∧ f.isEmpty 7 = true → nanCase1 f.cw (f.st 0) = none → ¬ Far (f.st 0) → ∃ n m all snd,
    TransNum none (Ext.isDen (f.st 0)) (trigCase (fun z => z) (f.st 0)) f.cw u n ∧ S f.cw (f.st 0) m ∧
    Pair (trigCase (fun z => z) (f.st 0)) n m all snd ∧ Outcome true (fun v => bothResults v (snd v)) all f g

theorem bothC2_does (a b : Ext) : DoesC2 (do setSt 0 a; pushSt b; setC2 false) (bothResults a b) := fun _ =>
  .seq <| (setSt_does 0 a).fp <| .seq <| (pushSt_does b).fp <| modifySw_fp rfl

theorem trigPush_at {second : Ext → M Machine.Num} {S : Half → Ext → Machine.Num → Prop} {s : State} {f : Fpu}
    (hsecond : ∀ x, At s f (second x) fun m g => S f.cw x m ∧ g = f) :
    At s f (trigPush second) fun _ g => TrigPushDone s.cur.unit S f g := by
  have hdeliver {n : Machine.Num} {snd : Ext → Ext} : Fp f (do deliverNum n fun v => (do setSt 0 v; pushSt (snd v); setC2 false); drawC03)
      fun _ g => Outcome true (fun v => bothResults v (snd v)) n f g :=
    deliverC2_fp (fun v => bothC2_does v (snd v)) fun v => bothResults_onStack v (snd v)
  refine .get fun n => .ite (fun h0 => ?_) fun h0 => .ite (fun h7 => ?_) fun h7 => ?_
  all_goals rw [withFpu_fpu] at h0
  · refine Fp.at ((stackFaultC2_fp (bothC2_does _ _) (bothResults_onStack _ _)).mono fun _ g hg =>
      ⟨fun _ => by rw [h0]; exact hg, fun h => ?_, fun n _ h => ?_, fun h => ?_⟩) s
    all_goals exact absurd (h.1.symm.trans h0) Bool.false_ne_true
  · rw [Bool.not_eq_true] at h0
    rw [withFpu_fpu, Bool.not_eq_true'] at h7
    refine Fp.at ((stackFaultC2_fp (bothC2_does _ _) (bothResults_onStack _ _)).mono fun _ g hg =>
      ⟨fun _ => by rw [h0]; exact hg, fun h => ?_, fun n _ h => ?_, fun h => ?_⟩) s
    all_goals exact absurd (h7.symm.trans h.2) Bool.false_ne_true
  · rw [Bool.not_eq_true] at h0
    rw [withFpu_fpu, Bool.not_eq_true', Bool.not_eq_false] at h7
    rw [withFpu_fpu]
    have hrun : f.isEmpty 0 = false ∧ f.isEmpty 7 = true := ⟨h0, h7⟩
    cases hnan : nanCase1 f.cw (f.st 0) with
    | some m =>
      refine Fp.at ((hdeliver (snd := fun v => v)).mono fun _ g hg =>
        ⟨fun h => absurd hrun h, fun _ h => ?_, fun n hn _ => ?_, fun _ h => ?_⟩) s
      · rw [nanCase1_of_far h] at hnan
        cases hnan
      · rw [hnan] at hn
        exact Option.some.inj hn ▸ hg
      · rw [hnan] at h
        cases h
    | none =>
      have hnone (n : Machine.Num) (hn : nanCase1 f.cw (f.st 0) = some n) : False := by
        rw [hnan] at hn
        cases hn
      refine .ite (fun hc => ?_) fun hc => ?_
      · refine Fp.at (outOfRange_fp.mono fun _ g hg => ⟨fun h => absurd hrun h, fun _ _ => hg, fun n hn => (hnone n hn).elim,
          fun _ _ h => absurd ((trigCase_outOfRange hnan).mp hc) h⟩) s
      · refine .seq <| Fp.at (transNum_fp fun free fpe fup => .seq <| (hsecond _).mono ?_) s
        rintro m g' ⟨hS, rfl⟩
        refine Fp.at ((hdeliver (snd := fun v => if trigCase (fun z => z) (g'.st 0) = .invalid then v else m.res.getD v)).mono fun _ g hg =>
          ⟨fun h => absurd hrun h, fun _ h => absurd ((trigCase_outOfRange hnan).mpr h) hc, fun n hn => (hnone n hn).elim, fun _ _ _ => ?_⟩) s
        refine ⟨_, m, _, _, .inr ⟨rfl, free, fpe, fup, rfl⟩, hS, ⟨?_, ?_, fun hne v w hw => ?_⟩, hg⟩
        · split <;> rfl
        · split <;> rfl
        · rw [if_neg hne, hw]
          rfl

/-! ## F2XM1 -/

theorem deliverOpen_fp {n : Machine.Num} {m : Ext → M Unit} {k : Ext → Fpu → Fpu} {f : Fpu} (hm : ∀ v, Does (m v) (k v)) (hk : ∀ v, OnStack (k v)) :
    Fp f (do deliverNum n m; drawC023) fun _ g => Outcome false k n f g :=
  .seq <| deliverNum_fp hm hk fun c => drawC023_fp fun c0 c2 c3 => outcome_of_raised c fun w => (c0, w.c1, c2, c3)

theorem stackFaultOpen_fp {overflow : Bool} {m : M Unit} {k : Fpu → Fpu} {f : Fpu} (hm : Does m k) (hk : OnStack k) :
    Fp f (do stackFault overflow m; drawC023) fun _ g => Opened (ifMasked f.cw k) (stackFlags overflow) f g :=
  .seq <| stackFault_fp hm hk <| drawC023_opened fun _ hg => hg

/-- What F2XM1 makes of the FPU, ES apart. -/
structure F2xm1Done (u : RoundedReal) (f g : Fpu) : Prop where
  empty : f.isEmpty 0 = true → Opened (ifMasked f.cw fun g => g.setSt 0 Ext.indefinite) (stackFlags false) f g
  full : f.isEmpty 0 = false → ∃ n, TransNum (nanCase1 f.cw (f.st 0)) (Ext.isDen (f.st 0)) (f2xm1Case (f.st 0)) f.cw u n ∧
    Outcome false (fun v g => g.setSt 0 v) n f g

theorem f2xm1_at (s : State) (f : Fpu) : At s f f2xm1 fun _ g => F2xm1Done s.cur.unit f g := by
  refine .get fun n => .ite (fun h0 => ?_) fun h0 => ?_
  all_goals rw [withFpu_fpu] at h0
  · refine Fp.at ((stackFaultOpen_fp (setSt_does 0 _) (setSt_onStack 0 _)).mono fun _ g hg =>
      ⟨fun _ => hg, fun h => absurd (h.symm.trans h0) Bool.false_ne_true⟩) s
  · rw [withFpu_fpu]
    have hfull {g : Fpu} (h : ∃ n, TransNum (nanCase1 f.cw (f.st 0)) (Ext.isDen (f.st 0)) (f2xm1Case (f.st 0)) f.cw s.cur.unit n ∧
        Outcome false (fun v g => g.setSt 0 v) n f g) : F2xm1Done s.cur.unit f g := ⟨fun h => absurd h h0, fun _ => h⟩
    cases hnan : nanCase1 f.cw (f.st 0) with
    | some m => exact Fp.at ((deliverOpen_fp (setSt_does 0) (setSt_onStack 0)).mono fun _ g hg => hfull ⟨m, .inl hnan, hg⟩) s
    | none => exact Fp.at (.seq <| transNum_fp fun free fpe fup =>
        (deliverOpen_fp (setSt_does 0) (setSt_onStack 0)).mono fun _ g hg => hfull ⟨_, .inr ⟨hnan, free, fpe, fup, rfl⟩, hg⟩) s

/-! ## FPATAN, FYL2X, FYL2XP1 -/

/-- The result replaces ST(1), then a pop. -/
def putPop (v : Ext) (g : Fpu) : Fpu := (g.setSt 1 v).pop

theorem putPop_does (v : Ext) : Does (do setSt 1 v; popSt 1) (putPop v) := (setSt_does 1 v).seq (popSt_does 1)

theorem putPop_onStack (v : Ext) : OnStack (putPop v) := pop_onStack.comp (setSt_onStack 1 v)

/-- The result for two operands one of which is a NaN. -/
def nanPair (cw : Half) (tie : Bool) (x y : Ext) : Option Machine.Num :=
  (nanCase cw tie x y).map fun n => n.besideDenormal cw (Ext.isDen x || Ext.isDen y)

/-- What FPATAN, FYL2X and FYL2XP1 make of the FPU, ES apart. -/
structure TransPopDone (case : Ext → Ext → TCase) (u : RoundedReal) (f g : Fpu) : Prop where
  fault : ¬ (f.isEmpty 0 = false ∧ f.isEmpty 1 = false) → Opened (ifMasked f.cw (putPop Ext.indefinite)) (stackFlags false) f g
  full : f.isEmpty 0 = false ∧ f.isEmpty 1 = false → ∃ tie n,
    TransNum (nanPair f.cw tie (f.st 0) (f.st 1)) (Ext.isDen (f.st 0) || Ext.isDen (f.st 1)) (case (f.st 1) (f.st 0)) f.cw u n ∧
    Outcome false putPop n f g

theorem transPop_at (case : Ext → Ext → TCase) (s : State) (f : Fpu) : At s f (transPop case) fun _ g => TransPopDone case s.cur.unit f g := by
  refine .get fun n => .seq <| Fp.at (drawBool_fp fun tie => .ite (fun hc => ?_) fun hc => ?_) s
  all_goals rw [withFpu_fpu, Bool.or_eq_true] at hc
  · have hempty : ¬ (f.isEmpty 0 = false ∧ f.isEmpty 1 = false) := fun ⟨h0, h1⟩ =>
      hc.elim (fun h => absurd (h0.symm.trans h) Bool.false_ne_true) fun h => absurd (h1.symm.trans h) Bool.false_ne_true
    refine Fp.at ((stackFaultOpen_fp (putPop_does _) (putPop_onStack _)).mono fun _ g hg => ⟨fun _ => hg, fun h => absurd h hempty⟩) s
  · have hrun : f.isEmpty 0 = false ∧ f.isEmpty 1 = false := by simpa using hc
    rw [withFpu_fpu]
    have hfull {g : Fpu} {n : Machine.Num}
        (h : TransNum (nanPair f.cw tie (f.st 0) (f.st 1)) (Ext.isDen (f.st 0) || Ext.isDen (f.st 1)) (case (f.st 1) (f.st 0)) f.cw s.cur.unit n)
        (hg : Outcome false putPop n f g) : TransPopDone case s.cur.unit f g := ⟨fun h => absurd hrun h, fun _ => ⟨tie, n, h, hg⟩⟩
    cases hnan : nanCase f.cw tie (f.st 0) (f.st 1) with
    | some m => exact Fp.at ((deliverOpen_fp putPop_does putPop_onStack).mono fun _ g hg => hfull (.inl (by rw [nanPair, hnan]; rfl)) hg) s
    | none =>
      refine Fp.at (.seq <| transNum_fp fun free fpe fup => (deliverOpen_fp putPop_does putPop_onStack).mono fun _ g hg =>
        hfull (.inr ⟨by rw [nanPair, hnan]; rfl, free, fpe, fup, rfl⟩) hg) s

end Sys2Proof.Laws

end
end

section
/-! Results of the transcendental unit in a register, and the cases of the two-operand functions (47_fpu_numerics.md R1034, R1041). -/

noncomputable section

namespace Sys2Proof.Laws

open Sys2Proof Sys2Proof.Machine Sys2Proof.Claims

theorem extReal_eq (x : Ext) : extReal x = realOf x := by
  rw [extReal, realOf_eq, sign]
  ring

/-! ## A result within the error bound -/

theorem sig_with_integer_bit {sig : BitVec 64} (h : sig.getLsbD 63 = true) : sig ||| 0x8000000000000000#64 = sig := by
  have hconst : (0x8000000000000000#64 : BitVec 64) = BitVec.twoPow 64 63 := by decide
  refine BitVec.eq_of_getLsbD_eq fun i hi => ?_
  rw [hconst, BitVec.getLsbD_or, BitVec.getLsbD_twoPow]
  by_cases h63 : 63 = i
  · rw [← h63, h]
    rfl
  · simp [h63]

/-- The result of the unit as an exact value. -/
def unitDy (r : RoundedReal) : Dy := { neg := r.neg, sig := r.sig.toNat, exp := r.exp - 63, sticky := false }

section
variable {r : RoundedReal} (hsig : 2 ^ 63 ≤ r.sig.toNat)
include hsig

theorem stands_unitDy : Stands (unitDy r) (resultReal r) := stands_signed (neg := r.neg) (m := r.sig.toNat) (by omega) (r.exp - 63)

theorem top_unitDy : (unitDy r).top = r.exp := by
  have hlen : bitLen r.sig.toNat = 64 := le_antisymm (bitLen_le r.sig.isLt) (lt_bitLen hsig)
  show r.exp - 63 + bitLen r.sig.toNat - 1 = r.exp
  rw [hlen]
  omega

/-- In the range of normal numbers the result is delivered as it is. -/
theorem ofRounded_delivers {cw : Half} (hlow : (2 : ℝ) ^ (-16382 : ℤ) < |resultReal r|) (hhigh : |resultReal r| < (2 : ℝ) ^ (16384 : ℤ)) :
    ∃ v, (Machine.Num.ofRounded cw r).res = some v ∧ finiteCls v ∧ realOf v = resultReal r := by
  have hd : (unitDy r).sig ≠ 0 := show r.sig.toNat ≠ 0 by omega
  have hstands := stands_unitDy hsig
  have hexp : -16382 ≤ r.exp := by
    by_contra hlt
    have := (hstands.lt_iff hd (-16382)).mpr (by rw [top_unitDy hsig]; omega)
    exact absurd this (not_lt.mpr hlow.le)
  have htiny : tinyReal r = false := by
    have hnotmin : ¬ (r.exp = -16382 ∧ r.sig = 0x8000000000000000#64) := by
      rintro ⟨h1, h2⟩
      refine hlow.ne ?_
      rw [hstands.exact rfl]
      show (2 : ℝ) ^ (-16382 : ℤ) = (r.sig.toNat : ℝ) * (2 : ℝ) ^ (r.exp - 63)
      have h63 : ((r.sig.toNat : Nat) : ℝ) = (2 : ℝ) ^ (63 : ℤ) := by
        rw [h2]
        norm_num
      rw [h63, h1, ← zpow_split]
      congr 1
    rw [tinyReal, Bool.or_eq_false_iff]
    refine ⟨decide_eq_false (by omega), ?_⟩
    simp only [Bool.and_eq_false_iff, decide_eq_false_iff_not, beq_eq_false_iff_ne]
    tauto
  have hround : (Machine.Num.ofRounded cw r).res = (Machine.Num.round .ext cw r.neg (unitDy r)).res := by
    have hnot : ¬ (unitDy r).top < 1 - (Fmt.ext.bias : ℤ) := by
      rw [top_unitDy hsig, show (Fmt.ext.bias : ℤ) = 16383 from rfl]
      omega
    have hbit : r.sig.getLsbD 63 = true := by
      rw [← BitVec.testBit_toNat, Nat.testBit_eq_decide_div_mod_eq, decide_eq_true_iff]
      have := r.sig.isLt
      omega
    have hnorm : (r.sig ||| 0x8000000000000000#64).toNat = r.sig.toNat := by rw [sig_with_integer_bit hbit]
    rw [round_eq hd, finish, decide_eq_false hnot, Machine.Num.ofRounded, htiny, hnorm]
    rfl
  have hexact : ExactResult (Machine.Num.round .ext cw r.neg (unitDy r)) (resultReal r) r.neg :=
    round_exact hstands rfl hd ⟨hstands.exact rfl, r.sig.isLt⟩ hhigh (.inl hlow.le)
  obtain ⟨v, hv, hval, -⟩ := hexact.res
  exact ⟨v, hround.trans hv, hexact.finite v hv, hval⟩

end

/-- A result close to the exact value is delivered within the bound (R1034). -/
theorem near_ofRounded {rc : BitVec 2} {cw : Half} {e : ℝ} {r : RoundedReal} (h : CloseTo rc e r) :
    ∃ v, (Machine.Num.ofRounded cw r).res = some v ∧ Near rc e v := by
  by_cases hrange : (2 : ℝ) ^ (-16381 : ℤ) ≤ |e| ∧ |e| ≤ (2 : ℝ) ^ (16383 : ℤ)
  · obtain ⟨hlow, hhigh⟩ := hrange
    have hpos : 0 < |e| := lt_of_lt_of_le (by positivity) hlow
    obtain ⟨hbit, hclose, -⟩ := h (abs_pos.mp hpos)
    have hsig : 2 ^ 63 ≤ r.sig.toNat := by
      rw [← BitVec.testBit_toNat, Nat.testBit_eq_decide_div_mod_eq, decide_eq_true_iff] at hbit
      omega
    have hsmall : |resultReal r - e| < |e| / 4 := by
      have hulp : ulp e ≤ |e| / 8 := by
        have hlog := Int.zpow_log_le_self one_lt_two hpos
        rw [Nat.cast_ofNat] at hlog
        have h60 : (2 : ℝ) ^ (-63 : ℤ) ≤ 1 / 8 := by
          rw [show (1 / 8 : ℝ) = (2 : ℝ) ^ (-3 : ℤ) by norm_num]
          exact zpow_le_zpow_right₀ one_le_two (by decide)
        rw [ulp, sub_eq_add_neg, zpow_split]
        calc (2 : ℝ) ^ Int.log 2 |e| * (2 : ℝ) ^ (-63 : ℤ) ≤ |e| * (1 / 8) := mul_le_mul hlog h60 (by positivity) hpos.le
          _ = |e| / 8 := by ring
      have hbound : ulpBound rc ≤ 3 / 2 := by
        rw [ulpBound]
        split <;> norm_num
      have hulp0 := ulp_pos e
      nlinarith
    have htri := abs_sub_abs_le_abs_sub e (resultReal r)
    have htri' := abs_sub_abs_le_abs_sub (resultReal r) e
    rw [abs_sub_comm] at htri
    have hlow2 : (2 : ℝ) ^ (-16381 : ℤ) = 2 * (2 : ℝ) ^ (-16382 : ℤ) := by
      rw [show (-16381 : ℤ) = 1 + -16382 by norm_num, zpow_split, zpow_one]
    have hhigh2 : (2 : ℝ) ^ (16384 : ℤ) = 2 * (2 : ℝ) ^ (16383 : ℤ) := by
      rw [show (16384 : ℤ) = 1 + 16383 by norm_num, zpow_split, zpow_one]
    have hunit : (0 : ℝ) < (2 : ℝ) ^ (-16382 : ℤ) := by positivity
    have hbelow : |resultReal r| < (2 : ℝ) ^ (16384 : ℤ) := by
      rw [hhigh2]
      generalize (2 : ℝ) ^ (16383 : ℤ) = b at hhigh
      linarith
    obtain ⟨v, hv, hfin, hval⟩ := ofRounded_delivers (cw := cw) hsig (by linarith) hbelow
    exact ⟨v, hv, fun _ _ => ⟨hfin, hval ▸ hclose⟩⟩
  · exact ⟨_, rfl, fun h1 h2 => absurd ⟨h1, h2⟩ hrange⟩

/-! ## The range of FYL2XP1 -/

/-- The number an exact value stands for. -/
def dyReal (d : Dy) : ℝ := sign d.neg * (d.sig * (2 : ℝ) ^ d.exp)

theorem dyReal_dy (x : Ext) : dyReal (Ext.dy x) = realOf x := by
  rw [dyReal, ← abs_realOf_dy]
  exact (realOf_sign x).symm

theorem alignedInt_dyReal (d : Dy) {e : ℤ} (he : e ≤ d.exp) : (alignedInt d e : ℝ) * 2 ^ e = dyReal d := by
  obtain ⟨j, hj⟩ : ∃ j : Nat, d.exp = e + j := ⟨(d.exp - e).toNat, by omega⟩
  rw [alignedInt, show (d.exp - e).toNat = j by omega, dyReal, hj, zpow_split, zpow_natCast, Nat.shiftLeft_eq, sign]
  cases d.neg <;> push_cast <;> simp <;> ring

/-- A sum of any two exact values. -/
theorem addDy_real (a b : Dy) : dyReal (addDy a b) = dyReal a + dyReal b ∧ ((addDy a b).neg = true ↔ dyReal a + dyReal b < 0) ∧
    ((addDy a b).sig = 0 ↔ dyReal a + dyReal b = 0) := by
  obtain ⟨e, t, he, ht, hdy⟩ : ∃ e t : ℤ, (e ≤ a.exp ∧ e ≤ b.exp) ∧ t = alignedInt a e + alignedInt b e ∧
      addDy a b = { neg := decide (t < 0), sig := t.natAbs, exp := e, sticky := false } :=
    ⟨_, _, ⟨min_le_left _ _, min_le_right _ _⟩, rfl, rfl⟩
  have hpow : (0 : ℝ) < 2 ^ e := by positivity
  have hsum : dyReal a + dyReal b = t * 2 ^ e := by
    rw [← alignedInt_dyReal a he.1, ← alignedInt_dyReal b he.2, ht]
    push_cast
    ring
  rw [hsum, hdy]
  refine ⟨?_, ?_, ?_⟩
  · have habs : (t.natAbs : ℝ) = |(t : ℝ)| := by rw [Nat.cast_natAbs, Int.cast_abs]
    show sign (decide (t < 0)) * ((t.natAbs : ℝ) * 2 ^ e) = t * 2 ^ e
    rw [habs, ← mul_assoc]
    congr 1
    by_cases hneg : t < 0
    · rw [decide_eq_true hneg, sign, if_pos rfl, abs_of_neg (Int.cast_lt_zero.mpr hneg)]
      ring
    · rw [decide_eq_false hneg, sign, if_neg Bool.false_ne_true, one_mul, abs_of_nonneg (by exact_mod_cast not_lt.mp hneg)]
  · rw [mul_pos_neg_iff hpow, Int.cast_lt_zero]
    exact decide_eq_true_iff
  · show t.natAbs = 0 ↔ _
    rw [Int.natAbs_eq_zero, mul_eq_zero, or_iff_left hpow.ne', Int.cast_eq_zero]

theorem realOf_one (neg : Bool) : realOf (Ext.one neg) = sign neg := by
  have hpow : ((2 ^ 63 : Nat) : ℝ) * (2 : ℝ) ^ ((max 0x3FFF 1 : Nat) - 16446 : ℤ) = 1 := by
    rw [show (max 0x3FFF 1 : Nat) = 16383 by decide]
    norm_num
  rw [Ext.one, realOf_mk (by decide) (by decide), mul_assoc, hpow, mul_one]

/-- The square of the sum of `x` and 1. -/
def squareDy (x : Ext) : Dy :=
  { neg := false, sig := (addDy (Ext.dy x) (Ext.dy (Ext.one false))).sig * (addDy (Ext.dy x) (Ext.dy (Ext.one false))).sig,
    exp := 2 * (addDy (Ext.dy x) (Ext.dy (Ext.one false))).exp, sticky := false }

theorem squareDy_real (x : Ext) : dyReal (squareDy x) = (realOf x + 1) * (realOf x + 1) := by
  have hone : dyReal (Ext.dy (Ext.one false)) = 1 := by rw [dyReal_dy, realOf_one, sign, if_neg Bool.false_ne_true]
  obtain ⟨hsum, -, -⟩ := addDy_real (Ext.dy x) (Ext.dy (Ext.one false))
  rw [hone, dyReal_dy] at hsum
  rw [← hsum, squareDy, dyReal, dyReal]
  generalize addDy (Ext.dy x) (Ext.dy (Ext.one false)) = d
  dsimp only
  rw [two_mul, zpow_split]
  push_cast
  have hsq := sign_mul_sign d.neg
  rw [show sign false = 1 from if_neg Bool.false_ne_true]
  linear_combination (-(d.sig * d.sig * ((2 : ℝ) ^ d.exp * (2 : ℝ) ^ d.exp))) * hsq

/-- Within the range R1151 states, the test passes. -/
theorem yl2xp1Range_of {x : Ext} (hx : realOf x ≠ 0) (hlow : -(1 - √2 / 2) < realOf x) (hhigh : realOf x < √2 - 1) : yl2xp1Range x = true := by
  have hsqrt : √2 * √2 = 2 := Real.mul_self_sqrt zero_le_two
  have hsqrt0 : 0 ≤ √2 := Real.sqrt_nonneg 2
  have hneg := realOf_neg_iff (sig_ne_zero hx)
  have hone : dyReal (Ext.dy (Ext.one false)) = 1 := by rw [dyReal_dy, realOf_one, sign, if_neg Bool.false_ne_true]
  obtain ⟨-, hsumneg, -⟩ := addDy_real (Ext.dy x) (Ext.dy (Ext.one false))
  rw [hone, dyReal_dy] at hsumneg
  show (if Ext.neg x then _ else (addDy (squareDy x) { neg := true, sig := 2, exp := 0, sticky := false }).neg) = true
  split
  · have hpos : ¬ realOf x + 1 < 0 := by nlinarith
    have hdouble : dyReal { squareDy x with exp := (squareDy x).exp + 1 } = 2 * ((realOf x + 1) * (realOf x + 1)) := by
      rw [← squareDy_real, dyReal, dyReal]
      dsimp only
      rw [zpow_split, zpow_one]
      ring
    have hminus : dyReal { neg := true, sig := 1, exp := 0, sticky := false } = -1 := by simp [dyReal, sign]
    obtain ⟨-, htneg, htzero⟩ := addDy_real { squareDy x with exp := (squareDy x).exp + 1 } { neg := true, sig := 1, exp := 0, sticky := false }
    rw [hdouble, hminus] at htneg htzero
    have hgt : 1 < 2 * ((realOf x + 1) * (realOf x + 1)) := by nlinarith
    have h1 : (addDy (Ext.dy x) (Ext.dy (Ext.one false))).neg = false := by
      rw [← Bool.not_eq_true, hsumneg]
      exact hpos
    have h2 : (addDy { squareDy x with exp := (squareDy x).exp + 1 } { neg := true, sig := 1, exp := 0, sticky := false }).neg = false := by
      rw [← Bool.not_eq_true, htneg]
      linarith
    have h3 : (addDy { squareDy x with exp := (squareDy x).exp + 1 } { neg := true, sig := 1, exp := 0, sticky := false }).sig ≠ 0 := by
      rw [Ne, htzero]
      exact fun h => by linarith
    show (!(addDy (Ext.dy x) (Ext.dy (Ext.one false))).neg && (!(addDy { squareDy x with exp := (squareDy x).exp + 1 } _).neg && _)) = true
    rw [h1, h2]
    exact bne_iff_ne.mpr h3
  · next hn =>
    have hx0 : 0 ≤ realOf x := not_lt.mp fun h => hn (hneg.mpr h)
    have hminus : dyReal { neg := true, sig := 2, exp := 0, sticky := false } = -2 := by simp [dyReal, sign]
    obtain ⟨-, htneg, -⟩ := addDy_real (squareDy x) { neg := true, sig := 2, exp := 0, sticky := false }
    rw [squareDy_real, hminus] at htneg
    rw [htneg]
    nlinarith

end Sys2Proof.Laws

end
end

section
/-! What the transcendental instructions leave, in the words of the claim (48_fpu_instructions.md R1145 to R1151). -/

noncomputable section

namespace Sys2Proof.Laws

open Sys2Proof Sys2Proof.Machine Sys2Proof.Claims

/-! ## Operands that are no NaNs -/

theorem nanCase_none {cw : Half} {tie : Bool} {x y : Ext} (hx : finiteCls x ∨ Ext.cls x = .inf) (hy : finiteCls y ∨ Ext.cls y = .inf) :
    nanCase cw tie x y = none := by
  rcases hx with (hx | hx | hx) | hx <;> rcases hy with (hy | hy | hy) | hy <;> simp [nanCase, hx, hy]

theorem nanCase1_inf {cw : Half} {x : Ext} (hx : Ext.cls x = .inf) : nanCase1 cw x = none := nanCase_none (.inr hx) (.inr hx)

section
variable {nan : Option Machine.Num} {den : Bool} {c : TCase} {cw : Half} {u : RoundedReal} {n : Machine.Num} (hm : Masked cw)
  (h : TransNum nan den c cw u n) (hnan : nan = none)
include hm h hnan

theorem TransNum.exact {v : Ext} (hc : c = .exact v) : n.res = some v := by
  obtain ⟨free, fpe, fup, hres, -⟩ := h.of_none hm hnan
  rw [hres, hc]
  rfl

theorem TransNum.invalid (hc : c = .invalid) : n.res = some Ext.indefinite ∧ n.ie = true := by
  obtain ⟨free, fpe, fup, hres, hie, -⟩ := h.of_none hm hnan
  rw [hres, hie, hc]
  exact ⟨if_pos hm.im, rfl⟩

theorem TransNum.zeroDivide {b : Bool} (hc : c = .zeroDivide b) : n.res = some (Ext.inf b) ∧ n.ze = true := by
  obtain ⟨free, fpe, fup, hres, -, hze⟩ := h.of_none hm hnan
  rw [hres, hze, hc]
  exact ⟨if_pos hm.zm, rfl⟩

theorem TransNum.general (hc : c = .general) : n.res = (Machine.Num.ofRounded cw u).res := by
  obtain ⟨free, fpe, fup, hres, -⟩ := h.of_none hm hnan
  rw [hres, hc]
  rfl

theorem TransNum.zeroFree (hc : c = .zeroFree) : ∃ v, n.res = some v := by
  obtain ⟨free, fpe, fup, hres, -⟩ := h.of_none hm hnan
  exact ⟨_, hres.trans (by rw [hc]; rfl)⟩

end

/-! ## FSIN and FCOS -/

theorem setSt_movesTop (v : Ext) : MovesTop fun g => g.setSt 0 v := fun _ => rfl
theorem bothResults_movesTop (a b : Ext) : MovesTop (bothResults a b) := fun _ => rfl
theorem putPop_movesTop (v : Ext) : MovesTop (putPop v) := fun _ => rfl

section
variable {zero : Ext → Ext} {u : RoundedReal} {f g : Fpu}

theorem trigCase_inf {x : Ext} (hx : Ext.cls x = .inf) : trigCase zero x = .invalid := by rw [trigCase, hx]
theorem trigCase_zero {x : Ext} (hx : Ext.cls x = .zero) : trigCase zero x = .exact (zero x) := by rw [trigCase, hx]

/-- An operand in range. -/
theorem trigCase_general {x : Ext} (hx : Ext.cls x = .normal ∨ Ext.cls x = .denormal) (hfar : ¬ Far x) : trigCase zero x = .general := by
  rcases hx with hx | hx
  · have hbig : bigArg x = false := by
      rw [← Bool.not_eq_true, bigArg_normal hx]
      exact fun h => hfar ⟨hx, h⟩
    rw [trigCase, hx]
    dsimp only
    rw [hbig]
    rfl
  · rw [trigCase, hx]
    dsimp only
    rw [bigArg_denormal hx]
    rfl

theorem TrigDone.claims (h : TrigDone zero u f g) :
    (f.isEmpty 0 = true → Settled (ifMasked f.cw fun g => g.setSt 0 Ext.indefinite) (stackFlags false) f (summarised g)) ∧
    (f.isEmpty 0 = false → Far (f.st 0) → Loose id f (summarised g) ∧ (summarised g).sw.c2 = true) ∧
    (f.isEmpty 0 = false → ¬ Far (f.st 0) →
      Loose id f (summarised g) ∨ ∃ v, Loose (fun g => g.setSt 0 v) f (summarised g) ∧ (summarised g).sw.c2 = false) ∧
    (f.isEmpty 0 = false → allMasked f → ¬ Far (f.st 0) →
      ∃ v, Loose (fun g => g.setSt 0 v) f (summarised g) ∧ (summarised g).sw.c2 = false ∧
        (Ext.cls (f.st 0) = .inf → v = Ext.indefinite ∧ (summarised g).sw.ie = true) ∧ (Ext.cls (f.st 0) = .zero → v = zero (f.st 0))) := by
  refine ⟨fun h0 => settled_of_opened (h.empty h0), fun h0 hfar => (h.far h0 hfar).loose, fun h0 hfar => ?_, fun h0 hall hfar => ?_⟩
  · obtain ⟨n, -, hout⟩ := h.near h0 hfar
    exact (Outcome.loose setSt_movesTop hout).imp_right fun ⟨v, hloose, hc2⟩ => ⟨v, hloose, hc2 rfl⟩
  · obtain ⟨n, hn, hout⟩ := h.near h0 hfar
    have hm := masked_of_all hall
    obtain ⟨v, hv⟩ := Option.isSome_iff_exists.mp (hn.isSome hm fun _ => nanCase_isSome hm)
    obtain ⟨hloose, hc2, hie, -⟩ := Outcome.loose_of_some setSt_movesTop hout hv
    refine ⟨v, hloose, hc2 rfl, fun hc => ?_, fun hc => ?_⟩
    · obtain ⟨hres, hi⟩ := hn.invalid hm (nanCase1_inf hc) (trigCase_inf hc)
      exact ⟨Option.some.inj (hv.symm.trans hres), hie hi⟩
    · exact Option.some.inj (hv.symm.trans (hn.exact hm (nanCase1_finite _ (.inl hc)) (trigCase_zero hc)))

/-- An operand in range gives the unit's result. -/
theorem TrigDone.general {v : Ext} (h : TrigDone zero u f g) (h0 : f.isEmpty 0 = false) (hall : allMasked f) (hx : Ext.cls (f.st 0) = .normal)
    (hfar : ¬ Far (f.st 0)) (hv : (Machine.Num.ofRounded f.cw u).res = some v) : Loose (fun g => g.setSt 0 v) f (summarised g) := by
  obtain ⟨n, hn, hout⟩ := h.near h0 hfar
  have hres := hn.general (masked_of_all hall) (nanCase1_finite _ (.inr (.inr hx))) (trigCase_general (.inl hx) hfar)
  exact (Outcome.loose_of_some setSt_movesTop hout (hres.trans hv)).1

end

/-! ## FSINCOS and FPTAN -/

/-- The cosine of FSINCOS. -/
def CosNum (u : RoundedReal) (cw : Half) (x : Ext) (m : Machine.Num) : Prop := TransNum none false (trigCase (fun _ => Ext.one false) x) cw u m

/-- The 1.0 of FPTAN. -/
def OneNum (_ : Half) (_ : Ext) (m : Machine.Num) : Prop := m = Machine.Num.exact (Ext.one false)

theorem cosOf_at (s : State) (f : Fpu) (x : Ext) : At s f (cosOf x) fun m g => CosNum s.cur.unit2 f.cw x m ∧ g = f :=
  .get fun _ => Fp.at (transNum_fp fun free fpe fup => ⟨.inr ⟨rfl, free, fpe, fup, rfl⟩, rfl⟩) s

theorem oneOf_at (s : State) (f : Fpu) (x : Ext) : At s f (oneOf x) fun m g => OneNum f.cw x m ∧ g = f := Fp.at (.pure ⟨rfl, rfl⟩) s

section
variable {u : RoundedReal} {S : Half → Ext → Machine.Num → Prop} {f g : Fpu}

theorem TrigPushDone.claims (h : TrigPushDone u S f g)
    (hS : ∀ x m, Masked f.cw → S f.cw x m → Ext.cls x = .zero → m.res = some (Ext.one false)) :
    let run := f.isEmpty 0 = false ∧ f.isEmpty 7 = true
    (¬ run → Settled (ifMasked f.cw (bothResults Ext.indefinite Ext.indefinite)) (stackFlags (!f.isEmpty 0)) f (summarised g)) ∧
    (run → Far (f.st 0) → Loose id f (summarised g) ∧ (summarised g).sw.c2 = true) ∧
    (run → ¬ Far (f.st 0) →
      Loose id f (summarised g) ∨ ∃ v w, Loose (bothResults v w) f (summarised g) ∧ (summarised g).sw.c2 = false) ∧
    (run → allMasked f → ¬ Far (f.st 0) → ∃ v w, Loose (bothResults v w) f (summarised g) ∧ (summarised g).sw.c2 = false ∧
      (Ext.cls (f.st 0) = .inf → v = Ext.indefinite ∧ (summarised g).sw.ie = true) ∧
      (Ext.cls (f.st 0) = .zero → v = f.st 0 ∧ w = Ext.one false) ∧
      ((∀ m, S f.cw (f.st 0) m → m.res = some (Ext.one false)) → Ext.cls (f.st 0) = .normal ∨ Ext.cls (f.st 0) = .denormal → w = Ext.one false)) := by
  refine ⟨fun hr => settled_of_opened (h.fault hr), fun hr hfar => (h.far hr hfar).loose, fun hr hfar => ?_, fun hr hall hfar => ?_⟩
  · cases hnan : nanCase1 f.cw (f.st 0) with
    | some n => exact (Outcome.loose (fun v => bothResults_movesTop v v) (h.nan n hnan hr)).imp_right fun ⟨v, hloose, hc2⟩ => ⟨v, v, hloose, hc2 rfl⟩
    | none =>
      obtain ⟨n, m, all, snd, -, -, -, hout⟩ := h.near hr hnan hfar
      exact (Outcome.loose (fun v => bothResults_movesTop v (snd v)) hout).imp_right fun ⟨v, hloose, hc2⟩ => ⟨v, snd v, hloose, hc2 rfl⟩
  · have hm := masked_of_all hall
    cases hnan : nanCase1 f.cw (f.st 0) with
    | some n =>
      have hfinite (hx : nanCase1 f.cw (f.st 0) = none) {P : Prop} : P := by
        rw [hnan] at hx
        cases hx
      obtain ⟨v, hv⟩ := Option.isSome_iff_exists.mp (nanCase_isSome hm hnan)
      obtain ⟨hloose, hc2, -⟩ := Outcome.loose_of_some (fun v => bothResults_movesTop v v) (h.nan n hnan hr) hv
      exact ⟨v, v, hloose, hc2 rfl, fun hc => hfinite (nanCase1_inf hc), fun hc => hfinite (nanCase1_finite _ (.inl hc)),
        fun _ hc => hfinite (nanCase1_finite _ (hc.elim (fun hc => .inr (.inr hc)) fun hc => .inr (.inl hc)))⟩
    | none =>
      obtain ⟨n, m, all, snd, hn, hS', hpair, hout⟩ := h.near hr hnan hfar
      obtain ⟨v, hv⟩ := Option.isSome_iff_exists.mp (hn.isSome hm nofun)
      obtain ⟨hloose, hc2, hie, -⟩ := Outcome.loose_of_some (fun v => bothResults_movesTop v (snd v)) hout (hpair.res_eq.trans hv)
      refine ⟨v, snd v, hloose, hc2 rfl, fun hc => ?_, fun hc => ⟨?_, ?_⟩, fun hone hc => ?_⟩
      · obtain ⟨hres, hi⟩ := hn.invalid hm rfl (trigCase_inf hc)
        exact ⟨Option.some.inj (hv.symm.trans hres), hie (hpair.ie_eq.trans hi)⟩
      · exact Option.some.inj (hv.symm.trans (hn.exact hm rfl (trigCase_zero hc)))
      · exact hpair.snd_eq (by rw [trigCase_zero hc]; nofun) v _ (hS _ m hm hS' hc)
      · exact hpair.snd_eq (by rw [trigCase_general hc hfar]; nofun) v _ (hone m hS')

/-- An operand in range gives the unit's result and the second one. -/
theorem TrigPushDone.general {v w : Ext} (h : TrigPushDone u S f g) (hrun : f.isEmpty 0 = false ∧ f.isEmpty 7 = true) (hall : allMasked f)
    (hx : Ext.cls (f.st 0) = .normal) (hfar : ¬ Far (f.st 0)) (hv : (Machine.Num.ofRounded f.cw u).res = some v)
    (hw : ∀ m, S f.cw (f.st 0) m → m.res = some w) : Loose (bothResults v w) f (summarised g) := by
  obtain ⟨n, m, all, snd, hn, hS, hpair, hout⟩ := h.near hrun (nanCase1_finite _ (.inr (.inr hx))) hfar
  have hc : trigCase (fun z => z) (f.st 0) = .general := trigCase_general (.inl hx) hfar
  have hres := hpair.res_eq.trans ((hn.general (masked_of_all hall) rfl hc).trans hv)
  have hsnd := hpair.snd_eq (by rw [hc]; nofun) v w (hw m hS)
  exact hsnd ▸ (Outcome.loose_of_some (fun v => bothResults_movesTop v (snd v)) hout hres).1

end

end Sys2Proof.Laws

end
end

section
/-! What F2XM1, FPATAN, FYL2X and FYL2XP1 leave, in the words of the claim (48_fpu_instructions.md R1148 to R1151). -/

noncomputable section

namespace Sys2Proof.Laws

open Sys2Proof Sys2Proof.Machine Sys2Proof.Claims

/-! ## F2XM1 -/

section
variable {u : RoundedReal} {f g : Fpu}

theorem cls_inf_of_eq {x : Ext} {b : Bool} (h : x = Ext.inf b) : Ext.cls x = .inf := h ▸ cls_inf b

theorem F2xm1Done.claims (h : F2xm1Done u f g) :
    (f.isEmpty 0 = true → Settled (ifMasked f.cw fun g => g.setSt 0 Ext.indefinite) (stackFlags false) f (summarised g)) ∧
    (f.isEmpty 0 = false → Loose id f (summarised g) ∨ ∃ v, Loose (fun g => g.setSt 0 v) f (summarised g)) ∧
    (f.isEmpty 0 = false → allMasked f → ∃ v, Loose (fun g => g.setSt 0 v) f (summarised g) ∧
      (Ext.cls (f.st 0) = .zero ∨ f.st 0 = Ext.inf false → v = f.st 0) ∧ (f.st 0 = Ext.inf true → v = Ext.one true)) := by
  refine ⟨fun h0 => settled_of_opened (h.empty h0), fun h0 => ?_, fun h0 hall => ?_⟩
  · obtain ⟨n, -, hout⟩ := h.full h0
    exact (Outcome.loose setSt_movesTop hout).imp_right fun ⟨v, hloose, _⟩ => ⟨v, hloose⟩
  · obtain ⟨n, hn, hout⟩ := h.full h0
    have hm := masked_of_all hall
    obtain ⟨v, hv⟩ := Option.isSome_iff_exists.mp (hn.isSome hm fun _ => nanCase_isSome hm)
    have hexact {w : Ext} (hnan : nanCase1 f.cw (f.st 0) = none) (hc : f2xm1Case (f.st 0) = .exact w) : v = w :=
      Option.some.inj (hv.symm.trans (hn.exact hm hnan hc))
    refine ⟨v, (Outcome.loose_of_some setSt_movesTop hout hv).1, fun hc => ?_, fun hc => ?_⟩
    · rcases hc with hc | hc
      · exact hexact (nanCase1_finite _ (.inl hc)) (by rw [f2xm1Case, hc])
      · exact hexact (nanCase1_inf (cls_inf_of_eq hc)) (by rw [hc]; rfl)
    · exact hexact (nanCase1_inf (cls_inf_of_eq hc)) (by rw [hc]; rfl)

theorem F2xm1Done.general {v : Ext} (h : F2xm1Done u f g) (h0 : f.isEmpty 0 = false) (hall : allMasked f) (hx : Ext.cls (f.st 0) = .normal)
    (hbe : Ext.be (f.st 0) < 16383) (hv : (Machine.Num.ofRounded f.cw u).res = some v) : Loose (fun g => g.setSt 0 v) f (summarised g) := by
  obtain ⟨n, hn, hout⟩ := h.full h0
  have hc : f2xm1Case (f.st 0) = .general := by
    have htop : (Ext.dy (f.st 0)).top < 0 := by rw [top_normal hx]; omega
    rw [f2xm1Case, hx]
    exact if_pos htop
  have hres := hn.general (masked_of_all hall) (nanCase1_finite _ (.inr (.inr hx))) hc
  exact (Outcome.loose_of_some setSt_movesTop hout (hres.trans hv)).1

end

/-! ## Two operands -/

/-- A number or infinite. -/
def NoNan (x : Ext) : Prop := finiteCls x ∨ Ext.cls x = .inf

theorem nanPair_none {cw : Half} {tie : Bool} {x y : Ext} (hx : NoNan x) (hy : NoNan y) : nanPair cw tie x y = none := by
  rw [nanPair, nanCase_none hx hy]
  rfl

section
variable {case : Ext → Ext → TCase} {u : RoundedReal} {f g : Fpu}

theorem TransPopDone.claims (h : TransPopDone case u f g) :
    let run := f.isEmpty 0 = false ∧ f.isEmpty 1 = false
    (¬ run → Settled (ifMasked f.cw (putPop Ext.indefinite)) (stackFlags false) f (summarised g)) ∧
    (run → Loose id f (summarised g) ∨ ∃ v, Loose (putPop v) f (summarised g)) ∧
    (run → allMasked f → ∃ v, Loose (putPop v) f (summarised g) ∧ (NoNan (f.st 0) → NoNan (f.st 1) →
      (∀ w, case (f.st 1) (f.st 0) = .exact w → v = w) ∧
      (case (f.st 1) (f.st 0) = .invalid → v = Ext.indefinite ∧ (summarised g).sw.ie = true) ∧
      (∀ b, case (f.st 1) (f.st 0) = .zeroDivide b → v = Ext.inf b ∧ (summarised g).sw.ze = true))) := by
  refine ⟨fun hr => settled_of_opened (h.fault hr), fun hr => ?_, fun hr hall => ?_⟩
  · obtain ⟨tie, n, -, hout⟩ := h.full hr
    exact (Outcome.loose putPop_movesTop hout).imp_right fun ⟨v, hloose, _⟩ => ⟨v, hloose⟩
  · obtain ⟨tie, n, hn, hout⟩ := h.full hr
    have hm := masked_of_all hall
    have hnan (m : Machine.Num) (hnp : nanPair f.cw tie (f.st 0) (f.st 1) = some m) : m.res.isSome = true := by
      obtain ⟨k, hk, rfl⟩ := Option.map_eq_some_iff.mp hnp
      exact besideDenormal_isSome hm (nanCase_isSome hm hk)
    obtain ⟨v, hv⟩ := Option.isSome_iff_exists.mp (hn.isSome hm hnan)
    obtain ⟨hloose, -, hie, hze⟩ := Outcome.loose_of_some putPop_movesTop hout hv
    refine ⟨v, hloose, fun hx hy => ⟨fun w hc => ?_, fun hc => ?_, fun b hc => ?_⟩⟩
    · exact Option.some.inj (hv.symm.trans (hn.exact hm (nanPair_none hx hy) hc))
    · obtain ⟨hres, hi⟩ := hn.invalid hm (nanPair_none hx hy) hc
      exact ⟨Option.some.inj (hv.symm.trans hres), hie hi⟩
    · obtain ⟨hres, hz⟩ := hn.zeroDivide hm (nanPair_none hx hy) hc
      exact ⟨Option.some.inj (hv.symm.trans hres), hze hz⟩

section
variable (h : TransPopDone case u f g) (hrun : f.isEmpty 0 = false ∧ f.isEmpty 1 = false) (hall : allMasked f) (hx : NoNan (f.st 0)) (hy : NoNan (f.st 1))
include h hrun hall hx hy

theorem TransPopDone.general {v : Ext} (hc : case (f.st 1) (f.st 0) = .general) (hv : (Machine.Num.ofRounded f.cw u).res = some v) :
    Loose (putPop v) f (summarised g) := by
  obtain ⟨tie, n, hn, hout⟩ := h.full hrun
  exact (Outcome.loose_of_some putPop_movesTop hout ((hn.general (masked_of_all hall) (nanPair_none hx hy) hc).trans hv)).1

theorem TransPopDone.zeroFree (hc : case (f.st 1) (f.st 0) = .zeroFree) : ∃ v, Loose (putPop v) f (summarised g) := by
  obtain ⟨tie, n, hn, hout⟩ := h.full hrun
  obtain ⟨v, hv⟩ := hn.zeroFree (masked_of_all hall) (nanPair_none hx hy) hc
  exact ⟨v, (Outcome.loose_of_some putPop_movesTop hout hv).1⟩

end

end

/-! ## The cases of the two-operand functions -/

section
variable {x y : Ext}

theorem cls_one (b : Bool) : Ext.cls (Ext.one b) = .normal := by cases b <;> rfl

theorem one_ne_inf (b : Bool) : Ext.cls (Ext.one b) ≠ .inf := by rw [cls_one]; nofun

theorem fpatanCase_zero (hy : Ext.cls y = .zero) (hx : Ext.cls x = .normal ∨ Ext.cls x = .zero) (hn : Ext.neg x = false) :
    fpatanCase y x = .exact (Ext.zero (Ext.neg y)) := by
  rcases hx with hx | hx <;> rw [fpatanCase, hy, hx] <;> exact if_neg (by rw [hn]; exact Bool.false_ne_true)

theorem fpatanCase_general (hy : Ext.cls y = .normal) (hx : Ext.cls x = .normal) : fpatanCase y x = .general := by rw [fpatanCase, hy, hx]

theorem fyl2xCase_zero (hy : Ext.cls y = .normal) (hx : Ext.cls x = .zero) : fyl2xCase y x = .zeroDivide (!Ext.neg y) := by
  rw [fyl2xCase, hy, hx]

theorem fyl2xCase_neg (hy : Ext.cls y = .normal) (hx : Ext.cls x = .normal) (hn : Ext.neg x = true) : fyl2xCase y x = .invalid := by
  rw [fyl2xCase, hy, hx]
  exact if_pos hn

/-- The logarithm of a positive number is 0 for 1 alone. -/
theorem fyl2xCase_pos (hy : Ext.cls y = .normal) (hx : Ext.cls x = .normal) (hn : Ext.neg x = false) :
    fyl2xCase y x = if realOf x = 1 then .zeroFree else .general := by
  have hcmp := compareExt_finite (x := x) (y := Ext.one false) (by rw [hx]; nofun) (one_ne_inf false)
  rw [realOf_one, sign, if_neg Bool.false_ne_true] at hcmp
  rw [fyl2xCase, hy, hx]
  dsimp only
  rw [hn, if_neg Bool.false_ne_true, hcmp]
  by_cases h1 : realOf x = 1
  · rw [if_pos h1, if_pos h1]
  · rw [if_neg h1, if_neg h1]
    by_cases hlt : realOf x < 1
    · rw [if_pos hlt]
    · rw [if_neg hlt]

theorem fyl2xp1Case_zero (hy : Ext.cls y = .normal) (hx : Ext.cls x = .zero) : fyl2xp1Case y x = .exact (Ext.zero (Ext.neg x != Ext.neg y)) := by
  rw [fyl2xp1Case, hy, hx]

/-- Above minus one. -/
theorem compareExt_above (hx : Ext.cls x = .normal) (hgt : -1 < realOf x) : compareExt x (Ext.one true) = .gt := by
  rw [compareExt_finite (by rw [hx]; nofun) (one_ne_inf true), realOf_one, sign, if_pos rfl, if_neg hgt.ne', if_neg (not_lt.mpr hgt.le)]

theorem fyl2xp1Case_inf (hy : Ext.cls y = .inf) (hx : x = Ext.inf false ∨ (Ext.cls x = .normal ∧ Ext.neg x = false)) : fyl2xp1Case y x = .exact y := by
  have hinf : Ext.inf (Ext.neg y) = y := (eq_inf hy rfl).symm
  rcases hx with rfl | ⟨hx, hn⟩
  · rw [fyl2xp1Case, hy, cls_inf]
    have hpos : Ext.neg (Ext.inf false) = false := neg_mk _ _ _
    dsimp only
    rw [hpos, if_neg Bool.false_ne_true, hinf]
  · have hgt : -1 < realOf x := by
      have := realOf_sign x
      rw [hn, sign, if_neg Bool.false_ne_true, one_mul] at this
      rw [this]
      linarith [abs_nonneg (realOf x)]
    rw [fyl2xp1Case, hy, hx]
    dsimp only
    rw [compareExt_above hx hgt]
    dsimp only
    rw [hn, Bool.false_bne, hinf]

theorem fyl2xp1Case_general (hy : Ext.cls y = .normal) (hx : Ext.cls x = .normal) (hlow : -(1 - √2 / 2) < realOf x) (hhigh : realOf x < √2 - 1) :
    fyl2xp1Case y x = .general := by
  have hx0 : realOf x ≠ 0 := fun h => by
    rw [← cls_zero_iff_realOf (.inr (.inr hx)), hx] at h
    cases h
  have hgt : -1 < realOf x := by linarith [Real.sqrt_nonneg 2]
  rw [fyl2xp1Case, hy, hx]
  dsimp only
  rw [compareExt_above hx hgt]
  dsimp only
  rw [yl2xp1Range_of hx0 hlow hhigh]
  rfl

end

end Sys2Proof.Laws

end
end

section
/-! O44: the transcendental instructions (48_fpu_instructions.md R1145 to R1151, 47_fpu_numerics.md R1034). -/

noncomputable section

namespace Sys2Proof.Laws

open Sys2Proof Sys2Proof.Machine Sys2Proof.Claims

/-! ## In the state a step runs the instruction in -/

theorem regPtrs_withUnit (i : Instr) (s : State) (fds : Half) (fdp : Word) : regPtrs (withUnit i s) fds fdp = regPtrs s fds fdp := by
  unfold withUnit
  split <;> rfl

theorem fpuOn_withUnit {i : Instr} {s : State} (h : fpuOn s) : fpuOn (withUnit i s) := by
  unfold withUnit
  split <;> exact h

/-- The instruction, the unit's results in its latch, leaves the registers as `k` says. -/
def LeavesBy (i : Instr) (s : State) (k : Fpu → Fpu) : Prop := ∃ (fds : Half) (fdp : Word) (f : Fpu) (n : Nat),
  Ran i (withUnit i s) { (withUnit i s).enter with fpu := f, draws := n } ∧ Loose k (regPtrs s fds fdp) f

/-- From what the body makes of the FPU with the pointers set. -/
theorem leavesBy_of_body {i : Instr} {s : State} {body : M Unit} {P : Fpu → Fpu → Prop} {k : Fpu → Fpu} (hon : fpuOn s)
    (hi : exec i (withUnit i s) = runInstr (escReg body) (withUnit i s)) (hbody : ∀ f, At (withUnit i s).enter f body fun _ g => P f g)
    (hk : ∀ fds fdp g, P (regPtrs s fds fdp) g → Loose k (regPtrs s fds fdp) (summarised g)) : LeavesBy i s k := by
  obtain ⟨fds, fdp, g, n, hran, hP⟩ := ran_reg_at (fpuOn_withUnit hon) hi hbody
  rw [regPtrs_withUnit] at hP
  exact ⟨fds, fdp, _, n, hran, hk fds fdp g hP⟩

/-! ## The error bound -/

theorem exactReal_of_one {d : Reduction} {t : Transcendental} (ht : hasTwo t = false) (x y z : ℝ) : exactReal d t x y = exactReal d t x z := by
  cases t with
  | fpatan => cases ht
  | fyl2x => cases ht
  | fyl2xp1 => cases ht
  | f2xm1 => rfl
  | fsin => rfl
  | fcos => rfl
  | fptan => rfl

section
variable {d : Reduction} (hd : AccurateBy d unitResult)
include hd

theorem unit_near (t : Transcendental) (cw : Half) (x y : Ext) :
    ∃ v, (Machine.Num.ofRounded cw (unitResult t (cwRc cw) x y)).res = some v ∧ Near (cwRc cw) (exactReal d t (realOf x) (realOf y)) v := by
  obtain ⟨hclose, -⟩ := hd t (cwRc cw) x y
  rw [extReal_eq, extReal_eq] at hclose
  exact near_ofRounded hclose

/-- The functions of one operand: the second one has no part in it. -/
theorem unit_near_one {t : Transcendental} (ht : hasTwo t = false) (cw : Half) (x z y : Ext) :
    ∃ v, (Machine.Num.ofRounded cw (unitResult t (cwRc cw) x z)).res = some v ∧ Near (cwRc cw) (exactReal d t (realOf x) (realOf y)) v := by
  rw [exactReal_of_one ht (realOf x) (realOf y) (realOf z)]
  exact unit_near hd t cw x z

variable {s : State} (hon : fpuOn s) (hall : allMasked s.fpu) (h0 : s.fpu.isEmpty 0 = false) (hx : Ext.cls (s.fpu.st 0) = .normal)
include hon hall h0 hx

theorem trig_leaves (hbe : Ext.be (s.fpu.st 0) < 16383 + 63) :
    (∃ v, Near (cwRc s.fpu.cw) (exactReal d .fsin (realOf (s.fpu.st 0)) (realOf (s.fpu.st 1))) v ∧ LeavesBy .fsin s fun g => g.setSt 0 v) ∧
    (∃ v, Near (cwRc s.fpu.cw) (exactReal d .fcos (realOf (s.fpu.st 0)) (realOf (s.fpu.st 1))) v ∧ LeavesBy .fcos s fun g => g.setSt 0 v) := by
  have hfar : ¬ Far (s.fpu.st 0) := fun h => absurd h.2 (Nat.not_le.mpr hbe)
  constructor
  · obtain ⟨v, hv, hnear⟩ := unit_near_one hd (t := .fsin) rfl s.fpu.cw (s.fpu.st 0) 0 (s.fpu.st 1)
    exact ⟨v, hnear, leavesBy_of_body (i := .fsin) hon rfl (trig_at (fun z => z) _) fun fds fdp g h => h.general h0 hall hx hfar hv⟩
  · obtain ⟨v, hv, hnear⟩ := unit_near_one hd (t := .fcos) rfl s.fpu.cw (s.fpu.st 0) 0 (s.fpu.st 1)
    exact ⟨v, hnear, leavesBy_of_body (i := .fcos) hon rfl (trig_at (fun _ => Ext.one false) _) fun fds fdp g h => h.general h0 hall hx hfar hv⟩

theorem trigPush_leaves (hbe : Ext.be (s.fpu.st 0) < 16383 + 63) (h7 : s.fpu.isEmpty 7 = true) :
    (∃ v w, Near (cwRc s.fpu.cw) (exactReal d .fsin (realOf (s.fpu.st 0)) (realOf (s.fpu.st 1))) v ∧
      Near (cwRc s.fpu.cw) (exactReal d .fcos (realOf (s.fpu.st 0)) (realOf (s.fpu.st 1))) w ∧ LeavesBy .fsincos s (bothResults v w)) ∧
    ∃ v, Near (cwRc s.fpu.cw) (exactReal d .fptan (realOf (s.fpu.st 0)) (realOf (s.fpu.st 1))) v ∧
      LeavesBy .fptan s (bothResults v (Ext.one false)) := by
  have hfar : ¬ Far (s.fpu.st 0) := fun h => absurd h.2 (Nat.not_le.mpr hbe)
  constructor
  · obtain ⟨v, hv, hnear⟩ := unit_near_one hd (t := .fsin) rfl s.fpu.cw (s.fpu.st 0) (Ext.one false) (s.fpu.st 1)
    obtain ⟨w, hw, hnear'⟩ := unit_near_one hd (t := .fcos) rfl s.fpu.cw (s.fpu.st 0) (Ext.one false) (s.fpu.st 1)
    refine ⟨v, w, hnear, hnear', leavesBy_of_body (i := .fsincos) hon rfl (fun f => trigPush_at (cosOf_at _ f)) fun fds fdp g h =>
      h.general ⟨h0, h7⟩ hall hx hfar hv fun m hm => ?_⟩
    exact (TransNum.general (masked_of_all hall) hm rfl (trigCase_general (.inl hx) hfar)).trans hw
  · obtain ⟨v, hv, hnear⟩ := unit_near_one hd (t := .fptan) rfl s.fpu.cw (s.fpu.st 0) 0 (s.fpu.st 1)
    exact ⟨v, hnear, leavesBy_of_body (i := .fptan) hon rfl (fun f => trigPush_at (oneOf_at _ f)) fun fds fdp g h =>
      h.general ⟨h0, h7⟩ hall hx hfar hv fun m hm => congrArg Machine.Num.res hm⟩

theorem f2xm1_leaves (hbe : Ext.be (s.fpu.st 0) < 16383) :
    ∃ v, Near (cwRc s.fpu.cw) (exactReal d .f2xm1 (realOf (s.fpu.st 0)) (realOf (s.fpu.st 1))) v ∧ LeavesBy .f2xm1 s fun g => g.setSt 0 v := by
  obtain ⟨v, hv, hnear⟩ := unit_near_one hd (t := .f2xm1) rfl s.fpu.cw (s.fpu.st 0) 0 (s.fpu.st 1)
  exact ⟨v, hnear, leavesBy_of_body (i := .f2xm1) hon rfl (f2xm1_at _) fun fds fdp g h => h.general h0 hall hx hbe hv⟩

variable (h1 : s.fpu.isEmpty 1 = false) (hy : Ext.cls (s.fpu.st 1) = .normal)
include h1 hy

theorem fpatan_leaves :
    ∃ v, Near (cwRc s.fpu.cw) (exactReal d .fpatan (realOf (s.fpu.st 0)) (realOf (s.fpu.st 1))) v ∧ LeavesBy .fpatan s (putPop v) := by
  obtain ⟨v, hv, hnear⟩ := unit_near hd .fpatan s.fpu.cw (s.fpu.st 0) (s.fpu.st 1)
  exact ⟨v, hnear, leavesBy_of_body (i := .fpatan) hon rfl (transPop_at fpatanCase _) fun fds fdp g h =>
    h.general ⟨h0, h1⟩ hall (.inl (.inr (.inr hx))) (.inl (.inr (.inr hy))) (fpatanCase_general hy hx) hv⟩

theorem fyl2x_leaves (hn : Ext.neg (s.fpu.st 0) = false) :
    ∃ v, Near (cwRc s.fpu.cw) (exactReal d .fyl2x (realOf (s.fpu.st 0)) (realOf (s.fpu.st 1))) v ∧ LeavesBy .fyl2x s (putPop v) := by
  have hcase := fyl2xCase_pos hy hx hn
  by_cases hone : realOf (s.fpu.st 0) = 1
  · -- the logarithm is 0, of which no result need be near
    rw [if_pos hone] at hcase
    have hnear (v : Ext) : Near (cwRc s.fpu.cw) (exactReal d .fyl2x (realOf (s.fpu.st 0)) (realOf (s.fpu.st 1))) v := fun hlow _ => by
      have hzero : exactReal d .fyl2x (realOf (s.fpu.st 0)) (realOf (s.fpu.st 1)) = 0 := by
        show realOf (s.fpu.st 1) * Real.logb 2 (realOf (s.fpu.st 0)) = 0
        rw [hone, Real.logb_one, mul_zero]
      rw [hzero, abs_zero] at hlow
      exact absurd hlow (not_le.mpr (by positivity))
    obtain ⟨fds, fdp, g, n, hran, h⟩ := ran_reg_at (s := withUnit .fyl2x s) (i := .fyl2x) (fpuOn_withUnit hon) rfl (transPop_at fyl2xCase _)
    rw [regPtrs_withUnit] at h
    obtain ⟨v, hv⟩ := h.zeroFree ⟨h0, h1⟩ hall (.inl (.inr (.inr hx))) (.inl (.inr (.inr hy))) hcase
    exact ⟨v, hnear v, fds, fdp, _, n, hran, hv⟩
  · rw [if_neg hone] at hcase
    obtain ⟨v, hv, hnear⟩ := unit_near hd .fyl2x s.fpu.cw (s.fpu.st 0) (s.fpu.st 1)
    exact ⟨v, hnear, leavesBy_of_body (i := .fyl2x) hon rfl (transPop_at fyl2xCase _) fun fds fdp g h =>
      h.general ⟨h0, h1⟩ hall (.inl (.inr (.inr hx))) (.inl (.inr (.inr hy))) hcase hv⟩

theorem fyl2xp1_leaves (hlow : -(1 - √2 / 2) < realOf (s.fpu.st 0)) (hhigh : realOf (s.fpu.st 0) < √2 - 1) :
    ∃ v, Near (cwRc s.fpu.cw) (exactReal d .fyl2xp1 (realOf (s.fpu.st 0)) (realOf (s.fpu.st 1))) v ∧ LeavesBy .fyl2xp1 s (putPop v) := by
  obtain ⟨v, hv, hnear⟩ := unit_near hd .fyl2xp1 s.fpu.cw (s.fpu.st 0) (s.fpu.st 1)
  exact ⟨v, hnear, leavesBy_of_body (i := .fyl2xp1) hon rfl (transPop_at fyl2xp1Case _) fun fds fdp g h =>
    h.general ⟨h0, h1⟩ hall (.inl (.inr (.inr hx))) (.inl (.inr (.inr hy))) (fyl2xp1Case_general hy hx hlow hhigh) hv⟩

end

/-- Settles O44: what each body makes of the FPU, and the bound of `unitResult_accurate` for the results of the unit. -/
theorem floatTranscendental : Obligations.FloatTranscendental := by
  unfold Obligations.FloatTranscendental
  refine ⟨fun s hon => ⟨?_, ?_, ?_, ?_⟩, ?_⟩
  · simp only [List.forall_mem_cons, List.not_mem_nil, false_implies, implies_true, and_true]
    constructor
    · obtain ⟨fds, fdp, g, n, hran, h⟩ := ran_reg_at hon (show exec .fsin s = _ from rfl) (trig_at (fun z => z) s.enter)
      exact ⟨fds, fdp, _, n, hran, h.claims⟩
    · obtain ⟨fds, fdp, g, n, hran, h⟩ := ran_reg_at hon (show exec .fcos s = _ from rfl) (trig_at (fun _ => Ext.one false) s.enter)
      exact ⟨fds, fdp, _, n, hran, h.claims⟩
  · simp only [List.forall_mem_cons, List.not_mem_nil, false_implies, implies_true, and_true]
    constructor
    · obtain ⟨fds, fdp, g, n, hran, h⟩ := ran_reg_at hon (show exec .fsincos s = _ from rfl) fun f => trigPush_at (cosOf_at s.enter f)
      obtain ⟨hfault, hfar, hloose, hall⟩ := h.claims fun x m hm hS hc => TransNum.exact hm hS rfl (trigCase_zero hc)
      refine ⟨fds, fdp, _, n, hran, hfault, hfar, hloose, fun hr hm hn => ?_⟩
      obtain ⟨v, w, hvw, hc2, hinf, hzero, -⟩ := hall hr hm hn
      exact ⟨v, w, hvw, hc2, hinf, hzero, nofun⟩
    · obtain ⟨fds, fdp, g, n, hran, h⟩ := ran_reg_at hon (show exec .fptan s = _ from rfl) fun f => trigPush_at (oneOf_at s.enter f)
      have hone {cw : Half} {x : Ext} (m : Machine.Num) (hm : OneNum cw x m) : m.res = some (Ext.one false) := congrArg Machine.Num.res hm
      obtain ⟨hfault, hfar, hloose, hall⟩ := h.claims fun x m _ hS _ => hone m hS
      refine ⟨fds, fdp, _, n, hran, hfault, hfar, hloose, fun hr hm hn => ?_⟩
      obtain ⟨v, w, hvw, hc2, hinf, hzero, hnum⟩ := hall hr hm hn
      exact ⟨v, w, hvw, hc2, hinf, hzero, fun _ => hnum hone⟩
  · obtain ⟨fds, fdp, g, n, hran, h⟩ := ran_reg_at hon (show exec .f2xm1 s = _ from rfl) (f2xm1_at s.enter)
    exact ⟨fds, fdp, _, n, hran, h.claims⟩
  · simp only [List.forall_mem_cons, List.not_mem_nil, false_implies, implies_true, and_true]
    refine ⟨?_, ?_, ?_⟩
    · obtain ⟨fds, fdp, g, n, hran, h⟩ := ran_reg_at hon (show exec .fpatan s = _ from rfl) (transPop_at fpatanCase s.enter)
      obtain ⟨hfault, hloose, hall⟩ := h.claims
      refine ⟨fds, fdp, _, n, hran, hfault, hloose, fun hr hm => ?_⟩
      obtain ⟨v, hv, hcase⟩ := hall hr hm
      refine ⟨v, hv, nofun, nofun, nofun, nofun, fun _ hy hn hx => ?_⟩
      have hxn : NoNan ((regPtrs s fds fdp).st 0) := .inl (hx.elim (fun h => .inr (.inr h)) .inl)
      exact (hcase hxn (.inl (.inl hy))).1 _ (fpatanCase_zero hy hx hn)
    · obtain ⟨fds, fdp, g, n, hran, h⟩ := ran_reg_at hon (show exec .fyl2x s = _ from rfl) (transPop_at fyl2xCase s.enter)
      obtain ⟨hfault, hloose, hall⟩ := h.claims
      refine ⟨fds, fdp, _, n, hran, hfault, hloose, fun hr hm => ?_⟩
      obtain ⟨v, hv, hcase⟩ := hall hr hm
      refine ⟨v, hv, fun _ hy hx => ?_, fun _ hy hx hn => ?_, nofun, nofun, nofun⟩
      · exact (hcase (.inl (.inl hx)) (.inl (.inr (.inr hy)))).2.2 _ (fyl2xCase_zero hy hx)
      · exact (hcase (.inl (.inr (.inr hx))) (.inl (.inr (.inr hy)))).2.1 (fyl2xCase_neg hy hx hn)
    · obtain ⟨fds, fdp, g, n, hran, h⟩ := ran_reg_at hon (show exec .fyl2xp1 s = _ from rfl) (transPop_at fyl2xp1Case s.enter)
      obtain ⟨hfault, hloose, hall⟩ := h.claims
      refine ⟨fds, fdp, _, n, hran, hfault, hloose, fun hr hm => ?_⟩
      obtain ⟨v, hv, hcase⟩ := hall hr hm
      refine ⟨v, hv, nofun, nofun, fun _ hy hx => ?_, fun _ hy hx => ?_, nofun⟩
      · exact (hcase (.inl (.inl hx)) (.inl (.inr (.inr hy)))).1 _ (fyl2xp1Case_zero hy hx)
      · have hxn : NoNan ((regPtrs s fds fdp).st 0) := hx.elim (fun h => .inr (cls_inf_of_eq h)) fun h => .inl (.inr (.inr h.1))
        exact (hcase hxn (.inr hy)).1 _ (fyl2xp1Case_inf hy hx)
  · obtain ⟨d, hok, hd⟩ := unitResult_accurate
    refine ⟨d, hok, fun s hon hall h0 => ⟨fun hx hbe => ?_, fun hx hbe => f2xm1_leaves hd hon hall h0 hx hbe, fun h1 hx hy => ⟨?_, fun hn => ?_,
      fun hlow hhigh => ?_⟩⟩⟩
    · obtain ⟨hsin, hcos⟩ := trig_leaves hd hon hall h0 hx hbe
      exact ⟨hsin, hcos, trigPush_leaves hd hon hall h0 hx hbe⟩
    · exact fpatan_leaves hd hon hall h0 hx h1 hy
    · exact fyl2x_leaves hd hon hall h0 hx h1 hy hn
    · exact fyl2xp1_leaves hd hon hall h0 hx h1 hy hlow hhigh

end Sys2Proof.Laws

end
end
